-- ==== Sys2Proof/Word.lean ====
section
/-! DEFINITION. The byte, and the index types that number the part's objects (spec 00_scope.md, Numbering). -/

namespace Sys2Proof

/-- One byte of a loop, of a trunk or of a message. -/
abbrev Byte := BitVec 8

/-- Post loop 0 to 7; the loop controller and the feed supervisor share the number. -/
abbrev LoopId := Fin 8

/-- Bearer 0 to 3 of a loop; bearer b uses loop slot b + 2. -/
abbrev BearerId := Fin 4

/-- Call context 0 to 31; its player and its path state share the number. -/
abbrev CtxId := Fin 32

/-- Directory slot 0 to 95. -/
abbrev SlotId := Fin 96

/-- Zone 0 to 15. -/
abbrev ZoneId := Fin 16

/-- Route plan 0 to 3. -/
abbrev PlanId := Fin 4

/-- Prompt segment 0 to 15. -/
abbrev SegId := Fin 16

/-- Trunk voice channel: the value n stands for channel n + 1, which uses trunk slot n + 3. -/
abbrev ChanId := Fin 15

end Sys2Proof
end

