-- ==== Sys2Proof/Config.lean ====
section
/-! DEFINITION. What the part fixes once: levels, times, sizes, the settings table and the factory contents of
the prompt store. Times are counted in frames of 125 microseconds. The spec leaves no result of a command
undefined, so there is no free value here. -/

namespace Sys2Proof.Config

/-- Frames of 125 microseconds in a millisecond (00_scope.md, Time). -/
def framesPerMs : Nat := 8

/-- Frames of 125 microseconds in a second (00_scope.md, Time). -/
def framesPerSecond : Nat := 8000

/-- Trip level, mA (R27). -/
def tripLevel : Nat := 150

/-- Open threshold, mA (R27). -/
def openThreshold : Nat := 4

/-- Undervoltage threshold, tenths of a volt (R27). -/
def undervoltage : Nat := 420

/-- Restore threshold, tenths of a volt (R27). -/
def restoreLevel : Nat := 450

/-- Nominal cabinet supply, tenths of a volt (11.9). -/
def nominalSupply : Nat := 480

/-- Time of the trip filter, frames: 10 ms (R31). -/
def tripFrames : Nat := 80

/-- Time of the open timer, frames: 2 s (R34). -/
def openFrames : Nat := 16000

/-- Time of the restore timer, frames: 1 s (R36). -/
def restoreFrames : Nat := 8000

/-- Most messages a signalling transmit queue holds (R99). -/
def sigQueueMax : Nat := 64

/-- Samples of a level monitor block (R145). -/
def blockSamples : Nat := 160

/-- Largest value the gain stage produces (R137). -/
def sampleLimit : Nat := 3952

/-- Positions of the prompt store (R150). -/
def storeSize : Nat := 16384

/-- Body bytes of a REPLY part (R198). -/
def partBytes : Nat := 193

/-- Range and default of one setting parameter (R170). -/
structure ParamSpec where
  low  : Nat
  high : Nat
  dflt : Nat
  deriving DecidableEq, Repr, Inhabited

/-- The 25 setting parameters of R170, in number order. -/
def params : Vector ParamSpec 25 :=
  #v[⟨0, 65535, 0⟩, ⟨0, 15, 2⟩, ⟨1, 15, 4⟩, ⟨1, 15, 4⟩, ⟨1, 120, 10⟩,
     ⟨10, 600, 60⟩, ⟨10, 600, 120⟩, ⟨0, 255, 24⟩, ⟨50, 3000, 1500⟩, ⟨1, 60, 5⟩,
     ⟨10, 250, 40⟩, ⟨5, 100, 20⟩, ⟨1, 15, 5⟩, ⟨10, 3600, 300⟩, ⟨100, 5000, 500⟩,
     ⟨0, 15, 0⟩, ⟨0, 15, 0⟩, ⟨0, 15, 0⟩, ⟨0, 15, 0⟩, ⟨0, 15, 0⟩,
     ⟨0, 15, 0⟩, ⟨0, 15, 0⟩, ⟨0, 15, 0⟩, ⟨0, 15, 0⟩, ⟨0, 15, 0⟩]

/-- The eight codes of one millisecond of the factory tone (R150). -/
def factoryTone : Vector Byte 8 := #v[0x00, 0x56, 0x5F, 0x56, 0x80, 0xD6, 0xDF, 0xD6]

/-- Factory contents of a position of the prompt store (R150): tone to position 3999, then 0x00. -/
def factoryCode (p : Nat) : Byte :=
  if p < 4000 then factoryTone[p % 8]'(Nat.mod_lt p (by decide)) else 0x00

end Sys2Proof.Config
end

