-- ==== Sys2Proof/Syntax.lean ====
section
/-! DEFINITION. The commands of the part: one constructor of `Instr` for each row of spec/opcode_table.json,
with the operands the rule of the row gives, and the types those operands are made of. -/

namespace Sys2Proof

/-- The two trunks (00_scope.md, Numbering). -/
inductive Trunk where
  | A | B
  deriving DecidableEq, Repr, Inhabited

/-- The request class latched at a post (R6, R62). -/
inductive CallClass where
  | emergency | breakdown | service
  deriving DecidableEq, Repr, Inhabited

/-- The six loop states (R19, table of 1.6). -/
inductive LoopState where
  | off | unpowered | start | run | degraded | failed
  deriving DecidableEq, Repr, Inhabited

/-- The five feed states (02, table of 2.1). -/
inductive FeedState where
  | off | settling | on | tripped | supplyOff
  deriving DecidableEq, Repr, Inhabited

/-- The five trunk states (06, table of 6.3). -/
inductive TrunkState where
  | off | hunt | up | holdover | farFault
  deriving DecidableEq, Repr, Inhabited

/-- The tie of a chain map entry with its naming status (R44, R45): UNLISTED, or tied to a slot and
CONFIRMED (`true`) or UNCONFIRMED (`false`). An entry is tied to no record exactly when it is UNLISTED. -/
inductive Tie where
  | unlisted
  | listed (slot : SlotId) (confirmed : Bool)
  deriving DecidableEq, Repr, Inhabited

/-- The six sensor flags of a post's health byte; the seventh, RESTARTED, is set by a restart (R6). -/
inductive HealthFlag where
  | battery | handset | speaker | lamp | heater | tamper
  deriving DecidableEq, Repr, Inhabited

/-- The flags of the section fault record, in the order of R176. -/
inductive SectionFlag where
  | restarted | supply | contextsFull | badCheck | badLength | unknownType | overrun
  deriving DecidableEq, Repr, Inhabited

/-- The flags of a trunk fault record, in the order of R176. -/
inductive TrunkFlag where
  | alignLost | farAlarm | slip | holdoverExpired | sigError | sigUnknownCall
  deriving DecidableEq, Repr, Inhabited

/-- The flags of a loop fault record, in the order of R176. -/
inductive LoopFlag where
  | tripped | opn | scanTimeout | scanMalformed | failedEntered | chainChanged | unlistedSeen | absentSeen
  | overlong | unlistedFault
  deriving DecidableEq, Repr, Inhabited

/-- The flags of a post fault record, in the order of R176. -/
inductive PostFlag where
  | battery | handset | speaker | lamp | heater | tamper | restarted | refusedClass
  deriving DecidableEq, Repr, Inhabited

/-- A latch names a record and a flag of it (R177). -/
inductive Latch where
  | sect (f : SectionFlag)
  | trunk (t : Trunk) (f : TrunkFlag)
  | loop (l : LoopId) (f : LoopFlag)
  | post (slot : SlotId) (f : PostFlag)
  deriving DecidableEq, Repr

/-- A raise names a notice kind and an object of it (R181). A raise of CALL-ABANDONED for a loop carries the
seen position and the plate of the unlisted post. -/
inductive Raise where
  | restart
  | supply
  | feedTrip (l : LoopId)
  | loopState (l : LoopId)
  | trunkState (t : Trunk)
  | contextsFull
  | routeExhausted (z : ZoneId)
  | abandonedSlot (slot : SlotId)
  | abandonedLoop (l : LoopId) (position : Nat) (plate : Byte)
  | silentCall (c : CtxId)
  | holdLong (c : CtxId)
  | naming (l : LoopId)
  | postFault (slot : SlotId)
  deriving DecidableEq, Repr

/-- What comes back on the loop pair in one frame time (R1, R2). -/
inductive LoopReturn where
  /-- The ring carries the frame: `up` gives, for bearers 0 to 3, the code the microphone of the post on that
  bearer gives; scan bytes and forwarded slots come from the ring itself. -/
  | ring (up : List Byte)
  /-- These six bytes are received, whatever the ring would have returned (a cut, a disturbance, another phase). -/
  | bytes (received : List Byte)
  deriving DecidableEq, Repr

/-- A change of a post's bypass relay or of the posts of a ring (row BYPASS_RELAY_CHANGE; R4). `place` counts
the posts fitted in the ring, live or bypassed, from 0. -/
inductive RingChange where
  | losePower (place : Nat)
  | regainPower (place : Nat)
  /-- A post is fitted before place `place`, powered, with its plate code; `idleOk` is what its BEARER-OK reads
  while it is on no bearer and `loopback` whether its TEST passes, which the spec leaves to the post. -/
  | fit (place : Nat) (plate : Byte) (idleOk loopback : Bool)
  | remove (place : Nat)
  deriving DecidableEq, Repr

/-- One entry of a reconciliation result: the plate and the slot it was matched to (R47). -/
structure ResultEntry where
  plate : Byte
  slot  : Option SlotId
  deriving DecidableEq, Repr

/-- To which loop controller a structural write is reported (R59): the one of the record's loop before the
write, told whether the loop changed, or the one of the loop after it. -/
inductive WriteRole where
  | before (loopChanged : Bool)
  | after
  deriving DecidableEq, Repr

/-- An offer reference as a desk sends it: context number and offer generation (R193). -/
structure OfferRef where
  ctx : Byte
  gen : Byte
  deriving DecidableEq, Repr, Inhabited

/-- Why a service message is discarded (R161). `ownType`: its TYPE is one that the part itself sends (R161 step 2, R192). -/
inductive Discard where
  | badCheck | badLength | unknownType | ownType
  deriving DecidableEq, Repr

/-- The post record of a WRITE-TABLE DIRECTORY as its bytes give it, before the checks of R41 (R195). -/
structure PostWrite where
  valid       : Nat
  number      : Nat
  loop        : Nat
  position    : Nat
  plate       : Byte
  road        : Nat
  carriageway : Nat
  marker      : Nat
  zone        : Nat
  upGain      : Nat
  downGain    : Nat
  permits     : Nat
  label1      : List Byte
  label2      : List Byte
  deriving DecidableEq, Repr

/-- One target of a WRITE-TABLE ROUTE as its bytes give it (R195). -/
structure TargetWrite where
  trunk   : Nat
  group   : Nat
  timeout : Nat
  deriving DecidableEq, Repr

/-- The segment record of a WRITE-TABLE SEGMENT as its bytes give it (R195). -/
structure SegmentWrite where
  valid  : Nat
  start  : Nat
  length : Nat
  after  : Nat
  deriving DecidableEq, Repr

/-- A management request as it stands in a request buffer (R162, R166): the eleven request types with the
fields of R195. The trunk it came on is the buffer's. -/
inductive Request where
  | readStatus
  | readTable (table index : Nat)
  | writeDirectory (index : Nat) (w : PostWrite)
  | writeRoute (index : Nat) (targets : List TargetWrite)
  | writeSegment (index : Nat) (w : SegmentWrite)
  | writeSamples (index : Nat) (codes : List Byte)
  | writeSettings (index value : Nat)
  | writeMask (index enables : Nat)
  /-- A WRITE-TABLE whose table code names none of the six tables (R161, R169). -/
  | writeUnknown (table : Nat)
  | readMap (loop : Nat)
  | readCalls
  | readFault (kind index : Nat)
  | clearFault (kind index count flags : Nat)
  | loopControl (loop action : Nat)
  | trunkControl (trunk action chan : Nat)
  | setPlan (plan : Nat)
  | sectionRestart
  deriving DecidableEq, Repr

/-- The commands, one constructor for each row of spec/opcode_table.json. In the requests of the service
channel and of the desks, `t` is the trunk the message came on. -/
inductive Instr where
  | powerOn (supply : Nat)
  | loopFrame (l : LoopId) (ret : LoopReturn)
  | loopReceiveUnaligned (l : LoopId)
  | scanPick (l : LoopId)
  | scanReturn (l : LoopId)
  | scanTimeout (l : LoopId)
  | timeoutGuardEnd (l : LoopId)
  | pollTimerExpiry (l : LoopId)
  | sweepTimerExpiry (l : LoopId)
  | reconfirmTimerExpiry (l : LoopId)
  | reconciliation (l : LoopId) (handOver : Byte) (plates : List Byte)
  | resultInstall (l : LoopId) (handOver : Byte) (entries : List ResultEntry) (absent : List SlotId)
  | rebuildReport (l : LoopId) (epoch : Byte) (passes : List (Option (Nat × Tie))) (freed : List BearerId)
  | structuralWriteReport (l : LoopId) (slot : SlotId) (role : WriteRole)
  | invalidationReport (l : LoopId) (slot : SlotId)
  | directoryRelease (l : LoopId) (position : Nat)
  | feedStateReport (l : LoopId) (feed : FeedState) (desired : Bool)
  | settleTimerExpiry (l : LoopId)
  | loopCurrentChange (l : LoopId) (current : Nat)
  | feedTrip (l : LoopId)
  | openDetected (l : LoopId)
  | supplyLoss (level : Nat)
  | supplyLevelChange (level : Nat)
  | supplyRestore
  | requestReport (l : LoopId) (position : Nat) (cls : CallClass)
  | callerReport (l : LoopId) (position : Nat) (active : Bool)
  | bearerLiveReport (l : LoopId) (b : BearerId)
  | bearerFreeReport (l : LoopId) (b : BearerId)
  | loopStateReport (l : LoopId) (st : LoopState)
  | testFailReport (l : LoopId) (position : Nat)
  | retryTimerExpiry (c : CtxId)
  | offerTimeout (c : CtxId)
  | holdLong (c : CtxId)
  | answer (t : Trunk) (ref : OfferRef) (desk : Byte)
  | decline (t : Trunk) (ref : OfferRef)
  | hold (t : Trunk) (ref : OfferRef)
  | retrieve (t : Trunk) (ref : OfferRef)
  | join (t : Trunk) (ref : OfferRef)
  | leave (t : Trunk) (ref : OfferRef)
  | release (t : Trunk) (ref : OfferRef)
  | signallingMessageDiscard (t : Trunk)
  | trunkFrameSend (t : Trunk)
  | trunkFrameReceive (t : Trunk) (received : List Byte)
  | farAlarmAbsent (t : Trunk)
  | alignmentLost (t : Trunk)
  | holdoverExpiry (t : Trunk)
  | failover (t : Trunk)
  | trunkStateReport (t : Trunk) (st : TrunkState)
  | trunkControlEnable (t : Trunk) (trunk : Nat)
  | trunkControlDisable (t : Trunk) (trunk : Nat)
  | trunkControlBlock (t : Trunk) (trunk chan : Nat)
  | trunkControlUnblock (t : Trunk) (trunk chan : Nat)
  | levelBlockComplete (c : CtxId)
  | segmentEnd (c : CtxId)
  | serviceMessageDiscard (t : Trunk) (why : Discard)
  | serviceRequestBuffered (t : Trunk) (req : Request)
  | replyStart (t : Trunk)
  | replyComplete (t : Trunk)
  | noticeStart
  | faultLatch (latch : Latch)
  | noticeRaise (raise : Raise)
  | readStatus (t : Trunk)
  | readMap (t : Trunk) (loop : Nat)
  | readCalls (t : Trunk)
  | readFault (t : Trunk) (kind index : Nat)
  | clearFault (t : Trunk) (kind index count flags : Nat)
  | readTableDirectory (t : Trunk) (index : Nat)
  | readTableRoute (t : Trunk) (index : Nat)
  | readTableSegment (t : Trunk) (index : Nat)
  | readTableSamples (t : Trunk) (index : Nat)
  | readTableSettings (t : Trunk) (index : Nat)
  | readTableMask (t : Trunk) (index : Nat)
  | writeTableDirectory (t : Trunk) (index : Nat) (w : PostWrite)
  | writeTableRoute (t : Trunk) (index : Nat) (targets : List TargetWrite)
  | writeTableSegment (t : Trunk) (index : Nat) (w : SegmentWrite)
  | writeTableSamples (t : Trunk) (index : Nat) (codes : List Byte)
  | writeTableSettings (t : Trunk) (index value : Nat)
  | writeTableMask (t : Trunk) (index enables : Nat)
  | setPlan (t : Trunk) (plan : Nat)
  | loopControlFeedOn (t : Trunk) (loop : Nat)
  | loopControlFeedOff (t : Trunk) (loop : Nat)
  | loopControlRestart (t : Trunk) (loop : Nat)
  | loopControlTest (t : Trunk) (loop : Nat)
  | sectionRestart (t : Trunk)
  | callButtonPress (l : LoopId) (place : Nat) (cls : CallClass)
  | hookChange (l : LoopId) (place : Nat) (off : Bool)
  | doorSwitchChange (l : LoopId) (place : Nat) (opn : Bool)
  | healthFlagChange (l : LoopId) (place : Nat) (flag : HealthFlag) (on : Bool)
  | postPowerRestart (l : LoopId) (place : Nat)
  | bypassRelayChange (l : LoopId) (change : RingChange)
  deriving DecidableEq, Repr

end Sys2Proof
end

