-- ==== Sys2Proof/WellFormed.lean ====
section
/-! DEFINITION. Which commands are well formed: every operand fits the bytes that carry it (R191 to R195), the
frames have their length (R187, R188), and reports name positions a chain map can have (R44). A value that a
rule refuses with a result code (a slot above 95, a zone above 15) is well formed as long as it fits its
bytes: refusing it is the command's meaning. -/

namespace Sys2Proof

/-- A number that fits one byte. -/
def fits8 (n : Nat) : Bool := n < 256

/-- A number that fits two bytes. -/
def fits16 (n : Nat) : Bool := n < 65536

/-- A seen position (R44). -/
def isPosition (p : Nat) : Bool := 1 ≤ p && p ≤ 12

/-- The fields fit their bytes and the whole message fits a LENGTH of 200 (R191, R195). -/
def PostWrite.wf (w : PostWrite) : Bool :=
  fits8 w.valid && fits16 w.number && fits8 w.loop && fits8 w.position && fits16 w.road && fits8 w.carriageway &&
  fits16 w.marker && fits8 w.zone && fits8 w.upGain && fits8 w.downGain && fits8 w.permits &&
  w.label1.length + w.label2.length ≤ 180

/-- The fields of a target fit one byte each (R195). -/
def TargetWrite.wf (w : TargetWrite) : Bool := fits8 w.trunk && fits8 w.group && fits8 w.timeout

/-- The fields fit their bytes (R195). -/
def SegmentWrite.wf (w : SegmentWrite) : Bool :=
  fits8 w.valid && fits16 w.start && fits16 w.length && fits8 w.after

/-- The fields of a request fit the bytes of R195. -/
def Request.wf : Request → Bool
  | .readStatus => true
  | .readTable table index => fits8 table && fits8 index
  | .writeDirectory index w => fits8 index && w.wf
  | .writeRoute index targets => fits8 index && targets.all TargetWrite.wf && targets.length ≤ 65
  | .writeSegment index w => fits8 index && w.wf
  | .writeSamples index codes => fits8 index && codes.length == 64
  | .writeSettings index value => fits8 index && fits16 value
  | .writeMask index enables => fits8 index && fits16 enables
  | .writeUnknown table => fits8 table && 6 ≤ table
  | .readMap loop => fits8 loop
  | .readCalls => true
  | .readFault kind index => fits8 kind && fits8 index
  | .clearFault kind index count flags => fits8 kind && fits8 index && fits8 count && fits16 flags
  | .loopControl loop action => fits8 loop && fits8 action
  | .trunkControl trunk action chan => fits8 trunk && fits8 action && fits8 chan
  | .setPlan plan => fits8 plan
  | .sectionRestart => true

/-- Which commands are well formed. -/
def Instr.wf : Instr → Bool
  | .powerOn _ => true
  | .loopFrame _ (.ring up) => up.length == 4
  | .loopFrame _ (.bytes received) => received.length == 6
  | .loopReceiveUnaligned _ => true
  | .scanPick _ => true
  | .scanReturn _ => true
  | .scanTimeout _ => true
  | .timeoutGuardEnd _ => true
  | .pollTimerExpiry _ => true
  | .sweepTimerExpiry _ => true
  | .reconfirmTimerExpiry _ => true
  | .reconciliation _ _ plates => plates.length ≤ 12
  | .resultInstall _ _ entries absent => entries.length ≤ 12 && absent.length ≤ 12 && decide absent.Nodup
  | .rebuildReport _ _ passes freed =>
      passes.length ≤ 12 && passes.all (fun p => p.all (fun q => isPosition q.1)) && decide freed.Nodup
  | .structuralWriteReport _ _ _ => true
  | .invalidationReport _ _ => true
  | .directoryRelease _ position => isPosition position
  | .feedStateReport _ _ _ => true
  | .settleTimerExpiry _ => true
  | .loopCurrentChange _ _ => true
  | .feedTrip _ => true
  | .openDetected _ => true
  | .supplyLoss level => level < Config.undervoltage
  | .supplyLevelChange _ => true
  | .supplyRestore => true
  | .requestReport _ position _ => isPosition position
  | .callerReport _ position _ => isPosition position
  | .bearerLiveReport _ _ => true
  | .bearerFreeReport _ _ => true
  | .loopStateReport _ _ => true
  | .testFailReport _ position => isPosition position
  | .retryTimerExpiry _ => true
  | .offerTimeout _ => true
  | .holdLong _ => true
  | .answer _ _ _ => true
  | .decline _ _ => true
  | .hold _ _ => true
  | .retrieve _ _ => true
  | .join _ _ => true
  | .leave _ _ => true
  | .release _ _ => true
  | .signallingMessageDiscard _ => true
  | .trunkFrameSend _ => true
  | .trunkFrameReceive _ received => received.length == 18
  | .farAlarmAbsent _ => true
  | .alignmentLost _ => true
  | .holdoverExpiry _ => true
  | .failover _ => true
  | .trunkStateReport _ _ => true
  | .trunkControlEnable _ trunk => fits8 trunk
  | .trunkControlDisable _ trunk => fits8 trunk
  | .trunkControlBlock _ trunk chan => fits8 trunk && fits8 chan
  | .trunkControlUnblock _ trunk chan => fits8 trunk && fits8 chan
  | .levelBlockComplete _ => true
  | .segmentEnd _ => true
  | .serviceMessageDiscard _ _ => true
  | .serviceRequestBuffered _ req => req.wf
  | .replyStart _ => true
  | .replyComplete _ => true
  | .noticeStart => true
  | .faultLatch _ => true
  | .noticeRaise (.abandonedLoop _ position _) => isPosition position
  | .noticeRaise _ => true
  | .readStatus _ => true
  | .readMap _ loop => fits8 loop
  | .readCalls _ => true
  | .readFault _ kind index => fits8 kind && fits8 index
  | .clearFault _ kind index count flags => fits8 kind && fits8 index && fits8 count && fits16 flags
  | .readTableDirectory _ index => fits8 index
  | .readTableRoute _ index => fits8 index
  | .readTableSegment _ index => fits8 index
  | .readTableSamples _ index => fits8 index
  | .readTableSettings _ index => fits8 index
  | .readTableMask _ index => fits8 index
  | .writeTableDirectory _ index w => fits8 index && w.wf
  | .writeTableRoute _ index targets => fits8 index && targets.all TargetWrite.wf && targets.length ≤ 65
  | .writeTableSegment _ index w => fits8 index && w.wf
  | .writeTableSamples _ index codes => fits8 index && codes.length == 64
  | .writeTableSettings _ index value => fits8 index && fits16 value
  | .writeTableMask _ index enables => fits8 index && fits16 enables
  | .setPlan _ plan => fits8 plan
  | .loopControlFeedOn _ loop => fits8 loop
  | .loopControlFeedOff _ loop => fits8 loop
  | .loopControlRestart _ loop => fits8 loop
  | .loopControlTest _ loop => fits8 loop
  | .sectionRestart _ => true
  | .callButtonPress _ _ _ => true
  | .hookChange _ _ _ => true
  | .doorSwitchChange _ _ _ => true
  | .healthFlagChange _ _ _ _ => true
  | .postPowerRestart _ _ => true
  | .bypassRelayChange _ _ => true

end Sys2Proof
end

