-- ==== Sys2Proof/Decode.lean ====
section
/-! DEFINITION. The command that a word spells by the bits of spec/opcode_table.json. The table gives none of
its 90 rows any bits (its "fields" are empty and the reader counts no fixed bits, spec/98_reader.md), so no word
spells a command. The bytes of messages, which the spec does give, are read in Machine/Operands.lean. -/

namespace Sys2Proof

/-- No row of the table has bits, so no word spells a command. -/
def decodeTableWord (_nbits _w : Nat) : Option Instr := none

end Sys2Proof
end

