-- ==== Sys2Proof/Machine/State.lean ====
section
/-! DEFINITION. The state of the part as plain data, block by block, and the state after power-on. -/

namespace Sys2Proof.Machine

open Sys2Proof

/-- Why the machine could stop. The spec gives every row an effect, "no effect", a discard or a result code; its
faults are flags in State. So there is no reason, and no step faults. -/
inductive Fault where
  deriving DecidableEq, Repr

/-- Why a command could be refused. -/
inductive Refusal where
  /-- A command that has no meaning yet; raised by an arm of `exec` alone, and safe. No arm uses it. -/
  | notModelled (mnemonic : String)
  deriving DecidableEq, Repr

/-- A timer: stopped, running with so many frames left, or expired and not restarted (R11). -/
inductive Timer where
  | stopped
  | running (left : Nat)
  | expired
  deriving DecidableEq, Repr, Inhabited

/-! ### Posts and loops (01) -/

/-- The eight lamp states (R6). -/
inductive Lamp where
  | off | registered | connecting | connected | hold | cleared | refused | fault
  deriving DecidableEq, Repr, Inhabited

/-- What the part knows of the bearer a post is on (R7, confirmed bearer). -/
inductive Confirmed where
  | unknown
  | nobearer
  | on (b : BearerId)
  deriving DecidableEq, Repr, Inhabited

/-- A command for one post (R6). The part sends neither NOP nor RESET (R9). -/
inductive ScanCmd where
  | poll
  | ident
  | lamp (s : Lamp)
  | bearer (b : BearerId)
  | bearerRelease
  | ackReq
  | test
  deriving DecidableEq, Repr, Inhabited

/-- The command record of a chain map entry (R7). `roundOwed` (R13): the entry has not answered IDENT since the
open round opened. `callerNoted` (R78): the CALLER bit of the last used scan taken with STALE clear (log entry 15). -/
structure CmdRec where
  desiredLamp     : Lamp
  confirmedLamp   : Option Lamp
  desiredBearer   : Option BearerId
  confirmedBearer : Confirmed
  ackReq          : Bool
  identDue        : Bool
  healthDue       : Bool
  testDue         : Bool
  lastStatus      : Option Byte
  lastHealth      : Option Byte
  roundOwed       : Bool
  callerNoted     : Bool
  deriving DecidableEq, Repr, Inhabited

/-- One entry of a chain map with its command record (R44, R7); its seen position is its place in the list. -/
structure MapEntry where
  plate : Byte
  tie   : Tie
  cmd   : CmdRec
  deriving DecidableEq, Repr, Inhabited

/-- What the scheduler picked (R10). -/
inductive Purpose where
  | staleRound | urgentIdent | command | poll | sweep
  deriving DecidableEq, Repr, Inhabited

/-- The record of the scan in flight (R3); `marked` by a section restart (R18). -/
structure Flight where
  purpose : Purpose
  cmds    : List ScanCmd
  epoch   : Byte
  marked  : Bool
  deriving DecidableEq, Repr, Inhabited

/-- The four bearer states (R24). -/
inductive BearerState where
  | free | assigning | live | releasing
  deriving DecidableEq, Repr, Inhabited

/-- A bearer and the seen position of the entry it is tied to, 0 while FREE (R24). -/
structure Bearer where
  st    : BearerState
  entry : Nat
  deriving DecidableEq, Repr, Inhabited

/-- A loop controller (01). -/
structure Loop where
  state          : LoopState
  stale          : Bool
  flight         : Option Flight
  txLeft         : List Byte
  scanTimer      : Timer
  guard          : Timer
  guardSpan      : Nat
  aligned        : Bool
  missing        : Nat
  rxBuf          : List Byte
  rx             : List Byte
  rxDone         : Bool
  pollTimer      : Timer
  sweepTimer     : Timer
  reconfirmTimer : Timer
  attention      : Bool
  debt           : Nat
  roundOpen      : Bool
  errors         : Nat
  map            : List MapEntry
  absent         : List SlotId
  epoch          : Byte
  handOver       : Byte
  reconPending   : Bool
  bearers        : Vector Bearer 4
  sent           : List Byte
  deriving DecidableEq, Repr, Inhabited

/-- A post of a ring, as far as the part depends on it (R4, R6). `lamp` is absent after a restart. `assigned` is the
bearer that the last BEARER(b) gave, which BEARER(RELEASE) and a restart leave. `offHook` stands for both causes of CALLER,
the handset off and a hands-free call live: the model's choice (log entry 73). -/
structure Post where
  plate     : Byte
  live      : Bool
  attn      : Bool
  req       : Option CallClass
  offHook   : Bool
  doorOpen  : Bool
  sensors   : BitVec 6
  restarted : Bool
  lamp      : Option Lamp
  bearer    : Option BearerId
  assigned  : Option BearerId
  idleOk    : Bool
  loopback  : Bool
  deriving DecidableEq, Repr, Inhabited

/-- The posts fitted in a ring, in ring order, and the bytes of slot 1 on their way back to the part. -/
structure Ring where
  posts   : List Post
  transit : List Byte
  deriving DecidableEq, Repr, Inhabited

/-! ### Feeds (02) -/

/-- The open timer: stopped, running, or resting after it has latched OPEN (R34). -/
inductive OpenTimer where
  | stopped
  | running (elapsed : Nat)
  | resting
  deriving DecidableEq, Repr, Inhabited

/-- A feed supervisor; `trip` is absent while the trip filter is at rest, and otherwise the frames for which the
current has stood at or above the trip level (R31). `current` is the pin, in mA. -/
structure Feed where
  state   : FeedState
  desired : Bool
  settle  : Timer
  trip    : Option Nat
  opn     : OpenTimer
  current : Nat
  deriving DecidableEq, Repr, Inhabited

/-- The two states of the supply monitor (R35). -/
inductive SupplyState where
  | good | low
  deriving DecidableEq, Repr, Inhabited

/-- The supply monitor; `level` is the pin, in tenths of a volt. -/
structure Supply where
  state   : SupplyState
  restore : Timer
  level   : Nat
  deriving DecidableEq, Repr, Inhabited

/-! ### Directory (03) -/

/-- The four carriageways (R40). -/
inductive Carriageway where
  | aDirection | bDirection | link | central
  deriving DecidableEq, Repr, Inhabited

/-- The classes a post may call with (R40). -/
structure Permits where
  emergency : Bool
  breakdown : Bool
  service   : Bool
  deriving DecidableEq, Repr, Inhabited

/-- A post record (R40). -/
structure PostRecord where
  valid       : Bool
  number      : Nat
  loop        : LoopId
  position    : Nat
  plate       : Byte
  road        : Nat
  carriageway : Carriageway
  marker      : Nat
  zone        : ZoneId
  label1      : List Byte
  label2      : List Byte
  upGain      : Nat
  downGain    : Nat
  permits     : Permits
  deriving DecidableEq, Repr, Inhabited

/-- The naming status of an identity record; NOT-SEEN is used in notices alone (R45, R184). -/
inductive NamingStatus where
  | confirmed | unconfirmed | unlisted | notSeen
  deriving DecidableEq, Repr, Inhabited

/-- An identity record (R56); an absent field is `none`. -/
structure Identity where
  number      : Option Nat
  loop        : LoopId
  seen        : Nat
  plate       : Byte
  status      : NamingStatus
  road        : Option Nat
  carriageway : Option Carriageway
  marker      : Option Nat
  zone        : ZoneId
  label1      : List Byte
  label2      : List Byte
  deriving DecidableEq, Repr, Inhabited

/-! ### Calls and routes (04, 05) -/

/-- The six context states (R62). -/
inductive CtxState where
  | free | queued | offered | connected | held | clearing
  deriving DecidableEq, Repr, Inhabited

/-- The causes of CLEARED and of a release (R83, R110, R193). -/
inductive Cause where
  | caller | offerTimeout | loopPower | loopFailed | postLost | directory | desk | restart | sectionRestart
  deriving DecidableEq, Repr, Inhabited

/-- A target of a route entry (R90). -/
structure Target where
  trunk   : Trunk
  group   : Nat
  timeout : Nat
  deriving DecidableEq, Repr, Inhabited

/-- A context's current target: the place it came from and the target as it stood then (R93, R97). -/
structure CurrentTarget where
  place  : Nat
  target : Target
  deriving DecidableEq, Repr, Inhabited

/-- A leg (R62). -/
structure Leg where
  trunk : Trunk
  chan  : ChanId
  deriving DecidableEq, Repr, Inhabited

/-- A call context (R62). `waitedSub` and `holdSub` are the frames of the second being counted; `liveSeen` says
that the LIVE report of the context's bearer has been taken (R72). -/
structure Ctx where
  state          : CtxState
  cls            : CallClass
  regGen         : Byte
  offGen         : Byte
  ref            : Option Byte
  loop           : LoopId
  plate          : Byte
  entry          : Nat
  snapshot       : Option Identity
  bearer         : Option BearerId
  liveSeen       : Bool
  zone           : ZoneId
  plan           : Option PlanId
  tried          : List Nat
  target         : Option CurrentTarget
  primary        : Option Leg
  second         : Option Leg
  desk           : Option Byte
  prevDesk       : Option Byte
  represented    : Nat
  entryNo        : Nat
  offerTimer     : Timer
  holdRunning    : Bool
  holdCount      : Nat
  holdSub        : Nat
  retryTimer     : Timer
  silentNotified : Bool
  holdNotified   : Bool
  speechSeen     : Bool
  lastLevel      : Nat
  silentRun      : Nat
  clips          : Nat
  waited         : Nat
  waitedSub      : Nat
  cause          : Option Cause
  deriving DecidableEq, Repr, Inhabited

/-! ### Trunks (06) -/

/-- The four channel states (06, table of 6.6). -/
inductive ChanState where
  | free | reserved | inUse | blocked
  deriving DecidableEq, Repr, Inhabited

/-- A voice channel; `code` is what the voice path engine last wrote for it (R116, R143). It stands through frames in which
the channel's context takes no sample: the model's choice (log entry 74). -/
structure Channel where
  st   : ChanState
  mark : Bool
  code : Byte
  deriving DecidableEq, Repr, Inhabited

/-- The three results of a control request (R193). -/
inductive DeskResult where
  | ok | gone | wrongState
  deriving DecidableEq, Repr, Inhabited

/-- What an OFFER carries (R97, R193). -/
structure OfferBody where
  ctx         : CtxId
  gen         : Byte
  regGen      : Byte
  cls         : CallClass
  group       : Nat
  chan        : ChanId
  waited      : Nat
  represented : Nat
  prevDesk    : Option Byte
  identity    : Identity
  deriving DecidableEq, Repr, Inhabited

/-- A message of a signalling transmit queue (R99, R193). -/
inductive SigMsg where
  | offer (o : OfferBody)
  | confirm (ref : OfferRef) (request : Byte) (result : DeskResult) (chan : Nat)
  | cleared (ctx : CtxId) (gen : Byte) (cause : Cause)
  deriving DecidableEq, Repr

/-- A message receiver (R161): hunting for START, awaiting LENGTH, or collecting `need` further bytes; `got` holds
the collected bytes in order, from LENGTH. -/
inductive Receiver where
  | hunting
  | length
  | collecting (need : Nat) (got : List Byte)
  deriving DecidableEq, Repr, Inhabited

/-- A trunk interface (06), with the signalling transmit queue and receiver of its trunk (R99, R100) and the
trunk state the call manager has last been told (`seen`, R121). `rxBuf` holds the received bits not yet taken, in the
order received (R117, R187). -/
structure TrunkIf where
  state       : TrunkState
  seen        : TrunkState
  aligned     : Bool
  evenNext    : Bool
  badWords    : Nat
  rxBuf       : List Bool
  alarm       : Bool
  clearRun    : Nat
  holdover    : Timer
  failoverDue : Bool
  store       : List (List Byte)
  reading     : Bool
  lastFrame   : List Byte
  slips       : Nat
  channels    : Vector Channel 15
  voice       : Vector Byte 15
  txEven      : Bool
  sent        : List Byte
  sigQueue    : List SigMsg
  sigSent     : Nat
  sigRx       : Receiver
  deriving DecidableEq, Repr, Inhabited

/-! ### Voice path and prompts (07, 08) -/

/-- The level monitor's block in progress (R145). A count of 160 is a complete block not yet judged. -/
structure Path where
  sum   : Nat
  count : Nat
  deriving DecidableEq, Repr, Inhabited

/-- The after-actions of a segment (R152). -/
inductive AfterAction where
  | next (k : SegId)
  | restart
  | stop
  deriving DecidableEq, Repr

/-- A segment record (R152). -/
structure SegRec where
  valid  : Bool
  start  : Nat
  length : Nat
  after  : AfterAction
  deriving DecidableEq, Repr

/-- The three player states (R155). -/
inductive PlayerState where
  | idle | playing | silent
  deriving DecidableEq, Repr, Inhabited

/-- The two programmes (R154). -/
inductive Programme where
  | queue | hold
  deriving DecidableEq, Repr, Inhabited

/-- A player (R155). An offset equal to the cursor length is a segment ended whose after-action is due. -/
structure Player where
  state     : PlayerState
  programme : Option Programme
  segment   : Option SegId
  start     : Nat
  length    : Nat
  after     : AfterAction
  offset    : Nat
  deriving DecidableEq, Repr

/-! ### Service handler and notice unit (09, 10) -/

/-- The six results of a request (R167). -/
inductive Result where
  | ok | okClamped | badIndex | badValue | duplicate | changed
  deriving DecidableEq, Repr, Inhabited

/-- A REPLY before it is cut into parts (R164, R197). -/
structure Reply where
  echo    : Byte
  result  : Result
  summary : Byte
  sectNo  : Nat
  body    : List Byte
  deriving DecidableEq, Repr, Inhabited

/-- A service transmitter: idle, or sending a NOTICE or a REPLY with these bytes left. A REPLY with no byte left
has been sent and awaits REPLY_COMPLETE (R162, R164). -/
inductive Transmit where
  | idle
  | notice (left : List Byte)
  | reply (left : List Byte)
  deriving DecidableEq, Repr, Inhabited

/-- What the service handler keeps for one trunk (R161, R162, R164). -/
structure Service where
  rx        : Receiver
  executing : Option Request
  waiting   : Option Request
  tx        : Transmit
  reply     : Option Reply
  deriving DecidableEq, Repr, Inhabited

/-- A fault record: its flags, one bit each from bit 0 in the order of R176, and its change count. -/
structure FaultRec where
  flags : BitVec 16
  count : Byte
  deriving DecidableEq, Repr, Inhabited

/-- The last test result of a post (R53). -/
inductive TestResult where
  | none | pass | fail
  deriving DecidableEq, Repr, Inhabited

/-! ### The whole part -/

/-- The state of the part. `pending` is the queue of commands from outside; `handed` holds the events its blocks
have handed one another and that are not yet taken, each as the command that takes it, oldest first. -/
@[ext]
structure State where
  pending      : List Instr
  handed       : List Instr
  loops        : Vector Loop 8
  rings        : Vector Ring 8
  feeds        : Vector Feed 8
  supply       : Supply
  directory    : Vector PostRecord 96
  contexts     : Vector Ctx 32
  waiting      : List CtxId
  entryCount   : Nat
  routes       : Vector (List Target) 64
  plan         : PlanId
  trunkA       : TrunkIf
  trunkB       : TrunkIf
  paths        : Vector Path 32
  samples      : List Host.Cell
  segments     : Vector SegRec 16
  players      : Vector Player 32
  serviceA     : Service
  serviceB     : Service
  home         : Trunk
  settings     : Vector Nat 25
  sectionFault : FaultRec
  trunkFaultA  : FaultRec
  trunkFaultB  : FaultRec
  loopFaults   : Vector FaultRec 8
  postFaults   : Vector FaultRec 96
  testResults  : Vector TestResult 96
  marks        : List (Nat × Nat)
  abandons     : Vector Nat 104
  abandonPosts : Vector (Option (Nat × Byte)) 8
  mask         : BitVec 12
  deriving DecidableEq, Repr

/-! ### Power-on -/

/-- A fresh command record (R7). -/
def CmdRec.fresh : CmdRec :=
  { desiredLamp := .off, confirmedLamp := none, desiredBearer := none, confirmedBearer := .unknown,
    ackReq := false, identDue := false, healthDue := true, testDue := false, lastStatus := none,
    lastHealth := none, roundOwed := false, callerNoted := false }

/-- A loop controller after power-on (R7, R13, R19, R44, R46). -/
def Loop.reset : Loop :=
  { state := .unpowered, stale := false, flight := none, txLeft := [], scanTimer := .stopped, guard := .stopped,
    guardSpan := 0, aligned := false, missing := 0, rxBuf := [], rx := [], rxDone := false,
    pollTimer := .stopped, sweepTimer := .stopped, reconfirmTimer := .stopped, attention := false, debt := 0,
    roundOpen := false, errors := 0, map := [], absent := [], epoch := 0, handOver := 0, reconPending := false,
    bearers := Vector.replicate 4 ⟨.free, 0⟩, sent := [0x47, 0, 0, 0, 0, 0] }

/-- A feed supervisor after power-on (R28). -/
def Feed.reset : Feed :=
  { state := .settling, desired := true, settle := .running (500 * Config.framesPerMs), trip := none,
    opn := .stopped, current := 0 }

/-- The empty record (R40). -/
def PostRecord.empty : PostRecord :=
  { valid := false, number := 0, loop := 0, position := 1, plate := 0, road := 0, carriageway := .aDirection,
    marker := 0, zone := 0, label1 := [], label2 := [], upGain := 32, downGain := 32, permits := ⟨true, true, true⟩ }

/-- A FREE context after power-on (R63). -/
def Ctx.reset : Ctx :=
  { state := .free, cls := .emergency, regGen := 0, offGen := 0, ref := none, loop := 0, plate := 0, entry := 0,
    snapshot := none, bearer := none, liveSeen := false, zone := 0, plan := none, tried := [], target := none,
    primary := none, second := none, desk := none, prevDesk := none, represented := 0, entryNo := 0,
    offerTimer := .stopped, holdRunning := false, holdCount := 0, holdSub := 0, retryTimer := .stopped,
    silentNotified := false, holdNotified := false, speechSeen := false, lastLevel := 0, silentRun := 0,
    clips := 0, waited := 0, waitedSub := 0, cause := none }

/-- The default list of a route entry (R90). -/
def defaultRoute : List Target := [⟨.A, 0, 20⟩, ⟨.B, 0, 20⟩]

/-- A trunk interface after power-on (R116, R120). -/
def TrunkIf.reset : TrunkIf :=
  { state := .hunt, seen := .hunt, aligned := false, evenNext := true, badWords := 0, rxBuf := [], alarm := false,
    clearRun := 0, holdover := .stopped, failoverDue := false, store := [], reading := false, lastFrame := [],
    slips := 0, channels := Vector.replicate 15 ⟨.free, false, 0⟩, voice := Vector.replicate 15 0, txEven := true,
    sent := [], sigQueue := [], sigSent := 0, sigRx := .hunting }

/-- An invalid segment record (R152). -/
def SegRec.invalid : SegRec := ⟨false, 0, 1, .stop⟩

/-- An IDLE player (R155). -/
def Player.idle : Player :=
  { state := .idle, programme := none, segment := none, start := 0, length := 1, after := .stop, offset := 0 }

/-- A service receiver, request buffer and transmitter after power-on (R161, R162, R164). -/
def Service.reset : Service := { rx := .hunting, executing := none, waiting := none, tx := .idle, reply := none }

/-- The part right after power-on. RESTARTED is latched with change count 1 (R176); the RESTART mark is set
(R181), so the notice unit's choice of it is handed (R183). -/
def State.reset : State :=
  { pending := [], handed := [.noticeStart],
    loops := Vector.replicate 8 Loop.reset, rings := Vector.replicate 8 ⟨[], []⟩,
    feeds := Vector.replicate 8 Feed.reset,
    supply := { state := .good, restore := .stopped, level := Config.nominalSupply },
    directory := Vector.replicate 96 PostRecord.empty, contexts := Vector.replicate 32 Ctx.reset,
    waiting := [], entryCount := 0, routes := Vector.replicate 64 defaultRoute, plan := 0,
    trunkA := TrunkIf.reset, trunkB := TrunkIf.reset, paths := Vector.replicate 32 ⟨0, 0⟩, samples := [],
    segments := (Vector.replicate 16 SegRec.invalid).set 0 ⟨true, 0, 8000, .restart⟩,
    players := Vector.replicate 32 Player.idle, serviceA := Service.reset, serviceB := Service.reset, home := .A,
    settings := Vector.ofFn (fun i => Config.params[i].dflt), sectionFault := ⟨1, 1⟩, trunkFaultA := ⟨0, 0⟩,
    trunkFaultB := ⟨0, 0⟩, loopFaults := Vector.replicate 8 ⟨0, 0⟩, postFaults := Vector.replicate 96 ⟨0, 0⟩,
    testResults := Vector.replicate 96 .none, marks := [(1, 0)], abandons := Vector.replicate 104 0,
    abandonPosts := Vector.replicate 8 none, mask := 0xFFF }

end Sys2Proof.Machine
end

