-- ==== Sys2Proof/Machine/Ops.lean ====
section
/-! DEFINITION. The named operations over State: one way to read and one way to change each table, the hand-off
list, timers, the settings and the prompt store. -/

namespace Sys2Proof.Machine

open Sys2Proof

/-- Every element of a table changed by its number. -/
def tabulate {α : Type} {n : Nat} (v : Vector α n) (f : Fin n → α → α) : Vector α n :=
  Vector.ofFn (fun i => f i v[i])

/-! ### Reading and changing one block -/

namespace State

def loop (s : State) (l : LoopId) : Loop := s.loops[l]
def setLoop (s : State) (l : LoopId) (x : Loop) : State := { s with loops := s.loops.set l x }
def modLoop (s : State) (l : LoopId) (f : Loop → Loop) : State := s.setLoop l (f (s.loop l))

def ring (s : State) (l : LoopId) : Ring := s.rings[l]
def setRing (s : State) (l : LoopId) (x : Ring) : State := { s with rings := s.rings.set l x }

def feed (s : State) (l : LoopId) : Feed := s.feeds[l]
def setFeed (s : State) (l : LoopId) (x : Feed) : State := { s with feeds := s.feeds.set l x }
def modFeed (s : State) (l : LoopId) (f : Feed → Feed) : State := s.setFeed l (f (s.feed l))

def setSupply (s : State) (x : Supply) : State := { s with supply := x }

def record (s : State) (slot : SlotId) : PostRecord := s.directory[slot]
def setRecord (s : State) (slot : SlotId) (x : PostRecord) : State :=
  { s with directory := s.directory.set slot x }

def ctx (s : State) (c : CtxId) : Ctx := s.contexts[c]
def setCtx (s : State) (c : CtxId) (x : Ctx) : State := { s with contexts := s.contexts.set c x }
def modCtx (s : State) (c : CtxId) (f : Ctx → Ctx) : State := s.setCtx c (f (s.ctx c))

def trunk (s : State) : Trunk → TrunkIf
  | .A => s.trunkA
  | .B => s.trunkB

def setTrunk (s : State) (t : Trunk) (x : TrunkIf) : State :=
  match t with
  | .A => { s with trunkA := x }
  | .B => { s with trunkB := x }

def modTrunk (s : State) (t : Trunk) (f : TrunkIf → TrunkIf) : State := s.setTrunk t (f (s.trunk t))

def path (s : State) (c : CtxId) : Path := s.paths[c]
def setPath (s : State) (c : CtxId) (x : Path) : State := { s with paths := s.paths.set c x }

def player (s : State) (c : CtxId) : Player := s.players[c]
def setPlayer (s : State) (c : CtxId) (x : Player) : State := { s with players := s.players.set c x }

def segment (s : State) (k : SegId) : SegRec := s.segments[k]
def setSegment (s : State) (k : SegId) (x : SegRec) : State := { s with segments := s.segments.set k x }

def service (s : State) : Trunk → Service
  | .A => s.serviceA
  | .B => s.serviceB

def setService (s : State) (t : Trunk) (x : Service) : State :=
  match t with
  | .A => { s with serviceA := x }
  | .B => { s with serviceB := x }

def modService (s : State) (t : Trunk) (f : Service → Service) : State := s.setService t (f (s.service t))

def setSamples (s : State) (x : List Host.Cell) : State := { s with samples := x }
def setWaiting (s : State) (x : List CtxId) : State := { s with waiting := x }
def setMarks (s : State) (x : List (Nat × Nat)) : State := { s with marks := x }

/-! ### The hand-off list (R48, R84, R121, R177, R181) -/

/-- An event is handed: the command that takes it goes to the end of the list. -/
def hand (s : State) (i : Instr) : State := { s with handed := s.handed ++ [i] }

/-- An event of which one standing in the list is enough (a moment at which an arbiter looks again). -/
def handOnce (s : State) (i : Instr) : State := if i ∈ s.handed then s else s.hand i

/-- A command takes its event: the first such event leaves the list. -/
def take (s : State) (i : Instr) : State := { s with handed := s.handed.erase i }

/-- A block that detects a fault hands the notice unit a latch (R177). -/
def latch (s : State) (x : Latch) : State := s.hand (.faultLatch x)

/-- A block raises a notice (R181). -/
def raise (s : State) (x : Raise) : State := s.hand (.noticeRaise x)

end State

/-! ### Timers -/

/-- A timer started for so many frames. -/
def Timer.start (frames : Nat) : Timer := .running frames

def Timer.isRunning : Timer → Bool
  | .running _ => true
  | _ => false

/-- A restart of a timer that has not been stopped: a stopped timer is started by a state entry alone (R11). -/
def Timer.restart (t : Timer) (frames : Nat) : Timer :=
  match t with
  | .stopped => .stopped
  | _ => .running frames

/-- The expiry `i` of a timer counts. One sent from outside says that the time has come, and counts while the timer runs;
one that the part has handed itself counts only while the timer stands at its end, so that none outlives a stop or a new
start of its timer (R11; log entry 3). -/
def State.expires (s : State) (i : Instr) (t : Timer) : Bool :=
  t.isRunning && (!s.handed.contains i || t == .running 0)

/-- One frame of 125 microseconds passes. -/
def Timer.tick : Timer → Timer
  | .running n => .running (n - 1)
  | t => t

/-- The timer runs out in the coming frame. -/
def Timer.dueNext : Timer → Bool
  | .running n => n == 1
  | _ => false

/-! ### Settings (R170, R171) -/

namespace State

def param (s : State) (p : Fin 25) : Nat := s.settings[p]

def sectNo (s : State) : Nat := s.param 0
def holdoverSeconds (s : State) : Nat := s.param 1

def offerWindow (s : State) : Trunk → Nat
  | .A => s.param 2
  | .B => s.param 3

def retryFrames (s : State) : Nat := s.param 4 * Config.framesPerSecond
def queueAlarm (s : State) : Nat := s.param 5
def holdLongSeconds (s : State) : Nat := s.param 6
def silenceThreshold (s : State) : Nat := s.param 7
def silentLimit (s : State) : Nat := s.param 8
def pollFrames (s : State) : Nat := s.param 9 * Config.framesPerSecond
def sweepFrames (s : State) : Nat := s.param 10 * Config.framesPerMs
def scanFrames (s : State) : Nat := s.param 11 * Config.framesPerMs
def errorLimit (s : State) : Nat := s.param 12
def reconfirmFrames (s : State) : Nat := s.param 13 * Config.framesPerSecond
def settleFrames (s : State) : Nat := s.param 14 * Config.framesPerMs

/-- The start segment of a programme (R154). -/
def startSegment (s : State) : Programme → SegId
  | .queue => Fin.ofNat 16 (s.param 15)
  | .hold => Fin.ofNat 16 (s.param 16)

/-- The default zone of a loop (R55, R170). -/
def defaultZone (s : State) (l : LoopId) : ZoneId :=
  Fin.ofNat 16 (s.param (Fin.natAdd 17 l))

end State

/-! ### The prompt store (R150, R151) -/

/-- The store's canonical form: positions strictly rising and inside the store, and no entry equal to what an
unlisted position reads as. -/
def Samples.wf : List Host.Cell → Bool
  | [] => true
  | [(p, c)] => p < Config.storeSize && c != Config.factoryCode p
  | (p, c) :: (q, d) :: rest => p < q && c != Config.factoryCode p && Samples.wf ((q, d) :: rest)

/-- The code at a position; an unlisted position reads as the factory contents. -/
def Samples.read : List Host.Cell → Nat → Byte
  | [], p => Config.factoryCode p
  | (q, c) :: rest, p => if p = q then c else Samples.read rest p

/-- The entry of a code at a position, absent where it is the factory contents. -/
def Samples.cell (p : Nat) (c : Byte) : List Host.Cell := if c = Config.factoryCode p then [] else [(p, c)]

/-- A code stored at a position, keeping the canonical form. -/
def Samples.write : List Host.Cell → Nat → Byte → List Host.Cell
  | [], p, c => Samples.cell p c
  | (q, d) :: rest, p, c =>
    if p < q then Samples.cell p c ++ (q, d) :: rest
    else if p = q then Samples.cell p c ++ rest
    else (q, d) :: Samples.write rest p c

/-- Codes stored at successive positions, the first at `p`. -/
def Samples.writeList : List Host.Cell → Nat → List Byte → List Host.Cell
  | m, _, [] => m
  | m, p, c :: cs => Samples.writeList (Samples.write m p c) (p + 1) cs

/-- `n` codes from position `p` upward. -/
def Samples.readList (m : List Host.Cell) (p : Nat) : Nat → List Byte
  | 0 => []
  | n + 1 => Samples.read m p :: Samples.readList m (p + 1) n

/-! ### The chain map (R44) -/

namespace State

/-- The entry of a loop's chain map at a seen position. -/
def entryAt (s : State) (l : LoopId) (pos : Nat) : Option MapEntry :=
  if pos = 0 then none else (s.loop l).map[pos - 1]?

/-- The entry at a seen position changed; nothing where there is none. -/
def modEntry (s : State) (l : LoopId) (pos : Nat) (f : MapEntry → MapEntry) : State :=
  if pos = 0 then s else s.modLoop l (fun L => { L with map := L.map.modify (pos - 1) f })

/-- The command record of the entry at a seen position changed. -/
def modCmd (s : State) (l : LoopId) (pos : Nat) (f : CmdRec → CmdRec) : State :=
  s.modEntry l pos (fun e => { e with cmd := f e.cmd })

end State

end Sys2Proof.Machine

namespace Sys2Proof

open Machine

/-- The slot an entry is tied to. -/
def Tie.slot? : Tie → Option SlotId
  | .unlisted => none
  | .listed slot _ => some slot

/-- The naming status an entry's tie stands for (R45). -/
def Tie.status : Tie → NamingStatus
  | .unlisted => .unlisted
  | .listed _ true => .confirmed
  | .listed _ false => .unconfirmed

/-- A loop that registers and carries calls (01, table of 1.6). -/
def LoopState.carries : LoopState → Bool
  | .run => true
  | .degraded => true
  | _ => false

/-- A loop in which the scheduler picks (R10). -/
def LoopState.scans : LoopState → Bool
  | .start => true
  | .run => true
  | .degraded => true
  | .failed => true
  | _ => false

end Sys2Proof

namespace Sys2Proof.Machine

/-- The bearer numbers in ascending order. -/
def allBearers : List BearerId := [0, 1, 2, 3]

/-- The loop numbers in ascending order. -/
def allLoops : List LoopId := [0, 1, 2, 3, 4, 5, 6, 7]

/-- The context numbers in ascending order. -/
def allCtxs : List CtxId := List.finRange 32

/-- The channels in ascending order. -/
def allChans : List ChanId := List.finRange 15

end Sys2Proof.Machine
end

