-- ==== Sys2Proof/Machine/Operands.lean ====
section
/-! DEFINITION. The byte layouts of the loops, the trunks and the messages (11_link_and_record_formats.md): what
the part sends, and how it reads what it receives. -/

namespace Sys2Proof.Machine

open Sys2Proof

/-! ### Numbers in bytes (R192) -/

/-- A number as one byte. -/
def byte (n : Nat) : Byte := BitVec.ofNat 8 n

/-- A number as two bytes, most significant first (R192). -/
def be16 (n : Nat) : List Byte := [byte (n / 256), byte n]

/-- The number two bytes stand for, most significant first (R192). -/
def be16Val (hi lo : Byte) : Nat := hi.toNat * 256 + lo.toNat

/-- A flag as a byte. -/
def flagByte (b : Bool) : Byte := if b then 1 else 0

/-- An optional byte: presence, then the value or 0 (R192). -/
def optByte : Option Byte → List Byte
  | none => [0, 0]
  | some b => [1, b]

/-! ### Loop frames and scan bytes (R188, R189) -/

/-- Loop sync byte (R188). -/
def loopSync : Byte := 0x47

/-- Scan idle fill (R188). -/
def scanIdle : Byte := 0x00

/-- END (R188). -/
def scanEnd : Byte := 0x5C

/-- HEAD as sent: marker 101001, the kind, attention 0 (R3, R188). -/
def scanHead (sweep : Bool) : Byte := if sweep then 0xA4 else 0xA6

/-- The code of a lamp state (R188). -/
def Lamp.code : Lamp → Nat
  | .off => 0
  | .registered => 1
  | .connecting => 2
  | .connected => 3
  | .hold => 4
  | .cleared => 5
  | .refused => 6
  | .fault => 7

/-- The lamp state of a LAMP argument 0 to 7 (R188). -/
def Lamp.ofCode : Nat → Option Lamp
  | 0 => some .off
  | 1 => some .registered
  | 2 => some .connecting
  | 3 => some .connected
  | 4 => some .hold
  | 5 => some .cleared
  | 6 => some .refused
  | 7 => some .fault
  | _ => none

/-- A command byte as sent (R188). -/
def ScanCmd.byte : ScanCmd → Byte
  | .poll => 0x10
  | .ident => 0x20
  | .lamp s => Machine.byte (0x30 + s.code)
  | .bearer b => Machine.byte (0x40 + b.val)
  | .bearerRelease => 0x4F
  | .ackReq => 0x50
  | .test => 0x60

/-- The taken form of a command byte: bit 7 set (R4, R189). -/
def takenByte (b : Byte) : Byte := b ||| 0x80

/-- The taken mark of a command byte (R188). -/
def isTaken (b : Byte) : Bool := b.getLsbD 7

/-- NO-CMD (R189). -/
def noCmd : Byte := 0x80

/-- REQ as coded in a status byte (R188). -/
def reqCode : Option CallClass → Nat
  | none => 0
  | some .emergency => 1
  | some .breakdown => 2
  | some .service => 3

/-- REQ of a status byte (R188). -/
def statusReq (st : Byte) : Option CallClass :=
  match (st.extractLsb' 4 2).toNat with
  | 1 => some .emergency
  | 2 => some .breakdown
  | 3 => some .service
  | _ => none

/-- CALLER of a status byte (R188). -/
def statusCaller (st : Byte) : Bool := st.getLsbD 3

/-- BEARER-OK of a status byte (R188). -/
def statusBearerOk (st : Byte) : Bool := st.getLsbD 2

/-- FAULT of a status byte (R188). -/
def statusFault (st : Byte) : Bool := st.getLsbD 0

/-- The frame mark of a status byte (R188). -/
def statusMark (st : Byte) : Bool := st.getLsbD 7

/-- RESTARTED of a health byte (R188). -/
def healthRestarted (h : Byte) : Bool := h.getLsbD 6

/-- Whether a health byte shows any of the seven flags (R188). -/
def healthAny (h : Byte) : Bool := h &&& 0x7F != 0

/-- The bytes of an outbound scan (R3). -/
def scanBytes (sweep : Bool) (cmds : List ScanCmd) : List Byte :=
  scanHead sweep :: (cmds.map ScanCmd.byte ++ [scanEnd])

/-! ### Trunk frames (R187) -/

/-- Alignment word (R187). -/
def alignWord : Byte := 0x1B

/-- Housekeeping byte with the far-end alarm bit clear or set (R187). -/
def housekeeping (alarm : Bool) : Byte := if alarm then 0xD5 else 0x95

/-- A good housekeeping byte (R187). -/
def goodHousekeeping (b : Byte) : Bool := b &&& 0xBF == 0x95

/-- The far-end alarm bit of a housekeeping byte (R187). -/
def alarmBit (b : Byte) : Bool := b.getLsbD 6

/-- Idle fill of the service and signalling channels (R116). -/
def trunkIdle : Byte := 0xFF

/-- The bits of a byte in the order in which they are sent, bit 7 first (R187). -/
def byteBits (b : Byte) : List Bool :=
  [b.getLsbD 7, b.getLsbD 6, b.getLsbD 5, b.getLsbD 4, b.getLsbD 3, b.getLsbD 2, b.getLsbD 1, b.getLsbD 0]

/-- The bits of bytes in the order in which they are sent (R187). -/
def streamBits (bs : List Byte) : List Bool := bs.flatMap byteBits

/-- The byte that the next eight bits of a stream are, bit 7 first (R187). -/
def bitsByte (bits : List Bool) : Byte := byte ((bits.take 8).foldl (fun n b => 2 * n + b.toNat) 0)

/-- The next `n` bytes of a stream of bits (R187). -/
def bitsBytes : Nat → List Bool → List Byte
  | 0, _ => []
  | n + 1, bits => bitsByte bits :: bitsBytes n (bits.drop 8)

/-- The bits of a trunk frame (R187). -/
def frameBits : Nat := 144

/-! ### Message framing (R191, R192) -/

/-- The 8-bit sum of bytes (R192). -/
def byteSum (bs : List Byte) : Byte := bs.foldl (· + ·) 0

/-- A framed message: START, LENGTH, TYPE, body, CHECK (R191, R192). -/
def frameMsg (type : Byte) (body : List Byte) : List Byte :=
  let counted := byte (body.length + 1) :: type :: body
  0x5A :: (counted ++ [0 - byteSum counted])

/-- What a receiver makes of a byte (R161): nothing yet, a LENGTH out of range, or a message collected whole
(LENGTH, TYPE, body, CHECK). -/
inductive RxEvent where
  | quiet
  | badLength
  | message (got : List Byte)
  deriving DecidableEq, Repr

/-- One byte into a receiver (R161). -/
def Receiver.step (r : Receiver) (b : Byte) : Receiver × RxEvent :=
  match r with
  | .hunting => if b = 0x5A then (.length, .quiet) else (.hunting, .quiet)
  | .length =>
    if b = 0 ∨ 200 < b.toNat then (.hunting, .badLength) else (.collecting (b.toNat + 1) [b], .quiet)
  | .collecting need got =>
    if need ≤ 1 then (.hunting, .message (got ++ [b])) else (.collecting (need - 1) (got ++ [b]), .quiet)

/-- TYPE and body of a collected message, without LENGTH and CHECK. -/
def messageContent (got : List Byte) : List Byte := (got.drop 1).dropLast

/-! ### Service requests (R161, R192, R195) -/

end Sys2Proof.Machine

namespace Sys2Proof

open Machine

/-- The type code of a request (R192). -/
def Request.code : Request → Byte
  | .readStatus => 0x10
  | .readTable _ _ => 0x11
  | .writeDirectory _ _ => 0x12
  | .writeRoute _ _ => 0x12
  | .writeSegment _ _ => 0x12
  | .writeSamples _ _ => 0x12
  | .writeSettings _ _ => 0x12
  | .writeMask _ _ => 0x12
  | .writeUnknown _ => 0x12
  | .readMap _ => 0x13
  | .readCalls => 0x14
  | .readFault _ _ => 0x15
  | .clearFault _ _ _ _ => 0x16
  | .loopControl _ _ => 0x17
  | .trunkControl _ _ _ => 0x18
  | .setPlan _ => 0x19
  | .sectionRestart => 0x1A

end Sys2Proof

namespace Sys2Proof.Machine

/-- The targets of a route entry body (R195). -/
def parseTargets : List Byte → Option (List TargetWrite)
  | [] => some []
  | t :: g :: o :: rest => (parseTargets rest).map (⟨t.toNat, g.toNat, o.toNat⟩ :: ·)
  | _ => none

/-- The entry of a WRITE-TABLE DIRECTORY body; absent where the label lengths do not agree with it (R161). -/
def parsePost : List Byte → Option PostWrite
  | v :: n1 :: n0 :: loop :: pos :: plate :: r1 :: r0 :: cw :: m1 :: m0 :: zone :: up :: down :: per :: len1 :: rest =>
    match rest.drop len1.toNat with
    | len2 :: label2 =>
      if len1.toNat ≤ rest.length ∧ label2.length = len2.toNat then
        some { valid := v.toNat, number := be16Val n1 n0, loop := loop.toNat, position := pos.toNat, plate := plate,
               road := be16Val r1 r0, carriageway := cw.toNat, marker := be16Val m1 m0, zone := zone.toNat,
               upGain := up.toNat, downGain := down.toNat, permits := per.toNat, label1 := rest.take len1.toNat,
               label2 := label2 }
      else none
    | [] => none
  | _ => none

/-- The request of a WRITE-TABLE body (R161 step 3, R195). -/
def parseWrite : List Byte → Option Request
  | 0 :: index :: entry => (parsePost entry).map (.writeDirectory index.toNat)
  | 1 :: index :: count :: entry =>
    match parseTargets entry with
    | some ts => if ts.length = count.toNat then some (.writeRoute index.toNat ts) else none
    | none => none
  | [2, index, v, s1, s0, l1, l0, a] =>
    some (.writeSegment index.toNat ⟨v.toNat, be16Val s1 s0, be16Val l1 l0, a.toNat⟩)
  | 3 :: index :: codes => if codes.length = 64 then some (.writeSamples index.toNat codes) else none
  | [4, index, v1, v0] => some (.writeSettings index.toNat (be16Val v1 v0))
  | [5, index, e1, e0] => some (.writeMask index.toNat (be16Val e1 e0))
  | table :: _ => if 6 ≤ table.toNat then some (.writeUnknown table.toNat) else none
  | [] => none

/-- The request of a READ-TABLE body (R161 step 3, R195). Where the table code names no table, the index is the first byte
after it, and 0 where none follows: the model's choice (log entry 49). -/
def parseRead : List Byte → Option Request
  | [table, index] => some (.readTable table.toNat index.toNat)
  | table :: rest => if 6 ≤ table.toNat then some (.readTable table.toNat (rest.headD 0).toNat) else none
  | [] => none

/-- A TYPE that the part itself sends: REPLY, NOTICE, OFFER, CONFIRM, CLEARED (R192). -/
def isOwnType (type : Byte) : Bool := [0x20, 0x21, 0x50, 0x51, 0x52].contains type

/-- The request of a service message's TYPE and body, or why it is discarded (R161, steps 2 and 3; R192). -/
def parseService (content : List Byte) : Except Discard Request :=
  let known (r : Option Request) : Except Discard Request :=
    match r with
    | some q => .ok q
    | none => .error .badLength
  match content with
  | 0x10 :: body => known (if body = [] then some .readStatus else none)
  | 0x11 :: body => known (parseRead body)
  | 0x12 :: body => known (parseWrite body)
  | 0x13 :: body => known (match body with | [l] => some (.readMap l.toNat) | _ => none)
  | 0x14 :: body => known (if body = [] then some .readCalls else none)
  | 0x15 :: body => known (match body with | [k, i] => some (.readFault k.toNat i.toNat) | _ => none)
  | 0x16 :: body =>
    known (match body with
      | [k, i, c, f1, f0] => some (.clearFault k.toNat i.toNat c.toNat (be16Val f1 f0))
      | _ => none)
  | 0x17 :: body => known (match body with | [l, a] => some (.loopControl l.toNat a.toNat) | _ => none)
  | 0x18 :: body =>
    known (match body with | [t, a, c] => some (.trunkControl t.toNat a.toNat c.toNat) | _ => none)
  | 0x19 :: body => known (match body with | [p] => some (.setPlan p.toNat) | _ => none)
  | 0x1A :: body => known (if body = [] then some .sectionRestart else none)
  | type :: _ => .error (if isOwnType type then .ownType else .unknownType)
  | [] => .error .unknownType

end Sys2Proof.Machine

namespace Sys2Proof

open Machine

/-- The command that stands for a complete request on trunk `t`. A request that names no table or no action has no
row of its own; it is taken as SERVICE_REQUEST_BUFFERED, which puts any request into its buffer (R162). -/
def Request.toInstr (t : Trunk) : Request → Instr
  | .readStatus => .readStatus t
  | .readTable 0 i => .readTableDirectory t i
  | .readTable 1 i => .readTableRoute t i
  | .readTable 2 i => .readTableSegment t i
  | .readTable 3 i => .readTableSamples t i
  | .readTable 4 i => .readTableSettings t i
  | .readTable 5 i => .readTableMask t i
  | .readTable k i => .serviceRequestBuffered t (.readTable k i)
  | .writeDirectory i w => .writeTableDirectory t i w
  | .writeRoute i ts => .writeTableRoute t i ts
  | .writeSegment i w => .writeTableSegment t i w
  | .writeSamples i cs => .writeTableSamples t i cs
  | .writeSettings i v => .writeTableSettings t i v
  | .writeMask i e => .writeTableMask t i e
  | .writeUnknown k => .serviceRequestBuffered t (.writeUnknown k)
  | .readMap l => .readMap t l
  | .readCalls => .readCalls t
  | .readFault k i => .readFault t k i
  | .clearFault k i c f => .clearFault t k i c f
  | .loopControl l 0 => .loopControlFeedOn t l
  | .loopControl l 1 => .loopControlFeedOff t l
  | .loopControl l 2 => .loopControlRestart t l
  | .loopControl l 3 => .loopControlTest t l
  | .loopControl l a => .serviceRequestBuffered t (.loopControl l a)
  | .trunkControl k 0 _ => .trunkControlEnable t k
  | .trunkControl k 1 _ => .trunkControlDisable t k
  | .trunkControl k 2 c => .trunkControlBlock t k c
  | .trunkControl k 3 c => .trunkControlUnblock t k c
  | .trunkControl k a c => .serviceRequestBuffered t (.trunkControl k a c)
  | .setPlan p => .setPlan t p
  | .sectionRestart => .sectionRestart t

end Sys2Proof

namespace Sys2Proof.Machine

/-- The event of a collected service message (R161). -/
def serviceEvent (t : Trunk) (got : List Byte) : Instr :=
  if byteSum got ≠ 0 then .serviceMessageDiscard t .badCheck
  else
    match parseService (messageContent got) with
    | .ok q => q.toInstr t
    | .error why => .serviceMessageDiscard t why

/-! ### Signalling messages (R100, R192, R193) -/

/-- The type codes of the seven control requests (R192). -/
def answerCode : Byte := 0x40
def declineCode : Byte := 0x41
def holdCode : Byte := 0x42
def retrieveCode : Byte := 0x43
def joinCode : Byte := 0x44
def leaveCode : Byte := 0x45
def releaseCode : Byte := 0x46

/-- The event of a collected signalling message (R100). -/
def signallingEvent (t : Trunk) (got : List Byte) : Instr :=
  if byteSum got ≠ 0 then .signallingMessageDiscard t
  else
    match messageContent got with
    | [0x40, c, g, d] => .answer t ⟨c, g⟩ d
    | [0x41, c, g] => .decline t ⟨c, g⟩
    | [0x42, c, g] => .hold t ⟨c, g⟩
    | [0x43, c, g] => .retrieve t ⟨c, g⟩
    | [0x44, c, g] => .join t ⟨c, g⟩
    | [0x45, c, g] => .leave t ⟨c, g⟩
    | [0x46, c, g] => .release t ⟨c, g⟩
    | _ => .signallingMessageDiscard t

/-- A cause as coded in CLEARED and READ-CALLS (R193). -/
def Cause.code : Cause → Nat
  | .caller => 1
  | .offerTimeout => 2
  | .loopPower => 3
  | .loopFailed => 4
  | .postLost => 5
  | .directory => 6
  | .desk => 7
  | .restart => 8
  | .sectionRestart => 9

end Sys2Proof.Machine

namespace Sys2Proof

open Machine

/-- A class as coded in OFFER (R193). -/
def CallClass.code : CallClass → Nat
  | .emergency => 1
  | .breakdown => 2
  | .service => 3

end Sys2Proof

namespace Sys2Proof.Machine

/-- A channel's number, 1 to 15. -/
def chanNumber (c : ChanId) : Nat := c.val + 1

/-- A label with its length (R194). -/
def labelBytes (l : List Byte) : List Byte := byte l.length :: l

/-- A naming status as coded (R194). -/
def NamingStatus.code : NamingStatus → Nat
  | .confirmed => 0
  | .unconfirmed => 1
  | .unlisted => 2
  | .notSeen => 3

/-- A carriageway as coded (R194). -/
def Carriageway.code : Carriageway → Nat
  | .aDirection => 0
  | .bDirection => 1
  | .link => 2
  | .central => 3

/-- The carriageway of a code (R194, R196). -/
def Carriageway.ofCode : Nat → Option Carriageway
  | 0 => some .aDirection
  | 1 => some .bDirection
  | 2 => some .link
  | 3 => some .central
  | _ => none

/-- An identity record (R194). -/
def Identity.bytes (i : Identity) : List Byte :=
  be16 (i.number.getD 0xFFFF) ++ [byte i.loop.val, byte i.seen, i.plate, byte i.status.code]
    ++ be16 (i.road.getD 0xFFFF) ++ [byte ((i.carriageway.map Carriageway.code).getD 0xFF)]
    ++ be16 (i.marker.getD 0xFFFF) ++ [byte i.zone.val] ++ labelBytes i.label1 ++ labelBytes i.label2

/-- The result of a control request as coded (R193). -/
def DeskResult.code : DeskResult → Nat
  | .ok => 0
  | .gone => 1
  | .wrongState => 2

/-- The bytes of a message of a signalling transmit queue (R191 to R193). -/
def SigMsg.bytes : SigMsg → List Byte
  | .offer o =>
    frameMsg 0x50 ([byte o.ctx.val, o.gen, byte o.ctx.val, o.regGen, byte o.cls.code, byte o.group,
      byte (chanNumber o.chan)] ++ be16 o.waited ++ [byte o.represented] ++ optByte o.prevDesk ++ o.identity.bytes)
  | .confirm ref request result chan =>
    frameMsg 0x51 [ref.ctx, ref.gen, request, byte result.code, byte chan]
  | .cleared c gen cause => frameMsg 0x52 [byte c.val, gen, byte cause.code]

/-! ### REPLY (R197, R198) -/

/-- A result as coded (R197). -/
def Result.code : Result → Nat
  | .ok => 0
  | .okClamped => 1
  | .badIndex => 2
  | .badValue => 3
  | .duplicate => 4
  | .changed => 5

/-- A body cut into parts of 193 bytes, the last one last; an empty body is one part (R198). `fuel` bounds the
number of parts. -/
def bodyParts : Nat → List Byte → List (List Byte)
  | 0, body => [body]
  | fuel + 1, body =>
    if body.length ≤ Config.partBytes then [body]
    else body.take Config.partBytes :: bodyParts fuel (body.drop Config.partBytes)

/-- The messages of a REPLY from part `n` on, one after another (R164, R197). -/
def replyParts (r : Reply) : Nat → List (List Byte) → List Byte
  | _, [] => []
  | n, part :: rest =>
    frameMsg 0x20 ([r.echo, byte r.result.code, r.summary] ++ be16 r.sectNo
      ++ [byte (n + if rest = [] then 128 else 0)] ++ part) ++ replyParts r (n + 1) rest

/-- All the bytes of a REPLY (R164, R198). -/
def Reply.bytes (r : Reply) : List Byte := replyParts r 0 (bodyParts r.body.length r.body)

end Sys2Proof.Machine

namespace Sys2Proof

open Machine

/-- The code of a trunk (R195). -/
def Trunk.code : Trunk → Nat
  | .A => 0
  | .B => 1

/-- The trunk of a code (R195). -/
def Trunk.ofCode : Nat → Option Trunk
  | 0 => some .A
  | 1 => some .B
  | _ => none

end Sys2Proof

namespace Sys2Proof.Machine

/-- The loop a number names (R61, R172). -/
def loopOfNat (n : Nat) : Option LoopId := if h : n < 8 then some ⟨n, h⟩ else none

/-- The directory slot a number names (R41). -/
def slotOfNat (n : Nat) : Option SlotId := if h : n < 96 then some ⟨n, h⟩ else none

/-- The channel of a number 1 to 15 (R131). -/
def chanOfNumber (n : Nat) : Option ChanId := if h : 1 ≤ n ∧ n ≤ 15 then some ⟨n - 1, by omega⟩ else none

/-- The context a reference byte names (R100). -/
def ctxOfNat (n : Nat) : Option CtxId := if h : n < 32 then some ⟨n, h⟩ else none

end Sys2Proof.Machine
end

