-- ==== Sys2Proof/Machine/Flags.lean ====
section
/-! DEFINITION. Fault flags, change counts, pending marks and the summary byte (10). -/

namespace Sys2Proof.Machine

open Sys2Proof

/-! ### The bit of each flag: the order of R176, from bit 0 (R195) -/

end Sys2Proof.Machine

namespace Sys2Proof

open Machine

/-- The bit of a section flag. -/
def SectionFlag.bit : SectionFlag → Nat
  | .restarted => 0
  | .supply => 1
  | .contextsFull => 2
  | .badCheck => 3
  | .badLength => 4
  | .unknownType => 5
  | .overrun => 6

/-- The bit of a trunk flag. -/
def TrunkFlag.bit : TrunkFlag → Nat
  | .alignLost => 0
  | .farAlarm => 1
  | .slip => 2
  | .holdoverExpired => 3
  | .sigError => 4
  | .sigUnknownCall => 5

/-- The bit of a loop flag. -/
def LoopFlag.bit : LoopFlag → Nat
  | .tripped => 0
  | .opn => 1
  | .scanTimeout => 2
  | .scanMalformed => 3
  | .failedEntered => 4
  | .chainChanged => 5
  | .unlistedSeen => 6
  | .absentSeen => 7
  | .overlong => 8
  | .unlistedFault => 9

/-- The bit of a post flag. -/
def PostFlag.bit : PostFlag → Nat
  | .battery => 0
  | .handset => 1
  | .speaker => 2
  | .lamp => 3
  | .heater => 4
  | .tamper => 5
  | .restarted => 6
  | .refusedClass => 7

end Sys2Proof

namespace Sys2Proof.Machine

/-- A set of flags holding one bit. -/
def flagMask (bit : Nat) : BitVec 16 := BitVec.ofNat 16 (2 ^ bit)

/-- Whether a flag of a record is latched. -/
def FaultRec.has (r : FaultRec) (bit : Nat) : Bool := r.flags.getLsbD bit

/-- A latch taken by a record: a clear flag becomes latched and the change count goes up by 1, wrapping; a
latched flag changes nothing (R177). -/
def FaultRec.latch (r : FaultRec) (bit : Nat) : FaultRec :=
  if r.has bit then r else ⟨r.flags ||| flagMask bit, r.count + 1⟩

/-- The named flags cleared; the change count stays (R179). -/
def FaultRec.clear (r : FaultRec) (flags : BitVec 16) : FaultRec := { r with flags := r.flags &&& ~~~flags }

namespace State

def trunkFault (s : State) : Trunk → FaultRec
  | .A => s.trunkFaultA
  | .B => s.trunkFaultB

def setTrunkFault (s : State) (t : Trunk) (x : FaultRec) : State :=
  match t with
  | .A => { s with trunkFaultA := x }
  | .B => { s with trunkFaultB := x }

def loopFault (s : State) (l : LoopId) : FaultRec := s.loopFaults[l]
def setLoopFault (s : State) (l : LoopId) (x : FaultRec) : State := { s with loopFaults := s.loopFaults.set l x }

def postFault (s : State) (slot : SlotId) : FaultRec := s.postFaults[slot]
def setPostFault (s : State) (slot : SlotId) (x : FaultRec) : State :=
  { s with postFaults := s.postFaults.set slot x }

def setSectionFault (s : State) (x : FaultRec) : State := { s with sectionFault := x }

def testResult (s : State) (slot : SlotId) : TestResult := s.testResults[slot]
def setTestResult (s : State) (slot : SlotId) (x : TestResult) : State :=
  { s with testResults := s.testResults.set slot x }

/-- The record a latch names. -/
def faultOf (s : State) : Latch → FaultRec
  | .sect _ => s.sectionFault
  | .trunk t _ => s.trunkFault t
  | .loop l _ => s.loopFault l
  | .post slot _ => s.postFault slot

end State

end Sys2Proof.Machine

namespace Sys2Proof

open Machine

/-- The bit a latch names in its record. -/
def Latch.bit : Latch → Nat
  | .sect f => f.bit
  | .trunk _ f => f.bit
  | .loop _ f => f.bit
  | .post _ f => f.bit

end Sys2Proof

namespace Sys2Proof.Machine

/-- The notice unit takes a latch (R177). -/
def State.latchNow (s : State) (x : Latch) : State :=
  match x with
  | .sect f => s.setSectionFault (s.sectionFault.latch f.bit)
  | .trunk t f => s.setTrunkFault t ((s.trunkFault t).latch f.bit)
  | .loop l f => s.setLoopFault l ((s.loopFault l).latch f.bit)
  | .post slot f => s.setPostFault slot ((s.postFault slot).latch f.bit)

/-! ### Pending marks (R181) -/

end Sys2Proof.Machine

namespace Sys2Proof

open Machine

/-- The rank and the index of a raise's object (R181). -/
def Raise.mark : Raise → Nat × Nat
  | .restart => (1, 0)
  | .supply => (2, 0)
  | .feedTrip l => (3, l.val)
  | .loopState l => (4, l.val)
  | .trunkState t => (5, t.code)
  | .contextsFull => (6, 0)
  | .routeExhausted z => (7, z.val)
  | .abandonedSlot slot => (8, slot.val)
  | .abandonedLoop l _ _ => (8, 96 + l.val)
  | .silentCall c => (9, c.val)
  | .holdLong c => (10, c.val)
  | .naming l => (11, l.val)
  | .postFault slot => (12, slot.val)

end Sys2Proof

namespace Sys2Proof.Machine

/-- The order of marks: rank first, then index (R183). -/
def markBefore (a b : Nat × Nat) : Bool := a.1 < b.1 || (a.1 == b.1 && a.2 < b.2)

/-- A mark set in the sorted list of pending marks; a mark already set stays (R181). -/
def insertMark (m : Nat × Nat) : List (Nat × Nat) → List (Nat × Nat)
  | [] => [m]
  | x :: rest => if markBefore m x then m :: x :: rest else if m = x then x :: rest else x :: insertMark m rest

/-- A CALL-ABANDONED object's abandon count and recorded post set back (R181, R185). -/
def State.clearAbandon (s : State) (index : Nat) : State :=
  if h : index < 104 then
    { s with
      abandons := s.abandons.set index 0
      abandonPosts :=
        if h2 : 96 ≤ index then s.abandonPosts.set (index - 96) none (by omega) else s.abandonPosts }
  else s

/-- A raise of CALL-ABANDONED counted, saturating at 255, with the unlisted post recorded (R181). -/
def State.countAbandon (s : State) (x : Raise) : State :=
  match x with
  | .abandonedSlot slot =>
    { s with abandons := s.abandons.set slot.val (min (s.abandons[slot.val] + 1) 255) }
  | .abandonedLoop l pos plate =>
    { s with
      abandons := s.abandons.set (96 + l.val) (min (s.abandons[96 + l.val] + 1) 255)
      abandonPosts := s.abandonPosts.set l.val (some (pos, plate)) }
  | _ => s

/-- A per-context raise names a context that is FREE (R185). -/
def State.raiseOfFree (s : State) : Raise → Bool
  | .silentCall c => (s.ctx c).state == .free
  | .holdLong c => (s.ctx c).state == .free
  | _ => false

/-- The notice unit takes a raise: the object's mark is set and abandons are counted (R181). A per-context raise
never names a FREE context (R185), so one that does sets nothing. -/
def State.raiseNow (s : State) (x : Raise) : State :=
  if s.raiseOfFree x then s
  else (s.countAbandon x).setMarks (insertMark x.mark s.marks)

/-- The SILENT-CALL and HOLD-LONG marks of a context dropped (R185). -/
def State.dropCtxMarks (s : State) (c : CtxId) : State :=
  s.setMarks (s.marks.filter (fun m => !(m == (9, c.val) || m == (10, c.val))))

/-! ### The summary byte (R186, R197) -/

namespace State

/-- Bit RESTARTED (R186). -/
def sumRestarted (s : State) : Bool := s.sectionFault.has SectionFlag.restarted.bit

/-- Bit MSG-ERR (R186). -/
def sumMsgErr (s : State) : Bool :=
  s.sectionFault.has SectionFlag.badCheck.bit || s.sectionFault.has SectionFlag.badLength.bit ||
  s.sectionFault.has SectionFlag.unknownType.bit || s.sectionFault.has SectionFlag.overrun.bit

/-- A trunk state that sets bit TRUNK (R186). -/
def trunkAlerts (st : TrunkState) : Bool := st == .hunt || st == .holdover || st == .farFault

/-- Bit TRUNK (R186). -/
def sumTrunk (s : State) : Bool := trunkAlerts s.trunkA.state || trunkAlerts s.trunkB.state

/-- A loop state that sets bit LOOP (R186). -/
def loopAlerts (st : LoopState) : Bool := st == .unpowered || st == .start || st == .degraded || st == .failed

/-- Bit LOOP (R186). -/
def sumLoop (s : State) : Bool := allLoops.any (fun l => loopAlerts (s.loop l).state)

/-- Bit FEED (R186). -/
def sumFeed (s : State) : Bool :=
  allLoops.any (fun l => (s.loopFault l).has LoopFlag.tripped.bit || (s.loopFault l).has LoopFlag.opn.bit) ||
  s.sectionFault.has SectionFlag.supply.bit

/-- Bit POST (R186): the flags alone. -/
def sumPost (s : State) : Bool := s.postFaults.toList.any (fun r => r.flags != 0)

/-- Bit QUEUE (R186). -/
def sumQueue (s : State) : Bool :=
  allCtxs.any (fun c =>
    ((s.ctx c).state == .queued || (s.ctx c).state == .offered) && s.queueAlarm < (s.ctx c).waited) ||
  s.marks.any (fun m => m.1 == 7)

/-- The summary byte (R186, R197). -/
def summary (s : State) : Byte :=
  let low : List Bool :=
    [s.sumQueue, s.sumPost, s.sumFeed, s.sumLoop, s.sumTrunk, s.sumMsgErr, s.sumRestarted]
  byte ((low.zipIdx.map (fun p => if p.1 then 2 ^ p.2 else 0)).sum + if low.any id then 128 else 0)

end State

end Sys2Proof.Machine
end

