-- ==== Sys2Proof/Machine/Directory.lean ====
section
/-! DEFINITION. The post directory (03): what it answers for an entry, identity records, directory writes and
their reports, and the walk of a reconciliation. -/

namespace Sys2Proof.Machine

open Sys2Proof

/-- The directory slots in ascending order. -/
def allSlots : List SlotId := List.finRange 96

/-! ### What the directory answers (R55, R56) -/

/-- The gain of an unlisted post (R55). -/
def unityGain : Nat := 32

namespace State

/-- Zone of an entry (R55). An entry still tied to a slot that has been emptied, its INVALIDATION_REPORT not yet taken,
answers from the empty record: the model's choice (log entry 46). -/
def zoneOf (s : State) (l : LoopId) : Tie → ZoneId
  | .unlisted => s.defaultZone l
  | .listed slot _ => (s.record slot).zone

/-- Class permits of an entry (R55). -/
def permitsOf (s : State) : Tie → Permits
  | .unlisted => ⟨true, true, true⟩
  | .listed slot _ => (s.record slot).permits

/-- Uplink gain of an entry (R55). -/
def upGainOf (s : State) : Tie → Nat
  | .unlisted => unityGain
  | .listed slot _ => (s.record slot).upGain

/-- Downlink gain of an entry (R55). -/
def downGainOf (s : State) : Tie → Nat
  | .unlisted => unityGain
  | .listed slot _ => (s.record slot).downGain

/-- The identity record of a map entry (R56). An entry still tied to a slot that has been emptied, its
INVALIDATION_REPORT not yet taken, answers from the empty record: the model's choice (log entry 46). -/
def identityOf (s : State) (l : LoopId) (pos : Nat) (e : MapEntry) : Identity :=
  match e.tie with
  | .unlisted =>
    { number := none, loop := l, seen := pos, plate := e.plate, status := .unlisted, road := none,
      carriageway := none, marker := none, zone := s.zoneOf l e.tie, label1 := [], label2 := [] }
  | .listed slot _ =>
    let r := s.record slot
    { number := some r.number, loop := l, seen := pos, plate := e.plate, status := e.tie.status,
      road := some r.road, carriageway := some r.carriageway, marker := some r.marker, zone := r.zone,
      label1 := r.label1, label2 := r.label2 }

/-- The identity record of a valid slot tied to no entry, with seen position 0 and NOT-SEEN (R184). -/
def identityNotSeen (s : State) (slot : SlotId) : Identity :=
  let r := s.record slot
  { number := some r.number, loop := r.loop, seen := 0, plate := r.plate, status := .notSeen, road := some r.road,
    carriageway := some r.carriageway, marker := some r.marker, zone := r.zone, label1 := r.label1,
    label2 := r.label2 }

/-- The identity record of a post that no entry of the map stands for any more. -/
def identityLost (s : State) (l : LoopId) (pos : Nat) (plate : Byte) : Identity :=
  { number := none, loop := l, seen := pos, plate := plate, status := .unlisted, road := none, carriageway := none,
    marker := none, zone := s.defaultZone l, label1 := [], label2 := [] }

/-- The first seen position from `pos` up whose entry is tied to a slot. -/
def tiedFrom (slot : SlotId) : List MapEntry → Nat → Option (Nat × MapEntry)
  | [], _ => none
  | e :: rest, pos => if e.tie.slot? = some slot then some (pos, e) else tiedFrom slot rest (pos + 1)

/-- The entry of a loop's map tied to a slot; R44 allows no second one. -/
def tiedEntry (s : State) (l : LoopId) (slot : SlotId) : Option (Nat × MapEntry) :=
  tiedFrom slot (s.loop l).map 1

/-- The loop and entry tied to a slot, whatever the loop. Two loops may each hold one after a write has moved the record
(R59); that the lowest-numbered loop's is used is the model's choice (log entry 50). -/
def tiedAnywhere (s : State) (slot : SlotId) : Option (LoopId × Nat × MapEntry) :=
  allLoops.findSome? (fun l => (s.tiedEntry l slot).map (fun p => (l, p)))

/-- The identity record a notice about a slot carries (R184); absent when the slot is empty. R184 has it built for the entry tied
to the slot when one exists, and absent when the slot is empty, and does not say which holds for a slot that has been emptied
while an entry is still tied to it; that it is absent then is the model's choice (log entry 77). -/
def identityOfSlot (s : State) (slot : SlotId) : Option Identity :=
  if (s.record slot).valid then
    match s.tiedAnywhere slot with
    | some (l, pos, e) => some (s.identityOf l pos e)
    | none => some (s.identityNotSeen slot)
  else none

end State

/-- Whether a class is among a post's permits (R66). -/
def Permits.allows (p : Permits) : CallClass → Bool
  | .emergency => p.emergency
  | .breakdown => p.breakdown
  | .service => p.service

/-! ### Writing and reading a record (R41 to R43) -/

/-- A character a label may hold (R42). -/
def labelChar (c : Byte) : Bool := 0x20 ≤ c.toNat && c.toNat ≤ 0x7E

/-- A label as it is stored (R42). -/
def storedLabel (l : List Byte) : List Byte := l.map (fun c => if labelChar c then c else 0x3F)

/-- The record a write stands for; absent where a field is out of its range (R41 step 3, R196). -/
def PostRecord.ofWrite (w : PostWrite) : Option PostRecord :=
  match loopOfNat w.loop, Carriageway.ofCode w.carriageway with
  | some l, some cw =>
    if h : w.zone < 16 then
      if w.valid = 1 ∧ w.number ≤ 9999 ∧ 1 ≤ w.position ∧ w.position ≤ 12 ∧ w.road ≤ 999 ∧ w.marker ≤ 9999 ∧
          w.upGain ≤ 127 ∧ w.downGain ≤ 127 ∧ w.permits < 8 ∧ w.label1.length ≤ 20 ∧ w.label2.length ≤ 20 then
        some { valid := true, number := w.number, loop := l, position := w.position, plate := w.plate,
               road := w.road, carriageway := cw, marker := w.marker, zone := ⟨w.zone, h⟩,
               label1 := storedLabel w.label1, label2 := storedLabel w.label2, upGain := w.upGain,
               downGain := w.downGain,
               permits := ⟨w.permits.testBit 0, w.permits.testBit 1, w.permits.testBit 2⟩ }
      else none
    else none
  | _, _ => none

/-- Two records that may not both be valid (R41 step 4). -/
def PostRecord.clashes (a b : PostRecord) : Bool :=
  a.number == b.number || (a.loop == b.loop && (a.plate == b.plate || a.position == b.position))

/-- The slots whose valid records clash with a record written to `slot` (R41 step 4). -/
def State.duplicates (s : State) (slot : SlotId) (r : PostRecord) : Bool :=
  allSlots.any (fun q => q != slot && (s.record q).valid && (s.record q).clashes r)

/-- The reports of a stored write of a valid record (R58, R59). -/
def State.reportWrite (s : State) (slot : SlotId) (old new : PostRecord) : State :=
  if old.valid ∧ old.loop = new.loop ∧ old.position = new.position ∧ old.plate = new.plate then s
  else
    let s1 := s.hand (.structuralWriteReport old.loop slot (.before (old.loop != new.loop)))
    if old.loop = new.loop then s1 else s1.hand (.structuralWriteReport new.loop slot .after)

/-- A slot made empty, and its invalidation reported where the record was valid (R41 step 2, R60), to the record's loop alone,
also where an entry of a loop that the record has left (R59) is still tied to the slot: the model's choice (log entry 70). -/
def State.emptySlot (s : State) (slot : SlotId) : State :=
  let s1 := s.setRecord slot PostRecord.empty
  if (s.record slot).valid then s1.hand (.invalidationReport (s.record slot).loop slot) else s1

/-- WRITE-TABLE DIRECTORY (R41, R42, R58 to R60). -/
def State.writeDirectory (s : State) (index : Nat) (w : PostWrite) : State × Result :=
  match slotOfNat index with
  | none => (s, .badIndex)
  | some slot =>
    if w.valid = 0 then (s.emptySlot slot, .ok)
    else
      match PostRecord.ofWrite w with
      | none => (s, .badValue)
      | some r =>
        if s.duplicates slot r then (s, .duplicate)
        else
          ((s.setRecord slot r).reportWrite slot (s.record slot) r,
            if r.label1 = w.label1 ∧ r.label2 = w.label2 then .ok else .okClamped)

/-- A post record in the layout of R195. -/
def PostRecord.bytes (r : PostRecord) : List Byte :=
  [flagByte r.valid] ++ be16 r.number ++ [byte r.loop.val, byte r.position, r.plate] ++ be16 r.road
    ++ [byte r.carriageway.code] ++ be16 r.marker ++ [byte r.zone.val, byte r.upGain, byte r.downGain,
      byte ((if r.permits.emergency then 1 else 0) + (if r.permits.breakdown then 2 else 0)
        + (if r.permits.service then 4 else 0))]
    ++ labelBytes r.label1 ++ labelBytes r.label2

/-! ### Reconciliation (R46, R47) -/

/-- The list E: the loop's valid records in directory order (R46). -/
def State.expected (s : State) (l : LoopId) : List SlotId :=
  (allSlots.filter (fun q => (s.record q).valid && (s.record q).loop == l)).insertionSort
    (fun a b => (s.record a).position ≤ (s.record b).position)

/-- The first place of a list whose plate is `r`: what stands before it, it, and what stands after it. -/
def splitAtPlate (plateOf : SlotId → Byte) (r : Byte) :
    List SlotId → Option (List SlotId × SlotId × List SlotId)
  | [] => none
  | x :: xs =>
    if plateOf x = r then some ([], x, xs)
    else (splitAtPlate plateOf r xs).map (fun p => (x :: p.1, p.2.1, p.2.2))

/-- The walk (R47): the new entries, and the slots marked absent. The second list is E from the pointer on. -/
def walk (plateOf : SlotId → Byte) : List Byte → List SlotId → List ResultEntry × List SlotId
  | [], rest => ([], rest)
  | r :: plates, rest =>
    match splitAtPlate plateOf r rest with
    | some (skipped, slot, after) =>
      (⟨r, some slot⟩ :: (walk plateOf plates after).1, skipped ++ (walk plateOf plates after).2)
    | none => (⟨r, none⟩ :: (walk plateOf plates rest).1, (walk plateOf plates rest).2)

/-- The result of a reconciliation (R47). -/
def State.reconcile (s : State) (l : LoopId) (plates : List Byte) : List ResultEntry × List SlotId :=
  walk (fun q => (s.record q).plate) plates (s.expected l)

/-- RECONCILIATION (R46 to R48): the directory takes a hand-over and returns the result with its number. -/
def execReconciliation (l : LoopId) (handOver : Byte) (plates : List Byte) (s : State) :
    Host.Outcome State Fault Refusal :=
  let s1 := s.take (.reconciliation l handOver plates)
  .next (s1.hand (.resultInstall l handOver (s1.reconcile l plates).1 (s1.reconcile l plates).2))

end Sys2Proof.Machine
end

