-- ==== Sys2Proof/Machine/Players.lean ====
section
/-! DEFINITION. The prompt players (08): entering a segment, starting, stopping, sampling, and the end of a
segment. -/

namespace Sys2Proof.Machine

open Sys2Proof

/-- The player enters segment `k`, whose record is `r` (R155): it copies a valid record into the cursor, and an
invalid one makes it SILENT, with cursor and offset as they stood (log entry 56). -/
def Player.enter (p : Player) (k : SegId) (r : SegRec) : Player :=
  if r.valid then
    { p with
      state := .playing
      segment := some k
      start := r.start
      length := r.length
      after := r.after
      offset := 0 }
  else { p with state := .silent, segment := none }

/-- The player falls SILENT (R156). Its cursor and offset stay as they stood, which no rule reads: the model's choice (log
entry 56). -/
def Player.silence (p : Player) : Player := { p with state := .silent, segment := none }

/-- The player is stopped (R155). Its cursor and offset stay as they stood: the model's choice (log entry 56). -/
def Player.stop (p : Player) : Player := { p with state := .idle, programme := none, segment := none }

/-- A segment has ended whose after-action is still to be carried out (R156). -/
def Player.ended (p : Player) : Bool := p.state == .playing && p.length ≤ p.offset

namespace State

/-- A player enters the start segment of a programme (R154, R155). -/
def enterProgramme (s : State) (p : Player) (prog : Programme) : Player :=
  p.enter (s.startSegment prog) (s.segment (s.startSegment prog))

/-- A start of a context's player (R155). -/
def startPlayer (s : State) (c : CtxId) (prog : Programme) : State :=
  s.setPlayer c (s.enterProgramme { s.player c with programme := some prog } prog)

/-- A stop of a context's player (R155). -/
def stopPlayer (s : State) (c : CtxId) : State := s.setPlayer c (s.player c).stop

/-- The player with its cursor's after-action carried out (R156). -/
def afterSegment (s : State) (p : Player) : Player :=
  match p.after with
  | .next k => p.enter k (s.segment k)
  | .restart =>
    match p.programme with
    | some prog => s.enterProgramme p prog
    | none => p.silence
  | .stop => p.silence

/-- An ended segment's after-action, where one is due (R156). -/
def endSegment (s : State) (c : CtxId) : State :=
  if (s.player c).ended then s.setPlayer c (s.afterSegment (s.player c)) else s

/-- The code a player gives at a sample: that of its cursor while PLAYING, 0x00 otherwise (R155). -/
def playerCode (s : State) (c : CtxId) : Byte :=
  if (s.player c).state = .playing then Samples.read s.samples ((s.player c).start + (s.player c).offset) else 0x00

/-- A PLAYING player's offset goes up by 1; a segment that ends hands its after-action (R156). -/
def advancePlayer (s : State) (c : CtxId) : State :=
  if (s.player c).state = .playing then
    let s1 := s.setPlayer c { s.player c with offset := (s.player c).offset + 1 }
    if (s1.player c).ended then s1.hand (.segmentEnd c) else s1
  else s

/-- Before a sample, an ended segment's after-action is carried out if its own command has not come (R156). -/
def catchSegment (s : State) (c : CtxId) : State :=
  if (s.player c).ended then (s.take (.segmentEnd c)).endSegment c else s

end State

/-- SEGMENT_END (R156): the player of a segment that has ended carries out its after-action. -/
def execSegmentEnd (c : CtxId) (s : State) : Host.Outcome State Fault Refusal :=
  .next ((s.take (.segmentEnd c)).endSegment c)

end Sys2Proof.Machine
end

