-- ==== Sys2Proof/Machine/Calls.lean ====
section
/-! DEFINITION. The operations of the call manager that several events share (04, 05): the post of a context,
lamps and bearers, the channel pools, the waiting list, resolution, dispatch, offers, clearing, release and
failover. -/

namespace Sys2Proof.Machine

open Sys2Proof

/-! ### Idle moments of a scan scheduler (R10) -/

/-- No scan in flight, no timeout guard running, and a state in which the scheduler picks (R10). -/
def Loop.idle (L : Loop) : Bool := L.flight.isNone && !L.guard.isRunning && L.state.scans

/-- An idle moment has come about (R10): a pick is handed. -/
def State.wakeScan (s : State) (l : LoopId) : State :=
  if (s.loop l).idle then s.handOnce (.scanPick l) else s

/-! ### The post of a context (R69) -/

namespace State

/-- The entry a post key names: the one at its seen position, when it carries the key's plate. -/
def entryWith (s : State) (l : LoopId) (pos : Nat) (plate : Byte) : Option MapEntry :=
  match s.entryAt l pos with
  | some e => if e.plate = plate then some e else none
  | none => none

/-- The passes of the installations on a loop whose rebuild reports the call manager has not yet taken, oldest first
(R51, R84). -/
def passesDue (s : State) (l : LoopId) : List (List (Option (Nat × Tie))) :=
  s.handed.filterMap (fun i =>
    match i with
    | .rebuildReport m _ passes _ => if m = l then some passes else none
    | _ => none)

/-- The seen position an old entry passed into, 0 where it did not pass (R49). -/
def passedTo (passes : List (Option (Nat × Tie))) (pos : Nat) : Nat :=
  if pos = 0 then 0
  else
    match passes[pos - 1]? with
    | some (some (new, _)) => new
    | _ => 0

/-- Where an entry that the call manager knows by a seen position stands in the map as it is now, followed through the
installations whose rebuild reports are still to be taken (R69, R84); 0 where it is in the map no more. The reports of a
loop are taken in the order handed, so one that is taken before a rebuild report names an entry of the map before it (log
entry 55). -/
def nowAt (s : State) (l : LoopId) (pos : Nat) : Nat :=
  (s.passesDue l).foldl (fun pos passes => passedTo passes pos) pos

/-- Where the post of a context stands in the map as it is now (R55, R69, R84). -/
def keyPos (s : State) (c : CtxId) : Nat := s.nowAt (s.ctx c).loop (s.ctx c).entry

/-- The entry of a context's post (R69). -/
def keyEntry (s : State) (c : CtxId) : Option MapEntry :=
  s.entryWith (s.ctx c).loop (s.keyPos c) (s.ctx c).plate

/-- The non-FREE context whose post key names a loop and map entry (R65). -/
def postCtx (s : State) (l : LoopId) (pos : Nat) : Option CtxId :=
  allCtxs.find? (fun c => (s.ctx c).state != .free && (s.ctx c).loop == l && (s.ctx c).entry == pos)

/-- The desired lamp of an entry set, at an idle moment for the scheduler (R8, R10). -/
def setLampAt (s : State) (l : LoopId) (pos : Nat) (lamp : Lamp) : State :=
  (s.modCmd l pos (fun r => { r with desiredLamp := lamp })).wakeScan l

/-- The desired lamp of a context's post set; nothing when its entry is not in the map (R64). -/
def setLamp (s : State) (c : CtxId) (lamp : Lamp) : State :=
  if (s.keyEntry c).isSome then s.setLampAt (s.ctx c).loop (s.keyPos c) lamp else s

/-- ACK-REQ pending set in an entry's command record (R65). -/
def setAck (s : State) (l : LoopId) (pos : Nat) : State :=
  (s.modCmd l pos (fun r => { r with ackReq := true })).wakeScan l

/-- The acknowledgement of a context's request withdrawn (R83). -/
def withdrawAck (s : State) (c : CtxId) : State :=
  if (s.keyEntry c).isSome then
    s.modCmd (s.ctx c).loop (s.keyPos c) (fun r => { r with ackReq := false })
  else s

/-! ### Bearers (R24, R25, R71) -/

def bearer (s : State) (l : LoopId) (b : BearerId) : Bearer := (s.loop l).bearers[b]

def setBearer (s : State) (l : LoopId) (b : BearerId) (x : Bearer) : State :=
  s.modLoop l (fun L => { L with bearers := L.bearers.set b x })

/-- A request for a bearer is not refused (R24). -/
def canAssign (s : State) (l : LoopId) (b : BearerId) : Bool :=
  (s.loop l).state.carries && (s.bearer l b).st == .free

/-- The lowest-numbered bearer of a loop that may be asked for (R71). -/
def freeBearer (s : State) (l : LoopId) : Option BearerId := allBearers.find? (s.canAssign l)

/-- The loop controller puts a FREE bearer in ASSIGNING, tied to an entry (R24). -/
def assignBearer (s : State) (l : LoopId) (pos : Nat) (b : BearerId) : State :=
  ((s.setBearer l b ⟨.assigning, pos⟩).modCmd l pos (fun r => { r with desiredBearer := some b })).wakeScan l

/-- A release of a bearer by the call manager (R25): nothing for one that is FREE or RELEASING. -/
def releaseBearer (s : State) (l : LoopId) (b : BearerId) : State :=
  if (s.bearer l b).st = .assigning ∨ (s.bearer l b).st = .live then
    ((s.setBearer l b ⟨.releasing, (s.bearer l b).entry⟩).modCmd l (s.bearer l b).entry
      (fun r => { r with desiredBearer := none })).wakeScan l
  else s

/-- The bearer a context holds, released (R81, step 5). A context whose post is in the map no more has lost its bearer at
the rebuild (R25), and releases none, although another context may hold that bearer by now. -/
def releaseHeld (s : State) (c : CtxId) : State :=
  match (s.ctx c).bearer with
  | some b => if (s.keyEntry c).isSome then s.releaseBearer (s.ctx c).loop b else s
  | none => s

/-- The context holds a bearer that is LIVE. -/
def bearerLive (s : State) (c : CtxId) : Bool :=
  match (s.ctx c).bearer with
  | some b => (s.bearer (s.ctx c).loop b).st == .live
  | none => false

/-! ### The channel pools (R130 to R132) -/

def chan (s : State) (t : Trunk) (n : ChanId) : Channel := (s.trunk t).channels[n]

def setChan (s : State) (t : Trunk) (n : ChanId) (x : Channel) : State :=
  s.modTrunk t (fun T => { T with channels := T.channels.set n x })

end State

/-- A channel freed: to BLOCKED, its mark then clearing, when its block mark is set (R130). A channel that is FREE
or BLOCKED is not changed. Its code goes to 0x00 (R130, R149). -/
def Channel.release (x : Channel) : Channel :=
  if x.st = .reserved ∨ x.st = .inUse then ⟨if x.mark then .blocked else .free, false, 0⟩ else x

namespace State

/-- The call manager frees a channel (R130). -/
def freeChan (s : State) (t : Trunk) (n : ChanId) : State := s.setChan t n (s.chan t n).release

/-- The call manager frees a leg. -/
def freeLeg (s : State) : Option Leg → State
  | none => s
  | some g => s.freeChan g.trunk g.chan

/-- The whole pool freed (R132). -/
def freePool (s : State) (t : Trunk) : State :=
  s.modTrunk t (fun T => { T with channels := tabulate T.channels (fun _ x => x.release) })

/-- The lowest-numbered FREE channel (R130). -/
def freeChannel (s : State) (t : Trunk) : Option ChanId := allChans.find? (fun n => (s.chan t n).st == .free)

/-- The number of channels in a state (R96, R132). -/
def chanCount (s : State) (t : Trunk) (st : ChanState) : Nat :=
  (allChans.filter (fun n => (s.chan t n).st == st)).length

/-! ### The signalling transmit queues (R99) -/

/-- A message is made for a trunk; a full queue does not take it, and SIG-ERROR latches (R99). The message being sent counts in
the queue until its last byte has gone: the model's choice (log entry 69). -/
def pushSig (s : State) (t : Trunk) (m : SigMsg) : State :=
  if (s.trunk t).sigQueue.length < Config.sigQueueMax then
    s.modTrunk t (fun T => { T with sigQueue := T.sigQueue ++ [m] })
  else s.latch (.trunk t .sigError)

end State

/-! ### The waiting list (R74, R75) -/

/-- Class rank: EMERGENCY, BREAKDOWN, SERVICE (R74). -/
def classRank : CallClass → Nat
  | .emergency => 0
  | .breakdown => 1
  | .service => 2

/-- The group of a context within its class: re-presented contexts first (R74, R75). -/
def Ctx.group (x : Ctx) : Nat := if 0 < x.represented then 0 else 1

/-- The order of the waiting list (R74). -/
def Ctx.before (x y : Ctx) : Bool :=
  classRank x.cls < classRank y.cls ||
  (classRank x.cls == classRank y.cls &&
    (x.group < y.group || (x.group == y.group && x.entryNo < y.entryNo)))

/-- A context put into the list before the first that it precedes. -/
def insertWaiting (order : CtxId → CtxId → Bool) (c : CtxId) : List CtxId → List CtxId
  | [] => [c]
  | d :: rest => if order c d then c :: d :: rest else d :: insertWaiting order c rest

namespace State

/-- A context enters the waiting list at the place its keys give (R74, R75). -/
def enterWaiting (s : State) (c : CtxId) : State :=
  s.setWaiting (insertWaiting (fun a b => (s.ctx a).before (s.ctx b)) c s.waiting)

/-- A context leaves the waiting list (R74). -/
def leaveWaiting (s : State) (c : CtxId) : State := s.setWaiting (s.waiting.filter (· != c))

/-- The non-FREE contexts with a smaller entry number than `n`. -/
def entriesBelow (s : State) (n : Nat) : Nat :=
  (allCtxs.filter (fun c => (s.ctx c).state != .free && (s.ctx c).entryNo < n)).length

/-- Every non-FREE context renumbered from 0 upward in the order of the entry numbers (R74). -/
def renumber (s : State) : State :=
  { s with
    contexts :=
      tabulate s.contexts (fun _ x => if x.state = .free then x else { x with entryNo := s.entriesBelow x.entryNo })
    entryCount := (allCtxs.filter (fun c => (s.ctx c).state != .free)).length }

/-- The entry count goes up by 1, after a renumbering where it would pass 65535 (R74). The number given is the
count that results. -/
def countEntry (s : State) : State :=
  let s1 := if 65535 ≤ s.entryCount then s.renumber else s
  { s1 with entryCount := s1.entryCount + 1 }

end State

/-! ### Resolution, offers and dispatch (R93 to R98) -/

/-- What a resolution ends in (R93). -/
inductive Resolution where
  | exhausted
  | noTarget
  | found (place : Nat) (target : Target)
  deriving DecidableEq, Repr

namespace State

/-- The route entry of a zone in a plan (R90). -/
def routeEntry (s : State) (p : PlanId) (z : ZoneId) : List Target :=
  s.routes[p.val * 16 + z.val]'(by omega)

/-- A trunk in UP, as last reported to the call manager (R93, R121). -/
def trunkUp (s : State) (t : Trunk) : Bool := (s.trunk t).seen == .up

/-- A context takes the active plan, its tried marks cleared, when it was routed under another (R93, step 1). -/
def takePlan (s : State) (c : CtxId) : State :=
  if (s.ctx c).plan = some s.plan then s
  else s.modCtx c (fun x => { x with plan := some s.plan, tried := [] })

/-- The untried places of a list of targets, each with its target, in order (R93). -/
def untried (tried : List Nat) (targets : List Target) : List (Target × Nat) :=
  (targets.zipIdx 1).filter (fun p => !tried.contains p.2)

/-- The resolution of a context whose plan is the active one (R93, steps 2 to 5). -/
def resolve (s : State) (c : CtxId) : Resolution :=
  let places := untried (s.ctx c).tried (s.routeEntry s.plan (s.ctx c).zone)
  match places with
  | [] => .exhausted
  | _ =>
    match places.find? (fun p => s.trunkUp p.1.trunk) with
    | some (t, place) => .found place t
    | none => .noTarget

/-- A trunk passes the capacity test (R96). -/
def hasCapacity (s : State) (t : Trunk) : Bool :=
  (s.freeChannel t).isSome && s.chanCount t .reserved < s.offerWindow t

/-- A context is eligible (R76); `liveSeen` says that its bearer's LIVE report has been taken (R72). -/
def eligible (s : State) (c : CtxId) : Bool :=
  (s.ctx c).state == .queued && (s.ctx c).liveSeen && s.bearerLive c && !(s.ctx c).retryTimer.isRunning

/-- Exhaustion (R94). -/
def exhaust (s : State) (c : CtxId) : State :=
  (s.modCtx c (fun x => { x with tried := [], retryTimer := Timer.start s.retryFrames })).raise
    (.routeExhausted (s.ctx c).zone)

/-- The OFFER of a context under a new offer generation (R97, step 4). -/
def offerBody (s : State) (c : CtxId) (target : Target) (ch : ChanId) : OfferBody :=
  let x := s.ctx c
  { ctx := c, gen := x.offGen + 1, regGen := x.regGen, cls := x.cls, group := target.group, chan := ch,
    waited := x.waited, represented := x.represented, prevDesk := x.prevDesk,
    identity := x.snapshot.getD (s.identityLost x.loop x.entry x.plate) }

/-- An offer is made on a channel of its target's trunk (R97). -/
def makeOffer (s : State) (c : CtxId) (place : Nat) (target : Target) (ch : ChanId) : State :=
  let s1 := s.setChan target.trunk ch { s.chan target.trunk ch with st := .reserved }
  let s2 := s1.modCtx c (fun x =>
    { x with
      state := .offered
      primary := some ⟨target.trunk, ch⟩
      offGen := x.offGen + 1
      ref := some (x.offGen + 1)
      target := some ⟨place, target⟩
      offerTimer := Timer.start (target.timeout * Config.framesPerSecond) })
  (s2.pushSig target.trunk (.offer (s.offerBody c target ch))).setLamp c .connecting

/-- What a pass does with one context of the waiting list (R95). -/
def dispatchOne (s : State) (c : CtxId) : State :=
  if s.eligible c then
    let s1 := s.takePlan c
    match s1.resolve c with
    | .exhausted => s1.exhaust c
    | .noTarget => s1
    | .found place target =>
      if s1.hasCapacity target.trunk then
        match s1.freeChannel target.trunk with
        | some ch => s1.makeOffer c place target ch
        | none => s1
      else s1
  else s

/-- Dispatch: one pass over the waiting list (R95). -/
def dispatch (s : State) : State := s.waiting.foldl dispatchOne s

/-! ### The level monitor (R145 to R148) -/

/-- A complete block judged (R145, R146, R147), and the next block begun. -/
def judgeBlock (s : State) (c : CtxId) : State :=
  let level := (s.path c).sum / Config.blockSamples
  let s1 := (s.setPath c ⟨0, 0⟩).modCtx c (fun x => { x with lastLevel := level })
  if level < s.silenceThreshold then
    let run := min ((s.ctx c).silentRun + 1) s.silentLimit
    let s2 := s1.modCtx c (fun x => { x with silentRun := run })
    if run = s.silentLimit ∧ (s.ctx c).silentNotified = false then
      (s2.modCtx c (fun x => { x with silentNotified := true })).raise (.silentCall c)
    else s2
  else s1.modCtx c (fun x => { x with silentRun := 0, speechSeen := true, silentNotified := false })

/-- A block of a CONNECTED context is complete and not yet judged. -/
def blockDue (s : State) (c : CtxId) : Bool :=
  (s.ctx c).state == .connected && (s.path c).count == Config.blockSamples

/-- Before a further sample, and before the context leaves CONNECTED for a state that still shows its monitor, a complete
block is judged if its own command has not come (R145, R148; log entry 4). -/
def catchBlock (s : State) (c : CtxId) : State :=
  if s.blockDue c then (s.take (.levelBlockComplete c)).judgeBlock c else s

/-- The level monitor is started afresh (R148). -/
def startMonitor (s : State) (c : CtxId) : State :=
  (s.setPath c ⟨0, 0⟩).modCtx c (fun x => { x with lastLevel := 0, silentRun := 0, silentNotified := false })

/-! ### Clearing and release (R81 to R83) -/

/-- The call's trunk (R98). -/
def callTrunk (s : State) (c : CtxId) : Option Trunk := (s.ctx c).target.map (fun x => x.target.trunk)

/-- CLEARED with the current offer reference, made on the call's trunk (R110). -/
def sendCleared (s : State) (c : CtxId) (cause : Cause) : State :=
  match (s.ctx c).ref, s.callTrunk c with
  | some gen, some t => s.pushSig t (.cleared c gen cause)
  | _, _ => s

/-- CLEARED where an offer or a leg exists (R83): OFFERED, CONNECTED and HELD contexts. -/
def sendIfCarried (s : State) (c : CtxId) (cause : Cause) : State :=
  match (s.ctx c).state with
  | .offered => s.sendCleared c cause
  | .connected => s.sendCleared c cause
  | .held => s.sendCleared c cause
  | _ => s

/-- A context's three timers stopped, its legs dropped, its cause recorded, and its state CLEARING (R81). -/
def clearFields (s : State) (c : CtxId) (cause : Cause) : State :=
  s.modCtx c (fun x =>
    { x with
      state := .clearing
      offerTimer := .stopped
      holdRunning := false
      retryTimer := .stopped
      primary := none
      second := none
      cause := some cause })

/-- R81 steps 1, 2, 3 and 6, and the player's stop. -/
def stopCall (s : State) (c : CtxId) (cause : Cause) : State :=
  ((((s.leaveWaiting c).freeLeg (s.ctx c).primary).freeLeg (s.ctx c).second).clearFields c cause).stopPlayer c

/-- A context becomes FREE (R82): it leaves the waiting list, its bearer field becomes none, its reference is no
longer current (R98), and its per-context notices are dropped (R185). A raise for it that the notice unit has not yet
taken stays in the hand-off list: the model's choice (log entry 48). -/
def freeCtx (s : State) (c : CtxId) : State :=
  (((s.leaveWaiting c).modCtx c (fun x =>
    { x with state := .free, bearer := none, liveSeen := false, ref := none, target := none })).stopPlayer
      c).dropCtxMarks c

/-- A CLEARING context goes to FREE without waiting (R82). -/
def clearsAtOnce (s : State) (c : CtxId) : Bool :=
  (s.ctx c).bearer.isNone || (s.keyEntry c).isNone || !(s.loop (s.ctx c).loop).state.carries

/-- A context enters CLEARING, and FREE at once where R82 says so (R81, R82). -/
def enterClearing (s : State) (c : CtxId) (cause : Cause) : State :=
  let s1 := (((s.catchBlock c).stopCall c cause).setLamp c .cleared).releaseHeld c
  if s1.clearsAtOnce c then s1.freeCtx c else s1

/-- A release that goes straight to FREE, with the effects of R81 that apply (R82). -/
def releaseToFree (s : State) (c : CtxId) (cause : Cause) : State :=
  (((s.stopCall c cause).setLamp c .cleared).releaseHeld c).freeCtx c

/-- A loop cause reaches a context (R83, R85): CLEARED, the acknowledgement withdrawn, FREE at once. A CLEARING
context keeps its first cause, has its acknowledgement withdrawn and becomes FREE. -/
def releaseByLoop (s : State) (c : CtxId) (cause : Cause) : State :=
  match (s.ctx c).state with
  | .free => s
  | .clearing => (s.withdrawAck c).freeCtx c
  | _ => ((s.sendIfCarried c cause).withdrawAck c).releaseToFree c cause

/-- POST-LOST reaches a context (R83, R84): its command record is gone and its bearer has been freed. -/
def releaseLost (s : State) (c : CtxId) : State :=
  match (s.ctx c).state with
  | .free => s
  | .clearing => s.freeCtx c
  | _ => ((s.sendIfCarried c .postLost).stopCall c .postLost).freeCtx c

/-- RESTART reaches a context (R83, R87): nothing is sent, the acknowledgement is withdrawn, CLEARING is entered. A
CLEARING context keeps its first cause, and has its acknowledgement withdrawn. -/
def releaseByRestart (s : State) (c : CtxId) : State :=
  match (s.ctx c).state with
  | .free => s
  | .clearing => s.withdrawAck c
  | _ => (s.withdrawAck c).enterClearing c .restart

/-- DIRECTORY reaches a context (R83, R86). -/
def releaseByDirectory (s : State) (c : CtxId) : State :=
  match (s.ctx c).state with
  | .free => s
  | .clearing => s
  | _ => (s.sendIfCarried c .directory).enterClearing c .directory

/-- A section restart reaches a context (R88): FREE, the acknowledgement withdrawn, lamp CLEARED. The legs are freed
with the pools, the waiting list is emptied and the bearers are released by the restart itself. R88 names the cause
"section restart" for every context and R83 has a CLEARING one keep its first cause; the model follows R88 (log entry
51). -/
def releaseBySection (s : State) (c : CtxId) : State :=
  match (s.ctx c).state with
  | .free => s
  | _ => ((((s.withdrawAck c).clearFields c .sectionRestart).setLamp c .cleared).freeCtx c)

/-- The contexts of a loop that are not FREE, in ascending order. -/
def ctxsOn (s : State) (l : LoopId) : List CtxId :=
  allCtxs.filter (fun c => (s.ctx c).state != .free && (s.ctx c).loop == l)

/-! ### Bearers handed on (R73) -/

/-- The first context of the waiting list whose post is on the loop and whose bearer is none (R73). A post that is in the
map no more takes none: its context is released at the rebuild report (R84; log entry 21). -/
def firstWithout (s : State) (l : LoopId) : Option CtxId :=
  s.waiting.find? (fun c => (s.ctx c).loop == l && (s.ctx c).bearer.isNone && (s.keyEntry c).isSome)

/-- A FREE bearer is handed on (R73). -/
def handOn (s : State) (l : LoopId) (b : BearerId) : State :=
  match s.firstWithout l with
  | some c =>
    if s.canAssign l b then
      (s.assignBearer l (s.keyPos c) b).modCtx c (fun x => { x with bearer := some b, liveSeen := false })
    else s
  | none => s

/-! ### Failover (R112 to R114) -/

/-- An OFFERED context returns to QUEUED with its place marked tried (R103, R109, R113); its leg is dropped. -/
def endOffer (s : State) (c : CtxId) : State :=
  (s.modCtx c (fun x =>
    { x with
      state := .queued
      offerTimer := .stopped
      tried := (x.target.map (·.place)).toList ++ x.tried
      primary := none
      ref := none
      target := none })).setLamp c .registered

/-- A CONNECTED or HELD context is re-presented (R114). -/
def represent (s : State) (c : CtxId) : State :=
  let s1 := (s.catchBlock c).countEntry
  let s2 := s1.modCtx c (fun x =>
    { x with
      state := .queued
      holdRunning := false
      prevDesk := x.desk
      desk := none
      primary := none
      second := none
      ref := none
      target := none
      represented := min (x.represented + 1) 3
      tried := []
      entryNo := s1.entryCount })
  (((s2.enterWaiting c).setLamp c .registered).startPlayer c .queue)

/-- The OFFERED contexts of a trunk. -/
def offeredOn (s : State) (t : Trunk) : List CtxId :=
  allCtxs.filter (fun c => (s.ctx c).state == .offered && s.callTrunk c == some t)

/-- The CONNECTED and HELD contexts with their primary leg on a trunk, by entry number (R112, step 3). -/
def carriedOn (s : State) (t : Trunk) : List CtxId :=
  (allCtxs.filter (fun c =>
    ((s.ctx c).state == .connected || (s.ctx c).state == .held) &&
      (s.ctx c).primary.map (·.trunk) == some t)).insertionSort
    (fun a b => (s.ctx a).entryNo ≤ (s.ctx b).entryNo)

/-- Failover of a trunk at the call manager (R112); the trunk counts as not UP in the dispatch that ends it. A message of which
bytes have gone is cut off with the queue: the model's choice (log entry 69). -/
def failover (s : State) (t : Trunk) : State :=
  let s1 := s.modTrunk t (fun T =>
    { T with sigQueue := [], sigSent := 0, seen := if T.seen = .up then .holdover else T.seen })
  let s2 := (s1.offeredOn t).foldl endOffer s1
  let s3 := (s2.carriedOn t).foldl represent s2
  (s3.freePool t).dispatch

end State

end Sys2Proof.Machine
end

