-- ==== Sys2Proof/Machine/Desk.lean ====
section
/-! DEFINITION. The seven control requests of the desks (05). -/

namespace Sys2Proof.Machine

open Sys2Proof

namespace State

/-- CONFIRM made on the trunk a request arrived on (R100). -/
def confirm (s : State) (t : Trunk) (ref : OfferRef) (request : Byte) (result : DeskResult) (chan : Nat) : State :=
  s.pushSig t (.confirm ref request result chan)

/-- The context a reference names, when it is current and arrived on the call's trunk (R100). -/
def currentCall (s : State) (t : Trunk) (ref : OfferRef) : Option CtxId :=
  match ctxOfNat ref.ctx.toNat with
  | some c => if (s.ctx c).ref = some ref.gen ∧ s.callTrunk c = some t then some c else none
  | none => none

/-- A request answered GONE (R100). -/
def answerGone (s : State) (t : Trunk) (ref : OfferRef) (request : Byte) : State :=
  (s.confirm t ref request .gone 0).latch (.trunk t .sigUnknownCall)

/-- A request whose reference is current is acted on, and any other is answered GONE (R100). -/
def deskRequest (s : State) (t : Trunk) (ref : OfferRef) (request : Byte) (act : CtxId → State) : State :=
  match s.currentCall t ref with
  | some c => act c
  | none => s.answerGone t ref request

/-- A request answered WRONG-STATE (R101). -/
def wrongState (s : State) (t : Trunk) (ref : OfferRef) (request : Byte) : State :=
  s.confirm t ref request .wrongState 0

/-- A request answered OK (R101). -/
def deskOk (s : State) (t : Trunk) (ref : OfferRef) (request : Byte) : State := s.confirm t ref request .ok 0

/-- The channel of a leg turned IN-USE (R130). -/
def useChan (s : State) (g : Leg) : State :=
  s.setChan g.trunk g.chan { s.chan g.trunk g.chan with st := .inUse }

/-- The channel of a leg turned from RESERVED to IN-USE (R102, R130). -/
def answerLeg (s : State) : Option Leg → State
  | some g => s.useChan g
  | none => s

/-- A context enters CONNECTED, by ANSWER or RETRIEVE: lamp, player, level monitor (R102, R104, R148). -/
def connect (s : State) (c : CtxId) : State := ((s.setLamp c .connected).stopPlayer c).startMonitor c

/-- ANSWER for an OFFERED context (R102). -/
def answerCall (s : State) (c : CtxId) (desk : Byte) : State :=
  let s1 := (s.answerLeg (s.ctx c).primary).modCtx c (fun x =>
    { x with state := .connected, offerTimer := .stopped, desk := some desk })
  (s1.leaveWaiting c).connect c

/-- HOLD for a CONNECTED context (R104). -/
def holdCall (s : State) (c : CtxId) : State :=
  let s1 := (s.catchBlock c).modCtx c (fun x =>
    { x with state := .held, holdNotified := false, holdRunning := true, holdCount := 0, holdSub := 0 })
  (s1.setLamp c .hold).startPlayer c .hold

/-- RETRIEVE for a HELD context (R104). -/
def retrieveCall (s : State) (c : CtxId) : State :=
  (s.modCtx c (fun x => { x with state := .connected, holdRunning := false })).connect c

/-- The channel a JOIN may take (R106): none when a second leg is present. -/
def joinLeg (s : State) (c : CtxId) : Option Leg :=
  match (s.ctx c).second, (s.ctx c).primary with
  | none, some g => (s.freeChannel g.trunk).map (fun n => ⟨g.trunk, n⟩)
  | _, _ => none

/-- JOIN for a CONNECTED or HELD context (R106). -/
def joinCall (s : State) (c : CtxId) (t : Trunk) (ref : OfferRef) : State :=
  match s.joinLeg c with
  | some g =>
    ((s.useChan g).modCtx c (fun x => { x with second := some g })).confirm t ref joinCode .ok (chanNumber g.chan)
  | none => s.wrongState t ref joinCode

/-- LEAVE for a CONNECTED or HELD context (R107). -/
def leaveCall (s : State) (c : CtxId) (t : Trunk) (ref : OfferRef) : State :=
  match (s.ctx c).second with
  | some g =>
    (((s.freeChan g.trunk g.chan).modCtx c (fun x => { x with second := none })).deskOk t ref leaveCode).dispatch
  | none => s.wrongState t ref leaveCode

end State

/-- ANSWER (R100 to R102). -/
def execAnswer (t : Trunk) (ref : OfferRef) (desk : Byte) (s : State) : Host.Outcome State Fault Refusal :=
  let s1 := s.take (.answer t ref desk)
  .next (s1.deskRequest t ref answerCode (fun c =>
    match (s1.ctx c).state with
    | .offered => ((s1.answerCall c desk).deskOk t ref answerCode).dispatch
    | _ => s1.wrongState t ref answerCode))

/-- DECLINE (R100, R101, R103). -/
def execDecline (t : Trunk) (ref : OfferRef) (s : State) : Host.Outcome State Fault Refusal :=
  let s1 := s.take (.decline t ref)
  .next (s1.deskRequest t ref declineCode (fun c =>
    match (s1.ctx c).state with
    | .offered =>
      ((((s1.freeLeg (s1.ctx c).primary).endOffer c).deskOk t ref declineCode)).dispatch
    | _ => s1.wrongState t ref declineCode))

/-- HOLD (R100, R101, R104). -/
def execHold (t : Trunk) (ref : OfferRef) (s : State) : Host.Outcome State Fault Refusal :=
  let s1 := s.take (.hold t ref)
  .next (s1.deskRequest t ref holdCode (fun c =>
    match (s1.ctx c).state with
    | .connected => (s1.holdCall c).deskOk t ref holdCode
    | .held => s1.deskOk t ref holdCode
    | _ => s1.wrongState t ref holdCode))

/-- RETRIEVE (R100, R101, R104). -/
def execRetrieve (t : Trunk) (ref : OfferRef) (s : State) : Host.Outcome State Fault Refusal :=
  let s1 := s.take (.retrieve t ref)
  .next (s1.deskRequest t ref retrieveCode (fun c =>
    match (s1.ctx c).state with
    | .held => (s1.retrieveCall c).deskOk t ref retrieveCode
    | .connected => s1.deskOk t ref retrieveCode
    | _ => s1.wrongState t ref retrieveCode))

/-- JOIN (R100, R101, R106). -/
def execJoin (t : Trunk) (ref : OfferRef) (s : State) : Host.Outcome State Fault Refusal :=
  let s1 := s.take (.join t ref)
  .next (s1.deskRequest t ref joinCode (fun c =>
    match (s1.ctx c).state with
    | .connected => s1.joinCall c t ref
    | .held => s1.joinCall c t ref
    | _ => s1.wrongState t ref joinCode))

/-- LEAVE (R100, R101, R107). -/
def execLeave (t : Trunk) (ref : OfferRef) (s : State) : Host.Outcome State Fault Refusal :=
  let s1 := s.take (.leave t ref)
  .next (s1.deskRequest t ref leaveCode (fun c =>
    match (s1.ctx c).state with
    | .connected => s1.leaveCall c t ref
    | .held => s1.leaveCall c t ref
    | _ => s1.wrongState t ref leaveCode))

/-- RELEASE (R100, R101, R108): the CONFIRM is made and the context enters CLEARING with cause DESK. -/
def execRelease (t : Trunk) (ref : OfferRef) (s : State) : Host.Outcome State Fault Refusal :=
  let s1 := s.take (.release t ref)
  .next (s1.deskRequest t ref releaseCode (fun c =>
    match (s1.ctx c).state with
    | .clearing => s1.deskOk t ref releaseCode
    | _ => (((s1.deskOk t ref releaseCode).enterClearing c .desk)).dispatch))

/-- SIGNALLING_MESSAGE_DISCARD (R100): SIG-ERROR latches in the trunk's fault record. -/
def execSignallingMessageDiscard (t : Trunk) (s : State) : Host.Outcome State Fault Refusal :=
  .next ((s.take (.signallingMessageDiscard t)).latch (.trunk t .sigError))

end Sys2Proof.Machine
end

