-- ==== Sys2Proof/Machine/Feeds.lean ====
section
/-! DEFINITION. The feed supervisors and the supply monitor (02). -/

namespace Sys2Proof.Machine

open Sys2Proof

/-! ### One feed -/

/-- A feed state in which the pair is energised (02, table of 2.1). -/
def energised : FeedState → Bool
  | .settling => true
  | .on => true
  | _ => false

/-- Entry to SETTLING (R29): the settle timer starts, the trip filter starts from rest, the open timer is
stopped. -/
def Feed.enterSettling (f : Feed) (frames : Nat) : Feed :=
  { f with
    state := .settling
    settle := Timer.start frames
    trip := if Config.tripLevel ≤ f.current then some 0 else none
    opn := .stopped }

/-- Entry to ON (R29, R34). -/
def Feed.enterOn (f : Feed) : Feed :=
  { f with
    state := .on
    settle := .stopped
    opn := if f.current < Config.openThreshold then .running 0 else .stopped }

/-- The pair de-energised, every timer of the feed stopped (R32, R35, R37). -/
def Feed.deenergise (f : Feed) (st : FeedState) : Feed :=
  { f with state := st, settle := .stopped, trip := none, opn := .stopped }

/-- The trip filter after the current has changed (R31). -/
def Feed.tripAfter (f : Feed) (current : Nat) : Option Nat :=
  if energised f.state ∧ Config.tripLevel ≤ current then some (f.trip.getD 0) else none

/-- The open timer after the current has changed (R34). -/
def Feed.openAfter (f : Feed) (current : Nat) : OpenTimer :=
  if f.state = .on ∧ current < Config.openThreshold then
    match f.opn with
    | .stopped => .running 0
    | x => x
  else .stopped

/-- A clear of OPEN (R34, R180). -/
def Feed.clearOpen (f : Feed) : Feed :=
  if f.state = .on then { f with opn := if f.current < Config.openThreshold then .running 0 else .stopped } else f

namespace State

/-- The feed supervisor reports its state and desired setting to its loop controller (R30). -/
def reportFeed (s : State) (l : LoopId) : State :=
  s.hand (.feedStateReport l (s.feed l).state (s.feed l).desired)

/-- Entry to SETTLING with the settle time in the settings, and its report (R29, R30). -/
def settleFeed (s : State) (l : LoopId) : State :=
  (s.modFeed l (fun f => f.enterSettling s.settleFrames)).reportFeed l

/-- TRIPPED is latched in the loop fault record, or its latch is on its way to it (R32). -/
def trippedLatched (s : State) (l : LoopId) : Bool :=
  (s.loopFault l).has LoopFlag.tripped.bit || s.handed.contains (.faultLatch (.loop l .tripped))

/-- A feed leaves SUPPLY-OFF by its desired setting and its TRIPPED flag (R36). -/
def restoreFeed (s : State) (l : LoopId) : State :=
  if (s.feed l).state = .supplyOff then
    if (s.feed l).desired then
      if s.trippedLatched l then (s.modFeed l (fun f => f.deenergise .tripped)).reportFeed l else s.settleFeed l
    else (s.modFeed l (fun f => f.deenergise .off)).reportFeed l
  else s

/-- FEED-ON reaches the feed supervisor (R38). -/
def feedOn (s : State) (l : LoopId) : State :=
  let changed := !(s.feed l).desired
  let s1 := s.modFeed l (fun f => { f with desired := true })
  match (s.feed l).state with
  | .off =>
    if s.trippedLatched l then (s1.modFeed l (fun f => f.deenergise .tripped)).reportFeed l else s1.settleFeed l
  | _ => if changed then s1.reportFeed l else s1

/-- FEED-OFF reaches the feed supervisor (R37). -/
def feedOff (s : State) (l : LoopId) : State :=
  let changed := (s.feed l).desired
  let s1 := s.modFeed l (fun f => { f with desired := false })
  match (s.feed l).state with
  | .off => if changed then s1.reportFeed l else s1
  | .supplyOff => if changed then s1.reportFeed l else s1
  | _ => (s1.modFeed l (fun f => f.deenergise .off)).reportFeed l

/-- A successful clear of TRIPPED reaches the feed supervisor (R33). -/
def clearTripped (s : State) (l : LoopId) : State :=
  if (s.feed l).state = .tripped ∧ (s.feed l).desired then s.settleFeed l else s

/-! ### The supply monitor (R35, R36) -/

/-- Every feed sent to SUPPLY-OFF with its report (R35). The order, from loop 0 to loop 7, is the model's choice (log
entry 41). -/
def allSupplyOff (s : State) : State :=
  allLoops.foldl (fun s l => (s.modFeed l (fun f => f.deenergise .supplyOff)).reportFeed l) s

/-- The monitor moves from GOOD to LOW (R35). -/
def supplyLow (s : State) : State :=
  ((((s.setSupply { s.supply with state := .low, restore := .stopped }).latch (.sect .supply)).raise
    .supply).allSupplyOff)

/-- The cabinet supply takes a new level (R35, R36). -/
def supplyLevel (s : State) (level : Nat) : State :=
  let s1 := s.setSupply { s.supply with level := level }
  match s.supply.state with
  | .good => if level < Config.undervoltage then s1.supplyLow else s1
  | .low =>
    if level < Config.restoreLevel then s1.setSupply { s1.supply with restore := .stopped }
    else if s.supply.restore.isRunning then s1
    else s1.setSupply { s1.supply with restore := Timer.start Config.restoreFrames }

/-- The restore timer expires: GOOD, the SUPPLY notice, and every feed leaves SUPPLY-OFF (R36). The order, from loop 0 to
loop 7, is the model's choice (log entry 41). -/
def supplyGood (s : State) : State :=
  allLoops.foldl (fun s l => s.restoreFeed l)
    ((s.setSupply { s.supply with state := .good, restore := .stopped }).raise .supply)

end State

/-! ### The commands of the feeds -/

/-- SETTLE_TIMER_EXPIRY (R29): a feed in SETTLING enters ON. -/
def execSettleTimerExpiry (l : LoopId) (s : State) : Host.Outcome State Fault Refusal :=
  let s1 := s.take (.settleTimerExpiry l)
  .next (if (s1.feed l).state = .settling ∧ s.expires (.settleTimerExpiry l) (s1.feed l).settle then
    (s1.modFeed l Feed.enterOn).reportFeed l else s1)

/-- LOOP_CURRENT_CHANGE (R31, R34): the loop current takes a new value. -/
def execLoopCurrentChange (l : LoopId) (current : Nat) (s : State) : Host.Outcome State Fault Refusal :=
  let s1 := s.take (.loopCurrentChange l current)
  .next (s1.modFeed l (fun f =>
    { f with current := current, trip := f.tripAfter current, opn := f.openAfter current }))

/-- The trip filter has reached 10 ms (R31); an event that the part has handed itself counts only while the filter stands
there. -/
def State.trips (s : State) (l : LoopId) : Bool :=
  match (s.feed l).trip with
  | some n => !s.handed.contains (.feedTrip l) || Config.tripFrames ≤ n
  | none => false

/-- The open timer has reached 2 s (R34); an event that the part has handed itself counts only while the timer stands
there. -/
def State.opens (s : State) (l : LoopId) : Bool :=
  match (s.feed l).opn with
  | .running n => !s.handed.contains (.openDetected l) || Config.openFrames ≤ n
  | _ => false

/-- FEED_TRIP (R32): the trip filter of an energised feed reaches 10 ms. -/
def execFeedTrip (l : LoopId) (s : State) : Host.Outcome State Fault Refusal :=
  let s1 := s.take (.feedTrip l)
  .next (if energised (s1.feed l).state ∧ s.trips l then
    ((((s1.modFeed l (fun f => f.deenergise .tripped)).latch (.loop l .tripped)).raise (.feedTrip l)).reportFeed l)
    else s1)

/-- OPEN_DETECTED (R34): the open timer of a feed in ON reaches 2 s. -/
def execOpenDetected (l : LoopId) (s : State) : Host.Outcome State Fault Refusal :=
  let s1 := s.take (.openDetected l)
  .next (if (s1.feed l).state = .on ∧ s.opens l then
    ((s1.modFeed l (fun f => { f with opn := .resting })).latch (.loop l .opn)).raise (.feedTrip l)
    else s1)

/-- SUPPLY_LOSS (R35): the cabinet supply falls to a level below the undervoltage threshold. -/
def execSupplyLoss (level : Nat) (s : State) : Host.Outcome State Fault Refusal :=
  .next ((s.take (.supplyLoss level)).supplyLevel level)

/-- SUPPLY_LEVEL_CHANGE (R36): the cabinet supply takes another level. -/
def execSupplyLevelChange (level : Nat) (s : State) : Host.Outcome State Fault Refusal :=
  .next ((s.take (.supplyLevelChange level)).supplyLevel level)

/-- SUPPLY_RESTORE (R36): the restore timer expires in LOW. -/
def execSupplyRestore (s : State) : Host.Outcome State Fault Refusal :=
  let s1 := s.take .supplyRestore
  .next (if s1.supply.state = .low ∧ s.expires .supplyRestore s1.supply.restore then s1.supplyGood else s1)

end Sys2Proof.Machine
end

