-- ==== Sys2Proof/Machine/Loops.lean ====
section
/-! DEFINITION. The loop controllers (01): choice of command, the scheduler, timeouts and timers, loop states and
the reports other blocks hand them. Scan returns and installations are in Scans.lean and Maps.lean. -/

namespace Sys2Proof.Machine

open Sys2Proof

/-! ### Command choice (R9) -/

/-- Desired and confirmed lamp differ; an unknown lamp differs from every lamp (R9). -/
def CmdRec.lampDiffers (r : CmdRec) : Bool := r.confirmedLamp != some r.desiredLamp

/-- Desired and confirmed bearer differ; an unknown bearer differs from every bearer and from none (R9). -/
def CmdRec.bearerDiffers (r : CmdRec) : Bool :=
  match r.confirmedBearer, r.desiredBearer with
  | .unknown, _ => true
  | .nobearer, d => d.isSome
  | .on c, d => d != some c

/-- The post has a pending command (R9); `releasing` says that a bearer tied to the entry is RELEASING. -/
def CmdRec.pending (r : CmdRec) (releasing : Bool) : Bool :=
  r.ackReq || r.bearerDiffers || releasing || r.lampDiffers || r.identDue || r.testDue || r.healthDue

/-- Line 2 of R9. -/
def CmdRec.needsRelease (r : CmdRec) (releasing : Bool) : Bool :=
  releasing ||
  match r.confirmedBearer, r.desiredBearer with
  | .unknown, d => d.isNone
  | .nobearer, _ => false
  | .on c, d => d != some c

/-- Line 3 of R9, where line 2 has not applied. -/
def CmdRec.needsBearer (r : CmdRec) : Option BearerId :=
  match r.confirmedBearer with
  | .on _ => none
  | _ => r.desiredBearer

/-- Lines 4 to 7 of R9. -/
def CmdRec.lesser (r : CmdRec) : ScanCmd :=
  if r.lampDiffers then .lamp r.desiredLamp
  else if r.identDue then .ident
  else if r.testDue then .test
  else .poll

/-- The command an entry is given in a command scan (R9). -/
def CmdRec.choose (r : CmdRec) (releasing : Bool) : ScanCmd :=
  if r.ackReq then .ackReq
  else if r.needsRelease releasing then .bearerRelease
  else
    match r.needsBearer with
    | some b => .bearer b
    | none => r.lesser

/-- A bearer tied to the entry at a seen position is RELEASING. -/
def Loop.releasingAt (L : Loop) (pos : Nat) : Bool :=
  allBearers.any (fun b => L.bearers[b].st == .releasing && L.bearers[b].entry == pos)

/-- The commands of a command scan, in chain order (R9). -/
def Loop.commands (L : Loop) : List ScanCmd :=
  (L.map.zipIdx 1).map (fun p => p.1.cmd.choose (L.releasingAt p.2))

/-- Some entry has a pending command (R10, line 3). -/
def Loop.anyPending (L : Loop) : Bool :=
  (L.map.zipIdx 1).any (fun p => p.1.cmd.pending (L.releasingAt p.2))

/-! ### The scheduler (R10 to R13) -/

/-- The timer has expired and has not been restarted (R11). -/
def Timer.isExpired : Timer → Bool
  | .expired => true
  | _ => false

/-- The pick of an idle moment (R10). -/
def Loop.pick (L : Loop) : Option Purpose :=
  if !L.idle then none
  else if L.stale && !L.reconPending then some .staleRound
  else if L.state.carries && L.debt == 3 then some .urgentIdent
  else if L.state.carries && L.anyPending then some .command
  else if L.state.carries && (L.pollTimer.isExpired || L.attention) then some .poll
  else if L.state == .failed && L.pollTimer.isExpired then some .poll
  else if L.state.carries && L.sweepTimer.isExpired then some .sweep
  else none

/-- The commands of a pick (R3, R10). -/
def Loop.cmdsFor (L : Loop) : Purpose → List ScanCmd
  | .staleRound => List.replicate 12 .ident
  | .urgentIdent => List.replicate L.map.length .ident
  | .command => L.commands
  | .poll => List.replicate L.map.length .poll
  | .sweep => []

/-- A pick that sends a SWEEP. -/
def Purpose.isSweep : Purpose → Bool
  | .sweep => true
  | _ => false

/-- The picked scan is built and its record made (R3); a SCAN restarts the poll timer and clears the attention mark,
and any scan restarts the sweep timer (R11, R12). -/
def Loop.build (L : Loop) (p : Purpose) (pollFrames sweepFrames : Nat) : Loop :=
  { L with
    flight := some ⟨p, L.cmdsFor p, L.epoch, false⟩
    txLeft := scanBytes p.isSweep (L.cmdsFor p)
    rx := []
    rxDone := false
    scanTimer := .stopped
    pollTimer := if p.isSweep then L.pollTimer else L.pollTimer.restart pollFrames
    sweepTimer := L.sweepTimer.restart sweepFrames
    attention := p.isSweep && L.attention }

/-- SCAN_PICK (R3, R9, R10): the scheduler picks at an idle moment. -/
def execScanPick (l : LoopId) (s : State) : Host.Outcome State Fault Refusal :=
  let s1 := s.take (.scanPick l)
  .next (match (s1.loop l).pick with
    | some p => s1.modLoop l (fun L => L.build p s1.pollFrames s1.sweepFrames)
    | none => s1)

/-- POLL_TIMER_EXPIRY (R10, R11). -/
def execPollTimerExpiry (l : LoopId) (s : State) : Host.Outcome State Fault Refusal :=
  let s1 := s.take (.pollTimerExpiry l)
  .next (if s.expires (.pollTimerExpiry l) (s1.loop l).pollTimer then
    (s1.modLoop l (fun L => { L with pollTimer := .expired })).wakeScan l else s1)

/-- SWEEP_TIMER_EXPIRY (R10, R11). -/
def execSweepTimerExpiry (l : LoopId) (s : State) : Host.Outcome State Fault Refusal :=
  let s1 := s.take (.sweepTimerExpiry l)
  .next (if s.expires (.sweepTimerExpiry l) (s1.loop l).sweepTimer then
    (s1.modLoop l (fun L => { L with sweepTimer := .expired })).wakeScan l else s1)

/-- No entry of the map still owes the open round an answer (R13). -/
def Loop.roundAnswered (L : Loop) : Bool := L.map.all (fun e => !e.cmd.roundOwed)

/-- The round closes when every entry present has answered (R13). -/
def Loop.settleRound (L : Loop) : Loop :=
  if L.roundOpen && L.roundAnswered then { L with roundOpen := false, debt := 0 } else L

/-- An open round is closed and the debt set to 0 whatever has been answered (R13). -/
def Loop.dropRound (L : Loop) : Loop :=
  { L with
    roundOpen := false
    debt := 0
    map := L.map.map (fun e => { e with cmd := { e.cmd with roundOwed := false } }) }

/-- The reconfirm timer expires (R13): a round opens, or the debt of the open one grows. -/
def Loop.reconfirm (L : Loop) (frames : Nat) : Loop :=
  let L1 := { L with reconfirmTimer := Timer.start frames }
  if L.roundOpen then { L1 with debt := min (L.debt + 1) 3 }
  else
    ({ L1 with
        roundOpen := true
        map := L.map.map (fun e =>
          { e with cmd := { e.cmd with identDue := true, roundOwed := true } }) } : Loop).settleRound

/-- RECONFIRM_TIMER_EXPIRY (R11, R13). -/
def execReconfirmTimerExpiry (l : LoopId) (s : State) : Host.Outcome State Fault Refusal :=
  let s1 := s.take (.reconfirmTimerExpiry l)
  .next (if s.expires (.reconfirmTimerExpiry l) (s1.loop l).reconfirmTimer then
    (s1.modLoop l (fun L => L.reconfirm s1.reconfirmFrames)).wakeScan l else s1)

/-! ### Loop states (R19 to R23) -/

namespace State

/-- The loop controller changes its state, reports it and raises LOOP-STATE (R20). -/
def changeLoopState (s : State) (l : LoopId) (st : LoopState) : State :=
  ((s.modLoop l (fun L => { L with state := st })).hand (.loopStateReport l st)).raise (.loopState l)

/-- One bearer made FREE, its entry's desired bearer none, and FREE reported (R19, R20, R25). -/
def dropBearer (s : State) (l : LoopId) (b : BearerId) : State :=
  if (s.bearer l b).st = .free then s
  else
    ((s.modCmd l (s.bearer l b).entry (fun r => { r with desiredBearer := none })).setBearer l b ⟨.free, 0⟩).hand
      (.bearerFreeReport l b)

/-- Every bearer of a loop made FREE (R19, R20), in ascending order: the model's choice (log entry 54). -/
def dropBearers (s : State) (l : LoopId) : State := allBearers.foldl (fun s b => s.dropBearer l b) s

/-- Entry to FAILED (R11 to R13, R20). The FREE reports of the bearers are handed before the loop state report: the model's
choice (log entry 54). -/
def enterFailed (s : State) (l : LoopId) : State :=
  let s1 := s.modLoop l (fun L =>
    { L.dropRound with
      attention := false
      pollTimer := Timer.start s.pollFrames
      sweepTimer := .stopped
      reconfirmTimer := .stopped })
  ((s1.latch (.loop l .failedEntered)).dropBearers l).changeLoopState l .failed

/-- An error of a scan counts (R20, R21). -/
def countError (s : State) (l : LoopId) : State :=
  if (s.loop l).state = .failed then s.modLoop l (fun L => { L with errors := s.errorLimit })
  else
    let n := min ((s.loop l).errors + 1) s.errorLimit
    let s1 := s.modLoop l (fun L => { L with errors := n })
    if s.errorLimit ≤ n then s1.enterFailed l
    else if (s.loop l).state = .run then s1.changeLoopState l .degraded
    else s1

/-- An errored scan: its flag is latched and the error counted (R15, R20). -/
def scanError (s : State) (l : LoopId) (f : LoopFlag) : State := (s.latch (.loop l f)).countError l

/-- STALE set (R23). -/
def setStale (s : State) (l : LoopId) : State := s.modLoop l (fun L => { L with stale := true })

/-- STALE set by a report of the directory while the loop is in START, RUN or DEGRADED (R23). R10's list of how an idle moment
comes about does not name it; that it is one, where the others hold, is the model's choice (log entry 61). -/
def staleByWrite (s : State) (l : LoopId) : State :=
  match (s.loop l).state with
  | .start => (s.setStale l).wakeScan l
  | .run => (s.setStale l).wakeScan l
  | .degraded => (s.setStale l).wakeScan l
  | _ => s

end State

/-- The scan in flight abandoned, the guard ended, every timer stopped, the counts zeroed (R12, R13, R19, R48). -/
def Loop.powerDown (L : Loop) : Loop :=
  { L.dropRound with
    flight := none
    txLeft := []
    scanTimer := .stopped
    guard := .stopped
    rx := []
    rxDone := false
    pollTimer := .stopped
    sweepTimer := .stopped
    reconfirmTimer := .stopped
    errors := 0
    attention := false
    reconPending := false }

/-- Entry to START (R11, R13, R23). -/
def Loop.startUp (L : Loop) (pollFrames : Nat) : Loop :=
  { L.dropRound with stale := true, pollTimer := Timer.start pollFrames, errors := 0 }

namespace State

/-- Entry to OFF or UNPOWERED (R19); nothing when the loop is already there. The FREE reports of the bearers are handed
before the loop state report: the model's choice (log entry 54). -/
def enterDown (s : State) (l : LoopId) (st : LoopState) : State :=
  if (s.loop l).state = st then s
  else ((s.modLoop l Loop.powerDown).dropBearers l).changeLoopState l st

/-- Entry to START (R19, R22) from OFF or UNPOWERED. A report of ON that finds the loop in START, RUN, DEGRADED or FAILED
leaves it there: the model's choice (log entry 42). -/
def enterStart (s : State) (l : LoopId) : State :=
  if (s.loop l).state = .off ∨ (s.loop l).state = .unpowered then
    ((s.modLoop l (fun L => L.startUp s.pollFrames)).changeLoopState l .start).wakeScan l
  else s

end State

/-- FEED_STATE_REPORT (R19, R30): the loop follows its feed. -/
def execFeedStateReport (l : LoopId) (feed : FeedState) (desired : Bool) (s : State) :
    Host.Outcome State Fault Refusal :=
  let s1 := s.take (.feedStateReport l feed desired)
  .next (if desired then
    match feed with
    | .on => s1.enterStart l
    | _ => s1.enterDown l .unpowered
    else s1.enterDown l .off)

/-- SCAN_TIMEOUT (R14, R20): the scan in flight completes as SCAN-TIMEOUT and the timeout guard starts. The guard takes the
scan timeout in the settings as it starts, also where it was written after the scan's END was sent (R171): the model's
choice (log entry 43). -/
def execScanTimeout (l : LoopId) (s : State) : Host.Outcome State Fault Refusal :=
  let s1 := s.take (.scanTimeout l)
  .next (if (s1.loop l).flight.isSome ∧ s.expires (.scanTimeout l) (s1.loop l).scanTimer then
    (s1.modLoop l (fun L =>
      { L with
        flight := none
        txLeft := []
        scanTimer := .stopped
        rx := []
        rxDone := false
        guard := Timer.start s1.scanFrames
        guardSpan := s1.scanFrames })).scanError l .scanTimeout
    else s1)

/-- TIMEOUT_GUARD_END (R14): a whole scan timeout of idle fill has been seen. -/
def execTimeoutGuardEnd (l : LoopId) (s : State) : Host.Outcome State Fault Refusal :=
  let s1 := s.take (.timeoutGuardEnd l)
  .next (if s.expires (.timeoutGuardEnd l) (s1.loop l).guard then
    (s1.modLoop l (fun L => { L with guard := .stopped })).wakeScan l else s1)

end Sys2Proof.Machine
end

