-- ==== Sys2Proof/Machine/Maps.lean ====
section
/-! DEFINITION. The loop controller's chain map (03): installation of a result and the directory's reports. -/

namespace Sys2Proof.Machine

open Sys2Proof

/-! ### Which entries pass (R7, R49) -/

/-- How often a plate stands in a list. -/
def plateCount (plates : List Byte) (p : Byte) : Nat := plates.count p

/-- The new seen position an entry of plate `p` passes into (R49). -/
def passesTo (old new : List Byte) (p : Byte) : Option Nat :=
  if plateCount old p = 1 ∧ plateCount new p = 1 then some (new.idxOf p + 1) else none

/-- The command record an old entry of plate `p` leaves to a new one (R7, R13). -/
def inheritedCmd (old : List MapEntry) (new : List Byte) (p : Byte) : CmdRec :=
  if plateCount (old.map (·.plate)) p = 1 ∧ plateCount new p = 1 then
    match old.find? (fun e => e.plate == p) with
    | some e => { e.cmd with identDue := false, roundOwed := false }
    | none => CmdRec.fresh
  else CmdRec.fresh

/-- The tie of a result entry (R47). -/
def resultTie (slot : Option SlotId) : Tie :=
  match slot with
  | some q => .listed q true
  | none => .unlisted

/-- The new chain map (R7, R47, R49). -/
def newMap (old : List MapEntry) (entries : List ResultEntry) : List MapEntry :=
  entries.map (fun e =>
    { plate := e.plate, tie := resultTie e.slot, cmd := inheritedCmd old (entries.map (·.plate)) e.plate })

/-- For each entry of the old map, the new entry it passed into (R51). -/
def passList (old : List MapEntry) (entries : List ResultEntry) : List (Option (Nat × Tie)) :=
  old.map (fun e =>
    match passesTo (old.map (·.plate)) (entries.map (·.plate)) e.plate with
    | some pos =>
      match entries[pos - 1]? with
      | some r => some (pos, resultTie r.slot)
      | none => none
    | none => none)

/-- A bearer at a rebuild (R25): it follows its entry, or is FREE where the entry does not pass. -/
def Bearer.follow (passes : List (Option (Nat × Tie))) (x : Bearer) : Bearer :=
  if x.st = .free then x
  else
    match passes[x.entry - 1]? with
    | some (some (pos, _)) => ⟨x.st, pos⟩
    | _ => ⟨.free, 0⟩

/-! ### The change checks (R50) -/

/-- Plate and tied slot of each entry. -/
def shape (m : List MapEntry) : List (Byte × Option SlotId) := m.map (fun e => (e.plate, e.tie.slot?))

/-- The plates of the UNLISTED entries. -/
def unlistedPlates (m : List MapEntry) : List Byte :=
  (m.filter (fun e => e.tie.slot?.isNone)).map (·.plate)

/-- UNLISTED-SEEN is latched (R50). -/
def unlistedNew (old new : List MapEntry) : Bool :=
  (unlistedPlates new).any (fun p => !(unlistedPlates old).contains p)

/-- ABSENT-SEEN is latched (R50). -/
def absentNew (old new : List SlotId) : Bool := new.any (fun q => !old.contains q)

namespace State

def latchIf (s : State) (c : Bool) (x : Latch) : State := if c then s.latch x else s

/-- The latches and the raise of R50. -/
def checkChange (s : State) (l : LoopId) (old new : List MapEntry) (oldAbsent newAbsent : List SlotId) : State :=
  let changed := shape old != shape new
  let s1 := ((s.latchIf changed (.loop l .chainChanged)).latchIf (unlistedNew old new)
    (.loop l .unlistedSeen)).latchIf (absentNew oldAbsent newAbsent) (.loop l .absentSeen)
  if changed || unlistedNew old new || absentNew oldAbsent newAbsent then s1.raise (.naming l) else s1

end State

/-! ### Installation (R49) -/

/-- The loop controller with the result in place of its map (R13, R25, R49). -/
def Loop.install (L : Loop) (entries : List ResultEntry) (absent : List SlotId) (reconfirmFrames : Nat) : Loop :=
  { L with
    epoch := L.epoch + 1
    map := newMap L.map entries
    absent := absent
    reconPending := false
    stale := false
    roundOpen := false
    debt := 0
    reconfirmTimer := Timer.start reconfirmFrames
    bearers := tabulate L.bearers (fun _ x => x.follow (passList L.map entries)) }

/-- The bearers that a rebuild frees (R25), in ascending order: the model's choice (log entry 62). -/
def Loop.lostBearers (L : Loop) (entries : List ResultEntry) : List BearerId :=
  allBearers.filter (fun b =>
    L.bearers[b].st != .free && (L.bearers[b].follow (passList L.map entries)).st == .free)

namespace State

/-- A START or FAILED loop enters RUN at an installation (R22, R49). -/
def runAfterInstall (s : State) (l : LoopId) (st : LoopState) : State :=
  if st = .start ∨ st = .failed then
    (s.modLoop l (fun L => { L with errors := 0, sweepTimer := Timer.start s.sweepFrames })).changeLoopState l .run
  else s

/-- The installation of a result (R7, R25, R49 to R51). It is an idle moment in every state that scans, where R10's list names
the entry of RUN alone: the model's choice (log entry 61). -/
def installResult (s : State) (l : LoopId) (entries : List ResultEntry) (absent : List SlotId) : State :=
  let L := s.loop l
  let s1 := s.setLoop l (L.install entries absent s.reconfirmFrames)
  let s2 := s1.checkChange l L.map (newMap L.map entries) L.absent absent
  let s3 := s2.hand (.rebuildReport l (L.epoch + 1) (passList L.map entries) (L.lostBearers entries))
  (s3.runAfterInstall l L.state).wakeScan l

end State

/-- RESULT_INSTALL (R48, R49): a result with the current hand-over number, taken while a reconciliation is pending, is
installed; otherwise it is discarded. -/
def execResultInstall (l : LoopId) (handOver : Byte) (entries : List ResultEntry) (absent : List SlotId) (s : State) :
    Host.Outcome State Fault Refusal :=
  let s1 := s.take (.resultInstall l handOver entries absent)
  .next (if (s1.loop l).reconPending ∧ (s1.loop l).handOver = handOver then s1.installResult l entries absent
    else s1)

/-! ### The directory's reports (R59, R60) -/

/-- The entry tied to a slot becomes UNCONFIRMED, if it was CONFIRMED (R59). -/
def unconfirmTied (slot : SlotId) (m : List MapEntry) : List MapEntry :=
  m.map (fun e => if e.tie = .listed slot true then { e with tie := .listed slot false } else e)

/-- STRUCTURAL_WRITE_REPORT (R23, R59). -/
def execStructuralWriteReport (l : LoopId) (slot : SlotId) (role : WriteRole) (s : State) :
    Host.Outcome State Fault Refusal :=
  let s1 := s.take (.structuralWriteReport l slot role)
  let s2 := match role with
    | .before loopChanged =>
      s1.modLoop l (fun L =>
        { L with
          map := unconfirmTied slot L.map
          absent := if loopChanged then L.absent.filter (· != slot) else L.absent })
    | .after => s1
  .next (s2.staleByWrite l)

/-- The entry tied to a slot becomes UNLISTED in place (R60, step 1). -/
def unlistTied (slot : SlotId) (m : List MapEntry) : List MapEntry :=
  m.map (fun e => if e.tie.slot? = some slot then { e with tie := .unlisted } else e)

namespace State

/-- Step 1 of R60 for the entry of the loop that is tied to the slot, where there is one; its release is handed to the call
manager (R86). R60 has the call manager told of the invalidation, and R86 told by the directory, and neither says when; that it
is told here, as the loop controller takes its report, behind the requests handed before, so that a call registered since the
write is released too, is the model's choice (log entry 75). An entry of a loop that the record has left (R59) keeps its tie,
and its call is not released: the model's choice (log entry 70). -/
def unlistSlot (s : State) (l : LoopId) (slot : SlotId) : State :=
  match s.tiedEntry l slot with
  | some (pos, e) =>
    (((s.modLoop l (fun L => { L with map := unlistTied slot L.map })).latchIf
      (!(unlistedPlates (s.loop l).map).contains e.plate) (.loop l .unlistedSeen)).raise (.naming l)).hand
        (.directoryRelease l pos)
  | none => s

end State

/-- INVALIDATION_REPORT (R23, R60). -/
def execInvalidationReport (l : LoopId) (slot : SlotId) (s : State) : Host.Outcome State Fault Refusal :=
  let s1 := (s.take (.invalidationReport l slot)).unlistSlot l slot
  .next ((s1.modLoop l (fun L => { L with absent := L.absent.filter (· != slot) })).staleByWrite l)

end Sys2Proof.Machine
end

