-- ==== Sys2Proof/Machine/Wire.lean ====
section
/-! DEFINITION. The byte streams of the service channel (R161, R164): the service transmitters, and the bytes the
service and signalling receivers take. -/

namespace Sys2Proof.Machine

open Sys2Proof

/-- The transmitter is idle: sending nothing, and no REPLY is waiting (R164). -/
def Service.idle (v : Service) : Bool := v.tx == .idle && v.reply.isNone

/-- A waiting REPLY is started when the transmitter is sending nothing (R164). -/
def Service.startReply (v : Service) : Service :=
  match v.tx, v.reply with
  | .idle, some r => { v with tx := .reply r.bytes, reply := none }
  | _, _ => v

/-- The byte a transmitter sends in slot 1, or idle fill (R116, R164). -/
def Transmit.byte : Transmit → Byte
  | .notice (b :: _) => b
  | .reply (b :: _) => b
  | _ => trunkIdle

/-- The transmitter after that byte; a REPLY wholly sent keeps its place until REPLY_COMPLETE (R162, R164). -/
def Transmit.next : Transmit → Transmit
  | .idle => .idle
  | .notice (_ :: b :: rest) => .notice (b :: rest)
  | .notice _ => .idle
  | .reply left => .reply (left.drop 1)

namespace State

/-- The notice unit's choice is to be made (R183). NOTICE_START is handed once, after what stands in `handed`, so the raises
that stand there are taken first and one choice serves them all: the model's choice (log entry 71). -/
def wakeNotice (s : State) : State := s.handOnce .noticeStart

/-- A waiting REPLY starts at the first byte slot at which nothing is being sent (R164). -/
def startReply (s : State) (t : Trunk) : State := s.modService t Service.startReply

/-- A transmitter has become idle after a NOTICE: a waiting REPLY is next, or the notice unit's choice (R164, R183). -/
def afterNotice (s : State) (t : Trunk) : State :=
  if (s.service t).reply.isSome then s.handOnce (.replyStart t) else if s.home = t then s.wakeNotice else s

/-- The events that the sending of a byte brings (R162, R164, R183). -/
def afterByte (s : State) (t : Trunk) (was : Transmit) : State :=
  match was with
  | .notice [_] => s.afterNotice t
  | .reply [_] => s.hand (.replyComplete t)
  | _ => s

/-- One byte of the service channel sent on a trunk (R116, R164). -/
def sendService (s : State) (t : Trunk) : State :=
  let v := s.service t
  (s.setService t { v with tx := v.tx.next }).afterByte t v.tx

/-- One byte into the service receiver of a trunk (R161). -/
def feedService (s : State) (t : Trunk) (b : Byte) : State :=
  let v := s.service t
  let s1 := s.setService t { v with rx := (v.rx.step b).1 }
  match (v.rx.step b).2 with
  | .quiet => s1
  | .badLength => s1.hand (.serviceMessageDiscard t .badLength)
  | .message got => s1.hand (serviceEvent t got)

/-- One byte into the signalling receiver of a trunk (R100). -/
def feedSignalling (s : State) (t : Trunk) (b : Byte) : State :=
  let v := s.trunk t
  let s1 := s.setTrunk t { v with sigRx := (v.sigRx.step b).1 }
  match (v.sigRx.step b).2 with
  | .quiet => s1
  | .badLength => s1.hand (.signallingMessageDiscard t)
  | .message got => s1.hand (signallingEvent t got)

/-- The service and signalling receivers of a trunk hunt afresh (R118, R161). -/
def dropMessages (s : State) (t : Trunk) : State :=
  (s.modService t (fun v => { v with rx := .hunting })).modTrunk t (fun T => { T with sigRx := .hunting })

end State

end Sys2Proof.Machine
end

