-- ==== Sys2Proof/Machine/Notices.lean ====
section
/-! DEFINITION. The notice unit (10): latches and raises taken, and notices started with their data (R184, R200). -/

namespace Sys2Proof.Machine

open Sys2Proof

/-! ### Codes of states (R199) -/

end Sys2Proof.Machine

namespace Sys2Proof

open Machine

/-- A loop state as coded (R199). -/
def LoopState.code : LoopState → Nat
  | .off => 0
  | .unpowered => 1
  | .start => 2
  | .run => 3
  | .degraded => 4
  | .failed => 5

/-- A feed state as coded (R199). -/
def FeedState.code : FeedState → Nat
  | .off => 0
  | .settling => 1
  | .on => 2
  | .tripped => 3
  | .supplyOff => 4

/-- A trunk state as coded (R199). -/
def TrunkState.code : TrunkState → Nat
  | .off => 0
  | .hunt => 1
  | .up => 2
  | .holdover => 3
  | .farFault => 4

end Sys2Proof

namespace Sys2Proof.Machine

/-- A context state as coded (R199). -/
def CtxState.code : CtxState → Nat
  | .free => 0
  | .queued => 1
  | .offered => 2
  | .connected => 3
  | .held => 4
  | .clearing => 5

/-- A test result as coded (R199). -/
def TestResult.code : TestResult → Nat
  | .none => 0
  | .pass => 1
  | .fail => 2

/-- A supply state as coded (R199). -/
def SupplyState.code : SupplyState → Nat
  | .good => 0
  | .low => 1

/-- The flags of a record in one byte. -/
def FaultRec.flagsByte (r : FaultRec) : Byte := r.flags.setWidth 8

/-- The flags of a record in two bytes. -/
def FaultRec.flagsBytes (r : FaultRec) : List Byte := be16 r.flags.toNat

/-- One flag of a record as a byte. -/
def FaultRec.flagByteOf (r : FaultRec) (bit : Nat) : Byte := flagByte (r.has bit)

/-- An identity record after its presence byte (R200). -/
def optIdentity : Option Identity → List Byte
  | some i => 1 :: i.bytes
  | none => [0]

namespace State

/-- The loop byte (R199). -/
def loopByte (s : State) (l : LoopId) : Byte :=
  byte ((s.loop l).state.code + (if (s.loop l).stale then 8 else 0) + 16 * (s.feed l).state.code
    + if (s.feed l).desired then 128 else 0)

/-- The identity record a context's notice carries (R184). -/
def identityOfCtx (s : State) (c : CtxId) : Identity :=
  match s.keyEntry c with
  | some e => s.identityOf (s.ctx c).loop (s.keyPos c) e
  | none => s.identityLost (s.ctx c).loop (s.ctx c).entry (s.ctx c).plate

/-- The number of contexts in a state (R89). -/
def ctxCount (s : State) (st : CtxState) : Nat := (allCtxs.filter (fun c => (s.ctx c).state == st)).length

/-- Context number, call number, state and current desk, with which two notices open (R200). -/
def callHead (s : State) (c : CtxId) : List Byte :=
  [byte c.val, byte c.val, (s.ctx c).regGen, byte (s.ctx c).state.code] ++ optByte (s.ctx c).desk

/-- Data of RESTART. -/
def dataRestart (s : State) : List Byte := [s.sectionFault.flagsByte, s.sectionFault.count, byte s.home.code]

/-- Data of SUPPLY. -/
def dataSupply (s : State) : List Byte :=
  [byte s.supply.state.code, s.sectionFault.flagByteOf SectionFlag.supply.bit, s.sectionFault.count]

/-- Data of FEED-TRIP. -/
def dataFeedTrip (s : State) (l : LoopId) : List Byte :=
  [s.loopByte l, byte ((if (s.loopFault l).has LoopFlag.tripped.bit then 1 else 0)
    + if (s.loopFault l).has LoopFlag.opn.bit then 2 else 0), (s.loopFault l).count]

/-- Data of LOOP-STATE. -/
def dataLoopState (s : State) (l : LoopId) : List Byte :=
  s.loopByte l :: ((s.loopFault l).flagsBytes ++ [(s.loopFault l).count])

/-- Data of TRUNK-STATE. -/
def dataTrunkState (s : State) (t : Trunk) : List Byte :=
  let T := s.trunk t
  [byte T.state.code, byte ((if T.aligned then 1 else 0) + if T.alarm then 2 else 0), (s.trunkFault t).flagsByte,
    (s.trunkFault t).count, byte T.slips]

/-- Data of CONTEXTS-FULL. -/
def dataContextsFull (s : State) : List Byte :=
  [byte (32 - s.ctxCount .free), s.sectionFault.flagByteOf SectionFlag.contextsFull.bit, s.sectionFault.count]

/-- The QUEUED contexts of a zone whose retry timer is running. -/
def retrying (s : State) (z : ZoneId) : Nat :=
  (allCtxs.filter (fun c =>
    (s.ctx c).state == .queued && (s.ctx c).zone == z && (s.ctx c).retryTimer.isRunning)).length

/-- Data of ROUTE-EXHAUSTED. -/
def dataRouteExhausted (s : State) (z : ZoneId) : List Byte := [byte z.val, byte s.plan.val, byte (s.retrying z)]

/-- Data of CALL-ABANDONED for a slot. -/
def dataAbandonedSlot (s : State) (q : SlotId) : List Byte :=
  byte (s.abandons[q.val]) :: optIdentity (s.identityOfSlot q)

/-- Data of CALL-ABANDONED for a loop. -/
def dataAbandonedLoop (s : State) (l : LoopId) : List Byte :=
  let p := (s.abandonPosts[l]).getD (0, 0)
  [byte (s.abandons[96 + l.val]), byte l.val, byte p.1, p.2]

/-- Data of SILENT-CALL. -/
def dataSilentCall (s : State) (c : CtxId) : List Byte :=
  s.callHead c ++ [flagByte (s.ctx c).speechSeen] ++ be16 (s.ctx c).lastLevel ++ be16 (s.ctx c).silentRun
    ++ (s.identityOfCtx c).bytes

/-- Data of HOLD-LONG. -/
def dataHoldLong (s : State) (c : CtxId) : List Byte :=
  s.callHead c ++ be16 (s.ctx c).holdCount ++ (s.identityOfCtx c).bytes

/-- Data of NAMING. -/
def dataNaming (s : State) (l : LoopId) : List Byte :=
  let L := s.loop l
  [L.epoch, byte L.map.length, byte (L.map.filter (fun e => e.tie.slot?.isNone)).length, byte L.absent.length,
    flagByte L.stale] ++ (s.loopFault l).flagsBytes ++ [(s.loopFault l).count]

/-- Data of POST-FAULT. -/
def dataPostFault (s : State) (q : SlotId) : List Byte :=
  [(s.postFault q).flagsByte, (s.postFault q).count, byte (s.testResult q).code] ++ optIdentity (s.identityOfSlot q)

/-- Data of CALL-ABANDONED by object index: slots, then loops from 96 (R181). -/
def dataAbandoned (s : State) (index : Nat) : List Byte :=
  if index < 96 then s.dataAbandonedSlot (Fin.ofNat 96 index) else s.dataAbandonedLoop (Fin.ofNat 8 (index - 96))

/-- The data of a notice, by rank and object index (R184, R200). -/
def noticeData (s : State) (m : Nat × Nat) : List Byte :=
  match m.1 with
  | 1 => s.dataRestart
  | 2 => s.dataSupply
  | 3 => s.dataFeedTrip (Fin.ofNat 8 m.2)
  | 4 => s.dataLoopState (Fin.ofNat 8 m.2)
  | 5 => s.dataTrunkState (if m.2 = 0 then .A else .B)
  | 6 => s.dataContextsFull
  | 7 => s.dataRouteExhausted (Fin.ofNat 16 m.2)
  | 8 => s.dataAbandoned m.2
  | 9 => s.dataSilentCall (Fin.ofNat 32 m.2)
  | 10 => s.dataHoldLong (Fin.ofNat 32 m.2)
  | 11 => s.dataNaming (Fin.ofNat 8 m.2)
  | 12 => s.dataPostFault (Fin.ofNat 96 m.2)
  | _ => []

/-- The message of a notice (R198). -/
def noticeMessage (s : State) (m : Nat × Nat) : List Byte :=
  frameMsg 0x21 (be16 s.sectNo ++ [byte m.1, byte m.2] ++ s.noticeData m)

/-- A notice kind is enabled (R182, R195). -/
def enabled (s : State) (m : Nat × Nat) : Bool := s.mask.getLsbD (m.1 - 1)

/-- The notice unit's choice (R183): the marks stand by rank and index, so it is the first enabled one. -/
def choice (s : State) : Option (Nat × Nat) := s.marks.find? s.enabled

/-- A pending mark cleared at the start of its notice, with the abandon count of a CALL-ABANDONED object (R181,
R183). -/
def clearMark (s : State) (m : Nat × Nat) : State :=
  let s1 := s.setMarks (s.marks.filter (· != m))
  if m.1 = 8 then s1.clearAbandon m.2 else s1

/-- A notice started (R183). -/
def startNotice (s : State) (m : Nat × Nat) : State :=
  (s.clearMark m).modService s.home (fun v => { v with tx := .notice (s.noticeMessage m) })

end State

/-- NOTICE_START (R183): the notice unit chooses and starts a notice when the home transmitter is idle. -/
def execNoticeStart (s : State) : Host.Outcome State Fault Refusal :=
  let s1 := s.take .noticeStart
  .next (if (s1.service s1.home).idle then
    match s1.choice with
    | some m => s1.startNotice m
    | none => s1
    else s1)

/-- The notice that the source of a latch raises when the flag goes from clear to set (R53, R66, R177). -/
def raiseOfLatch : Latch → Option Raise
  | .post slot _ => some (.postFault slot)
  | .loop l .overlong => some (.naming l)
  | _ => none

/-- FAULT_LATCH (R177): the notice unit takes a latch. -/
def execFaultLatch (latch : Latch) (s : State) : Host.Outcome State Fault Refusal :=
  let s1 := s.take (.faultLatch latch)
  .next (if (s1.faultOf latch).has latch.bit then s1
    else
      match raiseOfLatch latch with
      | some r => (s1.latchNow latch).raise r
      | none => s1.latchNow latch)

/-- NOTICE_RAISE (R181, R183): the notice unit takes a raise and makes its choice. -/
def execNoticeRaise (raise : Raise) (s : State) : Host.Outcome State Fault Refusal :=
  .next (((s.take (.noticeRaise raise)).raiseNow raise).wakeNotice)

end Sys2Proof.Machine
end

