-- ==== Sys2Proof/Machine/Posts.lean ====
section
/-! DEFINITION. The posts of a ring as far as the part depends on them (R2, R4, R6): what a live post does with a
scan, and the six events at a post. -/

namespace Sys2Proof.Machine

open Sys2Proof

/-! ### A post and a scan (R4, R6) -/

/-- The health byte of a post (R188). -/
def Post.health (p : Post) : Byte := byte (p.sensors.toNat + if p.restarted then 64 else 0)

/-- A post restarts (R4, R6, 3.4): it loses its lamp, its bearer and its latched request, and sets RESTARTED and
ATTN. -/
def Post.restart (p : Post) : Post :=
  { p with attn := true, req := none, restarted := true, lamp := none, bearer := none }

/-- BEARER-OK (R6): the post is on the bearer it was last assigned. Before any assignment it is the post's own trait
(log entry 9). -/
def Post.bearerOk (p : Post) : Bool :=
  match p.assigned with
  | some b => p.bearer == some b
  | none => p.idleOk

/-- FAULT (R6). -/
def Post.fault (p : Post) : Bool := p.restarted || p.sensors != 0

/-- The status byte of a post as it stands (R6, R188). CALLER is one bit of the post, for the handset and for a hands-free
call: the model's choice (log entry 73). -/
def Post.status (p : Post) : Byte :=
  byte (128 + (if p.attn then 64 else 0) + 16 * reqCode p.req + (if p.offHook then 8 else 0)
    + (if p.bearerOk then 4 else 0) + (if p.doorOpen then 2 else 0) + (if p.fault then 1 else 0))

/-- What a post is when it inserts its pair, the reply it gives, and what it is afterwards. -/
structure Acted where
  at_   : Post
  reply : Byte
  after : Post
  deriving DecidableEq, Repr

/-- A post that acts and goes on as it is. -/
def Acted.stay (p : Post) (reply : Byte) : Acted := ⟨p, reply, p⟩

/-- A post takes a command byte and acts on it (R4 step 2, R6, R189). The RESTARTED that a POLL clears is a change of a
health flag, and sets ATTN (R4). -/
def Post.act (p0 : Post) (cmd : Byte) : Acted :=
  let p := { p0 with attn := false }
  let arg := (cmd.extractLsb' 0 4).toNat
  match (cmd.extractLsb' 4 3).toNat with
  | 1 => ⟨p, p.health, { p with restarted := false, attn := p.restarted }⟩
  | 2 => .stay p p.plate
  | 3 =>
    match Lamp.ofCode arg with
    | some s => .stay { p with lamp := some s } (takenByte cmd)
    | none => .stay p noCmd
  | 4 =>
    if arg = 15 then .stay { p with bearer := none } (takenByte cmd)
    else if h : arg < 4 then .stay { p with bearer := some ⟨arg, h⟩, assigned := some ⟨arg, h⟩ } (takenByte cmd)
    else .stay p noCmd
  | 5 => .stay { p with req := none } (takenByte cmd)
  | 6 => .stay p (if p.loopback then 0xE1 else 0xE0)
  | 7 => ⟨p, noCmd, p.restart⟩
  | _ => .stay p noCmd

/-- The first command byte whose taken mark is clear, and the command bytes with that mark set (R4 step 2). -/
def takeCommand : List Byte → Option (Byte × List Byte)
  | [] => none
  | c :: rest =>
    if isTaken c then (takeCommand rest).map (fun p => (p.1, c :: p.2)) else some (c, takenByte c :: rest)

/-- A scan on its way round the ring: HEAD, command bytes, pairs in the order in which they will return. -/
structure Passing where
  head  : Byte
  cmds  : List Byte
  pairs : List (Byte × Byte)
  deriving DecidableEq, Repr

/-- A post writes its ATTN into the head by OR (R4 step 1). -/
def orAttn (head : Byte) (attn : Bool) : Byte := if attn then head ||| 1 else head

/-- A live post acts on a passing SCAN (R4). -/
def Post.passScan (p : Post) (x : Passing) : Passing × Post :=
  let head := orAttn x.head p.attn
  match takeCommand x.cmds with
  | some (cmd, cmds) =>
    let a := p.act cmd
    (⟨head, cmds, (a.at_.status, a.reply) :: x.pairs⟩, a.after)
  | none => (⟨head, x.cmds, (p.status, noCmd) :: x.pairs⟩, p)

/-- The posts of a ring act on a SCAN in ring order (R4). -/
def passScanAll : List Post → Passing → Passing × List Post
  | [], x => (x, [])
  | p :: rest, x =>
    if p.live then
      let r := p.passScan x
      ((passScanAll rest r.1).1, r.2 :: (passScanAll rest r.1).2)
    else ((passScanAll rest x).1, p :: (passScanAll rest x).2)

/-- The head of a SWEEP after the live posts of the ring (R4 step 1). -/
def passSweep (posts : List Post) (head : Byte) : Byte :=
  posts.foldl (fun h p => if p.live then orAttn h p.attn else h) head

/-- The bytes of a passing scan as they return (R5). -/
def Passing.bytes (x : Passing) : List Byte :=
  x.head :: (x.cmds ++ x.pairs.flatMap (fun p => [p.1, p.2]) ++ [scanEnd])

/-- The ring acts on a whole outbound scan, whose returned bytes are then on their way (R4, R5). -/
def Ring.actOn (r : Ring) (sweep : Bool) (cmds : List ScanCmd) : Ring :=
  if sweep then
    { r with transit := r.transit ++ (⟨passSweep r.posts (scanHead true), [], []⟩ : Passing).bytes }
  else
    let x := passScanAll r.posts ⟨scanHead false, cmds.map ScanCmd.byte, []⟩
    ⟨x.2, r.transit ++ x.1.bytes⟩

/-- A live post is on a bearer (R2). -/
def Ring.holds (r : Ring) (b : BearerId) : Bool := r.posts.any (fun p => p.live && p.bearer == some b)

/-! ### Events at a post -/

namespace State

/-- The post at a place of a ring changed; nothing where no post is fitted there. -/
def modPost (s : State) (l : LoopId) (place : Nat) (f : Post → Post) : State :=
  s.setRing l { s.ring l with posts := (s.ring l).posts.modify place f }

end State

/-- The change of a live post, and ATTN with it when anything changed (R4). -/
def Post.changed (p : Post) (f : Post → Post) : Post :=
  if p.live ∧ f p ≠ p then { f p with attn := true } else p

/-- CALL_BUTTON_PRESS (R4): a live post latches a request and sets its ATTN. -/
def execCallButtonPress (l : LoopId) (place : Nat) (cls : CallClass) (s : State) :
    Host.Outcome State Fault Refusal :=
  .next ((s.take (.callButtonPress l place cls)).modPost l place
    (fun p => if p.live then { p with req := some cls, attn := true } else p))

/-- HOOK_CHANGE (R4): the hook state of a live post changes. The spec gives no event for a hands-free call that goes live or
ends, nor says whether it sets ATTN; this command moves CALLER for it too, with ATTN: the model's choice (log entry 73). -/
def execHookChange (l : LoopId) (place : Nat) (off : Bool) (s : State) : Host.Outcome State Fault Refusal :=
  .next ((s.take (.hookChange l place off)).modPost l place
    (fun p => p.changed (fun q => { q with offHook := off })))

/-- DOOR_SWITCH_CHANGE (R4): the door switch of a live post changes. -/
def execDoorSwitchChange (l : LoopId) (place : Nat) (opn : Bool) (s : State) : Host.Outcome State Fault Refusal :=
  .next ((s.take (.doorSwitchChange l place opn)).modPost l place
    (fun p => p.changed (fun q => { q with doorOpen := opn })))

end Sys2Proof.Machine

namespace Sys2Proof

open Machine

/-- The bit of a sensor flag in the health byte (R188). -/
def HealthFlag.bit : HealthFlag → Nat
  | .battery => 0
  | .handset => 1
  | .speaker => 2
  | .lamp => 3
  | .heater => 4
  | .tamper => 5

end Sys2Proof

namespace Sys2Proof.Machine

/-- A sensor flag of a post set or cleared. -/
def Post.setSensor (p : Post) (f : HealthFlag) (on : Bool) : Post :=
  { p with
    sensors :=
      if on then p.sensors ||| BitVec.ofNat 6 (2 ^ f.bit) else p.sensors &&& ~~~(BitVec.ofNat 6 (2 ^ f.bit)) }

/-- HEALTH_FLAG_CHANGE (R4): a health flag of a live post changes. -/
def execHealthFlagChange (l : LoopId) (place : Nat) (flag : HealthFlag) (on : Bool) (s : State) :
    Host.Outcome State Fault Refusal :=
  .next ((s.take (.healthFlagChange l place flag on)).modPost l place
    (fun p => p.changed (fun q => q.setSensor flag on)))

/-- POST_POWER_RESTART (R4, R6): a live post restarts. -/
def execPostPowerRestart (l : LoopId) (place : Nat) (s : State) : Host.Outcome State Fault Refusal :=
  .next ((s.take (.postPowerRestart l place)).modPost l place (fun p => if p.live then p.restart else p))

/-- A post as it is fitted: powered and restarted. -/
def Post.fitted (plate : Byte) (idleOk loopback : Bool) : Post :=
  { plate := plate, live := true, attn := true, req := none, offHook := false, doorOpen := false, sensors := 0,
    restarted := true, lamp := none, bearer := none, assigned := none, idleOk := idleOk, loopback := loopback }

/-- The posts of a ring after a change of a relay or of the posts fitted (R4). -/
def ringAfter (posts : List Post) : RingChange → List Post
  | .losePower place => posts.modify place (fun p => { p with live := false })
  | .regainPower place => posts.modify place (fun p => if p.live then p else { p.restart with live := true })
  | .fit place plate idleOk loopback =>
    posts.take place ++ Post.fitted plate idleOk loopback :: posts.drop place
  | .remove place => posts.eraseIdx place

/-- BYPASS_RELAY_CHANGE (R4): a relay opens or closes, or a post is fitted or removed. -/
def execBypassRelayChange (l : LoopId) (change : RingChange) (s : State) : Host.Outcome State Fault Refusal :=
  let s1 := s.take (.bypassRelayChange l change)
  .next (s1.setRing l { s1.ring l with posts := ringAfter (s1.ring l).posts change })

end Sys2Proof.Machine
end

