-- ==== Sys2Proof/Machine/Power.lean ====
section
/-! DEFINITION. Power-on (00_scope.md, 11.9): the state after it, and the first look at the cabinet supply (R28). -/

namespace Sys2Proof.Machine

open Sys2Proof

/-- A feed supervisor after power-on, with the loop current as it stands at its pin (R28, R31). -/
def Feed.powered (current : Nat) : Feed :=
  { Feed.reset with current := current, trip := if Config.tripLevel ≤ current then some 0 else none }

namespace State

/-- The part after power-on. The queue of commands, the posts of the rings and the pins stay; all else is as
`State.reset` has it. -/
def powered (s : State) (level : Nat) : State :=
  { State.reset with
    pending := s.pending
    rings := tabulate s.rings (fun _ r => { r with transit := [] })
    feeds := tabulate s.feeds (fun _ f => Feed.powered f.current)
    supply := { State.reset.supply with level := level } }

end State

/-- POWER_ON (R28, R35): every block at its value after power-on; a supply below the undervoltage threshold moves the
supply monitor to LOW at once. -/
def execPowerOn (supply : Nat) (s : State) : Host.Outcome State Fault Refusal :=
  .next (if supply < Config.undervoltage then (s.powered supply).supplyLow else s.powered supply)

end Sys2Proof.Machine
end

