-- ==== Sys2Proof/Machine/Reports.lean ====
section
/-! DEFINITION. The events of the call manager that come from the loops, the directory and its own timers (04, 05). -/

namespace Sys2Proof.Machine

open Sys2Proof

/-! ### Registration (R65 to R68) -/

namespace State

/-- The lowest-numbered FREE context (R67). -/
def freeContext (s : State) : Option CtxId := allCtxs.find? (fun c => (s.ctx c).state == .free)

end State

/-- A context's fields at allocation (R63, R67). -/
def Ctx.allocate (x : Ctx) (cls : CallClass) (l : LoopId) (pos : Nat) (plate : Byte) (snapshot : Identity) (zone : ZoneId)
    (entryNo : Nat) : Ctx :=
  { Ctx.reset with
    state := .queued
    cls := cls
    regGen := x.regGen + 1
    offGen := x.offGen
    loop := l
    plate := plate
    entry := pos
    snapshot := some snapshot
    zone := zone
    entryNo := entryNo }

namespace State

/-- The call manager asks for a bearer at registration (R71). -/
def askBearer (s : State) (c : CtxId) (l : LoopId) (pos : Nat) : State :=
  match s.freeBearer l with
  | some b => (s.assignBearer l pos b).modCtx c (fun x => { x with bearer := some b })
  | none => s

/-- Registration (R67) of the post reported at a seen position, whose entry is `e`. -/
def register (s : State) (c : CtxId) (l : LoopId) (pos : Nat) (e : MapEntry) (cls : CallClass) : State :=
  let now := s.nowAt l pos
  let s1 := s.countEntry
  let s2 := s1.modCtx c (fun x =>
    x.allocate cls l pos e.plate (s1.identityOf l now e) (s1.zoneOf l e.tie) s1.entryCount)
  ((((s2.setAck l now).setLampAt l now .registered).askBearer c l now)).enterWaiting c

/-- A refused class (R66). -/
def refuseClass (s : State) (l : LoopId) (pos : Nat) (tie : Tie) : State :=
  let s1 := (s.setAck l (s.nowAt l pos)).setLampAt l (s.nowAt l pos) .refused
  match tie.slot? with
  | some slot => s1.latch (.post slot .refusedClass)
  | none => s1

/-- A request of a post without a context (R66 to R68). -/
def newRequest (s : State) (l : LoopId) (pos : Nat) (e : MapEntry) (cls : CallClass) : State :=
  if (s.permitsOf e.tie).allows cls then
    match s.freeContext with
    | some c => s.register c l pos e cls
    | none => (s.latch (.sect .contextsFull)).raise .contextsFull
  else s.refuseClass l pos e.tie

end State

/-- REQUEST_REPORT (R65 to R68). A report for an entry that is no longer in the map finds no post; one that an
installation has overtaken names the entry its post has passed into (log entry 55). -/
def execRequestReport (l : LoopId) (position : Nat) (cls : CallClass) (s : State) :
    Host.Outcome State Fault Refusal :=
  let s1 := s.take (.requestReport l position cls)
  .next (match s1.entryAt l (s1.nowAt l position) with
    | none => s1
    | some e =>
      match s1.postCtx l position with
      | some _ => s1.setAck l (s1.nowAt l position)
      | none => s1.newRequest l position e cls)

/-! ### The caller (R78 to R80) -/

/-- The CALL-ABANDONED object of an entry (R79, R181). -/
def abandonedRaise (l : LoopId) (pos : Nat) (e : MapEntry) : Raise :=
  match e.tie.slot? with
  | some slot => .abandonedSlot slot
  | none => .abandonedLoop l pos e.plate

namespace State

/-- Abandonment (R79). CALL-ABANDONED names the entry in which the reported post stands as the drop is taken (log entry
55). -/
def abandon (s : State) (c : CtxId) (l : LoopId) (pos : Nat) : State :=
  let s1 := (s.sendIfCarried c .caller).enterClearing c .caller
  match s.entryAt l (s.nowAt l pos) with
  | some e => s1.raise (abandonedRaise l (s.nowAt l pos) e)
  | none => s1

/-- A caller dropped report (R70, R78), for the entry in which the reported post stands as it is taken (log entry 55). -/
def callerDropped (s : State) (l : LoopId) (pos : Nat) : State :=
  match s.postCtx l pos with
  | none => s.setLampAt l (s.nowAt l pos) .off
  | some c =>
    match (s.ctx c).state with
    | .queued => (s.abandon c l pos).dispatch
    | .offered => (s.abandon c l pos).dispatch
    | .connected => ((s.sendIfCarried c .caller).enterClearing c .caller).dispatch
    | .held => ((s.sendIfCarried c .caller).enterClearing c .caller).dispatch
    | _ => s

end State

/-- CALLER_REPORT (R70, R78 to R80). -/
def execCallerReport (l : LoopId) (position : Nat) (active : Bool) (s : State) :
    Host.Outcome State Fault Refusal :=
  let s1 := s.take (.callerReport l position active)
  .next (if active then s1 else s1.callerDropped l position)

/-! ### Bearers (R72, R73) -/

namespace State

/-- The lowest-numbered non-FREE context that holds a bearer of a loop and satisfies `p`. Of two CLEARING contexts that hold one
bearer it is thus the lower-numbered: the model's choice (log entry 63); so it is of two others (log entry 76). -/
def holder (s : State) (l : LoopId) (b : BearerId) (p : Ctx → Bool) : Option CtxId :=
  allCtxs.find? (fun c =>
    (s.ctx c).state != .free && (s.ctx c).loop == l && (s.ctx c).bearer == some b && p (s.ctx c))

end State

/-- BEARER_LIVE_REPORT (R72): the QUEUED holder, the lowest-numbered where two name the bearer (the model's choice, log entry
76), becomes eligible and its queue programme starts. -/
def execBearerLiveReport (l : LoopId) (b : BearerId) (s : State) : Host.Outcome State Fault Refusal :=
  let s1 := s.take (.bearerLiveReport l b)
  .next (match s1.holder l b (fun x => x.state == .queued) with
    | some c =>
      if (s1.bearer l b).st = .live then
        ((s1.modCtx c (fun x => { x with liveSeen := true })).startPlayer c .queue).dispatch
      else s1
    | none => s1)

namespace State

/-- The CLEARING holder of a bearer becomes FREE (R73, R82), the lower-numbered of two: the model's choice (log entry 63). -/
def freeHolder (s : State) (l : LoopId) (b : BearerId) : State :=
  match s.holder l b (fun x => x.state == .clearing) with
  | some c => s.freeCtx c
  | none => s

end State

/-- BEARER_FREE_REPORT (R73): the CLEARING holder becomes FREE and the bearer is handed on. -/
def execBearerFreeReport (l : LoopId) (b : BearerId) (s : State) : Host.Outcome State Fault Refusal :=
  .next ((((s.take (.bearerFreeReport l b)).freeHolder l b).handOn l b).dispatch)

/-! ### Loop states, rebuilds, invalidations, tests (R70, R84 to R86) -/

/-- The cause a loop state releases its contexts with (R85). -/
def releaseCause : LoopState → Option Cause
  | .off => some .loopPower
  | .unpowered => some .loopPower
  | .failed => some .loopFailed
  | _ => none

/-- Every context of a loop released with a loop cause, and dispatch run (R85). -/
def State.releaseLoop (s : State) (l : LoopId) (cause : Cause) : State :=
  ((s.ctxsOn l).foldl (fun s c => s.releaseByLoop c cause) s).dispatch

/-- LOOP_STATE_REPORT (R85). -/
def execLoopStateReport (l : LoopId) (st : LoopState) (s : State) : Host.Outcome State Fault Refusal :=
  let s1 := s.take (.loopStateReport l st)
  .next (match releaseCause st with
    | some cause => s1.releaseLoop l cause
    | none => s1)

/-- TEST_FAIL_REPORT (R70): the lamp of a post without a context becomes FAULT, at the entry in which it stands as the
report is taken (log entry 55). -/
def execTestFailReport (l : LoopId) (position : Nat) (s : State) : Host.Outcome State Fault Refusal :=
  let s1 := s.take (.testFailReport l position)
  .next (if (s1.postCtx l position).isNone then s1.setLampAt l (s1.nowAt l position) .fault else s1)

namespace State

/-- What a rebuild report does to one context (R84). -/
def followPost (passes : List (Option (Nat × Tie))) (s : State) (c : CtxId) : State :=
  match passes[(s.ctx c).entry - 1]? with
  | some (some (pos, _)) => s.modCtx c (fun x => { x with entry := pos })
  | _ => s.releaseLost c

end State

/-- REBUILD_REPORT (R73, R84): every context of the loop follows its post or is released, and the bearers the rebuild
freed are handed on, in the order of the report, which is ascending where the part makes it: the model's choice (log entry
62). -/
def execRebuildReport (l : LoopId) (epoch : Byte) (passes : List (Option (Nat × Tie))) (freed : List BearerId)
    (s : State) : Host.Outcome State Fault Refusal :=
  let s1 := s.take (.rebuildReport l epoch passes freed)
  let s2 := (s1.ctxsOn l).foldl (State.followPost passes) s1
  .next (freed.foldl (fun s b => s.handOn l b) s2).dispatch

/-- DIRECTORY_RELEASE (R86): the context whose post key names the entry is released with cause DIRECTORY, also one registered
since the directory's write: the model's choice (log entry 75). -/
def execDirectoryRelease (l : LoopId) (position : Nat) (s : State) : Host.Outcome State Fault Refusal :=
  let s1 := s.take (.directoryRelease l position)
  .next (match s1.postCtx l position with
    | some c => if (s1.ctx c).state = .clearing then s1 else (s1.releaseByDirectory c).dispatch
    | none => s1)

/-! ### Timers of a context (R94, R105, R109) -/

/-- RETRY_TIMER_EXPIRY (R94). -/
def execRetryTimerExpiry (c : CtxId) (s : State) : Host.Outcome State Fault Refusal :=
  let s1 := s.take (.retryTimerExpiry c)
  .next (if s.expires (.retryTimerExpiry c) (s1.ctx c).retryTimer then
    (s1.modCtx c (fun x => { x with retryTimer := .stopped })).dispatch else s1)

/-- OFFER_TIMEOUT (R109). -/
def execOfferTimeout (c : CtxId) (s : State) : Host.Outcome State Fault Refusal :=
  let s1 := s.take (.offerTimeout c)
  .next (if (s1.ctx c).state = .offered ∧ s.expires (.offerTimeout c) (s1.ctx c).offerTimer then
    ((((s1.sendCleared c .offerTimeout).freeLeg (s1.ctx c).primary).endOffer c)).dispatch
    else s1)

namespace State

/-- HOLD-LONG is raised for a context and hold-notified set (R105). -/
def raiseHoldLong (s : State) (c : CtxId) : State :=
  (s.modCtx c (fun x => { x with holdNotified := true })).raise (.holdLong c)

end State

/-- The hold timer has reached the hold-long time (R105); an event that the part has handed itself counts only while the
count stands there. -/
def State.heldLong (s : State) (c : CtxId) : Bool :=
  (s.ctx c).holdRunning && (!s.handed.contains (.holdLong c) || s.holdLongSeconds ≤ (s.ctx c).holdCount)

/-- HOLD_LONG (R105): the hold timer of a HELD context reaches the hold-long time. -/
def execHoldLong (c : CtxId) (s : State) : Host.Outcome State Fault Refusal :=
  let s1 := s.take (.holdLong c)
  .next (if (s1.ctx c).state = .held ∧ s.heldLong c ∧ (s1.ctx c).holdNotified = false then
    (s1.modCtx c (fun x => { x with holdCount := max x.holdCount s1.holdLongSeconds })).raiseHoldLong c
    else s1)

end Sys2Proof.Machine
end

