-- ==== Sys2Proof/Machine/Scans.lean ====
section
/-! DEFINITION. A scan that returns (01, 1.5): reading it, its checks, replies, reports, bearers, and the hand-over
of a STALE round. -/

namespace Sys2Proof.Machine

open Sys2Proof

/-! ### Reading (R5, R15, R189) -/

/-- A returned scan as it was read: pairs in the order received. -/
structure Returned where
  head  : Byte
  taken : Nat
  pairs : List (Byte × Byte)
  ended : Bool
  deriving DecidableEq, Repr

/-- Bytes in pairs; a single byte at the end makes none. -/
def pairsOf : List Byte → List (Byte × Byte)
  | a :: b :: rest => (a, b) :: pairsOf rest
  | _ => []

/-- The bytes of the scan receiver read by position, for K commands sent (R5). -/
def readScan (k : Nat) (rx : List Byte) : Returned :=
  { head := rx.headD 0
    taken := ((rx.drop 1).take k).countP isTaken
    pairs := pairsOf ((rx.drop (1 + k)).dropLast)
    ended := k + 2 ≤ rx.length && (rx.length - k - 2) % 2 == 0 && rx.getLast? == some scanEnd }

/-- The attention bit of the head (R188). -/
def Returned.attention (r : Returned) : Bool := r.head.getLsbD 0

/-- The five checks of R15. -/
def Returned.good (r : Returned) (sweep : Bool) (k : Nat) : Bool :=
  (r.head &&& 0xFE == scanHead sweep) && r.ended && r.pairs.all (fun p => statusMark p.1) &&
  r.pairs.length ≤ 16 && (sweep || r.taken == min r.pairs.length k)

/-- The pairs in chain order, position 1 first, as far as position 12 (R5). -/
def Returned.chain (r : Returned) : List (Byte × Byte) := r.pairs.reverse.take 12

/-- A reply that is NO-CMD, by the command built for the position (R189). -/
def isNoCmd (cmd : Option ScanCmd) (reply : Byte) : Bool :=
  match cmd with
  | some .ident => false
  | some .poll => reply.getLsbD 7
  | _ => reply == noCmd

/-- Some pair carries NO-CMD (R12). -/
def Returned.hasNoCmd (r : Returned) (cmds : List ScanCmd) : Bool :=
  (r.pairs.reverse.zipIdx).any (fun p => isNoCmd cmds[p.2]? p.1.2)

/-! ### Replies (R8, R52) -/

/-- A TEST reply (R189). -/
def testOf (reply : Byte) : Option TestResult :=
  if reply = 0xE1 then some .pass else if reply = 0xE0 then some .fail else none

/-- A reply that is the echo of the command sent (R189). -/
def isEcho (cmd : ScanCmd) (reply : Byte) : Bool := reply == takenByte cmd.byte

/-- A health byte in reply to POLL applied (R8). -/
def CmdRec.applyHealth (r : CmdRec) (h : Byte) : CmdRec :=
  if healthRestarted h then
    { r with lastHealth := some h, healthDue := false, confirmedLamp := none, confirmedBearer := .unknown,
             identDue := true }
  else { r with lastHealth := some h, healthDue := false }

/-- A reply applied to a command record (R8). -/
def CmdRec.apply (r : CmdRec) (cmd : ScanCmd) (reply : Byte) : CmdRec :=
  match cmd with
  | .lamp x => if isEcho cmd reply then { r with confirmedLamp := some x } else r
  | .bearer b => if isEcho cmd reply then { r with confirmedBearer := .on b } else r
  | .bearerRelease => if isEcho cmd reply then { r with confirmedBearer := .nobearer } else r
  | .ackReq => if isEcho cmd reply then { r with ackReq := false } else r
  | .ident => { r with identDue := false, roundOwed := false }
  | .poll => if reply.getLsbD 7 then r else r.applyHealth reply
  | .test => if (testOf reply).isSome then { r with testDue := false } else r

end Sys2Proof.Machine

namespace Sys2Proof

open Machine

/-- A tie after a POLL reply with RESTARTED (R52). -/
def Tie.unconfirm : Tie → Tie
  | .unlisted => .unlisted
  | .listed slot _ => .listed slot false

/-- A tie after an IDENT reply with the entry's own plate (R52). -/
def Tie.confirm : Tie → Tie
  | .unlisted => .unlisted
  | .listed slot _ => .listed slot true

end Sys2Proof

namespace Sys2Proof.Machine

/-- The naming consequence of a reply (R52). -/
def MapEntry.tieAfter (e : MapEntry) (cmd : ScanCmd) (reply : Byte) : Tie :=
  match cmd with
  | .poll => if !reply.getLsbD 7 && healthRestarted reply then e.tie.unconfirm else e.tie
  | .ident => if reply = e.plate then e.tie.confirm else e.tie
  | _ => e.tie

/-- A status byte stored, and health made due by its FAULT bit (R8). -/
def CmdRec.store (r : CmdRec) (status : Byte) : CmdRec :=
  let quiet := match r.lastHealth with
    | none => true
    | some h => !healthAny h
  { r with lastStatus := some status, healthDue := r.healthDue || (statusFault status && quiet) }

/-- The reply and the status byte of its pair applied to an entry (R8, R52). -/
def MapEntry.apply (e : MapEntry) (cmd : ScanCmd) (pair : Byte × Byte) : MapEntry :=
  { e with tie := e.tieAfter cmd pair.2, cmd := (e.cmd.apply cmd pair.2).store pair.1 }

/-- The replies of a used scan applied, position by position (R8). -/
def applyAll : List MapEntry → List ScanCmd → List (Byte × Byte) → List MapEntry
  | e :: es, c :: cs, p :: ps => e.apply c p :: applyAll es cs ps
  | es, _, _ => es

/-- Some IDENT reply differs from its entry's plate (R8). -/
def plateDiffers : List MapEntry → List ScanCmd → List (Byte × Byte) → Bool
  | e :: es, c :: cs, p :: ps => (c == .ident && p.2 != e.plate) || plateDiffers es cs ps
  | _, _, _ => false

/-! ### Reports (R18, R24 to R26, R53, R54) -/

/-- What a used scan says of one entry: its seen position, the entry as it stood before the scan, the command built
for it and its pair. -/
structure Seen where
  pos  : Nat
  old  : MapEntry
  cmd  : ScanCmd
  pair : Byte × Byte
  deriving DecidableEq, Repr

/-- What a used scan says, in chain order. -/
def seenAll : Nat → List MapEntry → List ScanCmd → List (Byte × Byte) → List Seen
  | n, e :: es, c :: cs, p :: ps => ⟨n, e, c, p⟩ :: seenAll (n + 1) es cs ps
  | _, _, _, _ => []

/-- The health byte a pair reports: a reply to POLL that is not NO-CMD and differs from the last health (R18). -/
def Seen.newHealth (x : Seen) : Option Byte :=
  if x.cmd = .poll ∧ x.pair.2.getLsbD 7 = false ∧ x.old.cmd.lastHealth ≠ some x.pair.2 then some x.pair.2 else none

/-- CALLER has changed: it differs from the last status as that stood before the scan (R18), or it is 0 where it was 1 when
STALE was last clear, so that a caller who hung up while the loop was STALE is seen as dropped (R78). An absent last status
is taken as CALLER 0. DEDUCED (log entry 15). -/
def Seen.callerChanged (x : Seen) : Bool :=
  let now := statusCaller x.pair.1
  (x.old.cmd.lastStatus.elim false statusCaller != now) || (x.old.cmd.callerNoted && !now)

/-- The post flags of a health byte, in the order of R176. -/
def healthFlags (h : Byte) : List PostFlag :=
  [(0, PostFlag.battery), (1, .handset), (2, .speaker), (3, .lamp), (4, .heater), (5, .tamper),
    (6, .restarted)].filterMap (fun p => if h.getLsbD p.1 then some p.2 else none)

namespace State

/-- REQ reported (R18). -/
def reportReq (s : State) (l : LoopId) (x : Seen) : State :=
  match statusReq x.pair.1 with
  | some cls => s.hand (.requestReport l x.pos cls)
  | none => s

/-- CALLER noted for R78, and reported, in a scan whose status bytes are reported, when it has changed (R18). -/
def reportCaller (s : State) (l : LoopId) (shown : Bool) (x : Seen) : State :=
  let now := statusCaller x.pair.1
  let s1 := s.modCmd l x.pos (fun r => { r with callerNoted := now })
  if shown && x.callerChanged then s1.hand (.callerReport l x.pos now) else s1

/-- The entry's confirmed bearer is `b` (R24). -/
def confirmedOn (s : State) (l : LoopId) (pos : Nat) (b : BearerId) : Bool :=
  match s.entryAt l pos with
  | some e => e.cmd.confirmedBearer == .on b
  | none => false

/-- BEARER-OK applied to a bearer that is ASSIGNING or LIVE and tied to the entry (R24, R26). -/
def applyOk (s : State) (l : LoopId) (x : Seen) (b : BearerId) : State :=
  match (s.bearer l b).st with
  | .assigning =>
    if statusBearerOk x.pair.1 && s.confirmedOn l x.pos b then
      (s.setBearer l b ⟨.live, x.pos⟩).hand (.bearerLiveReport l b)
    else s
  | .live =>
    if statusBearerOk x.pair.1 then s else s.modCmd l x.pos (fun r => { r with confirmedBearer := .unknown })
  | _ => s

/-- The echo of RELEASE applied to a RELEASING bearer tied to the entry (R25). -/
def applyRelease (s : State) (l : LoopId) (x : Seen) (b : BearerId) : State :=
  if (s.bearer l b).st = .releasing ∧ x.cmd = .bearerRelease ∧ isEcho x.cmd x.pair.2 then
    (s.setBearer l b ⟨.free, 0⟩).hand (.bearerFreeReport l b)
  else s

/-- The bearers tied to the entry moved by what the scan says of it (R24 to R26), several of them in ascending order: the model's
choice (log entry 58); `okShown` says that BEARER-OK is used. -/
def applyBearers (s : State) (l : LoopId) (x : Seen) (okShown : Bool) : State :=
  allBearers.foldl (fun s b =>
    if (s.bearer l b).entry = x.pos then
      let s1 := if okShown then s.applyOk l x b else s
      s1.applyRelease l x b
    else s) s

/-- UNLISTED-FAULT is latched in the loop fault record, or its latch is on its way to it (R54). -/
def unlistedLatched (s : State) (l : LoopId) : Bool :=
  (s.loopFault l).has LoopFlag.unlistedFault.bit || s.handed.contains (.faultLatch (.loop l .unlistedFault))

/-- A health byte reported: latched for a listed post, and for an unlisted one that shows a flag UNLISTED-FAULT is
latched and NAMING raised; a change to no flag raises NAMING again while UNLISTED-FAULT is latched (R53, R54). -/
def reportHealth (s : State) (l : LoopId) (tie : Tie) (h : Byte) : State :=
  match tie.slot? with
  | some slot => (healthFlags h).foldl (fun s f => s.latch (.post slot f)) s
  | none =>
    if healthAny h then (s.latch (.loop l .unlistedFault)).raise (.naming l)
    else if s.unlistedLatched l then s.raise (.naming l) else s

/-- A TEST result kept for the slot, and a fail reported (R8, R18, R53). -/
def reportTest (s : State) (l : LoopId) (x : Seen) : State :=
  if x.cmd = .test then
    match testOf x.pair.2 with
    | some result =>
      let s1 := match x.old.tie.slot? with
        | some slot => s.setTestResult slot result
        | none => s
      if result = .fail then s1.hand (.testFailReport l x.pos) else s1
    | none => s
  else s

/-- The reports of one entry of a used scan (R18). STALE holds back REQ, CALLER and every change of a bearer (R23); a
section restart's mark holds back the status bytes (R18). R18 orders the entries; the order of the reports of one entry is
its table's, REQ, CALLER, bearers, health, TEST: the model's choice (log entry 58). -/
def reportEntry (l : LoopId) (marked stale : Bool) (s : State) (x : Seen) : State :=
  let s1 := if stale then s
    else
      let s0 := if marked then s else s.reportReq l x
      (s0.reportCaller l (!marked) x).applyBearers l x (!marked)
  let s2 := match x.newHealth with
    | some h => s1.reportHealth l x.old.tie h
    | none => s1
  s2.reportTest l x

/-- A used SCAN (R8, R16, R18). -/
def useScan (s : State) (l : LoopId) (f : Flight) (r : Returned) : State :=
  let old := (s.loop l).map
  let s1 := s.modLoop l (fun L =>
    { L with
      map := applyAll L.map f.cmds r.chain
      stale := L.stale || plateDiffers old f.cmds r.chain })
  let stale := (s1.loop l).stale
  ((seenAll 1 old f.cmds r.chain).foldl (reportEntry l f.marked stale) s1).modLoop l Loop.settleRound

/-- The hand-over of a STALE round's plates (R16, R46). -/
def handOverPlates (s : State) (l : LoopId) (r : Returned) : State :=
  let s1 := s.modLoop l (fun L => { L with handOver := L.handOver + 1, reconPending := true })
  s1.hand (.reconciliation l (s1.loop l).handOver (r.chain.map (·.2)))

/-- The attention mark set by R12. -/
def markAttention (s : State) (l : LoopId) (on : Bool) : State :=
  s.modLoop l (fun L => { L with attention := L.attention || on })

/-- A good return's effect on the error count and the loop state (R16, R20, R21). A DEGRADED loop back in RUN keeps its
sweep timer as it stands: R11's "entering RUN" is taken as the entry at an installation, which is the model's choice (log
entry 52). -/
def goodCount (s : State) (l : LoopId) : State :=
  let s1 := s.modLoop l (fun L => { L with errors := 0 })
  match (s.loop l).state with
  | .degraded => s1.changeLoopState l .run
  | .failed => s1.setStale l
  | _ => s1

/-- A good SCAN whose pairs are as many as the map's entries, or which is used in no way but identification (R16). -/
def goodScan (s : State) (l : LoopId) (f : Flight) (r : Returned) : State :=
  let s1 := if 12 < r.pairs.length then s.latch (.loop l .overlong) else s
  let used := min r.pairs.length 12 == (s1.loop l).map.length
  let s2 := s1.markAttention l (r.attention && (r.hasNoCmd f.cmds || !used))
  let s3 := if used then s2.useScan l f r else s2.setStale l
  if f.purpose = .staleRound then s3.handOverPlates l r else s3

/-- A good return (R16). -/
def goodReturn (s : State) (l : LoopId) (f : Flight) (r : Returned) : State :=
  let s1 := s.goodCount l
  if f.purpose.isSweep then s1.markAttention l r.attention else s1.goodScan l f r

/-- A scan that has completed by END or by a 17th pair, its record already removed (R15 to R17). -/
def completeScan (s : State) (l : LoopId) (f : Flight) (rx : List Byte) : State :=
  let r := readScan f.cmds.length rx
  if !r.good f.purpose.isSweep f.cmds.length then s.scanError l .scanMalformed
  else if f.epoch ≠ (s.loop l).epoch then s.markAttention l r.attention
  else s.goodReturn l f r

end State

/-- The record of the scan in flight removed, its timeout stopped (R3, R14). Outbound bytes not yet sent are dropped, where
an END is read before the part has sent its own: the model's choice (log entry 44). -/
def Loop.endFlight (L : Loop) : Loop :=
  { L with flight := none, txLeft := [], scanTimer := .stopped, rx := [], rxDone := false }

/-- SCAN_RETURN (R15): the scan in flight completes. -/
def execScanReturn (l : LoopId) (s : State) : Host.Outcome State Fault Refusal :=
  let s1 := s.take (.scanReturn l)
  .next (match (s1.loop l).flight with
    | some f =>
      if (s1.loop l).rxDone then
        (((s1.modLoop l Loop.endFlight).completeScan l f (s1.loop l).rx)).wakeScan l
      else s1
    | none => s1)

end Sys2Proof.Machine
end

