-- ==== Sys2Proof/Machine/Trunks.lean ====
section
/-! DEFINITION. The trunk interfaces (06): alignment, the far-end alarm, trunk states, holdover and failover, the
elastic store, the frames, and trunk control. -/

namespace Sys2Proof.Machine

open Sys2Proof

namespace State

/-! ### Trunk states (R120 to R126) -/

/-- A trunk changes its state, reports it and raises TRUNK-STATE (R121). -/
def changeTrunkState (s : State) (t : Trunk) (st : TrunkState) : State :=
  ((s.modTrunk t (fun T => { T with state := st })).hand (.trunkStateReport t st)).raise (.trunkState t)

/-- Failover is handed to the call manager (R123, R124). -/
def handFailover (s : State) (t : Trunk) : State :=
  ((s.latch (.trunk t .holdoverExpired)).modTrunk t (fun T => { T with failoverDue := true })).hand (.failover t)

/-- A trunk fault in UP (R123). -/
def trunkFaultEvent (s : State) (t : Trunk) : State :=
  if s.holdoverSeconds = 0 then s.handFailover t
  else
    (s.modTrunk t (fun T =>
      { T with holdover := Timer.start (s.holdoverSeconds * Config.framesPerSecond) })).changeTrunkState t .holdover

/-- A recovery in HOLDOVER (R124). -/
def recover (s : State) (t : Trunk) : State :=
  (s.modTrunk t (fun T => { T with holdover := .stopped })).changeTrunkState t .up

/-- The receive side has become aligned (R122, R124). While a failover is due the state waits for it. -/
def onAligned (s : State) (t : Trunk) : State :=
  if (s.trunk t).failoverDue then s
  else
    match (s.trunk t).state with
    | .hunt => s.changeTrunkState t (if (s.trunk t).alarm then .farFault else .up)
    | .holdover => if (s.trunk t).alarm then s else s.recover t
    | _ => s

/-- The receive side has lost alignment (R123 to R125). -/
def onLost (s : State) (t : Trunk) : State :=
  if (s.trunk t).failoverDue then s
  else
    match (s.trunk t).state with
    | .up => s.trunkFaultEvent t
    | .farFault => s.changeTrunkState t .hunt
    | _ => s

/-- The far-end alarm indication has become present (R123, R124). -/
def onAlarm (s : State) (t : Trunk) : State :=
  if (s.trunk t).failoverDue then s
  else
    match (s.trunk t).state with
    | .up => s.trunkFaultEvent t
    | _ => s

/-- The far-end alarm indication has become absent (R124, R125); it changes while aligned alone. -/
def onAlarmAbsent (s : State) (t : Trunk) : State :=
  if (s.trunk t).failoverDue then s
  else
    match (s.trunk t).state with
    | .holdover => if (s.trunk t).aligned then s.recover t else s
    | .farFault => s.changeTrunkState t .up
    | _ => s

/-- A flag of the trunk fault record latched unless the trunk is OFF (R134). -/
def latchTrunk (s : State) (t : Trunk) (f : TrunkFlag) : State :=
  if (s.trunk t).state = .off then s else s.latch (.trunk t f)

/-! ### Alignment and the alarm (R117 to R119) -/

/-- The loss of alignment (R118, R127). -/
def loseAlignment (s : State) (t : Trunk) : State :=
  let s1 := s.modTrunk t (fun T =>
    { T with aligned := false, badWords := 0, clearRun := 0, store := [], reading := false })
  ((s1.latchTrunk t .alignLost).dropMessages t).onLost t

/-- The far-end alarm indication made absent at the end of a clear run (R119). -/
def clearAlarm (s : State) (t : Trunk) : State :=
  (s.modTrunk t (fun T => { T with alarm := false, clearRun := 0 })).onAlarmAbsent t

/-- A good housekeeping byte with the alarm bit set; FAR-ALARM latches when the indication was absent (R119). -/
def takeAlarm (s : State) (t : Trunk) : State :=
  let s1 := s.modTrunk t (fun T => { T with alarm := true, clearRun := 0 })
  if (s.trunk t).alarm then s1 else s1.latchTrunk t .farAlarm

/-- A good housekeeping byte with the alarm bit clear: a run of eight hands FAR_ALARM_ABSENT while the indication is
present (R119). -/
def takeClear (s : State) (t : Trunk) : State :=
  let n := (s.trunk t).clearRun + 1
  if (s.trunk t).alarm then
    let s1 := s.modTrunk t (fun T => { T with clearRun := n })
    if n = 8 then s1.hand (.farAlarmAbsent t) else s1
  else s.modTrunk t (fun T => { T with clearRun := if 8 ≤ n then 0 else n })

/-- The slot 0 byte of an odd frame while aligned (R119). -/
def takeHousekeeping (s : State) (t : Trunk) (b : Byte) : State :=
  if goodHousekeeping b then if alarmBit b then s.takeAlarm t else s.takeClear t
  else s.modTrunk t (fun T => { T with clearRun := 0 })

/-- The slot 0 byte of an odd frame, with the trunk state told of an alarm (R119, R123). -/
def oddFrame (s : State) (t : Trunk) (b : Byte) : State :=
  let s1 := s.takeHousekeeping t b
  if !(s.trunk t).alarm && (s1.trunk t).alarm then s1.onAlarm t else s1

/-- The slot 0 byte of an even frame while aligned: the fourth bad word in a row hands ALIGNMENT_LOST (R118). -/
def evenFrame (s : State) (t : Trunk) (b : Byte) : State :=
  if b = alignWord then s.modTrunk t (fun T => { T with badWords := 0 })
  else
    let n := (s.trunk t).badWords + 1
    let s1 := s.modTrunk t (fun T => { T with badWords := n })
    if n = 4 then s1.hand (.alignmentLost t) else s1

/-! ### The elastic store (R127, R128) -/

/-- A slip counted and latched unless the trunk is OFF (R127, R128). -/
def countSlip (s : State) (t : Trunk) : State :=
  if (s.trunk t).state = .off then s
  else (s.modTrunk t (fun T => { T with slips := min (T.slips + 1) 255 })).latch (.trunk t .slip)

/-- A received frame written into the store (R127). -/
def writeStore (s : State) (t : Trunk) (slots : List Byte) : State :=
  let held := (s.trunk t).store
  let s1 := s.modTrunk t (fun T =>
    { T with store := (if 2 ≤ held.length then held.drop 1 else held) ++ [slots], reading := true })
  if 2 ≤ held.length then s1.countSlip t else s1

/-- What is delivered where no stored frame is: idle fill, and 0x00 in every voice channel (R129). -/
def unalignedSlots : List Byte := [trunkIdle, trunkIdle] ++ List.replicate 15 0

/-- One frame read from the store, or the unaligned values (R127, R129). -/
def readStore (s : State) (t : Trunk) : State × List Byte :=
  let T := s.trunk t
  if T.aligned && T.reading then
    match T.store with
    | f :: rest => (s.setTrunk t { T with store := rest, lastFrame := f }, f)
    | [] => (s.countSlip t, T.lastFrame)
  else (s, unalignedSlots)

/-! ### Received frames (R117, R127) -/

end State

/-- The result of a search: what is left of the stream from the first position that may still be confirmed, and the
housekeeping byte of one that has been (R117). -/
structure Search where
  rest : List Bool
  hk   : Option Byte
  deriving DecidableEq, Repr

/-- The byte that begins at a bit position of the stream, once all its bits have come. -/
def byteAt (bits : List Bool) (k : Nat) : Option Byte :=
  if (bits.drop (k + 7)).isEmpty then none else some (bitsByte (bits.drop k))

/-- A byte that has come satisfies a check. -/
def holdsSoFar (b : Option Byte) (check : Byte → Bool) : Bool :=
  match b with
  | some b => check b
  | none => true

/-- Whether the position at the head of the stream may still be confirmed: the alignment word and the two checks of R117,
each as far as its byte has come. -/
def candidateHolds (bits : List Bool) : Bool :=
  holdsSoFar (byteAt bits 0) (· == alignWord) && holdsSoFar (byteAt bits frameBits) goodHousekeeping &&
  holdsSoFar (byteAt bits (2 * frameBits)) (· == alignWord)

/-- The search for alignment over a stream, at every bit position (R117, R187). A confirmed candidate leaves the stream
from the second alignment word on. -/
def searchAlign : List Bool → Search
  | [] => ⟨[], none⟩
  | b :: bits =>
    if candidateHolds (b :: bits) then
      match byteAt (b :: bits) (2 * frameBits) with
      | some _ => ⟨(b :: bits).drop (2 * frameBits), byteAt (b :: bits) frameBits⟩
      | none => ⟨b :: bits, none⟩
    else searchAlign bits

namespace State

/-- A candidate has been confirmed (R117, R119, R127). -/
def gainAlignment (s : State) (t : Trunk) (hk : Byte) : State :=
  let s1 := s.modTrunk t (fun T =>
    { T with aligned := true, evenNext := true, badWords := 0, store := [], reading := false })
  (s1.takeHousekeeping t hk).onAligned t

/-- Before a frame, a loss of alignment or an end of the alarm whose command has not come is carried out (R118,
R119). -/
def catchTrunk (s : State) (t : Trunk) : State :=
  let s1 :=
    if (s.trunk t).aligned ∧ 4 ≤ (s.trunk t).badWords then (s.take (.alignmentLost t)).loseAlignment t else s
  if 8 ≤ (s1.trunk t).clearRun then (s1.take (.farAlarmAbsent t)).clearAlarm t else s1

/-- One whole aligned frame (R118, R119, R127): slot 0 by parity, and the rest into the store unless the frame brings
the fourth bad alignment word. -/
def alignedFrame (s : State) (t : Trunk) (frame : List Byte) : State :=
  let even := (s.trunk t).evenNext
  let s1 := s.modTrunk t (fun T => { T with evenNext := !even })
  let s2 := if even then s1.evenFrame t (frame.headD 0) else s1.oddFrame t (frame.headD 0)
  if 4 ≤ (s2.trunk t).badWords then s2 else s2.writeStore t (frame.drop 1)

/-- One step over the received stream: a frame while aligned, and otherwise the search; whether the stream is to be
worked on. After the frame that carries the fourth bad word the search starts with the frame that follows: the model's choice
(log entry 66). -/
def streamStep (t : Trunk) (s : State) : State × Bool :=
  let buf := (s.trunk t).rxBuf
  if (s.trunk t).aligned then
    ((s.modTrunk t (fun T => { T with rxBuf := buf.drop frameBits })).alignedFrame t (bitsBytes 18 buf), true)
  else
    let found := searchAlign buf
    let s1 := s.modTrunk t (fun T => { T with rxBuf := found.rest })
    match found.hk with
    | some hk => (s1.gainAlignment t hk, true)
    | none => (s1, false)

/-- The received stream worked through: frames while aligned, the search while not. `fuel` bounds the number of
steps. -/
def workStream (t : Trunk) : Nat → State → State
  | 0, s => s
  | fuel + 1, s =>
    if (s.trunk t).aligned ∧ (s.trunk t).rxBuf.length < frameBits then s
    else
      let r := streamStep t (s.catchTrunk t)
      if r.2 then workStream t fuel r.1 else r.1

/-- The codes of the IN-USE channels in a frame's slots; 0x00 for the others (R129). -/
def takeVoice (T : TrunkIf) (slots : List Byte) : Vector Byte 15 :=
  Vector.ofFn (fun n => if T.channels[n].st = .inUse then slots.getD (n.val + 2) 0 else 0)

/-- The slots of a frame delivered to the receivers and the voice path engine (R129). The codes stand until the next frame is
read, also for a channel that becomes IN-USE in between: the model's choice (log entry 68). -/
def deliver (s : State) (t : Trunk) (slots : List Byte) : State :=
  let s1 := s.modTrunk t (fun T => { T with voice := takeVoice T slots })
  let s2 := s1.feedService t (slots.headD trunkIdle)
  if (s.trunk t).state = .off then s2 else s2.feedSignalling t ((slots.drop 1).headD trunkIdle)

/-! ### Sent frames (R116) -/

/-- Slot 0 of the next frame (R116). -/
def slotZero (T : TrunkIf) : Byte :=
  if T.txEven then alignWord else housekeeping (T.state == .off || !T.aligned)

/-- Slot 2 of the next frame (R116). -/
def slotTwo (T : TrunkIf) : Byte :=
  match T.state, T.sigQueue with
  | .off, _ => trunkIdle
  | _, [] => trunkIdle
  | _, m :: _ => m.bytes.getD T.sigSent trunkIdle

/-- The signalling transmit queue after that byte: a message wholly sent leaves it (R99, R116). The next one starts in the next
frame: R116 has idle fill only where the queue is empty or the trunk OFF, R99 has it between messages; the model's choice (log
entry 65). -/
def advanceSig (T : TrunkIf) : TrunkIf :=
  match T.state, T.sigQueue with
  | .off, _ => T
  | _, [] => T
  | _, m :: rest =>
    if m.bytes.length ≤ T.sigSent + 1 then { T with sigQueue := rest, sigSent := 0 }
    else { T with sigSent := T.sigSent + 1 }

/-- Slots 3 to 17 of the next frame (R116, R130, R143). R143 does not say what an IN-USE channel sends in frames in which its
context takes no sample (its bearer freed, the release report not yet taken); the last code written is sent again: the model's
choice (log entry 74). -/
def voiceSlots (T : TrunkIf) : List Byte :=
  allChans.map (fun n => if T.channels[n].st = .inUse then T.channels[n].code else 0)

/-- The frame sent next, given the byte of slot 1 (R116). -/
def outFrame (T : TrunkIf) (slot1 : Byte) : List Byte := [slotZero T, slot1, slotTwo T] ++ voiceSlots T

/-- One frame sent (R116). -/
def sendFrame (s : State) (t : Trunk) : State :=
  let s1 := s.startReply t
  let s2 := s1.modTrunk t (fun T =>
    { advanceSig T with sent := outFrame T (s1.service t).tx.byte, txEven := !T.txEven })
  s2.sendService t

end State

/-! ### The commands of the trunks -/

/-- TRUNK_FRAME_SEND (R116, R127, R129): one frame is sent and one read from the elastic store. A loss of alignment that
is due is carried out first, so that no slip is counted for it (R127; log entry 4). -/
def execTrunkFrameSend (t : Trunk) (s : State) : Host.Outcome State Fault Refusal :=
  let s1 := ((s.take (.trunkFrameSend t)).catchTrunk t).sendFrame t
  .next ((s1.readStore t).1.deliver t (s1.readStore t).2)

/-- TRUNK_FRAME_RECEIVE (R117 to R119, R127): the bytes of one received frame time are searched or checked, and whole
aligned frames written into the elastic store. -/
def execTrunkFrameReceive (t : Trunk) (received : List Byte) (s : State) : Host.Outcome State Fault Refusal :=
  let s1 := s.take (.trunkFrameReceive t received)
  .next ((s1.modTrunk t (fun T => { T with rxBuf := T.rxBuf ++ streamBits received })).workStream t 8)

/-- FAR_ALARM_ABSENT (R119, R124, R125): the clear run reaches 8. -/
def execFarAlarmAbsent (t : Trunk) (s : State) : Host.Outcome State Fault Refusal :=
  let s1 := s.take (.farAlarmAbsent t)
  .next (if 8 ≤ (s1.trunk t).clearRun then s1.clearAlarm t else s1)

/-- ALIGNMENT_LOST (R118, R123): the bad-word count reaches 4. -/
def execAlignmentLost (t : Trunk) (s : State) : Host.Outcome State Fault Refusal :=
  let s1 := s.take (.alignmentLost t)
  .next (if (s1.trunk t).aligned ∧ 4 ≤ (s1.trunk t).badWords then s1.loseAlignment t else s1)

/-- HOLDOVER_EXPIRY (R124). -/
def execHoldoverExpiry (t : Trunk) (s : State) : Host.Outcome State Fault Refusal :=
  let s1 := s.take (.holdoverExpiry t)
  .next (if (s1.trunk t).state = .holdover ∧ s.expires (.holdoverExpiry t) (s1.trunk t).holdover ∧
      (s1.trunk t).failoverDue = false then
    (s1.modTrunk t (fun T => { T with holdover := .expired })).handFailover t else s1)

namespace State

/-- The state a trunk takes after a failover, by its receive side (R124). -/
def stateAfter (T : TrunkIf) : TrunkState := if !T.aligned then .hunt else if T.alarm then .farFault else .up

/-- The trunk leaves the failover for its new state (R112, R124). A trunk with a holdover time of 0 that has recovered goes
from UP to UP; that it reports the state and raises TRUNK-STATE all the same is the model's choice (log entry 47). -/
def leaveFailover (s : State) (t : Trunk) (st : TrunkState) : State :=
  (s.modTrunk t (fun T => { T with failoverDue := false, holdover := .stopped })).changeTrunkState t st

/-- The call manager takes a report of a trunk state (R111, R121). -/
def trunkReport (s : State) (t : Trunk) (st : TrunkState) : State :=
  let s1 := s.modTrunk t (fun T => { T with seen := st })
  if st = .up then s1.dispatch else s1

end State

/-- TRUNK_STATE_REPORT (R111). -/
def execTrunkStateReport (t : Trunk) (st : TrunkState) (s : State) : Host.Outcome State Fault Refusal :=
  .next ((s.take (.trunkStateReport t st)).trunkReport t st)

namespace State

/-- The trunk states still on their way to the call manager, in the order handed (R121). -/
def reportsOf (s : State) (t : Trunk) : List TrunkState :=
  s.handed.filterMap (fun i =>
    match i with
    | .trunkStateReport u st => if u = t then some st else none
    | _ => none)

/-- The call manager takes the trunk's outstanding reports before an event handed after them (R121). -/
def drainReports (s : State) (t : Trunk) : State :=
  (s.reportsOf t).foldl (fun s st => (s.take (.trunkStateReport t st)).trunkReport t st) s

/-- The call manager carries a failover out, after the trunk's reports handed before it (R112, R121; log entry 12). One failover
is carried out where a DISABLE finds one still due: the model's choice (log entry 67). -/
def carryFailover (s : State) (t : Trunk) : State := ((s.drainReports t).take (.failover t)).failover t

/-- A failover is carried out, and the trunk takes its new state (R112, R124, R133). -/
def endFailover (s : State) (t : Trunk) (st : TrunkState) : State := (s.carryFailover t).leaveFailover t st

end State

/-- FAILOVER (R112, R124): the call manager moves the trunk's calls, and the trunk takes its new state. -/
def execFailover (t : Trunk) (s : State) : Host.Outcome State Fault Refusal :=
  .next (if (s.trunk t).failoverDue then s.endFailover t (State.stateAfter (s.trunk t)) else s.take (.failover t))

/-! ### Trunk control (R131, R133) -/

namespace State

/-- DISABLE of a trunk (R112, R133). In OFF the call manager runs its failover, which empties the queue, as R112 says for
whatever state the trunk is in, and the trunk interface changes nothing, as R133 says. DEDUCED (log entry 64). -/
def disableTrunk (s : State) (t : Trunk) : State :=
  if (s.trunk t).state = .off then s.carryFailover t else s.endFailover t .off

/-- ENABLE of a trunk (R133). -/
def enableTrunk (s : State) (t : Trunk) : State :=
  if (s.trunk t).state = .off then
    let s1 := s.modTrunk t (fun T =>
      { T with
        aligned := false
        evenNext := true
        badWords := 0
        rxBuf := []
        alarm := false
        clearRun := 0
        store := []
        reading := false })
    (s1.dropMessages t).changeTrunkState t .hunt
  else s

/-- BLOCK of a channel (R131). -/
def blockChan (s : State) (t : Trunk) (n : ChanId) : State :=
  match (s.chan t n).st with
  | .free => s.setChan t n { s.chan t n with st := .blocked }
  | .reserved => s.setChan t n { s.chan t n with mark := true }
  | .inUse => s.setChan t n { s.chan t n with mark := true }
  | .blocked => s

/-- UNBLOCK of a channel (R131). -/
def unblockChan (s : State) (t : Trunk) (n : ChanId) : State :=
  match (s.chan t n).st with
  | .free => s
  | .reserved => s.setChan t n { s.chan t n with mark := false }
  | .inUse => s.setChan t n { s.chan t n with mark := false }
  | .blocked => (s.setChan t n { s.chan t n with st := .free }).dispatch

end State

end Sys2Proof.Machine
end

