-- ==== Sys2Proof/Machine/Service.lean ====
section
/-! DEFINITION. The service handler (09): tables, settings, control, section restart, execution and replies. -/

namespace Sys2Proof.Machine

open Sys2Proof

/-- What a request has done: the state, its result and the body of its REPLY. -/
structure Done where
  st     : State
  result : Result
  body   : List Byte

namespace State

/-- A request refused: nothing changes and the REPLY has no body (R166). -/
def refuse (s : State) (r : Result) : Done := ⟨s, r, []⟩

/-- A request carried out with a REPLY without a body. -/
def carried (s : State) : Done := ⟨s, .ok, []⟩

end State

/-! ### Entries of tables as they are read (R169, R195, R199) -/

/-- A route entry (R195). -/
def routeBytes (ts : List Target) : List Byte :=
  byte ts.length :: ts.flatMap (fun t => [byte t.trunk.code, byte t.group, byte t.timeout])

/-- An after-action as coded (R195). -/
def AfterAction.code : AfterAction → Nat
  | .next k => k.val
  | .restart => 16
  | .stop => 17

/-- The after-action of a code (R153, R195). -/
def AfterAction.ofCode (n : Nat) : Option AfterAction :=
  if h : n < 16 then some (.next ⟨n, h⟩) else if n = 16 then some .restart else if n = 17 then some .stop else none

/-- A segment record (R195). -/
def SegRec.bytes (r : SegRec) : List Byte :=
  flagByte r.valid :: (be16 r.start ++ be16 r.length ++ [byte r.after.code])

/-- The segment a number names (R153). -/
def segOfNat (n : Nat) : Option SegId := if h : n < 16 then some ⟨n, h⟩ else none

/-- The route entry number of R91. -/
def routeOfNat (n : Nat) : Option (Fin 64) := if h : n < 64 then some ⟨n, h⟩ else none

/-- The setting parameter a number names (R170). -/
def paramOfNat (n : Nat) : Option (Fin 25) := if h : n < 25 then some ⟨n, h⟩ else none

/-- The plan a number names (R92). -/
def planOfNat (n : Nat) : Option PlanId := if h : n < 4 then some ⟨n, h⟩ else none

/-- The REPLY body of a READ-TABLE: table, index, entry (R199). -/
def tableBody (table index : Nat) (entry : List Byte) : List Byte := [byte table, byte index] ++ entry

/-- A READ-TABLE of an object that exists, or is refused with BAD-INDEX (R169, R199). -/
def readEntry (s : State) (table index : Nat) : Option (List Byte) → Done
  | some entry => ⟨s, .ok, tableBody table index entry⟩
  | none => ⟨s, .badIndex, tableBody table index []⟩

namespace State

/-- READ-TABLE DIRECTORY (R43). -/
def readDirectory (s : State) (index : Nat) : Done :=
  readEntry s 0 index ((slotOfNat index).map (fun q => (s.record q).bytes))

/-- READ-TABLE ROUTE (R91). -/
def readRoute (s : State) (index : Nat) : Done :=
  readEntry s 1 index ((routeOfNat index).map (fun i => routeBytes s.routes[i]))

/-- READ-TABLE SEGMENT (R153). -/
def readSegment (s : State) (index : Nat) : Done :=
  readEntry s 2 index ((segOfNat index).map (fun k => (s.segment k).bytes))

/-- READ-TABLE SAMPLES (R151). -/
def readSamples (s : State) (index : Nat) : Done :=
  readEntry s 3 index (if index ≤ 255 then some (Samples.readList s.samples (64 * index) 64) else none)

/-- READ-TABLE SETTINGS (R170). -/
def readSettings (s : State) (index : Nat) : Done :=
  readEntry s 4 index ((paramOfNat index).map (fun p => be16 (s.param p)))

/-- READ-TABLE MASK (R169). -/
def readMask (s : State) (index : Nat) : Done :=
  readEntry s 5 index (if index = 0 then some (be16 s.mask.toNat) else none)

/-- READ-TABLE by table code; a code that names no table is refused with BAD-INDEX (R169). -/
def readTable (s : State) (table index : Nat) : Done :=
  match table with
  | 0 => s.readDirectory index
  | 1 => s.readRoute index
  | 2 => s.readSegment index
  | 3 => s.readSamples index
  | 4 => s.readSettings index
  | 5 => s.readMask index
  | _ => readEntry s table index none

end State

/-! ### Writes (R91, R151, R153, R169, R170) -/

/-- A written target in range, its offer timeout replaced by the nearest allowed one (R91). -/
def targetOf (w : TargetWrite) : Option Target :=
  match Trunk.ofCode w.trunk with
  | some t => if w.group ≤ 63 then some ⟨t, w.group, max 1 (min w.timeout 60)⟩ else none
  | none => none

/-- The written targets, absent where one is out of range (R91). -/
def targetsOf : List TargetWrite → Option (List Target)
  | [] => some []
  | w :: ws =>
    match targetOf w, targetsOf ws with
    | some t, some ts => some (t :: ts)
    | _, _ => none

/-- A replacement of an offer timeout (R91). -/
def clampsTarget (w : TargetWrite) : Bool := w.timeout == 0 || 60 < w.timeout

/-- The segment record a write stands for (R152, R153). -/
def SegRec.ofWrite (w : SegmentWrite) : Option SegRec :=
  match AfterAction.ofCode w.after with
  | some a =>
    if w.valid = 1 ∧ w.start ≤ 16383 ∧ 1 ≤ w.length then
      some ⟨true, w.start, min w.length (Config.storeSize - w.start), a⟩
    else none
  | none => none

/-- A settings value brought to the nearest end of its range (R170). -/
def clampParam (p : Fin 25) (v : Nat) : Nat := max Config.params[p].low (min v Config.params[p].high)

namespace State

/-- WRITE-TABLE DIRECTORY as a request (R41). -/
def writeSlot (s : State) (index : Nat) (w : PostWrite) : Done :=
  ⟨(s.writeDirectory index w).1, (s.writeDirectory index w).2, []⟩

/-- A route entry stored, and dispatch run (R91). -/
def storeRoute (s : State) (i : Fin 64) (ts : List Target) : State :=
  ({ s with routes := s.routes.set i ts } : State).dispatch

/-- WRITE-TABLE ROUTE (R91). -/
def writeRoute (s : State) (index : Nat) (ws : List TargetWrite) : Done :=
  match routeOfNat index with
  | none => s.refuse .badIndex
  | some i =>
    if 3 < ws.length then s.refuse .badValue
    else
      match targetsOf ws with
      | none => s.refuse .badValue
      | some [] => (s.storeRoute i defaultRoute).carried
      | some ts => ⟨s.storeRoute i ts, if ws.any clampsTarget then .okClamped else .ok, []⟩

/-- WRITE-TABLE SEGMENT (R153). -/
def writeSegment (s : State) (index : Nat) (w : SegmentWrite) : Done :=
  match segOfNat index with
  | none => s.refuse .badIndex
  | some k =>
    if w.valid = 0 then (s.setSegment k SegRec.invalid).carried
    else
      match SegRec.ofWrite w with
      | none => s.refuse .badValue
      | some r => ⟨s.setSegment k r, if r.length = w.length then .ok else .okClamped, []⟩

/-- WRITE-TABLE SAMPLES (R151). -/
def writeSamples (s : State) (index : Nat) (codes : List Byte) : Done :=
  if index ≤ 255 then (s.setSamples (Samples.writeList s.samples (64 * index) (codes.take 64))).carried
  else s.refuse .badIndex

/-- A HELD context whose hold time has reached a new hold-long time (R105, R171). -/
def holdLongAtOnce (s : State) (c : CtxId) : State :=
  if (s.ctx c).state = .held ∧ (s.ctx c).holdNotified = false ∧ s.holdLongSeconds ≤ (s.ctx c).holdCount then
    s.raiseHoldLong c
  else s

/-- A START or DEGRADED loop whose error count has reached a new limit (R20, R171). A count above a lowered limit stands as
it is: the model's choice (log entry 45). -/
def failAtOnce (s : State) (l : LoopId) : State :=
  if ((s.loop l).state = .start ∨ (s.loop l).state = .degraded) ∧ s.errorLimit ≤ (s.loop l).errors then
    s.enterFailed l
  else s

/-- What a stored setting reaches at once (R105, R171). The loops that enter FAILED at one write do so in ascending order, as
the contexts raise HOLD-LONG: the model's choice (log entry 59). -/
def settingEffect (s : State) (p : Fin 25) : State :=
  if p = 6 then allCtxs.foldl (fun s c => s.holdLongAtOnce c) s
  else if p = 12 then allLoops.foldl (fun s l => s.failAtOnce l) s
  else s

/-- A setting stored with its effects, and dispatch run (R170, R171). -/
def storeSetting (s : State) (p : Fin 25) (v : Nat) : State :=
  (({ s with settings := s.settings.set p v } : State).settingEffect p).dispatch

/-- WRITE-TABLE SETTINGS (R170). -/
def writeSettings (s : State) (index value : Nat) : Done :=
  match paramOfNat index with
  | none => s.refuse .badIndex
  | some p => ⟨s.storeSetting p (clampParam p value), if clampParam p value = value then .ok else .okClamped, []⟩

/-- WRITE-TABLE MASK (R169, R182, R196). -/
def writeMask (s : State) (index enables : Nat) : Done :=
  if index = 0 then ({ s with mask := BitVec.ofNat 12 enables } : State).wakeNotice.carried else s.refuse .badIndex

/-! ### Reads of state (R61, R89, R168, R199) -/

/-- The channel counts of a trunk after its state (R168, R199). -/
def trunkBytes (s : State) (t : Trunk) : List Byte :=
  [byte (s.trunk t).state.code, byte (s.chanCount t .free), byte (s.chanCount t .reserved),
    byte (s.chanCount t .inUse), byte (s.chanCount t .blocked)]

/-- Body of READ-STATUS (R168, R199). -/
def statusBody (s : State) : List Byte :=
  be16 s.sectNo ++ [byte s.home.code, byte s.supply.state.code] ++ allLoops.map s.loopByte ++ s.trunkBytes .A
    ++ s.trunkBytes .B
    ++ [CtxState.free, .queued, .offered, .connected, .held, .clearing].map (fun st => byte (s.ctxCount st))
    ++ [byte s.waiting.length, byte s.plan.val]

/-- One entry of READ-MAP (R61, R199). -/
def mapEntryBytes (s : State) (l : LoopId) (pos : Nat) (e : MapEntry) : List Byte :=
  (s.identityOf l pos e).bytes ++ optByte e.cmd.lastStatus ++ optByte e.cmd.lastHealth

/-- The ABSENT set in the order of directory position (R61). Equal positions stand in ascending slot order as they are held.
Between a write that empties an ABSENT slot and its INVALIDATION_REPORT the slot is still listed, with the number 0 and in the
place of the position 1 of its emptied record: the model's choice (log entry 46). -/
def absentInOrder (s : State) (l : LoopId) : List SlotId :=
  (s.loop l).absent.insertionSort (fun a b => (s.record a).position ≤ (s.record b).position)

/-- Body of READ-MAP (R61, R199). -/
def mapBody (s : State) (l : LoopId) : List Byte :=
  let L := s.loop l
  [byte l.val, s.loopByte l, flagByte L.reconPending, L.epoch, byte L.map.length]
    ++ (L.map.zipIdx 1).flatMap (fun p => s.mapEntryBytes l p.2 p.1)
    ++ [byte L.absent.length] ++ (s.absentInOrder l).flatMap (fun q => byte q.val :: be16 (s.record q).number)

/-- READ-MAP (R61). -/
def readMap (s : State) (loop : Nat) : Done :=
  match loopOfNat loop with
  | none => s.refuse .badIndex
  | some l => ⟨s, .ok, s.mapBody l⟩

end State

/-- A leg byte (R199). -/
def legByte : Option Leg → Byte
  | none => 0
  | some g => byte (128 * g.trunk.code + chanNumber g.chan)

/-- A bearer state as coded, in the order of R24 (R199). -/
def BearerState.code : BearerState → Nat
  | .free => 0
  | .assigning => 1
  | .live => 2
  | .releasing => 3

namespace State

/-- The bearer byte of READ-CALLS (R199). -/
def bearerByte (s : State) (c : CtxId) : Byte :=
  match (s.ctx c).bearer with
  | none => 0xFF
  | some b => byte (b.val + 4 * (s.bearer (s.ctx c).loop b).st.code)

/-- The offer reference of READ-CALLS (R199). -/
def refBytes (c : CtxId) : Option Byte → List Byte
  | none => [0xFF, 0xFF]
  | some gen => [byte c.val, gen]

/-- The 25 bytes of a context in READ-CALLS (R89, R199). -/
def callBytes (s : State) (c : CtxId) : List Byte :=
  let x := s.ctx c
  [byte c.val, byte x.state.code, byte x.cls.code, byte c.val, x.regGen] ++ refBytes c x.ref
    ++ [byte x.loop.val, byte x.entry, x.plate] ++ be16 ((x.snapshot.bind (·.number)).getD 0xFFFF)
    ++ [s.bearerByte c, legByte x.primary, legByte x.second] ++ optByte x.desk ++ optByte x.prevDesk
    ++ [byte x.represented] ++ be16 x.waited ++ be16 x.clips
    ++ [byte (if x.state = .clearing then (x.cause.map Cause.code).getD 0 else 0)]

/-- Body of READ-CALLS (R89, R199). -/
def callsBody (s : State) : List Byte :=
  let cs := allCtxs.filter (fun c => (s.ctx c).state != .free)
  byte cs.length :: cs.flatMap s.callBytes

end State

/-! ### Fault records (R178 to R180) -/

/-- A fault record by its kind and index (R176). -/
inductive RecRef where
  | sect
  | trunk (t : Trunk)
  | loop (l : LoopId)
  | post (q : SlotId)
  deriving DecidableEq, Repr

/-- The record a kind code and an index name (R176, R178, R195). -/
def RecRef.ofCodes (kind index : Nat) : Option RecRef :=
  match kind with
  | 0 => if index = 0 then some .sect else none
  | 1 => (Trunk.ofCode index).map .trunk
  | 2 => (loopOfNat index).map .loop
  | 3 => (slotOfNat index).map .post
  | _ => none

/-- The number of flags of a record's kind (R176). -/
def RecRef.flagCount : RecRef → Nat
  | .sect => 7
  | .trunk _ => 6
  | .loop _ => 10
  | .post _ => 8

namespace State

/-- The fault record a reference names. -/
def recordAt (s : State) : RecRef → FaultRec
  | .sect => s.sectionFault
  | .trunk t => s.trunkFault t
  | .loop l => s.loopFault l
  | .post q => s.postFault q

def setRecordAt (s : State) (r : RecRef) (x : FaultRec) : State :=
  match r with
  | .sect => s.setSectionFault x
  | .trunk t => s.setTrunkFault t x
  | .loop l => s.setLoopFault l x
  | .post q => s.setPostFault q x

/-- The byte after the change count (R199). -/
def recordExtra (s : State) : RecRef → Byte
  | .trunk t => byte (s.trunk t).slips
  | .post q => byte (s.testResult q).code
  | _ => 0

/-- The last byte of a record's body (R199). -/
def recordValid (s : State) : RecRef → Byte
  | .post q => flagByte (s.record q).valid
  | _ => 0

/-- Body of READ-FAULT and CLEAR-FAULT (R178, R179, R199). -/
def recordBody (s : State) (kind index : Nat) (r : RecRef) : List Byte :=
  [byte kind, byte index] ++ (s.recordAt r).flagsBytes ++ [(s.recordAt r).count, s.recordExtra r, s.recordValid r]

/-- READ-FAULT (R178). -/
def readFault (s : State) (kind index : Nat) : Done :=
  match RecRef.ofCodes kind index with
  | none => s.refuse .badIndex
  | some r => ⟨s, .ok, s.recordBody kind index r⟩

/-- The side effects of a clear of a section record (R35, R180). -/
def clearedSection (s : State) (cleared : BitVec 16) : State :=
  if cleared.getLsbD SectionFlag.supply.bit ∧ s.supply.state = .low then s.latchNow (.sect .supply) else s

/-- The side effects of a clear of a trunk record (R128, R180). -/
def clearedTrunk (s : State) (t : Trunk) (cleared : BitVec 16) : State :=
  if cleared.getLsbD TrunkFlag.slip.bit then s.modTrunk t (fun T => { T with slips := 0 }) else s

/-- The side effects of a clear of a loop record (R33, R34, R180). -/
def clearedLoop (s : State) (l : LoopId) (cleared : BitVec 16) : State :=
  let s1 := if cleared.getLsbD LoopFlag.tripped.bit then s.clearTripped l else s
  if cleared.getLsbD LoopFlag.opn.bit then s1.modFeed l Feed.clearOpen else s1

/-- The side effects of a clear (R180). -/
def clearEffects (s : State) (cleared : BitVec 16) : RecRef → State
  | .sect => s.clearedSection cleared
  | .trunk t => s.clearedTrunk t cleared
  | .loop l => s.clearedLoop l cleared
  | .post _ => s

/-- The named flags cleared, with their side effects (R179 step 4, R180). -/
def clearFlags (s : State) (r : RecRef) (flags : BitVec 16) : State :=
  (s.setRecordAt r ((s.recordAt r).clear flags)).clearEffects ((s.recordAt r).flags &&& flags) r

/-- CLEAR-FAULT (R179). -/
def clearFault (s : State) (kind index count flags : Nat) : Done :=
  match RecRef.ofCodes kind index with
  | none => s.refuse .badIndex
  | some r =>
    if 2 ^ r.flagCount ≤ flags then ⟨s, .badValue, s.recordBody kind index r⟩
    else if (s.recordAt r).count.toNat ≠ count then ⟨s, .changed, s.recordBody kind index r⟩
    else
      let s1 := s.clearFlags r (BitVec.ofNat 16 flags)
      ⟨s1, .ok, s1.recordBody kind index r⟩

/-! ### Control (R92, R172, R173) -/

end State

/-- The state that the taking of an event leaves. -/
def leftBy (o : Host.Outcome State Fault Refusal) (s : State) : State :=
  match o with
  | .next t => t
  | _ => s

/-- What the loop controller of `l` makes of a feed report; absent for any other event (R30). -/
def feedReport (l : LoopId) : Instr → Option (State → Host.Outcome State Fault Refusal)
  | .feedStateReport m feed desired => if m = l then some (execFeedStateReport m feed desired) else none
  | _ => none

/-- What the call manager makes of a report of loop `l`; absent for any other event (R65 to R86). -/
def callReport (l : LoopId) : Instr → Option (State → Host.Outcome State Fault Refusal)
  | .requestReport m pos cls => if m = l then some (execRequestReport m pos cls) else none
  | .callerReport m pos active => if m = l then some (execCallerReport m pos active) else none
  | .bearerLiveReport m b => if m = l then some (execBearerLiveReport m b) else none
  | .bearerFreeReport m b => if m = l then some (execBearerFreeReport m b) else none
  | .loopStateReport m st => if m = l then some (execLoopStateReport m st) else none
  | .testFailReport m pos => if m = l then some (execTestFailReport m pos) else none
  | .rebuildReport m epoch passes freed => if m = l then some (execRebuildReport m epoch passes freed) else none
  | .directoryRelease m pos => if m = l then some (execDirectoryRelease m pos) else none
  | _ => none

namespace State

/-- One event taken where `meaning` gives it one. -/
def takeIf (meaning : Instr → Option (State → Host.Outcome State Fault Refusal)) (s : State) (i : Instr) : State :=
  match meaning i with
  | some f => leftBy (f s) s
  | none => s

/-- The events of the hand-off list that `meaning` knows, taken in the order handed. -/
def takeAll (s : State) (meaning : Instr → Option (State → Host.Outcome State Fault Refusal)) : State :=
  s.handed.foldl (takeIf meaning) s

/-- The call manager's part of a loop's entry to OFF or UNPOWERED (R85, R172): it takes the reports of the loop in the
order handed, and no context of the loop is left. -/
def settleCalls (s : State) (l : LoopId) : State :=
  let s1 := s.takeAll (callReport l)
  if s1.ctxsOn l = [] then s1 else s1.releaseLoop l .loopPower

/-- A feed action carried through before its REPLY is made (R163, R172): the loop controller takes the feed's reports,
and with the loop in OFF or UNPOWERED the call manager takes the reports of the loop (log entry 53). A feed that the
action has not changed has made no report. -/
def carryFeed (s s1 : State) (l : LoopId) : State :=
  if s1.feed l = s.feed l then s1
  else
    let s2 := s1.takeAll (feedReport l)
    match (s2.loop l).state with
    | .off => s2.settleCalls l
    | .unpowered => s2.settleCalls l
    | _ => s2

/-- SET-PLAN (R92); the body is the active plan (R199). -/
def setActivePlan (s : State) (plan : Nat) : Done :=
  match planOfNat plan with
  | none => ⟨s, .badValue, [byte s.plan.val]⟩
  | some p => ⟨({ s with plan := p } : State).dispatch, .ok, [byte p.val]⟩

/-- LOOP-CONTROL RESTART (R23, R87, R172). The STALE it sets is an idle moment: the model's choice (log entry 61). -/
def restartLoop (s : State) (l : LoopId) : State :=
  let s1 := (s.setStale l).wakeScan l
  if (s.loop l).state.carries then ((s1.ctxsOn l).foldl (fun s c => s.releaseByRestart c) s1).dispatch else s1

/-- LOOP-CONTROL TEST (R172). Its pending command is an idle moment (log entry 61). -/
def testLoop (s : State) (l : LoopId) : State :=
  (s.modLoop l (fun L =>
    { L with map := L.map.map (fun e => { e with cmd := { e.cmd with testDue := true } }) })).wakeScan l

/-- LOOP-CONTROL (R172). -/
def loopControl (s : State) (loop action : Nat) : Done :=
  match loopOfNat loop with
  | none => s.refuse .badIndex
  | some l =>
    match action with
    | 0 => (s.carryFeed (s.feedOn l) l).carried
    | 1 => (s.carryFeed (s.feedOff l) l).carried
    | 2 => (s.restartLoop l).carried
    | 3 => (s.testLoop l).carried
    | _ => s.refuse .badValue

/-- BLOCK or UNBLOCK of a channel by its number (R131, R173). -/
def onChannel (s : State) (chan : Nat) (act : ChanId → State) : Done :=
  match chanOfNumber chan with
  | none => s.refuse .badIndex
  | some n => (act n).carried

/-- TRUNK-CONTROL (R173). -/
def trunkControl (s : State) (trunk action chan : Nat) : Done :=
  match Trunk.ofCode trunk with
  | none => s.refuse .badIndex
  | some t =>
    match action with
    | 0 => (s.enableTrunk t).carried
    | 1 => (s.disableTrunk t).carried
    | 2 => s.onChannel chan (fun n => s.blockChan t n)
    | 3 => s.onChannel chan (fun n => s.unblockChan t n)
    | _ => s.refuse .badValue

/-! ### Section restart (R88, R174) -/

/-- The call manager's part (R88). -/
def restartCalls (s : State) : State :=
  let s1 := allCtxs.foldl (fun s c => s.releaseBySection c) s
  { s1 with waiting := [], entryCount := 0 }

/-- The loop controllers' part (R18, R26): the scan in flight is marked and every bearer released. -/
def restartBearers (s : State) : State :=
  allLoops.foldl (fun s l =>
    allBearers.foldl (fun s b => s.releaseBearer l b)
      (s.modLoop l (fun L => { L with flight := L.flight.map (fun f => { f with marked := true }) }))) s

/-- The prompt store's part (R159). -/
def stopPlayers (s : State) : State := { s with players := tabulate s.players (fun _ p => p.stop) }

/-- The notice unit's part (R174, R185): every mark dropped, RESTART raised, RESTARTED latched. A raise that stands untaken in
`handed` is no mark yet; it stays there and sets its mark when it is taken: the model's choice (log entry 72). -/
def restartNotices (s : State) : State :=
  ((({ s with marks := [], abandons := Vector.replicate 104 0, abandonPosts := Vector.replicate 8 none } :
    State).raiseNow .restart).latchNow (.sect .restarted)).wakeNotice

/-- SECTION-RESTART (R174). What stands untaken in `handed`, reports of the loops and raises alike, stays there and is taken
afterwards: the model's choice (log entry 72). -/
def restartSection (s : State) : State :=
  (((((s.restartCalls).freePool .A).freePool .B).restartBearers).stopPlayers).restartNotices

/-! ### Execution and replies (R162 to R166) -/

/-- A request carried out or refused (R166). -/
def perform (s : State) : Request → Done
  | .readStatus => ⟨s, .ok, s.statusBody⟩
  | .readTable table index => s.readTable table index
  | .writeDirectory index w => s.writeSlot index w
  | .writeRoute index ws => s.writeRoute index ws
  | .writeSegment index w => s.writeSegment index w
  | .writeSamples index codes => s.writeSamples index codes
  | .writeSettings index value => s.writeSettings index value
  | .writeMask index enables => s.writeMask index enables
  | .writeUnknown _ => s.refuse .badIndex
  | .readMap loop => s.readMap loop
  | .readCalls => ⟨s, .ok, s.callsBody⟩
  | .readFault kind index => s.readFault kind index
  | .clearFault kind index count flags => s.clearFault kind index count flags
  | .loopControl loop action => s.loopControl loop action
  | .trunkControl trunk action chan => s.trunkControl trunk action chan
  | .setPlan plan => s.setActivePlan plan
  | .sectionRestart => s.restartSection.carried

/-- The management home becomes a trunk; a change of home is a moment of choice for the notice unit (R165, R183). -/
def setHome (s : State) (t : Trunk) : State :=
  if s.home = t then s else ({ s with home := t } : State).wakeNotice

/-- The REPLY of an executed request, its summary byte read when it is made (R163, R186). -/
def replyOf (d : Done) (req : Request) : Reply :=
  { echo := req.code, result := d.result, summary := d.st.summary, sectNo := d.st.sectNo, body := d.body }

/-- A REPLY made: it starts when its transmitter is sending nothing, and waits otherwise (R164). -/
def makeReply (s : State) (t : Trunk) (r : Reply) : State :=
  (s.modService t (fun v => { v with reply := some r })).startReply t

/-- A request executed (R163). -/
def execute (s : State) (t : Trunk) (req : Request) : State :=
  let d := (s.setHome t).perform req
  (d.st.modService t (fun v => { v with executing := some req })).makeReply t (replyOf d req)

/-- A complete request reaches its trunk's buffer (R162). -/
def accept (s : State) (t : Trunk) (req : Request) : State :=
  match (s.service t).executing, (s.service t).waiting with
  | none, _ => s.execute t req
  | some _, none => s.modService t (fun v => { v with waiting := some req })
  | some _, some _ => s.latch (.sect .overrun)

/-- What follows when a REPLY has been sent (R162, R183). -/
def afterReply (s : State) (t : Trunk) : State :=
  match (s.service t).waiting with
  | some req => (s.modService t (fun v => { v with waiting := none })).execute t req
  | none => if s.home = t then s.wakeNotice else s

end State

/-- A request that reaches the service handler as the event `i` (R162). -/
def arrive (i : Instr) (t : Trunk) (req : Request) (s : State) : Host.Outcome State Fault Refusal :=
  .next ((s.take i).accept t req)

/-- SERVICE_MESSAGE_DISCARD (R161): the matching flag latches in the section fault record. One of the part's own types is
UNKNOWN-TYPE by R161 and SIG-ERROR of its trunk by R192, and the model latches both (log entry 57). -/
def execServiceMessageDiscard (t : Trunk) (why : Discard) (s : State) : Host.Outcome State Fault Refusal :=
  let s1 := s.take (.serviceMessageDiscard t why)
  .next (match why with
    | .badCheck => s1.latch (.sect .badCheck)
    | .badLength => s1.latch (.sect .badLength)
    | .unknownType => s1.latch (.sect .unknownType)
    | .ownType => (s1.latch (.sect .unknownType)).latch (.trunk t .sigError))

/-- SERVICE_REQUEST_BUFFERED (R162): a complete request reaches its trunk's buffer. -/
def execServiceRequestBuffered (t : Trunk) (req : Request) (s : State) : Host.Outcome State Fault Refusal :=
  arrive (.serviceRequestBuffered t req) t req s

/-- REPLY_START (R164): a waiting REPLY starts when nothing is being sent. -/
def execReplyStart (t : Trunk) (s : State) : Host.Outcome State Fault Refusal :=
  .next ((s.take (.replyStart t)).startReply t)

/-- REPLY_COMPLETE (R162, R164): the last byte of a REPLY has been sent; the executing place is freed and a waiting
request executed. -/
def execReplyComplete (t : Trunk) (s : State) : Host.Outcome State Fault Refusal :=
  let s1 := s.take (.replyComplete t)
  .next (if (s1.service t).tx = .reply [] then
    (s1.modService t (fun v => { v with tx := .idle, executing := none })).afterReply t else s1)

/-- READ-STATUS (R168). -/
def execReadStatus (t : Trunk) (s : State) : Host.Outcome State Fault Refusal := arrive (.readStatus t) t .readStatus s

/-- READ-MAP (R61). -/
def execReadMap (t : Trunk) (loop : Nat) (s : State) : Host.Outcome State Fault Refusal :=
  arrive (.readMap t loop) t (.readMap loop) s

/-- READ-CALLS (R89). -/
def execReadCalls (t : Trunk) (s : State) : Host.Outcome State Fault Refusal := arrive (.readCalls t) t .readCalls s

/-- READ-FAULT (R178). -/
def execReadFault (t : Trunk) (kind index : Nat) (s : State) : Host.Outcome State Fault Refusal :=
  arrive (.readFault t kind index) t (.readFault kind index) s

/-- CLEAR-FAULT (R179, R180). -/
def execClearFault (t : Trunk) (kind index count flags : Nat) (s : State) : Host.Outcome State Fault Refusal :=
  arrive (.clearFault t kind index count flags) t (.clearFault kind index count flags) s

/-- READ-TABLE DIRECTORY (R43). -/
def execReadTableDirectory (t : Trunk) (index : Nat) (s : State) : Host.Outcome State Fault Refusal :=
  arrive (.readTableDirectory t index) t (.readTable 0 index) s

/-- READ-TABLE ROUTE (R91). -/
def execReadTableRoute (t : Trunk) (index : Nat) (s : State) : Host.Outcome State Fault Refusal :=
  arrive (.readTableRoute t index) t (.readTable 1 index) s

/-- READ-TABLE SEGMENT (R153). -/
def execReadTableSegment (t : Trunk) (index : Nat) (s : State) : Host.Outcome State Fault Refusal :=
  arrive (.readTableSegment t index) t (.readTable 2 index) s

/-- READ-TABLE SAMPLES (R151). -/
def execReadTableSamples (t : Trunk) (index : Nat) (s : State) : Host.Outcome State Fault Refusal :=
  arrive (.readTableSamples t index) t (.readTable 3 index) s

/-- READ-TABLE SETTINGS (R170). -/
def execReadTableSettings (t : Trunk) (index : Nat) (s : State) : Host.Outcome State Fault Refusal :=
  arrive (.readTableSettings t index) t (.readTable 4 index) s

/-- READ-TABLE MASK (R169). -/
def execReadTableMask (t : Trunk) (index : Nat) (s : State) : Host.Outcome State Fault Refusal :=
  arrive (.readTableMask t index) t (.readTable 5 index) s

/-- WRITE-TABLE DIRECTORY (R41, R42, R58 to R60). -/
def execWriteTableDirectory (t : Trunk) (index : Nat) (w : PostWrite) (s : State) :
    Host.Outcome State Fault Refusal :=
  arrive (.writeTableDirectory t index w) t (.writeDirectory index w) s

/-- WRITE-TABLE ROUTE (R91). -/
def execWriteTableRoute (t : Trunk) (index : Nat) (targets : List TargetWrite) (s : State) :
    Host.Outcome State Fault Refusal :=
  arrive (.writeTableRoute t index targets) t (.writeRoute index targets) s

/-- WRITE-TABLE SEGMENT (R153). -/
def execWriteTableSegment (t : Trunk) (index : Nat) (w : SegmentWrite) (s : State) :
    Host.Outcome State Fault Refusal :=
  arrive (.writeTableSegment t index w) t (.writeSegment index w) s

/-- WRITE-TABLE SAMPLES (R151). -/
def execWriteTableSamples (t : Trunk) (index : Nat) (codes : List Byte) (s : State) :
    Host.Outcome State Fault Refusal :=
  arrive (.writeTableSamples t index codes) t (.writeSamples index codes) s

/-- WRITE-TABLE SETTINGS (R170, R171). -/
def execWriteTableSettings (t : Trunk) (index value : Nat) (s : State) : Host.Outcome State Fault Refusal :=
  arrive (.writeTableSettings t index value) t (.writeSettings index value) s

/-- WRITE-TABLE MASK (R169, R182). -/
def execWriteTableMask (t : Trunk) (index enables : Nat) (s : State) : Host.Outcome State Fault Refusal :=
  arrive (.writeTableMask t index enables) t (.writeMask index enables) s

/-- SET-PLAN (R92). -/
def execSetPlan (t : Trunk) (plan : Nat) (s : State) : Host.Outcome State Fault Refusal :=
  arrive (.setPlan t plan) t (.setPlan plan) s

/-- LOOP-CONTROL FEED-ON (R38, R172). -/
def execLoopControlFeedOn (t : Trunk) (loop : Nat) (s : State) : Host.Outcome State Fault Refusal :=
  arrive (.loopControlFeedOn t loop) t (.loopControl loop 0) s

/-- LOOP-CONTROL FEED-OFF (R37, R172). -/
def execLoopControlFeedOff (t : Trunk) (loop : Nat) (s : State) : Host.Outcome State Fault Refusal :=
  arrive (.loopControlFeedOff t loop) t (.loopControl loop 1) s

/-- LOOP-CONTROL RESTART (R87, R172). -/
def execLoopControlRestart (t : Trunk) (loop : Nat) (s : State) : Host.Outcome State Fault Refusal :=
  arrive (.loopControlRestart t loop) t (.loopControl loop 2) s

/-- LOOP-CONTROL TEST (R172). -/
def execLoopControlTest (t : Trunk) (loop : Nat) (s : State) : Host.Outcome State Fault Refusal :=
  arrive (.loopControlTest t loop) t (.loopControl loop 3) s

/-- TRUNK-CONTROL ENABLE (R133, R173). -/
def execTrunkControlEnable (t : Trunk) (trunk : Nat) (s : State) : Host.Outcome State Fault Refusal :=
  arrive (.trunkControlEnable t trunk) t (.trunkControl trunk 0 0) s

/-- TRUNK-CONTROL DISABLE (R133, R173). -/
def execTrunkControlDisable (t : Trunk) (trunk : Nat) (s : State) : Host.Outcome State Fault Refusal :=
  arrive (.trunkControlDisable t trunk) t (.trunkControl trunk 1 0) s

/-- TRUNK-CONTROL BLOCK (R131, R173). -/
def execTrunkControlBlock (t : Trunk) (trunk chan : Nat) (s : State) : Host.Outcome State Fault Refusal :=
  arrive (.trunkControlBlock t trunk chan) t (.trunkControl trunk 2 chan) s

/-- TRUNK-CONTROL UNBLOCK (R131, R173). -/
def execTrunkControlUnblock (t : Trunk) (trunk chan : Nat) (s : State) : Host.Outcome State Fault Refusal :=
  arrive (.trunkControlUnblock t trunk chan) t (.trunkControl trunk 3 chan) s

/-- SECTION-RESTART (R174, R175). -/
def execSectionRestart (t : Trunk) (s : State) : Host.Outcome State Fault Refusal :=
  arrive (.sectionRestart t) t .sectionRestart s

end Sys2Proof.Machine
end

