-- ==== Sys2Proof/Machine/Voice.lean ====
section
/-! DEFINITION. The arithmetic of the sample code and the gain stage (07), on exact integers. -/

namespace Sys2Proof.Machine

open Sys2Proof

/-- Magnitude of exponent `e` and mantissa `m` (R135). -/
def sampleMagnitude (e m : Nat) : Nat := (m + 16) * 2 ^ e - 16

/-- The exponent field of a sample code (R190). -/
def sampleExponent (c : Byte) : Nat := (c.extractLsb' 4 3).toNat

/-- The mantissa field of a sample code (R190). -/
def sampleMantissa (c : Byte) : Nat := (c.extractLsb' 0 4).toNat

/-- The linear value of a sample code (R135). -/
def decodeSample (c : Byte) : Int :=
  if c.getLsbD 7 then -(sampleMagnitude (sampleExponent c) (sampleMantissa c) : Int)
  else (sampleMagnitude (sampleExponent c) (sampleMantissa c) : Int)

/-- The largest exponent whose threshold 16 × 2^e − 16 is at most the magnitude (R136, step 2). -/
def exponentFor (mag : Nat) : Nat :=
  if 2032 ≤ mag then 7 else if 1008 ≤ mag then 6 else if 496 ≤ mag then 5 else if 240 ≤ mag then 4
  else if 112 ≤ mag then 3 else if 48 ≤ mag then 2 else if 16 ≤ mag then 1 else 0

/-- The sample code of a linear value of magnitude at most 3952 (R136). -/
def encodeSample (v : Int) : Byte :=
  BitVec.ofNat 8 ((if v < 0 then 128 else 0) + 16 * exponentFor v.natAbs
    + ((v.natAbs + 16) / 2 ^ exponentFor v.natAbs - 16))

/-- The rounded magnitude of the gain stage before the limit (R137, steps 1 and 2). -/
def gainRounded (x : Int) (g : Nat) : Nat := (x.natAbs * g + 16) / 32

/-- Whether a sample saturates (R137, step 3; R138). -/
def gainClips (x : Int) (g : Nat) : Bool := Config.sampleLimit < gainRounded x g

/-- The magnitude the gain stage gives (R137, step 3). -/
def gainMagnitude (x : Int) (g : Nat) : Nat := min (gainRounded x g) Config.sampleLimit

/-- The linear output of the gain stage (R137, step 4). -/
def gainStage (x : Int) (g : Nat) : Int :=
  if x < 0 then -(gainMagnitude x g : Int) else (gainMagnitude x g : Int)

/-- The code a linear input gives through a gain (R136, R137). -/
def gainCode (x : Int) (g : Nat) : Byte := encodeSample (gainStage x g)

end Sys2Proof.Machine
end

