-- ==== Sys2Proof/Machine/VoicePath.lean ====
section
/-! DEFINITION. The loop frame (01, 1.1) with the voice samples of its bearers (07): what is sent, what comes back,
receive alignment, the scan receiver, and the level monitor. -/

namespace Sys2Proof.Machine

open Sys2Proof

namespace State

/-! ### Samples (R141 to R144) -/

/-- The context whose samples a LIVE bearer carries (R2, R141). Where two contexts that are not CLEARING name the bearer, one of
them having lost it by a rebuild or a loop's end whose report is not yet taken, it is the lowest-numbered, whichever of them the
bearer is tied to: the model's choice (log entry 76). -/
def sampled (s : State) (l : LoopId) (b : BearerId) : Option CtxId :=
  if (s.bearer l b).st = .live then s.holder l b (fun x => x.state != .clearing) else none

/-- The tie of a context's post, UNLISTED where its entry is not in the map (R55). -/
def keyTie (s : State) (c : CtxId) : Tie :=
  match s.keyEntry c with
  | some e => e.tie
  | none => .unlisted

/-- A saturation added to the clip count (R138). -/
def countClip (s : State) (c : CtxId) (clips : Bool) : State :=
  if clips then s.modCtx c (fun x => { x with clips := min (x.clips + 1) 65535 }) else s

/-- A linear value through a gain: the clip counted, and the code (R136 to R138). -/
def throughGain (s : State) (c : CtxId) (x : Int) (g : Nat) : State × Byte :=
  (s.countClip c (gainClips x g), gainCode x g)

/-- The linear value a leg's channel delivers; an absent leg contributes 0 (R140). -/
def legValue (s : State) : Option Leg → Int
  | some g => decodeSample (s.trunk g.trunk).voice[g.chan]
  | none => 0

/-- The player's code of a sample through the downlink gain (R142, R156). -/
def playerSample (s : State) (c : CtxId) (gain : Nat) : State × Byte :=
  let s1 := s.catchSegment c
  (s1.advancePlayer c).throughGain c (decodeSample (s1.playerCode c)) gain

/-- The downlink sample of a context (R140, R142). -/
def downSample (s : State) (c : CtxId) : State × Byte :=
  let gain := s.downGainOf (s.keyTie c)
  match (s.ctx c).state with
  | .connected =>
    s.throughGain c (s.legValue (s.ctx c).primary + s.legValue (s.ctx c).second) gain
  | .queued => s.playerSample c gain
  | .offered => s.playerSample c gain
  | .held => s.playerSample c gain
  | _ => (s, 0x00)

/-- The downlink code of a bearer slot (R2, R142). -/
def downCode (s : State) (l : LoopId) (b : BearerId) : State × Byte :=
  match s.sampled l b with
  | some c => s.downSample c
  | none => (s, 0x00)

/-- The downlink codes of bearers in ascending order. -/
def downCodes (l : LoopId) : List BearerId → State → State × List Byte
  | [], s => (s, [])
  | b :: bs, s =>
    let r := s.downCode l b
    ((downCodes l bs r.1).1, r.2 :: (downCodes l bs r.1).2)

/-- A code written to a leg's channel (R143). -/
def writeLeg (s : State) (code : Byte) : Option Leg → State
  | some g => s.setChan g.trunk g.chan { s.chan g.trunk g.chan with code := code }
  | none => s

/-- A code written to every leg of a context (R143). -/
def writeLegs (s : State) (c : CtxId) (code : Byte) : State :=
  (s.writeLeg code (s.ctx c).primary).writeLeg code (s.ctx c).second

/-! ### The level monitor (R145 to R147) -/

/-- The judgement of a complete block, where one is due. -/
def judgeDue (s : State) (c : CtxId) : State := if s.blockDue c then s.judgeBlock c else s

/-- A magnitude fed to the level monitor; the 160th of a block hands its completion (R145). -/
def feedMonitor (s : State) (c : CtxId) (magnitude : Nat) : State :=
  let p := s.path c
  let s1 := s.setPath c ⟨p.sum + magnitude, p.count + 1⟩
  if p.count + 1 = Config.blockSamples then s1.hand (.levelBlockComplete c) else s1

/-- The uplink input of a CONNECTED context: the received code while its post is on its bearer, 0 otherwise (R144). -/
def upInput (s : State) (c : CtxId) (code : Byte) : Int :=
  match s.keyEntry c, (s.ctx c).bearer with
  | some e, some b => if e.cmd.confirmedBearer = .on b then decodeSample code else 0
  | _, _ => 0

/-- The uplink sample of a context (R143 to R145). -/
def upSample (s0 : State) (c : CtxId) (code : Byte) : State :=
  match (s0.ctx c).state with
  | .connected =>
    let s := s0.catchBlock c
    let x := s.upInput c code
    let gain := s.upGainOf (s.keyTie c)
    let r := s.throughGain c x gain
    (r.1.writeLegs c r.2).feedMonitor c (gainMagnitude x gain)
  | .held => s0.writeLegs c 0x00
  | _ => s0

/-- The code received in a bearer slot, taken by bearer state (R2). -/
def upCode (s : State) (l : LoopId) (b : BearerId) (code : Byte) : State :=
  match s.sampled l b with
  | some c => s.upSample c code
  | none => s

end State

/-! ### The received stream (R1, R189) -/

/-- What the receive side makes of six more bytes: what is left, whether it is aligned, the run of frames without sync,
and the frame delivered. -/
structure Framed where
  rest    : List Byte
  aligned : Bool
  missing : Nat
  frame   : Option (List Byte)
  deriving DecidableEq, Repr

/-- The stream from its first sync byte on (R189). -/
def fromSync (bs : List Byte) : List Byte := bs.dropWhile (· != loopSync)

/-- One frame taken from an aligned stream (R1). -/
def takeFrame (bs : List Byte) (missing : Nat) : Framed :=
  if bs.length < 6 then ⟨bs, true, missing, none⟩
  else if bs.headD 0 = loopSync then ⟨bs.drop 6, true, 0, some (bs.take 6)⟩
  else ⟨bs.drop 6, true, missing + 1, some (bs.take 6)⟩

/-- Framing of the received stream (R1, R189). -/
def frameStream (aligned : Bool) (missing : Nat) (bs : List Byte) : Framed :=
  if aligned then takeFrame bs missing
  else if fromSync bs = [] then ⟨[], false, 0, none⟩
  else takeFrame (fromSync bs) 0

/-- The byte of slot 1 and the four bearer codes that the receivers are given: those of the frame while it is
delivered and the run of missing sync bytes is below 4, idle fill and 0x00 otherwise (R1). -/
def Framed.slots (f : Framed) : List Byte :=
  match f.frame with
  | some bs => if f.missing < 4 then bs.drop 1 else [scanIdle, 0, 0, 0, 0]
  | none => [scanIdle, 0, 0, 0, 0]

/-- One byte into the scan receiver while a scan is in flight (R5, R15, R189): END is read only where the first byte of
a pair is expected, and a 17th pair ends the scan. -/
def Loop.receive (L : Loop) (k : Nat) (b : Byte) : Loop :=
  if L.rxDone ∨ (L.rx = [] ∧ b = scanIdle) then L
  else
    let n := L.rx.length
    let atPair := 1 + k ≤ n && (n - (1 + k)) % 2 == 0
    { L with rx := L.rx ++ [b], rxDone := atPair && (b == scanEnd || n == 1 + k + 32) }

/-- A byte of slot 1: to the scan receiver, or to the timeout guard, which a non-idle byte starts again (R14). -/
def Loop.takeScanByte (L : Loop) (b : Byte) : Loop :=
  match L.flight with
  | some f => L.receive f.cmds.length b
  | none => if L.guard.isRunning ∧ b ≠ scanIdle then { L with guard := Timer.start L.guardSpan } else L

/-- The loss of receive alignment (R1): the receivers are given idle fill from here on. Bytes received and not yet taken
stay, to be examined for the sync byte (R189). -/
def Loop.unalign (L : Loop) : Loop := { L with aligned := false, missing := 0 }

namespace State

/-- The receive side of a loop loses alignment after four frames without sync (R1). -/
def unalignLoop (s : State) (l : LoopId) : State :=
  if (s.loop l).aligned ∧ 4 ≤ (s.loop l).missing then s.modLoop l Loop.unalign else s

/-- The same where its own command has not come before the next frame. -/
def catchUnalign (s : State) (l : LoopId) : State :=
  if (s.loop l).aligned ∧ 4 ≤ (s.loop l).missing then
    (s.take (.loopReceiveUnaligned l)).modLoop l Loop.unalign
  else s

/-! ### The frame sent (R1, R3) -/

/-- The ring acts on the scan whose END has been sent, and the scan timeout starts (R4, R14). -/
def endSent (s : State) (l : LoopId) : State :=
  let s1 := s.modLoop l (fun L => { L with scanTimer := Timer.start s.scanFrames })
  match (s.loop l).flight with
  | some f =>
    if energised (s.feed l).state then
      s1.setRing l ((s.ring l).actOn (match f.purpose with | .sweep => true | _ => false) f.cmds)
    else s1
  | none => s1

/-- The byte of slot 1 leaves the outbound scan (R3). -/
def sendScanByte (s : State) (l : LoopId) : State :=
  match (s.loop l).txLeft with
  | [] => s
  | [_] => (s.modLoop l (fun L => { L with txLeft := [] })).endSent l
  | _ :: rest => s.modLoop l (fun L => { L with txLeft := rest })

/-- The six bytes of the loop frame (R1). -/
def loopOut (s : State) (l : LoopId) (down : List Byte) : List Byte :=
  loopSync :: (s.loop l).txLeft.headD scanIdle :: down

/-! ### The frame returned (R1, R2, R4) -/

/-- What a ring puts into the bearer slots: the post's code where a live post holds the bearer, and the part's own
downlink where none does (R2). -/
def ringBearers (r : Ring) (up down : List Byte) : List Byte :=
  allBearers.map (fun b => if r.holds b then up.getD b.val 0 else down.getD b.val 0)

/-- The six bytes that come back (R1, R2). -/
def returned (s : State) (l : LoopId) (down : List Byte) : LoopReturn → List Byte
  | .bytes received => received
  | .ring up =>
    if energised (s.feed l).state then
      loopSync :: (s.ring l).transit.headD scanIdle :: ringBearers (s.ring l) up down
    else List.replicate 6 0

/-- The byte on its way that has come back leaves the ring; nothing is on its way in a pair without power. -/
def advanceRing (s : State) (l : LoopId) : State :=
  s.setRing l
    { s.ring l with transit := if energised (s.feed l).state then (s.ring l).transit.drop 1 else [] }

/-- The received bytes framed and slot 1 taken (R1, R5, R14). -/
def takeReturn (s : State) (l : LoopId) (f : Framed) : State :=
  let s1 := s.modLoop l (fun L =>
    ({ L with rxBuf := f.rest, aligned := f.aligned, missing := f.missing } : Loop).takeScanByte
      (f.slots.headD scanIdle))
  let s2 := if f.frame.isSome ∧ f.missing = 4 then s1.hand (.loopReceiveUnaligned l) else s1
  if !(s.loop l).rxDone && (s2.loop l).rxDone then s2.hand (.scanReturn l) else s2

/-- The codes of the bearer slots, each to its bearer (R2). -/
def upCodes (l : LoopId) (codes : List Byte) (s : State) : State :=
  allBearers.foldl (fun s b => s.upCode l b (codes.getD b.val 0)) s

end State

/-- LOOP_FRAME (R1, R2, R141): the loop frame is sent, the returned one taken, and one sample computed for each context
with a LIVE bearer. -/
def execLoopFrame (l : LoopId) (ret : LoopReturn) (s : State) : Host.Outcome State Fault Refusal :=
  let s1 := (s.take (.loopFrame l ret)).catchUnalign l
  let down := State.downCodes l allBearers s1
  let s2 := down.1.modLoop l (fun L => { L with sent := down.1.loopOut l down.2 })
  let received := s2.returned l down.2 ret
  let s3 := (s2.advanceRing l).sendScanByte l
  let f := frameStream (s3.loop l).aligned (s3.loop l).missing ((s3.loop l).rxBuf ++ received)
  .next (State.upCodes l (f.slots.drop 1) (s3.takeReturn l f))

/-- LOOP_RECEIVE_UNALIGNED (R1): four consecutive returned frames lacked the sync byte. -/
def execLoopReceiveUnaligned (l : LoopId) (s : State) : Host.Outcome State Fault Refusal :=
  .next ((s.take (.loopReceiveUnaligned l)).unalignLoop l)

/-- LEVEL_BLOCK_COMPLETE (R145 to R147). -/
def execLevelBlockComplete (c : CtxId) (s : State) : Host.Outcome State Fault Refusal :=
  .next ((s.take (.levelBlockComplete c)).judgeDue c)

end Sys2Proof.Machine
end

