-- ==== Sys2Proof/Machine/Dispatch.lean ====
section
/-! DEFINITION. One arm for each command, each one call of its meaning. -/

namespace Sys2Proof.Machine

open Sys2Proof

/-- The effect of a command on everything but the queue of commands. -/
def exec (i : Instr) (s : State) : Host.Outcome State Fault Refusal :=
  match i with
  | .powerOn supply => Sys2Proof.Machine.execPowerOn supply s
  | .loopFrame l ret => Sys2Proof.Machine.execLoopFrame l ret s
  | .loopReceiveUnaligned l => Sys2Proof.Machine.execLoopReceiveUnaligned l s
  | .scanPick l => Sys2Proof.Machine.execScanPick l s
  | .scanReturn l => Sys2Proof.Machine.execScanReturn l s
  | .scanTimeout l => Sys2Proof.Machine.execScanTimeout l s
  | .timeoutGuardEnd l => Sys2Proof.Machine.execTimeoutGuardEnd l s
  | .pollTimerExpiry l => Sys2Proof.Machine.execPollTimerExpiry l s
  | .sweepTimerExpiry l => Sys2Proof.Machine.execSweepTimerExpiry l s
  | .reconfirmTimerExpiry l => Sys2Proof.Machine.execReconfirmTimerExpiry l s
  | .reconciliation l handOver plates => Sys2Proof.Machine.execReconciliation l handOver plates s
  | .resultInstall l handOver entries absent => Sys2Proof.Machine.execResultInstall l handOver entries absent s
  | .rebuildReport l epoch passes freed => Sys2Proof.Machine.execRebuildReport l epoch passes freed s
  | .structuralWriteReport l slot role => Sys2Proof.Machine.execStructuralWriteReport l slot role s
  | .invalidationReport l slot => Sys2Proof.Machine.execInvalidationReport l slot s
  | .directoryRelease l position => Sys2Proof.Machine.execDirectoryRelease l position s
  | .feedStateReport l feed desired => Sys2Proof.Machine.execFeedStateReport l feed desired s
  | .settleTimerExpiry l => Sys2Proof.Machine.execSettleTimerExpiry l s
  | .loopCurrentChange l current => Sys2Proof.Machine.execLoopCurrentChange l current s
  | .feedTrip l => Sys2Proof.Machine.execFeedTrip l s
  | .openDetected l => Sys2Proof.Machine.execOpenDetected l s
  | .supplyLoss level => Sys2Proof.Machine.execSupplyLoss level s
  | .supplyLevelChange level => Sys2Proof.Machine.execSupplyLevelChange level s
  | .supplyRestore => Sys2Proof.Machine.execSupplyRestore s
  | .requestReport l position cls => Sys2Proof.Machine.execRequestReport l position cls s
  | .callerReport l position active => Sys2Proof.Machine.execCallerReport l position active s
  | .bearerLiveReport l b => Sys2Proof.Machine.execBearerLiveReport l b s
  | .bearerFreeReport l b => Sys2Proof.Machine.execBearerFreeReport l b s
  | .loopStateReport l st => Sys2Proof.Machine.execLoopStateReport l st s
  | .testFailReport l position => Sys2Proof.Machine.execTestFailReport l position s
  | .retryTimerExpiry c => Sys2Proof.Machine.execRetryTimerExpiry c s
  | .offerTimeout c => Sys2Proof.Machine.execOfferTimeout c s
  | .holdLong c => Sys2Proof.Machine.execHoldLong c s
  | .answer t ref desk => Sys2Proof.Machine.execAnswer t ref desk s
  | .decline t ref => Sys2Proof.Machine.execDecline t ref s
  | .hold t ref => Sys2Proof.Machine.execHold t ref s
  | .retrieve t ref => Sys2Proof.Machine.execRetrieve t ref s
  | .join t ref => Sys2Proof.Machine.execJoin t ref s
  | .leave t ref => Sys2Proof.Machine.execLeave t ref s
  | .release t ref => Sys2Proof.Machine.execRelease t ref s
  | .signallingMessageDiscard t => Sys2Proof.Machine.execSignallingMessageDiscard t s
  | .trunkFrameSend t => Sys2Proof.Machine.execTrunkFrameSend t s
  | .trunkFrameReceive t received => Sys2Proof.Machine.execTrunkFrameReceive t received s
  | .farAlarmAbsent t => Sys2Proof.Machine.execFarAlarmAbsent t s
  | .alignmentLost t => Sys2Proof.Machine.execAlignmentLost t s
  | .holdoverExpiry t => Sys2Proof.Machine.execHoldoverExpiry t s
  | .failover t => Sys2Proof.Machine.execFailover t s
  | .trunkStateReport t st => Sys2Proof.Machine.execTrunkStateReport t st s
  | .trunkControlEnable t trunk => Sys2Proof.Machine.execTrunkControlEnable t trunk s
  | .trunkControlDisable t trunk => Sys2Proof.Machine.execTrunkControlDisable t trunk s
  | .trunkControlBlock t trunk chan => Sys2Proof.Machine.execTrunkControlBlock t trunk chan s
  | .trunkControlUnblock t trunk chan => Sys2Proof.Machine.execTrunkControlUnblock t trunk chan s
  | .levelBlockComplete c => Sys2Proof.Machine.execLevelBlockComplete c s
  | .segmentEnd c => Sys2Proof.Machine.execSegmentEnd c s
  | .serviceMessageDiscard t why => Sys2Proof.Machine.execServiceMessageDiscard t why s
  | .serviceRequestBuffered t req => Sys2Proof.Machine.execServiceRequestBuffered t req s
  | .replyStart t => Sys2Proof.Machine.execReplyStart t s
  | .replyComplete t => Sys2Proof.Machine.execReplyComplete t s
  | .noticeStart => Sys2Proof.Machine.execNoticeStart s
  | .faultLatch latch => Sys2Proof.Machine.execFaultLatch latch s
  | .noticeRaise raise => Sys2Proof.Machine.execNoticeRaise raise s
  | .readStatus t => Sys2Proof.Machine.execReadStatus t s
  | .readMap t loop => Sys2Proof.Machine.execReadMap t loop s
  | .readCalls t => Sys2Proof.Machine.execReadCalls t s
  | .readFault t kind index => Sys2Proof.Machine.execReadFault t kind index s
  | .clearFault t kind index count flags => Sys2Proof.Machine.execClearFault t kind index count flags s
  | .readTableDirectory t index => Sys2Proof.Machine.execReadTableDirectory t index s
  | .readTableRoute t index => Sys2Proof.Machine.execReadTableRoute t index s
  | .readTableSegment t index => Sys2Proof.Machine.execReadTableSegment t index s
  | .readTableSamples t index => Sys2Proof.Machine.execReadTableSamples t index s
  | .readTableSettings t index => Sys2Proof.Machine.execReadTableSettings t index s
  | .readTableMask t index => Sys2Proof.Machine.execReadTableMask t index s
  | .writeTableDirectory t index w => Sys2Proof.Machine.execWriteTableDirectory t index w s
  | .writeTableRoute t index targets => Sys2Proof.Machine.execWriteTableRoute t index targets s
  | .writeTableSegment t index w => Sys2Proof.Machine.execWriteTableSegment t index w s
  | .writeTableSamples t index codes => Sys2Proof.Machine.execWriteTableSamples t index codes s
  | .writeTableSettings t index value => Sys2Proof.Machine.execWriteTableSettings t index value s
  | .writeTableMask t index enables => Sys2Proof.Machine.execWriteTableMask t index enables s
  | .setPlan t plan => Sys2Proof.Machine.execSetPlan t plan s
  | .loopControlFeedOn t loop => Sys2Proof.Machine.execLoopControlFeedOn t loop s
  | .loopControlFeedOff t loop => Sys2Proof.Machine.execLoopControlFeedOff t loop s
  | .loopControlRestart t loop => Sys2Proof.Machine.execLoopControlRestart t loop s
  | .loopControlTest t loop => Sys2Proof.Machine.execLoopControlTest t loop s
  | .sectionRestart t => Sys2Proof.Machine.execSectionRestart t s
  | .callButtonPress l place cls => Sys2Proof.Machine.execCallButtonPress l place cls s
  | .hookChange l place off => Sys2Proof.Machine.execHookChange l place off s
  | .doorSwitchChange l place opn => Sys2Proof.Machine.execDoorSwitchChange l place opn s
  | .healthFlagChange l place flag on => Sys2Proof.Machine.execHealthFlagChange l place flag on s
  | .postPowerRestart l place => Sys2Proof.Machine.execPostPowerRestart l place s
  | .bypassRelayChange l change => Sys2Proof.Machine.execBypassRelayChange l change s

end Sys2Proof.Machine
end

