-- ==== Sys2Proof/Machine/Tick.lean ====
section
/-! DEFINITION. One frame time of 125 microseconds (00_scope.md, Time): every running timer and measured time goes on,
and what runs out hands the command of its event. -/

namespace Sys2Proof.Machine

open Sys2Proof

namespace State

/-- An event handed when its condition holds. -/
def handIf (s : State) (c : Bool) (i : Instr) : State := if c then s.hand i else s

end State

/-- The timers of a loop controller one frame on (R11, R14). -/
def Loop.tick (L : Loop) : Loop :=
  { L with
    scanTimer := L.scanTimer.tick
    guard := L.guard.tick
    pollTimer := L.pollTimer.tick
    sweepTimer := L.sweepTimer.tick
    reconfirmTimer := L.reconfirmTimer.tick }

/-- The open timer one frame on (R34). -/
def OpenTimer.tick : OpenTimer → OpenTimer
  | .running n => .running (n + 1)
  | x => x

/-- The timers of a feed supervisor one frame on (R29, R31, R34). -/
def Feed.tick (f : Feed) : Feed :=
  { f with settle := f.settle.tick, trip := f.trip.map (· + 1), opn := f.opn.tick }

/-- The open timer reaches 2 s in the coming frame (R34). -/
def OpenTimer.dueNext : OpenTimer → Bool
  | .running n => n + 1 == Config.openFrames
  | _ => false

/-- The trip filter reaches 10 ms in the coming frame (R31). -/
def Feed.tripDue (f : Feed) : Bool := f.trip == some (Config.tripFrames - 1)

/-- A count of seconds and the frames of the second being counted, one frame on; the seconds saturate. -/
def countSecond (seconds sub : Nat) : Nat × Nat :=
  if sub + 1 = Config.framesPerSecond then (min (seconds + 1) 65535, 0) else (seconds, sub + 1)

/-- The waited time goes on while the context is QUEUED or OFFERED (R77). -/
def Ctx.waits (x : Ctx) : Bool := x.state == .queued || x.state == .offered

/-- The hold timer goes on while the context is HELD (R105). -/
def Ctx.holds (x : Ctx) : Bool := x.state == .held && x.holdRunning

/-- The timers of a context one frame on (R77, R94, R97, R105). -/
def Ctx.tick (x : Ctx) : Ctx :=
  let w := if x.waits then countSecond x.waited x.waitedSub else (x.waited, x.waitedSub)
  let h := if x.holds then countSecond x.holdCount x.holdSub else (x.holdCount, x.holdSub)
  { x with
    offerTimer := x.offerTimer.tick
    retryTimer := x.retryTimer.tick
    waited := w.1
    waitedSub := w.2
    holdCount := h.1
    holdSub := h.2 }

/-- The hold timer reaches the hold-long time in the coming frame (R105). -/
def Ctx.holdDue (x : Ctx) (holdLong : Nat) : Bool :=
  x.holds && !x.holdNotified && x.holdSub + 1 == Config.framesPerSecond && holdLong ≤ x.holdCount + 1

namespace State

/-- The expiries of a loop controller (R11, R14). Those of one frame are handed in the order of the body: the model's choice
(log entry 60). -/
def tickLoop (s : State) (l : LoopId) : State :=
  let L := s.loop l
  (((((s.setLoop l L.tick).handIf L.scanTimer.dueNext (.scanTimeout l)).handIf L.guard.dueNext
    (.timeoutGuardEnd l)).handIf L.pollTimer.dueNext (.pollTimerExpiry l)).handIf L.sweepTimer.dueNext
    (.sweepTimerExpiry l)).handIf L.reconfirmTimer.dueNext (.reconfirmTimerExpiry l)

/-- The expiries of a feed supervisor (R29, R31, R34). Those of one frame are handed settle timer, trip filter, open timer, so
that a loop passes START before TRIPPED: the model's choice (log entry 60). -/
def tickFeed (s : State) (l : LoopId) : State :=
  let f := s.feed l
  (((s.setFeed l f.tick).handIf f.settle.dueNext (.settleTimerExpiry l)).handIf f.tripDue (.feedTrip l)).handIf
    f.opn.dueNext (.openDetected l)

/-- The expiry of the restore timer (R36). -/
def tickSupply (s : State) : State :=
  (s.setSupply { s.supply with restore := s.supply.restore.tick }).handIf s.supply.restore.dueNext .supplyRestore

/-- The expiry of a holdover timer (R124). -/
def tickTrunk (s : State) (t : Trunk) : State :=
  (s.modTrunk t (fun T => { T with holdover := T.holdover.tick })).handIf (s.trunk t).holdover.dueNext
    (.holdoverExpiry t)

/-- The expiries of a context (R94, R97, R105). Those of one frame are handed in the order of the body: the model's choice (log
entry 60). -/
def tickCtx (s : State) (c : CtxId) : State :=
  let x := s.ctx c
  (((s.setCtx c x.tick).handIf x.retryTimer.dueNext (.retryTimerExpiry c)).handIf x.offerTimer.dueNext
    (.offerTimeout c)).handIf (x.holdDue s.holdLongSeconds) (.holdLong c)

/-- One frame time passes: supply, feeds, loops, trunks, contexts (log entry 2), the several of one block in ascending order,
trunk A before trunk B: the model's choice (log entry 60). -/
def tick (s : State) : State :=
  allCtxs.foldl tickCtx
    (((allLoops.foldl tickLoop (allLoops.foldl tickFeed s.tickSupply)).tickTrunk .A).tickTrunk .B)

end State

end Sys2Proof.Machine
end

