-- ==== Sys2Proof/Machine/Step.lean ====
section
/-! DEFINITION. One step of the part: the command at the front of the queue, else the oldest event handed, else one
frame time. -/

namespace Sys2Proof.Machine

open Sys2Proof

/-- What the part does while no command waits: it takes the oldest event its blocks have handed, and when there is none
one frame time passes. -/
def idleStep (s : State) : Host.Outcome State Fault Refusal :=
  match s.handed with
  | i :: _ => exec i s
  | [] => .next s.tick

/-- One step: the command at the front of the queue is carried out with the queue's rest. -/
def step (s : State) : Host.Outcome State Fault Refusal :=
  match s.pending with
  | i :: rest => exec i { s with pending := rest }
  | [] => idleStep s

/-- The command a word spells put at the front of the queue; no word spells one. -/
def State.withFetchWord (s : State) (nbits w : Nat) : State :=
  match decodeTableWord nbits w with
  | some i => { s with pending := i :: s.pending }
  | none => s

end Sys2Proof.Machine
end

