-- ==== Sys2Proof/Safety.lean ====
section
/-! DEFINITION. What a good state of the part is, in the terms the statements use: the tables, the contexts, the waiting
list, the channels, the marks and the counters as the rules say they stand at all times; and what a command does, where
several statements say it: a REPLY made, a scan sent, used or counted as errored, a call cleared, a bearer sampled. -/

namespace Sys2Proof

/-- The other trunk. -/
def Trunk.other : Trunk → Trunk
  | .A => .B
  | .B => .A

/-- The fault record a latch names. -/
def Latch.recordRef : Latch → Machine.RecRef
  | .sect _ => .sect
  | .trunk t _ => .trunk t
  | .loop l _ => .loop l
  | .post q _ => .post q

open Machine

/-- The bytes of a post record in a WRITE-TABLE DIRECTORY (R195). -/
def PostWrite.bytes (w : PostWrite) : List Byte :=
  [byte w.valid] ++ be16 w.number ++ [byte w.loop, byte w.position, w.plate] ++ be16 w.road ++ [byte w.carriageway] ++
    be16 w.marker ++ [byte w.zone, byte w.upGain, byte w.downGain, byte w.permits] ++ labelBytes w.label1 ++
    labelBytes w.label2

/-- The body of a request (R195). -/
def Request.body : Request → List Byte
  | .readStatus => []
  | .readTable table index => [byte table, byte index]
  | .writeDirectory index w => [0, byte index] ++ w.bytes
  | .writeRoute index ws =>
    [1, byte index, byte ws.length] ++ ws.flatMap (fun w => [byte w.trunk, byte w.group, byte w.timeout])
  | .writeSegment index w => [2, byte index, byte w.valid] ++ be16 w.start ++ be16 w.length ++ [byte w.after]
  | .writeSamples index codes => [3, byte index] ++ codes
  | .writeSettings index value => [4, byte index] ++ be16 value
  | .writeMask index enables => [5, byte index] ++ be16 enables
  | .writeUnknown table => [byte table]
  | .readMap loop => [byte loop]
  | .readCalls => []
  | .readFault kind index => [byte kind, byte index]
  | .clearFault kind index count flags => [byte kind, byte index, byte count] ++ be16 flags
  | .loopControl loop action => [byte loop, byte action]
  | .trunkControl trunk action chan => [byte trunk, byte action, byte chan]
  | .setPlan plan => [byte plan]
  | .sectionRestart => []

end Sys2Proof

namespace Sys2Proof.Machine

open Sys2Proof

/-! ### Tables (R40, R41, R90, R150, R152, R170) -/

/-- A valid post record holds values of R40 alone. -/
def PostRecord.inRange (r : PostRecord) : Prop :=
  r.number ≤ 9999 ∧ 1 ≤ r.position ∧ r.position ≤ 12 ∧ r.road ≤ 999 ∧ r.marker ≤ 9999 ∧ r.upGain ≤ 127 ∧
  r.downGain ≤ 127 ∧ r.label1.length ≤ 20 ∧ r.label2.length ≤ 20 ∧ r.label1.all labelChar ∧ r.label2.all labelChar

/-- A route entry holds one to three targets of R90. -/
def routeInRange (ts : List Target) : Prop :=
  1 ≤ ts.length ∧ ts.length ≤ 3 ∧ ∀ t ∈ ts, t.group ≤ 63 ∧ 1 ≤ t.timeout ∧ t.timeout ≤ 60

/-- A segment record lies within the prompt store (R152). -/
def SegRec.inRange (r : SegRec) : Prop := 1 ≤ r.length ∧ r.start + r.length ≤ Config.storeSize

/-- Every parameter lies in its range (R170). -/
def State.settingsOk (s : State) : Prop := ∀ p : Fin 25, Config.params[p].low ≤ s.param p ∧ s.param p ≤ Config.params[p].high

/-- Every table holds values its rules allow, and the law of R41 holds: among valid post records no two share a post
number, and no two on one loop share a plate code or a directory position. -/
def State.tablesOk (s : State) : Prop :=
  s.settingsOk ∧
  (∀ q, (s.record q).valid → (s.record q).inRange) ∧
  (∀ q r, q ≠ r → (s.record q).valid → (s.record r).valid → (s.record q).number ≠ (s.record r).number ∧
    ((s.record q).loop = (s.record r).loop →
      (s.record q).plate ≠ (s.record r).plate ∧ (s.record q).position ≠ (s.record r).position)) ∧
  (∀ i : Fin 64, routeInRange s.routes[i]) ∧
  (∀ k, (s.segment k).inRange) ∧
  Samples.wf s.samples

/-! ### Contexts (R81, R82, R97, R98, R105, R114) -/

/-- A leg on a trunk. -/
def legOn (t : Trunk) (leg : Option Leg) : Prop := ∃ g, leg = some g ∧ g.trunk = t

/-- A context's fields agree with its state: FREE, QUEUED and CLEARING contexts hold no leg (R81); an OFFERED context
has a running offer timer and one leg, on the trunk of its current target (R97, R98); a CONNECTED or HELD context has
its primary leg, and any second leg, on that trunk (R98, R114); the hold timer runs in HELD alone (R105), the retry
timer in QUEUED alone (R94). -/
def Ctx.agrees (x : Ctx) : Prop :=
  (x.retryTimer.isRunning → x.state = .queued) ∧
  (x.offerTimer.isRunning ↔ x.state = .offered) ∧
  (x.holdRunning ↔ x.state = .held) ∧
  match x.state with
  | .free => x.primary = none ∧ x.second = none ∧ x.ref = none ∧ x.target = none
  | .queued => x.primary = none ∧ x.second = none ∧ x.ref = none ∧ x.target = none
  | .clearing => x.primary = none ∧ x.second = none
  | .offered => x.ref.isSome ∧ x.second = none ∧ ∃ p, x.target = some p ∧ legOn p.target.trunk x.primary
  | _ => x.ref.isSome ∧ ∃ p, x.target = some p ∧ legOn p.target.trunk x.primary ∧
      (x.second = none ∨ legOn p.target.trunk x.second)

/-- Every context's fields agree with its state. -/
def State.contextsOk (s : State) : Prop := ∀ c, (s.ctx c).agrees

/-- A context that is QUEUED or OFFERED. -/
def Ctx.isWaiting (x : Ctx) : Prop := x.state = .queued ∨ x.state = .offered

/-- The waiting list holds exactly the QUEUED and OFFERED contexts, each once (R74). -/
def State.waitingOk (s : State) : Prop := s.waiting.Nodup ∧ ∀ c, c ∈ s.waiting ↔ (s.ctx c).isWaiting

/-- No context of the waiting list stands after one that it precedes by class, re-presented first, and entry number
(R74). -/
def State.waitingSorted (s : State) : Prop := s.waiting.Pairwise (fun c d => (s.ctx d).before (s.ctx c) = false)

/-! ### Channels (R130, R132) -/

/-- A context has a leg on a channel. -/
def Ctx.hasLeg (x : Ctx) (g : Leg) : Prop := x.primary = some g ∨ x.second = some g

/-- The channel accounting of R132, channel by channel: the primary leg of an OFFERED context is a RESERVED channel, every
other leg is an IN-USE one; no two legs are one channel; and a RESERVED or IN-USE channel is some context's leg. -/
def State.channelsOk (s : State) : Prop :=
  (∀ c g, (s.ctx c).primary = some g →
    (s.chan g.trunk g.chan).st = if (s.ctx c).state = .offered then .reserved else .inUse) ∧
  (∀ c g, (s.ctx c).second = some g → (s.chan g.trunk g.chan).st = .inUse ∧ (s.ctx c).primary ≠ some g) ∧
  (∀ c d g, c ≠ d → (s.ctx c).hasLeg g → ¬ (s.ctx d).hasLeg g) ∧
  ∀ k n, (s.chan k n).st = .reserved ∨ (s.chan k n).st = .inUse → ∃ c, (s.ctx c).hasLeg ⟨k, n⟩

/-! ### Pending notices (R181, R183, R185) -/

/-- The marks stand by rank and index, each once (R183), and no FREE context has one (R185). -/
def State.marksOk (s : State) : Prop :=
  s.marks.Pairwise (fun a b => a.1 < b.1 ∨ (a.1 = b.1 ∧ a.2 < b.2)) ∧
  ∀ c, (s.ctx c).state = .free → (9, c.val) ∉ s.marks ∧ (10, c.val) ∉ s.marks

/-! ### The posts of the calls (R69, R84, R85) -/

/-- The passes of a rebuild as an installation gives them (R49): no two old entries pass into one new entry. -/
def PassesOk (passes : List (Option (Nat × Tie))) : Prop :=
  ∀ (k pos : Nat) (tie : Tie), passes[k]? = some (some (pos, tie)) →
    1 ≤ pos ∧ ∀ (j : Nat) (tie' : Tie), passes[j]? = some (some (pos, tie')) → j = k

/-- One call per post (R69): no two contexts that are not FREE have one loop and entry; and the rebuild reports that wait
keep it so. -/
def State.postsOk (s : State) : Prop :=
  (∀ c, (s.ctx c).state ≠ .free → 1 ≤ (s.ctx c).entry) ∧
  (∀ c d, c ≠ d → (s.ctx c).state ≠ .free → (s.ctx d).state ≠ .free → (s.ctx c).loop = (s.ctx d).loop →
    (s.ctx c).entry ≠ (s.ctx d).entry) ∧
  ∀ l epoch passes freed, .rebuildReport l epoch passes freed ∈ s.pending ++ s.handed → PassesOk passes

/-- A report of a loop that has left RUN and DEGRADED (R85). -/
def IsRelease (l : LoopId) (i : Instr) : Prop :=
  i = .loopStateReport l .off ∨ i = .loopStateReport l .unpowered ∨ i = .loopStateReport l .failed

/-- No call on a loop that is not in RUN or DEGRADED (R85), but while the report that releases it is on its way; no request
of such a loop but before that report. What this rests on: START is entered STALE (R23), and a loop without power has no
scan in flight (R19). -/
def State.loopsOk (s : State) : Prop :=
  (∀ c, (s.ctx c).state ≠ .free → (s.loop (s.ctx c).loop).state.carries = false →
    ∃ i ∈ s.handed, IsRelease (s.ctx c).loop i) ∧
  (∀ front back l pos cls, s.handed = front ++ .requestReport l pos cls :: back → (s.loop l).state.carries = false →
    ∃ i ∈ back, IsRelease l i) ∧
  (∀ l, (s.loop l).state = .start → (s.loop l).stale) ∧
  ∀ l, (s.loop l).state = .off ∨ (s.loop l).state = .unpowered → (s.loop l).flight = none

/-- A call of context `c` is to be released by a report on its way to the call manager: of its loop's leaving RUN and
DEGRADED (R85), or of a rebuild into which its post did not pass (R84). -/
def ReleaseDue (c : CtxId) (s : State) : Prop :=
  s.keyPos c = 0 ∨ ∃ i ∈ s.handed, IsRelease (s.ctx c).loop i

/-- The bearers of the calls (R71, R97): a QUEUED, OFFERED, CONNECTED or HELD context holds its bearer in ASSIGNING or LIVE,
tied to the entry of its post; all but a QUEUED one hold one, and hold it LIVE. Between a rebuild or a loop's end and the
taking of its report, the bearer is gone and the call is still there. -/
def State.bearersOk (s : State) : Prop :=
  ∀ c, (s.ctx c).state ≠ .free → (s.ctx c).state ≠ .clearing →
    ((s.ctx c).state ≠ .queued → (s.ctx c).bearer ≠ none) ∧
    ∀ b, (s.ctx c).bearer = some b → ReleaseDue c s ∨
      ((s.bearer (s.ctx c).loop b).entry = s.keyPos c ∧
        ((s.bearer (s.ctx c).loop b).st = .live ∨
          ((s.bearer (s.ctx c).loop b).st = .assigning ∧ (s.ctx c).state = .queued)))

/-! ### The trunks of the calls (R114, R121) -/

/-- A trunk in UP or HOLDOVER. -/
def Serves (st : TrunkState) : Prop := st = .up ∨ st = .holdover

/-- The legs of the calls are on trunks in UP or HOLDOVER (R114). What this rests on: a trunk that the call manager takes for
UP, or is about to, is in one of the two (R121). -/
def State.servedOk (s : State) : Prop :=
  (∀ c g, (s.ctx c).primary = some g → Serves (s.trunk g.trunk).state) ∧
  ∀ t, (s.trunk t).seen = .up ∨ .trunkStateReport t .up ∈ s.handed → Serves (s.trunk t).state

/-! ### Counters (00_scope.md, Counters) -/

/-- The counts of a trunk interface that saturate (R99, R127, R128). -/
def TrunkIf.countsOk (T : TrunkIf) : Prop := T.slips ≤ 255 ∧ T.sigQueue.length ≤ 64 ∧ T.store.length ≤ 2

/-- The counts of a context that saturate (R62, R146): the silent run goes no higher than any silent limit (R170). -/
def Ctx.countsOk (x : Ctx) : Prop := x.represented ≤ 3 ∧ x.waited ≤ 65535 ∧ x.clips ≤ 65535 ∧ x.silentRun ≤ 3000

/-- The counts of a loop controller that saturate (R13, R20). -/
def Loop.countsOk (L : Loop) : Prop := L.debt ≤ 3 ∧ L.errors ≤ 15

/-- Every saturating count stands within its maximum. -/
def State.countsOk (s : State) : Prop :=
  (∀ t, (s.trunk t).countsOk) ∧ (∀ c, (s.ctx c).countsOk) ∧ (∀ l, (s.loop l).countsOk) ∧
  ∀ i : Fin 104, s.abandons[i] ≤ 255

/-! ### Timers -/

/-- The expiry `i` of a timer counts: the timer runs, and where the part has handed the expiry itself, the timer stands at
its end (R11; that a timer may also be said from outside to have run out is read into the rules: DEDUCED, log entry 3). -/
def RunsOut (s : State) (i : Instr) (x : Timer) : Prop := ∃ n, x = .running n ∧ (i ∈ s.handed → n = 0)

/-! ### Replies (R162 to R164) -/

/-- The REPLY of a request executed on trunk `t` in the state `d` that the request left: its content, and whether it
has started or waits for a NOTICE to end. All else of the part is `d`. -/
def Replied (t : Trunk) (req : Request) (result : Result) (body : List Byte) (d s' : State) : Prop :=
  s' = { d with serviceA := s'.serviceA, serviceB := s'.serviceB } ∧
  s'.service t.other = d.service t.other ∧
  (s'.service t).executing = some req ∧
  (s'.service t).waiting = (d.service t).waiting ∧
  (s'.service t).rx = (d.service t).rx ∧
  ∃ r : Reply, r.echo = req.code ∧ r.result = result ∧ r.summary = d.summary ∧ r.sectNo = d.sectNo ∧ r.body = body ∧
    if (d.service t).tx = .idle then (s'.service t).tx = .reply r.bytes ∧ (s'.service t).reply = none
    else (s'.service t).tx = (d.service t).tx ∧ (s'.service t).reply = some r

/-- Bytes into the service receiver of a trunk, one after another (R161). -/
def State.feedServiceAll (s : State) (t : Trunk) (bytes : List Byte) : State :=
  bytes.foldl (fun s b => s.feedService t b) s

/-- Bytes into the signalling receiver of a trunk, one after another (R100). -/
def State.feedSignallingAll (s : State) (t : Trunk) (bytes : List Byte) : State :=
  bytes.foldl (fun s b => s.feedSignalling t b) s

/-- A TRUNK-CONTROL ENABLE or DISABLE names no channel, and its command keeps none: its channel byte is 0. -/
def NoSpareChannel : Request → Prop
  | .trunkControl _ action chan => action < 2 → chan = 0
  | _ => True

/-- The state in which a request is executed: its event taken, and the management home moved to its trunk (R165). -/
def State.asked (s : State) (i : Instr) (t : Trunk) : State :=
  { s with
    home := t
    handed :=
      if s.home = t ∨ .noticeStart ∈ s.handed.erase i then s.handed.erase i else s.handed.erase i ++ [.noticeStart] }

/-! ### Scans (R3, R10 to R12) -/

/-- The scheduler has sent the picked scan: the record of the scan in flight is made, its bytes are to be sent, a SCAN
restarts the poll timer and clears the attention mark, and every scan restarts the sweep timer. -/
def Sends (s : State) (L L' : Loop) (p : Purpose) (cmds : List ScanCmd) : Prop :=
  L' = { L with
    flight := some ⟨p, cmds, L.epoch, false⟩
    txLeft := (if p = .sweep then 0xA4 else 0xA6) :: (cmds.map ScanCmd.byte ++ [0x5C])
    rx := []
    rxDone := false
    scanTimer := .stopped
    pollTimer := if p = .sweep ∨ L.pollTimer = .stopped then L.pollTimer else .running (s.param 9 * 8000)
    sweepTimer := if L.sweepTimer = .stopped then .stopped else .running (s.param 10 * 8)
    attention := if p = .sweep then L.attention else false }

/-- Loop `l`, whose controller is `base` but for that, has entered FAILED (R11 to R13, R20): its round, its attention mark and
its timers, and every bearer FREE. Nothing else of the loop changes. -/
def FailedEntered (s t : State) (l : LoopId) (base : Loop) : Prop :=
  t.loop l = { base with
    state := .failed
    debt := 0
    roundOpen := false
    attention := false
    pollTimer := .running (s.param 9 * 8000)
    sweepTimer := .stopped
    reconfirmTimer := .stopped
    map := (t.loop l).map
    bearers := (t.loop l).bearers } ∧
  (∀ b, (t.bearer l b).st = .free ∧ ((s.bearer l b).st ≠ .free → .bearerFreeReport l b ∈ t.handed)) ∧
  (t.loop l).map.length = base.map.length ∧
  (∀ (k : Nat) (e : MapEntry), base.map[k]? = some e → (t.loop l).map[k]? = some { e with cmd := { e.cmd with
    roundOwed := false
    desiredBearer :=
      if ∃ b, (s.bearer l b).st ≠ .free ∧ (s.bearer l b).entry = k + 1 then none else e.cmd.desiredBearer } }) ∧
  .faultLatch (.loop l .failedEntered) ∈ t.handed ∧
  .loopStateReport l .failed ∈ t.handed ∧ .noticeRaise (.loopState l) ∈ t.handed

/-- An errored scan has been counted (R20, R21) on loop `l`, whose controller is `base` but for that: the count, the loop
state it moves, and what entering FAILED does. Nothing else of the loop changes. -/
def ErrorCounted (s t : State) (l : LoopId) (base : Loop) : Prop :=
  ((s.loop l).state = .failed → t.loop l = { base with errors := s.param 12 }) ∧
  ((s.loop l).state ≠ .failed → (s.loop l).errors + 1 < s.param 12 →
    t.loop l = { base with
      errors := (s.loop l).errors + 1
      state := if (s.loop l).state = .run then .degraded else (s.loop l).state }) ∧
  ((s.loop l).state ≠ .failed → s.param 12 ≤ (s.loop l).errors + 1 →
    FailedEntered s t l { base with errors := s.param 12 }) ∧
  ((t.loop l).state ≠ (s.loop l).state →
    .loopStateReport l (t.loop l).state ∈ t.handed ∧ .noticeRaise (.loopState l) ∈ t.handed)

/-- A pick is handed to the scan scheduler of a loop that has come to an idle moment (R10). -/
def PickHanded (t : State) (l : LoopId) : Prop :=
  (t.loop l).flight = none → (t.loop l).guard.isRunning = false → (t.loop l).state.scans → .scanPick l ∈ t.handed

/-- What a used scan (R8, R18, R23 to R26, R52 to R54) does with the entry `e` at seen position `k + 1`, whose command was
`cmd` and whose status byte and reply are `p`: the reply is applied; REQ, CALLER and BEARER-OK are used where they are
`shown`; a bearer tied to the entry moves unless the loop is `stale`; health and TEST are reported. CALLER is reported where
it differs from the last status, an absent one taken as CALLER 0, and a drop also from the CALLER noted when STALE was last
clear (log entry 15). -/
def EntryUsed (s t : State) (l : LoopId) (shown stale : Bool) (k : Nat) (e : MapEntry) (cmd : ScanCmd) (p : Byte × Byte) :
    Prop :=
  let now := e.apply cmd p
  (t.loop l).map[k]? = some { now with cmd := { now.cmd with
    callerNoted := if stale then e.cmd.callerNoted else p.1.getLsbD 3
    confirmedBearer :=
      if shown ∧ p.1.getLsbD 2 = false ∧ ∃ b, (s.bearer l b).st = .live ∧ (s.bearer l b).entry = k + 1 then .unknown
      else now.cmd.confirmedBearer } } ∧
  (∀ b, (s.bearer l b).entry = k + 1 →
    t.bearer l b =
      (if (s.bearer l b).st = .assigning ∧ shown ∧ p.1.getLsbD 2 ∧ now.cmd.confirmedBearer = .on b then ⟨.live, k + 1⟩
      else if (s.bearer l b).st = .releasing ∧ stale = false ∧ cmd = .bearerRelease ∧ p.2 = 0xCF then ⟨.free, 0⟩
      else s.bearer l b) ∧
    (.bearerLiveReport l b ∈ t.handed ↔
      .bearerLiveReport l b ∈ s.handed ∨ ((s.bearer l b).st = .assigning ∧ (t.bearer l b).st = .live)) ∧
    (.bearerFreeReport l b ∈ t.handed ↔
      .bearerFreeReport l b ∈ s.handed ∨ ((s.bearer l b).st = .releasing ∧ (t.bearer l b).st = .free))) ∧
  (∀ cls, .requestReport l (k + 1) cls ∈ t.handed ↔
    .requestReport l (k + 1) cls ∈ s.handed ∨ (shown ∧ p.1.toNat / 16 % 4 = reqCode (some cls))) ∧
  (∀ on, .callerReport l (k + 1) on ∈ t.handed ↔
    .callerReport l (k + 1) on ∈ s.handed ∨ (shown ∧ p.1.getLsbD 3 = on ∧
      ((e.cmd.lastStatus.getD 0).getLsbD 3 ≠ on ∨ (on = false ∧ e.cmd.callerNoted)))) ∧
  (cmd = .poll → p.2.getLsbD 7 = false → e.cmd.lastHealth ≠ some p.2 →
    (∀ q, e.tie.slot? = some q → ∀ flag : PostFlag, flag ≠ .refusedClass → p.2.getLsbD flag.bit →
      .faultLatch (.post q flag) ∈ t.handed) ∧
    (e.tie = .unlisted → p.2 ≠ 0 →
      .faultLatch (.loop l .unlistedFault) ∈ t.handed ∧ .noticeRaise (.naming l) ∈ t.handed) ∧
    (e.tie = .unlisted → p.2 = 0 → (s.loopFault l).flags.getLsbD 9 → .noticeRaise (.naming l) ∈ t.handed)) ∧
  (.testFailReport l (k + 1) ∈ t.handed ↔ .testFailReport l (k + 1) ∈ s.handed ∨ (cmd = .test ∧ p.2 = 0xE0)) ∧
  (cmd = .test → ∀ q, e.tie.slot? = some q → (∀ (j : Nat) (e' : MapEntry), (s.loop l).map[j]? = some e' → j ≠ k → e'.tie.slot? ≠ some q) →
    (p.2 = 0xE1 → t.testResult q = .pass) ∧ (p.2 = 0xE0 → t.testResult q = .fail))

/-- What a used scan does with its pairs, `pairs` in chain order (R8, R16, R18, R23): STALE, each entry, and nothing of a
bearer or a slot that none of them names. -/
def ScanUsed (s t : State) (l : LoopId) (f : Flight) (pairs : List (Byte × Byte)) : Prop :=
  ((t.loop l).stale ↔ (s.loop l).stale ∨ (s.loop l).state = .failed ∨
    ∃ (k : Nat) (e : MapEntry), (s.loop l).map[k]? = some e ∧ f.cmds[k]? = some .ident ∧ ∃ p, pairs[k]? = some p ∧ p.2 ≠ e.plate) ∧
  (∀ (k : Nat) (e : MapEntry), (s.loop l).map[k]? = some e → ∀ cmd, f.cmds[k]? = some cmd → ∀ p, pairs[k]? = some p →
    EntryUsed s t l (!f.marked && !(t.loop l).stale) (t.loop l).stale k e cmd p) ∧
  (∀ b, (s.bearer l b).entry = 0 ∨ (s.loop l).map.length < (s.bearer l b).entry → t.bearer l b = s.bearer l b) ∧
  (∀ q flag, .faultLatch (.post q flag) ∈ t.handed → .faultLatch (.post q flag) ∈ s.handed ∨
    ∃ (k : Nat) (e : MapEntry), (s.loop l).map[k]? = some e ∧ e.tie.slot? = some q ∧ f.cmds[k]? = some .poll ∧
      ∃ p, pairs[k]? = some p ∧ p.2.getLsbD 7 = false ∧ e.cmd.lastHealth ≠ some p.2 ∧ p.2.getLsbD flag.bit) ∧
  ∀ q, (∀ (k : Nat) (e : MapEntry), (s.loop l).map[k]? = some e → f.cmds[k]? = some .test → e.tie.slot? ≠ some q) →
    t.testResult q = s.testResult q

/-- Only loop `l`, and what is handed, may have changed. -/
def OnlyLoop (l : LoopId) (s t : State) : Prop :=
  t = { s with loops := t.loops, handed := t.handed } ∧ ∀ m, m ≠ l → t.loop m = s.loop m

/-- Only feed `l`, and what is handed, may have changed. -/
def OnlyFeed (l : LoopId) (s t : State) : Prop :=
  t = { s with feeds := t.feeds, handed := t.handed } ∧ ∀ m, m ≠ l → t.feed m = s.feed m

/-- A feed action has been carried through to its loop (R163, R172; log entry 53): where the feed has changed, its loop is
OFF while the desired setting is off and UNPOWERED while the feed is not ON, with no call and no feed report left, and a
change of state raised. The other feeds stay; the other loops keep their state, and their maps but for lamps and bearers
that dispatch asks for. -/
def FeedCarried (l : LoopId) (s t : State) : Prop :=
  t = { s with
    feeds := t.feeds
    loops := t.loops
    contexts := t.contexts
    players := t.players
    paths := t.paths
    waiting := t.waiting
    entryCount := t.entryCount
    trunkA := t.trunkA
    trunkB := t.trunkB
    marks := t.marks
    handed := t.handed } ∧
  (∀ m, m ≠ l → t.feed m = s.feed m ∧ t.loop m = { s.loop m with map := (t.loop m).map } ∧
    (t.loop m).map.map (fun e => (e.plate, e.tie)) = (s.loop m).map.map (fun e => (e.plate, e.tie))) ∧
  (t.loop l).map.map (fun e => (e.plate, e.tie)) = (s.loop l).map.map (fun e => (e.plate, e.tie)) ∧
  (∀ k, t.trunk k = { s.trunk k with channels := (t.trunk k).channels, sigQueue := (t.trunk k).sigQueue }) ∧
  ((t.loop l).state ≠ (s.loop l).state → .noticeRaise (.loopState l) ∈ t.handed) ∧
  (t.feed l ≠ s.feed l →
    (∀ feed desired, .feedStateReport l feed desired ∉ t.handed) ∧
    ((t.feed l).desired = false → (t.loop l).state = .off) ∧
    ((t.feed l).desired → (t.feed l).state ≠ .on → (t.loop l).state = .unpowered) ∧
    ((t.feed l).desired = false ∨ (t.feed l).state ≠ .on → ∀ c, (t.ctx c).loop = l → (t.ctx c).state = .free))

/-! ### Calls (R81 to R83) -/

/-- The channel a freed leg leaves (R130): FREE, or BLOCKED where a block waits on it. -/
def FreedTo (x y : Channel) : Prop :=
  if x.st = .reserved ∨ x.st = .inUse then y = ⟨if x.mark then .blocked else .free, false, 0⟩ else y = x

/-- Of the trunks only channels have changed. -/
def OnlyChannels (s t : State) : Prop := ∀ k, t.trunk k = { s.trunk k with channels := (t.trunk k).channels }

/-- What a clearing of one call may change: its context, its player, its level monitor, its place in the waiting list, its
two channels, its post's command record and bearer, and its notices. -/
def OnlyCall (c : CtxId) (s t : State) : Prop :=
  t = { s with
    contexts := t.contexts
    players := t.players
    paths := t.paths
    waiting := t.waiting
    trunkA := t.trunkA
    trunkB := t.trunkB
    loops := t.loops
    marks := t.marks
    handed := t.handed } ∧
  (∀ d, d ≠ c → t.ctx d = s.ctx d ∧ t.player d = s.player d ∧ t.path d = s.path d) ∧
  (∀ l, l ≠ (s.ctx c).loop → t.loop l = s.loop l) ∧
  OnlyChannels s t ∧
  ∀ k n, (s.ctx c).primary ≠ some ⟨k, n⟩ → (s.ctx c).second ≠ some ⟨k, n⟩ → t.chan k n = s.chan k n

/-- The loop of a context, when its call is cleared (R25, R81): its post, where it is in the map, is to show CLEARED, and
the bearer it holds, if ASSIGNING or LIVE, is RELEASING with its entry's desired bearer none. A post that is in the map no
more has lost its bearer at the rebuild, and none is released (log entry 21). Nothing else of the loop
changes. -/
def PostCleared (c : CtxId) (s t : State) : Prop :=
  let l := (s.ctx c).loop
  let freed (b : BearerId) : Prop :=
    (s.keyEntry c).isSome ∧ (s.ctx c).bearer = some b ∧ ((s.bearer l b).st = .assigning ∨ (s.bearer l b).st = .live)
  t.loop l = { s.loop l with map := (t.loop l).map, bearers := (t.loop l).bearers } ∧
  (t.loop l).map.length = (s.loop l).map.length ∧
  (∀ (k : Nat) (e : MapEntry), (s.loop l).map[k]? = some e → (t.loop l).map[k]? = some { e with cmd := { e.cmd with
    desiredLamp := if (s.keyEntry c).isSome ∧ s.keyPos c = k + 1 then .cleared else e.cmd.desiredLamp
    desiredBearer := if ∃ b, freed b ∧ (s.bearer l b).entry = k + 1 then none else e.cmd.desiredBearer } }) ∧
  (∀ b, (freed b → t.bearer l b = ⟨.releasing, (s.bearer l b).entry⟩) ∧ (¬ freed b → t.bearer l b = s.bearer l b)) ∧
  ((s.keyEntry c).isSome → PickHanded t l)

/-- A context enters FREE at once where R82 says so. -/
def FreeAtOnce (c : CtxId) (s : State) : Prop :=
  (s.ctx c).bearer = none ∨ s.keyEntry c = none ∨ (s.loop (s.ctx c).loop).state.carries = false

/-- What is left of a context that has become FREE (R82, R98). -/
def Ctx.freed (x : Ctx) : Ctx :=
  { x with state := .free, bearer := none, liveSeen := false, ref := none, target := none }

/-- What is left of a context cleared with this cause, while its bearer is on its way back (R81). -/
def Ctx.cleared (x : Ctx) (cause : Cause) : Ctx :=
  { x with
    state := .clearing
    offerTimer := .stopped
    holdRunning := false
    retryTimer := .stopped
    primary := none
    second := none
    cause := some cause }

/-- A call has been cleared with this cause (R81): its context is CLEARING, or FREE at once where R82 says so; it is out of
the waiting list, its timers are stopped, its legs are freed to the pool, its player is IDLE, its loop is as
`PostCleared` says, and a FREE context has no notice (R185). A block of the level monitor that was complete has been
judged first (log entry 4). No message is made and nothing but a scan pick is handed. -/
def Cleared (c : CtxId) (cause : Cause) (s t : State) : Prop :=
  let x := ((s.catchBlock c).ctx c).cleared cause
  OnlyCall c s t ∧ PostCleared c s t ∧
  t.waiting = s.waiting.filter (· != c) ∧
  (FreeAtOnce c s →
    t.ctx c = x.freed ∧ t.marks = s.marks.filter (fun m => m != (9, c.val) && m != (10, c.val))) ∧
  (¬ FreeAtOnce c s → t.ctx c = x ∧ t.marks = s.marks) ∧
  (∀ g, (s.ctx c).hasLeg g → FreedTo (s.chan g.trunk g.chan) (t.chan g.trunk g.chan)) ∧
  t.player c = { s.player c with state := .idle, programme := none, segment := none } ∧
  t.path c = (s.catchBlock c).path c ∧
  ∃ more, t.handed = (s.catchBlock c).handed ++ more ∧ ∀ i ∈ more, i = .scanPick (s.ctx c).loop

/-- CALL-ABANDONED raised in `t` for the post reported at a seen position in `s` (R79): its slot where its entry is listed,
its loop where it is not; none where it is in the map no more (log entries 21 and 55). -/
def State.abandonRaised (s t : State) (l : LoopId) (pos : Nat) : State :=
  match s.entryAt l (s.nowAt l pos) with
  | some e =>
    t.raise (match e.tie with
      | .listed slot _ => .abandonedSlot slot
      | .unlisted => .abandonedLoop l (s.nowAt l pos) e.plate)
  | none => t

/-- The acknowledgement of a context's request has been withdrawn, and its post is to show CLEARED unless it was CLEARING
already (R83). -/
def Withdrawn (c : CtxId) (s t : State) : Prop :=
  ∀ e, s.keyEntry c = some e → ∃ e', t.entryAt (s.ctx c).loop (s.keyPos c) = some e' ∧ e'.cmd.ackReq = false ∧
    ((s.ctx c).state ≠ .clearing → e'.cmd.desiredLamp = .cleared)

/-- A report that changes the desired lamp at one seen position has been taken (R66, R70). -/
def LampSet (l : LoopId) (pos : Nat) (lamp : Lamp) (i : Instr) (s t : State) : Prop :=
  OnlyLoop l s t ∧ PickHanded t l ∧
  t.loop l = { s.loop l with
    map := (s.loop l).map.modify (pos - 1) (fun e => { e with cmd := { e.cmd with desiredLamp := lamp } }) } ∧
  ∃ more, t.handed = s.handed.erase i ++ more ∧ ∀ j ∈ more, j = .scanPick l

/-! ### Desks (R98, R100) -/

/-- The reference is the current one of context `c`, and `t` is the call's trunk (R98, R100). -/
def State.current (s : State) (t : Trunk) (ref : OfferRef) (c : CtxId) : Prop :=
  c.val = ref.ctx.toNat ∧ (s.ctx c).ref = some ref.gen ∧ s.callTrunk c = some t

/-- The command is a control request with this reference, on this trunk; `code` is its type (R192). -/
def IsDesk (i : Instr) (t : Trunk) (ref : OfferRef) (code : Byte) : Prop :=
  ((∃ desk, i = .answer t ref desk) ∧ code = 0x40) ∨ (i = .decline t ref ∧ code = 0x41) ∨
  (i = .hold t ref ∧ code = 0x42) ∨ (i = .retrieve t ref ∧ code = 0x43) ∨ (i = .join t ref ∧ code = 0x44) ∨
  (i = .leave t ref ∧ code = 0x45) ∨ (i = .release t ref ∧ code = 0x46)

/-- The post of a context, where it is in the map, is to show a lamp (R64). -/
def ToShow (c : CtxId) (lamp : Lamp) (s t : State) : Prop :=
  ∀ e, s.keyEntry c = some e → (t.entryAt (s.ctx c).loop (s.keyPos c)).map (·.cmd.desiredLamp) = some lamp

/-- The player of a context has been started with a programme (R154, R155). -/
def Started (c : CtxId) (prog : Programme) (s t : State) : Prop :=
  (t.player c).programme = some prog ∧
  ((s.segment (s.startSegment prog)).valid → (t.player c).state = .playing ∧ (t.player c).offset = 0 ∧
    (t.player c).start = (s.segment (s.startSegment prog)).start ∧
    (t.player c).length = (s.segment (s.startSegment prog)).length ∧
    (t.player c).after = (s.segment (s.startSegment prog)).after) ∧
  ((s.segment (s.startSegment prog)).valid = false → (t.player c).state = .silent)

/-! ### The scan channel (R1, R4 to R6, R14, R189) -/

/-- The status byte shows a post as it stands (R6, R188). What BEARER-OK shows before any assignment is the post's trait (log
entry 9); CALLER is one bit for the handset and for a hands-free call (log entry 73). -/
def Shows (p : Post) (status : Byte) : Prop :=
  status.getLsbD 7 ∧ status.getLsbD 6 = p.attn ∧
  (status.extractLsb' 4 2).toNat =
    (match p.req with | none => 0 | some .emergency => 1 | some .breakdown => 2 | some .service => 3) ∧
  status.getLsbD 3 = p.offHook ∧
  status.getLsbD 2 = (match p.assigned with | some b => p.bearer == some b | none => p.idleOk) ∧
  status.getLsbD 1 = p.doorOpen ∧ status.getLsbD 0 = (p.restarted || p.sensors != 0)

/-- What a live post does with a passing SCAN (R4, R6): the command it takes, if any is left, the pair it inserts, and what it
is afterwards. Taking a command clears its ATTN; the RESTARTED that a POLL clears sets it again, as a change of a health
flag does. -/
def PostActs (p : Post) (cmd : Option ScanCmd) (pair : Byte × Byte) (p' : Post) : Prop :=
  let q : Post := { p with attn := false }
  let echoes (r : Post) (c : ScanCmd) : Prop := p' = r ∧ Shows r pair.1 ∧ pair.2 = c.byte ||| 0x80
  match cmd with
  | none => p' = p ∧ Shows p pair.1 ∧ pair.2 = 0x80
  | some .poll => p' = { q with restarted := false, attn := p.restarted } ∧ Shows q pair.1 ∧
      pair.2.getLsbD 7 = false ∧ pair.2.getLsbD 6 = p.restarted ∧
      ∀ k, k < 6 → pair.2.getLsbD k = p.sensors.getLsbD k
  | some .ident => p' = q ∧ Shows q pair.1 ∧ pair.2 = p.plate
  | some (.lamp x) => echoes { q with lamp := some x } (.lamp x)
  | some (.bearer b) => echoes { q with bearer := some b, assigned := some b } (.bearer b)
  | some .bearerRelease => echoes { q with bearer := none } .bearerRelease
  | some .ackReq => echoes { q with req := none } .ackReq
  | some .test => p' = q ∧ Shows q pair.1 ∧ pair.2 = if p.loopback then 0xE1 else 0xE0

/-- The posts of a ring have acted on a SCAN of these commands, in ring order, and the bytes that return (R4, R5): HEAD with
every live post's ATTN, the commands with a taken mark for each live post, the pairs in reverse chain order, END. A post whose
bypass relay is closed is not seen. -/
def RingActed (posts posts' : List Post) (cmds : List ScanCmd) (bytes : List Byte) : Prop :=
  let before (k : Nat) : Nat := (posts.take k).countP (·.live)
  posts'.length = posts.length ∧
  ∃ pairs : List (Byte × Byte), pairs.length = posts.countP (·.live) ∧
    (∀ (k : Nat) (p : Post), posts[k]? = some p →
      (p.live = false → posts'[k]? = some p) ∧
      (p.live → ∃ p' pair, posts'[k]? = some p' ∧ pairs[before k]? = some pair ∧ PostActs p cmds[before k]? pair p')) ∧
    bytes = (if posts.any (fun p => p.live && p.attn) then 0xA7 else 0xA6) ::
      (cmds.zipIdx.map (fun c => if c.2 < posts.countP (·.live) then c.1.byte ||| 0x80 else c.1.byte) ++
        pairs.reverse.flatMap (fun p => [p.1, p.2]) ++ [0x5C])

/-- What a ring returns in one frame, where `sent` goes out (R1, R2, R4): the sync byte, the next scan byte on its way, and the
code of the post on each bearer, or the part's own where no post is on it; nothing without power. -/
def State.ringReturns (s : State) (l : LoopId) (up sent : List Byte) : List Byte :=
  if (s.feed l).state = .settling ∨ (s.feed l).state = .on then
    0x47 :: (s.ring l).transit.headD 0 :: allBearers.map (fun b =>
      if (s.ring l).posts.any (fun p => p.live && p.bearer == some b) then up.getD b.val 0 else sent.getD (b.val + 2) 0)
  else List.replicate 6 0

/-- The receive side of a loop has taken six more bytes, and given `x` to the scan receiver (R1, R189). Aligned: the next six
bytes are a frame, and a run of frames without sync is counted to 4, where the scan receiver is given idle fill. Unaligned:
everything before the first sync byte is passed over. -/
def Framing (s t : State) (l : LoopId) (received : List Byte) (x : Byte) : Prop :=
  let L := s.loop l
  let L' := t.loop l
  let got := L.rxBuf ++ received
  (L.aligned → L.missing < 4 →
    L'.aligned ∧ L'.rxBuf = got.drop 6 ∧
    (got.headD 0 = 0x47 → L'.missing = 0 ∧ x = got.getD 1 0) ∧
    (got.headD 0 ≠ 0x47 → L'.missing = L.missing + 1 ∧ x = (if L.missing < 3 then got.getD 1 0 else 0) ∧
      (L.missing = 3 → .loopReceiveUnaligned l ∈ t.handed))) ∧
  (L.aligned = false ∨ 4 ≤ L.missing →
    (0x47 ∉ got → L'.aligned = false ∧ L'.missing = 0 ∧ L'.rxBuf = [] ∧ x = 0) ∧
    ∀ before after, got = before ++ 0x47 :: after → 0x47 ∉ before → L'.aligned ∧ L'.missing = 0 ∧
      (5 ≤ after.length → x = after.headD 0 ∧ L'.rxBuf = after.drop 5) ∧
      (after.length < 5 → x = 0 ∧ L'.rxBuf = 0x47 :: after))

/-- The byte `x` of slot 1 has been taken (R5, R14, R15, R189). A scan in flight: idle fill before the HEAD is passed over,
every other byte joins those read, and the scan ends at an END where the first byte of a pair is expected, or at the
seventeenth pair. No scan in flight: a byte that is not idle fill starts a running timeout guard again. -/
def ScanByteTaken (s t : State) (l : LoopId) (x : Byte) : Prop :=
  let L := s.loop l
  let L' := t.loop l
  (∀ f, L.flight = some f → L'.guard = L.guard ∧
    (L.rxDone ∨ (L.rx = [] ∧ x = 0) → L'.rx = L.rx ∧ L'.rxDone = L.rxDone) ∧
    (L.rxDone = false → L.rx ≠ [] ∨ x ≠ 0 → L'.rx = L.rx ++ [x] ∧
      (L'.rxDone ↔ 1 + f.cmds.length ≤ L.rx.length ∧ (L.rx.length - (1 + f.cmds.length)) % 2 = 0 ∧
        (x = 0x5C ∨ L.rx.length = 1 + f.cmds.length + 32)) ∧
      (L'.rxDone → .scanReturn l ∈ t.handed))) ∧
  (L.flight = none → L'.rx = L.rx ∧ L'.rxDone = L.rxDone ∧
    L'.guard = if L.guard.isRunning ∧ x ≠ 0 then .running L.guardSpan else L.guard)

/-! ### Voice (R2, R140 to R145, R156) -/

/-- The code the receive side of a loop gives the voice path engine for a bearer (R1, R2), where `ret` comes back and the
part has sent the codes `down`. -/
def State.codeIn (s : State) (l : LoopId) (ret : LoopReturn) (down : List Byte) (b : BearerId) : Byte :=
  ((frameStream ((s.loop l).aligned && decide ((s.loop l).missing < 4)) (s.loop l).missing
    ((s.loop l).rxBuf ++ s.returned l down ret)).slots.drop 1).getD b.val 0

/-- The context `c` holds the bearer `b` of loop `l` in a state in which samples are taken (R141, R142). -/
def HoldsOpen (s : State) (l : LoopId) (b : BearerId) (c : CtxId) : Prop :=
  (s.ctx c).loop = l ∧ (s.ctx c).bearer = some b ∧ (s.ctx c).state ≠ .free ∧ (s.ctx c).state ≠ .clearing

/-- The context whose sample the LIVE bearer `b` of loop `l` carries (R141). Of two that hold it, the lowest-numbered: the
model's choice (log entry 76). -/
def SampledOn (s : State) (l : LoopId) (b : BearerId) (c : CtxId) : Prop :=
  (s.bearer l b).st = .live ∧ HoldsOpen s l b c ∧ ∀ d, d < c → ¬ HoldsOpen s l b d

/-- One sample of context `c` on the LIVE bearer `b` (R141): `down` is the code sent to its post and `code` the one received
from it. CONNECTED: the decoded legs, mixed, go down through the downlink gain, and the received code, while the post is on
its bearer, goes up to every leg through the uplink gain and feeds the level monitor. QUEUED, OFFERED and HELD: the
player's code goes down, its offset goes up by 1, and HELD legs carry 0x00. Each saturation counts once. -/
def Sampled (s t : State) (b : BearerId) (c : CtxId) (down code : Byte) : Prop :=
  let downGain := s.downGainOf (s.keyTie c)
  let upGain := s.upGainOf (s.keyTie c)
  let mixed := s.legValue (s.ctx c).primary + s.legValue (s.ctx c).second
  let up : Int := if (s.keyEntry c).map (·.cmd.confirmedBearer) = some (.on b) then decodeSample code else 0
  let player := if (s.player c).ended then s.afterSegment (s.player c) else s.player c
  let prompt : Int :=
    if player.state = .playing then decodeSample (Samples.read s.samples (player.start + player.offset)) else 0
  let legsGet (x : Byte) : Prop :=
    ∀ g, (s.ctx c).hasLeg g → (∀ d, d ≠ c → ¬ (s.ctx d).hasLeg g) →
      t.chan g.trunk g.chan = { s.chan g.trunk g.chan with code := x }
  ((s.ctx c).state = .connected →
    down = gainCode mixed downGain ∧ t.player c = s.player c ∧ legsGet (gainCode up upGain) ∧
    ((s.path c).count < 160 → (s.ctx c).clips ≤ 65535 →
      t.ctx c = { s.ctx c with
        clips := min ((s.ctx c).clips + (gainClips mixed downGain).toNat + (gainClips up upGain).toNat) 65535 } ∧
      t.path c = ⟨(s.path c).sum + (gainStage up upGain).natAbs, (s.path c).count + 1⟩ ∧
      ((s.path c).count = 159 → .levelBlockComplete c ∈ t.handed))) ∧
  ((s.ctx c).state = .queued ∨ (s.ctx c).state = .offered ∨ (s.ctx c).state = .held →
    down = gainCode prompt downGain ∧
    ((s.ctx c).clips ≤ 65535 →
      t.ctx c = { s.ctx c with clips := min ((s.ctx c).clips + (gainClips prompt downGain).toNat) 65535 }) ∧
    t.path c = s.path c ∧
    t.player c = (if player.state = .playing then { player with offset := player.offset + 1 } else player) ∧
    (player.state = .playing → player.length ≤ player.offset + 1 → .segmentEnd c ∈ t.handed)) ∧
  ((s.ctx c).state = .held → legsGet 0x00)

/-- A trunk fault in UP (R123): HOLDOVER with the timer started, or, with a holdover time of 0, failover handed at
once. -/
def TrunkFaulted (t : Trunk) (s u : State) : Prop :=
  (s.param 1 ≠ 0 → (u.trunk t).state = .holdover ∧ (u.trunk t).holdover = .running (s.param 1 * 8000) ∧
    .trunkStateReport t .holdover ∈ u.handed ∧ .noticeRaise (.trunkState t) ∈ u.handed) ∧
  (s.param 1 = 0 → (u.trunk t).state = .up ∧ (u.trunk t).failoverDue ∧ .failover t ∈ u.handed ∧
    .faultLatch (.trunk t .holdoverExpired) ∈ u.handed)

/-- The call manager has carried a failover of trunk `t` out (R112 to R114, R132): the trunk's queue is empty, its pool is
freed, its calls are moved off it, and the calls that are CONNECTED, HELD, CLEARING or FREE elsewhere stand. -/
def MovedOff (t : Trunk) (s u : State) : Prop :=
  (u.trunk t).sigQueue = [] ∧ (u.trunk t).sigSent = 0 ∧
  (∀ n, ((s.chan t n).st ≠ .free → FreedTo (s.chan t n) (u.chan t n)) ∧
    ((s.chan t n).st = .free → (s.chan t n).mark = false → (u.chan t n).st = .free)) ∧
  (∀ c, (s.ctx c).state = .offered → s.callTrunk c = some t →
    ((u.ctx c).state = .queued ∨ (u.ctx c).state = .offered) ∧ u.callTrunk c ≠ some t ∧
    (u.ctx c).represented = (s.ctx c).represented ∧ (u.ctx c).snapshot = (s.ctx c).snapshot) ∧
  (∀ c, (s.ctx c).state = .connected ∨ (s.ctx c).state = .held → (∃ n, (s.ctx c).primary = some ⟨t, n⟩) →
    ((u.ctx c).state = .queued ∨ (u.ctx c).state = .offered) ∧ u.callTrunk c ≠ some t ∧
    (u.ctx c).represented = min ((s.ctx c).represented + 1) 3 ∧ (u.ctx c).prevDesk = (s.ctx c).desk ∧
    (u.ctx c).desk = none ∧ (u.ctx c).second = none ∧ (u.ctx c).holdRunning = false ∧
    (u.ctx c).snapshot = (s.ctx c).snapshot ∧ (u.ctx c).bearer = (s.ctx c).bearer) ∧
  ∀ c, (s.ctx c).state = .connected ∨ (s.ctx c).state = .held ∨ (s.ctx c).state = .clearing ∨
      (s.ctx c).state = .free → (∀ n, (s.ctx c).primary ≠ some ⟨t, n⟩) →
    { u.ctx c with entryNo := 0 } = { s.ctx c with entryNo := 0 }

/-- A failover of trunk `t` has been carried out, and the trunk has left it for its new state (R112, R124, R133). The receive
side and the elastic store of the trunk stay, and of the other trunk all but what the calls moved to it take. -/
def FailedOver (t : Trunk) (s u : State) : Prop :=
  MovedOff t s u ∧
  u.trunk t = { s.trunk t with
    state := (u.trunk t).state
    seen := (u.trunk t).seen
    holdover := .stopped
    failoverDue := false
    channels := (u.trunk t).channels
    sigQueue := []
    sigSent := 0 } ∧
  u.trunk t.other = { s.trunk t.other with
    channels := (u.trunk t.other).channels
    sigQueue := (u.trunk t.other).sigQueue } ∧
  (∀ k, u.service k = s.service k) ∧
  .trunkStateReport t (u.trunk t).state ∈ u.handed ∧ .noticeRaise (.trunkState t) ∈ u.handed

/-- Only trunk `t`, the receivers of its service channel, and what is handed, may have changed. -/
def OnlyTrunk (t : Trunk) (s u : State) : Prop :=
  u = { s with
    trunkA := u.trunkA
    trunkB := u.trunkB
    serviceA := u.serviceA
    serviceB := u.serviceB
    handed := u.handed } ∧
  u.trunk t.other = s.trunk t.other ∧ u.service t.other = s.service t.other

/-! ### What REPLY and NOTICE show (R184, R186, R194, R197, R199, R200) -/

/-- The summary byte has the bits of R186, in the places of R197. -/
def SummaryBits (s : State) (b : Byte) : Prop :=
  let latched (k : Nat) : Prop := s.sectionFault.flags.getLsbD k
  (b.getLsbD 0 ↔ (∃ c, ((s.ctx c).state = .queued ∨ (s.ctx c).state = .offered) ∧ s.param 5 < (s.ctx c).waited) ∨
    ∃ m ∈ s.marks, m.1 = 7) ∧
  (b.getLsbD 1 ↔ ∃ q, (s.postFault q).flags ≠ 0) ∧
  (b.getLsbD 2 ↔ (∃ l, (s.loopFault l).flags.getLsbD 0 ∨ (s.loopFault l).flags.getLsbD 1) ∨ latched 1) ∧
  (b.getLsbD 3 ↔ ∃ l, (s.loop l).state = .unpowered ∨ (s.loop l).state = .start ∨ (s.loop l).state = .degraded ∨
    (s.loop l).state = .failed) ∧
  (b.getLsbD 4 ↔ ∃ t, (s.trunk t).state = .hunt ∨ (s.trunk t).state = .holdover ∨ (s.trunk t).state = .farFault) ∧
  (b.getLsbD 5 ↔ latched 3 ∨ latched 4 ∨ latched 5 ∨ latched 6) ∧
  (b.getLsbD 6 ↔ latched 0) ∧
  (b.getLsbD 7 ↔ ∃ k, k < 7 ∧ b.getLsbD k)

/-- What a notice about slot `q` carries of its post, after a presence byte (R184, R200): nothing of an empty slot, also where
an entry is still tied to it, which is the model's choice (log entry 77); of a valid one the identity record of the entry tied
to it, or, where there is none, its own with seen position 0 and NOT-SEEN. -/
def SlotIdentity (s : State) (q : SlotId) (bytes : List Byte) : Prop :=
  let tied (l : LoopId) (pos : Nat) (e : MapEntry) : Prop := s.entryAt l pos = some e ∧ e.tie.slot? = some q
  let r := s.record q
  (r.valid = false → bytes = [0]) ∧
  (r.valid → ∀ l pos e, tied l pos e → (∀ l' pos' e', tied l' pos' e' → l' = l ∧ pos' = pos) →
    bytes = 1 :: (s.identityOf l pos e).bytes) ∧
  (r.valid → (∀ l pos e, ¬ tied l pos e) →
    bytes = 1 :: ({ number := some r.number, loop := r.loop, seen := 0, plate := r.plate, status := .notSeen,
                    road := some r.road, carriageway := some r.carriageway, marker := some r.marker, zone := r.zone,
                    label1 := r.label1, label2 := r.label2 } : Identity).bytes)

/-- The data of a notice by its kind and object index (R184, R200). -/
def NoticeCarries (s : State) (m : Nat × Nat) (data : List Byte) : Prop :=
  let bit (b : Bool) (v : Nat) : Nat := if b then v else 0
  let sect := s.sectionFault
  (m = (1, 0) → data = [byte sect.flags.toNat, sect.count, byte s.home.code]) ∧
  (m = (2, 0) → data = [byte s.supply.state.code, byte (bit (sect.flags.getLsbD 1) 1), sect.count]) ∧
  (∀ l : LoopId,
    let flags := (s.loopFault l).flags
    (m = (3, l.val) → data =
      [s.loopByte l, byte (bit (flags.getLsbD 0) 1 + bit (flags.getLsbD 1) 2), (s.loopFault l).count]) ∧
    (m = (4, l.val) → data =
      [s.loopByte l, byte (flags.toNat / 256), byte flags.toNat, (s.loopFault l).count]) ∧
    (m = (8, 96 + l.val) → ∀ pos plate, s.abandonPosts[l] = some (pos, plate) →
      data = [byte s.abandons[96 + l.val], byte l.val, byte pos, plate]) ∧
    (m = (11, l.val) → data =
      [(s.loop l).epoch, byte (s.loop l).map.length, byte ((s.loop l).map.countP (fun e => e.tie == .unlisted)),
        byte (s.loop l).absent.length, byte (bit (s.loop l).stale 1), byte (flags.toNat / 256), byte flags.toNat,
        (s.loopFault l).count])) ∧
  (∀ t : Trunk, m = (5, t.code) → data =
    [byte (s.trunk t).state.code, byte (bit (s.trunk t).aligned 1 + bit (s.trunk t).alarm 2),
      byte (s.trunkFault t).flags.toNat, (s.trunkFault t).count, byte (s.trunk t).slips]) ∧
  (m = (6, 0) → data =
    [byte (allCtxs.countP (fun c => (s.ctx c).state != .free)), byte (bit (sect.flags.getLsbD 2) 1), sect.count]) ∧
  (∀ z : ZoneId, m = (7, z.val) → data =
    [byte z.val, byte s.plan.val, byte (allCtxs.countP (fun c =>
      (s.ctx c).state == .queued && (s.ctx c).zone == z && (s.ctx c).retryTimer.isRunning))]) ∧
  (∀ q : SlotId, ∃ post, SlotIdentity s q post ∧
    (m = (8, q.val) → data = byte s.abandons[q.val] :: post) ∧
    (m = (12, q.val) → data =
      [byte (s.postFault q).flags.toNat, (s.postFault q).count, byte (s.testResult q).code] ++ post)) ∧
  ∀ (c : CtxId) (e : MapEntry), s.keyEntry c = some e →
    let x := s.ctx c
    let head := [byte c.val, byte c.val, x.regGen, byte x.state.code] ++ optByte x.desk
    let post := (s.identityOf x.loop (s.keyPos c) e).bytes
    (m = (9, c.val) → data = head ++ [byte (bit x.speechSeen 1), byte (x.lastLevel / 256), byte x.lastLevel,
      byte (x.silentRun / 256), byte x.silentRun] ++ post) ∧
    (m = (10, c.val) → data = head ++ [byte (x.holdCount / 256), byte x.holdCount] ++ post)

end Sys2Proof.Machine
end

