-- ==== Sys2Proof/Certificates/Slice0/Obligations.lean ====
section
/-! DEFINITION. The statements about the model, each with the rules of the spec it rests on. -/

open Sys2Proof Sys2Proof.Machine

/-! ### Steps, power-on and the invariants -/

/-- One step carries out the command at the front of the queue on the state with the queue's rest. With no command
waiting it takes the oldest event handed, and with none handed one frame time passes: that part is the model's choice
(log entries 1 and 2). -/
def Obligations.StepTakesTheFrontCommand : Prop :=
  (∀ (c : Instr) (rest : List Instr) (s : State), s.pending = c :: rest → step s = exec c { s with pending := rest }) ∧
  (∀ (i : Instr) (rest : List Instr) (s : State), s.pending = [] → s.handed = i :: rest → step s = exec i s) ∧
  (∀ s : State, s.pending = [] → s.handed = [] → step s = .next s.tick)

/-- POWER_ON (R28, R35). The queue, the posts and the loop currents stay, which is the model's choice (log entries 6
and 39), as is the order of the eight feed reports, from loop 0 to loop 7 (log entry 41), and that the notice unit's
first choice is handed as NOTICE_START (log entry 71); every other part takes its reset value; a supply below 42.0 V
sends every feed to SUPPLY-OFF at once. -/
def Obligations.PowerOnPutsEveryBlockAtItsReset : Prop :=
  ∀ (supply : Nat) (s : State), ∃ t : State, exec (.powerOn supply) s = .next t ∧
    t = { State.reset with
      pending := s.pending
      rings := t.rings
      feeds := t.feeds
      supply := t.supply
      handed := t.handed } ∧
    (∀ l, (t.ring l).posts = (s.ring l).posts ∧ (t.ring l).transit = []) ∧
    (∀ l, (t.feed l).current = (s.feed l).current ∧ (t.feed l).desired = true ∧ (t.feed l).opn = .stopped) ∧
    t.supply.level = supply ∧ t.supply.restore = .stopped ∧
    (420 ≤ supply → t.supply.state = .good ∧ t.handed = [.noticeStart] ∧
      ∀ l, (t.feed l).state = .settling ∧ (t.feed l).settle = .running 4000 ∧
        (t.feed l).trip = if 150 ≤ (s.feed l).current then some 0 else none) ∧
    (supply < 420 → t.supply.state = .low ∧
      t.handed = [.noticeStart, .faultLatch (.sect .supply), .noticeRaise .supply] ++
        allLoops.map (fun l => .feedStateReport l .supplyOff true) ∧
      ∀ l, (t.feed l).state = .supplyOff ∧ (t.feed l).settle = .stopped ∧ (t.feed l).trip = none)

/-- What power-on leaves, by the rules that give a value after power-on (R7, R19, R28, R35, R40, R44, R63, R90, R92,
R120, R130, R152, R155, R164, R165, R170, R176, R181, R182); and the invariants below hold there. -/
def Obligations.ResetLeavesTheValuesOfTheRules : Prop :=
  (∀ l, (State.reset.loop l).state = .unpowered ∧ (State.reset.loop l).stale = false ∧ (State.reset.loop l).map = [] ∧
    (State.reset.loop l).absent = [] ∧ (State.reset.loop l).epoch = 0 ∧ (State.reset.loop l).errors = 0 ∧
    (State.reset.loop l).debt = 0 ∧ ∀ b, (State.reset.bearer l b).st = .free) ∧
  (∀ l, (State.reset.feed l).state = .settling ∧ (State.reset.feed l).desired = true ∧
    (State.reset.feed l).settle = .running (500 * 8)) ∧
  State.reset.supply.state = .good ∧
  (∀ q, (State.reset.record q).valid = false ∧ (State.reset.record q).upGain = 32 ∧ (State.reset.record q).downGain = 32) ∧
  (∀ c, (State.reset.ctx c).state = .free ∧ (State.reset.ctx c).regGen = 0 ∧ (State.reset.ctx c).offGen = 0) ∧
  State.reset.waiting = [] ∧ State.reset.entryCount = 0 ∧
  (∀ p z, State.reset.routeEntry p z = [⟨.A, 0, 20⟩, ⟨.B, 0, 20⟩]) ∧ State.reset.plan = 0 ∧
  (∀ t, (State.reset.trunk t).state = .hunt ∧ (State.reset.trunk t).slips = 0 ∧
    ∀ n, State.reset.chan t n = ⟨.free, false, 0⟩) ∧
  (∀ c, (State.reset.player c).state = .idle) ∧
  State.reset.segment 0 = ⟨true, 0, 8000, .restart⟩ ∧ (∀ k, k ≠ 0 → (State.reset.segment k).valid = false) ∧
  State.reset.home = .A ∧ (∀ p : Fin 25, State.reset.param p = Config.params[p].dflt) ∧
  State.reset.sectionFault = ⟨1, 1⟩ ∧ (∀ t, State.reset.trunkFault t = ⟨0, 0⟩) ∧
  (∀ l, State.reset.loopFault l = ⟨0, 0⟩) ∧ (∀ q, State.reset.postFault q = ⟨0, 0⟩) ∧
  State.reset.marks = [(1, 0)] ∧ State.reset.mask = 0xFFF ∧
  (State.reset.tablesOk ∧ State.reset.contextsOk ∧ State.reset.waitingOk ∧ State.reset.countsOk ∧
    State.reset.waitingSorted ∧ State.reset.channelsOk ∧ State.reset.marksOk ∧ State.reset.postsOk ∧ State.reset.loopsOk ∧
    State.reset.bearersOk ∧ State.reset.servedOk)

/-- Every step keeps the tables within their rules: the settings in range (R170), the post records in range and without
two that share a post number, or a plate code or position on one loop (R41), the route entries (R90), the segments
inside the store (R152, R153), and the store in its canonical form. -/
def Obligations.EveryStepKeepsTheTables : Prop :=
  ∀ s s' : State, s.tablesOk → step s = .next s' → s'.tablesOk

/-- Every step keeps every context's fields in agreement with its state: no context in QUEUED, CLEARING or FREE holds a
leg (R81), an OFFERED context has one leg and a running offer timer (R97), and a CONNECTED or HELD context has its legs
on the call's trunk (R98, R114). -/
def Obligations.EveryStepKeepsTheContexts : Prop :=
  ∀ s s' : State, s.contextsOk → step s = .next s' → s'.contextsOk

/-- Every step keeps the waiting list at exactly the QUEUED and OFFERED contexts, each once (R74, R89). -/
def Obligations.EveryStepKeepsTheWaitingList : Prop :=
  ∀ s s' : State, s.waitingOk → step s = .next s' → s'.waitingOk

/-- Every step keeps every saturating count within its maximum (00_scope.md, Counters; R13, R20, R62, R99, R127, R128,
R146, R181). The error count and the silent run are bounded by settings, so the tables are a premise. -/
def Obligations.EveryStepKeepsTheCounts : Prop :=
  ∀ s s' : State, s.tablesOk → s.countsOk → step s = .next s' → s'.countsOk

/-- A call keeps what it was registered with: as long as its context is not FREE, no step changes its class, its
registration generation, its loop and plate (R65, R69), its zone (R55) or its naming snapshot (R57). -/
def Obligations.EveryStepKeepsWhatACallWasRegisteredWith : Prop :=
  ∀ (s s' : State) (c : CtxId), step s = .next s' → (s.ctx c).state ≠ .free → (s'.ctx c).state ≠ .free →
    (s'.ctx c).snapshot = (s.ctx c).snapshot ∧ (s'.ctx c).cls = (s.ctx c).cls ∧ (s'.ctx c).regGen = (s.ctx c).regGen ∧
    (s'.ctx c).loop = (s.ctx c).loop ∧ (s'.ctx c).plate = (s.ctx c).plate ∧ (s'.ctx c).zone = (s.ctx c).zone

/-! ### Sample codes and gains (07) -/

/-- Encoding by R136: the exponent is the largest whose threshold is at most the magnitude, the mantissa truncates, the
sign is that of the value; 0 gives 0x00 and nothing gives 0x80; the loss is at most 1 in segment 1 and 127 in segment 7
and none in segment 0; a code that is not 0x80 is encoded back from its own value. What the engine encodes is what its
gain stage gives, of magnitude at most 3952. -/
def Obligations.EncodingFollowsR136 : Prop :=
  (∀ v : Int, v.natAbs ≤ 3952 →
    (∃ e m : Nat, e ≤ 7 ∧ m ≤ 15 ∧ 16 * 2 ^ e - 16 ≤ v.natAbs ∧ (e < 7 → v.natAbs < 16 * 2 ^ (e + 1) - 16) ∧
      m = (v.natAbs + 16) / 2 ^ e - 16 ∧
      encodeSample v = BitVec.ofNat 8 ((if v < 0 then 128 else 0) + 16 * e + m) ∧
      v.natAbs - (decodeSample (encodeSample v)).natAbs ≤ 2 ^ e - 1) ∧
    (decodeSample (encodeSample v)).natAbs ≤ v.natAbs ∧ encodeSample v ≠ 0x80 ∧
    (v < 0 → decodeSample (encodeSample v) < 0)) ∧
  (∀ (x : Int) (g : Nat), gainCode x g = encodeSample (gainStage x g) ∧ (gainStage x g).natAbs ≤ 3952) ∧
  encodeSample 0 = 0 ∧ (decodeSample (encodeSample 47)) = 46 ∧
  ∀ c : Byte, c ≠ 0x80 → encodeSample (decodeSample c) = c

/-- The law of R139: every value the gain stage gives lies within -3952 to 3952, and at gain 32 a code of a single
source is written as it was read, but for 0x80, which is written as 0x00. Also the formulas it rests on (R135, R137,
R138): the magnitude of a code is (m + 16) 2^e - 16; only 0x00 and 0x80 decode to 0 and no two others to one value; the
product is divided by 32 and rounded to the nearest, a half away from zero, and the sign kept; a sample saturates
exactly when that exceeds 3952, and never at gain 32 or below from one source; a sample that saturates is 3952 with the
sign of the input. -/
def Obligations.GainFollowsItsFormulaAndUnityKeepsTheCode : Prop :=
  (∀ (x : Int) (g : Nat), -3952 ≤ gainStage x g ∧ gainStage x g ≤ 3952) ∧
  (∀ c : Byte, gainCode (decodeSample c) 32 = if c = 0x80 then 0x00 else c) ∧
  (∀ c : Byte, (decodeSample c).natAbs = (c.toNat % 16 + 16) * 2 ^ (c.toNat / 16 % 8) - 16) ∧
  (∀ c : Byte, decodeSample c = 0 ↔ c = 0x00 ∨ c = 0x80) ∧
  (∀ c d : Byte, decodeSample c = decodeSample d → c = d ∨ decodeSample c = 0) ∧
  (∀ (x : Int) (g : Nat), x.natAbs * g < 32 * 3952 + 16 →
    2 * (x.natAbs * g) < 64 * (gainStage x g).natAbs + 32 ∧ 64 * (gainStage x g).natAbs ≤ 2 * (x.natAbs * g) + 32 ∧
    (x < 0 → gainStage x g ≤ 0) ∧ (0 ≤ x → 0 ≤ gainStage x g)) ∧
  (∀ (x : Int) (g : Nat), gainClips x g ↔ 3952 < (x.natAbs * g + 16) / 32) ∧
  (∀ (x : Int) (g : Nat), gainClips x g → gainStage x g = if x < 0 then -3952 else 3952) ∧
  (∀ (c : Byte) (g : Nat), g ≤ 32 → gainClips (decodeSample c) g = false)

/-! ### Loops and scans (01) -/

/-- The command a post is given in a command scan is the first line of R9 that applies, and a post has a pending
command exactly when one of the seven conditions of R9 holds; the commands of a scan stand in chain order (R3). Each
reply has its effect of R8 on the command record, and of R52 on the naming status; an echo other than the command's,
and NO-CMD, have none. A status byte with FAULT makes health due while the last health is unknown or shows no flag.
That the FAULT bit of a status byte is taken after the reply of the same pair, so that a POLL reply clears the health
due that an older FAULT bit had set, is read into the rules (DEDUCED, log entry 16). -/
def Obligations.CommandRecordsFollowR8AndR9 : Prop :=
  (∀ (r : CmdRec) (releasing : Bool),
    r.choose releasing =
      if r.ackReq then .ackReq
      else if (∃ b, r.confirmedBearer = .on b ∧ r.desiredBearer ≠ some b) ∨
          (r.confirmedBearer = .unknown ∧ r.desiredBearer = none) ∨ releasing then .bearerRelease
      else if r.desiredBearer.isSome ∧ (r.confirmedBearer = .nobearer ∨ r.confirmedBearer = .unknown) then
        .bearer (r.desiredBearer.getD 0)
      else if r.confirmedLamp ≠ some r.desiredLamp then .lamp r.desiredLamp
      else if r.identDue then .ident
      else if r.testDue then .test
      else .poll) ∧
  (∀ (r : CmdRec) (releasing : Bool),
    r.pending releasing = true ↔
      r.ackReq ∨ r.confirmedBearer ≠ (match r.desiredBearer with | some b => .on b | none => .nobearer) ∨ releasing ∨
        r.confirmedLamp ≠ some r.desiredLamp ∨ r.identDue ∨ r.testDue ∨ r.healthDue) ∧
  (∀ (L : Loop) (k : Nat), L.commands.length = L.map.length ∧
    L.commands[k]? = L.map[k]?.map (fun e => e.cmd.choose (L.releasingAt (k + 1)))) ∧
  (∀ (e : MapEntry) (status reply : Byte),
    (∀ cmd, (e.apply cmd (status, reply)).cmd.lastStatus = some status ∧
      (e.apply cmd (status, reply)).plate = e.plate) ∧
    (∀ x, (e.apply (.lamp x) (status, takenByte (ScanCmd.lamp x).byte)).cmd.confirmedLamp = some x) ∧
    (∀ b, (e.apply (.bearer b) (status, takenByte (ScanCmd.bearer b).byte)).cmd.confirmedBearer = .on b) ∧
    (e.apply .bearerRelease (status, 0xCF)).cmd.confirmedBearer = .nobearer ∧
    (e.apply .ackReq (status, 0xD0)).cmd.ackReq = false ∧
    (e.apply .ident (status, reply)).cmd.identDue = false ∧
    (e.apply .test (status, 0xE1)).cmd.testDue = false ∧ (e.apply .test (status, 0xE0)).cmd.testDue = false ∧
    (reply.getLsbD 7 = false → (e.apply .poll (status, reply)).cmd.lastHealth = some reply) ∧
    (reply.getLsbD 7 = false → reply.getLsbD 6 →
      (e.apply .poll (status, reply)).cmd.confirmedLamp = none ∧
      (e.apply .poll (status, reply)).cmd.confirmedBearer = .unknown ∧
      (e.apply .poll (status, reply)).cmd.identDue ∧
      (e.apply .poll (status, reply)).tie = match e.tie with | .listed q _ => .listed q false | .unlisted => .unlisted) ∧
    (e.apply .ident (status, e.plate)).tie = (match e.tie with | .listed q _ => .listed q true | .unlisted => .unlisted) ∧
    (reply ≠ e.plate → (e.apply .ident (status, reply)).tie = e.tie) ∧
    (reply.getLsbD 7 = false →
      (e.apply .poll (status, reply)).cmd.healthDue = (status.getLsbD 0 && reply &&& 0x7F == 0)) ∧
    (∀ cmd, (cmd = .poll → reply.getLsbD 7) →
      ((e.apply cmd (status, reply)).cmd.healthDue ↔ e.cmd.healthDue ∨
        (status.getLsbD 0 ∧ ∀ h, e.cmd.lastHealth = some h → h &&& 0x7F = 0))) ∧
    (∀ cmd, cmd ≠ .ident → (cmd = .poll → reply.getLsbD 7) → (cmd = .test → reply ≠ 0xE0 ∧ reply ≠ 0xE1) →
      (cmd ≠ .poll → cmd ≠ .test → reply ≠ cmd.byte ||| 0x80) →
      (e.apply cmd (status, reply)).tie = e.tie ∧
      { (e.apply cmd (status, reply)).cmd with lastStatus := e.cmd.lastStatus, healthDue := e.cmd.healthDue } = e.cmd) ∧
    (∀ cmd, cmd ≠ .ident → cmd ≠ .poll → reply = 0x80 →
      (e.apply cmd (status, reply)).tie = e.tie ∧
      { (e.apply cmd (status, reply)).cmd with lastStatus := e.cmd.lastStatus, healthDue := e.cmd.healthDue } = e.cmd))

/-- SCAN_PICK (R3, R10 to R12): at an idle moment the scheduler sends the first line of R10 that applies, and at any
other moment, or when no line applies, nothing is sent. That a poll or sweep timer which is stopped stays stopped when
a scan is sent rests on log entry 18 (DEDUCED): R11 has any SCAN restart the poll timer and any scan the sweep timer,
and the model takes a stopped timer to be started by a state entry alone. -/
def Obligations.ScanPickFollowsTheTableOfR10 : Prop :=
  ∀ (l : LoopId) (s : State), ∃ t : State, exec (.scanPick l) s = .next t ∧
    OnlyLoop l s t ∧ t.handed = s.handed.erase (.scanPick l) ∧
    if (s.loop l).flight.isSome ∨ (s.loop l).guard.isRunning ∨ (s.loop l).state = .off ∨
        (s.loop l).state = .unpowered then t.loop l = s.loop l
    else if (s.loop l).stale ∧ (s.loop l).reconPending = false then
      Sends s (s.loop l) (t.loop l) .staleRound (List.replicate 12 .ident)
    else if (s.loop l).state.carries ∧ (s.loop l).debt = 3 then
      Sends s (s.loop l) (t.loop l) .urgentIdent (List.replicate (s.loop l).map.length .ident)
    else if (s.loop l).state.carries ∧ (s.loop l).anyPending then
      Sends s (s.loop l) (t.loop l) .command (s.loop l).commands
    else if ((s.loop l).state.carries ∧ ((s.loop l).pollTimer = .expired ∨ (s.loop l).attention)) ∨
        ((s.loop l).state = .failed ∧ (s.loop l).pollTimer = .expired) then
      Sends s (s.loop l) (t.loop l) .poll (List.replicate (s.loop l).map.length .poll)
    else if (s.loop l).state.carries ∧ (s.loop l).sweepTimer = .expired then
      Sends s (s.loop l) (t.loop l) .sweep []
    else t.loop l = s.loop l

/-- LOOP_FRAME (R1, R2, R141 to R145, R156): the frame sent is the loop sync byte, the next byte of the outbound scan or
idle fill, and four bearer codes, 0x00 for every bearer that is not LIVE. A bearer that is LIVE carries one sample of
the context that holds it, as `Sampled` says, with the code the receive side gives: the slot's own while aligned and not
in a fourth frame without sync, 0x00 while no sync byte has come. Where no context is sampled on a bearer its slot
carries 0x00, and where none is on any of the loop's, the frame touches nothing but its loop, its ring and what is
handed. In every case the other loops, all that the frame does not carry, a context that is not sampled, and a channel
that is no leg of one that is, stay. Which context is sampled where two hold one LIVE bearer, the lowest-numbered
(`SampledOn`), is the model's choice (log entry 76). That the sample of a LIVE bearer is computed by the LOOP_FRAME of
its loop, downlink first, and that a loss of receive alignment, a complete block or an ended segment which is due is
dealt with first, are the model's choices too (log entries 4 and 35); that a post which an installation has moved is
followed to its new entry is read into R55 and R84 (DEDUCED, log entry 21). -/
def Obligations.LoopFrameSendsTheSixSlots : Prop :=
  ∀ (l : LoopId) (ret : LoopReturn) (s : State), ∃ t : State, exec (.loopFrame l ret) s = .next t ∧
    (t.loop l).sent.length = 6 ∧ (t.loop l).sent[0]? = some 0x47 ∧
    (t.loop l).sent[1]? = some ((s.loop l).txLeft.headD 0x00) ∧
    (∀ b : BearerId, (s.bearer l b).st ≠ .live ∨ (∀ c, ¬ SampledOn s l b c) →
      (t.loop l).sent[b.val + 2]? = some 0x00) ∧
    (t.loop l).txLeft = (s.loop l).txLeft.drop 1 ∧
    t = { s with
      loops := t.loops
      rings := t.rings
      contexts := t.contexts
      players := t.players
      paths := t.paths
      trunkA := t.trunkA
      trunkB := t.trunkB
      handed := t.handed } ∧
    OnlyChannels s t ∧
    (∀ m, m ≠ l → t.loop m = s.loop m ∧ t.ring m = s.ring m) ∧
    (∀ (b : BearerId) (c : CtxId), SampledOn s l b c →
      Sampled s t b c ((t.loop l).sent.getD (b.val + 2) 0) (s.codeIn l ret ((t.loop l).sent.drop 2) b)) ∧
    (∀ (b : BearerId) (received down : List Byte), received.length = 6 →
      ((s.loop l).aligned → (s.loop l).missing < 4 → (s.loop l).rxBuf = [] →
        s.codeIn l (.bytes received) down b =
          if received.headD 0 = 0x47 ∨ (s.loop l).missing < 3 then received.getD (b.val + 2) 0 else 0) ∧
      ((s.loop l).aligned = false → 0x47 ∉ (s.loop l).rxBuf ++ received → s.codeIn l (.bytes received) down b = 0)) ∧
    (∀ c, (∀ b, ¬ SampledOn s l b c) → t.ctx c = s.ctx c ∧ t.player c = s.player c ∧ t.path c = s.path c) ∧
    (∀ k n, (∀ b c, SampledOn s l b c → ¬ (s.ctx c).hasLeg ⟨k, n⟩) → t.chan k n = s.chan k n) ∧
    ((∀ b c, ¬ SampledOn s l b c) →
      t = { s with loops := t.loops, rings := t.rings, handed := t.handed })

/-- The scan channel in a LOOP_FRAME (R1, R4 to R6, R14, R15, R189). The frame that sends END starts the scan timeout,
and the posts of an energised ring act on the scan, whose bytes are on their way back from then on, one a frame: when
they act and how long the way is are the model's choices (log entry 7). The six bytes that return are framed on the
sync byte, and slot 1 goes to the scan receiver, which hands SCAN_RETURN when the scan has ended, or to the timeout
guard. A loss of alignment that is due is carried out first (log entry 4), and a loop is aligned at the first sync byte
(log entry 35). What BEARER-OK shows of a post never put on a bearer, that it shows 0 after BEARER(RELEASE), and the
result of TEST are the model's choices (log entry 9); so is one bit of CALLER for the handset and for a hands-free call
(log entry 73). -/
def Obligations.ScanChannelCarriesTheScan : Prop :=
  ∀ (l : LoopId) (ret : LoopReturn) (s : State), ∃ t : State, exec (.loopFrame l ret) s = .next t ∧
    t.loop l = { s.loop l with
      sent := (t.loop l).sent
      txLeft := (t.loop l).txLeft
      rxBuf := (t.loop l).rxBuf
      aligned := (t.loop l).aligned
      missing := (t.loop l).missing
      rx := (t.loop l).rx
      rxDone := (t.loop l).rxDone
      guard := (t.loop l).guard
      scanTimer := if (s.loop l).txLeft.length = 1 then .running (s.param 11 * 8) else (s.loop l).scanTimer } ∧
    (∀ received,
      received = (match ret with | .bytes bs => bs | .ring up => s.ringReturns l up (t.loop l).sent) →
      received.length = 6 → ∃ x, Framing s t l received x ∧ ScanByteTaken s t l x) ∧
    ((s.feed l).state ≠ .settling → (s.feed l).state ≠ .on → t.ring l = { s.ring l with transit := [] }) ∧
    ((s.feed l).state = .settling ∨ (s.feed l).state = .on →
      ((s.loop l).txLeft.length ≠ 1 ∨ (s.loop l).flight = none →
        t.ring l = { s.ring l with transit := (s.ring l).transit.drop 1 }) ∧
      ∀ f, (s.loop l).flight = some f → (s.loop l).txLeft.length = 1 →
        (f.purpose = .sweep → t.ring l = { s.ring l with
          transit := (s.ring l).transit.drop 1 ++
            [if (s.ring l).posts.any (fun p => p.live && p.attn) then 0xA5 else 0xA4, 0x5C] }) ∧
        (f.purpose ≠ .sweep → ∃ bytes, (t.ring l).transit = (s.ring l).transit.drop 1 ++ bytes ∧
          RingActed (s.ring l).posts (t.ring l).posts f.cmds bytes))

/-- SCAN_TIMEOUT (R14, R20): the scan in flight completes as SCAN-TIMEOUT, its flag is latched, the timeout guard runs
for the scan timeout in the settings, and the error is counted; with no scan in flight, or its timeout not run out,
nothing happens. SCAN_RETURN of a scan that fails a check of R15: SCAN-MALFORMED is latched, the error is counted, and
nothing of what the scan returned is used: the map, its command records, the attention mark and STALE stay, but for
what entering FAILED does. The length of the guard where the setting was written since (log entry 43) and the dropping
of outbound bytes not yet sent (log entry 44) are the model's choices. Read into the rules (DEDUCED) are that an
errored scan counts whatever its epoch (log entry 14), the desired bearer none of an entry whose bearer is freed (log
entry 19), and which expiry counts (`RunsOut`, log entry 3). -/
def Obligations.ErroredScansAreLatchedAndCounted : Prop :=
  (∀ (l : LoopId) (s : State), (s.loop l).flight.isSome → RunsOut s (.scanTimeout l) (s.loop l).scanTimer →
    ∃ t : State, exec (.scanTimeout l) s = .next t ∧ OnlyLoop l s t ∧ .faultLatch (.loop l .scanTimeout) ∈ t.handed ∧
      ErrorCounted s t l { s.loop l with
        flight := none
        txLeft := []
        scanTimer := .stopped
        rx := []
        rxDone := false
        guard := .running (s.param 11 * 8)
        guardSpan := s.param 11 * 8 }) ∧
  (∀ (l : LoopId) (s : State), (s.loop l).flight = none ∨ ¬ RunsOut s (.scanTimeout l) (s.loop l).scanTimer →
    exec (.scanTimeout l) s = .next { s with handed := s.handed.erase (.scanTimeout l) }) ∧
  (∀ (l : LoopId) (f : Flight) (s : State), (s.loop l).flight = some f → (s.loop l).rxDone →
    (readScan f.cmds.length (s.loop l).rx).good f.purpose.isSweep f.cmds.length = false →
    ∃ t : State, exec (.scanReturn l) s = .next t ∧ OnlyLoop l s t ∧ PickHanded t l ∧
      .faultLatch (.loop l .scanMalformed) ∈ t.handed ∧
      ErrorCounted s t l { s.loop l with
        flight := none
        txLeft := []
        scanTimer := .stopped
        rx := []
        rxDone := false })

/-- SCAN_RETURN of a good return (R12, R16, R17, R20, R21, R46): a stale epoch leaves its attention bit alone;
otherwise the count goes to 0, DEGRADED becomes RUN, FAILED sets STALE, a SWEEP gives its attention bit, a SCAN whose
number of posts differs from the map's sets STALE, is not used and keeps its attention bit, one with more than twelve
pairs latches OVERLONG (R5), a used one stores every status byte, and a STALE round hands its plates over with the next
hand-over number. A SWEEP that returns with pairs is a good return (DEDUCED, log entry 31), and the checks come before
the epoch (DEDUCED, log entry 14). -/
def Obligations.GoodScanReturnIsUsedByR16 : Prop :=
  ∀ (l : LoopId) (f : Flight) (s : State), (s.loop l).flight = some f → (s.loop l).rxDone →
    (readScan f.cmds.length (s.loop l).rx).good f.purpose.isSweep f.cmds.length →
    ∃ t : State, exec (.scanReturn l) s = .next t ∧ PickHanded t l ∧ (t.loop l).flight = none ∧
      t = { s with loops := t.loops, testResults := t.testResults, handed := t.handed } ∧
      (∀ m, m ≠ l → t.loop m = s.loop m) ∧ (t.loop l).epoch = (s.loop l).epoch ∧
      (t.loop l).map.map (·.plate) = (s.loop l).map.map (·.plate) ∧
      (f.epoch ≠ (s.loop l).epoch → (t.loop l).map = (s.loop l).map ∧ (t.loop l).errors = (s.loop l).errors ∧
        (t.loop l).state = (s.loop l).state ∧ (t.loop l).stale = (s.loop l).stale ∧
        (t.loop l).attention = ((s.loop l).attention || ((s.loop l).rx.headD 0).getLsbD 0)) ∧
      (f.epoch = (s.loop l).epoch →
        (t.loop l).errors = 0 ∧
        (t.loop l).state = (if (s.loop l).state = .degraded then .run else (s.loop l).state) ∧
        ((s.loop l).state = .failed → (t.loop l).stale = true) ∧
        (f.purpose = .sweep →
          (t.loop l).attention = ((s.loop l).attention || ((s.loop l).rx.headD 0).getLsbD 0) ∧
          (t.loop l).map = (s.loop l).map) ∧
        (f.purpose ≠ .sweep →
          min (readScan f.cmds.length (s.loop l).rx).pairs.length 12 ≠ (s.loop l).map.length →
          (t.loop l).stale = true ∧ (t.loop l).map = (s.loop l).map ∧
          (t.loop l).attention = ((s.loop l).attention || ((s.loop l).rx.headD 0).getLsbD 0)) ∧
        (f.purpose ≠ .sweep → 12 < (readScan f.cmds.length (s.loop l).rx).pairs.length →
          .faultLatch (.loop l .overlong) ∈ t.handed) ∧
        (f.purpose ≠ .sweep → (s.loop l).map.length ≤ f.cmds.length →
          min (readScan f.cmds.length (s.loop l).rx).pairs.length 12 = (s.loop l).map.length →
          (t.loop l).map.map (·.cmd.lastStatus) =
            (readScan f.cmds.length (s.loop l).rx).chain.map (fun p => some p.1)) ∧
        (f.purpose = .staleRound → (t.loop l).reconPending = true ∧ (t.loop l).handOver = (s.loop l).handOver + 1 ∧
          .reconciliation l ((s.loop l).handOver + 1)
            ((readScan f.cmds.length (s.loop l).rx).chain.map (·.2)) ∈ t.handed))

/-- TIMEOUT_GUARD_END (R14) and LOOP_RECEIVE_UNALIGNED (R1): a running guard ends and the scheduler may pick; four
frames without the sync byte make the receive side unaligned, and the bytes received stay to be examined (R189). The
three timers of the scheduler (R11, R13): an expired poll or sweep timer stays expired and brings an idle moment; the
reconfirm timer starts again, opens a round with IDENT due in every entry, or adds to the debt of the open one up to 3.
A round opened on an empty map closes at once, which is read into R13 (DEDUCED, log entry 32). An expiry that the part
has handed and whose timer has since been stopped or started again has no effect (log entry 3). That the loss of
alignment is a command of its own, which waits for its taking, is log entry 4. -/
def Obligations.TimersAndAlignmentOfALoop : Prop :=
  (∀ (l : LoopId) (s : State), RunsOut s (.timeoutGuardEnd l) (s.loop l).guard →
    ∃ t : State, exec (.timeoutGuardEnd l) s = .next t ∧ OnlyLoop l s t ∧ PickHanded t l ∧
      t.loop l = { s.loop l with guard := .stopped }) ∧
  (∀ (l : LoopId) (s : State), (s.loop l).aligned → 4 ≤ (s.loop l).missing →
    ∃ t : State, exec (.loopReceiveUnaligned l) s = .next t ∧ OnlyLoop l s t ∧
      t.handed = s.handed.erase (.loopReceiveUnaligned l) ∧
      t.loop l = { s.loop l with aligned := false, missing := 0 }) ∧
  (∀ (l : LoopId) (s : State), RunsOut s (.pollTimerExpiry l) (s.loop l).pollTimer →
    ∃ t : State, exec (.pollTimerExpiry l) s = .next t ∧ OnlyLoop l s t ∧ PickHanded t l ∧
      t.loop l = { s.loop l with pollTimer := .expired }) ∧
  (∀ (l : LoopId) (s : State), RunsOut s (.sweepTimerExpiry l) (s.loop l).sweepTimer →
    ∃ t : State, exec (.sweepTimerExpiry l) s = .next t ∧ OnlyLoop l s t ∧ PickHanded t l ∧
      t.loop l = { s.loop l with sweepTimer := .expired }) ∧
  (∀ (l : LoopId) (s : State), RunsOut s (.reconfirmTimerExpiry l) (s.loop l).reconfirmTimer →
    ∃ t : State, exec (.reconfirmTimerExpiry l) s = .next t ∧ OnlyLoop l s t ∧ PickHanded t l ∧
      (t.loop l).reconfirmTimer = .running (s.param 13 * 8000) ∧
      ((s.loop l).roundOpen → (t.loop l).roundOpen ∧ (t.loop l).debt = min ((s.loop l).debt + 1) 3 ∧
        (t.loop l).map = (s.loop l).map) ∧
      ((s.loop l).roundOpen = false → (s.loop l).map ≠ [] → (t.loop l).roundOpen ∧
        (t.loop l).debt = (s.loop l).debt ∧ (∀ e ∈ (t.loop l).map, e.cmd.identDue ∧ e.cmd.roundOwed) ∧
        (t.loop l).map.map (·.plate) = (s.loop l).map.map (·.plate)) ∧
      ((s.loop l).roundOpen = false → (s.loop l).map = [] →
        (t.loop l).roundOpen = false ∧ (t.loop l).debt = 0)) ∧
  (∀ (l : LoopId) (i : Instr) (x : Timer) (s : State),
    (i = .timeoutGuardEnd l ∧ x = (s.loop l).guard) ∨ (i = .pollTimerExpiry l ∧ x = (s.loop l).pollTimer) ∨
      (i = .sweepTimerExpiry l ∧ x = (s.loop l).sweepTimer) ∨
      (i = .reconfirmTimerExpiry l ∧ x = (s.loop l).reconfirmTimer) → ¬ RunsOut s i x →
    exec i s = .next { s with handed := s.handed.erase i })

/-! ### Naming (03) -/

/-- RECONCILIATION (R46 to R48): the directory hands the result back with the number it was given; the new entries
carry the plates handed, in their order; every valid record of the loop is either tied to exactly one new entry or
absent; tied records stand in directory order and carry their entry's plate. The walk of R47: an entry is tied to the
first record of its plate after the record last tied, and to none only where there is none. -/
def Obligations.ReconciliationPlacesEveryRecordOnce : Prop :=
  ∀ (l : LoopId) (n : Byte) (plates : List Byte) (s : State),
    ∃ (t : State) (entries : List ResultEntry) (absent : List SlotId),
      exec (.reconciliation l n plates) s = .next t ∧
      t = { s with
        handed := s.handed.erase (.reconciliation l n plates) ++ [.resultInstall l n entries absent] } ∧
      entries.map (·.plate) = plates ∧
      (entries.filterMap (·.slot) ++ absent).Perm (s.expected l) ∧
      (entries.filterMap (·.slot)).Sublist (s.expected l) ∧ absent.Sublist (s.expected l) ∧
      (∀ e ∈ entries, ∀ q, e.slot = some q → (s.record q).plate = e.plate) ∧
      (∀ q, q ∈ s.expected l ↔ (s.record q).valid ∧ (s.record q).loop = l) ∧
      (s.expected l).Pairwise (fun p q => (s.record p).position ≤ (s.record q).position) ∧
      ∀ (k : Nat) (e : ResultEntry), entries[k]? = some e →
        e.slot = ((s.expected l).drop (match ((entries.take k).filterMap (·.slot)).getLast? with
          | some q => (s.expected l).idxOf q + 1
          | none => 0)).find? (fun q => (s.record q).plate == e.plate)

/-- RESULT_INSTALL (R7, R13, R22, R25, R48, R49): a result with the current hand-over number, taken while a
reconciliation is pending, replaces the map and the ABSENT set under the next epoch, ends the reconciliation and STALE,
and takes START and FAILED to RUN; an entry whose plate is single in both maps keeps its command record, and its bearer
keeps its state and follows it; every other bearer is FREE and every other command record fresh; the passes and the
bearers lost are handed to the call manager; CHAIN-CHANGED, UNLISTED-SEEN and ABSENT-SEEN are latched where R50 says,
and NAMING raised with any of them. That the bearers lost stand in ascending order (log entry 62), and that an
installation is a moment at which the scheduler picks (log entry 61), are the model's choices. Any other result is
discarded. -/
def Obligations.ResultInstallReplacesTheMap : Prop :=
  (∀ (l : LoopId) (entries : List ResultEntry) (absent : List SlotId) (s : State),
    (s.loop l).reconPending →
    ∃ t : State, exec (.resultInstall l (s.loop l).handOver entries absent) s = .next t ∧ OnlyLoop l s t ∧ PickHanded t l ∧
      (t.loop l).epoch = (s.loop l).epoch + 1 ∧ (t.loop l).absent = absent ∧ (t.loop l).reconPending = false ∧
      (t.loop l).stale = false ∧ (t.loop l).roundOpen = false ∧ (t.loop l).debt = 0 ∧
      (t.loop l).reconfirmTimer = .running (s.param 13 * 8000) ∧
      (t.loop l).state =
        (if (s.loop l).state = .start ∨ (s.loop l).state = .failed then .run else (s.loop l).state) ∧
      (t.loop l).map.map (fun e => (e.plate, e.tie)) =
        entries.map (fun e => (e.plate, match e.slot with | some q => Tie.listed q true | none => .unlisted)) ∧
      (∀ e ∈ (s.loop l).map, ∀ e' ∈ (t.loop l).map, e'.plate = e.plate →
        ((s.loop l).map.map (·.plate)).count e.plate = 1 → (entries.map (·.plate)).count e.plate = 1 →
        e'.cmd = { e.cmd with identDue := false, roundOwed := false }) ∧
      (∀ e' ∈ (t.loop l).map, ((s.loop l).map.map (·.plate)).count e'.plate ≠ 1 ∨
        (entries.map (·.plate)).count e'.plate ≠ 1 → e'.cmd = CmdRec.fresh) ∧
      (∀ b, ((s.bearer l b).st = .free → t.bearer l b = s.bearer l b) ∧
        ((s.bearer l b).st ≠ .free → 1 ≤ (s.bearer l b).entry →
          t.bearer l b = match (s.loop l).map[(s.bearer l b).entry - 1]? with
            | some e =>
              if ((s.loop l).map.map (·.plate)).count e.plate = 1 ∧ (entries.map (·.plate)).count e.plate = 1 then
                ⟨(s.bearer l b).st, (entries.map (·.plate)).idxOf e.plate + 1⟩
              else ⟨.free, 0⟩
            | none => ⟨.free, 0⟩)) ∧
      .rebuildReport l ((s.loop l).epoch + 1)
        ((s.loop l).map.map (fun e =>
          if ((s.loop l).map.map (·.plate)).count e.plate = 1 ∧ (entries.map (·.plate)).count e.plate = 1 then
            (entries[(entries.map (·.plate)).idxOf e.plate]?).map (fun r =>
              ((entries.map (·.plate)).idxOf e.plate + 1,
                match r.slot with | some q => Tie.listed q true | none => .unlisted))
          else none))
        ([0, 1, 2, 3].filter (fun b => (s.bearer l b).st != .free && (t.bearer l b).st == .free)) ∈ t.handed ∧
      ((s.loop l).state = .start ∨ (s.loop l).state = .failed →
        (t.loop l).errors = 0 ∧ (t.loop l).sweepTimer = .running (s.param 10 * 8) ∧
        .loopStateReport l .run ∈ t.handed ∧ .noticeRaise (.loopState l) ∈ t.handed) ∧
      (.faultLatch (.loop l .chainChanged) ∈ t.handed ↔ .faultLatch (.loop l .chainChanged) ∈ s.handed ∨
        (s.loop l).map.map (fun e => (e.plate, e.tie.slot?)) ≠ entries.map (fun e => (e.plate, e.slot))) ∧
      (.faultLatch (.loop l .unlistedSeen) ∈ t.handed ↔ .faultLatch (.loop l .unlistedSeen) ∈ s.handed ∨
        ∃ e ∈ entries, e.slot = none ∧ ∀ e' ∈ (s.loop l).map, e'.tie = .unlisted → e'.plate ≠ e.plate) ∧
      (.faultLatch (.loop l .absentSeen) ∈ t.handed ↔ .faultLatch (.loop l .absentSeen) ∈ s.handed ∨
        ∃ q ∈ absent, q ∉ (s.loop l).absent) ∧
      (.noticeRaise (.naming l) ∈ t.handed ↔ .noticeRaise (.naming l) ∈ s.handed ∨
        (s.loop l).map.map (fun e => (e.plate, e.tie.slot?)) ≠ entries.map (fun e => (e.plate, e.slot)) ∨
        (∃ e ∈ entries, e.slot = none ∧ ∀ e' ∈ (s.loop l).map, e'.tie = .unlisted → e'.plate ≠ e.plate) ∨
        ∃ q ∈ absent, q ∉ (s.loop l).absent)) ∧
  (∀ (l : LoopId) (n : Byte) (entries : List ResultEntry) (absent : List SlotId) (s : State),
    (s.loop l).reconPending = false ∨ (s.loop l).handOver ≠ n →
    exec (.resultInstall l n entries absent) s =
      .next { s with handed := s.handed.erase (.resultInstall l n entries absent) })

/-- REBUILD_REPORT (R57, R73, R84): every context of the loop whose old entry passed follows its post, keeping its
state, its legs, its bearer and all else of the call, but that one without a bearer may take one the rebuild freed;
every other one is FREE at once, with cause POST-LOST unless it was CLEARING, its channels freed, and CLEARED with its
reference and POST-LOST goes to the trunk of every OFFERED, CONNECTED and HELD one of them (R83, R110), as far as its
queue takes it (R99), in ascending context order, which is the model's choice (log entry 23); contexts of other loops,
and FREE ones out of the waiting list, stand. Dispatch follows. The bearers freed are handed on in the order of the
report, which is the model's choice too (log entry 62); none is handed on to a post that is in the map no more
(DEDUCED, log entry 21). -/
def Obligations.RebuildReportMovesOrReleasesEveryCall : Prop :=
  ∀ (l : LoopId) (epoch : Byte) (passes : List (Option (Nat × Tie))) (freed : List BearerId) (s : State),
    ∃ u t : State, exec (.rebuildReport l epoch passes freed) s = .next t ∧ t = u.dispatch ∧
      (∀ c, (s.ctx c).state ≠ .free → (s.ctx c).loop = l →
        (∀ pos tie, passes[(s.ctx c).entry - 1]? = some (some (pos, tie)) →
          ((s.ctx c).bearer ≠ none → u.ctx c = { s.ctx c with entry := pos }) ∧
          ((s.ctx c).bearer = none →
            u.ctx c = { s.ctx c with
              entry := pos
              bearer := (u.ctx c).bearer
              liveSeen := if (u.ctx c).bearer = none then (s.ctx c).liveSeen else false } ∧
            ∀ b, (u.ctx c).bearer = some b →
              b ∈ freed ∧ (s.bearer l b).st = .free ∧ u.bearer l b = ⟨.assigning, u.keyPos c⟩) ∧
          (c ∈ u.waiting ↔ c ∈ s.waiting) ∧ u.player c = s.player c ∧
          (t.ctx c).entry = pos ∧ (t.ctx c).snapshot = (s.ctx c).snapshot ∧ (t.ctx c).plate = (s.ctx c).plate ∧
          (t.ctx c).state ≠ .free) ∧
        ((∀ pos tie, passes[(s.ctx c).entry - 1]? ≠ some (some (pos, tie))) →
          (t.ctx c).state = .free ∧ (t.ctx c).bearer = none ∧ c ∉ t.waiting ∧
          ((s.ctx c).state ≠ .clearing → (t.ctx c).cause = some .postLost ∧
            ∀ g, (s.ctx c).hasLeg g → FreedTo (s.chan g.trunk g.chan) (u.chan g.trunk g.chan)))) ∧
      (∀ k, u.trunk k = { s.trunk k with
        channels := (u.trunk k).channels
        sigQueue := (s.trunk k).sigQueue ++
          ((allCtxs.filter (fun c => (s.ctx c).loop == l && s.callTrunk c == some k &&
            ((s.ctx c).state == .offered || (s.ctx c).state == .connected || (s.ctx c).state == .held) &&
            ((passes[(s.ctx c).entry - 1]?).bind id).isNone)).filterMap
              (fun c => (s.ctx c).ref.map (fun g => .cleared c g .postLost))).take
                (64 - (s.trunk k).sigQueue.length) }) ∧
      (∀ k n, (∀ c, (s.ctx c).hasLeg ⟨k, n⟩ → (s.ctx c).state = .free ∨ (s.ctx c).state = .clearing ∨
          (s.ctx c).loop ≠ l ∨ ∃ pos tie, passes[(s.ctx c).entry - 1]? = some (some (pos, tie))) →
        u.chan k n = s.chan k n) ∧
      (∀ c, ((s.ctx c).state = .free ∧ c ∉ s.waiting) ∨ (s.ctx c).loop ≠ l →
        u.ctx c = s.ctx c ∧ (t.ctx c).entry = (s.ctx c).entry) ∧
      (∀ m, (t.loop m).map.map (·.plate) = (s.loop m).map.map (·.plate) ∧ (t.loop m).state = (s.loop m).state)

/-- STRUCTURAL_WRITE_REPORT and INVALIDATION_REPORT (R23, R59, R60): on the loop before a write the tied entry becomes
UNCONFIRMED, and a slot that left the loop leaves its ABSENT set; at an invalidation the tied entry becomes UNLISTED in
place and its release is handed to the call manager, behind what already stands there: when the call manager is told is
the model's choice (log entry 75); an entry of another loop, which the record has left, keeps its tie: the model's
choice (log entry 70); STALE is set in START, RUN and DEGRADED alone. -/
def Obligations.DirectoryReportsReachTheMap : Prop :=
  (∀ (l : LoopId) (slot : SlotId) (role : WriteRole) (s : State),
    ∃ t : State, exec (.structuralWriteReport l slot role) s = .next t ∧ OnlyLoop l s t ∧
      t.loop l = { s.loop l with
        stale := (s.loop l).stale ||
          ((s.loop l).state == .start || (s.loop l).state == .run || (s.loop l).state == .degraded)
        map := if role = .after then (s.loop l).map
          else (s.loop l).map.map (fun e =>
            if e.tie = .listed slot true then { e with tie := .listed slot false } else e)
        absent := if role = .before true then (s.loop l).absent.filter (· != slot) else (s.loop l).absent }) ∧
  (∀ (l : LoopId) (slot : SlotId) (s : State),
    ∃ t : State, exec (.invalidationReport l slot) s = .next t ∧ OnlyLoop l s t ∧
      t.loop l = { s.loop l with
        stale := (s.loop l).stale ||
          ((s.loop l).state == .start || (s.loop l).state == .run || (s.loop l).state == .degraded)
        map := (s.loop l).map.map (fun e => if e.tie.slot? = some slot then { e with tie := .unlisted } else e)
        absent := (s.loop l).absent.filter (· != slot) } ∧
      (∀ k e, (s.loop l).map[k]? = some e → e.tie.slot? = some slot →
        (∀ j e', j < k → (s.loop l).map[j]? = some e' → e'.tie.slot? ≠ some slot) →
        .directoryRelease l (k + 1) ∈ t.handed ∧ .noticeRaise (.naming l) ∈ t.handed ∧
        ((∀ e' ∈ (s.loop l).map, e'.tie = .unlisted → e'.plate ≠ e.plate) →
          .faultLatch (.loop l .unlistedSeen) ∈ t.handed)))

/-! ### Loops and their feeds (01, 02) -/

/-- FEED_STATE_REPORT (R19, R30): the loop is OFF while the desired setting is off, UNPOWERED while it is on and the
feed is not ON, and enters START from either when the feed enters ON. Entering OFF or UNPOWERED abandons the scan,
stops every timer, zeroes the counts and frees every bearer, and keeps the map and the epoch; each change of state is
reported and raised. That a report of ON leaves a loop in START, RUN, DEGRADED or FAILED as it was is the model's
choice (log entry 42). -/
def Obligations.LoopFollowsItsFeed : Prop :=
  ∀ (l : LoopId) (feed : FeedState) (desired : Bool) (s : State),
    ∃ t : State, exec (.feedStateReport l feed desired) s = .next t ∧ OnlyLoop l s t ∧
      (t.loop l).state =
        (if desired = false then .off
         else if feed ≠ .on then .unpowered
         else if (s.loop l).state = .off ∨ (s.loop l).state = .unpowered then .start
         else (s.loop l).state) ∧
      ((t.loop l).state = (s.loop l).state → t.loop l = s.loop l) ∧
      ((t.loop l).state ≠ (s.loop l).state →
        .loopStateReport l (t.loop l).state ∈ t.handed ∧ .noticeRaise (.loopState l) ∈ t.handed) ∧
      ((t.loop l).state ≠ (s.loop l).state → (t.loop l).state ≠ .start →
        (t.loop l).flight = none ∧ (t.loop l).guard = .stopped ∧ (t.loop l).scanTimer = .stopped ∧
        (t.loop l).pollTimer = .stopped ∧ (t.loop l).sweepTimer = .stopped ∧ (t.loop l).reconfirmTimer = .stopped ∧
        (t.loop l).errors = 0 ∧ (t.loop l).debt = 0 ∧ (t.loop l).roundOpen = false ∧ (t.loop l).attention = false ∧
        (t.loop l).reconPending = false ∧ ∀ b, (t.bearer l b).st = .free) ∧
      ((t.loop l).state ≠ (s.loop l).state → (t.loop l).state = .start →
        (t.loop l).stale ∧ (t.loop l).errors = 0 ∧ (t.loop l).debt = 0 ∧
        (t.loop l).pollTimer = .running (s.param 9 * 8000) ∧ PickHanded t l) ∧
      (t.loop l).epoch = (s.loop l).epoch ∧
      (t.loop l).map.map (fun e => (e.plate, e.tie)) = (s.loop l).map.map (fun e => (e.plate, e.tie))

/-- SETTLE_TIMER_EXPIRY (R29) and LOOP_CURRENT_CHANGE (R31, R34): a feed in SETTLING whose timer runs out enters ON
with the open timer watching the current; a new current moves the trip filter (it measures at or above 150 mA while
energised) and the open timer (it runs below 4 mA in ON). FEED_TRIP (R32) and OPEN_DETECTED (R34): a trip de-energises
the pair, latches TRIPPED, raises FEED-TRIP and reports TRIPPED, with the desired setting kept; an open loop latches
OPEN and raises FEED-TRIP, and the feed stays ON. An event that the part has handed itself, and whose timer no longer
stands at its end, has no effect (log entry 3). -/
def Obligations.FeedsSettleTripAndFindAnOpenLoop : Prop :=
  (∀ (l : LoopId) (s : State), (s.feed l).state = .settling → RunsOut s (.settleTimerExpiry l) (s.feed l).settle →
    ∃ t : State, exec (.settleTimerExpiry l) s = .next t ∧ OnlyFeed l s t ∧
      t.handed = s.handed.erase (.settleTimerExpiry l) ++ [.feedStateReport l .on (s.feed l).desired] ∧
      t.feed l = { s.feed l with
        state := .on
        settle := .stopped
        opn := if (s.feed l).current < 4 then .running 0 else .stopped }) ∧
  (∀ (l : LoopId) (current : Nat) (s : State),
    ∃ t : State, exec (.loopCurrentChange l current) s = .next t ∧ OnlyFeed l s t ∧
      t.handed = s.handed.erase (.loopCurrentChange l current) ∧
      t.feed l = { s.feed l with
        current := current
        trip :=
          if ((s.feed l).state = .settling ∨ (s.feed l).state = .on) ∧ 150 ≤ current then
            (if (s.feed l).trip = none then some 0 else (s.feed l).trip)
          else none
        opn :=
          if (s.feed l).state = .on ∧ current < 4 then
            (if (s.feed l).opn = .stopped then .running 0 else (s.feed l).opn)
          else .stopped }) ∧
  (∀ (l : LoopId) (n : Nat) (s : State), (s.feed l).state = .settling ∨ (s.feed l).state = .on →
    (s.feed l).trip = some n → (.feedTrip l ∈ s.handed → 80 ≤ n) →
    ∃ t : State, exec (.feedTrip l) s = .next t ∧ OnlyFeed l s t ∧
      t.feed l = { s.feed l with state := .tripped, settle := .stopped, trip := none, opn := .stopped } ∧
      t.handed = s.handed.erase (.feedTrip l) ++
        [.faultLatch (.loop l .tripped), .noticeRaise (.feedTrip l), .feedStateReport l .tripped (s.feed l).desired]) ∧
  (∀ (l : LoopId) (n : Nat) (s : State), (s.feed l).state = .on → (s.feed l).opn = .running n →
    (.openDetected l ∈ s.handed → 16000 ≤ n) →
    ∃ t : State, exec (.openDetected l) s = .next t ∧ OnlyFeed l s t ∧
      t.feed l = { s.feed l with opn := .resting } ∧
      t.handed = s.handed.erase (.openDetected l) ++
        [.faultLatch (.loop l .opn), .noticeRaise (.feedTrip l)]) ∧
  (∀ (l : LoopId) (s : State),
    ((s.feed l).state ≠ .settling ∨ ¬ RunsOut s (.settleTimerExpiry l) (s.feed l).settle →
      exec (.settleTimerExpiry l) s = .next { s with handed := s.handed.erase (.settleTimerExpiry l) }) ∧
    ((s.feed l).trip = none ∨ (∃ n, (s.feed l).trip = some n ∧ n < 80 ∧ .feedTrip l ∈ s.handed) →
      exec (.feedTrip l) s = .next { s with handed := s.handed.erase (.feedTrip l) }) ∧
    ((s.feed l).state ≠ .on ∨ (∀ n, (s.feed l).opn ≠ .running n) ∨
        (∃ n, (s.feed l).opn = .running n ∧ n < 16000 ∧ .openDetected l ∈ s.handed) →
      exec (.openDetected l) s = .next { s with handed := s.handed.erase (.openDetected l) }))

/-- SUPPLY_LOSS and SUPPLY_LEVEL_CHANGE (R27, R35, R36): in GOOD a level below 42.0 V moves the monitor to LOW, latches
and raises SUPPLY and sends every feed to SUPPLY-OFF; in LOW the restore timer starts at 45.0 V and returns to zero
below it. SUPPLY_RESTORE (R36): the monitor enters GOOD, raises SUPPLY, and every feed in SUPPLY-OFF leaves it by its
desired setting and its TRIPPED flag: OFF, TRIPPED, or SETTLING with the settle time in the settings. The feeds report
in the order of the loops: the model's choice (log entry 41); so is it that an expiry handed before the level fell
again has no effect (log entry 3). -/
def Obligations.SupplyMonitorMovesTheFeeds : Prop :=
  (∀ (i : Instr) (level : Nat) (s : State), i = .supplyLoss level ∨ i = .supplyLevelChange level →
    ∃ t : State, exec i s = .next t ∧ t = { s with supply := t.supply, feeds := t.feeds, handed := t.handed } ∧
      t.supply.level = level ∧
      (s.supply.state = .good → level < 420 →
        t.supply.state = .low ∧ t.supply.restore = .stopped ∧
        (∀ l, t.feed l = { s.feed l with state := .supplyOff, settle := .stopped, trip := none, opn := .stopped }) ∧
        t.handed = s.handed.erase i ++ [.faultLatch (.sect .supply), .noticeRaise .supply] ++
          allLoops.map (fun l => .feedStateReport l .supplyOff (s.feed l).desired)) ∧
      (s.supply.state = .good → 420 ≤ level →
        t.supply = { s.supply with level := level } ∧ t.feeds = s.feeds ∧ t.handed = s.handed.erase i) ∧
      (s.supply.state = .low →
        t.supply.state = .low ∧ t.feeds = s.feeds ∧ t.handed = s.handed.erase i ∧
        t.supply.restore =
          if level < 450 then .stopped
          else if s.supply.restore.isRunning then s.supply.restore else .running 8000)) ∧
  (∀ s : State, s.supply.state = .low → RunsOut s .supplyRestore s.supply.restore →
    ∃ t : State, exec .supplyRestore s = .next t ∧ t = { s with supply := t.supply, feeds := t.feeds, handed := t.handed } ∧
      t.supply = { s.supply with state := .good, restore := .stopped } ∧ .noticeRaise .supply ∈ t.handed ∧
      ∀ l, ((s.feed l).state ≠ .supplyOff → t.feed l = s.feed l) ∧
        ((s.feed l).state = .supplyOff →
          .feedStateReport l (t.feed l).state (s.feed l).desired ∈ t.handed ∧
          (t.feed l).desired = (s.feed l).desired ∧
          ((s.feed l).desired = false → (t.feed l).state = .off) ∧
          ((s.feed l).desired → s.trippedLatched l → (t.feed l).state = .tripped) ∧
          ((s.feed l).desired → s.trippedLatched l = false →
            (t.feed l).state = .settling ∧ (t.feed l).settle = .running (s.param 14 * 8) ∧ (t.feed l).opn = .stopped))) ∧
  (∀ s : State, s.supply.state = .good ∨ ¬ RunsOut s .supplyRestore s.supply.restore →
    exec .supplyRestore s = .next { s with handed := s.handed.erase .supplyRestore })

/-! ### Calls (04) -/

/-- REQUEST_REPORT for a post without a call, of a permitted class, with a FREE context (R63, R65, R67, R71, R74): the
lowest FREE context is allocated with the values of R63, takes the lowest FREE bearer of its loop where one may be
asked for, and enters the waiting list at the place its keys give; its request is to be acknowledged and its lamp to
show REGISTERED. The post is the one in the entry reported, also where an installation has moved it since: the model's
choice (log entry 55). The entry number given is the count after its increase (DEDUCED, log entry 24). -/
def Obligations.RequestRegistersACall : Prop :=
  ∀ (l : LoopId) (pos : Nat) (cls : CallClass) (e : MapEntry) (c : CtxId) (s : State),
    s.entryAt l (s.nowAt l pos) = some e →
    (∀ d, (s.ctx d).state ≠ .free → (s.ctx d).loop = l → (s.ctx d).entry ≠ pos) →
    (s.permitsOf e.tie).allows cls → (s.ctx c).state = .free → (∀ d, d < c → (s.ctx d).state ≠ .free) →
    ∃ t : State, exec (.requestReport l pos cls) s = .next t ∧
      t = { s with
        contexts := t.contexts
        loops := t.loops
        waiting := t.waiting
        entryCount := t.entryCount
        handed := t.handed } ∧
      t.ctx c = { Ctx.reset with
        state := .queued
        cls := cls
        regGen := (s.ctx c).regGen + 1
        offGen := (s.ctx c).offGen
        loop := l
        plate := e.plate
        entry := pos
        snapshot := some (s.identityOf l (s.nowAt l pos) e)
        zone := s.zoneOf l e.tie
        entryNo := t.entryCount
        bearer := (t.ctx c).bearer } ∧
      (∀ d, d ≠ c → { t.ctx d with entryNo := 0 } = { s.ctx d with entryNo := 0 }) ∧
      (s.entryCount < 65535 → t.entryCount = s.entryCount + 1 ∧ ∀ d, d ≠ c → t.ctx d = s.ctx d) ∧
      (∀ m, m ≠ l → t.loop m = s.loop m) ∧
      (∀ b, (t.ctx c).bearer = some b →
        (s.bearer l b).st = .free ∧ (∀ b', b' < b → (s.bearer l b').st ≠ .free) ∧
        t.bearer l b = ⟨.assigning, s.nowAt l pos⟩ ∧
        (t.entryAt l (s.nowAt l pos)).map (·.cmd.desiredBearer) = some (some b)) ∧
      ((t.ctx c).bearer = none → (s.loop l).state.carries = false ∨ ∀ b, (s.bearer l b).st ≠ .free) ∧
      (t.entryAt l (s.nowAt l pos)).map (·.cmd.ackReq) = some true ∧
      (t.entryAt l (s.nowAt l pos)).map (·.cmd.desiredLamp) = some .registered ∧
      ∃ front back, s.waiting = front ++ back ∧ t.waiting = front ++ c :: back ∧
        (∀ d ∈ front, (t.ctx c).before (t.ctx d) = false) ∧ ∀ d, back.head? = some d → (t.ctx c).before (t.ctx d)

/-- REQUEST_REPORT that registers no call (R65, R66, R68): a post with a call is acknowledged and nothing else changes;
a class outside the permits is acknowledged, its lamp shows REFUSED and REFUSED-CLASS is latched for a listed post;
with no FREE context CONTEXTS-FULL is latched and raised and the request is not acknowledged. A report that names no
entry of the map has no effect, which is read into R65 and R69 (DEDUCED, log entry 21); that one which an installation
has overtaken names the entry its post has passed into is the model's choice (log entry 55). -/
def Obligations.RequestIsAcknowledgedRefusedOrHeldBack : Prop :=
  ∀ (l : LoopId) (pos : Nat) (cls : CallClass) (s : State),
    (s.entryAt l (s.nowAt l pos) = none → exec (.requestReport l pos cls) s =
      .next { s with handed := s.handed.erase (.requestReport l pos cls) }) ∧
    ∀ e, s.entryAt l (s.nowAt l pos) = some e →
      ((∃ c, (s.ctx c).state ≠ .free ∧ (s.ctx c).loop = l ∧ (s.ctx c).entry = pos) →
        ∃ t : State, exec (.requestReport l pos cls) s = .next t ∧ OnlyLoop l s t ∧
          t.loop l = { s.loop l with
            map := (s.loop l).map.modify (s.nowAt l pos - 1)
              (fun e => { e with cmd := { e.cmd with ackReq := true } }) }) ∧
      ((∀ c, (s.ctx c).state ≠ .free → (s.ctx c).loop = l → (s.ctx c).entry ≠ pos) →
        (s.permitsOf e.tie).allows cls = false →
        ∃ t : State, exec (.requestReport l pos cls) s = .next t ∧ OnlyLoop l s t ∧
          t.loop l = { s.loop l with
            map := (s.loop l).map.modify (s.nowAt l pos - 1)
              (fun e => { e with cmd := { e.cmd with ackReq := true, desiredLamp := .refused } }) } ∧
          ∀ slot, e.tie.slot? = some slot → .faultLatch (.post slot .refusedClass) ∈ t.handed) ∧
      ((∀ c, (s.ctx c).state ≠ .free → (s.ctx c).loop = l → (s.ctx c).entry ≠ pos) →
        (s.permitsOf e.tie).allows cls → (∀ c, (s.ctx c).state ≠ .free) →
        exec (.requestReport l pos cls) s =
          .next { s with
            handed := s.handed.erase (.requestReport l pos cls) ++
              [.faultLatch (.sect .contextsFull), .noticeRaise .contextsFull] })

/-- How a call is cleared. CALLER_REPORT (R70, R78 to R80): caller active has no effect; a drop shows OFF at a post
without a call, abandons a QUEUED or OFFERED call with CALL-ABANDONED, clears a CONNECTED or HELD one, and has no effect
on a CLEARING one. DIRECTORY_RELEASE (R86): the call at an invalidated entry is cleared, and a CLEARING one left. In
both CLEARED with the reference goes to the call's trunk before the legs are freed, and dispatch follows. RELEASE
(R108): a call is cleared with cause DESK after its CONFIRM(OK), and no CLEARED is made. TEST_FAIL_REPORT (R70): a
failed TEST shows FAULT at a post without a call and changes nothing at a post with one. BEARER_FREE_REPORT (R73, R82,
R185): a CLEARING holder becomes FREE and loses its notices; then the bearer, if it is FREE and its loop in RUN or
DEGRADED, goes to the first context of the waiting list that is on the loop and has none. The dispatch after that is the
one R95 asks for when a context leaves (log entry 40); that no notice is raised for, and no bearer given to, a post
whose entry is in the map no more is read into the rules (DEDUCED, log entry 21). Which entry a report names that an
installation has overtaken (log entry 55), that a stopped player keeps its cursor (log entry 56), that a complete level
block of the call is judged before it is cleared (log entry 4), that a DIRECTORY_RELEASE clears the call that stands at
the entry when it is taken, one registered since the write too (log entry 75), and that the lower-numbered of two
CLEARING holders becomes FREE (log entry 63) are the model's choices. -/
def Obligations.CallsAreClearedAndTheirBearersHandedOn : Prop :=
  (∀ (l : LoopId) (pos : Nat) (s : State),
    exec (.callerReport l pos true) s = .next { s with handed := s.handed.erase (.callerReport l pos true) } ∧
    (s.postCtx l pos = none →
      exec (.directoryRelease l pos) s = .next { s with handed := s.handed.erase (.directoryRelease l pos) } ∧
      ∀ e, s.entryAt l (s.nowAt l pos) = some e →
        (∃ t : State, exec (.callerReport l pos false) s = .next t ∧
          LampSet l (s.nowAt l pos) .off (.callerReport l pos false) s t) ∧
        ∃ t : State, exec (.testFailReport l pos) s = .next t ∧
          LampSet l (s.nowAt l pos) .fault (.testFailReport l pos) s t) ∧
    ∀ c, s.postCtx l pos = some c →
      exec (.testFailReport l pos) s = .next { s with handed := s.handed.erase (.testFailReport l pos) } ∧
      ((s.ctx c).state = .clearing →
        exec (.callerReport l pos false) s = .next { s with handed := s.handed.erase (.callerReport l pos false) } ∧
        exec (.directoryRelease l pos) s = .next { s with handed := s.handed.erase (.directoryRelease l pos) }) ∧
      ((s.ctx c).state = .queued →
        (∃ t : State, Cleared c .caller (s.take (.callerReport l pos false)) t ∧
          exec (.callerReport l pos false) s = .next (s.abandonRaised t l pos).dispatch) ∧
        ∃ t : State, Cleared c .directory (s.take (.directoryRelease l pos)) t ∧
          exec (.directoryRelease l pos) s = .next t.dispatch) ∧
      ∀ g k, (s.ctx c).ref = some g → s.callTrunk c = some k →
        (s.ctx c).state = .offered ∨ (s.ctx c).state = .connected ∨ (s.ctx c).state = .held →
        (∃ t : State, Cleared c .caller ((s.take (.callerReport l pos false)).pushSig k (.cleared c g .caller)) t ∧
          exec (.callerReport l pos false) s =
            .next (if (s.ctx c).state = .offered then s.abandonRaised t l pos else t).dispatch) ∧
        ∃ t : State, Cleared c .directory ((s.take (.directoryRelease l pos)).pushSig k (.cleared c g .directory)) t ∧
          exec (.directoryRelease l pos) s = .next t.dispatch) ∧
  (∀ (t : Trunk) (ref : OfferRef) (c : CtxId) (s : State), s.current t ref c →
    (s.ctx c).state = .offered ∨ (s.ctx c).state = .connected ∨ (s.ctx c).state = .held →
    ∃ u : State, Cleared c .desk ((s.take (.release t ref)).pushSig t (.confirm ref 0x46 .ok 0)) u ∧
      exec (.release t ref) s = .next u.dispatch) ∧
  ∀ (l : LoopId) (b : BearerId) (s : State), ∃ u t : State, exec (.bearerFreeReport l b) s = .next t.dispatch ∧
    (s.holder l b (fun x => x.state == .clearing) = none →
      u = { s with handed := s.handed.erase (.bearerFreeReport l b) }) ∧
    (∀ c, s.holder l b (fun x => x.state == .clearing) = some c →
      u = { s with
        contexts := u.contexts
        players := u.players
        waiting := s.waiting.filter (· != c)
        marks := s.marks.filter (fun m => m != (9, c.val) && m != (10, c.val))
        handed := s.handed.erase (.bearerFreeReport l b) } ∧
      u.ctx c = (s.ctx c).freed ∧ u.player c = { s.player c with state := .idle, programme := none, segment := none } ∧
      ∀ d, d ≠ c → u.ctx d = s.ctx d ∧ u.player d = s.player d) ∧
    (∀ d, u.waiting.find? (fun c => (u.ctx c).loop == l && (u.ctx c).bearer.isNone && (u.keyEntry c).isSome) = some d →
      (u.bearer l b).st = .free → (u.loop l).state.carries →
      t = { u with contexts := t.contexts, loops := t.loops, handed := t.handed } ∧
      t.ctx d = { u.ctx d with bearer := some b, liveSeen := false } ∧ (∀ c, c ≠ d → t.ctx c = u.ctx c) ∧
      (∀ m, m ≠ l → t.loop m = u.loop m) ∧
      t.loop l = { u.loop l with
        map := (u.loop l).map.modify (u.keyPos d - 1) (fun e => { e with cmd := { e.cmd with desiredBearer := some b } })
        bearers := (u.loop l).bearers.set b ⟨.assigning, u.keyPos d⟩ } ∧
      PickHanded t l ∧ ∃ more, t.handed = u.handed ++ more ∧ ∀ i ∈ more, i = .scanPick l) ∧
    (u.waiting.find? (fun c => (u.ctx c).loop == l && (u.ctx c).bearer.isNone && (u.keyEntry c).isSome) = none ∨
      (u.bearer l b).st ≠ .free ∨ (u.loop l).state.carries = false → t = u)

/-- BEARER_LIVE_REPORT (R72, R155): the QUEUED holder's bearer counts as LIVE from here on, its player starts the queue
programme, and dispatch runs; without such a holder, or with the bearer no longer LIVE, nothing happens, which is read
into R72 (DEDUCED, log entry 22). Of two QUEUED contexts that name one bearer the lowest-numbered is taken as its
holder: the model's choice (log entry 76). -/
def Obligations.BearerLiveMakesItsHolderEligible : Prop :=
  ∀ (l : LoopId) (b : BearerId) (s : State),
    (∀ c, s.holder l b (fun x => x.state == .queued) = some c → (s.bearer l b).st = .live →
      ∃ t : State, exec (.bearerLiveReport l b) s = .next t.dispatch ∧
        t = { s with
          contexts := t.contexts
          players := t.players
          handed := s.handed.erase (.bearerLiveReport l b) } ∧
        t.ctx c = { s.ctx c with liveSeen := true } ∧
        (∀ d, d ≠ c → t.ctx d = s.ctx d ∧ t.player d = s.player d) ∧
        Started c .queue s t) ∧
    (s.holder l b (fun x => x.state == .queued) = none ∨ (s.bearer l b).st ≠ .live →
      exec (.bearerLiveReport l b) s = .next { s with handed := s.handed.erase (.bearerLiveReport l b) })

/-- Every step keeps one call per post (R69), the ownership of bearers (R71) and no call on a loop out of RUN and
DEGRADED (R85). A context that takes a bearer takes one that was FREE on a loop in RUN or DEGRADED, which is then
ASSIGNING, and no two take the same; a bearer once held is held until its context is FREE. For R85, no command from
outside stands for a request or a loop state report, which the loop controllers alone make. -/
def Obligations.EveryStepKeepsOneCallPerPostAndPerBearer : Prop :=
  (∀ s s' : State, s.postsOk → step s = .next s' → s'.postsOk) ∧
  (∀ (s s' : State) (c : CtxId) (b : BearerId), step s = .next s' →
    ((s.ctx c).state ≠ .free → (s'.ctx c).state ≠ .free → (s.ctx c).bearer = some b → (s'.ctx c).bearer = some b) ∧
    ((s.ctx c).state = .free ∨ (s.ctx c).bearer ≠ some b → (s'.ctx c).state ≠ .free → (s'.ctx c).bearer = some b →
      (s.bearer (s'.ctx c).loop b).st = .free ∧ (s.loop (s'.ctx c).loop).state.carries ∧
      (s'.bearer (s'.ctx c).loop b).st = .assigning ∧
      ∀ d, d ≠ c → (s.ctx d).state = .free ∨ (s.ctx d).bearer ≠ some b → (s'.ctx d).state ≠ .free →
        (s'.ctx d).bearer = some b → (s'.ctx d).loop ≠ (s'.ctx c).loop)) ∧
  (∀ s s' : State,
    (∀ i rest, s.pending = i :: rest →
      (∀ l pos cls, i ≠ .requestReport l pos cls) ∧ ∀ l st, i ≠ .loopStateReport l st) →
    s.loopsOk → step s = .next s' → s'.loopsOk)

/-- LOOP_STATE_REPORT (R83, R85): OFF and UNPOWERED free every call of the loop with cause LOOP-POWER and FAILED with
LOOP-FAILED, a CLEARING call keeping its first cause. CLEARED with the reference goes to the trunk of every OFFERED,
CONNECTED and HELD one, as far as its queue takes it (R99), in ascending context order, which is the model's choice
(log entry 23); the acknowledgement of every one is withdrawn; dispatch follows. Every other context stands; START, RUN
and DEGRADED change nothing. A post that is in the map no more has no acknowledgement to withdraw and no bearer to
release (log entry 21), and a stopped player keeps its cursor (log entry 56). -/
def Obligations.LoopStateReportFreesTheCallsOfTheLoop : Prop :=
  (∀ (l : LoopId) (st : LoopState) (cause : Cause) (s : State),
    (st = .failed ∧ cause = .loopFailed) ∨ ((st = .off ∨ st = .unpowered) ∧ cause = .loopPower) →
    ∃ t : State, exec (.loopStateReport l st) s = .next t.dispatch ∧
      t = { s with
        contexts := t.contexts
        players := t.players
        waiting := t.waiting
        trunkA := t.trunkA
        trunkB := t.trunkB
        loops := t.loops
        marks := t.marks
        handed := t.handed } ∧
      (∀ c, (s.ctx c).state ≠ .free → (s.ctx c).loop = l →
        t.ctx c = (if (s.ctx c).state = .clearing then s.ctx c else (s.ctx c).cleared cause).freed ∧
        t.player c = { s.player c with state := .idle, programme := none, segment := none } ∧
        c ∉ t.waiting ∧ (9, c.val) ∉ t.marks ∧ (10, c.val) ∉ t.marks ∧ Withdrawn c s t ∧
        ((s.ctx c).state ≠ .clearing →
          ∀ g, (s.ctx c).hasLeg g → FreedTo (s.chan g.trunk g.chan) (t.chan g.trunk g.chan))) ∧
      (∀ c, (s.ctx c).state = .free ∨ (s.ctx c).loop ≠ l → t.ctx c = s.ctx c ∧ t.player c = s.player c ∧
        (c ∈ t.waiting ↔ c ∈ s.waiting)) ∧
      (∀ m, m ≠ l → t.loop m = s.loop m) ∧
      t.loop l = { s.loop l with map := (t.loop l).map, bearers := (t.loop l).bearers } ∧
      (t.loop l).map.map (fun e => (e.plate, e.tie)) = (s.loop l).map.map (fun e => (e.plate, e.tie)) ∧
      (∀ b, t.bearer l b =
        if ((s.bearer l b).st = .assigning ∨ (s.bearer l b).st = .live) ∧
            ∃ c, (s.ctx c).state ≠ .free ∧ (s.ctx c).state ≠ .clearing ∧ (s.ctx c).loop = l ∧
              (s.ctx c).bearer = some b ∧ (s.keyEntry c).isSome then
          ⟨.releasing, (s.bearer l b).entry⟩
        else s.bearer l b) ∧
      (∀ k, t.trunk k = { s.trunk k with
        channels := (t.trunk k).channels
        sigQueue := (s.trunk k).sigQueue ++
          ((allCtxs.filter (fun c => (s.ctx c).loop == l && s.callTrunk c == some k &&
            ((s.ctx c).state == .offered || (s.ctx c).state == .connected || (s.ctx c).state == .held))).filterMap
              (fun c => (s.ctx c).ref.map (fun g => .cleared c g cause))).take (64 - (s.trunk k).sigQueue.length) }) ∧
      (∀ k n, (∀ c, (s.ctx c).hasLeg ⟨k, n⟩ →
          (s.ctx c).state = .free ∨ (s.ctx c).state = .clearing ∨ (s.ctx c).loop ≠ l) → t.chan k n = s.chan k n) ∧
      ∃ more, t.handed = s.handed.erase (.loopStateReport l st) ++ more ∧
        ∀ i ∈ more, i = .scanPick l ∨ ∃ k, i = .faultLatch (.trunk k .sigError)) ∧
  (∀ (l : LoopId) (st : LoopState) (s : State), st = .start ∨ st = .run ∨ st = .degraded →
    exec (.loopStateReport l st) s = .next { s with handed := s.handed.erase (.loopStateReport l st) })

/-! ### Time (00_scope.md, Time) -/

/-- One frame of 125 microseconds, which is what a step does with nothing waiting (log entry 2): every running timer
comes one frame nearer to its end (R11, R14, R29, R36, R94, R97, R124), the trip filter and the open timer measure one
frame more (R31, R34), the waited time of a QUEUED or OFFERED call (R77) and the hold time of a HELD one (R105) go on
in seconds, and what runs out hands its event: these and no others join the hand-off list. That the hold time saturates
at 65535 seconds, as the waited time does, is the model's choice (log entry 25). -/
def Obligations.TickMovesEveryTimer : Prop :=
  (∀ n, (Timer.running n).tick = .running (n - 1)) ∧ Timer.stopped.tick = .stopped ∧ Timer.expired.tick = .expired ∧
  ∀ s : State,
    s.tick = { s with
      loops := s.tick.loops
      feeds := s.tick.feeds
      supply := { s.supply with restore := s.supply.restore.tick }
      contexts := s.tick.contexts
      trunkA := { s.trunkA with holdover := s.trunkA.holdover.tick }
      trunkB := { s.trunkB with holdover := s.trunkB.holdover.tick }
      handed := s.tick.handed } ∧
    (∀ l, s.tick.loop l = { s.loop l with
      scanTimer := (s.loop l).scanTimer.tick
      guard := (s.loop l).guard.tick
      pollTimer := (s.loop l).pollTimer.tick
      sweepTimer := (s.loop l).sweepTimer.tick
      reconfirmTimer := (s.loop l).reconfirmTimer.tick }) ∧
    (∀ l, s.tick.feed l = { s.feed l with
      settle := (s.feed l).settle.tick
      trip := (s.feed l).trip.map (· + 1)
      opn := match (s.feed l).opn with | .running n => .running (n + 1) | x => x }) ∧
    (∀ c, ∃ waited waitedSub holdCount holdSub, s.tick.ctx c = { s.ctx c with
        offerTimer := (s.ctx c).offerTimer.tick
        retryTimer := (s.ctx c).retryTimer.tick
        waited := waited
        waitedSub := waitedSub
        holdCount := holdCount
        holdSub := holdSub } ∧
      (if (s.ctx c).state ≠ .queued ∧ (s.ctx c).state ≠ .offered then
        waited = (s.ctx c).waited ∧ waitedSub = (s.ctx c).waitedSub
      else if (s.ctx c).waitedSub + 1 = 8000 then waited = min ((s.ctx c).waited + 1) 65535 ∧ waitedSub = 0
      else waited = (s.ctx c).waited ∧ waitedSub = (s.ctx c).waitedSub + 1) ∧
      (if (s.ctx c).state ≠ .held ∨ (s.ctx c).holdRunning = false then
        holdCount = (s.ctx c).holdCount ∧ holdSub = (s.ctx c).holdSub
      else if (s.ctx c).holdSub + 1 = 8000 then holdCount = min ((s.ctx c).holdCount + 1) 65535 ∧ holdSub = 0
      else holdCount = (s.ctx c).holdCount ∧ holdSub = (s.ctx c).holdSub + 1)) ∧
    s.handed <+: s.tick.handed ∧
    ∀ i, i ∈ s.tick.handed ↔ i ∈ s.handed ∨
      (∃ l, (i = .scanTimeout l ∧ (s.loop l).scanTimer = .running 1) ∨
        (i = .timeoutGuardEnd l ∧ (s.loop l).guard = .running 1) ∨
        (i = .pollTimerExpiry l ∧ (s.loop l).pollTimer = .running 1) ∨
        (i = .sweepTimerExpiry l ∧ (s.loop l).sweepTimer = .running 1) ∨
        (i = .reconfirmTimerExpiry l ∧ (s.loop l).reconfirmTimer = .running 1) ∨
        (i = .settleTimerExpiry l ∧ (s.feed l).settle = .running 1) ∨
        (i = .feedTrip l ∧ (s.feed l).trip = some 79) ∨
        (i = .openDetected l ∧ (s.feed l).opn = .running 15999)) ∨
      (i = .supplyRestore ∧ s.supply.restore = .running 1) ∨
      (∃ t, i = .holdoverExpiry t ∧ (s.trunk t).holdover = .running 1) ∨
      ∃ c, (i = .retryTimerExpiry c ∧ (s.ctx c).retryTimer = .running 1) ∨
        (i = .offerTimeout c ∧ (s.ctx c).offerTimer = .running 1) ∨
        (i = .holdLong c ∧ (s.ctx c).state = .held ∧ (s.ctx c).holdRunning ∧ (s.ctx c).holdNotified = false ∧
          (s.ctx c).holdSub + 1 = 8000 ∧ s.param 6 ≤ (s.ctx c).holdCount + 1)

/-! ### Routing and offers (05) -/

/-- What dispatch does with one context of the waiting list (R76, R93 to R98): a context that is not QUEUED on a LIVE
bearer with its retry timer at rest is passed over; one with every place tried is exhausted; one whose untried places
have no trunk UP is passed over with its marks kept; one whose first untried place with its trunk UP has no FREE
channel, or no room in the offer window, waits for it and is offered at no later place; one whose first such place has
both is offered there, on the lowest FREE channel, under the next offer generation. That a bearer counts as LIVE from
its report on, and a trunk as UP by the last report taken, are the model's readings (log entries 12 and 22). Places
tried under another plan do not count. A pass takes the contexts in list order. -/
def Obligations.DispatchOffersTheFirstOpenPlace : Prop :=
  (∀ s : State, s.dispatch = s.waiting.foldl State.dispatchOne s) ∧
  ∀ (c : CtxId) (s : State),
    (((s.ctx c).state ≠ .queued ∨ s.bearerLive c = false ∨ (s.ctx c).liveSeen = false ∨
        (s.ctx c).retryTimer.isRunning) → s.dispatchOne c = s) ∧
    ((s.ctx c).state = .queued → s.bearerLive c → (s.ctx c).liveSeen → (s.ctx c).retryTimer.isRunning = false →
      ∀ (tried : List Nat) (places : List Target),
        tried = (if (s.ctx c).plan = some s.plan then (s.ctx c).tried else []) →
        places = s.routeEntry s.plan (s.ctx c).zone →
        ((∀ p, 1 ≤ p → p ≤ places.length → p ∈ tried) →
          s.dispatchOne c = { s with
            contexts := (s.dispatchOne c).contexts
            handed := s.handed ++ [.noticeRaise (.routeExhausted (s.ctx c).zone)] } ∧
          (s.dispatchOne c).ctx c = { s.ctx c with
            plan := some s.plan
            tried := []
            retryTimer := .running (s.param 4 * 8000) } ∧
          ∀ d, d ≠ c → (s.dispatchOne c).ctx d = s.ctx d) ∧
        (((∃ p, 1 ≤ p ∧ p ≤ places.length ∧ p ∉ tried) ∧
            ∀ p target, 1 ≤ p → places[p - 1]? = some target → p ∉ tried → (s.trunk target.trunk).seen ≠ .up) ∨
          (∃ p target, 1 ≤ p ∧ places[p - 1]? = some target ∧ p ∉ tried ∧ (s.trunk target.trunk).seen = .up ∧
            (∀ q target', 1 ≤ q → q < p → places[q - 1]? = some target' →
              q ∈ tried ∨ (s.trunk target'.trunk).seen ≠ .up) ∧
            ((∀ n, (s.chan target.trunk n).st ≠ .free) ∨
              s.offerWindow target.trunk ≤ s.chanCount target.trunk .reserved)) →
          s.dispatchOne c = { s with contexts := (s.dispatchOne c).contexts } ∧
          (s.dispatchOne c).ctx c = { s.ctx c with plan := some s.plan, tried := tried } ∧
          ∀ d, d ≠ c → (s.dispatchOne c).ctx d = s.ctx d) ∧
        (∀ (p : Nat) (target : Target) (ch : ChanId),
          1 ≤ p → places[p - 1]? = some target → p ∉ tried → (s.trunk target.trunk).seen = .up →
          (∀ q target', 1 ≤ q → q < p → places[q - 1]? = some target' →
            q ∈ tried ∨ (s.trunk target'.trunk).seen ≠ .up) →
          (s.chan target.trunk ch).st = .free → (∀ n, n < ch → (s.chan target.trunk n).st ≠ .free) →
          s.chanCount target.trunk .reserved < s.offerWindow target.trunk →
          (s.dispatchOne c).ctx c = { s.ctx c with
            plan := some s.plan
            tried := tried
            state := .offered
            primary := some ⟨target.trunk, ch⟩
            offGen := (s.ctx c).offGen + 1
            ref := some ((s.ctx c).offGen + 1)
            target := some ⟨p, target⟩
            offerTimer := .running (target.timeout * 8000) } ∧
          (∀ d, d ≠ c → (s.dispatchOne c).ctx d = s.ctx d) ∧
          (s.dispatchOne c).chan target.trunk ch = { s.chan target.trunk ch with st := .reserved } ∧
          (∀ k n, (k, n) ≠ (target.trunk, ch) → (s.dispatchOne c).chan k n = s.chan k n) ∧
          (s.dispatchOne c).waiting = s.waiting ∧
          ToShow c .connecting s (s.dispatchOne c) ∧
          ((s.trunk target.trunk).sigQueue.length < 64 → ∃ o : OfferBody,
            ((s.dispatchOne c).trunk target.trunk).sigQueue = (s.trunk target.trunk).sigQueue ++ [.offer o] ∧
            o.ctx = c ∧ o.gen = (s.ctx c).offGen + 1 ∧ o.regGen = (s.ctx c).regGen ∧ o.cls = (s.ctx c).cls ∧
            o.group = target.group ∧ o.chan = ch ∧ o.waited = (s.ctx c).waited ∧
            o.represented = (s.ctx c).represented ∧ o.prevDesk = (s.ctx c).prevDesk ∧
            ∀ i, (s.ctx c).snapshot = some i → o.identity = i) ∧
          s.dispatchOne c = { s with
            contexts := (s.dispatchOne c).contexts
            loops := (s.dispatchOne c).loops
            trunkA := (s.dispatchOne c).trunkA
            trunkB := (s.dispatchOne c).trunkB
            handed := (s.dispatchOne c).handed }))

/-- OFFER_TIMEOUT (R109): CLEARED(reference, OFFER-TIMEOUT) is made, the call is QUEUED again in its place with its
place tried, no leg and no reference, its channel FREE, or BLOCKED where a block waits on it, and dispatch runs.
RETRY_TIMER_EXPIRY (R94): the timer stops and dispatch runs. HOLD_LONG (R105): a HELD call not yet notified raises
HOLD-LONG once. An expiry that the part has handed itself, and whose timer has since been stopped or started again, has
no effect (log entry 3). That HOLD_LONG brings the hold time up to the hold-long time where it stands below is the
model's choice (log entry 25). -/
def Obligations.ContextTimersRunOut : Prop :=
  (∀ (c : CtxId) (g : Byte) (p : CurrentTarget) (ch : ChanId) (s : State),
    (s.ctx c).state = .offered → RunsOut s (.offerTimeout c) (s.ctx c).offerTimer → (s.ctx c).ref = some g →
    (s.ctx c).target = some p → (s.ctx c).primary = some ⟨p.target.trunk, ch⟩ →
    ∃ t : State, exec (.offerTimeout c) s = .next t.dispatch ∧
      t.ctx c = { s.ctx c with
        state := .queued
        offerTimer := .stopped
        tried := p.place :: (s.ctx c).tried
        primary := none
        ref := none
        target := none } ∧
      (∀ d, d ≠ c → t.ctx d = s.ctx d) ∧
      FreedTo (s.chan p.target.trunk ch) (t.chan p.target.trunk ch) ∧
      (∀ k n, (k, n) ≠ (p.target.trunk, ch) → t.chan k n = s.chan k n) ∧
      (t.trunk p.target.trunk).sigQueue =
        (if (s.trunk p.target.trunk).sigQueue.length < 64 then
          (s.trunk p.target.trunk).sigQueue ++ [.cleared c g .offerTimeout]
        else (s.trunk p.target.trunk).sigQueue) ∧
      (t.trunk p.target.trunk.other).sigQueue = (s.trunk p.target.trunk.other).sigQueue ∧
      (∀ k, t.trunk k = { s.trunk k with channels := (t.trunk k).channels, sigQueue := (t.trunk k).sigQueue }) ∧
      ToShow c .registered s t ∧
      t = { s with
        contexts := t.contexts
        loops := t.loops
        trunkA := t.trunkA
        trunkB := t.trunkB
        handed := t.handed }) ∧
  (∀ (c : CtxId) (s : State), RunsOut s (.retryTimerExpiry c) (s.ctx c).retryTimer →
    ∃ t : State, exec (.retryTimerExpiry c) s = .next t.dispatch ∧
      t = { s with contexts := t.contexts, handed := s.handed.erase (.retryTimerExpiry c) } ∧
      t.ctx c = { s.ctx c with retryTimer := .stopped } ∧ ∀ d, d ≠ c → t.ctx d = s.ctx d) ∧
  (∀ (c : CtxId) (s : State), (s.ctx c).state = .held → (s.ctx c).holdRunning → (s.ctx c).holdNotified = false →
    (.holdLong c ∈ s.handed → s.param 6 ≤ (s.ctx c).holdCount) →
    ∃ t : State, exec (.holdLong c) s = .next t ∧
      t = { s with
        contexts := t.contexts
        handed := s.handed.erase (.holdLong c) ++ [.noticeRaise (.holdLong c)] } ∧
      t.ctx c = { s.ctx c with holdNotified := true, holdCount := max (s.ctx c).holdCount (s.param 6) } ∧
      (∀ d, d ≠ c → t.ctx d = s.ctx d) ∧
      exec (.holdLong c) t = .next { t with handed := t.handed.erase (.holdLong c) }) ∧
  (∀ (c : CtxId) (s : State),
    ((s.ctx c).state ≠ .offered ∨ ¬ RunsOut s (.offerTimeout c) (s.ctx c).offerTimer →
      exec (.offerTimeout c) s = .next { s with handed := s.handed.erase (.offerTimeout c) }) ∧
    (¬ RunsOut s (.retryTimerExpiry c) (s.ctx c).retryTimer →
      exec (.retryTimerExpiry c) s = .next { s with handed := s.handed.erase (.retryTimerExpiry c) }) ∧
    ((s.ctx c).state ≠ .held ∨ (s.ctx c).holdRunning = false ∨ (s.ctx c).holdNotified ∨
        (.holdLong c ∈ s.handed ∧ (s.ctx c).holdCount < s.param 6) →
      exec (.holdLong c) s = .next { s with handed := s.handed.erase (.holdLong c) }))

/-! ### Control requests of the desks (05) -/

/-- Every control request whose reference is not current, or that arrives on another trunk than the call's, is answered
GONE on the trunk it came on; SIG-UNKNOWN-CALL is latched there and nothing else changes (R100). The results of R101
that change nothing: each control request in each state of its table that is answered WRONG-STATE or OK without an
effect; the CONFIRM alone is made. -/
def Obligations.DeskRequestsAnsweredWithoutEffect : Prop :=
  (∀ (i : Instr) (t : Trunk) (ref : OfferRef) (code : Byte) (s : State), IsDesk i t ref code →
    (∀ c, ¬ s.current t ref c) →
    exec i s = .next (((s.take i).pushSig t (.confirm ref code .gone 0)).latch (.trunk t .sigUnknownCall))) ∧
  (∀ (i : Instr) (t : Trunk) (ref : OfferRef) (code : Byte) (c : CtxId) (s : State), IsDesk i t ref code →
    s.current t ref c →
    ((code = 0x40 ∨ code = 0x41) ∧
        ((s.ctx c).state = .connected ∨ (s.ctx c).state = .held ∨ (s.ctx c).state = .clearing) →
      exec i s = .next ((s.take i).pushSig t (.confirm ref code .wrongState 0))) ∧
    ((code = 0x42 ∨ code = 0x43 ∨ code = 0x44 ∨ code = 0x45) ∧
        ((s.ctx c).state = .offered ∨ (s.ctx c).state = .clearing) →
      exec i s = .next ((s.take i).pushSig t (.confirm ref code .wrongState 0))) ∧
    (code = 0x42 ∧ (s.ctx c).state = .held → exec i s = .next ((s.take i).pushSig t (.confirm ref code .ok 0))) ∧
    (code = 0x43 ∧ (s.ctx c).state = .connected →
      exec i s = .next ((s.take i).pushSig t (.confirm ref code .ok 0))) ∧
    (code = 0x46 ∧ (s.ctx c).state = .clearing → exec i s = .next ((s.take i).pushSig t (.confirm ref code .ok 0))))

/-- ANSWER for an OFFERED call (R102, R148): CONNECTED, the offer timer stopped, the desk recorded, the channel IN-USE,
out of the waiting list, player stopped, level monitor afresh; CONFIRM(OK), then dispatch. DECLINE for an OFFERED call
(R103): QUEUED in its place with the place tried, no leg and no reference; the channel is freed; CONFIRM(OK), then
dispatch. -/
def Obligations.AnswerAndDeclineEndTheOffer : Prop :=
  (∀ (t : Trunk) (ref : OfferRef) (desk : Byte) (c : CtxId) (g : Leg) (s : State), s.current t ref c →
    (s.ctx c).state = .offered → (s.ctx c).primary = some g →
    ∃ u : State, exec (.answer t ref desk) s = .next (u.pushSig t (.confirm ref 0x40 .ok 0)).dispatch ∧
      u = { s with
        contexts := u.contexts
        loops := u.loops
        trunkA := u.trunkA
        trunkB := u.trunkB
        players := u.players
        paths := u.paths
        waiting := s.waiting.filter (· != c)
        handed := u.handed } ∧
      u.ctx c = { s.ctx c with
        state := .connected
        offerTimer := .stopped
        desk := some desk
        lastLevel := 0
        silentRun := 0
        silentNotified := false } ∧
      u.path c = ⟨0, 0⟩ ∧ (u.player c).state = .idle ∧
      (∀ d, d ≠ c → u.ctx d = s.ctx d ∧ u.player d = s.player d ∧ u.path d = s.path d) ∧
      OnlyChannels s u ∧ u.chan g.trunk g.chan = { s.chan g.trunk g.chan with st := .inUse } ∧
      (∀ k n, g ≠ ⟨k, n⟩ → u.chan k n = s.chan k n) ∧ ToShow c .connected s u) ∧
  (∀ (t : Trunk) (ref : OfferRef) (c : CtxId) (g : Leg) (p : CurrentTarget) (s : State), s.current t ref c →
    (s.ctx c).state = .offered → (s.ctx c).primary = some g → (s.ctx c).target = some p →
    ∃ u : State, exec (.decline t ref) s = .next (u.pushSig t (.confirm ref 0x41 .ok 0)).dispatch ∧
      u = { s with
        contexts := u.contexts
        loops := u.loops
        trunkA := u.trunkA
        trunkB := u.trunkB
        handed := u.handed } ∧
      u.ctx c = { s.ctx c with
        state := .queued
        offerTimer := .stopped
        tried := p.place :: (s.ctx c).tried
        primary := none
        ref := none
        target := none } ∧
      (∀ d, d ≠ c → u.ctx d = s.ctx d) ∧
      OnlyChannels s u ∧ FreedTo (s.chan g.trunk g.chan) (u.chan g.trunk g.chan) ∧
      (∀ k n, g ≠ ⟨k, n⟩ → u.chan k n = s.chan k n) ∧ ToShow c .registered s u)

/-- HOLD for a CONNECTED call and RETRIEVE for a HELD one (R104, R148): the state, the hold timer, the player, the lamp
and the level monitor as R104 gives; the legs stay; CONFIRM(OK). A block of the monitor that was complete is judged
before the call leaves CONNECTED (log entry 4). -/
def Obligations.HoldAndRetrieveMoveTheCall : Prop :=
  ∀ (t : Trunk) (ref : OfferRef) (c : CtxId) (s : State), s.current t ref c →
    ((s.ctx c).state = .connected →
      ∃ u : State, exec (.hold t ref) s = .next (u.pushSig t (.confirm ref 0x42 .ok 0)) ∧
        u = { s with
          contexts := u.contexts
          loops := u.loops
          players := u.players
          paths := u.paths
          handed := u.handed } ∧
        u.path c = (s.catchBlock c).path c ∧
        u.ctx c = { (s.catchBlock c).ctx c with
          state := .held
          holdNotified := false
          holdRunning := true
          holdCount := 0
          holdSub := 0 } ∧
        Started c .hold s u ∧ ToShow c .hold s u ∧
        ∀ d, d ≠ c → u.ctx d = s.ctx d ∧ u.player d = s.player d ∧ u.path d = s.path d) ∧
    ((s.ctx c).state = .held →
      ∃ u : State, exec (.retrieve t ref) s = .next (u.pushSig t (.confirm ref 0x43 .ok 0)) ∧
        u = { s with
          contexts := u.contexts
          loops := u.loops
          players := u.players
          paths := u.paths
          handed := u.handed } ∧
        u.ctx c = { s.ctx c with
          state := .connected
          holdRunning := false
          lastLevel := 0
          silentRun := 0
          silentNotified := false } ∧
        u.path c = ⟨0, 0⟩ ∧ (u.player c).state = .idle ∧ ToShow c .connected s u ∧
        ∀ d, d ≠ c → u.ctx d = s.ctx d ∧ u.player d = s.player d ∧ u.path d = s.path d)

/-- JOIN and LEAVE for a CONNECTED or HELD call (R106, R107): JOIN takes the lowest FREE channel of the primary leg's
trunk IN-USE as second leg, and is WRONG-STATE with a second leg or no FREE channel; LEAVE frees the second leg and
runs dispatch, and is WRONG-STATE without one. -/
def Obligations.JoinAndLeaveMoveTheSecondLeg : Prop :=
  ∀ (t : Trunk) (ref : OfferRef) (c : CtxId) (g : Leg) (s : State), s.current t ref c →
    (s.ctx c).state = .connected ∨ (s.ctx c).state = .held → (s.ctx c).primary = some g →
    ((s.ctx c).second = none →
      (∀ n, (s.chan g.trunk n).st = .free → (∀ m, m < n → (s.chan g.trunk m).st ≠ .free) →
        ∃ u : State, exec (.join t ref) s = .next (u.pushSig t (.confirm ref 0x44 .ok (n.val + 1))) ∧
          u = { s with
            contexts := u.contexts
            trunkA := u.trunkA
            trunkB := u.trunkB
            handed := s.handed.erase (.join t ref) } ∧
          u.ctx c = { s.ctx c with second := some ⟨g.trunk, n⟩ } ∧ (∀ d, d ≠ c → u.ctx d = s.ctx d) ∧
          OnlyChannels s u ∧ u.chan g.trunk n = { s.chan g.trunk n with st := .inUse } ∧
          ∀ k m, (k, m) ≠ (g.trunk, n) → u.chan k m = s.chan k m) ∧
      ((∀ n, (s.chan g.trunk n).st ≠ .free) →
        exec (.join t ref) s = .next ((s.take (.join t ref)).pushSig t (.confirm ref 0x44 .wrongState 0))) ∧
      exec (.leave t ref) s = .next ((s.take (.leave t ref)).pushSig t (.confirm ref 0x45 .wrongState 0))) ∧
    (∀ h, (s.ctx c).second = some h →
      exec (.join t ref) s = .next ((s.take (.join t ref)).pushSig t (.confirm ref 0x44 .wrongState 0)) ∧
      ∃ u : State, exec (.leave t ref) s = .next (u.pushSig t (.confirm ref 0x45 .ok 0)).dispatch ∧
        u = { s with
          contexts := u.contexts
          trunkA := u.trunkA
          trunkB := u.trunkB
          handed := s.handed.erase (.leave t ref) } ∧
        u.ctx c = { s.ctx c with second := none } ∧ (∀ d, d ≠ c → u.ctx d = s.ctx d) ∧
        OnlyChannels s u ∧ FreedTo (s.chan h.trunk h.chan) (u.chan h.trunk h.chan) ∧
        ∀ k m, h ≠ ⟨k, m⟩ → u.chan k m = s.chan k m)

/-! ### Order, channels and marks (04, 06, 10) -/

/-- Every step keeps the waiting list in the order of R74, the channel accounting of R132 in the contexts and the
pools, and the pending notices in the order of rank and index, with none for a FREE context (R181, R183, R185). Each
has for premise the invariant above that it rests on. -/
def Obligations.EveryStepKeepsTheOrderTheChannelsAndTheMarks : Prop :=
  (∀ s s' : State, s.waitingOk → s.waitingSorted → step s = .next s' → s'.waitingSorted) ∧
  (∀ s s' : State, s.contextsOk → s.channelsOk → step s = .next s' → s'.channelsOk) ∧
  (∀ s s' : State, s.marksOk → step s = .next s' → s'.marksOk)

/-- Every step keeps the law of R114, and the same for an OFFERED call: the primary leg of every call is on a trunk in
UP or HOLDOVER; and a trunk that the call manager takes for UP, or is to take for UP at a report still to come, is in
one of the two (R121). No command from outside stands for a trunk state report, which the trunk interfaces alone make.
That the contexts agree with their states is a premise. -/
def Obligations.EveryStepKeepsTheTrunksOfTheCalls : Prop :=
  ∀ s s' : State, (∀ t st rest, s.pending ≠ .trunkStateReport t st :: rest) → s.contextsOk → s.servedOk →
    step s = .next s' → s'.servedOk

/-- Every step keeps the law of R97, of which R71, R102 and R114 speak too: an OFFERED, CONNECTED or HELD context holds
a LIVE bearer, tied to the entry its post stands in, and a QUEUED one that holds a bearer holds it so in ASSIGNING or
LIVE. A loop that leaves RUN and DEGRADED, or a rebuild, takes the bearer at once, and the call is released when the
report of it is taken: until then the bearer may be gone. No command from outside stands for a rebuild report, which
the loop controllers alone make. One call per post is a premise. That a post is followed through the rebuild reports
still to be taken is read into R69 and R84 (DEDUCED, log entry 21; for the reports of a loop the model's choice, log
entry 55). -/
def Obligations.EveryStepKeepsTheBearersOfTheCalls : Prop :=
  ∀ s s' : State, (∀ l epoch passes freed rest, s.pending ≠ .rebuildReport l epoch passes freed :: rest) →
    s.contextsOk → s.postsOk → s.bearersOk → step s = .next s' → s'.bearersOk

/-- A message for a trunk joins its queue, in the order made, while it holds fewer than 64, the one being sent counted,
which is the model's choice (log entry 69); at 64 it is not queued and SIG-ERROR is latched (R99), and its bytes have
the layout of R193; a signalling message that is discarded latches SIG-ERROR and changes nothing else (R100);
SERVICE_MESSAGE_DISCARD (R161) latches its flag of the section record and changes nothing else, one of the part's own
types both UNKNOWN-TYPE, as R161 says, and SIG-ERROR of its trunk, as R192 does: the model's reading of the two (log
entry 57); FAULT_LATCH (R177) sets a clear flag and advances the change count, wrapping, raising POST-FAULT for a post
record and NAMING for OVERLONG, and does nothing to a flag already latched. A raise at a latch from clear alone is read
into R177 (DEDUCED, log entry 34). That a message joins the queue of a trunk in any state is read from R99 (DEDUCED,
log entry 36). -/
def Obligations.DiscardsQueuesAndLatches : Prop :=
  (∀ (ref : OfferRef) (request : Byte) (result : DeskResult) (chan : Nat),
    (SigMsg.confirm ref request result chan).bytes = frameMsg 0x51 [ref.ctx, ref.gen, request,
      match result with | .ok => 0 | .gone => 1 | .wrongState => 2, byte chan]) ∧
  (∀ (c : CtxId) (gen : Byte) (cause : Cause), (SigMsg.cleared c gen cause).bytes = frameMsg 0x52 [byte c.val, gen,
    match cause with
      | .caller => 1 | .offerTimeout => 2 | .loopPower => 3 | .loopFailed => 4 | .postLost => 5 | .directory => 6
      | .desk => 7 | .restart => 8 | .sectionRestart => 9]) ∧
  (∀ o : OfferBody, (SigMsg.offer o).bytes = frameMsg 0x50 ([byte o.ctx.val, o.gen, byte o.ctx.val, o.regGen,
    match o.cls with | .emergency => 1 | .breakdown => 2 | .service => 3, byte o.group, byte (o.chan.val + 1),
    byte (o.waited / 256), byte o.waited, byte o.represented] ++
    (match o.prevDesk with | some d => [1, d] | none => [0, 0]) ++ o.identity.bytes)) ∧
  (∀ (t : Trunk) (m : SigMsg) (s : State), (s.trunk t).sigQueue.length < 64 →
    ((s.pushSig t m).trunk t) = { s.trunk t with sigQueue := (s.trunk t).sigQueue ++ [m] } ∧
    (s.pushSig t m).trunk t.other = s.trunk t.other ∧
    s.pushSig t m = { s with trunkA := (s.pushSig t m).trunkA, trunkB := (s.pushSig t m).trunkB }) ∧
  (∀ (t : Trunk) (m : SigMsg) (s : State), 64 ≤ (s.trunk t).sigQueue.length →
    s.pushSig t m = { s with handed := s.handed ++ [.faultLatch (.trunk t .sigError)] }) ∧
  (∀ (t : Trunk) (s : State), exec (.signallingMessageDiscard t) s =
    .next { s with
      handed := s.handed.erase (.signallingMessageDiscard t) ++ [.faultLatch (.trunk t .sigError)] }) ∧
  (∀ (t : Trunk) (why : Discard) (s : State), exec (.serviceMessageDiscard t why) s =
    .next { s with
      handed := s.handed.erase (.serviceMessageDiscard t why) ++ (match why with
        | .badCheck => [.faultLatch (.sect .badCheck)]
        | .badLength => [.faultLatch (.sect .badLength)]
        | .unknownType => [.faultLatch (.sect .unknownType)]
        | .ownType => [.faultLatch (.sect .unknownType), .faultLatch (.trunk t .sigError)]) }) ∧
  (∀ (x : Latch) (s : State), (s.faultOf x).flags.getLsbD x.bit →
    exec (.faultLatch x) s = .next { s with handed := s.handed.erase (.faultLatch x) }) ∧
  (∀ (x : Latch) (s : State), (s.faultOf x).flags.getLsbD x.bit = false →
    ∃ u : State, exec (.faultLatch x) s = .next u ∧
      u = { s with
        sectionFault := u.sectionFault
        trunkFaultA := u.trunkFaultA
        trunkFaultB := u.trunkFaultB
        loopFaults := u.loopFaults
        postFaults := u.postFaults
        handed := s.handed.erase (.faultLatch x) ++ (match x with
          | .post q _ => [.noticeRaise (.postFault q)]
          | .loop l .overlong => [.noticeRaise (.naming l)]
          | _ => []) } ∧
      (u.faultOf x).count = (s.faultOf x).count + 1 ∧
      (∀ k, k < 16 → (u.faultOf x).flags.getLsbD k = ((s.faultOf x).flags.getLsbD k || k == x.bit)) ∧
      ∀ r : RecRef, r ≠ x.recordRef → u.recordAt r = s.recordAt r)

/-! ### Trunks (06) -/

/-- TRUNK_FRAME_SEND (R116, R127, R129, R130): alignment word and housekeeping byte alternate, the alarm bit set while
the trunk is OFF or unaligned; slot 1 is the next byte of the message the service transmitter sends, a waiting REPLY
starting where it sends nothing, or idle fill, and after the last byte of a NOTICE the waiting REPLY is started or, on
the home trunk, the notice unit chooses (R164, R183); slot 2 the next signalling byte or idle fill, with none between
two queued messages, which is the model's choice (log entry 65); each IN-USE channel the code last written for it, which
is the model's choice in frames in which its context takes no sample (log entry 74), every other 0x00. One
frame is read from the elastic store: the oldest unread one, or, with none unread, the last one read again, which
counts as a slip unless the trunk is OFF; its bytes go to the service receiver, to the signalling receiver unless the
trunk is OFF, and to the IN-USE channels. While the trunk is unaligned idle fill and 0x00 are delivered (R129); that
they are delivered also while the trunk is aligned and its store has not yet begun to be read (log entry 11), and that
a channel become IN-USE delivers the last code until the next frame (log entry 68), are the model's choices. The notice
unit's choice is handed as NOTICE_START, the model's choice too (log entry 71). The other trunk and all else stay. A
loss of alignment or an end of the alarm that is due is carried out first: the model's choice (log entry 4). -/
def Obligations.TrunkFrameSendFillsTheSlots : Prop :=
  (∀ (t : Trunk) (s : State), ((s.trunk t).aligned → (s.trunk t).badWords < 4) → (s.trunk t).clearRun < 8 →
    ∃ (u : State) (got : List Byte) (slip : Bool) (sending : List Instr),
      exec (.trunkFrameSend t) s = .next u ∧ OnlyTrunk t s u ∧
      (u.trunk t).sent.length = 18 ∧
      (u.trunk t).sent[0]? = some (if (s.trunk t).txEven then 0x1B
        else if (s.trunk t).state = .off ∨ (s.trunk t).aligned = false then 0xD5 else 0x95) ∧
      (u.trunk t).txEven = !(s.trunk t).txEven ∧
      ((s.service t).tx = .idle → (s.service t).reply = none →
        (u.trunk t).sent[1]? = some 0xFF ∧ (u.service t).tx = .idle ∧ sending = []) ∧
      (∀ b rest, (s.service t).tx = .notice (b :: rest) → (u.trunk t).sent[1]? = some b ∧
        (u.service t).tx = (if rest = [] then .idle else .notice rest) ∧
        sending =
          if rest ≠ [] then []
          else if (s.service t).reply ≠ none then (if .replyStart t ∈ s.handed then [] else [.replyStart t])
          else if s.home = t ∧ .noticeStart ∉ s.handed then [.noticeStart] else []) ∧
      (∀ r b rest, (s.service t).tx = .idle → (s.service t).reply = some r → r.bytes = b :: rest →
        (u.trunk t).sent[1]? = some b ∧ (u.service t).tx = .reply rest ∧ (u.service t).reply = none ∧
        sending = if rest = [] then [.replyComplete t] else []) ∧
      ((s.service t).tx ≠ .idle → (u.service t).reply = (s.service t).reply) ∧
      ((s.service t).tx = .reply [] →
        (u.trunk t).sent[1]? = some 0xFF ∧ (u.service t).tx = .reply [] ∧ sending = []) ∧
      (∀ b rest, (s.service t).tx = .reply (b :: rest) → (u.trunk t).sent[1]? = some b ∧
        (u.service t).tx = .reply rest ∧ sending = if rest = [] then [.replyComplete t] else []) ∧
      ((s.trunk t).state = .off ∨ (s.trunk t).sigQueue = [] → (u.trunk t).sent[2]? = some 0xFF) ∧
      (∀ m rest b, (s.trunk t).state ≠ .off → (s.trunk t).sigQueue = m :: rest →
        m.bytes[(s.trunk t).sigSent]? = some b → (u.trunk t).sent[2]? = some b ∧
          if (s.trunk t).sigSent + 1 < m.bytes.length then
            (u.trunk t).sigQueue = m :: rest ∧ (u.trunk t).sigSent = (s.trunk t).sigSent + 1
          else (u.trunk t).sigQueue = rest ∧ (u.trunk t).sigSent = 0) ∧
      (∀ n : ChanId, (u.trunk t).sent[n.val + 3]? =
        some (if (s.chan t n).st = .inUse then (s.chan t n).code else 0x00)) ∧
      (∀ n, u.chan t n = s.chan t n) ∧ (u.trunk t).state = (s.trunk t).state ∧
      ((s.trunk t).aligned = false ∨ (s.trunk t).reading = false →
        got = 0xFF :: 0xFF :: List.replicate 15 0x00 ∧ slip = false ∧ (u.trunk t).store = (s.trunk t).store) ∧
      ((s.trunk t).aligned → (s.trunk t).reading → ∀ f rest, (s.trunk t).store = f :: rest →
        got = f ∧ slip = false ∧ (u.trunk t).store = rest ∧ (u.trunk t).lastFrame = f) ∧
      ((s.trunk t).aligned → (s.trunk t).reading → (s.trunk t).store = [] →
        got = (s.trunk t).lastFrame ∧ slip = ((s.trunk t).state != .off) ∧ (u.trunk t).store = []) ∧
      (u.trunk t).slips = (if slip then min ((s.trunk t).slips + 1) 255 else (s.trunk t).slips) ∧
      (∀ n : ChanId, (u.trunk t).voice[n] = if (s.chan t n).st = .inUse then got.getD (n.val + 2) 0x00 else 0x00) ∧
      (u.service t).rx = ((s.service t).rx.step (got.headD 0xFF)).1 ∧
      (u.trunk t).sigRx =
        (if (s.trunk t).state = .off then (s.trunk t).sigRx
        else ((s.trunk t).sigRx.step ((got.drop 1).headD 0xFF)).1) ∧
      u.handed = s.handed.erase (.trunkFrameSend t) ++ sending ++
        (if slip then [.faultLatch (.trunk t .slip)] else []) ++
        (match ((s.service t).rx.step (got.headD 0xFF)).2 with
          | .quiet => []
          | .badLength => [.serviceMessageDiscard t .badLength]
          | .message m => [serviceEvent t m]) ++
        (if (s.trunk t).state = .off then []
        else match ((s.trunk t).sigRx.step ((got.drop 1).headD 0xFF)).2 with
          | .quiet => []
          | .badLength => [.signallingMessageDiscard t]
          | .message m => [signallingEvent t m])) ∧
  ∀ (t : Trunk) (s u : State),
    ((s.trunk t).aligned → 4 ≤ (s.trunk t).badWords → exec (.alignmentLost t) s = .next u →
      exec (.trunkFrameSend t) s = exec (.trunkFrameSend t) u) ∧
    ((s.trunk t).aligned = false ∨ (s.trunk t).badWords < 4 → 8 ≤ (s.trunk t).clearRun →
      exec (.farAlarmAbsent t) s = .next u → exec (.trunkFrameSend t) s = exec (.trunkFrameSend t) u)

/-- TRUNK_FRAME_RECEIVE of one whole frame on an aligned trunk (R118, R119, R123, R127): slot 0 of an even frame moves
the bad-word count, the fourth bad word in a row handing ALIGNMENT_LOST in place of storing the frame; slot 0 of an odd
frame moves the alarm indication and its clear run, which goes back to 0 at the eighth clean byte; every other frame
goes into the elastic store, the oldest of two unread frames giving way and counting as a slip, and is there to be read
from then on. An alarm that becomes present in UP is a trunk fault, unless a failover is due (log entry 13); otherwise
the trunk keeps its state. Nothing else of the interface or of its service channel changes. That the loss of alignment
and the end of the alarm wait for their own commands, so that the trunk is still aligned after the fourth bad word and
the alarm still present after the eighth clean byte, is the model's choice (log entry 4). -/
def Obligations.AlignedTrunkTakesAFrame : Prop :=
  ∀ (t : Trunk) (b : Byte) (slots : List Byte) (s : State), slots.length = 17 →
    (s.trunk t).aligned → (s.trunk t).rxBuf = [] → (s.trunk t).badWords < 4 → (s.trunk t).clearRun < 8 →
    ∃ u : State, exec (.trunkFrameReceive t (b :: slots)) s = .next u ∧ OnlyTrunk t s u ∧
      u.trunk t = { s.trunk t with
        state := (u.trunk t).state
        holdover := (u.trunk t).holdover
        failoverDue := (u.trunk t).failoverDue
        evenNext := !(s.trunk t).evenNext
        badWords := (u.trunk t).badWords
        alarm := (u.trunk t).alarm
        clearRun := (u.trunk t).clearRun
        store := (u.trunk t).store
        reading := (u.trunk t).reading
        slips := (u.trunk t).slips } ∧
      (u.trunk t).aligned ∧ u.service t = s.service t ∧
      ((s.trunk t).evenNext ∨ b ≠ 0xD5 ∨ (s.trunk t).alarm ∨ (s.trunk t).state ≠ .up ∨ (s.trunk t).failoverDue →
        (u.trunk t).state = (s.trunk t).state ∧ (u.trunk t).holdover = (s.trunk t).holdover ∧
        (u.trunk t).failoverDue = (s.trunk t).failoverDue) ∧
      ((s.trunk t).evenNext → (u.trunk t).alarm = (s.trunk t).alarm ∧ (u.trunk t).clearRun = (s.trunk t).clearRun) ∧
      ((s.trunk t).evenNext = false → (u.trunk t).badWords = (s.trunk t).badWords) ∧
      ((s.trunk t).evenNext → (u.trunk t).badWords = if b = 0x1B then 0 else (s.trunk t).badWords + 1) ∧
      ((s.trunk t).evenNext → b ≠ 0x1B → (s.trunk t).badWords = 3 →
        .alignmentLost t ∈ u.handed ∧ (u.trunk t).store = (s.trunk t).store ∧
        (u.trunk t).reading = (s.trunk t).reading ∧ (u.trunk t).slips = (s.trunk t).slips) ∧
      ((s.trunk t).evenNext = false ∨ b = 0x1B ∨ (s.trunk t).badWords < 3 →
        (u.trunk t).store = (if 2 ≤ (s.trunk t).store.length then (s.trunk t).store.drop 1 else (s.trunk t).store) ++
          [slots] ∧
        (u.trunk t).reading ∧
        (u.trunk t).slips = (if 2 ≤ (s.trunk t).store.length ∧ (u.trunk t).state ≠ .off then
          min ((s.trunk t).slips + 1) 255 else (s.trunk t).slips)) ∧
      ((s.trunk t).evenNext = false → b = 0xD5 → (u.trunk t).alarm ∧ (u.trunk t).clearRun = 0 ∧
        ((s.trunk t).alarm = false → (s.trunk t).state ≠ .off → .faultLatch (.trunk t .farAlarm) ∈ u.handed) ∧
        ((s.trunk t).alarm = false → (s.trunk t).state = .up → (s.trunk t).failoverDue = false →
          TrunkFaulted t s u)) ∧
      ((s.trunk t).evenNext = false → b = 0x95 → (s.trunk t).alarm →
        (u.trunk t).alarm ∧ (u.trunk t).clearRun = (s.trunk t).clearRun + 1 ∧
        ((s.trunk t).clearRun = 7 → .farAlarmAbsent t ∈ u.handed)) ∧
      ((s.trunk t).evenNext = false → b = 0x95 → (s.trunk t).alarm = false →
        (u.trunk t).alarm = false ∧ (u.trunk t).state = (s.trunk t).state ∧
        (u.trunk t).clearRun = if (s.trunk t).clearRun = 7 then 0 else (s.trunk t).clearRun + 1) ∧
      ((s.trunk t).evenNext = false → b ≠ 0x95 → b ≠ 0xD5 →
        (u.trunk t).alarm = (s.trunk t).alarm ∧ (u.trunk t).clearRun = 0)

/-- The search of R117 over the received bits, bit 7 of a byte first (R187): the first position at which the alignment
word stands, with a good housekeeping byte one frame later and the alignment word again two frames later, aligns the
receive side, and the frame that carries the second word is the first of an elastic store started afresh, to be read
from then on (R127); an alarm that the housekeeping byte brings latches FAR-ALARM unless the trunk is OFF; in HUNT the
trunk enters UP, or FAR-FAULT where the alarm is present, be it brought by the housekeeping byte (R119, R122); in
HOLDOVER it enters UP with the holdover timer stopped, or stays with the timer running on where the alarm is present
(R124); in the other states it stays. A change is reported and raises TRUNK-STATE (R121). While a failover is due the
trunk keeps its state (log entry 13). Nothing else of the interface or of its service channel changes. A stream without
the alignment word stays unaligned, and of it the last seven bits are kept. That "every position" is every bit position
is read from R187 (DEDUCED, log entry 10). -/
def Obligations.SearchAlignsOnTwoWordsAndAHousekeepingByte : Prop :=
  (∀ (t : Trunk) (hk : Byte) (f1 f2 f3 received : List Byte) (before after : List Bool) (s : State),
    f1.length = 17 → f2.length = 17 → f3.length = 17 → hk = 0x95 ∨ hk = 0xD5 →
    (s.trunk t).aligned = false → (s.trunk t).clearRun = 0 →
    (s.trunk t).rxBuf ++ streamBits received =
      before ++ streamBits (0x1B :: f1 ++ hk :: f2 ++ 0x1B :: f3) ++ after →
    after.length < 144 →
    (∀ k, k < before.length → ∀ bits, bits = ((s.trunk t).rxBuf ++ streamBits received).drop k →
      bits.take 8 ≠ streamBits [0x1B] ∨
      ((bits.drop 144).take 8 ≠ streamBits [0x95] ∧ (bits.drop 144).take 8 ≠ streamBits [0xD5]) ∨
      (bits.drop 288).take 8 ≠ streamBits [0x1B]) →
    ∃ u : State, exec (.trunkFrameReceive t received) s = .next u ∧ OnlyTrunk t s u ∧
      u.trunk t = { s.trunk t with
        state := (u.trunk t).state
        holdover := (u.trunk t).holdover
        aligned := true
        evenNext := false
        badWords := 0
        rxBuf := after
        alarm := (u.trunk t).alarm
        clearRun := if hk = 0xD5 then 0 else 1
        store := [f3]
        reading := true } ∧
      u.service t = s.service t ∧ (hk = 0xD5 → (u.trunk t).alarm) ∧
      (hk = 0xD5 → (s.trunk t).alarm = false → (s.trunk t).state ≠ .off → .faultLatch (.trunk t .farAlarm) ∈ u.handed) ∧
      (hk = 0x95 → (u.trunk t).alarm = (s.trunk t).alarm) ∧
      (u.trunk t).state =
        (if (s.trunk t).failoverDue then (s.trunk t).state
        else if (s.trunk t).state = .hunt then (if hk = 0xD5 ∨ (s.trunk t).alarm then .farFault else .up)
        else if (s.trunk t).state = .holdover ∧ hk = 0x95 ∧ (s.trunk t).alarm = false then .up
        else (s.trunk t).state) ∧
      (u.trunk t).holdover =
        (if (s.trunk t).failoverDue = false ∧ (s.trunk t).state = .holdover ∧ hk = 0x95 ∧ (s.trunk t).alarm = false
        then .stopped else (s.trunk t).holdover) ∧
      ((u.trunk t).state ≠ (s.trunk t).state →
        .trunkStateReport t (u.trunk t).state ∈ u.handed ∧ .noticeRaise (.trunkState t) ∈ u.handed)) ∧
  (∀ (t : Trunk) (received : List Byte) (bits : List Bool) (s : State), (s.trunk t).aligned = false →
    (s.trunk t).clearRun < 8 → bits = (s.trunk t).rxBuf ++ streamBits received →
    (∀ k, (bits.drop k).take 8 ≠ streamBits [0x1B]) →
    ∃ u : State, exec (.trunkFrameReceive t received) s = .next u ∧ OnlyTrunk t s u ∧
      u.handed = s.handed.erase (.trunkFrameReceive t received) ∧ u.service t = s.service t ∧
      u.trunk t = { s.trunk t with rxBuf := bits.drop (bits.length - 7) })

/-- ALIGNMENT_LOST and FAR_ALARM_ABSENT (R118, R119, R123 to R126): the loss empties the store, which is not read from
then on (R127), zeroes the clear run, drops the messages partly received, latches ALIGN-LOST unless OFF, and is a trunk
fault in UP and HUNT in FAR-FAULT; the end of the alarm takes FAR-FAULT to UP, and HOLDOVER to UP with its timer stopped
while aligned. HOLDOVER_EXPIRY and TRUNK_STATE_REPORT (R111, R121, R124): the expiry latches HOLDOVER-EXPIRED and hands
failover to the call manager, the trunk waiting in HOLDOVER for it; an expiry that the part has handed itself, and whose
timer has since been stopped or started again, has no effect (log entry 3); a reported state is what resolution sees
from then on, and UP runs dispatch. While a failover is due the trunk keeps its state (log entry 13), and `seen`, the
last state reported, is what the call manager goes by (log entry 12). -/
def Obligations.AlignmentAlarmAndHoldoverMoveTheTrunk : Prop :=
  (∀ (t : Trunk) (s : State), (s.trunk t).aligned → 4 ≤ (s.trunk t).badWords →
    ∃ u : State, exec (.alignmentLost t) s = .next u ∧ OnlyTrunk t s u ∧
      u.trunk t = { s.trunk t with
        state := (u.trunk t).state
        holdover := (u.trunk t).holdover
        failoverDue := (u.trunk t).failoverDue
        aligned := false
        badWords := 0
        clearRun := 0
        store := []
        reading := false
        sigRx := .hunting } ∧
      u.service t = { s.service t with rx := .hunting } ∧
      ((s.trunk t).failoverDue ∨ ((s.trunk t).state ≠ .up ∧ (s.trunk t).state ≠ .farFault) →
        (u.trunk t).state = (s.trunk t).state ∧ (u.trunk t).holdover = (s.trunk t).holdover ∧
        (u.trunk t).failoverDue = (s.trunk t).failoverDue) ∧
      ((s.trunk t).state ≠ .off → .faultLatch (.trunk t .alignLost) ∈ u.handed) ∧
      ((s.trunk t).failoverDue = false → (s.trunk t).state = .up → TrunkFaulted t s u) ∧
      ((s.trunk t).failoverDue = false → (s.trunk t).state = .farFault → (u.trunk t).state = .hunt ∧
        .trunkStateReport t .hunt ∈ u.handed ∧ .noticeRaise (.trunkState t) ∈ u.handed)) ∧
  (∀ (t : Trunk) (s : State), 8 ≤ (s.trunk t).clearRun →
    ∃ u : State, exec (.farAlarmAbsent t) s = .next u ∧ OnlyTrunk t s u ∧
      u.trunk t = { s.trunk t with
        state := (u.trunk t).state
        holdover := (u.trunk t).holdover
        alarm := false
        clearRun := 0 } ∧
      u.service t = s.service t ∧
      ((s.trunk t).failoverDue → (u.trunk t).state = (s.trunk t).state) ∧
      ((s.trunk t).failoverDue ∨ (s.trunk t).state ≠ .holdover ∨ (s.trunk t).aligned = false →
        (u.trunk t).holdover = (s.trunk t).holdover) ∧
      ((s.trunk t).failoverDue = false →
        (u.trunk t).state =
          (if (s.trunk t).state = .farFault ∨ ((s.trunk t).state = .holdover ∧ (s.trunk t).aligned) then .up
           else (s.trunk t).state) ∧
        ((s.trunk t).state = .holdover → (s.trunk t).aligned → (u.trunk t).holdover = .stopped) ∧
        ((u.trunk t).state ≠ (s.trunk t).state →
          .trunkStateReport t .up ∈ u.handed ∧ .noticeRaise (.trunkState t) ∈ u.handed))) ∧
  (∀ (t : Trunk) (s : State), (s.trunk t).state = .holdover → RunsOut s (.holdoverExpiry t) (s.trunk t).holdover →
    (s.trunk t).failoverDue = false →
    ∃ u : State, exec (.holdoverExpiry t) s = .next u ∧ OnlyTrunk t s u ∧
      u.trunk t = { s.trunk t with holdover := .expired, failoverDue := true } ∧ u.service t = s.service t ∧
      u.handed = s.handed.erase (.holdoverExpiry t) ++
        [.faultLatch (.trunk t .holdoverExpired), .failover t]) ∧
  (∀ (t : Trunk) (s : State),
    (s.trunk t).state ≠ .holdover ∨ ¬ RunsOut s (.holdoverExpiry t) (s.trunk t).holdover ∨ (s.trunk t).failoverDue →
    exec (.holdoverExpiry t) s = .next { s with handed := s.handed.erase (.holdoverExpiry t) }) ∧
  (∀ (t : Trunk) (st : TrunkState) (s : State), ∃ u : State,
    exec (.trunkStateReport t st) s = .next (if st = .up then u.dispatch else u) ∧ OnlyTrunk t s u ∧
      u.trunk t = { s.trunk t with seen := st } ∧ u.service t = s.service t ∧
      u.handed = s.handed.erase (.trunkStateReport t st))

/-- FAILOVER (R112 to R114, R124, R132): the trunk's queue is emptied, a message of which bytes have gone with it,
which is the model's choice (log entry 69); an OFFERED call of the trunk is QUEUED again, or offered on the other
trunk; a CONNECTED or HELD one is re-presented, its desk the previous desk, its count increased to at most 3; every
RESERVED and IN-USE channel is freed; none of these calls comes back to this trunk in the dispatch that follows; calls
that are CONNECTED, HELD or CLEARING elsewhere stand; the trunk enters the state its receive side calls for. The report
and the TRUNK-STATE notice go out also where that is the UP it never left, which is the model's choice (log entry 47);
the trunk's earlier reports are taken first (DEDUCED, log entry 12); that a failover is due until it is carried out,
and has no effect when none is due, is log entry 13. -/
def Obligations.FailoverMovesTheCallsOfTheTrunk : Prop :=
  (∀ (t : Trunk) (s : State), (s.trunk t).failoverDue →
    ∃ u : State, exec (.failover t) s = .next u ∧
      (u.trunk t).state =
        (if (s.trunk t).aligned = false then .hunt else if (s.trunk t).alarm then .farFault else .up) ∧
      FailedOver t s u) ∧
  ∀ (t : Trunk) (s : State), (s.trunk t).failoverDue = false →
    exec (.failover t) s = .next { s with handed := s.handed.erase (.failover t) }

/-- TRUNK-CONTROL BLOCK and UNBLOCK (R131, R173): the table of R131 by channel state and block mark, with a REPLY of OK;
UNBLOCK of a BLOCKED channel runs dispatch; a trunk code or a channel out of range is refused with BAD-INDEX. ENABLE and
DISABLE (R132, R133, R173): ENABLE of a trunk in OFF enters HUNT with the receive side searching afresh, the elastic
store empty and not read, the alarm absent and both receivers hunting (R127, R161), and changes nothing in any other
state; DISABLE moves the trunk's calls, offered, connected and held, empties its queue, frees its channels, those with a
block mark becoming BLOCKED (R113, R114, R132), and enters OFF; in OFF the trunk interface changes nothing (R133), and
the failover that R112 has a DISABLE run whatever the trunk's state empties the queue and, with no call on the trunk,
does nothing more than dispatch: read from the two rules (DEDUCED, log entry 64). A message partly sent goes with the
queue: the model's choice (log entry 69). A failover still due at a DISABLE is not carried out a second time: the
model's choice (log entry 67). A refused request has no body (log entry 26); a DISABLE takes the reports handed before
it first (log entry 12); the rows of ENABLE and DISABLE keep no channel (log entry 28). -/
def Obligations.TrunkControlFollowsItsTables : Prop :=
  (∀ (t k : Trunk) (n : ChanId) (s : State), (s.service t).executing = none →
    ∃ d u : State, exec (.trunkControlBlock t k.code (n.val + 1)) s = .next u ∧
      Replied t (.trunkControl k.code 2 (n.val + 1)) .ok [] d u ∧
      d = ((s.asked (.trunkControlBlock t k.code (n.val + 1)) t).setChan k n
        (match (s.chan k n).st with
          | .free => { s.chan k n with st := .blocked }
          | .blocked => s.chan k n
          | _ => { s.chan k n with mark := true }))) ∧
  (∀ (t k : Trunk) (n : ChanId) (s : State), (s.service t).executing = none →
    ∃ d u : State, exec (.trunkControlUnblock t k.code (n.val + 1)) s = .next u ∧
      Replied t (.trunkControl k.code 3 (n.val + 1)) .ok [] d u ∧
      d = (match (s.chan k n).st with
        | .free => s.asked (.trunkControlUnblock t k.code (n.val + 1)) t
        | .blocked =>
          ((s.asked (.trunkControlUnblock t k.code (n.val + 1)) t).setChan k n
            { s.chan k n with st := .free }).dispatch
        | _ => (s.asked (.trunkControlUnblock t k.code (n.val + 1)) t).setChan k n
            { s.chan k n with mark := false })) ∧
  (∀ (t : Trunk) (k ch : Nat) (s : State), (s.service t).executing = none → 2 ≤ k ∨ ch = 0 ∨ 16 ≤ ch →
    (∃ u : State, exec (.trunkControlBlock t k ch) s = .next u ∧
      Replied t (.trunkControl k 2 ch) .badIndex [] (s.asked (.trunkControlBlock t k ch) t) u) ∧
    ∃ u : State, exec (.trunkControlUnblock t k ch) s = .next u ∧
      Replied t (.trunkControl k 3 ch) .badIndex [] (s.asked (.trunkControlUnblock t k ch) t) u) ∧
  (∀ (t k : Trunk) (s : State), (s.service t).executing = none → (s.trunk k).state = .off →
    ∃ d u : State, exec (.trunkControlEnable t k.code) s = .next u ∧
      Replied t (.trunkControl k.code 0 0) .ok [] d u ∧
      d.trunk k = { s.trunk k with
        state := .hunt
        aligned := false
        evenNext := (d.trunk k).evenNext
        badWords := 0
        rxBuf := []
        alarm := false
        clearRun := 0
        store := []
        reading := false
        sigRx := .hunting } ∧
      d.service k = { s.service k with rx := .hunting } ∧
      .trunkStateReport k .hunt ∈ d.handed ∧ .noticeRaise (.trunkState k) ∈ d.handed ∧
      OnlyTrunk k (s.asked (.trunkControlEnable t k.code) t) d) ∧
  (∀ (t k : Trunk) (s : State), (s.service t).executing = none → (s.trunk k).state ≠ .off →
    ∃ u : State, exec (.trunkControlEnable t k.code) s = .next u ∧
      Replied t (.trunkControl k.code 0 0) .ok [] (s.asked (.trunkControlEnable t k.code) t) u) ∧
  (∀ (t k : Trunk) (s : State), (s.service t).executing = none → (s.trunk k).state ≠ .off →
    ∃ d u : State, exec (.trunkControlDisable t k.code) s = .next u ∧
      Replied t (.trunkControl k.code 1 0) .ok [] d u ∧ (d.trunk k).state = .off ∧ FailedOver k s d ∧
      (∀ n, (d.chan k n).st ≠ .reserved ∧ (d.chan k n).st ≠ .inUse) ∧ (d.trunk k).slips = (s.trunk k).slips ∧
      .trunkStateReport k .off ∈ d.handed) ∧
  (∀ (t k : Trunk) (s : State), (s.service t).executing = none → (s.trunk k).state = .off →
    ∃ d u : State, exec (.trunkControlDisable t k.code) s = .next u ∧
      Replied t (.trunkControl k.code 1 0) .ok [] d u ∧ MovedOff k s d ∧
      (∀ n, (d.chan k n).st ≠ .reserved ∧ (d.chan k n).st ≠ .inUse) ∧
      d.trunk k = { s.trunk k with
        channels := (d.trunk k).channels
        sigQueue := []
        sigSent := 0
        seen := (d.trunk k).seen } ∧
      ((∀ st, .trunkStateReport k st ∉ s.handed) → (s.trunk k).seen ≠ .up →
        (∀ c, (s.ctx c).state = .offered → s.callTrunk c ≠ some k) →
        (∀ c, (s.ctx c).state = .connected ∨ (s.ctx c).state = .held → ∀ n, (s.ctx c).primary ≠ some ⟨k, n⟩) →
        (∀ n, (s.chan k n).st = .free ∨ (s.chan k n).st = .blocked) →
        d = (((s.asked (.trunkControlDisable t k.code) t).take (.failover k)).modTrunk k
          (fun T => { T with sigQueue := [], sigSent := 0 })).dispatch)) ∧
  (∀ (t : Trunk) (k : Nat) (s : State), (s.service t).executing = none → 2 ≤ k →
    (∃ u : State, exec (.trunkControlEnable t k) s = .next u ∧
      Replied t (.trunkControl k 0 0) .badIndex [] (s.asked (.trunkControlEnable t k) t) u) ∧
    ∃ u : State, exec (.trunkControlDisable t k) s = .next u ∧
      Replied t (.trunkControl k 1 0) .badIndex [] (s.asked (.trunkControlDisable t k) t) u)

/-! ### Level monitor and players (07, 08) -/

/-- LEVEL_BLOCK_COMPLETE (R145 to R147): the level is the block sum by 160; a silent block adds to the silent run up to
the silent limit, raising SILENT-CALL once there; any other sets speech-seen and ends the run; the block starts afresh.
SEGMENT_END (R154 to R156): a player whose segment has ended enters the next one, or its programme's start segment at a
RESTART, from its first code; an invalid segment and STOP make it SILENT. A player within its segment is left alone.
That these are commands of their own is log entry 4; that a player which falls SILENT keeps its cursor and offset is
the model's choice (log entry 56). -/
def Obligations.BlocksAreJudgedAndSegmentsFollowed : Prop :=
  (∀ (c : CtxId) (s : State), (s.ctx c).state = .connected → (s.path c).count = 160 →
    ∃ u : State, exec (.levelBlockComplete c) s = .next u ∧
      u = { s with contexts := u.contexts, paths := u.paths, handed := u.handed } ∧ u.path c = ⟨0, 0⟩ ∧
      (∀ d, d ≠ c → u.ctx d = s.ctx d ∧ u.path d = s.path d) ∧
      (s.param 7 ≤ (s.path c).sum / 160 →
        u.ctx c = { s.ctx c with
          lastLevel := (s.path c).sum / 160
          silentRun := 0
          speechSeen := true
          silentNotified := false } ∧
        u.handed = s.handed.erase (.levelBlockComplete c)) ∧
      ((s.path c).sum / 160 < s.param 7 →
        u.ctx c = { s.ctx c with
          lastLevel := (s.path c).sum / 160
          silentRun := min ((s.ctx c).silentRun + 1) (s.param 8)
          silentNotified := (s.ctx c).silentNotified || decide (s.param 8 ≤ (s.ctx c).silentRun + 1) } ∧
        u.handed = s.handed.erase (.levelBlockComplete c) ++
          if s.param 8 ≤ (s.ctx c).silentRun + 1 ∧ (s.ctx c).silentNotified = false then [.noticeRaise (.silentCall c)]
          else [])) ∧
  (∀ (c : CtxId) (s : State), ∃ u : State, exec (.segmentEnd c) s = .next u ∧
    u = { s with players := u.players, handed := s.handed.erase (.segmentEnd c) } ∧
    (∀ d, d ≠ c → u.player d = s.player d) ∧
    ((s.player c).state ≠ .playing ∨ (s.player c).offset < (s.player c).length → u.player c = s.player c) ∧
    ((s.player c).state = .playing → (s.player c).length ≤ (s.player c).offset →
      ∀ k, (∃ p, (s.player c).after = .next k ∨
          ((s.player c).after = .restart ∧ (s.player c).programme = some p ∧ k = s.startSegment p)) →
        if (s.segment k).valid then
          u.player c = { s.player c with
            segment := some k
            start := (s.segment k).start
            length := (s.segment k).length
            after := (s.segment k).after
            offset := 0 }
        else u.player c = { s.player c with state := .silent, segment := none }) ∧
    ((s.player c).state = .playing → (s.player c).length ≤ (s.player c).offset → (s.player c).after = .stop →
      u.player c = { s.player c with state := .silent, segment := none }))

/-! ### The service channel (09) -/

/-- A complete request, by whichever row it comes (R162, R163, R165): with the executing place occupied it takes an
empty waiting place; with both occupied it is discarded and OVERRUN is latched; with the executing place empty it is
executed at once on the state in which its trunk is the management home, and its REPLY made. The rows of ENABLE and
DISABLE keep no channel, so a request of these with one comes by its own row with channel 0. A REPLY goes out in parts
of at most 193 body bytes (R164, R197, R198). REPLY_START and REPLY_COMPLETE (R162, R164, R183): a waiting REPLY starts
when nothing is being sent; when its last byte has been sent the executing place is freed and the waiting request
executed, or, with none waiting on the home trunk, the notice unit chooses. READ-STATUS, READ-MAP, READ-CALLS and
READ-FAULT (R61, R89, R168, R178, R199) show the state as it stands, byte by byte, and change nothing but the management
home and the reply; an unknown loop or record is BAD-INDEX. So is an unknown table in READ-TABLE, with its table and
index for a body, and in WRITE-TABLE (R169), and an unknown loop or trunk in LOOP-CONTROL or TRUNK-CONTROL; an unknown
action of these is BAD-VALUE (R172, R173). That no idle fill stands between the parts (log entry 27), and the codes of
the bearer states in READ-CALLS (log entry 38), are DEDUCED. That the notice unit's choice is handed as NOTICE_START is
the model's choice (log entry 71). The bodies of refused requests are read from R166 and R199 (DEDUCED, log entry 26);
that a request with an unknown table or action comes by the row SERVICE_REQUEST_BUFFERED (log entry 28), and that an
ABSENT slot that has been emptied is listed by its empty record until that is reported (log entry 46), are the model's
choices. -/
def Obligations.RequestsAreExecutedAnsweredAndReadTheState : Prop :=
  (∀ (i : Instr) (t : Trunk) (req : Request) (s : State),
    i = .serviceRequestBuffered t req ∨ (i = req.toInstr t ∧ NoSpareChannel req) →
    (∀ running, (s.service t).executing = some running →
      ((s.service t).waiting = none →
        ∃ u : State, exec i s = .next u ∧ u = { s with
          serviceA := u.serviceA
          serviceB := u.serviceB
          handed := s.handed.erase i } ∧
          u.service t = { s.service t with waiting := some req } ∧ u.service t.other = s.service t.other) ∧
      (∀ q, (s.service t).waiting = some q →
        exec i s = .next { s with handed := s.handed.erase i ++ [.faultLatch (.sect .overrun)] })) ∧
    ((s.service t).executing = none → ∃ u : State, exec i s = .next u ∧
      Replied t req ((s.asked i t).perform req).result ((s.asked i t).perform req).body ((s.asked i t).perform req).st u ∧
      ((s.asked i t).perform req).st.home = t ∧
      (∀ table, req = .writeUnknown table → Replied t req .badIndex [] (s.asked i t) u) ∧
      (∀ table index, req = .readTable table index → 6 ≤ table →
        Replied t req .badIndex [byte table, byte index] (s.asked i t) u) ∧
      (∀ loop action, req = .loopControl loop action → 8 ≤ loop ∨ 4 ≤ action →
        Replied t req (if 8 ≤ loop then .badIndex else .badValue) [] (s.asked i t) u) ∧
      ∀ trunk action chan, req = .trunkControl trunk action chan → 2 ≤ trunk ∨ 4 ≤ action →
        Replied t req (if 2 ≤ trunk then .badIndex else .badValue) [] (s.asked i t) u)) ∧
  (∀ r : Reply, ∃ parts : List (List Byte), parts ≠ [] ∧ parts.flatten = r.body ∧
    (∀ p ∈ parts.dropLast, p.length = 193) ∧ (∀ p, parts.getLast? = some p → p.length ≤ 193) ∧
    r.bytes = parts.zipIdx.flatMap (fun p => frameMsg 0x20
      ([r.echo, match r.result with
          | .ok => 0 | .okClamped => 1 | .badIndex => 2 | .badValue => 3 | .duplicate => 4 | .changed => 5,
        r.summary, byte (r.sectNo / 256), byte r.sectNo, byte (p.2 + if p.2 + 1 = parts.length then 128 else 0)] ++
        p.1))) ∧
  (∀ (t : Trunk) (s : State),
    (∀ r, (s.service t).tx = .idle → (s.service t).reply = some r →
      ∃ u : State, exec (.replyStart t) s = .next u ∧
        u = { s with serviceA := u.serviceA, serviceB := u.serviceB, handed := s.handed.erase (.replyStart t) } ∧
        u.service t = { s.service t with tx := .reply r.bytes, reply := none } ∧
        u.service t.other = s.service t.other) ∧
    ((s.service t).tx ≠ .idle ∨ (s.service t).reply = none →
      exec (.replyStart t) s = .next { s with handed := s.handed.erase (.replyStart t) }) ∧
    ((s.service t).tx ≠ .reply [] →
      exec (.replyComplete t) s = .next { s with handed := s.handed.erase (.replyComplete t) }) ∧
    ((s.service t).tx = .reply [] → (s.service t).waiting = none →
      ∃ u : State, exec (.replyComplete t) s = .next u ∧
        u = { s with serviceA := u.serviceA, serviceB := u.serviceB, handed := u.handed } ∧
        u.service t = { s.service t with tx := .idle, executing := none } ∧ u.service t.other = s.service t.other ∧
        (s.home = t → .noticeStart ∈ u.handed) ∧ (s.home ≠ t → u.handed = s.handed.erase (.replyComplete t))) ∧
    ∀ req, (s.service t).tx = .reply [] → (s.service t).waiting = some req →
      ∃ v u : State, v = { s with serviceA := v.serviceA, serviceB := v.serviceB } ∧
        v.service t = { s.service t with tx := .idle, executing := none, waiting := none } ∧
        v.service t.other = s.service t.other ∧ exec (.replyComplete t) s = .next u ∧
        Replied t req ((v.asked (.replyComplete t) t).perform req).result ((v.asked (.replyComplete t) t).perform req).body
          ((v.asked (.replyComplete t) t).perform req).st u) ∧
  ∀ (t : Trunk) (s : State), (s.service t).executing = none →
    (∃ u : State, exec (.readStatus t) s = .next u ∧
      Replied t .readStatus .ok
        ([byte (s.param 0 / 256), byte (s.param 0), byte t.code, byte s.supply.state.code] ++
          allLoops.map (fun l => byte ((s.loop l).state.code + (if (s.loop l).stale then 8 else 0) +
            16 * (s.feed l).state.code + (if (s.feed l).desired then 128 else 0))) ++
          [Trunk.A, .B].flatMap (fun k => byte (s.trunk k).state.code ::
            [ChanState.free, .reserved, .inUse, .blocked].map (fun st =>
              byte (allChans.filter (fun n => (s.chan k n).st == st)).length)) ++
          [CtxState.free, .queued, .offered, .connected, .held, .clearing].map (fun st =>
            byte (allCtxs.filter (fun c => (s.ctx c).state == st)).length) ++
          [byte s.waiting.length, byte s.plan.val])
        (s.asked (.readStatus t) t) u) ∧
    (∃ u : State, exec (.readCalls t) s = .next u ∧
      Replied t .readCalls .ok
        (byte (allCtxs.filter (fun c => (s.ctx c).state != .free)).length ::
          (allCtxs.filter (fun c => (s.ctx c).state != .free)).flatMap s.callBytes)
        (s.asked (.readCalls t) t) u ∧
      ∀ c, (s.callBytes c).length = 25 ∧
        ∀ x leg, x = s.ctx c → leg = (fun g : Option Leg => (match g with
          | none => 0
          | some g => byte ((if g.trunk = .A then 0 else 128) + g.chan.val + 1) : Byte)) →
        s.callBytes c =
          [byte c.val, byte x.state.code, byte x.cls.code, byte c.val, x.regGen] ++
          (match x.ref with | some g => [byte c.val, g] | none => [0xFF, 0xFF]) ++
          [byte x.loop.val, byte x.entry, x.plate] ++
          (match x.snapshot.bind (·.number) with | some n => [byte (n / 256), byte n] | none => [0xFF, 0xFF]) ++
          [match x.bearer with
            | some b => byte (b.val + 4 * (match (s.bearer x.loop b).st with
              | .free => 0 | .assigning => 1 | .live => 2 | .releasing => 3))
            | none => 0xFF, leg x.primary, leg x.second] ++
          (match x.desk with | some d => [1, d] | none => [0, 0]) ++
          (match x.prevDesk with | some d => [1, d] | none => [0, 0]) ++
          [byte x.represented, byte (x.waited / 256), byte x.waited, byte (x.clips / 256), byte x.clips,
            match x.cause with | some why => if x.state = .clearing then byte why.code else 0 | none => 0]) ∧
    (∀ l : LoopId, ∃ u : State, exec (.readMap t l.val) s = .next u ∧
      Replied t (.readMap l.val) .ok
        ([byte l.val, byte ((s.loop l).state.code + (if (s.loop l).stale then 8 else 0) +
            16 * (s.feed l).state.code + (if (s.feed l).desired then 128 else 0)), if (s.loop l).reconPending then 1 else 0, (s.loop l).epoch,
          byte (s.loop l).map.length] ++
          ((s.loop l).map.zipIdx 1).flatMap (fun p =>
            (s.identityOf l p.2 p.1).bytes ++ optByte p.1.cmd.lastStatus ++ optByte p.1.cmd.lastHealth) ++
          byte (s.loop l).absent.length ::
            (s.absentInOrder l).flatMap (fun q => byte q.val :: be16 (s.record q).number))
        (s.asked (.readMap t l.val) t) u ∧
      (s.absentInOrder l).Perm (s.loop l).absent ∧
      (s.absentInOrder l).Pairwise (fun p q => (s.record p).position ≤ (s.record q).position)) ∧
    (∀ loop, 8 ≤ loop → ∃ u : State, exec (.readMap t loop) s = .next u ∧
      Replied t (.readMap loop) .badIndex [] (s.asked (.readMap t loop) t) u) ∧
    (∀ (kind index : Nat) (r : RecRef), RecRef.ofCodes kind index = some r →
      ∃ u : State, exec (.readFault t kind index) s = .next u ∧
        Replied t (.readFault kind index) .ok
          ([byte kind, byte index, byte ((s.recordAt r).flags.toNat / 256), byte (s.recordAt r).flags.toNat,
            (s.recordAt r).count,
            match r with | .trunk k => byte (s.trunk k).slips | .post q => byte (s.testResult q).code | _ => 0,
            match r with | .post q => if (s.record q).valid then 1 else 0 | _ => 0])
          (s.asked (.readFault t kind index) t) u) ∧
    (∀ kind index : Nat, 4 ≤ kind ∨ (kind = 0 ∧ 1 ≤ index) ∨ (kind = 1 ∧ 2 ≤ index) ∨ (kind = 2 ∧ 8 ≤ index) ∨
        (kind = 3 ∧ 96 ≤ index) →
      ∃ u : State, exec (.readFault t kind index) s = .next u ∧
        Replied t (.readFault kind index) .badIndex [] (s.asked (.readFault t kind index) t) u)

/-- Received bytes become commands (R100, R161, R191 to R193, R195). A message is framed with START, LENGTH and the
CHECK that brings the sum to 0. A framed request, byte by byte into a receiver that hunts for START, hands exactly the
command of that request and leaves the receiver hunting; so do the seven control requests of the desks on the
signalling channel. A byte that is no START is passed over. A LENGTH of 0 or above 200, a CHECK that does not bring the
sum to 0, a TYPE that no request has, and a body that no request of its TYPE has each hand the discard that R161 names,
and one of the part's own types a discard of its own, which R161 and R192 both name a flag for (log entry 57); on the
signalling channel there is one discard for all. A body whose table code names no table is a complete request; where
READ-TABLE of such a table has no index byte, its index is taken as 0, and bytes after it are passed over: the model's
choice (log entry 49). Which row such a request comes by is log entry 28. -/
def Obligations.ReceivedMessagesBecomeCommands : Prop :=
  (∀ (type : Byte) (body : List Byte), ∃ check : Byte,
    frameMsg type body = 0x5A :: byte (body.length + 1) :: type :: body ++ [check] ∧
    byteSum (byte (body.length + 1) :: type :: body) + check = 0) ∧
  (∀ (t : Trunk) (s : State), (s.service t).rx = .hunting →
    (∀ req : Request, req.wf →
      s.feedServiceAll t (frameMsg req.code req.body) = { s with handed := s.handed ++ [req.toInstr t] }) ∧
    (∀ b : Byte, b ≠ 0x5A → s.feedServiceAll t [b] = s) ∧
    (∀ n : Byte, n = 0 ∨ 200 < n.toNat →
      s.feedServiceAll t [0x5A, n] = { s with handed := s.handed ++ [.serviceMessageDiscard t .badLength] }) ∧
    ∀ (type check : Byte) (body : List Byte), body.length < 200 →
      (byteSum (byte (body.length + 1) :: type :: body) + check ≠ 0 →
        s.feedServiceAll t (0x5A :: byte (body.length + 1) :: type :: body ++ [check]) =
          { s with handed := s.handed ++ [.serviceMessageDiscard t .badCheck] }) ∧
      (type.toNat < 0x10 ∨ 0x1A < type.toNat → s.feedServiceAll t (frameMsg type body) =
        { s with handed := s.handed ++ [.serviceMessageDiscard t
          (if type = 0x20 ∨ type = 0x21 ∨ type = 0x50 ∨ type = 0x51 ∨ type = 0x52 then .ownType else .unknownType)] }) ∧
      (∀ (table : Byte) (rest : List Byte), body = table :: rest → 6 ≤ table.toNat →
        (type = 0x11 → s.feedServiceAll t (frameMsg type body) =
          { s with handed := s.handed ++ [.serviceRequestBuffered t (.readTable table.toNat (rest.headD 0).toNat)] }) ∧
        (type = 0x12 → s.feedServiceAll t (frameMsg type body) =
          { s with handed := s.handed ++ [.serviceRequestBuffered t (.writeUnknown table.toNat)] })) ∧
      (0x10 ≤ type.toNat → type.toNat ≤ 0x1A → (∀ req : Request, req.wf → req.code = type → req.body ≠ body) →
        (∀ (table : Byte) (rest : List Byte), body = table :: rest → type = 0x11 ∨ type = 0x12 → table.toNat < 6) →
        s.feedServiceAll t (frameMsg type body) =
          { s with handed := s.handed ++ [.serviceMessageDiscard t .badLength] })) ∧
  (∀ (t : Trunk) (s : State), (s.trunk t).sigRx = .hunting →
    (∀ (i : Instr) (ref : OfferRef) (code desk : Byte), IsDesk i t ref code → (code = 0x40 → i = .answer t ref desk) →
      s.feedSignallingAll t (frameMsg code ([ref.ctx, ref.gen] ++ if code = 0x40 then [desk] else [])) =
        { s with handed := s.handed ++ [i] }) ∧
    (∀ b : Byte, b ≠ 0x5A → s.feedSignallingAll t [b] = s) ∧
    (∀ n : Byte, n = 0 ∨ 200 < n.toNat →
      s.feedSignallingAll t [0x5A, n] = { s with handed := s.handed ++ [.signallingMessageDiscard t] }) ∧
    ∀ (type check : Byte) (body : List Byte), body.length < 200 →
      byteSum (byte (body.length + 1) :: type :: body) + check ≠ 0 ∨
        ¬ (0x40 ≤ type.toNat ∧ type.toNat ≤ 0x46 ∧ body.length = if type = 0x40 then 3 else 2) →
      s.feedSignallingAll t (0x5A :: byte (body.length + 1) :: type :: body ++ [check]) =
        { s with handed := s.handed ++ [.signallingMessageDiscard t] })

/-- NOTICE_START and NOTICE_RAISE (R181, R183, R184, R185): with the home transmitter idle the first pending object of
an enabled kind is sent with its data, its mark cleared, a CALL-ABANDONED object's count set to 0 and the post recorded
for a loop object cleared; otherwise nothing happens. The data are those of R184 in the layout of R200, an identity
record has the layout of R194, and the summary byte of a REPLY the bits of R186. A slot emptied while an entry is still
tied to it has no identity record in a notice: the model's choice (log entry 77), as is that this entry answers
elsewhere from the empty record (log entry 46); the entry of a call's post is found through the rebuild reports on their
way (DEDUCED, log entry 21). The first is the first by rank and index, as the invariant of
`EveryStepKeepsTheOrderTheChannelsAndTheMarks` keeps the marks in that order. A raise sets its object's mark and counts
an abandonment up to 255; one for a FREE context sets nothing, which is read into R185 (DEDUCED, log entry 29). The
choice at a raise is handed once, as NOTICE_START after what stands in the hand-off list, so that the raises standing
there come first: the model's choice (log entry 71). A raise made before its context was FREE and taken after it was
allocated again marks the new call (log entry 48). -/
def Obligations.NoticesAreRaisedAndChosen : Prop :=
  (∀ s : State, SummaryBits s s.summary) ∧ (∀ (s : State) (m : Nat × Nat), NoticeCarries s m (s.noticeData m)) ∧
  (∀ i : Identity, i.bytes =
    (match i.number with | some n => [byte (n / 256), byte n] | none => [0xFF, 0xFF]) ++
    [byte i.loop.val, byte i.seen, i.plate,
      match i.status with | .confirmed => 0 | .unconfirmed => 1 | .unlisted => 2 | .notSeen => 3] ++
    (match i.road with | some n => [byte (n / 256), byte n] | none => [0xFF, 0xFF]) ++
    (match i.carriageway with
      | some .aDirection => [0] | some .bDirection => [1] | some .link => [2] | some .central => [3]
      | none => [0xFF]) ++
    (match i.marker with | some n => [byte (n / 256), byte n] | none => [0xFF, 0xFF]) ++
    byte i.zone.val :: byte i.label1.length :: i.label1 ++ byte i.label2.length :: i.label2) ∧
  (∀ s : State, (s.service s.home).tx ≠ .idle ∨ (s.service s.home).reply ≠ none ∨
      (∀ m ∈ s.marks, s.mask.getLsbD (m.1 - 1) = false) →
    exec .noticeStart s = .next { s with handed := s.handed.erase .noticeStart }) ∧
  (∀ (m : Nat × Nat) (front back : List (Nat × Nat)) (s : State),
    (s.service s.home).tx = .idle → (s.service s.home).reply = none → s.marks = front ++ m :: back →
    (∀ x ∈ front, s.mask.getLsbD (x.1 - 1) = false) → s.mask.getLsbD (m.1 - 1) →
    ∃ u : State, exec .noticeStart s = .next u ∧
      u = { s with
        serviceA := u.serviceA
        serviceB := u.serviceB
        marks := s.marks.filter (· != m)
        abandons := u.abandons
        abandonPosts := u.abandonPosts
        handed := s.handed.erase .noticeStart } ∧
      u.service s.home.other = s.service s.home.other ∧
      u.service s.home = { s.service s.home with
        tx := .notice (frameMsg 0x21 (be16 (s.param 0) ++ [byte m.1, byte m.2] ++ s.noticeData m)) } ∧
      (∀ k : Fin 104, u.abandons[k] = if m = (8, k.val) then 0 else s.abandons[k]) ∧
      ∀ l : LoopId, u.abandonPosts[l] = if m = (8, 96 + l.val) then none else s.abandonPosts[l]) ∧
  (∀ (x : Raise) (s : State), (∀ c, x = .silentCall c ∨ x = .holdLong c → (s.ctx c).state ≠ .free) →
    ∃ u : State, exec (.noticeRaise x) s = .next u ∧
      u = { s with
        marks := u.marks
        abandons := u.abandons
        abandonPosts := u.abandonPosts
        handed := u.handed } ∧
      (∀ m, m ∈ u.marks ↔ m ∈ s.marks ∨ m = x.mark) ∧
      (∀ k : Fin 104, u.abandons[k] = if x.mark = (8, k.val) then min (s.abandons[k] + 1) 255 else s.abandons[k]) ∧
      (∀ l pos plate, x = .abandonedLoop l pos plate → u.abandonPosts[l] = some (pos, plate)) ∧
      (∀ l, (∀ pos plate, x ≠ .abandonedLoop l pos plate) → u.abandonPosts[l] = s.abandonPosts[l]) ∧
      .noticeStart ∈ u.handed) ∧
  (∀ (x : Raise) (c : CtxId) (s : State), x = .silentCall c ∨ x = .holdLong c → (s.ctx c).state = .free →
    ∃ u : State, exec (.noticeRaise x) s = .next u ∧ u = { s with handed := u.handed } ∧
      u.handed = if .noticeStart ∈ s.handed.erase (.noticeRaise x) then s.handed.erase (.noticeRaise x)
        else s.handed.erase (.noticeRaise x) ++ [.noticeStart])

/-- The reads of the six tables (R43, R91, R151, R153, R169, R170): the entry as stored, in the layout of R195, or
BAD-INDEX for an index the table does not have; nothing changes but the management home and the reply. The body of a
refused READ-TABLE, its table and index, is read from R199 (DEDUCED, log entry 26). -/
def Obligations.TableReadsGiveTheEntryAsStored : Prop :=
  ∀ (t : Trunk) (index : Nat) (s : State), (s.service t).executing = none →
    (∃ u : State, exec (.readTableDirectory t index) s = .next u ∧
      Replied t (.readTable 0 index) (if index < 96 then .ok else .badIndex)
        ([0, byte index] ++ (if h : index < 96 then
          let r := s.record ⟨index, h⟩
          [if r.valid then 1 else 0, byte (r.number / 256), byte r.number, byte r.loop.val, byte r.position, r.plate,
            byte (r.road / 256), byte r.road,
            match r.carriageway with | .aDirection => 0 | .bDirection => 1 | .link => 2 | .central => 3,
            byte (r.marker / 256), byte r.marker, byte r.zone.val, byte r.upGain, byte r.downGain,
            byte ((if r.permits.emergency then 1 else 0) + (if r.permits.breakdown then 2 else 0) +
              (if r.permits.service then 4 else 0))] ++
            byte r.label1.length :: r.label1 ++ byte r.label2.length :: r.label2
          else []))
        (s.asked (.readTableDirectory t index) t) u) ∧
    (∃ u : State, exec (.readTableRoute t index) s = .next u ∧
      Replied t (.readTable 1 index) (if index < 64 then .ok else .badIndex)
        ([1, byte index] ++ (if h : index < 64 then
          byte s.routes[index].length :: s.routes[index].flatMap (fun g => [byte g.trunk.code, byte g.group, byte g.timeout])
          else []))
        (s.asked (.readTableRoute t index) t) u) ∧
    (∃ u : State, exec (.readTableSegment t index) s = .next u ∧
      Replied t (.readTable 2 index) (if index < 16 then .ok else .badIndex)
        ([2, byte index] ++ (if h : index < 16 then
          let r := s.segment ⟨index, h⟩
          [if r.valid then 1 else 0, byte (r.start / 256), byte r.start, byte (r.length / 256), byte r.length,
            match r.after with | .next k => byte k.val | .restart => 0x10 | .stop => 0x11]
          else []))
        (s.asked (.readTableSegment t index) t) u) ∧
    (∃ u : State, exec (.readTableSamples t index) s = .next u ∧
      Replied t (.readTable 3 index) (if index ≤ 255 then .ok else .badIndex)
        ([3, byte index] ++ (if index ≤ 255 then
          (List.range 64).map (fun k => Samples.read s.samples (64 * index + k)) else []))
        (s.asked (.readTableSamples t index) t) u) ∧
    (∃ u : State, exec (.readTableSettings t index) s = .next u ∧
      Replied t (.readTable 4 index) (if index < 25 then .ok else .badIndex)
        ([4, byte index] ++ (if h : index < 25 then [byte (s.param ⟨index, h⟩ / 256), byte (s.param ⟨index, h⟩)] else []))
        (s.asked (.readTableSettings t index) t) u) ∧
    (∃ u : State, exec (.readTableMask t index) s = .next u ∧
      Replied t (.readTable 5 index) (if index = 0 then .ok else .badIndex)
        ([5, byte index] ++ (if index = 0 then [byte (s.mask.toNat / 256), byte s.mask.toNat] else []))
        (s.asked (.readTableMask t index) t) u)

/-! ### What a used scan does (01, 03) -/

/-- A used SCAN (R8, R12, R16, R18, R23 to R26, R52 to R54): a good return of the current epoch whose pairs are as many
as the map's entries. Each entry takes its reply and status byte; a plate other than its own in reply to IDENT sets
STALE; REQ and a changed CALLER are reported, ASSIGNING goes to LIVE and LIVE without BEARER-OK loses its confirmation,
unless the section restart's mark or STALE holds them back; RELEASING goes to FREE on its echo unless STALE holds the
bearers; a new health byte and a TEST result are latched, raised or kept for the post. More than twelve pairs latch
OVERLONG (R5). That a drop of CALLER is also seen against the bit noted when STALE was last clear, and an absent last
status as CALLER 0 (log entry 15), that all replies and status bytes of a scan are applied before its reports are made,
and that STALE set by the scan itself holds them back (log entry 16), are read into the rules (DEDUCED). -/
def Obligations.UsedScanReachesEveryEntry : Prop :=
  ∀ (l : LoopId) (f : Flight) (s : State), (s.loop l).flight = some f → (s.loop l).rxDone →
    (readScan f.cmds.length (s.loop l).rx).good f.purpose.isSweep f.cmds.length → f.purpose ≠ .sweep →
    f.epoch = (s.loop l).epoch → (s.loop l).map.length ≤ f.cmds.length →
    min (readScan f.cmds.length (s.loop l).rx).pairs.length 12 = (s.loop l).map.length →
    ∃ t : State, exec (.scanReturn l) s = .next t ∧
      ScanUsed s t l f (readScan f.cmds.length (s.loop l).rx).chain ∧
      (t.loop l).map.length = (s.loop l).map.length ∧
      (.faultLatch (.loop l .overlong) ∈ t.handed ↔
        .faultLatch (.loop l .overlong) ∈ s.handed ∨ 12 < (readScan f.cmds.length (s.loop l).rx).pairs.length) ∧
      (t.loop l).attention = ((s.loop l).attention || (((s.loop l).rx.headD 0).getLsbD 0 &&
        (readScan f.cmds.length (s.loop l).rx).hasNoCmd f.cmds))

/-! ### Writes and control requests (09) -/

/-- WRITE-TABLE DIRECTORY (R41, R42, R58 to R60) in the order of R41: a slot above 95; an empty record, reported as an
invalidation of what was valid; a field out of range; a record that would share a post number, or a plate or position
on its loop, with another valid slot; and else the record stored with its labels cleaned, reported to the loops when it
is structural. An empty slot is reported to the loop its empty record names, which is the model's reading of R59 (log
entry 20). An invalidation goes to the loop of the record alone, also where an entry of a loop that it has left is
still tied to the slot: the model's choice (log entry 70). A refused write changes no slot. A refused write has no body
(DEDUCED, log entry 26). -/
def Obligations.DirectoryWritesFollowR41 : Prop :=
  ∀ (t : Trunk) (index : Nat) (w : PostWrite) (s : State), (s.service t).executing = none →
    ∃ (d u : State) (result : Result), exec (.writeTableDirectory t index w) s = .next u ∧
      Replied t (.writeDirectory index w) result [] d u ∧
      d = { s.asked (.writeTableDirectory t index w) t with directory := d.directory, handed := d.handed } ∧
      (96 ≤ index → result = .badIndex ∧ d = s.asked (.writeTableDirectory t index w) t) ∧
      ∀ h : index < 96,
        (∀ q, q ≠ ⟨index, h⟩ → d.record q = s.record q) ∧
        (w.valid = 0 → result = .ok ∧ d.record ⟨index, h⟩ = PostRecord.empty ∧
          ((s.record ⟨index, h⟩).valid →
            .invalidationReport (s.record ⟨index, h⟩).loop ⟨index, h⟩ ∈ d.handed)) ∧
        (w.valid ≠ 0 → (w.valid ≠ 1 ∨ 9999 < w.number ∨ 8 ≤ w.loop ∨ w.position = 0 ∨ 12 < w.position ∨ 999 < w.road ∨
            4 ≤ w.carriageway ∨ 9999 < w.marker ∨ 16 ≤ w.zone ∨ 127 < w.upGain ∨ 127 < w.downGain ∨ 8 ≤ w.permits ∨
            20 < w.label1.length ∨ 20 < w.label2.length) →
          result = .badValue ∧ d = s.asked (.writeTableDirectory t index w) t) ∧
        (w.valid = 1 → w.number ≤ 9999 → w.loop < 8 → 1 ≤ w.position → w.position ≤ 12 → w.road ≤ 999 →
          w.carriageway < 4 → w.marker ≤ 9999 → w.zone < 16 → w.upGain ≤ 127 → w.downGain ≤ 127 → w.permits < 8 →
          w.label1.length ≤ 20 → w.label2.length ≤ 20 → ∃ r, PostRecord.ofWrite w = some r) ∧
        (∀ r, PostRecord.ofWrite w = some r →
          (r.valid ∧ r.number = w.number ∧ r.loop.val = w.loop ∧ r.position = w.position ∧ r.plate = w.plate ∧
            r.road = w.road ∧ r.marker = w.marker ∧ r.zone.val = w.zone ∧ r.upGain = w.upGain ∧
            r.downGain = w.downGain ∧ r.carriageway.code = w.carriageway ∧
            r.permits = ⟨w.permits.testBit 0, w.permits.testBit 1, w.permits.testBit 2⟩ ∧
            r.label1 = w.label1.map (fun c : Byte => if 0x20 ≤ c.toNat ∧ c.toNat ≤ 0x7E then c else 0x3F) ∧
            r.label2 = w.label2.map (fun c : Byte => if 0x20 ≤ c.toNat ∧ c.toNat ≤ 0x7E then c else 0x3F)) ∧
          ((∃ q, q ≠ ⟨index, h⟩ ∧ (s.record q).valid ∧ ((s.record q).number = r.number ∨
              ((s.record q).loop = r.loop ∧ ((s.record q).plate = r.plate ∨ (s.record q).position = r.position)))) →
            result = .duplicate ∧ d = s.asked (.writeTableDirectory t index w) t) ∧
          ((¬ ∃ q, q ≠ ⟨index, h⟩ ∧ (s.record q).valid ∧ ((s.record q).number = r.number ∨
              ((s.record q).loop = r.loop ∧ ((s.record q).plate = r.plate ∨ (s.record q).position = r.position)))) →
            d.record ⟨index, h⟩ = r ∧
            result = (if r.label1 = w.label1 ∧ r.label2 = w.label2 then .ok else .okClamped) ∧
            ((s.record ⟨index, h⟩).valid = false ∨ (s.record ⟨index, h⟩).loop ≠ r.loop ∨
                (s.record ⟨index, h⟩).position ≠ r.position ∨ (s.record ⟨index, h⟩).plate ≠ r.plate →
              .structuralWriteReport (s.record ⟨index, h⟩).loop ⟨index, h⟩
                (.before ((s.record ⟨index, h⟩).loop != r.loop)) ∈ d.handed ∧
              ((s.record ⟨index, h⟩).loop ≠ r.loop →
                .structuralWriteReport r.loop ⟨index, h⟩ .after ∈ d.handed)) ∧
            ((s.record ⟨index, h⟩).valid → (s.record ⟨index, h⟩).loop = r.loop →
              (s.record ⟨index, h⟩).position = r.position → (s.record ⟨index, h⟩).plate = r.plate →
              d.handed = (s.asked (.writeTableDirectory t index w) t).handed)))

/-- Each character of a written label outside 0x20 to 0x7E is stored as "?", the label keeps its length, a write in
which one was replaced and which is stored reports OK-CLAMPED, identity records carry the stored label, and the
uniqueness checks do not look at labels (R42). -/
def Obligations.LabelsAreStoredByR42 : Prop :=
  ∀ (t : Trunk) (slot : SlotId) (w : PostWrite) (r : PostRecord) (s : State), (s.service t).executing = none →
    w.valid ≠ 0 → PostRecord.ofWrite w = some r →
    (r.label1.length = w.label1.length ∧ r.label2.length = w.label2.length ∧
      ∀ k : Nat, r.label1[k]? = w.label1[k]?.map (fun c : Byte => if 0x20 ≤ c.toNat ∧ c.toNat ≤ 0x7E then c else 0x3F) ∧
        r.label2[k]? = w.label2[k]?.map (fun c : Byte => if 0x20 ≤ c.toNat ∧ c.toNat ≤ 0x7E then c else 0x3F)) ∧
    (∀ l1 l2, s.duplicates slot { r with label1 := l1, label2 := l2 } = s.duplicates slot r) ∧
    (s.duplicates slot r = false →
      ∃ (d u : State) (result : Result), exec (.writeTableDirectory t slot.val w) s = .next u ∧
        Replied t (.writeDirectory slot.val w) result [] d u ∧
        (d.record slot).label1 = r.label1 ∧ (d.record slot).label2 = r.label2 ∧
        (result = .okClamped ↔ ∃ c ∈ w.label1 ++ w.label2, ¬ (0x20 ≤ c.toNat ∧ c.toNat ≤ 0x7E)) ∧
        (result = .ok ↔ ∀ c ∈ w.label1 ++ w.label2, 0x20 ≤ c.toNat ∧ c.toNat ≤ 0x7E) ∧
        ∀ l pos e b, e.tie = .listed slot b → (d.identityOf l pos e).label1 = r.label1 ∧
          (d.identityOf l pos e).label2 = r.label2)

/-- The writes of the other five tables (R91, R151, R153, R169, R170): an index out of range is BAD-INDEX and a value
that is not clamped BAD-VALUE, with nothing changed; a route of no targets stores the default list, offer timeouts are
brought to 1 to 60; a segment's length is cut at the end of the store; settings are brought into their range; 64 codes
go to their block alone. Route and settings writes run dispatch. A settings write reaches what R105 and R20 say at
once: with the hold-long time, every HELD call not yet notified whose hold time has reached it is notified; with the
scan error limit, every START or DEGRADED loop whose count has reached it enters FAILED, and a FAILED loop stays
FAILED; nothing else changes before the dispatch. An error count that stands above a lowered limit is kept (log entry
45), and the loops enter FAILED, as the calls are notified, in ascending order (log entry 59): the model's choices. An
entry whose bearer is freed on entering FAILED has no desired bearer (DEDUCED, log entry 19). That the notice unit's
choice is handed as NOTICE_START is the model's choice (log entry 71). A refused write has no body (log entry 26). -/
def Obligations.TableWritesFollowTheirRules : Prop :=
  (∀ (t : Trunk) (index : Nat) (s : State), (s.service t).executing = none →
      (∀ ws : List TargetWrite, ∃ (d u : State) (result : Result), exec (.writeTableRoute t index ws) s = .next u ∧
        Replied t (.writeRoute index ws) result [] d u ∧
        (64 ≤ index → result = .badIndex ∧ d = s.asked (.writeTableRoute t index ws) t) ∧
        (index < 64 → (3 < ws.length ∨ ∃ w ∈ ws, 2 ≤ w.trunk ∨ 63 < w.group) →
          result = .badValue ∧ d = s.asked (.writeTableRoute t index ws) t) ∧
        (∀ h : index < 64, ws = [] → result = .ok ∧
          d = ({ s.asked (.writeTableRoute t index ws) t with
            routes := s.routes.set index [⟨.A, 0, 20⟩, ⟨.B, 0, 20⟩] } : State).dispatch) ∧
        (∀ h : index < 64, ws ≠ [] → ws.length ≤ 3 → (∀ w ∈ ws, w.trunk < 2 ∧ w.group ≤ 63) →
          (result = if ∃ w ∈ ws, w.timeout = 0 ∨ 60 < w.timeout then .okClamped else .ok) ∧
          d = ({ s.asked (.writeTableRoute t index ws) t with
            routes := s.routes.set index (ws.map (fun w =>
              ⟨if w.trunk = 0 then .A else .B, w.group, max 1 (min w.timeout 60)⟩)) } : State).dispatch)) ∧
      (∀ w : SegmentWrite, ∃ (d u : State) (result : Result), exec (.writeTableSegment t index w) s = .next u ∧
        Replied t (.writeSegment index w) result [] d u ∧
        (16 ≤ index → result = .badIndex ∧ d = s.asked (.writeTableSegment t index w) t) ∧
        (∀ h : index < 16,
          (w.valid = 0 → result = .ok ∧
            d = (s.asked (.writeTableSegment t index w) t).setSegment ⟨index, h⟩ ⟨false, 0, 1, .stop⟩) ∧
          (w.valid ≠ 0 → (w.valid ≠ 1 ∨ 16383 < w.start ∨ w.length = 0 ∨ 17 < w.after) →
            result = .badValue ∧ d = s.asked (.writeTableSegment t index w) t) ∧
          (∀ a, w.valid = 1 → w.start ≤ 16383 → 1 ≤ w.length → AfterAction.ofCode w.after = some a →
            (result = if 16384 < w.start + w.length then .okClamped else .ok) ∧
            d = (s.asked (.writeTableSegment t index w) t).setSegment ⟨index, h⟩
              ⟨true, w.start, min w.length (16384 - w.start), a⟩))) ∧
      (∀ codes : List Byte, codes.length = 64 → ∃ (d u : State) (result : Result),
        exec (.writeTableSamples t index codes) s = .next u ∧ Replied t (.writeSamples index codes) result [] d u ∧
        d = { s.asked (.writeTableSamples t index codes) t with samples := d.samples } ∧
        (256 ≤ index → result = .badIndex ∧ d.samples = s.samples) ∧
        (index < 256 → result = .ok ∧ ∀ p, Samples.read d.samples p =
          if 64 * index ≤ p ∧ p < 64 * index + 64 then codes.getD (p - 64 * index) 0 else Samples.read s.samples p)) ∧
      (∀ v : Nat, ∃ (d u : State) (result : Result), exec (.writeTableSettings t index v) s = .next u ∧
        Replied t (.writeSettings index v) result [] d u ∧
        (25 ≤ index → result = .badIndex ∧ d = s.asked (.writeTableSettings t index v) t) ∧
        ∀ h : index < 25,
          d.settings = s.settings.set index (max Config.params[index].low (min v Config.params[index].high)) ∧
          (result = if v < Config.params[index].low ∨ Config.params[index].high < v then .okClamped else .ok) ∧
          (index ≠ 6 → index ≠ 12 →
            d = ({ s.asked (.writeTableSettings t index v) t with settings := d.settings } : State).dispatch)) ∧
      (∀ e : Nat, ∃ (d u : State) (result : Result), exec (.writeTableMask t index e) s = .next u ∧
        Replied t (.writeMask index e) result [] d u ∧
        (index ≠ 0 → result = .badIndex ∧ d = s.asked (.writeTableMask t index e) t) ∧
        (index = 0 → result = .ok ∧ d.mask = BitVec.ofNat 12 e ∧ .noticeStart ∈ d.handed ∧
          d = { s.asked (.writeTableMask t index e) t with mask := d.mask, handed := d.handed }))) ∧
  ∀ (t : Trunk) (v : Nat) (s : State), (s.service t).executing = none →
    (∃ d u : State, exec (.writeTableSettings t 6 v) s = .next u ∧
      Replied t (.writeSettings 6 v) (if v < 10 ∨ 600 < v then .okClamped else .ok) [] d.dispatch u ∧
      d = { s.asked (.writeTableSettings t 6 v) t with
        settings := s.settings.set 6 (max 10 (min v 600))
        contexts := d.contexts
        handed := (s.asked (.writeTableSettings t 6 v) t).handed ++
          (allCtxs.filter (fun c => (s.ctx c).state == .held && !(s.ctx c).holdNotified &&
            decide (max 10 (min v 600) ≤ (s.ctx c).holdCount))).map (fun c => .noticeRaise (.holdLong c)) } ∧
      ∀ c, d.ctx c = { s.ctx c with
        holdNotified := (s.ctx c).holdNotified ||
          ((s.ctx c).state == .held && decide (max 10 (min v 600) ≤ (s.ctx c).holdCount)) }) ∧
    (∃ d u : State, exec (.writeTableSettings t 12 v) s = .next u ∧
      Replied t (.writeSettings 12 v) (if v < 1 ∨ 15 < v then .okClamped else .ok) [] d.dispatch u ∧
      d = { s.asked (.writeTableSettings t 12 v) t with
        settings := s.settings.set 12 (max 1 (min v 15))
        loops := d.loops
        handed := d.handed } ∧
      ∀ l, if ((s.loop l).state = .start ∨ (s.loop l).state = .degraded) ∧ max 1 (min v 15) ≤ (s.loop l).errors then
          FailedEntered s d l (s.loop l)
        else d.loop l = s.loop l)

/-- SET-PLAN (R92) and CLEAR-FAULT (R179, R180): a plan above 3 is BAD-VALUE, and any other becomes the active plan and
runs dispatch; a clear with a flag not of the record is BAD-VALUE, with another change count CHANGED, and otherwise
clears the named flags and keeps the count, with the slip count zeroed by SLIP, SUPPLY latched again while LOW, a
TRIPPED feed sent to SETTLING by TRIPPED, and the open timer of a feed in ON started afresh by OPEN (R34); no other
feed changes. The body of a refused SET-PLAN, the active plan, and the empty body of a CLEAR-FAULT of no record are
read from R199 (DEDUCED, log entry 26). -/
def Obligations.PlanAndClearRequests : Prop :=
  (∀ (t : Trunk) (plan : Nat) (s : State), (s.service t).executing = none →
    (4 ≤ plan → ∃ u : State, exec (.setPlan t plan) s = .next u ∧
      Replied t (.setPlan plan) .badValue [byte s.plan.val] (s.asked (.setPlan t plan) t) u) ∧
    (∀ h : plan < 4, ∃ u : State, exec (.setPlan t plan) s = .next u ∧
      Replied t (.setPlan plan) .ok [byte plan]
        ({ s.asked (.setPlan t plan) t with plan := ⟨plan, h⟩ } : State).dispatch u)) ∧
  (∀ (t : Trunk) (kind index count flags : Nat) (s : State), (s.service t).executing = none →
    (RecRef.ofCodes kind index = none → ∃ u : State, exec (.clearFault t kind index count flags) s = .next u ∧
      Replied t (.clearFault kind index count flags) .badIndex []
        (s.asked (.clearFault t kind index count flags) t) u) ∧
    ∀ r, RecRef.ofCodes kind index = some r →
      ∃ (d u : State) (result : Result), exec (.clearFault t kind index count flags) s = .next u ∧
        Replied t (.clearFault kind index count flags) result
          [byte kind, byte index, byte ((d.recordAt r).flags.toNat / 256), byte (d.recordAt r).flags.toNat,
            (d.recordAt r).count, d.recordExtra r, d.recordValid r] d u ∧
        (2 ^ r.flagCount ≤ flags → result = .badValue ∧ d = s.asked (.clearFault t kind index count flags) t) ∧
        (flags < 2 ^ r.flagCount → (s.recordAt r).count.toNat ≠ count →
          result = .changed ∧ d = s.asked (.clearFault t kind index count flags) t) ∧
        (flags < 2 ^ r.flagCount → (s.recordAt r).count.toNat = count →
          result = .ok ∧
          (r ≠ .sect ∨ flags.testBit 1 = false ∨ (s.recordAt r).flags.getLsbD 1 = false ∨ s.supply.state = .good →
            (d.recordAt r).count = (s.recordAt r).count ∧
            ∀ k, k < 16 → (d.recordAt r).flags.getLsbD k = ((s.recordAt r).flags.getLsbD k && !flags.testBit k)) ∧
          (r = .sect → flags.testBit 1 → (s.recordAt r).flags.getLsbD 1 → s.supply.state = .low →
            (d.recordAt r).count = (s.recordAt r).count + 1 ∧ (d.recordAt r).flags.getLsbD 1) ∧
          (∀ k, r = .trunk k → flags.testBit 2 → (s.recordAt r).flags.getLsbD 2 → (d.trunk k).slips = 0) ∧
          (∀ l, d.feed l =
            if r = .loop l ∧ flags.testBit 0 ∧ (s.recordAt r).flags.getLsbD 0 ∧ (s.feed l).state = .tripped ∧
                (s.feed l).desired then
              { s.feed l with
                state := .settling
                settle := .running (s.param 14 * 8)
                trip := if 150 ≤ (s.feed l).current then some 0 else none
                opn := .stopped }
            else if r = .loop l ∧ flags.testBit 1 ∧ (s.recordAt r).flags.getLsbD 1 ∧ (s.feed l).state = .on then
              { s.feed l with opn := if (s.feed l).current < 4 then .running 0 else .stopped }
            else s.feed l) ∧
          (∀ l, r = .loop l → flags.testBit 0 → (s.recordAt r).flags.getLsbD 0 → (s.feed l).state = .tripped →
            (s.feed l).desired → .feedStateReport l .settling true ∈ d.handed) ∧
          (∀ q, d.record q = s.record q) ∧ ∀ r', r' ≠ r → d.recordAt r' = s.recordAt r'))

/-- LOOP-CONTROL (R23, R37, R38, R87, R163, R172). FEED-ON and FEED-OFF set the desired setting and move the feed by
the tables of R37 and R38; an action that changes the feed has its loop in the state that the feed asks for, and no
call left on a loop in OFF or UNPOWERED, before the REPLY is made: the order of that is the model's choice (log entry
53). RESTART sets STALE and, in RUN or DEGRADED, clears every call of the loop with cause RESTART, a CLEARING one
keeping its first cause; their acknowledgements are withdrawn, nothing is sent, and dispatch follows. TEST makes TEST
due in every entry. A loop above 7 is BAD-INDEX. The other loops and feeds stay. A complete block of the level monitor
is judged first (log entry 4), a post that is in the map no more has no bearer to release (log entry 21), a refused
request has no body (log entry 26), a stopped player keeps its cursor (log entry 56), and the STALE of a RESTART is a
moment at which the scheduler picks (log entry 61). -/
def Obligations.LoopControlActsOnItsLoop : Prop :=
  (∀ (t : Trunk) (l : LoopId) (s : State), (s.service t).executing = none →
    ∃ d u : State, exec (.loopControlFeedOn t l.val) s = .next u ∧
      Replied t (.loopControl l.val 0) .ok [] d u ∧
      ((s.feed l).state ≠ .off → (s.feed l).desired → d = s.asked (.loopControlFeedOn t l.val) t) ∧
      FeedCarried l (s.asked (.loopControlFeedOn t l.val) t) d ∧
      (d.feed l).desired ∧ (d.feed l).current = (s.feed l).current ∧
      ((s.feed l).state ≠ .off → d.feed l = { s.feed l with desired := true }) ∧
      ((s.feed l).state = .off → s.trippedLatched l →
        d.feed l = { s.feed l with desired := true, state := .tripped, settle := .stopped, trip := none, opn := .stopped }) ∧
      ((s.feed l).state = .off → s.trippedLatched l = false →
        (d.feed l).state = .settling ∧ (d.feed l).settle = .running (s.param 14 * 8) ∧ (d.feed l).opn = .stopped ∧
        (d.feed l).trip = if 150 ≤ (s.feed l).current then some 0 else none)) ∧
  (∀ (t : Trunk) (l : LoopId) (s : State), (s.service t).executing = none →
    ∃ d u : State, exec (.loopControlFeedOff t l.val) s = .next u ∧
      Replied t (.loopControl l.val 1) .ok [] d u ∧
      ((s.feed l).state = .off ∨ (s.feed l).state = .supplyOff → (s.feed l).desired = false →
        d = s.asked (.loopControlFeedOff t l.val) t) ∧
      FeedCarried l (s.asked (.loopControlFeedOff t l.val) t) d ∧
      ((s.feed l).state = .off ∨ (s.feed l).state = .supplyOff → d.feed l = { s.feed l with desired := false }) ∧
      ((s.feed l).state = .settling ∨ (s.feed l).state = .on ∨ (s.feed l).state = .tripped →
        d.feed l =
          { s.feed l with desired := false, state := .off, settle := .stopped, trip := none, opn := .stopped })) ∧
  (∀ (t : Trunk) (l : LoopId) (s : State), (s.service t).executing = none →
    ∃ d u : State, exec (.loopControlRestart t l.val) s = .next u ∧
      Replied t (.loopControl l.val 2) .ok [] d u ∧ (d.loop l).stale ∧ (d.loop l).epoch = (s.loop l).epoch ∧
      (d.loop l).state = (s.loop l).state ∧
      (d.loop l).map.map (fun e => (e.plate, e.tie)) = (s.loop l).map.map (fun e => (e.plate, e.tie)) ∧
      (∀ m, (d.feed m) = s.feed m) ∧ PickHanded d l ∧
      ((s.loop l).state.carries = false → OnlyLoop l (s.asked (.loopControlRestart t l.val) t) d ∧
        d.loop l = { s.loop l with stale := true }) ∧
      ((s.loop l).state.carries → ∃ v : State, d = v.dispatch ∧
        v = { s.asked (.loopControlRestart t l.val) t with
          contexts := v.contexts
          players := v.players
          paths := v.paths
          waiting := v.waiting
          trunkA := v.trunkA
          trunkB := v.trunkB
          loops := v.loops
          marks := v.marks
          handed := v.handed } ∧
        OnlyChannels s v ∧ (∀ m, m ≠ l → v.loop m = s.loop m) ∧
        (∀ c, (s.ctx c).state = .free ∨ (s.ctx c).loop ≠ l → v.ctx c = s.ctx c ∧ v.player c = s.player c ∧
          v.path c = s.path c ∧ (c ∈ v.waiting ↔ c ∈ s.waiting)) ∧
        (∀ k n, (∀ c, (s.ctx c).hasLeg ⟨k, n⟩ →
          (s.ctx c).state = .free ∨ (s.ctx c).state = .clearing ∨ (s.ctx c).loop ≠ l) → v.chan k n = s.chan k n) ∧
        ∀ c, (s.ctx c).state ≠ .free → (s.ctx c).loop = l → Withdrawn c s v ∧
          ((s.ctx c).state = .clearing → v.ctx c = s.ctx c) ∧
          ((s.ctx c).state ≠ .clearing →
            v.ctx c = (if (s.ctx c).bearer = none ∨ s.keyEntry c = none then
                (((s.catchBlock c).ctx c).cleared .restart).freed
              else ((s.catchBlock c).ctx c).cleared .restart) ∧
            c ∉ v.waiting ∧ v.player c = { s.player c with state := .idle, programme := none, segment := none } ∧
            (∀ g, (s.ctx c).hasLeg g → FreedTo (s.chan g.trunk g.chan) (v.chan g.trunk g.chan)) ∧
            ∀ b, (s.ctx c).bearer = some b → (s.keyEntry c).isSome →
              (s.bearer l b).st = .assigning ∨ (s.bearer l b).st = .live → v.bearer l b = ⟨.releasing, (s.bearer l b).entry⟩))) ∧
  (∀ (t : Trunk) (l : LoopId) (s : State), (s.service t).executing = none →
    ∃ d u : State, exec (.loopControlTest t l.val) s = .next u ∧
      Replied t (.loopControl l.val 3) .ok [] d u ∧ OnlyLoop l (s.asked (.loopControlTest t l.val) t) d ∧
      d.loop l = { s.loop l with
        map := (s.loop l).map.map (fun e => { e with cmd := { e.cmd with testDue := true } }) } ∧ PickHanded d l) ∧
  (∀ (t : Trunk) (loop : Nat) (i : Instr) (action : Nat) (s : State), (s.service t).executing = none → 8 ≤ loop →
    (i = .loopControlFeedOn t loop ∧ action = 0) ∨ (i = .loopControlFeedOff t loop ∧ action = 1) ∨
      (i = .loopControlRestart t loop ∧ action = 2) ∨ (i = .loopControlTest t loop ∧ action = 3) →
    ∃ u : State, exec i s = .next u ∧ Replied t (.loopControl loop action) .badIndex [] (s.asked i t) u)

/-- SECTION-RESTART (R18, R26, R88, R132, R159, R174, R175, R185): every call FREE with both generations kept, the
waiting list empty and its count 0; the acknowledgement withdrawn and the lamp CLEARED at the post of every call, where
it is in the map; no channel RESERVED or IN-USE; no bearer ASSIGNING or LIVE; every player IDLE; the scans in flight
marked; RESTART the one pending notice and RESTARTED latched; tables, settings, feeds, trunk states, signalling queues,
maps' plates and ties, epochs and loop states kept. What stands untaken in the hand-off list, raises and reports of the
loops, is taken after the restart: the model's choice (log entry 72). A call that was CLEARING takes the cause
SECTION-RESTART too, which follows R88 against R83: the model's choice (log entry 51). -/
def Obligations.SectionRestartClearsTheCallsAndKeepsTheTables : Prop :=
  ∀ (t : Trunk) (s : State), (s.service t).executing = none →
    ∃ d u : State, exec (.sectionRestart t) s = .next u ∧ Replied t .sectionRestart .ok [] d u ∧
      d = { s.asked (.sectionRestart t) t with
        contexts := d.contexts
        loops := d.loops
        trunkA := d.trunkA
        trunkB := d.trunkB
        players := d.players
        waiting := []
        entryCount := 0
        sectionFault := d.sectionFault
        marks := [(1, 0)]
        abandons := Vector.replicate 104 0
        abandonPosts := Vector.replicate 8 none
        handed := d.handed } ∧
      (∀ c, (d.ctx c).state = .free ∧ (d.ctx c).regGen = (s.ctx c).regGen ∧ (d.ctx c).offGen = (s.ctx c).offGen ∧
        (d.player c).state = .idle ∧
        ((s.ctx c).state ≠ .free → (d.ctx c).cause = some .sectionRestart ∧ (d.ctx c).offerTimer = .stopped ∧
          (d.ctx c).retryTimer = .stopped ∧ (d.ctx c).holdRunning = false)) ∧
      (∀ c e, (s.ctx c).state ≠ .free → s.keyEntry c = some e →
        ∃ e', d.entryAt (s.ctx c).loop (s.keyPos c) = some e' ∧ e'.cmd.ackReq = false ∧ e'.cmd.desiredLamp = .cleared) ∧
      (∀ (l : LoopId) (k : Nat) (e : MapEntry), (s.loop l).map[k]? = some e →
        (∀ c, (s.ctx c).state ≠ .free → (s.ctx c).loop = l → (s.keyEntry c).isSome → s.keyPos c ≠ k + 1) →
        ∃ e', (d.loop l).map[k]? = some e' ∧
          { e'.cmd with desiredBearer := none } = { e.cmd with desiredBearer := none }) ∧
      (∀ k n, FreedTo (s.chan k n) (d.chan k n)) ∧
      (∀ k, (d.trunk k).state = (s.trunk k).state ∧ (d.trunk k).sigQueue = (s.trunk k).sigQueue ∧
        (d.trunk k).holdover = (s.trunk k).holdover ∧ (d.trunk k).store = (s.trunk k).store) ∧
      (∀ l b, (d.bearer l b).st =
        if (s.bearer l b).st = .assigning ∨ (s.bearer l b).st = .live then .releasing else (s.bearer l b).st) ∧
      (∀ l, (d.loop l).flight = (s.loop l).flight.map (fun f => { f with marked := true }) ∧
        (d.loop l).epoch = (s.loop l).epoch ∧ (d.loop l).state = (s.loop l).state ∧
        (d.loop l).stale = (s.loop l).stale ∧ (d.loop l).errors = (s.loop l).errors ∧
        (d.loop l).map.map (fun e => (e.plate, e.tie)) = (s.loop l).map.map (fun e => (e.plate, e.tie))) ∧
      d.sectionFault.flags.getLsbD 0 ∧
      d.sectionFault.count = (if s.sectionFault.flags.getLsbD 0 then s.sectionFault.count else s.sectionFault.count + 1)

/-! ### Posts (R4, R6) -/

/-- The six events at a post (R4, R6): a button latches a class with ATTN; a change of hook, door or a health flag sets
ATTN, and no change does not; a restart sets RESTARTED and ATTN and loses request, lamp and bearer; a post that loses
power drops out, and one that regains it comes back restarted. Bypassed posts take none of the first five, a newer
class is latched over an older one, and a fitted or re-powered post comes up restarted with ATTN set: the model's
choices (log entry 8). The hook bit stands for a hands-free call too: the model's choice (log entry 73). Only that post, or that ring, changes. -/
def Obligations.PostEventsSetAttention : Prop :=
  ∀ (l : LoopId) (place : Nat) (p : Post) (s : State), (s.ring l).posts[place]? = some p →
    (∀ (i : Instr) (p' : Post),
      (∃ cls, i = .callButtonPress l place cls ∧
        p' = if p.live then { p with req := some cls, attn := true } else p) ∨
      (∃ off, i = .hookChange l place off ∧
        p' = if p.live ∧ p.offHook ≠ off then { p with offHook := off, attn := true } else p) ∨
      (∃ opn, i = .doorSwitchChange l place opn ∧
        p' = if p.live ∧ p.doorOpen ≠ opn then { p with doorOpen := opn, attn := true } else p) ∨
      (∃ flag on, i = .healthFlagChange l place flag on ∧
        p' = if p.live ∧ p.sensors.getLsbD flag.bit ≠ on then { p.setSensor flag on with attn := true } else p) ∨
      (i = .postPowerRestart l place ∧
        p' = if p.live then { p with attn := true, req := none, restarted := true, lamp := none, bearer := none }
          else p) ∨
      (i = .bypassRelayChange l (.losePower place) ∧ p' = { p with live := false }) ∨
      (i = .bypassRelayChange l (.regainPower place) ∧
        p' = if p.live then p
          else { p with live := true, attn := true, req := none, restarted := true, lamp := none, bearer := none }) →
      ∃ u : State, exec i s = .next u ∧ u = { s with rings := u.rings, handed := s.handed.erase i } ∧
        (∀ m, m ≠ l → u.ring m = s.ring m) ∧ (u.ring l).transit = (s.ring l).transit ∧
        (u.ring l).posts[place]? = some p' ∧ ∀ k, k ≠ place → (u.ring l).posts[k]? = (s.ring l).posts[k]?) ∧
    (∃ u : State, exec (.bypassRelayChange l (.remove place)) s = .next u ∧
      u = { s with rings := u.rings, handed := s.handed.erase (.bypassRelayChange l (.remove place)) } ∧
      (∀ m, m ≠ l → u.ring m = s.ring m) ∧ (u.ring l).posts = (s.ring l).posts.eraseIdx place) ∧
    ∀ plate ok pass, ∃ u : State, exec (.bypassRelayChange l (.fit place plate ok pass)) s = .next u ∧
      u = { s with rings := u.rings, handed := s.handed.erase (.bypassRelayChange l (.fit place plate ok pass)) } ∧
      (∀ m, m ≠ l → u.ring m = s.ring m) ∧ ∃ q : Post, q.plate = plate ∧ q.live ∧ q.attn ∧ q.restarted ∧
        (u.ring l).posts = (s.ring l).posts.take place ++ q :: (s.ring l).posts.drop place
end

