-- ==== Sys2Proof/Laws/State.lean ====
section
/-! SUPPORT. What every update of State leaves in every field and what every accessor reads after it, one lemma each. -/

namespace Sys2Proof.Machine.State

open Sys2Proof

variable (s : State)

/-! ### setLoop -/

@[simp] theorem setLoop_pending (l : LoopId) (x : Loop) : (s.setLoop l x).pending = s.pending := rfl
@[simp] theorem setLoop_handed (l : LoopId) (x : Loop) : (s.setLoop l x).handed = s.handed := rfl
@[simp] theorem setLoop_rings (l : LoopId) (x : Loop) : (s.setLoop l x).rings = s.rings := rfl
@[simp] theorem setLoop_feeds (l : LoopId) (x : Loop) : (s.setLoop l x).feeds = s.feeds := rfl
@[simp] theorem setLoop_supply (l : LoopId) (x : Loop) : (s.setLoop l x).supply = s.supply := rfl
@[simp] theorem setLoop_directory (l : LoopId) (x : Loop) : (s.setLoop l x).directory = s.directory := rfl
@[simp] theorem setLoop_contexts (l : LoopId) (x : Loop) : (s.setLoop l x).contexts = s.contexts := rfl
@[simp] theorem setLoop_waiting (l : LoopId) (x : Loop) : (s.setLoop l x).waiting = s.waiting := rfl
@[simp] theorem setLoop_entryCount (l : LoopId) (x : Loop) : (s.setLoop l x).entryCount = s.entryCount := rfl
@[simp] theorem setLoop_routes (l : LoopId) (x : Loop) : (s.setLoop l x).routes = s.routes := rfl
@[simp] theorem setLoop_plan (l : LoopId) (x : Loop) : (s.setLoop l x).plan = s.plan := rfl
@[simp] theorem setLoop_trunkA (l : LoopId) (x : Loop) : (s.setLoop l x).trunkA = s.trunkA := rfl
@[simp] theorem setLoop_trunkB (l : LoopId) (x : Loop) : (s.setLoop l x).trunkB = s.trunkB := rfl
@[simp] theorem setLoop_paths (l : LoopId) (x : Loop) : (s.setLoop l x).paths = s.paths := rfl
@[simp] theorem setLoop_samples (l : LoopId) (x : Loop) : (s.setLoop l x).samples = s.samples := rfl
@[simp] theorem setLoop_segments (l : LoopId) (x : Loop) : (s.setLoop l x).segments = s.segments := rfl
@[simp] theorem setLoop_players (l : LoopId) (x : Loop) : (s.setLoop l x).players = s.players := rfl
@[simp] theorem setLoop_serviceA (l : LoopId) (x : Loop) : (s.setLoop l x).serviceA = s.serviceA := rfl
@[simp] theorem setLoop_serviceB (l : LoopId) (x : Loop) : (s.setLoop l x).serviceB = s.serviceB := rfl
@[simp] theorem setLoop_home (l : LoopId) (x : Loop) : (s.setLoop l x).home = s.home := rfl
@[simp] theorem setLoop_settings (l : LoopId) (x : Loop) : (s.setLoop l x).settings = s.settings := rfl
@[simp] theorem setLoop_sectionFault (l : LoopId) (x : Loop) : (s.setLoop l x).sectionFault = s.sectionFault := rfl
@[simp] theorem setLoop_trunkFaultA (l : LoopId) (x : Loop) : (s.setLoop l x).trunkFaultA = s.trunkFaultA := rfl
@[simp] theorem setLoop_trunkFaultB (l : LoopId) (x : Loop) : (s.setLoop l x).trunkFaultB = s.trunkFaultB := rfl
@[simp] theorem setLoop_loopFaults (l : LoopId) (x : Loop) : (s.setLoop l x).loopFaults = s.loopFaults := rfl
@[simp] theorem setLoop_postFaults (l : LoopId) (x : Loop) : (s.setLoop l x).postFaults = s.postFaults := rfl
@[simp] theorem setLoop_testResults (l : LoopId) (x : Loop) : (s.setLoop l x).testResults = s.testResults := rfl
@[simp] theorem setLoop_marks (l : LoopId) (x : Loop) : (s.setLoop l x).marks = s.marks := rfl
@[simp] theorem setLoop_abandons (l : LoopId) (x : Loop) : (s.setLoop l x).abandons = s.abandons := rfl
@[simp] theorem setLoop_abandonPosts (l : LoopId) (x : Loop) : (s.setLoop l x).abandonPosts = s.abandonPosts := rfl
@[simp] theorem setLoop_mask (l : LoopId) (x : Loop) : (s.setLoop l x).mask = s.mask := rfl
@[simp] theorem setLoop_loop (l : LoopId) (x : Loop) : (s.setLoop l x).loop l = x := by simp [setLoop, loop]
theorem setLoop_loop_of_ne (l : LoopId) (x : Loop) (m : LoopId) (h : l ≠ m) : (s.setLoop l x).loop m = s.loop m := by
  have : l.val ≠ m.val := fun e => h (Fin.ext e)
  simp [setLoop, loop, Vector.getElem_set_ne, this]
@[simp] theorem setLoop_ring (l : LoopId) (x : Loop) (m : LoopId) : (s.setLoop l x).ring m = s.ring m := rfl
@[simp] theorem setLoop_feed (l : LoopId) (x : Loop) (m : LoopId) : (s.setLoop l x).feed m = s.feed m := rfl
@[simp] theorem setLoop_record (l : LoopId) (x : Loop) (m : SlotId) : (s.setLoop l x).record m = s.record m := rfl
@[simp] theorem setLoop_ctx (l : LoopId) (x : Loop) (m : CtxId) : (s.setLoop l x).ctx m = s.ctx m := rfl
@[simp] theorem setLoop_trunk (l : LoopId) (x : Loop) (m : Trunk) : (s.setLoop l x).trunk m = s.trunk m := by cases m <;> rfl
@[simp] theorem setLoop_path (l : LoopId) (x : Loop) (m : CtxId) : (s.setLoop l x).path m = s.path m := rfl
@[simp] theorem setLoop_player (l : LoopId) (x : Loop) (m : CtxId) : (s.setLoop l x).player m = s.player m := rfl
@[simp] theorem setLoop_segment (l : LoopId) (x : Loop) (m : SegId) : (s.setLoop l x).segment m = s.segment m := rfl
@[simp] theorem setLoop_service (l : LoopId) (x : Loop) (m : Trunk) : (s.setLoop l x).service m = s.service m := by cases m <;> rfl
@[simp] theorem setLoop_param (l : LoopId) (x : Loop) (m : Fin 25) : (s.setLoop l x).param m = s.param m := rfl
@[simp] theorem setLoop_trunkFault (l : LoopId) (x : Loop) (m : Trunk) : (s.setLoop l x).trunkFault m = s.trunkFault m := by cases m <;> rfl
@[simp] theorem setLoop_loopFault (l : LoopId) (x : Loop) (m : LoopId) : (s.setLoop l x).loopFault m = s.loopFault m := rfl
@[simp] theorem setLoop_postFault (l : LoopId) (x : Loop) (m : SlotId) : (s.setLoop l x).postFault m = s.postFault m := rfl
@[simp] theorem setLoop_testResult (l : LoopId) (x : Loop) (m : SlotId) : (s.setLoop l x).testResult m = s.testResult m := rfl

/-! ### setRing -/

@[simp] theorem setRing_pending (l : LoopId) (x : Ring) : (s.setRing l x).pending = s.pending := rfl
@[simp] theorem setRing_handed (l : LoopId) (x : Ring) : (s.setRing l x).handed = s.handed := rfl
@[simp] theorem setRing_loops (l : LoopId) (x : Ring) : (s.setRing l x).loops = s.loops := rfl
@[simp] theorem setRing_feeds (l : LoopId) (x : Ring) : (s.setRing l x).feeds = s.feeds := rfl
@[simp] theorem setRing_supply (l : LoopId) (x : Ring) : (s.setRing l x).supply = s.supply := rfl
@[simp] theorem setRing_directory (l : LoopId) (x : Ring) : (s.setRing l x).directory = s.directory := rfl
@[simp] theorem setRing_contexts (l : LoopId) (x : Ring) : (s.setRing l x).contexts = s.contexts := rfl
@[simp] theorem setRing_waiting (l : LoopId) (x : Ring) : (s.setRing l x).waiting = s.waiting := rfl
@[simp] theorem setRing_entryCount (l : LoopId) (x : Ring) : (s.setRing l x).entryCount = s.entryCount := rfl
@[simp] theorem setRing_routes (l : LoopId) (x : Ring) : (s.setRing l x).routes = s.routes := rfl
@[simp] theorem setRing_plan (l : LoopId) (x : Ring) : (s.setRing l x).plan = s.plan := rfl
@[simp] theorem setRing_trunkA (l : LoopId) (x : Ring) : (s.setRing l x).trunkA = s.trunkA := rfl
@[simp] theorem setRing_trunkB (l : LoopId) (x : Ring) : (s.setRing l x).trunkB = s.trunkB := rfl
@[simp] theorem setRing_paths (l : LoopId) (x : Ring) : (s.setRing l x).paths = s.paths := rfl
@[simp] theorem setRing_samples (l : LoopId) (x : Ring) : (s.setRing l x).samples = s.samples := rfl
@[simp] theorem setRing_segments (l : LoopId) (x : Ring) : (s.setRing l x).segments = s.segments := rfl
@[simp] theorem setRing_players (l : LoopId) (x : Ring) : (s.setRing l x).players = s.players := rfl
@[simp] theorem setRing_serviceA (l : LoopId) (x : Ring) : (s.setRing l x).serviceA = s.serviceA := rfl
@[simp] theorem setRing_serviceB (l : LoopId) (x : Ring) : (s.setRing l x).serviceB = s.serviceB := rfl
@[simp] theorem setRing_home (l : LoopId) (x : Ring) : (s.setRing l x).home = s.home := rfl
@[simp] theorem setRing_settings (l : LoopId) (x : Ring) : (s.setRing l x).settings = s.settings := rfl
@[simp] theorem setRing_sectionFault (l : LoopId) (x : Ring) : (s.setRing l x).sectionFault = s.sectionFault := rfl
@[simp] theorem setRing_trunkFaultA (l : LoopId) (x : Ring) : (s.setRing l x).trunkFaultA = s.trunkFaultA := rfl
@[simp] theorem setRing_trunkFaultB (l : LoopId) (x : Ring) : (s.setRing l x).trunkFaultB = s.trunkFaultB := rfl
@[simp] theorem setRing_loopFaults (l : LoopId) (x : Ring) : (s.setRing l x).loopFaults = s.loopFaults := rfl
@[simp] theorem setRing_postFaults (l : LoopId) (x : Ring) : (s.setRing l x).postFaults = s.postFaults := rfl
@[simp] theorem setRing_testResults (l : LoopId) (x : Ring) : (s.setRing l x).testResults = s.testResults := rfl
@[simp] theorem setRing_marks (l : LoopId) (x : Ring) : (s.setRing l x).marks = s.marks := rfl
@[simp] theorem setRing_abandons (l : LoopId) (x : Ring) : (s.setRing l x).abandons = s.abandons := rfl
@[simp] theorem setRing_abandonPosts (l : LoopId) (x : Ring) : (s.setRing l x).abandonPosts = s.abandonPosts := rfl
@[simp] theorem setRing_mask (l : LoopId) (x : Ring) : (s.setRing l x).mask = s.mask := rfl
@[simp] theorem setRing_loop (l : LoopId) (x : Ring) (m : LoopId) : (s.setRing l x).loop m = s.loop m := rfl
@[simp] theorem setRing_ring (l : LoopId) (x : Ring) : (s.setRing l x).ring l = x := by simp [setRing, ring]
theorem setRing_ring_of_ne (l : LoopId) (x : Ring) (m : LoopId) (h : l ≠ m) : (s.setRing l x).ring m = s.ring m := by
  have : l.val ≠ m.val := fun e => h (Fin.ext e)
  simp [setRing, ring, Vector.getElem_set_ne, this]
@[simp] theorem setRing_feed (l : LoopId) (x : Ring) (m : LoopId) : (s.setRing l x).feed m = s.feed m := rfl
@[simp] theorem setRing_record (l : LoopId) (x : Ring) (m : SlotId) : (s.setRing l x).record m = s.record m := rfl
@[simp] theorem setRing_ctx (l : LoopId) (x : Ring) (m : CtxId) : (s.setRing l x).ctx m = s.ctx m := rfl
@[simp] theorem setRing_trunk (l : LoopId) (x : Ring) (m : Trunk) : (s.setRing l x).trunk m = s.trunk m := by cases m <;> rfl
@[simp] theorem setRing_path (l : LoopId) (x : Ring) (m : CtxId) : (s.setRing l x).path m = s.path m := rfl
@[simp] theorem setRing_player (l : LoopId) (x : Ring) (m : CtxId) : (s.setRing l x).player m = s.player m := rfl
@[simp] theorem setRing_segment (l : LoopId) (x : Ring) (m : SegId) : (s.setRing l x).segment m = s.segment m := rfl
@[simp] theorem setRing_service (l : LoopId) (x : Ring) (m : Trunk) : (s.setRing l x).service m = s.service m := by cases m <;> rfl
@[simp] theorem setRing_param (l : LoopId) (x : Ring) (m : Fin 25) : (s.setRing l x).param m = s.param m := rfl
@[simp] theorem setRing_trunkFault (l : LoopId) (x : Ring) (m : Trunk) : (s.setRing l x).trunkFault m = s.trunkFault m := by cases m <;> rfl
@[simp] theorem setRing_loopFault (l : LoopId) (x : Ring) (m : LoopId) : (s.setRing l x).loopFault m = s.loopFault m := rfl
@[simp] theorem setRing_postFault (l : LoopId) (x : Ring) (m : SlotId) : (s.setRing l x).postFault m = s.postFault m := rfl
@[simp] theorem setRing_testResult (l : LoopId) (x : Ring) (m : SlotId) : (s.setRing l x).testResult m = s.testResult m := rfl

/-! ### setFeed -/

@[simp] theorem setFeed_pending (l : LoopId) (x : Feed) : (s.setFeed l x).pending = s.pending := rfl
@[simp] theorem setFeed_handed (l : LoopId) (x : Feed) : (s.setFeed l x).handed = s.handed := rfl
@[simp] theorem setFeed_loops (l : LoopId) (x : Feed) : (s.setFeed l x).loops = s.loops := rfl
@[simp] theorem setFeed_rings (l : LoopId) (x : Feed) : (s.setFeed l x).rings = s.rings := rfl
@[simp] theorem setFeed_supply (l : LoopId) (x : Feed) : (s.setFeed l x).supply = s.supply := rfl
@[simp] theorem setFeed_directory (l : LoopId) (x : Feed) : (s.setFeed l x).directory = s.directory := rfl
@[simp] theorem setFeed_contexts (l : LoopId) (x : Feed) : (s.setFeed l x).contexts = s.contexts := rfl
@[simp] theorem setFeed_waiting (l : LoopId) (x : Feed) : (s.setFeed l x).waiting = s.waiting := rfl
@[simp] theorem setFeed_entryCount (l : LoopId) (x : Feed) : (s.setFeed l x).entryCount = s.entryCount := rfl
@[simp] theorem setFeed_routes (l : LoopId) (x : Feed) : (s.setFeed l x).routes = s.routes := rfl
@[simp] theorem setFeed_plan (l : LoopId) (x : Feed) : (s.setFeed l x).plan = s.plan := rfl
@[simp] theorem setFeed_trunkA (l : LoopId) (x : Feed) : (s.setFeed l x).trunkA = s.trunkA := rfl
@[simp] theorem setFeed_trunkB (l : LoopId) (x : Feed) : (s.setFeed l x).trunkB = s.trunkB := rfl
@[simp] theorem setFeed_paths (l : LoopId) (x : Feed) : (s.setFeed l x).paths = s.paths := rfl
@[simp] theorem setFeed_samples (l : LoopId) (x : Feed) : (s.setFeed l x).samples = s.samples := rfl
@[simp] theorem setFeed_segments (l : LoopId) (x : Feed) : (s.setFeed l x).segments = s.segments := rfl
@[simp] theorem setFeed_players (l : LoopId) (x : Feed) : (s.setFeed l x).players = s.players := rfl
@[simp] theorem setFeed_serviceA (l : LoopId) (x : Feed) : (s.setFeed l x).serviceA = s.serviceA := rfl
@[simp] theorem setFeed_serviceB (l : LoopId) (x : Feed) : (s.setFeed l x).serviceB = s.serviceB := rfl
@[simp] theorem setFeed_home (l : LoopId) (x : Feed) : (s.setFeed l x).home = s.home := rfl
@[simp] theorem setFeed_settings (l : LoopId) (x : Feed) : (s.setFeed l x).settings = s.settings := rfl
@[simp] theorem setFeed_sectionFault (l : LoopId) (x : Feed) : (s.setFeed l x).sectionFault = s.sectionFault := rfl
@[simp] theorem setFeed_trunkFaultA (l : LoopId) (x : Feed) : (s.setFeed l x).trunkFaultA = s.trunkFaultA := rfl
@[simp] theorem setFeed_trunkFaultB (l : LoopId) (x : Feed) : (s.setFeed l x).trunkFaultB = s.trunkFaultB := rfl
@[simp] theorem setFeed_loopFaults (l : LoopId) (x : Feed) : (s.setFeed l x).loopFaults = s.loopFaults := rfl
@[simp] theorem setFeed_postFaults (l : LoopId) (x : Feed) : (s.setFeed l x).postFaults = s.postFaults := rfl
@[simp] theorem setFeed_testResults (l : LoopId) (x : Feed) : (s.setFeed l x).testResults = s.testResults := rfl
@[simp] theorem setFeed_marks (l : LoopId) (x : Feed) : (s.setFeed l x).marks = s.marks := rfl
@[simp] theorem setFeed_abandons (l : LoopId) (x : Feed) : (s.setFeed l x).abandons = s.abandons := rfl
@[simp] theorem setFeed_abandonPosts (l : LoopId) (x : Feed) : (s.setFeed l x).abandonPosts = s.abandonPosts := rfl
@[simp] theorem setFeed_mask (l : LoopId) (x : Feed) : (s.setFeed l x).mask = s.mask := rfl
@[simp] theorem setFeed_loop (l : LoopId) (x : Feed) (m : LoopId) : (s.setFeed l x).loop m = s.loop m := rfl
@[simp] theorem setFeed_ring (l : LoopId) (x : Feed) (m : LoopId) : (s.setFeed l x).ring m = s.ring m := rfl
@[simp] theorem setFeed_feed (l : LoopId) (x : Feed) : (s.setFeed l x).feed l = x := by simp [setFeed, feed]
theorem setFeed_feed_of_ne (l : LoopId) (x : Feed) (m : LoopId) (h : l ≠ m) : (s.setFeed l x).feed m = s.feed m := by
  have : l.val ≠ m.val := fun e => h (Fin.ext e)
  simp [setFeed, feed, Vector.getElem_set_ne, this]
@[simp] theorem setFeed_record (l : LoopId) (x : Feed) (m : SlotId) : (s.setFeed l x).record m = s.record m := rfl
@[simp] theorem setFeed_ctx (l : LoopId) (x : Feed) (m : CtxId) : (s.setFeed l x).ctx m = s.ctx m := rfl
@[simp] theorem setFeed_trunk (l : LoopId) (x : Feed) (m : Trunk) : (s.setFeed l x).trunk m = s.trunk m := by cases m <;> rfl
@[simp] theorem setFeed_path (l : LoopId) (x : Feed) (m : CtxId) : (s.setFeed l x).path m = s.path m := rfl
@[simp] theorem setFeed_player (l : LoopId) (x : Feed) (m : CtxId) : (s.setFeed l x).player m = s.player m := rfl
@[simp] theorem setFeed_segment (l : LoopId) (x : Feed) (m : SegId) : (s.setFeed l x).segment m = s.segment m := rfl
@[simp] theorem setFeed_service (l : LoopId) (x : Feed) (m : Trunk) : (s.setFeed l x).service m = s.service m := by cases m <;> rfl
@[simp] theorem setFeed_param (l : LoopId) (x : Feed) (m : Fin 25) : (s.setFeed l x).param m = s.param m := rfl
@[simp] theorem setFeed_trunkFault (l : LoopId) (x : Feed) (m : Trunk) : (s.setFeed l x).trunkFault m = s.trunkFault m := by cases m <;> rfl
@[simp] theorem setFeed_loopFault (l : LoopId) (x : Feed) (m : LoopId) : (s.setFeed l x).loopFault m = s.loopFault m := rfl
@[simp] theorem setFeed_postFault (l : LoopId) (x : Feed) (m : SlotId) : (s.setFeed l x).postFault m = s.postFault m := rfl
@[simp] theorem setFeed_testResult (l : LoopId) (x : Feed) (m : SlotId) : (s.setFeed l x).testResult m = s.testResult m := rfl

/-! ### setSupply -/

@[simp] theorem setSupply_pending (x : Supply) : (s.setSupply x).pending = s.pending := rfl
@[simp] theorem setSupply_handed (x : Supply) : (s.setSupply x).handed = s.handed := rfl
@[simp] theorem setSupply_loops (x : Supply) : (s.setSupply x).loops = s.loops := rfl
@[simp] theorem setSupply_rings (x : Supply) : (s.setSupply x).rings = s.rings := rfl
@[simp] theorem setSupply_feeds (x : Supply) : (s.setSupply x).feeds = s.feeds := rfl
@[simp] theorem setSupply_directory (x : Supply) : (s.setSupply x).directory = s.directory := rfl
@[simp] theorem setSupply_contexts (x : Supply) : (s.setSupply x).contexts = s.contexts := rfl
@[simp] theorem setSupply_waiting (x : Supply) : (s.setSupply x).waiting = s.waiting := rfl
@[simp] theorem setSupply_entryCount (x : Supply) : (s.setSupply x).entryCount = s.entryCount := rfl
@[simp] theorem setSupply_routes (x : Supply) : (s.setSupply x).routes = s.routes := rfl
@[simp] theorem setSupply_plan (x : Supply) : (s.setSupply x).plan = s.plan := rfl
@[simp] theorem setSupply_trunkA (x : Supply) : (s.setSupply x).trunkA = s.trunkA := rfl
@[simp] theorem setSupply_trunkB (x : Supply) : (s.setSupply x).trunkB = s.trunkB := rfl
@[simp] theorem setSupply_paths (x : Supply) : (s.setSupply x).paths = s.paths := rfl
@[simp] theorem setSupply_samples (x : Supply) : (s.setSupply x).samples = s.samples := rfl
@[simp] theorem setSupply_segments (x : Supply) : (s.setSupply x).segments = s.segments := rfl
@[simp] theorem setSupply_players (x : Supply) : (s.setSupply x).players = s.players := rfl
@[simp] theorem setSupply_serviceA (x : Supply) : (s.setSupply x).serviceA = s.serviceA := rfl
@[simp] theorem setSupply_serviceB (x : Supply) : (s.setSupply x).serviceB = s.serviceB := rfl
@[simp] theorem setSupply_home (x : Supply) : (s.setSupply x).home = s.home := rfl
@[simp] theorem setSupply_settings (x : Supply) : (s.setSupply x).settings = s.settings := rfl
@[simp] theorem setSupply_sectionFault (x : Supply) : (s.setSupply x).sectionFault = s.sectionFault := rfl
@[simp] theorem setSupply_trunkFaultA (x : Supply) : (s.setSupply x).trunkFaultA = s.trunkFaultA := rfl
@[simp] theorem setSupply_trunkFaultB (x : Supply) : (s.setSupply x).trunkFaultB = s.trunkFaultB := rfl
@[simp] theorem setSupply_loopFaults (x : Supply) : (s.setSupply x).loopFaults = s.loopFaults := rfl
@[simp] theorem setSupply_postFaults (x : Supply) : (s.setSupply x).postFaults = s.postFaults := rfl
@[simp] theorem setSupply_testResults (x : Supply) : (s.setSupply x).testResults = s.testResults := rfl
@[simp] theorem setSupply_marks (x : Supply) : (s.setSupply x).marks = s.marks := rfl
@[simp] theorem setSupply_abandons (x : Supply) : (s.setSupply x).abandons = s.abandons := rfl
@[simp] theorem setSupply_abandonPosts (x : Supply) : (s.setSupply x).abandonPosts = s.abandonPosts := rfl
@[simp] theorem setSupply_mask (x : Supply) : (s.setSupply x).mask = s.mask := rfl
@[simp] theorem setSupply_loop (x : Supply) (m : LoopId) : (s.setSupply x).loop m = s.loop m := rfl
@[simp] theorem setSupply_ring (x : Supply) (m : LoopId) : (s.setSupply x).ring m = s.ring m := rfl
@[simp] theorem setSupply_feed (x : Supply) (m : LoopId) : (s.setSupply x).feed m = s.feed m := rfl
@[simp] theorem setSupply_record (x : Supply) (m : SlotId) : (s.setSupply x).record m = s.record m := rfl
@[simp] theorem setSupply_ctx (x : Supply) (m : CtxId) : (s.setSupply x).ctx m = s.ctx m := rfl
@[simp] theorem setSupply_trunk (x : Supply) (m : Trunk) : (s.setSupply x).trunk m = s.trunk m := by cases m <;> rfl
@[simp] theorem setSupply_path (x : Supply) (m : CtxId) : (s.setSupply x).path m = s.path m := rfl
@[simp] theorem setSupply_player (x : Supply) (m : CtxId) : (s.setSupply x).player m = s.player m := rfl
@[simp] theorem setSupply_segment (x : Supply) (m : SegId) : (s.setSupply x).segment m = s.segment m := rfl
@[simp] theorem setSupply_service (x : Supply) (m : Trunk) : (s.setSupply x).service m = s.service m := by cases m <;> rfl
@[simp] theorem setSupply_param (x : Supply) (m : Fin 25) : (s.setSupply x).param m = s.param m := rfl
@[simp] theorem setSupply_trunkFault (x : Supply) (m : Trunk) : (s.setSupply x).trunkFault m = s.trunkFault m := by cases m <;> rfl
@[simp] theorem setSupply_loopFault (x : Supply) (m : LoopId) : (s.setSupply x).loopFault m = s.loopFault m := rfl
@[simp] theorem setSupply_postFault (x : Supply) (m : SlotId) : (s.setSupply x).postFault m = s.postFault m := rfl
@[simp] theorem setSupply_testResult (x : Supply) (m : SlotId) : (s.setSupply x).testResult m = s.testResult m := rfl

/-! ### setRecord -/

@[simp] theorem setRecord_pending (q : SlotId) (x : PostRecord) : (s.setRecord q x).pending = s.pending := rfl
@[simp] theorem setRecord_handed (q : SlotId) (x : PostRecord) : (s.setRecord q x).handed = s.handed := rfl
@[simp] theorem setRecord_loops (q : SlotId) (x : PostRecord) : (s.setRecord q x).loops = s.loops := rfl
@[simp] theorem setRecord_rings (q : SlotId) (x : PostRecord) : (s.setRecord q x).rings = s.rings := rfl
@[simp] theorem setRecord_feeds (q : SlotId) (x : PostRecord) : (s.setRecord q x).feeds = s.feeds := rfl
@[simp] theorem setRecord_supply (q : SlotId) (x : PostRecord) : (s.setRecord q x).supply = s.supply := rfl
@[simp] theorem setRecord_contexts (q : SlotId) (x : PostRecord) : (s.setRecord q x).contexts = s.contexts := rfl
@[simp] theorem setRecord_waiting (q : SlotId) (x : PostRecord) : (s.setRecord q x).waiting = s.waiting := rfl
@[simp] theorem setRecord_entryCount (q : SlotId) (x : PostRecord) : (s.setRecord q x).entryCount = s.entryCount := rfl
@[simp] theorem setRecord_routes (q : SlotId) (x : PostRecord) : (s.setRecord q x).routes = s.routes := rfl
@[simp] theorem setRecord_plan (q : SlotId) (x : PostRecord) : (s.setRecord q x).plan = s.plan := rfl
@[simp] theorem setRecord_trunkA (q : SlotId) (x : PostRecord) : (s.setRecord q x).trunkA = s.trunkA := rfl
@[simp] theorem setRecord_trunkB (q : SlotId) (x : PostRecord) : (s.setRecord q x).trunkB = s.trunkB := rfl
@[simp] theorem setRecord_paths (q : SlotId) (x : PostRecord) : (s.setRecord q x).paths = s.paths := rfl
@[simp] theorem setRecord_samples (q : SlotId) (x : PostRecord) : (s.setRecord q x).samples = s.samples := rfl
@[simp] theorem setRecord_segments (q : SlotId) (x : PostRecord) : (s.setRecord q x).segments = s.segments := rfl
@[simp] theorem setRecord_players (q : SlotId) (x : PostRecord) : (s.setRecord q x).players = s.players := rfl
@[simp] theorem setRecord_serviceA (q : SlotId) (x : PostRecord) : (s.setRecord q x).serviceA = s.serviceA := rfl
@[simp] theorem setRecord_serviceB (q : SlotId) (x : PostRecord) : (s.setRecord q x).serviceB = s.serviceB := rfl
@[simp] theorem setRecord_home (q : SlotId) (x : PostRecord) : (s.setRecord q x).home = s.home := rfl
@[simp] theorem setRecord_settings (q : SlotId) (x : PostRecord) : (s.setRecord q x).settings = s.settings := rfl
@[simp] theorem setRecord_sectionFault (q : SlotId) (x : PostRecord) : (s.setRecord q x).sectionFault = s.sectionFault := rfl
@[simp] theorem setRecord_trunkFaultA (q : SlotId) (x : PostRecord) : (s.setRecord q x).trunkFaultA = s.trunkFaultA := rfl
@[simp] theorem setRecord_trunkFaultB (q : SlotId) (x : PostRecord) : (s.setRecord q x).trunkFaultB = s.trunkFaultB := rfl
@[simp] theorem setRecord_loopFaults (q : SlotId) (x : PostRecord) : (s.setRecord q x).loopFaults = s.loopFaults := rfl
@[simp] theorem setRecord_postFaults (q : SlotId) (x : PostRecord) : (s.setRecord q x).postFaults = s.postFaults := rfl
@[simp] theorem setRecord_testResults (q : SlotId) (x : PostRecord) : (s.setRecord q x).testResults = s.testResults := rfl
@[simp] theorem setRecord_marks (q : SlotId) (x : PostRecord) : (s.setRecord q x).marks = s.marks := rfl
@[simp] theorem setRecord_abandons (q : SlotId) (x : PostRecord) : (s.setRecord q x).abandons = s.abandons := rfl
@[simp] theorem setRecord_abandonPosts (q : SlotId) (x : PostRecord) : (s.setRecord q x).abandonPosts = s.abandonPosts := rfl
@[simp] theorem setRecord_mask (q : SlotId) (x : PostRecord) : (s.setRecord q x).mask = s.mask := rfl
@[simp] theorem setRecord_loop (q : SlotId) (x : PostRecord) (m : LoopId) : (s.setRecord q x).loop m = s.loop m := rfl
@[simp] theorem setRecord_ring (q : SlotId) (x : PostRecord) (m : LoopId) : (s.setRecord q x).ring m = s.ring m := rfl
@[simp] theorem setRecord_feed (q : SlotId) (x : PostRecord) (m : LoopId) : (s.setRecord q x).feed m = s.feed m := rfl
@[simp] theorem setRecord_record (q : SlotId) (x : PostRecord) : (s.setRecord q x).record q = x := by simp [setRecord, record]
theorem setRecord_record_of_ne (q : SlotId) (x : PostRecord) (m : SlotId) (h : q ≠ m) : (s.setRecord q x).record m = s.record m := by
  have : q.val ≠ m.val := fun e => h (Fin.ext e)
  simp [setRecord, record, Vector.getElem_set_ne, this]
@[simp] theorem setRecord_ctx (q : SlotId) (x : PostRecord) (m : CtxId) : (s.setRecord q x).ctx m = s.ctx m := rfl
@[simp] theorem setRecord_trunk (q : SlotId) (x : PostRecord) (m : Trunk) : (s.setRecord q x).trunk m = s.trunk m := by cases m <;> rfl
@[simp] theorem setRecord_path (q : SlotId) (x : PostRecord) (m : CtxId) : (s.setRecord q x).path m = s.path m := rfl
@[simp] theorem setRecord_player (q : SlotId) (x : PostRecord) (m : CtxId) : (s.setRecord q x).player m = s.player m := rfl
@[simp] theorem setRecord_segment (q : SlotId) (x : PostRecord) (m : SegId) : (s.setRecord q x).segment m = s.segment m := rfl
@[simp] theorem setRecord_service (q : SlotId) (x : PostRecord) (m : Trunk) : (s.setRecord q x).service m = s.service m := by cases m <;> rfl
@[simp] theorem setRecord_param (q : SlotId) (x : PostRecord) (m : Fin 25) : (s.setRecord q x).param m = s.param m := rfl
@[simp] theorem setRecord_trunkFault (q : SlotId) (x : PostRecord) (m : Trunk) : (s.setRecord q x).trunkFault m = s.trunkFault m := by cases m <;> rfl
@[simp] theorem setRecord_loopFault (q : SlotId) (x : PostRecord) (m : LoopId) : (s.setRecord q x).loopFault m = s.loopFault m := rfl
@[simp] theorem setRecord_postFault (q : SlotId) (x : PostRecord) (m : SlotId) : (s.setRecord q x).postFault m = s.postFault m := rfl
@[simp] theorem setRecord_testResult (q : SlotId) (x : PostRecord) (m : SlotId) : (s.setRecord q x).testResult m = s.testResult m := rfl

/-! ### setCtx -/

@[simp] theorem setCtx_pending (c : CtxId) (x : Ctx) : (s.setCtx c x).pending = s.pending := rfl
@[simp] theorem setCtx_handed (c : CtxId) (x : Ctx) : (s.setCtx c x).handed = s.handed := rfl
@[simp] theorem setCtx_loops (c : CtxId) (x : Ctx) : (s.setCtx c x).loops = s.loops := rfl
@[simp] theorem setCtx_rings (c : CtxId) (x : Ctx) : (s.setCtx c x).rings = s.rings := rfl
@[simp] theorem setCtx_feeds (c : CtxId) (x : Ctx) : (s.setCtx c x).feeds = s.feeds := rfl
@[simp] theorem setCtx_supply (c : CtxId) (x : Ctx) : (s.setCtx c x).supply = s.supply := rfl
@[simp] theorem setCtx_directory (c : CtxId) (x : Ctx) : (s.setCtx c x).directory = s.directory := rfl
@[simp] theorem setCtx_waiting (c : CtxId) (x : Ctx) : (s.setCtx c x).waiting = s.waiting := rfl
@[simp] theorem setCtx_entryCount (c : CtxId) (x : Ctx) : (s.setCtx c x).entryCount = s.entryCount := rfl
@[simp] theorem setCtx_routes (c : CtxId) (x : Ctx) : (s.setCtx c x).routes = s.routes := rfl
@[simp] theorem setCtx_plan (c : CtxId) (x : Ctx) : (s.setCtx c x).plan = s.plan := rfl
@[simp] theorem setCtx_trunkA (c : CtxId) (x : Ctx) : (s.setCtx c x).trunkA = s.trunkA := rfl
@[simp] theorem setCtx_trunkB (c : CtxId) (x : Ctx) : (s.setCtx c x).trunkB = s.trunkB := rfl
@[simp] theorem setCtx_paths (c : CtxId) (x : Ctx) : (s.setCtx c x).paths = s.paths := rfl
@[simp] theorem setCtx_samples (c : CtxId) (x : Ctx) : (s.setCtx c x).samples = s.samples := rfl
@[simp] theorem setCtx_segments (c : CtxId) (x : Ctx) : (s.setCtx c x).segments = s.segments := rfl
@[simp] theorem setCtx_players (c : CtxId) (x : Ctx) : (s.setCtx c x).players = s.players := rfl
@[simp] theorem setCtx_serviceA (c : CtxId) (x : Ctx) : (s.setCtx c x).serviceA = s.serviceA := rfl
@[simp] theorem setCtx_serviceB (c : CtxId) (x : Ctx) : (s.setCtx c x).serviceB = s.serviceB := rfl
@[simp] theorem setCtx_home (c : CtxId) (x : Ctx) : (s.setCtx c x).home = s.home := rfl
@[simp] theorem setCtx_settings (c : CtxId) (x : Ctx) : (s.setCtx c x).settings = s.settings := rfl
@[simp] theorem setCtx_sectionFault (c : CtxId) (x : Ctx) : (s.setCtx c x).sectionFault = s.sectionFault := rfl
@[simp] theorem setCtx_trunkFaultA (c : CtxId) (x : Ctx) : (s.setCtx c x).trunkFaultA = s.trunkFaultA := rfl
@[simp] theorem setCtx_trunkFaultB (c : CtxId) (x : Ctx) : (s.setCtx c x).trunkFaultB = s.trunkFaultB := rfl
@[simp] theorem setCtx_loopFaults (c : CtxId) (x : Ctx) : (s.setCtx c x).loopFaults = s.loopFaults := rfl
@[simp] theorem setCtx_postFaults (c : CtxId) (x : Ctx) : (s.setCtx c x).postFaults = s.postFaults := rfl
@[simp] theorem setCtx_testResults (c : CtxId) (x : Ctx) : (s.setCtx c x).testResults = s.testResults := rfl
@[simp] theorem setCtx_marks (c : CtxId) (x : Ctx) : (s.setCtx c x).marks = s.marks := rfl
@[simp] theorem setCtx_abandons (c : CtxId) (x : Ctx) : (s.setCtx c x).abandons = s.abandons := rfl
@[simp] theorem setCtx_abandonPosts (c : CtxId) (x : Ctx) : (s.setCtx c x).abandonPosts = s.abandonPosts := rfl
@[simp] theorem setCtx_mask (c : CtxId) (x : Ctx) : (s.setCtx c x).mask = s.mask := rfl
@[simp] theorem setCtx_loop (c : CtxId) (x : Ctx) (m : LoopId) : (s.setCtx c x).loop m = s.loop m := rfl
@[simp] theorem setCtx_ring (c : CtxId) (x : Ctx) (m : LoopId) : (s.setCtx c x).ring m = s.ring m := rfl
@[simp] theorem setCtx_feed (c : CtxId) (x : Ctx) (m : LoopId) : (s.setCtx c x).feed m = s.feed m := rfl
@[simp] theorem setCtx_record (c : CtxId) (x : Ctx) (m : SlotId) : (s.setCtx c x).record m = s.record m := rfl
@[simp] theorem setCtx_ctx (c : CtxId) (x : Ctx) : (s.setCtx c x).ctx c = x := by simp [setCtx, ctx]
theorem setCtx_ctx_of_ne (c : CtxId) (x : Ctx) (m : CtxId) (h : c ≠ m) : (s.setCtx c x).ctx m = s.ctx m := by
  have : c.val ≠ m.val := fun e => h (Fin.ext e)
  simp [setCtx, ctx, Vector.getElem_set_ne, this]
@[simp] theorem setCtx_trunk (c : CtxId) (x : Ctx) (m : Trunk) : (s.setCtx c x).trunk m = s.trunk m := by cases m <;> rfl
@[simp] theorem setCtx_path (c : CtxId) (x : Ctx) (m : CtxId) : (s.setCtx c x).path m = s.path m := rfl
@[simp] theorem setCtx_player (c : CtxId) (x : Ctx) (m : CtxId) : (s.setCtx c x).player m = s.player m := rfl
@[simp] theorem setCtx_segment (c : CtxId) (x : Ctx) (m : SegId) : (s.setCtx c x).segment m = s.segment m := rfl
@[simp] theorem setCtx_service (c : CtxId) (x : Ctx) (m : Trunk) : (s.setCtx c x).service m = s.service m := by cases m <;> rfl
@[simp] theorem setCtx_param (c : CtxId) (x : Ctx) (m : Fin 25) : (s.setCtx c x).param m = s.param m := rfl
@[simp] theorem setCtx_trunkFault (c : CtxId) (x : Ctx) (m : Trunk) : (s.setCtx c x).trunkFault m = s.trunkFault m := by cases m <;> rfl
@[simp] theorem setCtx_loopFault (c : CtxId) (x : Ctx) (m : LoopId) : (s.setCtx c x).loopFault m = s.loopFault m := rfl
@[simp] theorem setCtx_postFault (c : CtxId) (x : Ctx) (m : SlotId) : (s.setCtx c x).postFault m = s.postFault m := rfl
@[simp] theorem setCtx_testResult (c : CtxId) (x : Ctx) (m : SlotId) : (s.setCtx c x).testResult m = s.testResult m := rfl

/-! ### setTrunk -/

@[simp] theorem setTrunk_pending (t : Trunk) (x : TrunkIf) : (s.setTrunk t x).pending = s.pending := by cases t <;> rfl
@[simp] theorem setTrunk_handed (t : Trunk) (x : TrunkIf) : (s.setTrunk t x).handed = s.handed := by cases t <;> rfl
@[simp] theorem setTrunk_loops (t : Trunk) (x : TrunkIf) : (s.setTrunk t x).loops = s.loops := by cases t <;> rfl
@[simp] theorem setTrunk_rings (t : Trunk) (x : TrunkIf) : (s.setTrunk t x).rings = s.rings := by cases t <;> rfl
@[simp] theorem setTrunk_feeds (t : Trunk) (x : TrunkIf) : (s.setTrunk t x).feeds = s.feeds := by cases t <;> rfl
@[simp] theorem setTrunk_supply (t : Trunk) (x : TrunkIf) : (s.setTrunk t x).supply = s.supply := by cases t <;> rfl
@[simp] theorem setTrunk_directory (t : Trunk) (x : TrunkIf) : (s.setTrunk t x).directory = s.directory := by cases t <;> rfl
@[simp] theorem setTrunk_contexts (t : Trunk) (x : TrunkIf) : (s.setTrunk t x).contexts = s.contexts := by cases t <;> rfl
@[simp] theorem setTrunk_waiting (t : Trunk) (x : TrunkIf) : (s.setTrunk t x).waiting = s.waiting := by cases t <;> rfl
@[simp] theorem setTrunk_entryCount (t : Trunk) (x : TrunkIf) : (s.setTrunk t x).entryCount = s.entryCount := by cases t <;> rfl
@[simp] theorem setTrunk_routes (t : Trunk) (x : TrunkIf) : (s.setTrunk t x).routes = s.routes := by cases t <;> rfl
@[simp] theorem setTrunk_plan (t : Trunk) (x : TrunkIf) : (s.setTrunk t x).plan = s.plan := by cases t <;> rfl
@[simp] theorem setTrunk_paths (t : Trunk) (x : TrunkIf) : (s.setTrunk t x).paths = s.paths := by cases t <;> rfl
@[simp] theorem setTrunk_samples (t : Trunk) (x : TrunkIf) : (s.setTrunk t x).samples = s.samples := by cases t <;> rfl
@[simp] theorem setTrunk_segments (t : Trunk) (x : TrunkIf) : (s.setTrunk t x).segments = s.segments := by cases t <;> rfl
@[simp] theorem setTrunk_players (t : Trunk) (x : TrunkIf) : (s.setTrunk t x).players = s.players := by cases t <;> rfl
@[simp] theorem setTrunk_serviceA (t : Trunk) (x : TrunkIf) : (s.setTrunk t x).serviceA = s.serviceA := by cases t <;> rfl
@[simp] theorem setTrunk_serviceB (t : Trunk) (x : TrunkIf) : (s.setTrunk t x).serviceB = s.serviceB := by cases t <;> rfl
@[simp] theorem setTrunk_home (t : Trunk) (x : TrunkIf) : (s.setTrunk t x).home = s.home := by cases t <;> rfl
@[simp] theorem setTrunk_settings (t : Trunk) (x : TrunkIf) : (s.setTrunk t x).settings = s.settings := by cases t <;> rfl
@[simp] theorem setTrunk_sectionFault (t : Trunk) (x : TrunkIf) : (s.setTrunk t x).sectionFault = s.sectionFault := by cases t <;> rfl
@[simp] theorem setTrunk_trunkFaultA (t : Trunk) (x : TrunkIf) : (s.setTrunk t x).trunkFaultA = s.trunkFaultA := by cases t <;> rfl
@[simp] theorem setTrunk_trunkFaultB (t : Trunk) (x : TrunkIf) : (s.setTrunk t x).trunkFaultB = s.trunkFaultB := by cases t <;> rfl
@[simp] theorem setTrunk_loopFaults (t : Trunk) (x : TrunkIf) : (s.setTrunk t x).loopFaults = s.loopFaults := by cases t <;> rfl
@[simp] theorem setTrunk_postFaults (t : Trunk) (x : TrunkIf) : (s.setTrunk t x).postFaults = s.postFaults := by cases t <;> rfl
@[simp] theorem setTrunk_testResults (t : Trunk) (x : TrunkIf) : (s.setTrunk t x).testResults = s.testResults := by cases t <;> rfl
@[simp] theorem setTrunk_marks (t : Trunk) (x : TrunkIf) : (s.setTrunk t x).marks = s.marks := by cases t <;> rfl
@[simp] theorem setTrunk_abandons (t : Trunk) (x : TrunkIf) : (s.setTrunk t x).abandons = s.abandons := by cases t <;> rfl
@[simp] theorem setTrunk_abandonPosts (t : Trunk) (x : TrunkIf) : (s.setTrunk t x).abandonPosts = s.abandonPosts := by cases t <;> rfl
@[simp] theorem setTrunk_mask (t : Trunk) (x : TrunkIf) : (s.setTrunk t x).mask = s.mask := by cases t <;> rfl
@[simp] theorem setTrunk_loop (t : Trunk) (x : TrunkIf) (m : LoopId) : (s.setTrunk t x).loop m = s.loop m := by cases t <;> rfl
@[simp] theorem setTrunk_ring (t : Trunk) (x : TrunkIf) (m : LoopId) : (s.setTrunk t x).ring m = s.ring m := by cases t <;> rfl
@[simp] theorem setTrunk_feed (t : Trunk) (x : TrunkIf) (m : LoopId) : (s.setTrunk t x).feed m = s.feed m := by cases t <;> rfl
@[simp] theorem setTrunk_record (t : Trunk) (x : TrunkIf) (m : SlotId) : (s.setTrunk t x).record m = s.record m := by cases t <;> rfl
@[simp] theorem setTrunk_ctx (t : Trunk) (x : TrunkIf) (m : CtxId) : (s.setTrunk t x).ctx m = s.ctx m := by cases t <;> rfl
@[simp] theorem setTrunk_trunk (t : Trunk) (x : TrunkIf) : (s.setTrunk t x).trunk t = x := by cases t <;> rfl
theorem setTrunk_trunk_of_ne (t : Trunk) (x : TrunkIf) (m : Trunk) (h : t ≠ m) : (s.setTrunk t x).trunk m = s.trunk m := by
  cases t <;> cases m <;> first | rfl | exact absurd rfl h
@[simp] theorem setTrunk_path (t : Trunk) (x : TrunkIf) (m : CtxId) : (s.setTrunk t x).path m = s.path m := by cases t <;> rfl
@[simp] theorem setTrunk_player (t : Trunk) (x : TrunkIf) (m : CtxId) : (s.setTrunk t x).player m = s.player m := by cases t <;> rfl
@[simp] theorem setTrunk_segment (t : Trunk) (x : TrunkIf) (m : SegId) : (s.setTrunk t x).segment m = s.segment m := by cases t <;> rfl
@[simp] theorem setTrunk_service (t : Trunk) (x : TrunkIf) (m : Trunk) : (s.setTrunk t x).service m = s.service m := by cases m <;> (try cases t) <;> rfl
@[simp] theorem setTrunk_param (t : Trunk) (x : TrunkIf) (m : Fin 25) : (s.setTrunk t x).param m = s.param m := by cases t <;> rfl
@[simp] theorem setTrunk_trunkFault (t : Trunk) (x : TrunkIf) (m : Trunk) : (s.setTrunk t x).trunkFault m = s.trunkFault m := by cases m <;> (try cases t) <;> rfl
@[simp] theorem setTrunk_loopFault (t : Trunk) (x : TrunkIf) (m : LoopId) : (s.setTrunk t x).loopFault m = s.loopFault m := by cases t <;> rfl
@[simp] theorem setTrunk_postFault (t : Trunk) (x : TrunkIf) (m : SlotId) : (s.setTrunk t x).postFault m = s.postFault m := by cases t <;> rfl
@[simp] theorem setTrunk_testResult (t : Trunk) (x : TrunkIf) (m : SlotId) : (s.setTrunk t x).testResult m = s.testResult m := by cases t <;> rfl

/-! ### setPath -/

@[simp] theorem setPath_pending (c : CtxId) (x : Path) : (s.setPath c x).pending = s.pending := rfl
@[simp] theorem setPath_handed (c : CtxId) (x : Path) : (s.setPath c x).handed = s.handed := rfl
@[simp] theorem setPath_loops (c : CtxId) (x : Path) : (s.setPath c x).loops = s.loops := rfl
@[simp] theorem setPath_rings (c : CtxId) (x : Path) : (s.setPath c x).rings = s.rings := rfl
@[simp] theorem setPath_feeds (c : CtxId) (x : Path) : (s.setPath c x).feeds = s.feeds := rfl
@[simp] theorem setPath_supply (c : CtxId) (x : Path) : (s.setPath c x).supply = s.supply := rfl
@[simp] theorem setPath_directory (c : CtxId) (x : Path) : (s.setPath c x).directory = s.directory := rfl
@[simp] theorem setPath_contexts (c : CtxId) (x : Path) : (s.setPath c x).contexts = s.contexts := rfl
@[simp] theorem setPath_waiting (c : CtxId) (x : Path) : (s.setPath c x).waiting = s.waiting := rfl
@[simp] theorem setPath_entryCount (c : CtxId) (x : Path) : (s.setPath c x).entryCount = s.entryCount := rfl
@[simp] theorem setPath_routes (c : CtxId) (x : Path) : (s.setPath c x).routes = s.routes := rfl
@[simp] theorem setPath_plan (c : CtxId) (x : Path) : (s.setPath c x).plan = s.plan := rfl
@[simp] theorem setPath_trunkA (c : CtxId) (x : Path) : (s.setPath c x).trunkA = s.trunkA := rfl
@[simp] theorem setPath_trunkB (c : CtxId) (x : Path) : (s.setPath c x).trunkB = s.trunkB := rfl
@[simp] theorem setPath_samples (c : CtxId) (x : Path) : (s.setPath c x).samples = s.samples := rfl
@[simp] theorem setPath_segments (c : CtxId) (x : Path) : (s.setPath c x).segments = s.segments := rfl
@[simp] theorem setPath_players (c : CtxId) (x : Path) : (s.setPath c x).players = s.players := rfl
@[simp] theorem setPath_serviceA (c : CtxId) (x : Path) : (s.setPath c x).serviceA = s.serviceA := rfl
@[simp] theorem setPath_serviceB (c : CtxId) (x : Path) : (s.setPath c x).serviceB = s.serviceB := rfl
@[simp] theorem setPath_home (c : CtxId) (x : Path) : (s.setPath c x).home = s.home := rfl
@[simp] theorem setPath_settings (c : CtxId) (x : Path) : (s.setPath c x).settings = s.settings := rfl
@[simp] theorem setPath_sectionFault (c : CtxId) (x : Path) : (s.setPath c x).sectionFault = s.sectionFault := rfl
@[simp] theorem setPath_trunkFaultA (c : CtxId) (x : Path) : (s.setPath c x).trunkFaultA = s.trunkFaultA := rfl
@[simp] theorem setPath_trunkFaultB (c : CtxId) (x : Path) : (s.setPath c x).trunkFaultB = s.trunkFaultB := rfl
@[simp] theorem setPath_loopFaults (c : CtxId) (x : Path) : (s.setPath c x).loopFaults = s.loopFaults := rfl
@[simp] theorem setPath_postFaults (c : CtxId) (x : Path) : (s.setPath c x).postFaults = s.postFaults := rfl
@[simp] theorem setPath_testResults (c : CtxId) (x : Path) : (s.setPath c x).testResults = s.testResults := rfl
@[simp] theorem setPath_marks (c : CtxId) (x : Path) : (s.setPath c x).marks = s.marks := rfl
@[simp] theorem setPath_abandons (c : CtxId) (x : Path) : (s.setPath c x).abandons = s.abandons := rfl
@[simp] theorem setPath_abandonPosts (c : CtxId) (x : Path) : (s.setPath c x).abandonPosts = s.abandonPosts := rfl
@[simp] theorem setPath_mask (c : CtxId) (x : Path) : (s.setPath c x).mask = s.mask := rfl
@[simp] theorem setPath_loop (c : CtxId) (x : Path) (m : LoopId) : (s.setPath c x).loop m = s.loop m := rfl
@[simp] theorem setPath_ring (c : CtxId) (x : Path) (m : LoopId) : (s.setPath c x).ring m = s.ring m := rfl
@[simp] theorem setPath_feed (c : CtxId) (x : Path) (m : LoopId) : (s.setPath c x).feed m = s.feed m := rfl
@[simp] theorem setPath_record (c : CtxId) (x : Path) (m : SlotId) : (s.setPath c x).record m = s.record m := rfl
@[simp] theorem setPath_ctx (c : CtxId) (x : Path) (m : CtxId) : (s.setPath c x).ctx m = s.ctx m := rfl
@[simp] theorem setPath_trunk (c : CtxId) (x : Path) (m : Trunk) : (s.setPath c x).trunk m = s.trunk m := by cases m <;> rfl
@[simp] theorem setPath_path (c : CtxId) (x : Path) : (s.setPath c x).path c = x := by simp [setPath, path]
theorem setPath_path_of_ne (c : CtxId) (x : Path) (m : CtxId) (h : c ≠ m) : (s.setPath c x).path m = s.path m := by
  have : c.val ≠ m.val := fun e => h (Fin.ext e)
  simp [setPath, path, Vector.getElem_set_ne, this]
@[simp] theorem setPath_player (c : CtxId) (x : Path) (m : CtxId) : (s.setPath c x).player m = s.player m := rfl
@[simp] theorem setPath_segment (c : CtxId) (x : Path) (m : SegId) : (s.setPath c x).segment m = s.segment m := rfl
@[simp] theorem setPath_service (c : CtxId) (x : Path) (m : Trunk) : (s.setPath c x).service m = s.service m := by cases m <;> rfl
@[simp] theorem setPath_param (c : CtxId) (x : Path) (m : Fin 25) : (s.setPath c x).param m = s.param m := rfl
@[simp] theorem setPath_trunkFault (c : CtxId) (x : Path) (m : Trunk) : (s.setPath c x).trunkFault m = s.trunkFault m := by cases m <;> rfl
@[simp] theorem setPath_loopFault (c : CtxId) (x : Path) (m : LoopId) : (s.setPath c x).loopFault m = s.loopFault m := rfl
@[simp] theorem setPath_postFault (c : CtxId) (x : Path) (m : SlotId) : (s.setPath c x).postFault m = s.postFault m := rfl
@[simp] theorem setPath_testResult (c : CtxId) (x : Path) (m : SlotId) : (s.setPath c x).testResult m = s.testResult m := rfl

/-! ### setPlayer -/

@[simp] theorem setPlayer_pending (c : CtxId) (x : Player) : (s.setPlayer c x).pending = s.pending := rfl
@[simp] theorem setPlayer_handed (c : CtxId) (x : Player) : (s.setPlayer c x).handed = s.handed := rfl
@[simp] theorem setPlayer_loops (c : CtxId) (x : Player) : (s.setPlayer c x).loops = s.loops := rfl
@[simp] theorem setPlayer_rings (c : CtxId) (x : Player) : (s.setPlayer c x).rings = s.rings := rfl
@[simp] theorem setPlayer_feeds (c : CtxId) (x : Player) : (s.setPlayer c x).feeds = s.feeds := rfl
@[simp] theorem setPlayer_supply (c : CtxId) (x : Player) : (s.setPlayer c x).supply = s.supply := rfl
@[simp] theorem setPlayer_directory (c : CtxId) (x : Player) : (s.setPlayer c x).directory = s.directory := rfl
@[simp] theorem setPlayer_contexts (c : CtxId) (x : Player) : (s.setPlayer c x).contexts = s.contexts := rfl
@[simp] theorem setPlayer_waiting (c : CtxId) (x : Player) : (s.setPlayer c x).waiting = s.waiting := rfl
@[simp] theorem setPlayer_entryCount (c : CtxId) (x : Player) : (s.setPlayer c x).entryCount = s.entryCount := rfl
@[simp] theorem setPlayer_routes (c : CtxId) (x : Player) : (s.setPlayer c x).routes = s.routes := rfl
@[simp] theorem setPlayer_plan (c : CtxId) (x : Player) : (s.setPlayer c x).plan = s.plan := rfl
@[simp] theorem setPlayer_trunkA (c : CtxId) (x : Player) : (s.setPlayer c x).trunkA = s.trunkA := rfl
@[simp] theorem setPlayer_trunkB (c : CtxId) (x : Player) : (s.setPlayer c x).trunkB = s.trunkB := rfl
@[simp] theorem setPlayer_paths (c : CtxId) (x : Player) : (s.setPlayer c x).paths = s.paths := rfl
@[simp] theorem setPlayer_samples (c : CtxId) (x : Player) : (s.setPlayer c x).samples = s.samples := rfl
@[simp] theorem setPlayer_segments (c : CtxId) (x : Player) : (s.setPlayer c x).segments = s.segments := rfl
@[simp] theorem setPlayer_serviceA (c : CtxId) (x : Player) : (s.setPlayer c x).serviceA = s.serviceA := rfl
@[simp] theorem setPlayer_serviceB (c : CtxId) (x : Player) : (s.setPlayer c x).serviceB = s.serviceB := rfl
@[simp] theorem setPlayer_home (c : CtxId) (x : Player) : (s.setPlayer c x).home = s.home := rfl
@[simp] theorem setPlayer_settings (c : CtxId) (x : Player) : (s.setPlayer c x).settings = s.settings := rfl
@[simp] theorem setPlayer_sectionFault (c : CtxId) (x : Player) : (s.setPlayer c x).sectionFault = s.sectionFault := rfl
@[simp] theorem setPlayer_trunkFaultA (c : CtxId) (x : Player) : (s.setPlayer c x).trunkFaultA = s.trunkFaultA := rfl
@[simp] theorem setPlayer_trunkFaultB (c : CtxId) (x : Player) : (s.setPlayer c x).trunkFaultB = s.trunkFaultB := rfl
@[simp] theorem setPlayer_loopFaults (c : CtxId) (x : Player) : (s.setPlayer c x).loopFaults = s.loopFaults := rfl
@[simp] theorem setPlayer_postFaults (c : CtxId) (x : Player) : (s.setPlayer c x).postFaults = s.postFaults := rfl
@[simp] theorem setPlayer_testResults (c : CtxId) (x : Player) : (s.setPlayer c x).testResults = s.testResults := rfl
@[simp] theorem setPlayer_marks (c : CtxId) (x : Player) : (s.setPlayer c x).marks = s.marks := rfl
@[simp] theorem setPlayer_abandons (c : CtxId) (x : Player) : (s.setPlayer c x).abandons = s.abandons := rfl
@[simp] theorem setPlayer_abandonPosts (c : CtxId) (x : Player) : (s.setPlayer c x).abandonPosts = s.abandonPosts := rfl
@[simp] theorem setPlayer_mask (c : CtxId) (x : Player) : (s.setPlayer c x).mask = s.mask := rfl
@[simp] theorem setPlayer_loop (c : CtxId) (x : Player) (m : LoopId) : (s.setPlayer c x).loop m = s.loop m := rfl
@[simp] theorem setPlayer_ring (c : CtxId) (x : Player) (m : LoopId) : (s.setPlayer c x).ring m = s.ring m := rfl
@[simp] theorem setPlayer_feed (c : CtxId) (x : Player) (m : LoopId) : (s.setPlayer c x).feed m = s.feed m := rfl
@[simp] theorem setPlayer_record (c : CtxId) (x : Player) (m : SlotId) : (s.setPlayer c x).record m = s.record m := rfl
@[simp] theorem setPlayer_ctx (c : CtxId) (x : Player) (m : CtxId) : (s.setPlayer c x).ctx m = s.ctx m := rfl
@[simp] theorem setPlayer_trunk (c : CtxId) (x : Player) (m : Trunk) : (s.setPlayer c x).trunk m = s.trunk m := by cases m <;> rfl
@[simp] theorem setPlayer_path (c : CtxId) (x : Player) (m : CtxId) : (s.setPlayer c x).path m = s.path m := rfl
@[simp] theorem setPlayer_player (c : CtxId) (x : Player) : (s.setPlayer c x).player c = x := by simp [setPlayer, player]
theorem setPlayer_player_of_ne (c : CtxId) (x : Player) (m : CtxId) (h : c ≠ m) : (s.setPlayer c x).player m = s.player m := by
  have : c.val ≠ m.val := fun e => h (Fin.ext e)
  simp [setPlayer, player, Vector.getElem_set_ne, this]
@[simp] theorem setPlayer_segment (c : CtxId) (x : Player) (m : SegId) : (s.setPlayer c x).segment m = s.segment m := rfl
@[simp] theorem setPlayer_service (c : CtxId) (x : Player) (m : Trunk) : (s.setPlayer c x).service m = s.service m := by cases m <;> rfl
@[simp] theorem setPlayer_param (c : CtxId) (x : Player) (m : Fin 25) : (s.setPlayer c x).param m = s.param m := rfl
@[simp] theorem setPlayer_trunkFault (c : CtxId) (x : Player) (m : Trunk) : (s.setPlayer c x).trunkFault m = s.trunkFault m := by cases m <;> rfl
@[simp] theorem setPlayer_loopFault (c : CtxId) (x : Player) (m : LoopId) : (s.setPlayer c x).loopFault m = s.loopFault m := rfl
@[simp] theorem setPlayer_postFault (c : CtxId) (x : Player) (m : SlotId) : (s.setPlayer c x).postFault m = s.postFault m := rfl
@[simp] theorem setPlayer_testResult (c : CtxId) (x : Player) (m : SlotId) : (s.setPlayer c x).testResult m = s.testResult m := rfl

/-! ### setSegment -/

@[simp] theorem setSegment_pending (k : SegId) (x : SegRec) : (s.setSegment k x).pending = s.pending := rfl
@[simp] theorem setSegment_handed (k : SegId) (x : SegRec) : (s.setSegment k x).handed = s.handed := rfl
@[simp] theorem setSegment_loops (k : SegId) (x : SegRec) : (s.setSegment k x).loops = s.loops := rfl
@[simp] theorem setSegment_rings (k : SegId) (x : SegRec) : (s.setSegment k x).rings = s.rings := rfl
@[simp] theorem setSegment_feeds (k : SegId) (x : SegRec) : (s.setSegment k x).feeds = s.feeds := rfl
@[simp] theorem setSegment_supply (k : SegId) (x : SegRec) : (s.setSegment k x).supply = s.supply := rfl
@[simp] theorem setSegment_directory (k : SegId) (x : SegRec) : (s.setSegment k x).directory = s.directory := rfl
@[simp] theorem setSegment_contexts (k : SegId) (x : SegRec) : (s.setSegment k x).contexts = s.contexts := rfl
@[simp] theorem setSegment_waiting (k : SegId) (x : SegRec) : (s.setSegment k x).waiting = s.waiting := rfl
@[simp] theorem setSegment_entryCount (k : SegId) (x : SegRec) : (s.setSegment k x).entryCount = s.entryCount := rfl
@[simp] theorem setSegment_routes (k : SegId) (x : SegRec) : (s.setSegment k x).routes = s.routes := rfl
@[simp] theorem setSegment_plan (k : SegId) (x : SegRec) : (s.setSegment k x).plan = s.plan := rfl
@[simp] theorem setSegment_trunkA (k : SegId) (x : SegRec) : (s.setSegment k x).trunkA = s.trunkA := rfl
@[simp] theorem setSegment_trunkB (k : SegId) (x : SegRec) : (s.setSegment k x).trunkB = s.trunkB := rfl
@[simp] theorem setSegment_paths (k : SegId) (x : SegRec) : (s.setSegment k x).paths = s.paths := rfl
@[simp] theorem setSegment_samples (k : SegId) (x : SegRec) : (s.setSegment k x).samples = s.samples := rfl
@[simp] theorem setSegment_players (k : SegId) (x : SegRec) : (s.setSegment k x).players = s.players := rfl
@[simp] theorem setSegment_serviceA (k : SegId) (x : SegRec) : (s.setSegment k x).serviceA = s.serviceA := rfl
@[simp] theorem setSegment_serviceB (k : SegId) (x : SegRec) : (s.setSegment k x).serviceB = s.serviceB := rfl
@[simp] theorem setSegment_home (k : SegId) (x : SegRec) : (s.setSegment k x).home = s.home := rfl
@[simp] theorem setSegment_settings (k : SegId) (x : SegRec) : (s.setSegment k x).settings = s.settings := rfl
@[simp] theorem setSegment_sectionFault (k : SegId) (x : SegRec) : (s.setSegment k x).sectionFault = s.sectionFault := rfl
@[simp] theorem setSegment_trunkFaultA (k : SegId) (x : SegRec) : (s.setSegment k x).trunkFaultA = s.trunkFaultA := rfl
@[simp] theorem setSegment_trunkFaultB (k : SegId) (x : SegRec) : (s.setSegment k x).trunkFaultB = s.trunkFaultB := rfl
@[simp] theorem setSegment_loopFaults (k : SegId) (x : SegRec) : (s.setSegment k x).loopFaults = s.loopFaults := rfl
@[simp] theorem setSegment_postFaults (k : SegId) (x : SegRec) : (s.setSegment k x).postFaults = s.postFaults := rfl
@[simp] theorem setSegment_testResults (k : SegId) (x : SegRec) : (s.setSegment k x).testResults = s.testResults := rfl
@[simp] theorem setSegment_marks (k : SegId) (x : SegRec) : (s.setSegment k x).marks = s.marks := rfl
@[simp] theorem setSegment_abandons (k : SegId) (x : SegRec) : (s.setSegment k x).abandons = s.abandons := rfl
@[simp] theorem setSegment_abandonPosts (k : SegId) (x : SegRec) : (s.setSegment k x).abandonPosts = s.abandonPosts := rfl
@[simp] theorem setSegment_mask (k : SegId) (x : SegRec) : (s.setSegment k x).mask = s.mask := rfl
@[simp] theorem setSegment_loop (k : SegId) (x : SegRec) (m : LoopId) : (s.setSegment k x).loop m = s.loop m := rfl
@[simp] theorem setSegment_ring (k : SegId) (x : SegRec) (m : LoopId) : (s.setSegment k x).ring m = s.ring m := rfl
@[simp] theorem setSegment_feed (k : SegId) (x : SegRec) (m : LoopId) : (s.setSegment k x).feed m = s.feed m := rfl
@[simp] theorem setSegment_record (k : SegId) (x : SegRec) (m : SlotId) : (s.setSegment k x).record m = s.record m := rfl
@[simp] theorem setSegment_ctx (k : SegId) (x : SegRec) (m : CtxId) : (s.setSegment k x).ctx m = s.ctx m := rfl
@[simp] theorem setSegment_trunk (k : SegId) (x : SegRec) (m : Trunk) : (s.setSegment k x).trunk m = s.trunk m := by cases m <;> rfl
@[simp] theorem setSegment_path (k : SegId) (x : SegRec) (m : CtxId) : (s.setSegment k x).path m = s.path m := rfl
@[simp] theorem setSegment_player (k : SegId) (x : SegRec) (m : CtxId) : (s.setSegment k x).player m = s.player m := rfl
@[simp] theorem setSegment_segment (k : SegId) (x : SegRec) : (s.setSegment k x).segment k = x := by simp [setSegment, segment]
theorem setSegment_segment_of_ne (k : SegId) (x : SegRec) (m : SegId) (h : k ≠ m) : (s.setSegment k x).segment m = s.segment m := by
  have : k.val ≠ m.val := fun e => h (Fin.ext e)
  simp [setSegment, segment, Vector.getElem_set_ne, this]
@[simp] theorem setSegment_service (k : SegId) (x : SegRec) (m : Trunk) : (s.setSegment k x).service m = s.service m := by cases m <;> rfl
@[simp] theorem setSegment_param (k : SegId) (x : SegRec) (m : Fin 25) : (s.setSegment k x).param m = s.param m := rfl
@[simp] theorem setSegment_trunkFault (k : SegId) (x : SegRec) (m : Trunk) : (s.setSegment k x).trunkFault m = s.trunkFault m := by cases m <;> rfl
@[simp] theorem setSegment_loopFault (k : SegId) (x : SegRec) (m : LoopId) : (s.setSegment k x).loopFault m = s.loopFault m := rfl
@[simp] theorem setSegment_postFault (k : SegId) (x : SegRec) (m : SlotId) : (s.setSegment k x).postFault m = s.postFault m := rfl
@[simp] theorem setSegment_testResult (k : SegId) (x : SegRec) (m : SlotId) : (s.setSegment k x).testResult m = s.testResult m := rfl

/-! ### setService -/

@[simp] theorem setService_pending (t : Trunk) (x : Service) : (s.setService t x).pending = s.pending := by cases t <;> rfl
@[simp] theorem setService_handed (t : Trunk) (x : Service) : (s.setService t x).handed = s.handed := by cases t <;> rfl
@[simp] theorem setService_loops (t : Trunk) (x : Service) : (s.setService t x).loops = s.loops := by cases t <;> rfl
@[simp] theorem setService_rings (t : Trunk) (x : Service) : (s.setService t x).rings = s.rings := by cases t <;> rfl
@[simp] theorem setService_feeds (t : Trunk) (x : Service) : (s.setService t x).feeds = s.feeds := by cases t <;> rfl
@[simp] theorem setService_supply (t : Trunk) (x : Service) : (s.setService t x).supply = s.supply := by cases t <;> rfl
@[simp] theorem setService_directory (t : Trunk) (x : Service) : (s.setService t x).directory = s.directory := by cases t <;> rfl
@[simp] theorem setService_contexts (t : Trunk) (x : Service) : (s.setService t x).contexts = s.contexts := by cases t <;> rfl
@[simp] theorem setService_waiting (t : Trunk) (x : Service) : (s.setService t x).waiting = s.waiting := by cases t <;> rfl
@[simp] theorem setService_entryCount (t : Trunk) (x : Service) : (s.setService t x).entryCount = s.entryCount := by cases t <;> rfl
@[simp] theorem setService_routes (t : Trunk) (x : Service) : (s.setService t x).routes = s.routes := by cases t <;> rfl
@[simp] theorem setService_plan (t : Trunk) (x : Service) : (s.setService t x).plan = s.plan := by cases t <;> rfl
@[simp] theorem setService_trunkA (t : Trunk) (x : Service) : (s.setService t x).trunkA = s.trunkA := by cases t <;> rfl
@[simp] theorem setService_trunkB (t : Trunk) (x : Service) : (s.setService t x).trunkB = s.trunkB := by cases t <;> rfl
@[simp] theorem setService_paths (t : Trunk) (x : Service) : (s.setService t x).paths = s.paths := by cases t <;> rfl
@[simp] theorem setService_samples (t : Trunk) (x : Service) : (s.setService t x).samples = s.samples := by cases t <;> rfl
@[simp] theorem setService_segments (t : Trunk) (x : Service) : (s.setService t x).segments = s.segments := by cases t <;> rfl
@[simp] theorem setService_players (t : Trunk) (x : Service) : (s.setService t x).players = s.players := by cases t <;> rfl
@[simp] theorem setService_home (t : Trunk) (x : Service) : (s.setService t x).home = s.home := by cases t <;> rfl
@[simp] theorem setService_settings (t : Trunk) (x : Service) : (s.setService t x).settings = s.settings := by cases t <;> rfl
@[simp] theorem setService_sectionFault (t : Trunk) (x : Service) : (s.setService t x).sectionFault = s.sectionFault := by cases t <;> rfl
@[simp] theorem setService_trunkFaultA (t : Trunk) (x : Service) : (s.setService t x).trunkFaultA = s.trunkFaultA := by cases t <;> rfl
@[simp] theorem setService_trunkFaultB (t : Trunk) (x : Service) : (s.setService t x).trunkFaultB = s.trunkFaultB := by cases t <;> rfl
@[simp] theorem setService_loopFaults (t : Trunk) (x : Service) : (s.setService t x).loopFaults = s.loopFaults := by cases t <;> rfl
@[simp] theorem setService_postFaults (t : Trunk) (x : Service) : (s.setService t x).postFaults = s.postFaults := by cases t <;> rfl
@[simp] theorem setService_testResults (t : Trunk) (x : Service) : (s.setService t x).testResults = s.testResults := by cases t <;> rfl
@[simp] theorem setService_marks (t : Trunk) (x : Service) : (s.setService t x).marks = s.marks := by cases t <;> rfl
@[simp] theorem setService_abandons (t : Trunk) (x : Service) : (s.setService t x).abandons = s.abandons := by cases t <;> rfl
@[simp] theorem setService_abandonPosts (t : Trunk) (x : Service) : (s.setService t x).abandonPosts = s.abandonPosts := by cases t <;> rfl
@[simp] theorem setService_mask (t : Trunk) (x : Service) : (s.setService t x).mask = s.mask := by cases t <;> rfl
@[simp] theorem setService_loop (t : Trunk) (x : Service) (m : LoopId) : (s.setService t x).loop m = s.loop m := by cases t <;> rfl
@[simp] theorem setService_ring (t : Trunk) (x : Service) (m : LoopId) : (s.setService t x).ring m = s.ring m := by cases t <;> rfl
@[simp] theorem setService_feed (t : Trunk) (x : Service) (m : LoopId) : (s.setService t x).feed m = s.feed m := by cases t <;> rfl
@[simp] theorem setService_record (t : Trunk) (x : Service) (m : SlotId) : (s.setService t x).record m = s.record m := by cases t <;> rfl
@[simp] theorem setService_ctx (t : Trunk) (x : Service) (m : CtxId) : (s.setService t x).ctx m = s.ctx m := by cases t <;> rfl
@[simp] theorem setService_trunk (t : Trunk) (x : Service) (m : Trunk) : (s.setService t x).trunk m = s.trunk m := by cases m <;> (try cases t) <;> rfl
@[simp] theorem setService_path (t : Trunk) (x : Service) (m : CtxId) : (s.setService t x).path m = s.path m := by cases t <;> rfl
@[simp] theorem setService_player (t : Trunk) (x : Service) (m : CtxId) : (s.setService t x).player m = s.player m := by cases t <;> rfl
@[simp] theorem setService_segment (t : Trunk) (x : Service) (m : SegId) : (s.setService t x).segment m = s.segment m := by cases t <;> rfl
@[simp] theorem setService_service (t : Trunk) (x : Service) : (s.setService t x).service t = x := by cases t <;> rfl
theorem setService_service_of_ne (t : Trunk) (x : Service) (m : Trunk) (h : t ≠ m) : (s.setService t x).service m = s.service m := by
  cases t <;> cases m <;> first | rfl | exact absurd rfl h
@[simp] theorem setService_param (t : Trunk) (x : Service) (m : Fin 25) : (s.setService t x).param m = s.param m := by cases t <;> rfl
@[simp] theorem setService_trunkFault (t : Trunk) (x : Service) (m : Trunk) : (s.setService t x).trunkFault m = s.trunkFault m := by cases m <;> (try cases t) <;> rfl
@[simp] theorem setService_loopFault (t : Trunk) (x : Service) (m : LoopId) : (s.setService t x).loopFault m = s.loopFault m := by cases t <;> rfl
@[simp] theorem setService_postFault (t : Trunk) (x : Service) (m : SlotId) : (s.setService t x).postFault m = s.postFault m := by cases t <;> rfl
@[simp] theorem setService_testResult (t : Trunk) (x : Service) (m : SlotId) : (s.setService t x).testResult m = s.testResult m := by cases t <;> rfl

/-! ### setSamples -/

@[simp] theorem setSamples_pending (x : List Host.Cell) : (s.setSamples x).pending = s.pending := rfl
@[simp] theorem setSamples_handed (x : List Host.Cell) : (s.setSamples x).handed = s.handed := rfl
@[simp] theorem setSamples_loops (x : List Host.Cell) : (s.setSamples x).loops = s.loops := rfl
@[simp] theorem setSamples_rings (x : List Host.Cell) : (s.setSamples x).rings = s.rings := rfl
@[simp] theorem setSamples_feeds (x : List Host.Cell) : (s.setSamples x).feeds = s.feeds := rfl
@[simp] theorem setSamples_supply (x : List Host.Cell) : (s.setSamples x).supply = s.supply := rfl
@[simp] theorem setSamples_directory (x : List Host.Cell) : (s.setSamples x).directory = s.directory := rfl
@[simp] theorem setSamples_contexts (x : List Host.Cell) : (s.setSamples x).contexts = s.contexts := rfl
@[simp] theorem setSamples_waiting (x : List Host.Cell) : (s.setSamples x).waiting = s.waiting := rfl
@[simp] theorem setSamples_entryCount (x : List Host.Cell) : (s.setSamples x).entryCount = s.entryCount := rfl
@[simp] theorem setSamples_routes (x : List Host.Cell) : (s.setSamples x).routes = s.routes := rfl
@[simp] theorem setSamples_plan (x : List Host.Cell) : (s.setSamples x).plan = s.plan := rfl
@[simp] theorem setSamples_trunkA (x : List Host.Cell) : (s.setSamples x).trunkA = s.trunkA := rfl
@[simp] theorem setSamples_trunkB (x : List Host.Cell) : (s.setSamples x).trunkB = s.trunkB := rfl
@[simp] theorem setSamples_paths (x : List Host.Cell) : (s.setSamples x).paths = s.paths := rfl
@[simp] theorem setSamples_segments (x : List Host.Cell) : (s.setSamples x).segments = s.segments := rfl
@[simp] theorem setSamples_players (x : List Host.Cell) : (s.setSamples x).players = s.players := rfl
@[simp] theorem setSamples_serviceA (x : List Host.Cell) : (s.setSamples x).serviceA = s.serviceA := rfl
@[simp] theorem setSamples_serviceB (x : List Host.Cell) : (s.setSamples x).serviceB = s.serviceB := rfl
@[simp] theorem setSamples_home (x : List Host.Cell) : (s.setSamples x).home = s.home := rfl
@[simp] theorem setSamples_settings (x : List Host.Cell) : (s.setSamples x).settings = s.settings := rfl
@[simp] theorem setSamples_sectionFault (x : List Host.Cell) : (s.setSamples x).sectionFault = s.sectionFault := rfl
@[simp] theorem setSamples_trunkFaultA (x : List Host.Cell) : (s.setSamples x).trunkFaultA = s.trunkFaultA := rfl
@[simp] theorem setSamples_trunkFaultB (x : List Host.Cell) : (s.setSamples x).trunkFaultB = s.trunkFaultB := rfl
@[simp] theorem setSamples_loopFaults (x : List Host.Cell) : (s.setSamples x).loopFaults = s.loopFaults := rfl
@[simp] theorem setSamples_postFaults (x : List Host.Cell) : (s.setSamples x).postFaults = s.postFaults := rfl
@[simp] theorem setSamples_testResults (x : List Host.Cell) : (s.setSamples x).testResults = s.testResults := rfl
@[simp] theorem setSamples_marks (x : List Host.Cell) : (s.setSamples x).marks = s.marks := rfl
@[simp] theorem setSamples_abandons (x : List Host.Cell) : (s.setSamples x).abandons = s.abandons := rfl
@[simp] theorem setSamples_abandonPosts (x : List Host.Cell) : (s.setSamples x).abandonPosts = s.abandonPosts := rfl
@[simp] theorem setSamples_mask (x : List Host.Cell) : (s.setSamples x).mask = s.mask := rfl
@[simp] theorem setSamples_loop (x : List Host.Cell) (m : LoopId) : (s.setSamples x).loop m = s.loop m := rfl
@[simp] theorem setSamples_ring (x : List Host.Cell) (m : LoopId) : (s.setSamples x).ring m = s.ring m := rfl
@[simp] theorem setSamples_feed (x : List Host.Cell) (m : LoopId) : (s.setSamples x).feed m = s.feed m := rfl
@[simp] theorem setSamples_record (x : List Host.Cell) (m : SlotId) : (s.setSamples x).record m = s.record m := rfl
@[simp] theorem setSamples_ctx (x : List Host.Cell) (m : CtxId) : (s.setSamples x).ctx m = s.ctx m := rfl
@[simp] theorem setSamples_trunk (x : List Host.Cell) (m : Trunk) : (s.setSamples x).trunk m = s.trunk m := by cases m <;> rfl
@[simp] theorem setSamples_path (x : List Host.Cell) (m : CtxId) : (s.setSamples x).path m = s.path m := rfl
@[simp] theorem setSamples_player (x : List Host.Cell) (m : CtxId) : (s.setSamples x).player m = s.player m := rfl
@[simp] theorem setSamples_segment (x : List Host.Cell) (m : SegId) : (s.setSamples x).segment m = s.segment m := rfl
@[simp] theorem setSamples_service (x : List Host.Cell) (m : Trunk) : (s.setSamples x).service m = s.service m := by cases m <;> rfl
@[simp] theorem setSamples_param (x : List Host.Cell) (m : Fin 25) : (s.setSamples x).param m = s.param m := rfl
@[simp] theorem setSamples_trunkFault (x : List Host.Cell) (m : Trunk) : (s.setSamples x).trunkFault m = s.trunkFault m := by cases m <;> rfl
@[simp] theorem setSamples_loopFault (x : List Host.Cell) (m : LoopId) : (s.setSamples x).loopFault m = s.loopFault m := rfl
@[simp] theorem setSamples_postFault (x : List Host.Cell) (m : SlotId) : (s.setSamples x).postFault m = s.postFault m := rfl
@[simp] theorem setSamples_testResult (x : List Host.Cell) (m : SlotId) : (s.setSamples x).testResult m = s.testResult m := rfl

/-! ### setWaiting -/

@[simp] theorem setWaiting_pending (x : List CtxId) : (s.setWaiting x).pending = s.pending := rfl
@[simp] theorem setWaiting_handed (x : List CtxId) : (s.setWaiting x).handed = s.handed := rfl
@[simp] theorem setWaiting_loops (x : List CtxId) : (s.setWaiting x).loops = s.loops := rfl
@[simp] theorem setWaiting_rings (x : List CtxId) : (s.setWaiting x).rings = s.rings := rfl
@[simp] theorem setWaiting_feeds (x : List CtxId) : (s.setWaiting x).feeds = s.feeds := rfl
@[simp] theorem setWaiting_supply (x : List CtxId) : (s.setWaiting x).supply = s.supply := rfl
@[simp] theorem setWaiting_directory (x : List CtxId) : (s.setWaiting x).directory = s.directory := rfl
@[simp] theorem setWaiting_contexts (x : List CtxId) : (s.setWaiting x).contexts = s.contexts := rfl
@[simp] theorem setWaiting_entryCount (x : List CtxId) : (s.setWaiting x).entryCount = s.entryCount := rfl
@[simp] theorem setWaiting_routes (x : List CtxId) : (s.setWaiting x).routes = s.routes := rfl
@[simp] theorem setWaiting_plan (x : List CtxId) : (s.setWaiting x).plan = s.plan := rfl
@[simp] theorem setWaiting_trunkA (x : List CtxId) : (s.setWaiting x).trunkA = s.trunkA := rfl
@[simp] theorem setWaiting_trunkB (x : List CtxId) : (s.setWaiting x).trunkB = s.trunkB := rfl
@[simp] theorem setWaiting_paths (x : List CtxId) : (s.setWaiting x).paths = s.paths := rfl
@[simp] theorem setWaiting_samples (x : List CtxId) : (s.setWaiting x).samples = s.samples := rfl
@[simp] theorem setWaiting_segments (x : List CtxId) : (s.setWaiting x).segments = s.segments := rfl
@[simp] theorem setWaiting_players (x : List CtxId) : (s.setWaiting x).players = s.players := rfl
@[simp] theorem setWaiting_serviceA (x : List CtxId) : (s.setWaiting x).serviceA = s.serviceA := rfl
@[simp] theorem setWaiting_serviceB (x : List CtxId) : (s.setWaiting x).serviceB = s.serviceB := rfl
@[simp] theorem setWaiting_home (x : List CtxId) : (s.setWaiting x).home = s.home := rfl
@[simp] theorem setWaiting_settings (x : List CtxId) : (s.setWaiting x).settings = s.settings := rfl
@[simp] theorem setWaiting_sectionFault (x : List CtxId) : (s.setWaiting x).sectionFault = s.sectionFault := rfl
@[simp] theorem setWaiting_trunkFaultA (x : List CtxId) : (s.setWaiting x).trunkFaultA = s.trunkFaultA := rfl
@[simp] theorem setWaiting_trunkFaultB (x : List CtxId) : (s.setWaiting x).trunkFaultB = s.trunkFaultB := rfl
@[simp] theorem setWaiting_loopFaults (x : List CtxId) : (s.setWaiting x).loopFaults = s.loopFaults := rfl
@[simp] theorem setWaiting_postFaults (x : List CtxId) : (s.setWaiting x).postFaults = s.postFaults := rfl
@[simp] theorem setWaiting_testResults (x : List CtxId) : (s.setWaiting x).testResults = s.testResults := rfl
@[simp] theorem setWaiting_marks (x : List CtxId) : (s.setWaiting x).marks = s.marks := rfl
@[simp] theorem setWaiting_abandons (x : List CtxId) : (s.setWaiting x).abandons = s.abandons := rfl
@[simp] theorem setWaiting_abandonPosts (x : List CtxId) : (s.setWaiting x).abandonPosts = s.abandonPosts := rfl
@[simp] theorem setWaiting_mask (x : List CtxId) : (s.setWaiting x).mask = s.mask := rfl
@[simp] theorem setWaiting_loop (x : List CtxId) (m : LoopId) : (s.setWaiting x).loop m = s.loop m := rfl
@[simp] theorem setWaiting_ring (x : List CtxId) (m : LoopId) : (s.setWaiting x).ring m = s.ring m := rfl
@[simp] theorem setWaiting_feed (x : List CtxId) (m : LoopId) : (s.setWaiting x).feed m = s.feed m := rfl
@[simp] theorem setWaiting_record (x : List CtxId) (m : SlotId) : (s.setWaiting x).record m = s.record m := rfl
@[simp] theorem setWaiting_ctx (x : List CtxId) (m : CtxId) : (s.setWaiting x).ctx m = s.ctx m := rfl
@[simp] theorem setWaiting_trunk (x : List CtxId) (m : Trunk) : (s.setWaiting x).trunk m = s.trunk m := by cases m <;> rfl
@[simp] theorem setWaiting_path (x : List CtxId) (m : CtxId) : (s.setWaiting x).path m = s.path m := rfl
@[simp] theorem setWaiting_player (x : List CtxId) (m : CtxId) : (s.setWaiting x).player m = s.player m := rfl
@[simp] theorem setWaiting_segment (x : List CtxId) (m : SegId) : (s.setWaiting x).segment m = s.segment m := rfl
@[simp] theorem setWaiting_service (x : List CtxId) (m : Trunk) : (s.setWaiting x).service m = s.service m := by cases m <;> rfl
@[simp] theorem setWaiting_param (x : List CtxId) (m : Fin 25) : (s.setWaiting x).param m = s.param m := rfl
@[simp] theorem setWaiting_trunkFault (x : List CtxId) (m : Trunk) : (s.setWaiting x).trunkFault m = s.trunkFault m := by cases m <;> rfl
@[simp] theorem setWaiting_loopFault (x : List CtxId) (m : LoopId) : (s.setWaiting x).loopFault m = s.loopFault m := rfl
@[simp] theorem setWaiting_postFault (x : List CtxId) (m : SlotId) : (s.setWaiting x).postFault m = s.postFault m := rfl
@[simp] theorem setWaiting_testResult (x : List CtxId) (m : SlotId) : (s.setWaiting x).testResult m = s.testResult m := rfl

/-! ### setMarks -/

@[simp] theorem setMarks_pending (x : List (Nat × Nat)) : (s.setMarks x).pending = s.pending := rfl
@[simp] theorem setMarks_handed (x : List (Nat × Nat)) : (s.setMarks x).handed = s.handed := rfl
@[simp] theorem setMarks_loops (x : List (Nat × Nat)) : (s.setMarks x).loops = s.loops := rfl
@[simp] theorem setMarks_rings (x : List (Nat × Nat)) : (s.setMarks x).rings = s.rings := rfl
@[simp] theorem setMarks_feeds (x : List (Nat × Nat)) : (s.setMarks x).feeds = s.feeds := rfl
@[simp] theorem setMarks_supply (x : List (Nat × Nat)) : (s.setMarks x).supply = s.supply := rfl
@[simp] theorem setMarks_directory (x : List (Nat × Nat)) : (s.setMarks x).directory = s.directory := rfl
@[simp] theorem setMarks_contexts (x : List (Nat × Nat)) : (s.setMarks x).contexts = s.contexts := rfl
@[simp] theorem setMarks_waiting (x : List (Nat × Nat)) : (s.setMarks x).waiting = s.waiting := rfl
@[simp] theorem setMarks_entryCount (x : List (Nat × Nat)) : (s.setMarks x).entryCount = s.entryCount := rfl
@[simp] theorem setMarks_routes (x : List (Nat × Nat)) : (s.setMarks x).routes = s.routes := rfl
@[simp] theorem setMarks_plan (x : List (Nat × Nat)) : (s.setMarks x).plan = s.plan := rfl
@[simp] theorem setMarks_trunkA (x : List (Nat × Nat)) : (s.setMarks x).trunkA = s.trunkA := rfl
@[simp] theorem setMarks_trunkB (x : List (Nat × Nat)) : (s.setMarks x).trunkB = s.trunkB := rfl
@[simp] theorem setMarks_paths (x : List (Nat × Nat)) : (s.setMarks x).paths = s.paths := rfl
@[simp] theorem setMarks_samples (x : List (Nat × Nat)) : (s.setMarks x).samples = s.samples := rfl
@[simp] theorem setMarks_segments (x : List (Nat × Nat)) : (s.setMarks x).segments = s.segments := rfl
@[simp] theorem setMarks_players (x : List (Nat × Nat)) : (s.setMarks x).players = s.players := rfl
@[simp] theorem setMarks_serviceA (x : List (Nat × Nat)) : (s.setMarks x).serviceA = s.serviceA := rfl
@[simp] theorem setMarks_serviceB (x : List (Nat × Nat)) : (s.setMarks x).serviceB = s.serviceB := rfl
@[simp] theorem setMarks_home (x : List (Nat × Nat)) : (s.setMarks x).home = s.home := rfl
@[simp] theorem setMarks_settings (x : List (Nat × Nat)) : (s.setMarks x).settings = s.settings := rfl
@[simp] theorem setMarks_sectionFault (x : List (Nat × Nat)) : (s.setMarks x).sectionFault = s.sectionFault := rfl
@[simp] theorem setMarks_trunkFaultA (x : List (Nat × Nat)) : (s.setMarks x).trunkFaultA = s.trunkFaultA := rfl
@[simp] theorem setMarks_trunkFaultB (x : List (Nat × Nat)) : (s.setMarks x).trunkFaultB = s.trunkFaultB := rfl
@[simp] theorem setMarks_loopFaults (x : List (Nat × Nat)) : (s.setMarks x).loopFaults = s.loopFaults := rfl
@[simp] theorem setMarks_postFaults (x : List (Nat × Nat)) : (s.setMarks x).postFaults = s.postFaults := rfl
@[simp] theorem setMarks_testResults (x : List (Nat × Nat)) : (s.setMarks x).testResults = s.testResults := rfl
@[simp] theorem setMarks_abandons (x : List (Nat × Nat)) : (s.setMarks x).abandons = s.abandons := rfl
@[simp] theorem setMarks_abandonPosts (x : List (Nat × Nat)) : (s.setMarks x).abandonPosts = s.abandonPosts := rfl
@[simp] theorem setMarks_mask (x : List (Nat × Nat)) : (s.setMarks x).mask = s.mask := rfl
@[simp] theorem setMarks_loop (x : List (Nat × Nat)) (m : LoopId) : (s.setMarks x).loop m = s.loop m := rfl
@[simp] theorem setMarks_ring (x : List (Nat × Nat)) (m : LoopId) : (s.setMarks x).ring m = s.ring m := rfl
@[simp] theorem setMarks_feed (x : List (Nat × Nat)) (m : LoopId) : (s.setMarks x).feed m = s.feed m := rfl
@[simp] theorem setMarks_record (x : List (Nat × Nat)) (m : SlotId) : (s.setMarks x).record m = s.record m := rfl
@[simp] theorem setMarks_ctx (x : List (Nat × Nat)) (m : CtxId) : (s.setMarks x).ctx m = s.ctx m := rfl
@[simp] theorem setMarks_trunk (x : List (Nat × Nat)) (m : Trunk) : (s.setMarks x).trunk m = s.trunk m := by cases m <;> rfl
@[simp] theorem setMarks_path (x : List (Nat × Nat)) (m : CtxId) : (s.setMarks x).path m = s.path m := rfl
@[simp] theorem setMarks_player (x : List (Nat × Nat)) (m : CtxId) : (s.setMarks x).player m = s.player m := rfl
@[simp] theorem setMarks_segment (x : List (Nat × Nat)) (m : SegId) : (s.setMarks x).segment m = s.segment m := rfl
@[simp] theorem setMarks_service (x : List (Nat × Nat)) (m : Trunk) : (s.setMarks x).service m = s.service m := by cases m <;> rfl
@[simp] theorem setMarks_param (x : List (Nat × Nat)) (m : Fin 25) : (s.setMarks x).param m = s.param m := rfl
@[simp] theorem setMarks_trunkFault (x : List (Nat × Nat)) (m : Trunk) : (s.setMarks x).trunkFault m = s.trunkFault m := by cases m <;> rfl
@[simp] theorem setMarks_loopFault (x : List (Nat × Nat)) (m : LoopId) : (s.setMarks x).loopFault m = s.loopFault m := rfl
@[simp] theorem setMarks_postFault (x : List (Nat × Nat)) (m : SlotId) : (s.setMarks x).postFault m = s.postFault m := rfl
@[simp] theorem setMarks_testResult (x : List (Nat × Nat)) (m : SlotId) : (s.setMarks x).testResult m = s.testResult m := rfl

/-! ### setSectionFault -/

@[simp] theorem setSectionFault_pending (x : FaultRec) : (s.setSectionFault x).pending = s.pending := rfl
@[simp] theorem setSectionFault_handed (x : FaultRec) : (s.setSectionFault x).handed = s.handed := rfl
@[simp] theorem setSectionFault_loops (x : FaultRec) : (s.setSectionFault x).loops = s.loops := rfl
@[simp] theorem setSectionFault_rings (x : FaultRec) : (s.setSectionFault x).rings = s.rings := rfl
@[simp] theorem setSectionFault_feeds (x : FaultRec) : (s.setSectionFault x).feeds = s.feeds := rfl
@[simp] theorem setSectionFault_supply (x : FaultRec) : (s.setSectionFault x).supply = s.supply := rfl
@[simp] theorem setSectionFault_directory (x : FaultRec) : (s.setSectionFault x).directory = s.directory := rfl
@[simp] theorem setSectionFault_contexts (x : FaultRec) : (s.setSectionFault x).contexts = s.contexts := rfl
@[simp] theorem setSectionFault_waiting (x : FaultRec) : (s.setSectionFault x).waiting = s.waiting := rfl
@[simp] theorem setSectionFault_entryCount (x : FaultRec) : (s.setSectionFault x).entryCount = s.entryCount := rfl
@[simp] theorem setSectionFault_routes (x : FaultRec) : (s.setSectionFault x).routes = s.routes := rfl
@[simp] theorem setSectionFault_plan (x : FaultRec) : (s.setSectionFault x).plan = s.plan := rfl
@[simp] theorem setSectionFault_trunkA (x : FaultRec) : (s.setSectionFault x).trunkA = s.trunkA := rfl
@[simp] theorem setSectionFault_trunkB (x : FaultRec) : (s.setSectionFault x).trunkB = s.trunkB := rfl
@[simp] theorem setSectionFault_paths (x : FaultRec) : (s.setSectionFault x).paths = s.paths := rfl
@[simp] theorem setSectionFault_samples (x : FaultRec) : (s.setSectionFault x).samples = s.samples := rfl
@[simp] theorem setSectionFault_segments (x : FaultRec) : (s.setSectionFault x).segments = s.segments := rfl
@[simp] theorem setSectionFault_players (x : FaultRec) : (s.setSectionFault x).players = s.players := rfl
@[simp] theorem setSectionFault_serviceA (x : FaultRec) : (s.setSectionFault x).serviceA = s.serviceA := rfl
@[simp] theorem setSectionFault_serviceB (x : FaultRec) : (s.setSectionFault x).serviceB = s.serviceB := rfl
@[simp] theorem setSectionFault_home (x : FaultRec) : (s.setSectionFault x).home = s.home := rfl
@[simp] theorem setSectionFault_settings (x : FaultRec) : (s.setSectionFault x).settings = s.settings := rfl
@[simp] theorem setSectionFault_trunkFaultA (x : FaultRec) : (s.setSectionFault x).trunkFaultA = s.trunkFaultA := rfl
@[simp] theorem setSectionFault_trunkFaultB (x : FaultRec) : (s.setSectionFault x).trunkFaultB = s.trunkFaultB := rfl
@[simp] theorem setSectionFault_loopFaults (x : FaultRec) : (s.setSectionFault x).loopFaults = s.loopFaults := rfl
@[simp] theorem setSectionFault_postFaults (x : FaultRec) : (s.setSectionFault x).postFaults = s.postFaults := rfl
@[simp] theorem setSectionFault_testResults (x : FaultRec) : (s.setSectionFault x).testResults = s.testResults := rfl
@[simp] theorem setSectionFault_marks (x : FaultRec) : (s.setSectionFault x).marks = s.marks := rfl
@[simp] theorem setSectionFault_abandons (x : FaultRec) : (s.setSectionFault x).abandons = s.abandons := rfl
@[simp] theorem setSectionFault_abandonPosts (x : FaultRec) : (s.setSectionFault x).abandonPosts = s.abandonPosts := rfl
@[simp] theorem setSectionFault_mask (x : FaultRec) : (s.setSectionFault x).mask = s.mask := rfl
@[simp] theorem setSectionFault_loop (x : FaultRec) (m : LoopId) : (s.setSectionFault x).loop m = s.loop m := rfl
@[simp] theorem setSectionFault_ring (x : FaultRec) (m : LoopId) : (s.setSectionFault x).ring m = s.ring m := rfl
@[simp] theorem setSectionFault_feed (x : FaultRec) (m : LoopId) : (s.setSectionFault x).feed m = s.feed m := rfl
@[simp] theorem setSectionFault_record (x : FaultRec) (m : SlotId) : (s.setSectionFault x).record m = s.record m := rfl
@[simp] theorem setSectionFault_ctx (x : FaultRec) (m : CtxId) : (s.setSectionFault x).ctx m = s.ctx m := rfl
@[simp] theorem setSectionFault_trunk (x : FaultRec) (m : Trunk) : (s.setSectionFault x).trunk m = s.trunk m := by cases m <;> rfl
@[simp] theorem setSectionFault_path (x : FaultRec) (m : CtxId) : (s.setSectionFault x).path m = s.path m := rfl
@[simp] theorem setSectionFault_player (x : FaultRec) (m : CtxId) : (s.setSectionFault x).player m = s.player m := rfl
@[simp] theorem setSectionFault_segment (x : FaultRec) (m : SegId) : (s.setSectionFault x).segment m = s.segment m := rfl
@[simp] theorem setSectionFault_service (x : FaultRec) (m : Trunk) : (s.setSectionFault x).service m = s.service m := by cases m <;> rfl
@[simp] theorem setSectionFault_param (x : FaultRec) (m : Fin 25) : (s.setSectionFault x).param m = s.param m := rfl
@[simp] theorem setSectionFault_trunkFault (x : FaultRec) (m : Trunk) : (s.setSectionFault x).trunkFault m = s.trunkFault m := by cases m <;> rfl
@[simp] theorem setSectionFault_loopFault (x : FaultRec) (m : LoopId) : (s.setSectionFault x).loopFault m = s.loopFault m := rfl
@[simp] theorem setSectionFault_postFault (x : FaultRec) (m : SlotId) : (s.setSectionFault x).postFault m = s.postFault m := rfl
@[simp] theorem setSectionFault_testResult (x : FaultRec) (m : SlotId) : (s.setSectionFault x).testResult m = s.testResult m := rfl

/-! ### setTrunkFault -/

@[simp] theorem setTrunkFault_pending (t : Trunk) (x : FaultRec) : (s.setTrunkFault t x).pending = s.pending := by cases t <;> rfl
@[simp] theorem setTrunkFault_handed (t : Trunk) (x : FaultRec) : (s.setTrunkFault t x).handed = s.handed := by cases t <;> rfl
@[simp] theorem setTrunkFault_loops (t : Trunk) (x : FaultRec) : (s.setTrunkFault t x).loops = s.loops := by cases t <;> rfl
@[simp] theorem setTrunkFault_rings (t : Trunk) (x : FaultRec) : (s.setTrunkFault t x).rings = s.rings := by cases t <;> rfl
@[simp] theorem setTrunkFault_feeds (t : Trunk) (x : FaultRec) : (s.setTrunkFault t x).feeds = s.feeds := by cases t <;> rfl
@[simp] theorem setTrunkFault_supply (t : Trunk) (x : FaultRec) : (s.setTrunkFault t x).supply = s.supply := by cases t <;> rfl
@[simp] theorem setTrunkFault_directory (t : Trunk) (x : FaultRec) : (s.setTrunkFault t x).directory = s.directory := by cases t <;> rfl
@[simp] theorem setTrunkFault_contexts (t : Trunk) (x : FaultRec) : (s.setTrunkFault t x).contexts = s.contexts := by cases t <;> rfl
@[simp] theorem setTrunkFault_waiting (t : Trunk) (x : FaultRec) : (s.setTrunkFault t x).waiting = s.waiting := by cases t <;> rfl
@[simp] theorem setTrunkFault_entryCount (t : Trunk) (x : FaultRec) : (s.setTrunkFault t x).entryCount = s.entryCount := by cases t <;> rfl
@[simp] theorem setTrunkFault_routes (t : Trunk) (x : FaultRec) : (s.setTrunkFault t x).routes = s.routes := by cases t <;> rfl
@[simp] theorem setTrunkFault_plan (t : Trunk) (x : FaultRec) : (s.setTrunkFault t x).plan = s.plan := by cases t <;> rfl
@[simp] theorem setTrunkFault_trunkA (t : Trunk) (x : FaultRec) : (s.setTrunkFault t x).trunkA = s.trunkA := by cases t <;> rfl
@[simp] theorem setTrunkFault_trunkB (t : Trunk) (x : FaultRec) : (s.setTrunkFault t x).trunkB = s.trunkB := by cases t <;> rfl
@[simp] theorem setTrunkFault_paths (t : Trunk) (x : FaultRec) : (s.setTrunkFault t x).paths = s.paths := by cases t <;> rfl
@[simp] theorem setTrunkFault_samples (t : Trunk) (x : FaultRec) : (s.setTrunkFault t x).samples = s.samples := by cases t <;> rfl
@[simp] theorem setTrunkFault_segments (t : Trunk) (x : FaultRec) : (s.setTrunkFault t x).segments = s.segments := by cases t <;> rfl
@[simp] theorem setTrunkFault_players (t : Trunk) (x : FaultRec) : (s.setTrunkFault t x).players = s.players := by cases t <;> rfl
@[simp] theorem setTrunkFault_serviceA (t : Trunk) (x : FaultRec) : (s.setTrunkFault t x).serviceA = s.serviceA := by cases t <;> rfl
@[simp] theorem setTrunkFault_serviceB (t : Trunk) (x : FaultRec) : (s.setTrunkFault t x).serviceB = s.serviceB := by cases t <;> rfl
@[simp] theorem setTrunkFault_home (t : Trunk) (x : FaultRec) : (s.setTrunkFault t x).home = s.home := by cases t <;> rfl
@[simp] theorem setTrunkFault_settings (t : Trunk) (x : FaultRec) : (s.setTrunkFault t x).settings = s.settings := by cases t <;> rfl
@[simp] theorem setTrunkFault_sectionFault (t : Trunk) (x : FaultRec) : (s.setTrunkFault t x).sectionFault = s.sectionFault := by cases t <;> rfl
@[simp] theorem setTrunkFault_loopFaults (t : Trunk) (x : FaultRec) : (s.setTrunkFault t x).loopFaults = s.loopFaults := by cases t <;> rfl
@[simp] theorem setTrunkFault_postFaults (t : Trunk) (x : FaultRec) : (s.setTrunkFault t x).postFaults = s.postFaults := by cases t <;> rfl
@[simp] theorem setTrunkFault_testResults (t : Trunk) (x : FaultRec) : (s.setTrunkFault t x).testResults = s.testResults := by cases t <;> rfl
@[simp] theorem setTrunkFault_marks (t : Trunk) (x : FaultRec) : (s.setTrunkFault t x).marks = s.marks := by cases t <;> rfl
@[simp] theorem setTrunkFault_abandons (t : Trunk) (x : FaultRec) : (s.setTrunkFault t x).abandons = s.abandons := by cases t <;> rfl
@[simp] theorem setTrunkFault_abandonPosts (t : Trunk) (x : FaultRec) : (s.setTrunkFault t x).abandonPosts = s.abandonPosts := by cases t <;> rfl
@[simp] theorem setTrunkFault_mask (t : Trunk) (x : FaultRec) : (s.setTrunkFault t x).mask = s.mask := by cases t <;> rfl
@[simp] theorem setTrunkFault_loop (t : Trunk) (x : FaultRec) (m : LoopId) : (s.setTrunkFault t x).loop m = s.loop m := by cases t <;> rfl
@[simp] theorem setTrunkFault_ring (t : Trunk) (x : FaultRec) (m : LoopId) : (s.setTrunkFault t x).ring m = s.ring m := by cases t <;> rfl
@[simp] theorem setTrunkFault_feed (t : Trunk) (x : FaultRec) (m : LoopId) : (s.setTrunkFault t x).feed m = s.feed m := by cases t <;> rfl
@[simp] theorem setTrunkFault_record (t : Trunk) (x : FaultRec) (m : SlotId) : (s.setTrunkFault t x).record m = s.record m := by cases t <;> rfl
@[simp] theorem setTrunkFault_ctx (t : Trunk) (x : FaultRec) (m : CtxId) : (s.setTrunkFault t x).ctx m = s.ctx m := by cases t <;> rfl
@[simp] theorem setTrunkFault_trunk (t : Trunk) (x : FaultRec) (m : Trunk) : (s.setTrunkFault t x).trunk m = s.trunk m := by cases m <;> (try cases t) <;> rfl
@[simp] theorem setTrunkFault_path (t : Trunk) (x : FaultRec) (m : CtxId) : (s.setTrunkFault t x).path m = s.path m := by cases t <;> rfl
@[simp] theorem setTrunkFault_player (t : Trunk) (x : FaultRec) (m : CtxId) : (s.setTrunkFault t x).player m = s.player m := by cases t <;> rfl
@[simp] theorem setTrunkFault_segment (t : Trunk) (x : FaultRec) (m : SegId) : (s.setTrunkFault t x).segment m = s.segment m := by cases t <;> rfl
@[simp] theorem setTrunkFault_service (t : Trunk) (x : FaultRec) (m : Trunk) : (s.setTrunkFault t x).service m = s.service m := by cases m <;> (try cases t) <;> rfl
@[simp] theorem setTrunkFault_param (t : Trunk) (x : FaultRec) (m : Fin 25) : (s.setTrunkFault t x).param m = s.param m := by cases t <;> rfl
@[simp] theorem setTrunkFault_trunkFault (t : Trunk) (x : FaultRec) : (s.setTrunkFault t x).trunkFault t = x := by cases t <;> rfl
theorem setTrunkFault_trunkFault_of_ne (t : Trunk) (x : FaultRec) (m : Trunk) (h : t ≠ m) : (s.setTrunkFault t x).trunkFault m = s.trunkFault m := by
  cases t <;> cases m <;> first | rfl | exact absurd rfl h
@[simp] theorem setTrunkFault_loopFault (t : Trunk) (x : FaultRec) (m : LoopId) : (s.setTrunkFault t x).loopFault m = s.loopFault m := by cases t <;> rfl
@[simp] theorem setTrunkFault_postFault (t : Trunk) (x : FaultRec) (m : SlotId) : (s.setTrunkFault t x).postFault m = s.postFault m := by cases t <;> rfl
@[simp] theorem setTrunkFault_testResult (t : Trunk) (x : FaultRec) (m : SlotId) : (s.setTrunkFault t x).testResult m = s.testResult m := by cases t <;> rfl

/-! ### setLoopFault -/

@[simp] theorem setLoopFault_pending (l : LoopId) (x : FaultRec) : (s.setLoopFault l x).pending = s.pending := rfl
@[simp] theorem setLoopFault_handed (l : LoopId) (x : FaultRec) : (s.setLoopFault l x).handed = s.handed := rfl
@[simp] theorem setLoopFault_loops (l : LoopId) (x : FaultRec) : (s.setLoopFault l x).loops = s.loops := rfl
@[simp] theorem setLoopFault_rings (l : LoopId) (x : FaultRec) : (s.setLoopFault l x).rings = s.rings := rfl
@[simp] theorem setLoopFault_feeds (l : LoopId) (x : FaultRec) : (s.setLoopFault l x).feeds = s.feeds := rfl
@[simp] theorem setLoopFault_supply (l : LoopId) (x : FaultRec) : (s.setLoopFault l x).supply = s.supply := rfl
@[simp] theorem setLoopFault_directory (l : LoopId) (x : FaultRec) : (s.setLoopFault l x).directory = s.directory := rfl
@[simp] theorem setLoopFault_contexts (l : LoopId) (x : FaultRec) : (s.setLoopFault l x).contexts = s.contexts := rfl
@[simp] theorem setLoopFault_waiting (l : LoopId) (x : FaultRec) : (s.setLoopFault l x).waiting = s.waiting := rfl
@[simp] theorem setLoopFault_entryCount (l : LoopId) (x : FaultRec) : (s.setLoopFault l x).entryCount = s.entryCount := rfl
@[simp] theorem setLoopFault_routes (l : LoopId) (x : FaultRec) : (s.setLoopFault l x).routes = s.routes := rfl
@[simp] theorem setLoopFault_plan (l : LoopId) (x : FaultRec) : (s.setLoopFault l x).plan = s.plan := rfl
@[simp] theorem setLoopFault_trunkA (l : LoopId) (x : FaultRec) : (s.setLoopFault l x).trunkA = s.trunkA := rfl
@[simp] theorem setLoopFault_trunkB (l : LoopId) (x : FaultRec) : (s.setLoopFault l x).trunkB = s.trunkB := rfl
@[simp] theorem setLoopFault_paths (l : LoopId) (x : FaultRec) : (s.setLoopFault l x).paths = s.paths := rfl
@[simp] theorem setLoopFault_samples (l : LoopId) (x : FaultRec) : (s.setLoopFault l x).samples = s.samples := rfl
@[simp] theorem setLoopFault_segments (l : LoopId) (x : FaultRec) : (s.setLoopFault l x).segments = s.segments := rfl
@[simp] theorem setLoopFault_players (l : LoopId) (x : FaultRec) : (s.setLoopFault l x).players = s.players := rfl
@[simp] theorem setLoopFault_serviceA (l : LoopId) (x : FaultRec) : (s.setLoopFault l x).serviceA = s.serviceA := rfl
@[simp] theorem setLoopFault_serviceB (l : LoopId) (x : FaultRec) : (s.setLoopFault l x).serviceB = s.serviceB := rfl
@[simp] theorem setLoopFault_home (l : LoopId) (x : FaultRec) : (s.setLoopFault l x).home = s.home := rfl
@[simp] theorem setLoopFault_settings (l : LoopId) (x : FaultRec) : (s.setLoopFault l x).settings = s.settings := rfl
@[simp] theorem setLoopFault_sectionFault (l : LoopId) (x : FaultRec) : (s.setLoopFault l x).sectionFault = s.sectionFault := rfl
@[simp] theorem setLoopFault_trunkFaultA (l : LoopId) (x : FaultRec) : (s.setLoopFault l x).trunkFaultA = s.trunkFaultA := rfl
@[simp] theorem setLoopFault_trunkFaultB (l : LoopId) (x : FaultRec) : (s.setLoopFault l x).trunkFaultB = s.trunkFaultB := rfl
@[simp] theorem setLoopFault_postFaults (l : LoopId) (x : FaultRec) : (s.setLoopFault l x).postFaults = s.postFaults := rfl
@[simp] theorem setLoopFault_testResults (l : LoopId) (x : FaultRec) : (s.setLoopFault l x).testResults = s.testResults := rfl
@[simp] theorem setLoopFault_marks (l : LoopId) (x : FaultRec) : (s.setLoopFault l x).marks = s.marks := rfl
@[simp] theorem setLoopFault_abandons (l : LoopId) (x : FaultRec) : (s.setLoopFault l x).abandons = s.abandons := rfl
@[simp] theorem setLoopFault_abandonPosts (l : LoopId) (x : FaultRec) : (s.setLoopFault l x).abandonPosts = s.abandonPosts := rfl
@[simp] theorem setLoopFault_mask (l : LoopId) (x : FaultRec) : (s.setLoopFault l x).mask = s.mask := rfl
@[simp] theorem setLoopFault_loop (l : LoopId) (x : FaultRec) (m : LoopId) : (s.setLoopFault l x).loop m = s.loop m := rfl
@[simp] theorem setLoopFault_ring (l : LoopId) (x : FaultRec) (m : LoopId) : (s.setLoopFault l x).ring m = s.ring m := rfl
@[simp] theorem setLoopFault_feed (l : LoopId) (x : FaultRec) (m : LoopId) : (s.setLoopFault l x).feed m = s.feed m := rfl
@[simp] theorem setLoopFault_record (l : LoopId) (x : FaultRec) (m : SlotId) : (s.setLoopFault l x).record m = s.record m := rfl
@[simp] theorem setLoopFault_ctx (l : LoopId) (x : FaultRec) (m : CtxId) : (s.setLoopFault l x).ctx m = s.ctx m := rfl
@[simp] theorem setLoopFault_trunk (l : LoopId) (x : FaultRec) (m : Trunk) : (s.setLoopFault l x).trunk m = s.trunk m := by cases m <;> rfl
@[simp] theorem setLoopFault_path (l : LoopId) (x : FaultRec) (m : CtxId) : (s.setLoopFault l x).path m = s.path m := rfl
@[simp] theorem setLoopFault_player (l : LoopId) (x : FaultRec) (m : CtxId) : (s.setLoopFault l x).player m = s.player m := rfl
@[simp] theorem setLoopFault_segment (l : LoopId) (x : FaultRec) (m : SegId) : (s.setLoopFault l x).segment m = s.segment m := rfl
@[simp] theorem setLoopFault_service (l : LoopId) (x : FaultRec) (m : Trunk) : (s.setLoopFault l x).service m = s.service m := by cases m <;> rfl
@[simp] theorem setLoopFault_param (l : LoopId) (x : FaultRec) (m : Fin 25) : (s.setLoopFault l x).param m = s.param m := rfl
@[simp] theorem setLoopFault_trunkFault (l : LoopId) (x : FaultRec) (m : Trunk) : (s.setLoopFault l x).trunkFault m = s.trunkFault m := by cases m <;> rfl
@[simp] theorem setLoopFault_loopFault (l : LoopId) (x : FaultRec) : (s.setLoopFault l x).loopFault l = x := by simp [setLoopFault, loopFault]
theorem setLoopFault_loopFault_of_ne (l : LoopId) (x : FaultRec) (m : LoopId) (h : l ≠ m) : (s.setLoopFault l x).loopFault m = s.loopFault m := by
  have : l.val ≠ m.val := fun e => h (Fin.ext e)
  simp [setLoopFault, loopFault, Vector.getElem_set_ne, this]
@[simp] theorem setLoopFault_postFault (l : LoopId) (x : FaultRec) (m : SlotId) : (s.setLoopFault l x).postFault m = s.postFault m := rfl
@[simp] theorem setLoopFault_testResult (l : LoopId) (x : FaultRec) (m : SlotId) : (s.setLoopFault l x).testResult m = s.testResult m := rfl

/-! ### setPostFault -/

@[simp] theorem setPostFault_pending (q : SlotId) (x : FaultRec) : (s.setPostFault q x).pending = s.pending := rfl
@[simp] theorem setPostFault_handed (q : SlotId) (x : FaultRec) : (s.setPostFault q x).handed = s.handed := rfl
@[simp] theorem setPostFault_loops (q : SlotId) (x : FaultRec) : (s.setPostFault q x).loops = s.loops := rfl
@[simp] theorem setPostFault_rings (q : SlotId) (x : FaultRec) : (s.setPostFault q x).rings = s.rings := rfl
@[simp] theorem setPostFault_feeds (q : SlotId) (x : FaultRec) : (s.setPostFault q x).feeds = s.feeds := rfl
@[simp] theorem setPostFault_supply (q : SlotId) (x : FaultRec) : (s.setPostFault q x).supply = s.supply := rfl
@[simp] theorem setPostFault_directory (q : SlotId) (x : FaultRec) : (s.setPostFault q x).directory = s.directory := rfl
@[simp] theorem setPostFault_contexts (q : SlotId) (x : FaultRec) : (s.setPostFault q x).contexts = s.contexts := rfl
@[simp] theorem setPostFault_waiting (q : SlotId) (x : FaultRec) : (s.setPostFault q x).waiting = s.waiting := rfl
@[simp] theorem setPostFault_entryCount (q : SlotId) (x : FaultRec) : (s.setPostFault q x).entryCount = s.entryCount := rfl
@[simp] theorem setPostFault_routes (q : SlotId) (x : FaultRec) : (s.setPostFault q x).routes = s.routes := rfl
@[simp] theorem setPostFault_plan (q : SlotId) (x : FaultRec) : (s.setPostFault q x).plan = s.plan := rfl
@[simp] theorem setPostFault_trunkA (q : SlotId) (x : FaultRec) : (s.setPostFault q x).trunkA = s.trunkA := rfl
@[simp] theorem setPostFault_trunkB (q : SlotId) (x : FaultRec) : (s.setPostFault q x).trunkB = s.trunkB := rfl
@[simp] theorem setPostFault_paths (q : SlotId) (x : FaultRec) : (s.setPostFault q x).paths = s.paths := rfl
@[simp] theorem setPostFault_samples (q : SlotId) (x : FaultRec) : (s.setPostFault q x).samples = s.samples := rfl
@[simp] theorem setPostFault_segments (q : SlotId) (x : FaultRec) : (s.setPostFault q x).segments = s.segments := rfl
@[simp] theorem setPostFault_players (q : SlotId) (x : FaultRec) : (s.setPostFault q x).players = s.players := rfl
@[simp] theorem setPostFault_serviceA (q : SlotId) (x : FaultRec) : (s.setPostFault q x).serviceA = s.serviceA := rfl
@[simp] theorem setPostFault_serviceB (q : SlotId) (x : FaultRec) : (s.setPostFault q x).serviceB = s.serviceB := rfl
@[simp] theorem setPostFault_home (q : SlotId) (x : FaultRec) : (s.setPostFault q x).home = s.home := rfl
@[simp] theorem setPostFault_settings (q : SlotId) (x : FaultRec) : (s.setPostFault q x).settings = s.settings := rfl
@[simp] theorem setPostFault_sectionFault (q : SlotId) (x : FaultRec) : (s.setPostFault q x).sectionFault = s.sectionFault := rfl
@[simp] theorem setPostFault_trunkFaultA (q : SlotId) (x : FaultRec) : (s.setPostFault q x).trunkFaultA = s.trunkFaultA := rfl
@[simp] theorem setPostFault_trunkFaultB (q : SlotId) (x : FaultRec) : (s.setPostFault q x).trunkFaultB = s.trunkFaultB := rfl
@[simp] theorem setPostFault_loopFaults (q : SlotId) (x : FaultRec) : (s.setPostFault q x).loopFaults = s.loopFaults := rfl
@[simp] theorem setPostFault_testResults (q : SlotId) (x : FaultRec) : (s.setPostFault q x).testResults = s.testResults := rfl
@[simp] theorem setPostFault_marks (q : SlotId) (x : FaultRec) : (s.setPostFault q x).marks = s.marks := rfl
@[simp] theorem setPostFault_abandons (q : SlotId) (x : FaultRec) : (s.setPostFault q x).abandons = s.abandons := rfl
@[simp] theorem setPostFault_abandonPosts (q : SlotId) (x : FaultRec) : (s.setPostFault q x).abandonPosts = s.abandonPosts := rfl
@[simp] theorem setPostFault_mask (q : SlotId) (x : FaultRec) : (s.setPostFault q x).mask = s.mask := rfl
@[simp] theorem setPostFault_loop (q : SlotId) (x : FaultRec) (m : LoopId) : (s.setPostFault q x).loop m = s.loop m := rfl
@[simp] theorem setPostFault_ring (q : SlotId) (x : FaultRec) (m : LoopId) : (s.setPostFault q x).ring m = s.ring m := rfl
@[simp] theorem setPostFault_feed (q : SlotId) (x : FaultRec) (m : LoopId) : (s.setPostFault q x).feed m = s.feed m := rfl
@[simp] theorem setPostFault_record (q : SlotId) (x : FaultRec) (m : SlotId) : (s.setPostFault q x).record m = s.record m := rfl
@[simp] theorem setPostFault_ctx (q : SlotId) (x : FaultRec) (m : CtxId) : (s.setPostFault q x).ctx m = s.ctx m := rfl
@[simp] theorem setPostFault_trunk (q : SlotId) (x : FaultRec) (m : Trunk) : (s.setPostFault q x).trunk m = s.trunk m := by cases m <;> rfl
@[simp] theorem setPostFault_path (q : SlotId) (x : FaultRec) (m : CtxId) : (s.setPostFault q x).path m = s.path m := rfl
@[simp] theorem setPostFault_player (q : SlotId) (x : FaultRec) (m : CtxId) : (s.setPostFault q x).player m = s.player m := rfl
@[simp] theorem setPostFault_segment (q : SlotId) (x : FaultRec) (m : SegId) : (s.setPostFault q x).segment m = s.segment m := rfl
@[simp] theorem setPostFault_service (q : SlotId) (x : FaultRec) (m : Trunk) : (s.setPostFault q x).service m = s.service m := by cases m <;> rfl
@[simp] theorem setPostFault_param (q : SlotId) (x : FaultRec) (m : Fin 25) : (s.setPostFault q x).param m = s.param m := rfl
@[simp] theorem setPostFault_trunkFault (q : SlotId) (x : FaultRec) (m : Trunk) : (s.setPostFault q x).trunkFault m = s.trunkFault m := by cases m <;> rfl
@[simp] theorem setPostFault_loopFault (q : SlotId) (x : FaultRec) (m : LoopId) : (s.setPostFault q x).loopFault m = s.loopFault m := rfl
@[simp] theorem setPostFault_postFault (q : SlotId) (x : FaultRec) : (s.setPostFault q x).postFault q = x := by simp [setPostFault, postFault]
theorem setPostFault_postFault_of_ne (q : SlotId) (x : FaultRec) (m : SlotId) (h : q ≠ m) : (s.setPostFault q x).postFault m = s.postFault m := by
  have : q.val ≠ m.val := fun e => h (Fin.ext e)
  simp [setPostFault, postFault, Vector.getElem_set_ne, this]
@[simp] theorem setPostFault_testResult (q : SlotId) (x : FaultRec) (m : SlotId) : (s.setPostFault q x).testResult m = s.testResult m := rfl

/-! ### setTestResult -/

@[simp] theorem setTestResult_pending (q : SlotId) (x : TestResult) : (s.setTestResult q x).pending = s.pending := rfl
@[simp] theorem setTestResult_handed (q : SlotId) (x : TestResult) : (s.setTestResult q x).handed = s.handed := rfl
@[simp] theorem setTestResult_loops (q : SlotId) (x : TestResult) : (s.setTestResult q x).loops = s.loops := rfl
@[simp] theorem setTestResult_rings (q : SlotId) (x : TestResult) : (s.setTestResult q x).rings = s.rings := rfl
@[simp] theorem setTestResult_feeds (q : SlotId) (x : TestResult) : (s.setTestResult q x).feeds = s.feeds := rfl
@[simp] theorem setTestResult_supply (q : SlotId) (x : TestResult) : (s.setTestResult q x).supply = s.supply := rfl
@[simp] theorem setTestResult_directory (q : SlotId) (x : TestResult) : (s.setTestResult q x).directory = s.directory := rfl
@[simp] theorem setTestResult_contexts (q : SlotId) (x : TestResult) : (s.setTestResult q x).contexts = s.contexts := rfl
@[simp] theorem setTestResult_waiting (q : SlotId) (x : TestResult) : (s.setTestResult q x).waiting = s.waiting := rfl
@[simp] theorem setTestResult_entryCount (q : SlotId) (x : TestResult) : (s.setTestResult q x).entryCount = s.entryCount := rfl
@[simp] theorem setTestResult_routes (q : SlotId) (x : TestResult) : (s.setTestResult q x).routes = s.routes := rfl
@[simp] theorem setTestResult_plan (q : SlotId) (x : TestResult) : (s.setTestResult q x).plan = s.plan := rfl
@[simp] theorem setTestResult_trunkA (q : SlotId) (x : TestResult) : (s.setTestResult q x).trunkA = s.trunkA := rfl
@[simp] theorem setTestResult_trunkB (q : SlotId) (x : TestResult) : (s.setTestResult q x).trunkB = s.trunkB := rfl
@[simp] theorem setTestResult_paths (q : SlotId) (x : TestResult) : (s.setTestResult q x).paths = s.paths := rfl
@[simp] theorem setTestResult_samples (q : SlotId) (x : TestResult) : (s.setTestResult q x).samples = s.samples := rfl
@[simp] theorem setTestResult_segments (q : SlotId) (x : TestResult) : (s.setTestResult q x).segments = s.segments := rfl
@[simp] theorem setTestResult_players (q : SlotId) (x : TestResult) : (s.setTestResult q x).players = s.players := rfl
@[simp] theorem setTestResult_serviceA (q : SlotId) (x : TestResult) : (s.setTestResult q x).serviceA = s.serviceA := rfl
@[simp] theorem setTestResult_serviceB (q : SlotId) (x : TestResult) : (s.setTestResult q x).serviceB = s.serviceB := rfl
@[simp] theorem setTestResult_home (q : SlotId) (x : TestResult) : (s.setTestResult q x).home = s.home := rfl
@[simp] theorem setTestResult_settings (q : SlotId) (x : TestResult) : (s.setTestResult q x).settings = s.settings := rfl
@[simp] theorem setTestResult_sectionFault (q : SlotId) (x : TestResult) : (s.setTestResult q x).sectionFault = s.sectionFault := rfl
@[simp] theorem setTestResult_trunkFaultA (q : SlotId) (x : TestResult) : (s.setTestResult q x).trunkFaultA = s.trunkFaultA := rfl
@[simp] theorem setTestResult_trunkFaultB (q : SlotId) (x : TestResult) : (s.setTestResult q x).trunkFaultB = s.trunkFaultB := rfl
@[simp] theorem setTestResult_loopFaults (q : SlotId) (x : TestResult) : (s.setTestResult q x).loopFaults = s.loopFaults := rfl
@[simp] theorem setTestResult_postFaults (q : SlotId) (x : TestResult) : (s.setTestResult q x).postFaults = s.postFaults := rfl
@[simp] theorem setTestResult_marks (q : SlotId) (x : TestResult) : (s.setTestResult q x).marks = s.marks := rfl
@[simp] theorem setTestResult_abandons (q : SlotId) (x : TestResult) : (s.setTestResult q x).abandons = s.abandons := rfl
@[simp] theorem setTestResult_abandonPosts (q : SlotId) (x : TestResult) : (s.setTestResult q x).abandonPosts = s.abandonPosts := rfl
@[simp] theorem setTestResult_mask (q : SlotId) (x : TestResult) : (s.setTestResult q x).mask = s.mask := rfl
@[simp] theorem setTestResult_loop (q : SlotId) (x : TestResult) (m : LoopId) : (s.setTestResult q x).loop m = s.loop m := rfl
@[simp] theorem setTestResult_ring (q : SlotId) (x : TestResult) (m : LoopId) : (s.setTestResult q x).ring m = s.ring m := rfl
@[simp] theorem setTestResult_feed (q : SlotId) (x : TestResult) (m : LoopId) : (s.setTestResult q x).feed m = s.feed m := rfl
@[simp] theorem setTestResult_record (q : SlotId) (x : TestResult) (m : SlotId) : (s.setTestResult q x).record m = s.record m := rfl
@[simp] theorem setTestResult_ctx (q : SlotId) (x : TestResult) (m : CtxId) : (s.setTestResult q x).ctx m = s.ctx m := rfl
@[simp] theorem setTestResult_trunk (q : SlotId) (x : TestResult) (m : Trunk) : (s.setTestResult q x).trunk m = s.trunk m := by cases m <;> rfl
@[simp] theorem setTestResult_path (q : SlotId) (x : TestResult) (m : CtxId) : (s.setTestResult q x).path m = s.path m := rfl
@[simp] theorem setTestResult_player (q : SlotId) (x : TestResult) (m : CtxId) : (s.setTestResult q x).player m = s.player m := rfl
@[simp] theorem setTestResult_segment (q : SlotId) (x : TestResult) (m : SegId) : (s.setTestResult q x).segment m = s.segment m := rfl
@[simp] theorem setTestResult_service (q : SlotId) (x : TestResult) (m : Trunk) : (s.setTestResult q x).service m = s.service m := by cases m <;> rfl
@[simp] theorem setTestResult_param (q : SlotId) (x : TestResult) (m : Fin 25) : (s.setTestResult q x).param m = s.param m := rfl
@[simp] theorem setTestResult_trunkFault (q : SlotId) (x : TestResult) (m : Trunk) : (s.setTestResult q x).trunkFault m = s.trunkFault m := by cases m <;> rfl
@[simp] theorem setTestResult_loopFault (q : SlotId) (x : TestResult) (m : LoopId) : (s.setTestResult q x).loopFault m = s.loopFault m := rfl
@[simp] theorem setTestResult_postFault (q : SlotId) (x : TestResult) (m : SlotId) : (s.setTestResult q x).postFault m = s.postFault m := rfl
@[simp] theorem setTestResult_testResult (q : SlotId) (x : TestResult) : (s.setTestResult q x).testResult q = x := by simp [setTestResult, testResult]
theorem setTestResult_testResult_of_ne (q : SlotId) (x : TestResult) (m : SlotId) (h : q ≠ m) : (s.setTestResult q x).testResult m = s.testResult m := by
  have : q.val ≠ m.val := fun e => h (Fin.ext e)
  simp [setTestResult, testResult, Vector.getElem_set_ne, this]

/-! ### hand -/

@[simp] theorem hand_pending (i : Instr) : (s.hand i).pending = s.pending := rfl
@[simp] theorem hand_loops (i : Instr) : (s.hand i).loops = s.loops := rfl
@[simp] theorem hand_rings (i : Instr) : (s.hand i).rings = s.rings := rfl
@[simp] theorem hand_feeds (i : Instr) : (s.hand i).feeds = s.feeds := rfl
@[simp] theorem hand_supply (i : Instr) : (s.hand i).supply = s.supply := rfl
@[simp] theorem hand_directory (i : Instr) : (s.hand i).directory = s.directory := rfl
@[simp] theorem hand_contexts (i : Instr) : (s.hand i).contexts = s.contexts := rfl
@[simp] theorem hand_waiting (i : Instr) : (s.hand i).waiting = s.waiting := rfl
@[simp] theorem hand_entryCount (i : Instr) : (s.hand i).entryCount = s.entryCount := rfl
@[simp] theorem hand_routes (i : Instr) : (s.hand i).routes = s.routes := rfl
@[simp] theorem hand_plan (i : Instr) : (s.hand i).plan = s.plan := rfl
@[simp] theorem hand_trunkA (i : Instr) : (s.hand i).trunkA = s.trunkA := rfl
@[simp] theorem hand_trunkB (i : Instr) : (s.hand i).trunkB = s.trunkB := rfl
@[simp] theorem hand_paths (i : Instr) : (s.hand i).paths = s.paths := rfl
@[simp] theorem hand_samples (i : Instr) : (s.hand i).samples = s.samples := rfl
@[simp] theorem hand_segments (i : Instr) : (s.hand i).segments = s.segments := rfl
@[simp] theorem hand_players (i : Instr) : (s.hand i).players = s.players := rfl
@[simp] theorem hand_serviceA (i : Instr) : (s.hand i).serviceA = s.serviceA := rfl
@[simp] theorem hand_serviceB (i : Instr) : (s.hand i).serviceB = s.serviceB := rfl
@[simp] theorem hand_home (i : Instr) : (s.hand i).home = s.home := rfl
@[simp] theorem hand_settings (i : Instr) : (s.hand i).settings = s.settings := rfl
@[simp] theorem hand_sectionFault (i : Instr) : (s.hand i).sectionFault = s.sectionFault := rfl
@[simp] theorem hand_trunkFaultA (i : Instr) : (s.hand i).trunkFaultA = s.trunkFaultA := rfl
@[simp] theorem hand_trunkFaultB (i : Instr) : (s.hand i).trunkFaultB = s.trunkFaultB := rfl
@[simp] theorem hand_loopFaults (i : Instr) : (s.hand i).loopFaults = s.loopFaults := rfl
@[simp] theorem hand_postFaults (i : Instr) : (s.hand i).postFaults = s.postFaults := rfl
@[simp] theorem hand_testResults (i : Instr) : (s.hand i).testResults = s.testResults := rfl
@[simp] theorem hand_marks (i : Instr) : (s.hand i).marks = s.marks := rfl
@[simp] theorem hand_abandons (i : Instr) : (s.hand i).abandons = s.abandons := rfl
@[simp] theorem hand_abandonPosts (i : Instr) : (s.hand i).abandonPosts = s.abandonPosts := rfl
@[simp] theorem hand_mask (i : Instr) : (s.hand i).mask = s.mask := rfl
@[simp] theorem hand_loop (i : Instr) (m : LoopId) : (s.hand i).loop m = s.loop m := rfl
@[simp] theorem hand_ring (i : Instr) (m : LoopId) : (s.hand i).ring m = s.ring m := rfl
@[simp] theorem hand_feed (i : Instr) (m : LoopId) : (s.hand i).feed m = s.feed m := rfl
@[simp] theorem hand_record (i : Instr) (m : SlotId) : (s.hand i).record m = s.record m := rfl
@[simp] theorem hand_ctx (i : Instr) (m : CtxId) : (s.hand i).ctx m = s.ctx m := rfl
@[simp] theorem hand_trunk (i : Instr) (m : Trunk) : (s.hand i).trunk m = s.trunk m := by cases m <;> rfl
@[simp] theorem hand_path (i : Instr) (m : CtxId) : (s.hand i).path m = s.path m := rfl
@[simp] theorem hand_player (i : Instr) (m : CtxId) : (s.hand i).player m = s.player m := rfl
@[simp] theorem hand_segment (i : Instr) (m : SegId) : (s.hand i).segment m = s.segment m := rfl
@[simp] theorem hand_service (i : Instr) (m : Trunk) : (s.hand i).service m = s.service m := by cases m <;> rfl
@[simp] theorem hand_param (i : Instr) (m : Fin 25) : (s.hand i).param m = s.param m := rfl
@[simp] theorem hand_trunkFault (i : Instr) (m : Trunk) : (s.hand i).trunkFault m = s.trunkFault m := by cases m <;> rfl
@[simp] theorem hand_loopFault (i : Instr) (m : LoopId) : (s.hand i).loopFault m = s.loopFault m := rfl
@[simp] theorem hand_postFault (i : Instr) (m : SlotId) : (s.hand i).postFault m = s.postFault m := rfl
@[simp] theorem hand_testResult (i : Instr) (m : SlotId) : (s.hand i).testResult m = s.testResult m := rfl

/-! ### take -/

@[simp] theorem take_pending (i : Instr) : (s.take i).pending = s.pending := rfl
@[simp] theorem take_loops (i : Instr) : (s.take i).loops = s.loops := rfl
@[simp] theorem take_rings (i : Instr) : (s.take i).rings = s.rings := rfl
@[simp] theorem take_feeds (i : Instr) : (s.take i).feeds = s.feeds := rfl
@[simp] theorem take_supply (i : Instr) : (s.take i).supply = s.supply := rfl
@[simp] theorem take_directory (i : Instr) : (s.take i).directory = s.directory := rfl
@[simp] theorem take_contexts (i : Instr) : (s.take i).contexts = s.contexts := rfl
@[simp] theorem take_waiting (i : Instr) : (s.take i).waiting = s.waiting := rfl
@[simp] theorem take_entryCount (i : Instr) : (s.take i).entryCount = s.entryCount := rfl
@[simp] theorem take_routes (i : Instr) : (s.take i).routes = s.routes := rfl
@[simp] theorem take_plan (i : Instr) : (s.take i).plan = s.plan := rfl
@[simp] theorem take_trunkA (i : Instr) : (s.take i).trunkA = s.trunkA := rfl
@[simp] theorem take_trunkB (i : Instr) : (s.take i).trunkB = s.trunkB := rfl
@[simp] theorem take_paths (i : Instr) : (s.take i).paths = s.paths := rfl
@[simp] theorem take_samples (i : Instr) : (s.take i).samples = s.samples := rfl
@[simp] theorem take_segments (i : Instr) : (s.take i).segments = s.segments := rfl
@[simp] theorem take_players (i : Instr) : (s.take i).players = s.players := rfl
@[simp] theorem take_serviceA (i : Instr) : (s.take i).serviceA = s.serviceA := rfl
@[simp] theorem take_serviceB (i : Instr) : (s.take i).serviceB = s.serviceB := rfl
@[simp] theorem take_home (i : Instr) : (s.take i).home = s.home := rfl
@[simp] theorem take_settings (i : Instr) : (s.take i).settings = s.settings := rfl
@[simp] theorem take_sectionFault (i : Instr) : (s.take i).sectionFault = s.sectionFault := rfl
@[simp] theorem take_trunkFaultA (i : Instr) : (s.take i).trunkFaultA = s.trunkFaultA := rfl
@[simp] theorem take_trunkFaultB (i : Instr) : (s.take i).trunkFaultB = s.trunkFaultB := rfl
@[simp] theorem take_loopFaults (i : Instr) : (s.take i).loopFaults = s.loopFaults := rfl
@[simp] theorem take_postFaults (i : Instr) : (s.take i).postFaults = s.postFaults := rfl
@[simp] theorem take_testResults (i : Instr) : (s.take i).testResults = s.testResults := rfl
@[simp] theorem take_marks (i : Instr) : (s.take i).marks = s.marks := rfl
@[simp] theorem take_abandons (i : Instr) : (s.take i).abandons = s.abandons := rfl
@[simp] theorem take_abandonPosts (i : Instr) : (s.take i).abandonPosts = s.abandonPosts := rfl
@[simp] theorem take_mask (i : Instr) : (s.take i).mask = s.mask := rfl
@[simp] theorem take_loop (i : Instr) (m : LoopId) : (s.take i).loop m = s.loop m := rfl
@[simp] theorem take_ring (i : Instr) (m : LoopId) : (s.take i).ring m = s.ring m := rfl
@[simp] theorem take_feed (i : Instr) (m : LoopId) : (s.take i).feed m = s.feed m := rfl
@[simp] theorem take_record (i : Instr) (m : SlotId) : (s.take i).record m = s.record m := rfl
@[simp] theorem take_ctx (i : Instr) (m : CtxId) : (s.take i).ctx m = s.ctx m := rfl
@[simp] theorem take_trunk (i : Instr) (m : Trunk) : (s.take i).trunk m = s.trunk m := by cases m <;> rfl
@[simp] theorem take_path (i : Instr) (m : CtxId) : (s.take i).path m = s.path m := rfl
@[simp] theorem take_player (i : Instr) (m : CtxId) : (s.take i).player m = s.player m := rfl
@[simp] theorem take_segment (i : Instr) (m : SegId) : (s.take i).segment m = s.segment m := rfl
@[simp] theorem take_service (i : Instr) (m : Trunk) : (s.take i).service m = s.service m := by cases m <;> rfl
@[simp] theorem take_param (i : Instr) (m : Fin 25) : (s.take i).param m = s.param m := rfl
@[simp] theorem take_trunkFault (i : Instr) (m : Trunk) : (s.take i).trunkFault m = s.trunkFault m := by cases m <;> rfl
@[simp] theorem take_loopFault (i : Instr) (m : LoopId) : (s.take i).loopFault m = s.loopFault m := rfl
@[simp] theorem take_postFault (i : Instr) (m : SlotId) : (s.take i).postFault m = s.postFault m := rfl
@[simp] theorem take_testResult (i : Instr) (m : SlotId) : (s.take i).testResult m = s.testResult m := rfl

/-! ### latch -/

@[simp] theorem latch_pending (x : Latch) : (s.latch x).pending = s.pending := rfl
@[simp] theorem latch_loops (x : Latch) : (s.latch x).loops = s.loops := rfl
@[simp] theorem latch_rings (x : Latch) : (s.latch x).rings = s.rings := rfl
@[simp] theorem latch_feeds (x : Latch) : (s.latch x).feeds = s.feeds := rfl
@[simp] theorem latch_supply (x : Latch) : (s.latch x).supply = s.supply := rfl
@[simp] theorem latch_directory (x : Latch) : (s.latch x).directory = s.directory := rfl
@[simp] theorem latch_contexts (x : Latch) : (s.latch x).contexts = s.contexts := rfl
@[simp] theorem latch_waiting (x : Latch) : (s.latch x).waiting = s.waiting := rfl
@[simp] theorem latch_entryCount (x : Latch) : (s.latch x).entryCount = s.entryCount := rfl
@[simp] theorem latch_routes (x : Latch) : (s.latch x).routes = s.routes := rfl
@[simp] theorem latch_plan (x : Latch) : (s.latch x).plan = s.plan := rfl
@[simp] theorem latch_trunkA (x : Latch) : (s.latch x).trunkA = s.trunkA := rfl
@[simp] theorem latch_trunkB (x : Latch) : (s.latch x).trunkB = s.trunkB := rfl
@[simp] theorem latch_paths (x : Latch) : (s.latch x).paths = s.paths := rfl
@[simp] theorem latch_samples (x : Latch) : (s.latch x).samples = s.samples := rfl
@[simp] theorem latch_segments (x : Latch) : (s.latch x).segments = s.segments := rfl
@[simp] theorem latch_players (x : Latch) : (s.latch x).players = s.players := rfl
@[simp] theorem latch_serviceA (x : Latch) : (s.latch x).serviceA = s.serviceA := rfl
@[simp] theorem latch_serviceB (x : Latch) : (s.latch x).serviceB = s.serviceB := rfl
@[simp] theorem latch_home (x : Latch) : (s.latch x).home = s.home := rfl
@[simp] theorem latch_settings (x : Latch) : (s.latch x).settings = s.settings := rfl
@[simp] theorem latch_sectionFault (x : Latch) : (s.latch x).sectionFault = s.sectionFault := rfl
@[simp] theorem latch_trunkFaultA (x : Latch) : (s.latch x).trunkFaultA = s.trunkFaultA := rfl
@[simp] theorem latch_trunkFaultB (x : Latch) : (s.latch x).trunkFaultB = s.trunkFaultB := rfl
@[simp] theorem latch_loopFaults (x : Latch) : (s.latch x).loopFaults = s.loopFaults := rfl
@[simp] theorem latch_postFaults (x : Latch) : (s.latch x).postFaults = s.postFaults := rfl
@[simp] theorem latch_testResults (x : Latch) : (s.latch x).testResults = s.testResults := rfl
@[simp] theorem latch_marks (x : Latch) : (s.latch x).marks = s.marks := rfl
@[simp] theorem latch_abandons (x : Latch) : (s.latch x).abandons = s.abandons := rfl
@[simp] theorem latch_abandonPosts (x : Latch) : (s.latch x).abandonPosts = s.abandonPosts := rfl
@[simp] theorem latch_mask (x : Latch) : (s.latch x).mask = s.mask := rfl
@[simp] theorem latch_loop (x : Latch) (m : LoopId) : (s.latch x).loop m = s.loop m := rfl
@[simp] theorem latch_ring (x : Latch) (m : LoopId) : (s.latch x).ring m = s.ring m := rfl
@[simp] theorem latch_feed (x : Latch) (m : LoopId) : (s.latch x).feed m = s.feed m := rfl
@[simp] theorem latch_record (x : Latch) (m : SlotId) : (s.latch x).record m = s.record m := rfl
@[simp] theorem latch_ctx (x : Latch) (m : CtxId) : (s.latch x).ctx m = s.ctx m := rfl
@[simp] theorem latch_trunk (x : Latch) (m : Trunk) : (s.latch x).trunk m = s.trunk m := by cases m <;> rfl
@[simp] theorem latch_path (x : Latch) (m : CtxId) : (s.latch x).path m = s.path m := rfl
@[simp] theorem latch_player (x : Latch) (m : CtxId) : (s.latch x).player m = s.player m := rfl
@[simp] theorem latch_segment (x : Latch) (m : SegId) : (s.latch x).segment m = s.segment m := rfl
@[simp] theorem latch_service (x : Latch) (m : Trunk) : (s.latch x).service m = s.service m := by cases m <;> rfl
@[simp] theorem latch_param (x : Latch) (m : Fin 25) : (s.latch x).param m = s.param m := rfl
@[simp] theorem latch_trunkFault (x : Latch) (m : Trunk) : (s.latch x).trunkFault m = s.trunkFault m := by cases m <;> rfl
@[simp] theorem latch_loopFault (x : Latch) (m : LoopId) : (s.latch x).loopFault m = s.loopFault m := rfl
@[simp] theorem latch_postFault (x : Latch) (m : SlotId) : (s.latch x).postFault m = s.postFault m := rfl
@[simp] theorem latch_testResult (x : Latch) (m : SlotId) : (s.latch x).testResult m = s.testResult m := rfl

/-! ### raise -/

@[simp] theorem raise_pending (x : Raise) : (s.raise x).pending = s.pending := rfl
@[simp] theorem raise_loops (x : Raise) : (s.raise x).loops = s.loops := rfl
@[simp] theorem raise_rings (x : Raise) : (s.raise x).rings = s.rings := rfl
@[simp] theorem raise_feeds (x : Raise) : (s.raise x).feeds = s.feeds := rfl
@[simp] theorem raise_supply (x : Raise) : (s.raise x).supply = s.supply := rfl
@[simp] theorem raise_directory (x : Raise) : (s.raise x).directory = s.directory := rfl
@[simp] theorem raise_contexts (x : Raise) : (s.raise x).contexts = s.contexts := rfl
@[simp] theorem raise_waiting (x : Raise) : (s.raise x).waiting = s.waiting := rfl
@[simp] theorem raise_entryCount (x : Raise) : (s.raise x).entryCount = s.entryCount := rfl
@[simp] theorem raise_routes (x : Raise) : (s.raise x).routes = s.routes := rfl
@[simp] theorem raise_plan (x : Raise) : (s.raise x).plan = s.plan := rfl
@[simp] theorem raise_trunkA (x : Raise) : (s.raise x).trunkA = s.trunkA := rfl
@[simp] theorem raise_trunkB (x : Raise) : (s.raise x).trunkB = s.trunkB := rfl
@[simp] theorem raise_paths (x : Raise) : (s.raise x).paths = s.paths := rfl
@[simp] theorem raise_samples (x : Raise) : (s.raise x).samples = s.samples := rfl
@[simp] theorem raise_segments (x : Raise) : (s.raise x).segments = s.segments := rfl
@[simp] theorem raise_players (x : Raise) : (s.raise x).players = s.players := rfl
@[simp] theorem raise_serviceA (x : Raise) : (s.raise x).serviceA = s.serviceA := rfl
@[simp] theorem raise_serviceB (x : Raise) : (s.raise x).serviceB = s.serviceB := rfl
@[simp] theorem raise_home (x : Raise) : (s.raise x).home = s.home := rfl
@[simp] theorem raise_settings (x : Raise) : (s.raise x).settings = s.settings := rfl
@[simp] theorem raise_sectionFault (x : Raise) : (s.raise x).sectionFault = s.sectionFault := rfl
@[simp] theorem raise_trunkFaultA (x : Raise) : (s.raise x).trunkFaultA = s.trunkFaultA := rfl
@[simp] theorem raise_trunkFaultB (x : Raise) : (s.raise x).trunkFaultB = s.trunkFaultB := rfl
@[simp] theorem raise_loopFaults (x : Raise) : (s.raise x).loopFaults = s.loopFaults := rfl
@[simp] theorem raise_postFaults (x : Raise) : (s.raise x).postFaults = s.postFaults := rfl
@[simp] theorem raise_testResults (x : Raise) : (s.raise x).testResults = s.testResults := rfl
@[simp] theorem raise_marks (x : Raise) : (s.raise x).marks = s.marks := rfl
@[simp] theorem raise_abandons (x : Raise) : (s.raise x).abandons = s.abandons := rfl
@[simp] theorem raise_abandonPosts (x : Raise) : (s.raise x).abandonPosts = s.abandonPosts := rfl
@[simp] theorem raise_mask (x : Raise) : (s.raise x).mask = s.mask := rfl
@[simp] theorem raise_loop (x : Raise) (m : LoopId) : (s.raise x).loop m = s.loop m := rfl
@[simp] theorem raise_ring (x : Raise) (m : LoopId) : (s.raise x).ring m = s.ring m := rfl
@[simp] theorem raise_feed (x : Raise) (m : LoopId) : (s.raise x).feed m = s.feed m := rfl
@[simp] theorem raise_record (x : Raise) (m : SlotId) : (s.raise x).record m = s.record m := rfl
@[simp] theorem raise_ctx (x : Raise) (m : CtxId) : (s.raise x).ctx m = s.ctx m := rfl
@[simp] theorem raise_trunk (x : Raise) (m : Trunk) : (s.raise x).trunk m = s.trunk m := by cases m <;> rfl
@[simp] theorem raise_path (x : Raise) (m : CtxId) : (s.raise x).path m = s.path m := rfl
@[simp] theorem raise_player (x : Raise) (m : CtxId) : (s.raise x).player m = s.player m := rfl
@[simp] theorem raise_segment (x : Raise) (m : SegId) : (s.raise x).segment m = s.segment m := rfl
@[simp] theorem raise_service (x : Raise) (m : Trunk) : (s.raise x).service m = s.service m := by cases m <;> rfl
@[simp] theorem raise_param (x : Raise) (m : Fin 25) : (s.raise x).param m = s.param m := rfl
@[simp] theorem raise_trunkFault (x : Raise) (m : Trunk) : (s.raise x).trunkFault m = s.trunkFault m := by cases m <;> rfl
@[simp] theorem raise_loopFault (x : Raise) (m : LoopId) : (s.raise x).loopFault m = s.loopFault m := rfl
@[simp] theorem raise_postFault (x : Raise) (m : SlotId) : (s.raise x).postFault m = s.postFault m := rfl
@[simp] theorem raise_testResult (x : Raise) (m : SlotId) : (s.raise x).testResult m = s.testResult m := rfl

/-! ### A change in terms of reading and setting -/

theorem modLoop_eq (l : LoopId) (f : Loop → Loop) : s.modLoop l f = s.setLoop l (f (s.loop l)) := rfl
theorem modFeed_eq (l : LoopId) (f : Feed → Feed) : s.modFeed l f = s.setFeed l (f (s.feed l)) := rfl
theorem modCtx_eq (c : CtxId) (f : Ctx → Ctx) : s.modCtx c f = s.setCtx c (f (s.ctx c)) := rfl
theorem modTrunk_eq (t : Trunk) (f : TrunkIf → TrunkIf) : s.modTrunk t f = s.setTrunk t (f (s.trunk t)) := rfl
theorem modService_eq (t : Trunk) (f : Service → Service) : s.modService t f = s.setService t (f (s.service t)) := rfl

/-! ### The hand-off list -/

@[simp] theorem hand_handed (i : Instr) : (s.hand i).handed = s.handed ++ [i] := rfl
@[simp] theorem take_handed (i : Instr) : (s.take i).handed = s.handed.erase i := rfl
@[simp] theorem latch_handed (x : Latch) : (s.latch x).handed = s.handed ++ [.faultLatch x] := rfl
@[simp] theorem raise_handed (x : Raise) : (s.raise x).handed = s.handed ++ [.noticeRaise x] := rfl
@[simp] theorem setSupply_supply (x : Supply) : (s.setSupply x).supply = x := rfl
@[simp] theorem setSamples_samples (x : List Host.Cell) : (s.setSamples x).samples = x := rfl
@[simp] theorem setWaiting_waiting (x : List CtxId) : (s.setWaiting x).waiting = x := rfl
@[simp] theorem setMarks_marks (x : List (Nat × Nat)) : (s.setMarks x).marks = x := rfl
@[simp] theorem setSectionFault_sectionFault (x : FaultRec) : (s.setSectionFault x).sectionFault = x := rfl

end Sys2Proof.Machine.State
end

