-- ==== Sys2Proof/Laws/Calls.lean ====
section
/-! SUPPORT. What each operation of the call manager may change, one equation each, and what it leaves in every other field. -/

namespace Sys2Proof.Machine.State

open Sys2Proof

/-- What every step of a fold keeps, the fold keeps. -/
theorem foldl_keeps {α β : Type} (g : State → β) (f : State → α → State) (hf : ∀ s a, g (f s a) = g s) (xs : List α)
    (s : State) : g (xs.foldl f s) = g s := by
  induction xs generalizing s with
  | nil => rfl
  | cons a xs ih => rw [List.foldl_cons, ih, hf]

variable (s : State)

/-! ### modLoop -/

theorem modLoop_frame (l : LoopId) (f : Loop → Loop) : s.modLoop l f = { s with
    loops := (s.modLoop l f).loops } := by
  apply State.ext <;> first | with_reducible rfl | (simp [modLoop])
@[simp] theorem modLoop_pending (l : LoopId) (f : Loop → Loop) : (s.modLoop l f).pending = s.pending := by rw [modLoop_frame]
@[simp] theorem modLoop_handed (l : LoopId) (f : Loop → Loop) : (s.modLoop l f).handed = s.handed := by rw [modLoop_frame]
@[simp] theorem modLoop_rings (l : LoopId) (f : Loop → Loop) : (s.modLoop l f).rings = s.rings := by rw [modLoop_frame]
@[simp] theorem modLoop_feeds (l : LoopId) (f : Loop → Loop) : (s.modLoop l f).feeds = s.feeds := by rw [modLoop_frame]
@[simp] theorem modLoop_supply (l : LoopId) (f : Loop → Loop) : (s.modLoop l f).supply = s.supply := by rw [modLoop_frame]
@[simp] theorem modLoop_directory (l : LoopId) (f : Loop → Loop) : (s.modLoop l f).directory = s.directory := by rw [modLoop_frame]
@[simp] theorem modLoop_contexts (l : LoopId) (f : Loop → Loop) : (s.modLoop l f).contexts = s.contexts := by rw [modLoop_frame]
@[simp] theorem modLoop_waiting (l : LoopId) (f : Loop → Loop) : (s.modLoop l f).waiting = s.waiting := by rw [modLoop_frame]
@[simp] theorem modLoop_entryCount (l : LoopId) (f : Loop → Loop) : (s.modLoop l f).entryCount = s.entryCount := by rw [modLoop_frame]
@[simp] theorem modLoop_routes (l : LoopId) (f : Loop → Loop) : (s.modLoop l f).routes = s.routes := by rw [modLoop_frame]
@[simp] theorem modLoop_plan (l : LoopId) (f : Loop → Loop) : (s.modLoop l f).plan = s.plan := by rw [modLoop_frame]
@[simp] theorem modLoop_trunkA (l : LoopId) (f : Loop → Loop) : (s.modLoop l f).trunkA = s.trunkA := by rw [modLoop_frame]
@[simp] theorem modLoop_trunkB (l : LoopId) (f : Loop → Loop) : (s.modLoop l f).trunkB = s.trunkB := by rw [modLoop_frame]
@[simp] theorem modLoop_paths (l : LoopId) (f : Loop → Loop) : (s.modLoop l f).paths = s.paths := by rw [modLoop_frame]
@[simp] theorem modLoop_samples (l : LoopId) (f : Loop → Loop) : (s.modLoop l f).samples = s.samples := by rw [modLoop_frame]
@[simp] theorem modLoop_segments (l : LoopId) (f : Loop → Loop) : (s.modLoop l f).segments = s.segments := by rw [modLoop_frame]
@[simp] theorem modLoop_players (l : LoopId) (f : Loop → Loop) : (s.modLoop l f).players = s.players := by rw [modLoop_frame]
@[simp] theorem modLoop_serviceA (l : LoopId) (f : Loop → Loop) : (s.modLoop l f).serviceA = s.serviceA := by rw [modLoop_frame]
@[simp] theorem modLoop_serviceB (l : LoopId) (f : Loop → Loop) : (s.modLoop l f).serviceB = s.serviceB := by rw [modLoop_frame]
@[simp] theorem modLoop_home (l : LoopId) (f : Loop → Loop) : (s.modLoop l f).home = s.home := by rw [modLoop_frame]
@[simp] theorem modLoop_settings (l : LoopId) (f : Loop → Loop) : (s.modLoop l f).settings = s.settings := by rw [modLoop_frame]
@[simp] theorem modLoop_sectionFault (l : LoopId) (f : Loop → Loop) : (s.modLoop l f).sectionFault = s.sectionFault := by rw [modLoop_frame]
@[simp] theorem modLoop_trunkFaultA (l : LoopId) (f : Loop → Loop) : (s.modLoop l f).trunkFaultA = s.trunkFaultA := by rw [modLoop_frame]
@[simp] theorem modLoop_trunkFaultB (l : LoopId) (f : Loop → Loop) : (s.modLoop l f).trunkFaultB = s.trunkFaultB := by rw [modLoop_frame]
@[simp] theorem modLoop_loopFaults (l : LoopId) (f : Loop → Loop) : (s.modLoop l f).loopFaults = s.loopFaults := by rw [modLoop_frame]
@[simp] theorem modLoop_postFaults (l : LoopId) (f : Loop → Loop) : (s.modLoop l f).postFaults = s.postFaults := by rw [modLoop_frame]
@[simp] theorem modLoop_testResults (l : LoopId) (f : Loop → Loop) : (s.modLoop l f).testResults = s.testResults := by rw [modLoop_frame]
@[simp] theorem modLoop_marks (l : LoopId) (f : Loop → Loop) : (s.modLoop l f).marks = s.marks := by rw [modLoop_frame]
@[simp] theorem modLoop_abandons (l : LoopId) (f : Loop → Loop) : (s.modLoop l f).abandons = s.abandons := by rw [modLoop_frame]
@[simp] theorem modLoop_abandonPosts (l : LoopId) (f : Loop → Loop) : (s.modLoop l f).abandonPosts = s.abandonPosts := by rw [modLoop_frame]
@[simp] theorem modLoop_mask (l : LoopId) (f : Loop → Loop) : (s.modLoop l f).mask = s.mask := by rw [modLoop_frame]
@[simp] theorem modLoop_ring (l : LoopId) (f : Loop → Loop) (j : LoopId) : (s.modLoop l f).ring j = s.ring j := by simp [ring]
@[simp] theorem modLoop_feed (l : LoopId) (f : Loop → Loop) (j : LoopId) : (s.modLoop l f).feed j = s.feed j := by simp [feed]
@[simp] theorem modLoop_record (l : LoopId) (f : Loop → Loop) (j : SlotId) : (s.modLoop l f).record j = s.record j := by simp [record]
@[simp] theorem modLoop_ctx (l : LoopId) (f : Loop → Loop) (j : CtxId) : (s.modLoop l f).ctx j = s.ctx j := by simp [ctx]
@[simp] theorem modLoop_trunk (l : LoopId) (f : Loop → Loop) (j : Trunk) : (s.modLoop l f).trunk j = s.trunk j := by cases j <;> simp [trunk]
@[simp] theorem modLoop_path (l : LoopId) (f : Loop → Loop) (j : CtxId) : (s.modLoop l f).path j = s.path j := by simp [path]
@[simp] theorem modLoop_player (l : LoopId) (f : Loop → Loop) (j : CtxId) : (s.modLoop l f).player j = s.player j := by simp [player]
@[simp] theorem modLoop_segment (l : LoopId) (f : Loop → Loop) (j : SegId) : (s.modLoop l f).segment j = s.segment j := by simp [segment]
@[simp] theorem modLoop_service (l : LoopId) (f : Loop → Loop) (j : Trunk) : (s.modLoop l f).service j = s.service j := by cases j <;> simp [service]
@[simp] theorem modLoop_param (l : LoopId) (f : Loop → Loop) (j : Fin 25) : (s.modLoop l f).param j = s.param j := by simp [param]

/-! ### modFeed -/

theorem modFeed_frame (l : LoopId) (f : Feed → Feed) : s.modFeed l f = { s with
    feeds := (s.modFeed l f).feeds } := by
  apply State.ext <;> first | with_reducible rfl | (simp [modFeed])
@[simp] theorem modFeed_pending (l : LoopId) (f : Feed → Feed) : (s.modFeed l f).pending = s.pending := by rw [modFeed_frame]
@[simp] theorem modFeed_handed (l : LoopId) (f : Feed → Feed) : (s.modFeed l f).handed = s.handed := by rw [modFeed_frame]
@[simp] theorem modFeed_loops (l : LoopId) (f : Feed → Feed) : (s.modFeed l f).loops = s.loops := by rw [modFeed_frame]
@[simp] theorem modFeed_rings (l : LoopId) (f : Feed → Feed) : (s.modFeed l f).rings = s.rings := by rw [modFeed_frame]
@[simp] theorem modFeed_supply (l : LoopId) (f : Feed → Feed) : (s.modFeed l f).supply = s.supply := by rw [modFeed_frame]
@[simp] theorem modFeed_directory (l : LoopId) (f : Feed → Feed) : (s.modFeed l f).directory = s.directory := by rw [modFeed_frame]
@[simp] theorem modFeed_contexts (l : LoopId) (f : Feed → Feed) : (s.modFeed l f).contexts = s.contexts := by rw [modFeed_frame]
@[simp] theorem modFeed_waiting (l : LoopId) (f : Feed → Feed) : (s.modFeed l f).waiting = s.waiting := by rw [modFeed_frame]
@[simp] theorem modFeed_entryCount (l : LoopId) (f : Feed → Feed) : (s.modFeed l f).entryCount = s.entryCount := by rw [modFeed_frame]
@[simp] theorem modFeed_routes (l : LoopId) (f : Feed → Feed) : (s.modFeed l f).routes = s.routes := by rw [modFeed_frame]
@[simp] theorem modFeed_plan (l : LoopId) (f : Feed → Feed) : (s.modFeed l f).plan = s.plan := by rw [modFeed_frame]
@[simp] theorem modFeed_trunkA (l : LoopId) (f : Feed → Feed) : (s.modFeed l f).trunkA = s.trunkA := by rw [modFeed_frame]
@[simp] theorem modFeed_trunkB (l : LoopId) (f : Feed → Feed) : (s.modFeed l f).trunkB = s.trunkB := by rw [modFeed_frame]
@[simp] theorem modFeed_paths (l : LoopId) (f : Feed → Feed) : (s.modFeed l f).paths = s.paths := by rw [modFeed_frame]
@[simp] theorem modFeed_samples (l : LoopId) (f : Feed → Feed) : (s.modFeed l f).samples = s.samples := by rw [modFeed_frame]
@[simp] theorem modFeed_segments (l : LoopId) (f : Feed → Feed) : (s.modFeed l f).segments = s.segments := by rw [modFeed_frame]
@[simp] theorem modFeed_players (l : LoopId) (f : Feed → Feed) : (s.modFeed l f).players = s.players := by rw [modFeed_frame]
@[simp] theorem modFeed_serviceA (l : LoopId) (f : Feed → Feed) : (s.modFeed l f).serviceA = s.serviceA := by rw [modFeed_frame]
@[simp] theorem modFeed_serviceB (l : LoopId) (f : Feed → Feed) : (s.modFeed l f).serviceB = s.serviceB := by rw [modFeed_frame]
@[simp] theorem modFeed_home (l : LoopId) (f : Feed → Feed) : (s.modFeed l f).home = s.home := by rw [modFeed_frame]
@[simp] theorem modFeed_settings (l : LoopId) (f : Feed → Feed) : (s.modFeed l f).settings = s.settings := by rw [modFeed_frame]
@[simp] theorem modFeed_sectionFault (l : LoopId) (f : Feed → Feed) : (s.modFeed l f).sectionFault = s.sectionFault := by rw [modFeed_frame]
@[simp] theorem modFeed_trunkFaultA (l : LoopId) (f : Feed → Feed) : (s.modFeed l f).trunkFaultA = s.trunkFaultA := by rw [modFeed_frame]
@[simp] theorem modFeed_trunkFaultB (l : LoopId) (f : Feed → Feed) : (s.modFeed l f).trunkFaultB = s.trunkFaultB := by rw [modFeed_frame]
@[simp] theorem modFeed_loopFaults (l : LoopId) (f : Feed → Feed) : (s.modFeed l f).loopFaults = s.loopFaults := by rw [modFeed_frame]
@[simp] theorem modFeed_postFaults (l : LoopId) (f : Feed → Feed) : (s.modFeed l f).postFaults = s.postFaults := by rw [modFeed_frame]
@[simp] theorem modFeed_testResults (l : LoopId) (f : Feed → Feed) : (s.modFeed l f).testResults = s.testResults := by rw [modFeed_frame]
@[simp] theorem modFeed_marks (l : LoopId) (f : Feed → Feed) : (s.modFeed l f).marks = s.marks := by rw [modFeed_frame]
@[simp] theorem modFeed_abandons (l : LoopId) (f : Feed → Feed) : (s.modFeed l f).abandons = s.abandons := by rw [modFeed_frame]
@[simp] theorem modFeed_abandonPosts (l : LoopId) (f : Feed → Feed) : (s.modFeed l f).abandonPosts = s.abandonPosts := by rw [modFeed_frame]
@[simp] theorem modFeed_mask (l : LoopId) (f : Feed → Feed) : (s.modFeed l f).mask = s.mask := by rw [modFeed_frame]
@[simp] theorem modFeed_loop (l : LoopId) (f : Feed → Feed) (j : LoopId) : (s.modFeed l f).loop j = s.loop j := by simp [loop]
@[simp] theorem modFeed_ring (l : LoopId) (f : Feed → Feed) (j : LoopId) : (s.modFeed l f).ring j = s.ring j := by simp [ring]
@[simp] theorem modFeed_record (l : LoopId) (f : Feed → Feed) (j : SlotId) : (s.modFeed l f).record j = s.record j := by simp [record]
@[simp] theorem modFeed_ctx (l : LoopId) (f : Feed → Feed) (j : CtxId) : (s.modFeed l f).ctx j = s.ctx j := by simp [ctx]
@[simp] theorem modFeed_trunk (l : LoopId) (f : Feed → Feed) (j : Trunk) : (s.modFeed l f).trunk j = s.trunk j := by cases j <;> simp [trunk]
@[simp] theorem modFeed_path (l : LoopId) (f : Feed → Feed) (j : CtxId) : (s.modFeed l f).path j = s.path j := by simp [path]
@[simp] theorem modFeed_player (l : LoopId) (f : Feed → Feed) (j : CtxId) : (s.modFeed l f).player j = s.player j := by simp [player]
@[simp] theorem modFeed_segment (l : LoopId) (f : Feed → Feed) (j : SegId) : (s.modFeed l f).segment j = s.segment j := by simp [segment]
@[simp] theorem modFeed_service (l : LoopId) (f : Feed → Feed) (j : Trunk) : (s.modFeed l f).service j = s.service j := by cases j <;> simp [service]
@[simp] theorem modFeed_param (l : LoopId) (f : Feed → Feed) (j : Fin 25) : (s.modFeed l f).param j = s.param j := by simp [param]

/-! ### modCtx -/

theorem modCtx_frame (c : CtxId) (f : Ctx → Ctx) : s.modCtx c f = { s with
    contexts := (s.modCtx c f).contexts } := by
  apply State.ext <;> first | with_reducible rfl | (simp [modCtx])
@[simp] theorem modCtx_pending (c : CtxId) (f : Ctx → Ctx) : (s.modCtx c f).pending = s.pending := by rw [modCtx_frame]
@[simp] theorem modCtx_handed (c : CtxId) (f : Ctx → Ctx) : (s.modCtx c f).handed = s.handed := by rw [modCtx_frame]
@[simp] theorem modCtx_loops (c : CtxId) (f : Ctx → Ctx) : (s.modCtx c f).loops = s.loops := by rw [modCtx_frame]
@[simp] theorem modCtx_rings (c : CtxId) (f : Ctx → Ctx) : (s.modCtx c f).rings = s.rings := by rw [modCtx_frame]
@[simp] theorem modCtx_feeds (c : CtxId) (f : Ctx → Ctx) : (s.modCtx c f).feeds = s.feeds := by rw [modCtx_frame]
@[simp] theorem modCtx_supply (c : CtxId) (f : Ctx → Ctx) : (s.modCtx c f).supply = s.supply := by rw [modCtx_frame]
@[simp] theorem modCtx_directory (c : CtxId) (f : Ctx → Ctx) : (s.modCtx c f).directory = s.directory := by rw [modCtx_frame]
@[simp] theorem modCtx_waiting (c : CtxId) (f : Ctx → Ctx) : (s.modCtx c f).waiting = s.waiting := by rw [modCtx_frame]
@[simp] theorem modCtx_entryCount (c : CtxId) (f : Ctx → Ctx) : (s.modCtx c f).entryCount = s.entryCount := by rw [modCtx_frame]
@[simp] theorem modCtx_routes (c : CtxId) (f : Ctx → Ctx) : (s.modCtx c f).routes = s.routes := by rw [modCtx_frame]
@[simp] theorem modCtx_plan (c : CtxId) (f : Ctx → Ctx) : (s.modCtx c f).plan = s.plan := by rw [modCtx_frame]
@[simp] theorem modCtx_trunkA (c : CtxId) (f : Ctx → Ctx) : (s.modCtx c f).trunkA = s.trunkA := by rw [modCtx_frame]
@[simp] theorem modCtx_trunkB (c : CtxId) (f : Ctx → Ctx) : (s.modCtx c f).trunkB = s.trunkB := by rw [modCtx_frame]
@[simp] theorem modCtx_paths (c : CtxId) (f : Ctx → Ctx) : (s.modCtx c f).paths = s.paths := by rw [modCtx_frame]
@[simp] theorem modCtx_samples (c : CtxId) (f : Ctx → Ctx) : (s.modCtx c f).samples = s.samples := by rw [modCtx_frame]
@[simp] theorem modCtx_segments (c : CtxId) (f : Ctx → Ctx) : (s.modCtx c f).segments = s.segments := by rw [modCtx_frame]
@[simp] theorem modCtx_players (c : CtxId) (f : Ctx → Ctx) : (s.modCtx c f).players = s.players := by rw [modCtx_frame]
@[simp] theorem modCtx_serviceA (c : CtxId) (f : Ctx → Ctx) : (s.modCtx c f).serviceA = s.serviceA := by rw [modCtx_frame]
@[simp] theorem modCtx_serviceB (c : CtxId) (f : Ctx → Ctx) : (s.modCtx c f).serviceB = s.serviceB := by rw [modCtx_frame]
@[simp] theorem modCtx_home (c : CtxId) (f : Ctx → Ctx) : (s.modCtx c f).home = s.home := by rw [modCtx_frame]
@[simp] theorem modCtx_settings (c : CtxId) (f : Ctx → Ctx) : (s.modCtx c f).settings = s.settings := by rw [modCtx_frame]
@[simp] theorem modCtx_sectionFault (c : CtxId) (f : Ctx → Ctx) : (s.modCtx c f).sectionFault = s.sectionFault := by rw [modCtx_frame]
@[simp] theorem modCtx_trunkFaultA (c : CtxId) (f : Ctx → Ctx) : (s.modCtx c f).trunkFaultA = s.trunkFaultA := by rw [modCtx_frame]
@[simp] theorem modCtx_trunkFaultB (c : CtxId) (f : Ctx → Ctx) : (s.modCtx c f).trunkFaultB = s.trunkFaultB := by rw [modCtx_frame]
@[simp] theorem modCtx_loopFaults (c : CtxId) (f : Ctx → Ctx) : (s.modCtx c f).loopFaults = s.loopFaults := by rw [modCtx_frame]
@[simp] theorem modCtx_postFaults (c : CtxId) (f : Ctx → Ctx) : (s.modCtx c f).postFaults = s.postFaults := by rw [modCtx_frame]
@[simp] theorem modCtx_testResults (c : CtxId) (f : Ctx → Ctx) : (s.modCtx c f).testResults = s.testResults := by rw [modCtx_frame]
@[simp] theorem modCtx_marks (c : CtxId) (f : Ctx → Ctx) : (s.modCtx c f).marks = s.marks := by rw [modCtx_frame]
@[simp] theorem modCtx_abandons (c : CtxId) (f : Ctx → Ctx) : (s.modCtx c f).abandons = s.abandons := by rw [modCtx_frame]
@[simp] theorem modCtx_abandonPosts (c : CtxId) (f : Ctx → Ctx) : (s.modCtx c f).abandonPosts = s.abandonPosts := by rw [modCtx_frame]
@[simp] theorem modCtx_mask (c : CtxId) (f : Ctx → Ctx) : (s.modCtx c f).mask = s.mask := by rw [modCtx_frame]
@[simp] theorem modCtx_loop (c : CtxId) (f : Ctx → Ctx) (j : LoopId) : (s.modCtx c f).loop j = s.loop j := by simp [loop]
@[simp] theorem modCtx_ring (c : CtxId) (f : Ctx → Ctx) (j : LoopId) : (s.modCtx c f).ring j = s.ring j := by simp [ring]
@[simp] theorem modCtx_feed (c : CtxId) (f : Ctx → Ctx) (j : LoopId) : (s.modCtx c f).feed j = s.feed j := by simp [feed]
@[simp] theorem modCtx_record (c : CtxId) (f : Ctx → Ctx) (j : SlotId) : (s.modCtx c f).record j = s.record j := by simp [record]
@[simp] theorem modCtx_trunk (c : CtxId) (f : Ctx → Ctx) (j : Trunk) : (s.modCtx c f).trunk j = s.trunk j := by cases j <;> simp [trunk]
@[simp] theorem modCtx_path (c : CtxId) (f : Ctx → Ctx) (j : CtxId) : (s.modCtx c f).path j = s.path j := by simp [path]
@[simp] theorem modCtx_player (c : CtxId) (f : Ctx → Ctx) (j : CtxId) : (s.modCtx c f).player j = s.player j := by simp [player]
@[simp] theorem modCtx_segment (c : CtxId) (f : Ctx → Ctx) (j : SegId) : (s.modCtx c f).segment j = s.segment j := by simp [segment]
@[simp] theorem modCtx_service (c : CtxId) (f : Ctx → Ctx) (j : Trunk) : (s.modCtx c f).service j = s.service j := by cases j <;> simp [service]
@[simp] theorem modCtx_param (c : CtxId) (f : Ctx → Ctx) (j : Fin 25) : (s.modCtx c f).param j = s.param j := by simp [param]

/-! ### modTrunk -/

theorem modTrunk_frame (t : Trunk) (f : TrunkIf → TrunkIf) : s.modTrunk t f = { s with
    trunkA := (s.modTrunk t f).trunkA
    trunkB := (s.modTrunk t f).trunkB } := by
  apply State.ext <;> first | with_reducible rfl | (simp [modTrunk])
@[simp] theorem modTrunk_pending (t : Trunk) (f : TrunkIf → TrunkIf) : (s.modTrunk t f).pending = s.pending := by rw [modTrunk_frame]
@[simp] theorem modTrunk_handed (t : Trunk) (f : TrunkIf → TrunkIf) : (s.modTrunk t f).handed = s.handed := by rw [modTrunk_frame]
@[simp] theorem modTrunk_loops (t : Trunk) (f : TrunkIf → TrunkIf) : (s.modTrunk t f).loops = s.loops := by rw [modTrunk_frame]
@[simp] theorem modTrunk_rings (t : Trunk) (f : TrunkIf → TrunkIf) : (s.modTrunk t f).rings = s.rings := by rw [modTrunk_frame]
@[simp] theorem modTrunk_feeds (t : Trunk) (f : TrunkIf → TrunkIf) : (s.modTrunk t f).feeds = s.feeds := by rw [modTrunk_frame]
@[simp] theorem modTrunk_supply (t : Trunk) (f : TrunkIf → TrunkIf) : (s.modTrunk t f).supply = s.supply := by rw [modTrunk_frame]
@[simp] theorem modTrunk_directory (t : Trunk) (f : TrunkIf → TrunkIf) : (s.modTrunk t f).directory = s.directory := by rw [modTrunk_frame]
@[simp] theorem modTrunk_contexts (t : Trunk) (f : TrunkIf → TrunkIf) : (s.modTrunk t f).contexts = s.contexts := by rw [modTrunk_frame]
@[simp] theorem modTrunk_waiting (t : Trunk) (f : TrunkIf → TrunkIf) : (s.modTrunk t f).waiting = s.waiting := by rw [modTrunk_frame]
@[simp] theorem modTrunk_entryCount (t : Trunk) (f : TrunkIf → TrunkIf) : (s.modTrunk t f).entryCount = s.entryCount := by rw [modTrunk_frame]
@[simp] theorem modTrunk_routes (t : Trunk) (f : TrunkIf → TrunkIf) : (s.modTrunk t f).routes = s.routes := by rw [modTrunk_frame]
@[simp] theorem modTrunk_plan (t : Trunk) (f : TrunkIf → TrunkIf) : (s.modTrunk t f).plan = s.plan := by rw [modTrunk_frame]
@[simp] theorem modTrunk_paths (t : Trunk) (f : TrunkIf → TrunkIf) : (s.modTrunk t f).paths = s.paths := by rw [modTrunk_frame]
@[simp] theorem modTrunk_samples (t : Trunk) (f : TrunkIf → TrunkIf) : (s.modTrunk t f).samples = s.samples := by rw [modTrunk_frame]
@[simp] theorem modTrunk_segments (t : Trunk) (f : TrunkIf → TrunkIf) : (s.modTrunk t f).segments = s.segments := by rw [modTrunk_frame]
@[simp] theorem modTrunk_players (t : Trunk) (f : TrunkIf → TrunkIf) : (s.modTrunk t f).players = s.players := by rw [modTrunk_frame]
@[simp] theorem modTrunk_serviceA (t : Trunk) (f : TrunkIf → TrunkIf) : (s.modTrunk t f).serviceA = s.serviceA := by rw [modTrunk_frame]
@[simp] theorem modTrunk_serviceB (t : Trunk) (f : TrunkIf → TrunkIf) : (s.modTrunk t f).serviceB = s.serviceB := by rw [modTrunk_frame]
@[simp] theorem modTrunk_home (t : Trunk) (f : TrunkIf → TrunkIf) : (s.modTrunk t f).home = s.home := by rw [modTrunk_frame]
@[simp] theorem modTrunk_settings (t : Trunk) (f : TrunkIf → TrunkIf) : (s.modTrunk t f).settings = s.settings := by rw [modTrunk_frame]
@[simp] theorem modTrunk_sectionFault (t : Trunk) (f : TrunkIf → TrunkIf) : (s.modTrunk t f).sectionFault = s.sectionFault := by rw [modTrunk_frame]
@[simp] theorem modTrunk_trunkFaultA (t : Trunk) (f : TrunkIf → TrunkIf) : (s.modTrunk t f).trunkFaultA = s.trunkFaultA := by rw [modTrunk_frame]
@[simp] theorem modTrunk_trunkFaultB (t : Trunk) (f : TrunkIf → TrunkIf) : (s.modTrunk t f).trunkFaultB = s.trunkFaultB := by rw [modTrunk_frame]
@[simp] theorem modTrunk_loopFaults (t : Trunk) (f : TrunkIf → TrunkIf) : (s.modTrunk t f).loopFaults = s.loopFaults := by rw [modTrunk_frame]
@[simp] theorem modTrunk_postFaults (t : Trunk) (f : TrunkIf → TrunkIf) : (s.modTrunk t f).postFaults = s.postFaults := by rw [modTrunk_frame]
@[simp] theorem modTrunk_testResults (t : Trunk) (f : TrunkIf → TrunkIf) : (s.modTrunk t f).testResults = s.testResults := by rw [modTrunk_frame]
@[simp] theorem modTrunk_marks (t : Trunk) (f : TrunkIf → TrunkIf) : (s.modTrunk t f).marks = s.marks := by rw [modTrunk_frame]
@[simp] theorem modTrunk_abandons (t : Trunk) (f : TrunkIf → TrunkIf) : (s.modTrunk t f).abandons = s.abandons := by rw [modTrunk_frame]
@[simp] theorem modTrunk_abandonPosts (t : Trunk) (f : TrunkIf → TrunkIf) : (s.modTrunk t f).abandonPosts = s.abandonPosts := by rw [modTrunk_frame]
@[simp] theorem modTrunk_mask (t : Trunk) (f : TrunkIf → TrunkIf) : (s.modTrunk t f).mask = s.mask := by rw [modTrunk_frame]
@[simp] theorem modTrunk_loop (t : Trunk) (f : TrunkIf → TrunkIf) (j : LoopId) : (s.modTrunk t f).loop j = s.loop j := by simp [loop]
@[simp] theorem modTrunk_ring (t : Trunk) (f : TrunkIf → TrunkIf) (j : LoopId) : (s.modTrunk t f).ring j = s.ring j := by simp [ring]
@[simp] theorem modTrunk_feed (t : Trunk) (f : TrunkIf → TrunkIf) (j : LoopId) : (s.modTrunk t f).feed j = s.feed j := by simp [feed]
@[simp] theorem modTrunk_record (t : Trunk) (f : TrunkIf → TrunkIf) (j : SlotId) : (s.modTrunk t f).record j = s.record j := by simp [record]
@[simp] theorem modTrunk_ctx (t : Trunk) (f : TrunkIf → TrunkIf) (j : CtxId) : (s.modTrunk t f).ctx j = s.ctx j := by simp [ctx]
@[simp] theorem modTrunk_path (t : Trunk) (f : TrunkIf → TrunkIf) (j : CtxId) : (s.modTrunk t f).path j = s.path j := by simp [path]
@[simp] theorem modTrunk_player (t : Trunk) (f : TrunkIf → TrunkIf) (j : CtxId) : (s.modTrunk t f).player j = s.player j := by simp [player]
@[simp] theorem modTrunk_segment (t : Trunk) (f : TrunkIf → TrunkIf) (j : SegId) : (s.modTrunk t f).segment j = s.segment j := by simp [segment]
@[simp] theorem modTrunk_service (t : Trunk) (f : TrunkIf → TrunkIf) (j : Trunk) : (s.modTrunk t f).service j = s.service j := by cases j <;> simp [service]
@[simp] theorem modTrunk_param (t : Trunk) (f : TrunkIf → TrunkIf) (j : Fin 25) : (s.modTrunk t f).param j = s.param j := by simp [param]

/-! ### modService -/

theorem modService_frame (t : Trunk) (f : Service → Service) : s.modService t f = { s with
    serviceA := (s.modService t f).serviceA
    serviceB := (s.modService t f).serviceB } := by
  apply State.ext <;> first | with_reducible rfl | (simp [modService])
@[simp] theorem modService_pending (t : Trunk) (f : Service → Service) : (s.modService t f).pending = s.pending := by rw [modService_frame]
@[simp] theorem modService_handed (t : Trunk) (f : Service → Service) : (s.modService t f).handed = s.handed := by rw [modService_frame]
@[simp] theorem modService_loops (t : Trunk) (f : Service → Service) : (s.modService t f).loops = s.loops := by rw [modService_frame]
@[simp] theorem modService_rings (t : Trunk) (f : Service → Service) : (s.modService t f).rings = s.rings := by rw [modService_frame]
@[simp] theorem modService_feeds (t : Trunk) (f : Service → Service) : (s.modService t f).feeds = s.feeds := by rw [modService_frame]
@[simp] theorem modService_supply (t : Trunk) (f : Service → Service) : (s.modService t f).supply = s.supply := by rw [modService_frame]
@[simp] theorem modService_directory (t : Trunk) (f : Service → Service) : (s.modService t f).directory = s.directory := by rw [modService_frame]
@[simp] theorem modService_contexts (t : Trunk) (f : Service → Service) : (s.modService t f).contexts = s.contexts := by rw [modService_frame]
@[simp] theorem modService_waiting (t : Trunk) (f : Service → Service) : (s.modService t f).waiting = s.waiting := by rw [modService_frame]
@[simp] theorem modService_entryCount (t : Trunk) (f : Service → Service) : (s.modService t f).entryCount = s.entryCount := by rw [modService_frame]
@[simp] theorem modService_routes (t : Trunk) (f : Service → Service) : (s.modService t f).routes = s.routes := by rw [modService_frame]
@[simp] theorem modService_plan (t : Trunk) (f : Service → Service) : (s.modService t f).plan = s.plan := by rw [modService_frame]
@[simp] theorem modService_trunkA (t : Trunk) (f : Service → Service) : (s.modService t f).trunkA = s.trunkA := by rw [modService_frame]
@[simp] theorem modService_trunkB (t : Trunk) (f : Service → Service) : (s.modService t f).trunkB = s.trunkB := by rw [modService_frame]
@[simp] theorem modService_paths (t : Trunk) (f : Service → Service) : (s.modService t f).paths = s.paths := by rw [modService_frame]
@[simp] theorem modService_samples (t : Trunk) (f : Service → Service) : (s.modService t f).samples = s.samples := by rw [modService_frame]
@[simp] theorem modService_segments (t : Trunk) (f : Service → Service) : (s.modService t f).segments = s.segments := by rw [modService_frame]
@[simp] theorem modService_players (t : Trunk) (f : Service → Service) : (s.modService t f).players = s.players := by rw [modService_frame]
@[simp] theorem modService_home (t : Trunk) (f : Service → Service) : (s.modService t f).home = s.home := by rw [modService_frame]
@[simp] theorem modService_settings (t : Trunk) (f : Service → Service) : (s.modService t f).settings = s.settings := by rw [modService_frame]
@[simp] theorem modService_sectionFault (t : Trunk) (f : Service → Service) : (s.modService t f).sectionFault = s.sectionFault := by rw [modService_frame]
@[simp] theorem modService_trunkFaultA (t : Trunk) (f : Service → Service) : (s.modService t f).trunkFaultA = s.trunkFaultA := by rw [modService_frame]
@[simp] theorem modService_trunkFaultB (t : Trunk) (f : Service → Service) : (s.modService t f).trunkFaultB = s.trunkFaultB := by rw [modService_frame]
@[simp] theorem modService_loopFaults (t : Trunk) (f : Service → Service) : (s.modService t f).loopFaults = s.loopFaults := by rw [modService_frame]
@[simp] theorem modService_postFaults (t : Trunk) (f : Service → Service) : (s.modService t f).postFaults = s.postFaults := by rw [modService_frame]
@[simp] theorem modService_testResults (t : Trunk) (f : Service → Service) : (s.modService t f).testResults = s.testResults := by rw [modService_frame]
@[simp] theorem modService_marks (t : Trunk) (f : Service → Service) : (s.modService t f).marks = s.marks := by rw [modService_frame]
@[simp] theorem modService_abandons (t : Trunk) (f : Service → Service) : (s.modService t f).abandons = s.abandons := by rw [modService_frame]
@[simp] theorem modService_abandonPosts (t : Trunk) (f : Service → Service) : (s.modService t f).abandonPosts = s.abandonPosts := by rw [modService_frame]
@[simp] theorem modService_mask (t : Trunk) (f : Service → Service) : (s.modService t f).mask = s.mask := by rw [modService_frame]
@[simp] theorem modService_loop (t : Trunk) (f : Service → Service) (j : LoopId) : (s.modService t f).loop j = s.loop j := by simp [loop]
@[simp] theorem modService_ring (t : Trunk) (f : Service → Service) (j : LoopId) : (s.modService t f).ring j = s.ring j := by simp [ring]
@[simp] theorem modService_feed (t : Trunk) (f : Service → Service) (j : LoopId) : (s.modService t f).feed j = s.feed j := by simp [feed]
@[simp] theorem modService_record (t : Trunk) (f : Service → Service) (j : SlotId) : (s.modService t f).record j = s.record j := by simp [record]
@[simp] theorem modService_ctx (t : Trunk) (f : Service → Service) (j : CtxId) : (s.modService t f).ctx j = s.ctx j := by simp [ctx]
@[simp] theorem modService_trunk (t : Trunk) (f : Service → Service) (j : Trunk) : (s.modService t f).trunk j = s.trunk j := by cases j <;> simp [trunk]
@[simp] theorem modService_path (t : Trunk) (f : Service → Service) (j : CtxId) : (s.modService t f).path j = s.path j := by simp [path]
@[simp] theorem modService_player (t : Trunk) (f : Service → Service) (j : CtxId) : (s.modService t f).player j = s.player j := by simp [player]
@[simp] theorem modService_segment (t : Trunk) (f : Service → Service) (j : SegId) : (s.modService t f).segment j = s.segment j := by simp [segment]
@[simp] theorem modService_param (t : Trunk) (f : Service → Service) (j : Fin 25) : (s.modService t f).param j = s.param j := by simp [param]

/-! ### handOnce -/

theorem handOnce_frame (i : Instr) : s.handOnce i = { s with
    handed := (s.handOnce i).handed } := by
  apply State.ext <;> first | with_reducible rfl | (unfold handOnce; (repeat' split) <;> simp)
@[simp] theorem handOnce_pending (i : Instr) : (s.handOnce i).pending = s.pending := by rw [handOnce_frame]
@[simp] theorem handOnce_loops (i : Instr) : (s.handOnce i).loops = s.loops := by rw [handOnce_frame]
@[simp] theorem handOnce_rings (i : Instr) : (s.handOnce i).rings = s.rings := by rw [handOnce_frame]
@[simp] theorem handOnce_feeds (i : Instr) : (s.handOnce i).feeds = s.feeds := by rw [handOnce_frame]
@[simp] theorem handOnce_supply (i : Instr) : (s.handOnce i).supply = s.supply := by rw [handOnce_frame]
@[simp] theorem handOnce_directory (i : Instr) : (s.handOnce i).directory = s.directory := by rw [handOnce_frame]
@[simp] theorem handOnce_contexts (i : Instr) : (s.handOnce i).contexts = s.contexts := by rw [handOnce_frame]
@[simp] theorem handOnce_waiting (i : Instr) : (s.handOnce i).waiting = s.waiting := by rw [handOnce_frame]
@[simp] theorem handOnce_entryCount (i : Instr) : (s.handOnce i).entryCount = s.entryCount := by rw [handOnce_frame]
@[simp] theorem handOnce_routes (i : Instr) : (s.handOnce i).routes = s.routes := by rw [handOnce_frame]
@[simp] theorem handOnce_plan (i : Instr) : (s.handOnce i).plan = s.plan := by rw [handOnce_frame]
@[simp] theorem handOnce_trunkA (i : Instr) : (s.handOnce i).trunkA = s.trunkA := by rw [handOnce_frame]
@[simp] theorem handOnce_trunkB (i : Instr) : (s.handOnce i).trunkB = s.trunkB := by rw [handOnce_frame]
@[simp] theorem handOnce_paths (i : Instr) : (s.handOnce i).paths = s.paths := by rw [handOnce_frame]
@[simp] theorem handOnce_samples (i : Instr) : (s.handOnce i).samples = s.samples := by rw [handOnce_frame]
@[simp] theorem handOnce_segments (i : Instr) : (s.handOnce i).segments = s.segments := by rw [handOnce_frame]
@[simp] theorem handOnce_players (i : Instr) : (s.handOnce i).players = s.players := by rw [handOnce_frame]
@[simp] theorem handOnce_serviceA (i : Instr) : (s.handOnce i).serviceA = s.serviceA := by rw [handOnce_frame]
@[simp] theorem handOnce_serviceB (i : Instr) : (s.handOnce i).serviceB = s.serviceB := by rw [handOnce_frame]
@[simp] theorem handOnce_home (i : Instr) : (s.handOnce i).home = s.home := by rw [handOnce_frame]
@[simp] theorem handOnce_settings (i : Instr) : (s.handOnce i).settings = s.settings := by rw [handOnce_frame]
@[simp] theorem handOnce_sectionFault (i : Instr) : (s.handOnce i).sectionFault = s.sectionFault := by rw [handOnce_frame]
@[simp] theorem handOnce_trunkFaultA (i : Instr) : (s.handOnce i).trunkFaultA = s.trunkFaultA := by rw [handOnce_frame]
@[simp] theorem handOnce_trunkFaultB (i : Instr) : (s.handOnce i).trunkFaultB = s.trunkFaultB := by rw [handOnce_frame]
@[simp] theorem handOnce_loopFaults (i : Instr) : (s.handOnce i).loopFaults = s.loopFaults := by rw [handOnce_frame]
@[simp] theorem handOnce_postFaults (i : Instr) : (s.handOnce i).postFaults = s.postFaults := by rw [handOnce_frame]
@[simp] theorem handOnce_testResults (i : Instr) : (s.handOnce i).testResults = s.testResults := by rw [handOnce_frame]
@[simp] theorem handOnce_marks (i : Instr) : (s.handOnce i).marks = s.marks := by rw [handOnce_frame]
@[simp] theorem handOnce_abandons (i : Instr) : (s.handOnce i).abandons = s.abandons := by rw [handOnce_frame]
@[simp] theorem handOnce_abandonPosts (i : Instr) : (s.handOnce i).abandonPosts = s.abandonPosts := by rw [handOnce_frame]
@[simp] theorem handOnce_mask (i : Instr) : (s.handOnce i).mask = s.mask := by rw [handOnce_frame]
@[simp] theorem handOnce_loop (i : Instr) (j : LoopId) : (s.handOnce i).loop j = s.loop j := by simp [loop]
@[simp] theorem handOnce_ring (i : Instr) (j : LoopId) : (s.handOnce i).ring j = s.ring j := by simp [ring]
@[simp] theorem handOnce_feed (i : Instr) (j : LoopId) : (s.handOnce i).feed j = s.feed j := by simp [feed]
@[simp] theorem handOnce_record (i : Instr) (j : SlotId) : (s.handOnce i).record j = s.record j := by simp [record]
@[simp] theorem handOnce_ctx (i : Instr) (j : CtxId) : (s.handOnce i).ctx j = s.ctx j := by simp [ctx]
@[simp] theorem handOnce_trunk (i : Instr) (j : Trunk) : (s.handOnce i).trunk j = s.trunk j := by cases j <;> simp [trunk]
@[simp] theorem handOnce_path (i : Instr) (j : CtxId) : (s.handOnce i).path j = s.path j := by simp [path]
@[simp] theorem handOnce_player (i : Instr) (j : CtxId) : (s.handOnce i).player j = s.player j := by simp [player]
@[simp] theorem handOnce_segment (i : Instr) (j : SegId) : (s.handOnce i).segment j = s.segment j := by simp [segment]
@[simp] theorem handOnce_service (i : Instr) (j : Trunk) : (s.handOnce i).service j = s.service j := by cases j <;> simp [service]
@[simp] theorem handOnce_param (i : Instr) (j : Fin 25) : (s.handOnce i).param j = s.param j := by simp [param]

/-! ### modEntry -/

theorem modEntry_frame (l : LoopId) (pos : Nat) (f : MapEntry → MapEntry) : s.modEntry l pos f = { s with
    loops := (s.modEntry l pos f).loops } := by
  apply State.ext <;> first | with_reducible rfl | (unfold modEntry; (repeat' split) <;> simp)
@[simp] theorem modEntry_pending (l : LoopId) (pos : Nat) (f : MapEntry → MapEntry) : (s.modEntry l pos f).pending = s.pending := by rw [modEntry_frame]
@[simp] theorem modEntry_handed (l : LoopId) (pos : Nat) (f : MapEntry → MapEntry) : (s.modEntry l pos f).handed = s.handed := by rw [modEntry_frame]
@[simp] theorem modEntry_rings (l : LoopId) (pos : Nat) (f : MapEntry → MapEntry) : (s.modEntry l pos f).rings = s.rings := by rw [modEntry_frame]
@[simp] theorem modEntry_feeds (l : LoopId) (pos : Nat) (f : MapEntry → MapEntry) : (s.modEntry l pos f).feeds = s.feeds := by rw [modEntry_frame]
@[simp] theorem modEntry_supply (l : LoopId) (pos : Nat) (f : MapEntry → MapEntry) : (s.modEntry l pos f).supply = s.supply := by rw [modEntry_frame]
@[simp] theorem modEntry_directory (l : LoopId) (pos : Nat) (f : MapEntry → MapEntry) : (s.modEntry l pos f).directory = s.directory := by rw [modEntry_frame]
@[simp] theorem modEntry_contexts (l : LoopId) (pos : Nat) (f : MapEntry → MapEntry) : (s.modEntry l pos f).contexts = s.contexts := by rw [modEntry_frame]
@[simp] theorem modEntry_waiting (l : LoopId) (pos : Nat) (f : MapEntry → MapEntry) : (s.modEntry l pos f).waiting = s.waiting := by rw [modEntry_frame]
@[simp] theorem modEntry_entryCount (l : LoopId) (pos : Nat) (f : MapEntry → MapEntry) : (s.modEntry l pos f).entryCount = s.entryCount := by rw [modEntry_frame]
@[simp] theorem modEntry_routes (l : LoopId) (pos : Nat) (f : MapEntry → MapEntry) : (s.modEntry l pos f).routes = s.routes := by rw [modEntry_frame]
@[simp] theorem modEntry_plan (l : LoopId) (pos : Nat) (f : MapEntry → MapEntry) : (s.modEntry l pos f).plan = s.plan := by rw [modEntry_frame]
@[simp] theorem modEntry_trunkA (l : LoopId) (pos : Nat) (f : MapEntry → MapEntry) : (s.modEntry l pos f).trunkA = s.trunkA := by rw [modEntry_frame]
@[simp] theorem modEntry_trunkB (l : LoopId) (pos : Nat) (f : MapEntry → MapEntry) : (s.modEntry l pos f).trunkB = s.trunkB := by rw [modEntry_frame]
@[simp] theorem modEntry_paths (l : LoopId) (pos : Nat) (f : MapEntry → MapEntry) : (s.modEntry l pos f).paths = s.paths := by rw [modEntry_frame]
@[simp] theorem modEntry_samples (l : LoopId) (pos : Nat) (f : MapEntry → MapEntry) : (s.modEntry l pos f).samples = s.samples := by rw [modEntry_frame]
@[simp] theorem modEntry_segments (l : LoopId) (pos : Nat) (f : MapEntry → MapEntry) : (s.modEntry l pos f).segments = s.segments := by rw [modEntry_frame]
@[simp] theorem modEntry_players (l : LoopId) (pos : Nat) (f : MapEntry → MapEntry) : (s.modEntry l pos f).players = s.players := by rw [modEntry_frame]
@[simp] theorem modEntry_serviceA (l : LoopId) (pos : Nat) (f : MapEntry → MapEntry) : (s.modEntry l pos f).serviceA = s.serviceA := by rw [modEntry_frame]
@[simp] theorem modEntry_serviceB (l : LoopId) (pos : Nat) (f : MapEntry → MapEntry) : (s.modEntry l pos f).serviceB = s.serviceB := by rw [modEntry_frame]
@[simp] theorem modEntry_home (l : LoopId) (pos : Nat) (f : MapEntry → MapEntry) : (s.modEntry l pos f).home = s.home := by rw [modEntry_frame]
@[simp] theorem modEntry_settings (l : LoopId) (pos : Nat) (f : MapEntry → MapEntry) : (s.modEntry l pos f).settings = s.settings := by rw [modEntry_frame]
@[simp] theorem modEntry_sectionFault (l : LoopId) (pos : Nat) (f : MapEntry → MapEntry) : (s.modEntry l pos f).sectionFault = s.sectionFault := by rw [modEntry_frame]
@[simp] theorem modEntry_trunkFaultA (l : LoopId) (pos : Nat) (f : MapEntry → MapEntry) : (s.modEntry l pos f).trunkFaultA = s.trunkFaultA := by rw [modEntry_frame]
@[simp] theorem modEntry_trunkFaultB (l : LoopId) (pos : Nat) (f : MapEntry → MapEntry) : (s.modEntry l pos f).trunkFaultB = s.trunkFaultB := by rw [modEntry_frame]
@[simp] theorem modEntry_loopFaults (l : LoopId) (pos : Nat) (f : MapEntry → MapEntry) : (s.modEntry l pos f).loopFaults = s.loopFaults := by rw [modEntry_frame]
@[simp] theorem modEntry_postFaults (l : LoopId) (pos : Nat) (f : MapEntry → MapEntry) : (s.modEntry l pos f).postFaults = s.postFaults := by rw [modEntry_frame]
@[simp] theorem modEntry_testResults (l : LoopId) (pos : Nat) (f : MapEntry → MapEntry) : (s.modEntry l pos f).testResults = s.testResults := by rw [modEntry_frame]
@[simp] theorem modEntry_marks (l : LoopId) (pos : Nat) (f : MapEntry → MapEntry) : (s.modEntry l pos f).marks = s.marks := by rw [modEntry_frame]
@[simp] theorem modEntry_abandons (l : LoopId) (pos : Nat) (f : MapEntry → MapEntry) : (s.modEntry l pos f).abandons = s.abandons := by rw [modEntry_frame]
@[simp] theorem modEntry_abandonPosts (l : LoopId) (pos : Nat) (f : MapEntry → MapEntry) : (s.modEntry l pos f).abandonPosts = s.abandonPosts := by rw [modEntry_frame]
@[simp] theorem modEntry_mask (l : LoopId) (pos : Nat) (f : MapEntry → MapEntry) : (s.modEntry l pos f).mask = s.mask := by rw [modEntry_frame]
@[simp] theorem modEntry_ring (l : LoopId) (pos : Nat) (f : MapEntry → MapEntry) (j : LoopId) : (s.modEntry l pos f).ring j = s.ring j := by simp [ring]
@[simp] theorem modEntry_feed (l : LoopId) (pos : Nat) (f : MapEntry → MapEntry) (j : LoopId) : (s.modEntry l pos f).feed j = s.feed j := by simp [feed]
@[simp] theorem modEntry_record (l : LoopId) (pos : Nat) (f : MapEntry → MapEntry) (j : SlotId) : (s.modEntry l pos f).record j = s.record j := by simp [record]
@[simp] theorem modEntry_ctx (l : LoopId) (pos : Nat) (f : MapEntry → MapEntry) (j : CtxId) : (s.modEntry l pos f).ctx j = s.ctx j := by simp [ctx]
@[simp] theorem modEntry_trunk (l : LoopId) (pos : Nat) (f : MapEntry → MapEntry) (j : Trunk) : (s.modEntry l pos f).trunk j = s.trunk j := by cases j <;> simp [trunk]
@[simp] theorem modEntry_path (l : LoopId) (pos : Nat) (f : MapEntry → MapEntry) (j : CtxId) : (s.modEntry l pos f).path j = s.path j := by simp [path]
@[simp] theorem modEntry_player (l : LoopId) (pos : Nat) (f : MapEntry → MapEntry) (j : CtxId) : (s.modEntry l pos f).player j = s.player j := by simp [player]
@[simp] theorem modEntry_segment (l : LoopId) (pos : Nat) (f : MapEntry → MapEntry) (j : SegId) : (s.modEntry l pos f).segment j = s.segment j := by simp [segment]
@[simp] theorem modEntry_service (l : LoopId) (pos : Nat) (f : MapEntry → MapEntry) (j : Trunk) : (s.modEntry l pos f).service j = s.service j := by cases j <;> simp [service]
@[simp] theorem modEntry_param (l : LoopId) (pos : Nat) (f : MapEntry → MapEntry) (j : Fin 25) : (s.modEntry l pos f).param j = s.param j := by simp [param]

/-! ### modCmd -/

theorem modCmd_frame (l : LoopId) (pos : Nat) (f : CmdRec → CmdRec) : s.modCmd l pos f = { s with
    loops := (s.modCmd l pos f).loops } := by
  apply State.ext <;> first | with_reducible rfl | (simp [modCmd])
@[simp] theorem modCmd_pending (l : LoopId) (pos : Nat) (f : CmdRec → CmdRec) : (s.modCmd l pos f).pending = s.pending := by rw [modCmd_frame]
@[simp] theorem modCmd_handed (l : LoopId) (pos : Nat) (f : CmdRec → CmdRec) : (s.modCmd l pos f).handed = s.handed := by rw [modCmd_frame]
@[simp] theorem modCmd_rings (l : LoopId) (pos : Nat) (f : CmdRec → CmdRec) : (s.modCmd l pos f).rings = s.rings := by rw [modCmd_frame]
@[simp] theorem modCmd_feeds (l : LoopId) (pos : Nat) (f : CmdRec → CmdRec) : (s.modCmd l pos f).feeds = s.feeds := by rw [modCmd_frame]
@[simp] theorem modCmd_supply (l : LoopId) (pos : Nat) (f : CmdRec → CmdRec) : (s.modCmd l pos f).supply = s.supply := by rw [modCmd_frame]
@[simp] theorem modCmd_directory (l : LoopId) (pos : Nat) (f : CmdRec → CmdRec) : (s.modCmd l pos f).directory = s.directory := by rw [modCmd_frame]
@[simp] theorem modCmd_contexts (l : LoopId) (pos : Nat) (f : CmdRec → CmdRec) : (s.modCmd l pos f).contexts = s.contexts := by rw [modCmd_frame]
@[simp] theorem modCmd_waiting (l : LoopId) (pos : Nat) (f : CmdRec → CmdRec) : (s.modCmd l pos f).waiting = s.waiting := by rw [modCmd_frame]
@[simp] theorem modCmd_entryCount (l : LoopId) (pos : Nat) (f : CmdRec → CmdRec) : (s.modCmd l pos f).entryCount = s.entryCount := by rw [modCmd_frame]
@[simp] theorem modCmd_routes (l : LoopId) (pos : Nat) (f : CmdRec → CmdRec) : (s.modCmd l pos f).routes = s.routes := by rw [modCmd_frame]
@[simp] theorem modCmd_plan (l : LoopId) (pos : Nat) (f : CmdRec → CmdRec) : (s.modCmd l pos f).plan = s.plan := by rw [modCmd_frame]
@[simp] theorem modCmd_trunkA (l : LoopId) (pos : Nat) (f : CmdRec → CmdRec) : (s.modCmd l pos f).trunkA = s.trunkA := by rw [modCmd_frame]
@[simp] theorem modCmd_trunkB (l : LoopId) (pos : Nat) (f : CmdRec → CmdRec) : (s.modCmd l pos f).trunkB = s.trunkB := by rw [modCmd_frame]
@[simp] theorem modCmd_paths (l : LoopId) (pos : Nat) (f : CmdRec → CmdRec) : (s.modCmd l pos f).paths = s.paths := by rw [modCmd_frame]
@[simp] theorem modCmd_samples (l : LoopId) (pos : Nat) (f : CmdRec → CmdRec) : (s.modCmd l pos f).samples = s.samples := by rw [modCmd_frame]
@[simp] theorem modCmd_segments (l : LoopId) (pos : Nat) (f : CmdRec → CmdRec) : (s.modCmd l pos f).segments = s.segments := by rw [modCmd_frame]
@[simp] theorem modCmd_players (l : LoopId) (pos : Nat) (f : CmdRec → CmdRec) : (s.modCmd l pos f).players = s.players := by rw [modCmd_frame]
@[simp] theorem modCmd_serviceA (l : LoopId) (pos : Nat) (f : CmdRec → CmdRec) : (s.modCmd l pos f).serviceA = s.serviceA := by rw [modCmd_frame]
@[simp] theorem modCmd_serviceB (l : LoopId) (pos : Nat) (f : CmdRec → CmdRec) : (s.modCmd l pos f).serviceB = s.serviceB := by rw [modCmd_frame]
@[simp] theorem modCmd_home (l : LoopId) (pos : Nat) (f : CmdRec → CmdRec) : (s.modCmd l pos f).home = s.home := by rw [modCmd_frame]
@[simp] theorem modCmd_settings (l : LoopId) (pos : Nat) (f : CmdRec → CmdRec) : (s.modCmd l pos f).settings = s.settings := by rw [modCmd_frame]
@[simp] theorem modCmd_sectionFault (l : LoopId) (pos : Nat) (f : CmdRec → CmdRec) : (s.modCmd l pos f).sectionFault = s.sectionFault := by rw [modCmd_frame]
@[simp] theorem modCmd_trunkFaultA (l : LoopId) (pos : Nat) (f : CmdRec → CmdRec) : (s.modCmd l pos f).trunkFaultA = s.trunkFaultA := by rw [modCmd_frame]
@[simp] theorem modCmd_trunkFaultB (l : LoopId) (pos : Nat) (f : CmdRec → CmdRec) : (s.modCmd l pos f).trunkFaultB = s.trunkFaultB := by rw [modCmd_frame]
@[simp] theorem modCmd_loopFaults (l : LoopId) (pos : Nat) (f : CmdRec → CmdRec) : (s.modCmd l pos f).loopFaults = s.loopFaults := by rw [modCmd_frame]
@[simp] theorem modCmd_postFaults (l : LoopId) (pos : Nat) (f : CmdRec → CmdRec) : (s.modCmd l pos f).postFaults = s.postFaults := by rw [modCmd_frame]
@[simp] theorem modCmd_testResults (l : LoopId) (pos : Nat) (f : CmdRec → CmdRec) : (s.modCmd l pos f).testResults = s.testResults := by rw [modCmd_frame]
@[simp] theorem modCmd_marks (l : LoopId) (pos : Nat) (f : CmdRec → CmdRec) : (s.modCmd l pos f).marks = s.marks := by rw [modCmd_frame]
@[simp] theorem modCmd_abandons (l : LoopId) (pos : Nat) (f : CmdRec → CmdRec) : (s.modCmd l pos f).abandons = s.abandons := by rw [modCmd_frame]
@[simp] theorem modCmd_abandonPosts (l : LoopId) (pos : Nat) (f : CmdRec → CmdRec) : (s.modCmd l pos f).abandonPosts = s.abandonPosts := by rw [modCmd_frame]
@[simp] theorem modCmd_mask (l : LoopId) (pos : Nat) (f : CmdRec → CmdRec) : (s.modCmd l pos f).mask = s.mask := by rw [modCmd_frame]
@[simp] theorem modCmd_ring (l : LoopId) (pos : Nat) (f : CmdRec → CmdRec) (j : LoopId) : (s.modCmd l pos f).ring j = s.ring j := by simp [ring]
@[simp] theorem modCmd_feed (l : LoopId) (pos : Nat) (f : CmdRec → CmdRec) (j : LoopId) : (s.modCmd l pos f).feed j = s.feed j := by simp [feed]
@[simp] theorem modCmd_record (l : LoopId) (pos : Nat) (f : CmdRec → CmdRec) (j : SlotId) : (s.modCmd l pos f).record j = s.record j := by simp [record]
@[simp] theorem modCmd_ctx (l : LoopId) (pos : Nat) (f : CmdRec → CmdRec) (j : CtxId) : (s.modCmd l pos f).ctx j = s.ctx j := by simp [ctx]
@[simp] theorem modCmd_trunk (l : LoopId) (pos : Nat) (f : CmdRec → CmdRec) (j : Trunk) : (s.modCmd l pos f).trunk j = s.trunk j := by cases j <;> simp [trunk]
@[simp] theorem modCmd_path (l : LoopId) (pos : Nat) (f : CmdRec → CmdRec) (j : CtxId) : (s.modCmd l pos f).path j = s.path j := by simp [path]
@[simp] theorem modCmd_player (l : LoopId) (pos : Nat) (f : CmdRec → CmdRec) (j : CtxId) : (s.modCmd l pos f).player j = s.player j := by simp [player]
@[simp] theorem modCmd_segment (l : LoopId) (pos : Nat) (f : CmdRec → CmdRec) (j : SegId) : (s.modCmd l pos f).segment j = s.segment j := by simp [segment]
@[simp] theorem modCmd_service (l : LoopId) (pos : Nat) (f : CmdRec → CmdRec) (j : Trunk) : (s.modCmd l pos f).service j = s.service j := by cases j <;> simp [service]
@[simp] theorem modCmd_param (l : LoopId) (pos : Nat) (f : CmdRec → CmdRec) (j : Fin 25) : (s.modCmd l pos f).param j = s.param j := by simp [param]

/-! ### wakeScan -/

theorem wakeScan_frame (l : LoopId) : s.wakeScan l = { s with
    handed := (s.wakeScan l).handed } := by
  apply State.ext <;> first | with_reducible rfl | (unfold wakeScan; (repeat' split) <;> simp)
@[simp] theorem wakeScan_pending (l : LoopId) : (s.wakeScan l).pending = s.pending := by rw [wakeScan_frame]
@[simp] theorem wakeScan_loops (l : LoopId) : (s.wakeScan l).loops = s.loops := by rw [wakeScan_frame]
@[simp] theorem wakeScan_rings (l : LoopId) : (s.wakeScan l).rings = s.rings := by rw [wakeScan_frame]
@[simp] theorem wakeScan_feeds (l : LoopId) : (s.wakeScan l).feeds = s.feeds := by rw [wakeScan_frame]
@[simp] theorem wakeScan_supply (l : LoopId) : (s.wakeScan l).supply = s.supply := by rw [wakeScan_frame]
@[simp] theorem wakeScan_directory (l : LoopId) : (s.wakeScan l).directory = s.directory := by rw [wakeScan_frame]
@[simp] theorem wakeScan_contexts (l : LoopId) : (s.wakeScan l).contexts = s.contexts := by rw [wakeScan_frame]
@[simp] theorem wakeScan_waiting (l : LoopId) : (s.wakeScan l).waiting = s.waiting := by rw [wakeScan_frame]
@[simp] theorem wakeScan_entryCount (l : LoopId) : (s.wakeScan l).entryCount = s.entryCount := by rw [wakeScan_frame]
@[simp] theorem wakeScan_routes (l : LoopId) : (s.wakeScan l).routes = s.routes := by rw [wakeScan_frame]
@[simp] theorem wakeScan_plan (l : LoopId) : (s.wakeScan l).plan = s.plan := by rw [wakeScan_frame]
@[simp] theorem wakeScan_trunkA (l : LoopId) : (s.wakeScan l).trunkA = s.trunkA := by rw [wakeScan_frame]
@[simp] theorem wakeScan_trunkB (l : LoopId) : (s.wakeScan l).trunkB = s.trunkB := by rw [wakeScan_frame]
@[simp] theorem wakeScan_paths (l : LoopId) : (s.wakeScan l).paths = s.paths := by rw [wakeScan_frame]
@[simp] theorem wakeScan_samples (l : LoopId) : (s.wakeScan l).samples = s.samples := by rw [wakeScan_frame]
@[simp] theorem wakeScan_segments (l : LoopId) : (s.wakeScan l).segments = s.segments := by rw [wakeScan_frame]
@[simp] theorem wakeScan_players (l : LoopId) : (s.wakeScan l).players = s.players := by rw [wakeScan_frame]
@[simp] theorem wakeScan_serviceA (l : LoopId) : (s.wakeScan l).serviceA = s.serviceA := by rw [wakeScan_frame]
@[simp] theorem wakeScan_serviceB (l : LoopId) : (s.wakeScan l).serviceB = s.serviceB := by rw [wakeScan_frame]
@[simp] theorem wakeScan_home (l : LoopId) : (s.wakeScan l).home = s.home := by rw [wakeScan_frame]
@[simp] theorem wakeScan_settings (l : LoopId) : (s.wakeScan l).settings = s.settings := by rw [wakeScan_frame]
@[simp] theorem wakeScan_sectionFault (l : LoopId) : (s.wakeScan l).sectionFault = s.sectionFault := by rw [wakeScan_frame]
@[simp] theorem wakeScan_trunkFaultA (l : LoopId) : (s.wakeScan l).trunkFaultA = s.trunkFaultA := by rw [wakeScan_frame]
@[simp] theorem wakeScan_trunkFaultB (l : LoopId) : (s.wakeScan l).trunkFaultB = s.trunkFaultB := by rw [wakeScan_frame]
@[simp] theorem wakeScan_loopFaults (l : LoopId) : (s.wakeScan l).loopFaults = s.loopFaults := by rw [wakeScan_frame]
@[simp] theorem wakeScan_postFaults (l : LoopId) : (s.wakeScan l).postFaults = s.postFaults := by rw [wakeScan_frame]
@[simp] theorem wakeScan_testResults (l : LoopId) : (s.wakeScan l).testResults = s.testResults := by rw [wakeScan_frame]
@[simp] theorem wakeScan_marks (l : LoopId) : (s.wakeScan l).marks = s.marks := by rw [wakeScan_frame]
@[simp] theorem wakeScan_abandons (l : LoopId) : (s.wakeScan l).abandons = s.abandons := by rw [wakeScan_frame]
@[simp] theorem wakeScan_abandonPosts (l : LoopId) : (s.wakeScan l).abandonPosts = s.abandonPosts := by rw [wakeScan_frame]
@[simp] theorem wakeScan_mask (l : LoopId) : (s.wakeScan l).mask = s.mask := by rw [wakeScan_frame]
@[simp] theorem wakeScan_loop (l : LoopId) (j : LoopId) : (s.wakeScan l).loop j = s.loop j := by simp [loop]
@[simp] theorem wakeScan_ring (l : LoopId) (j : LoopId) : (s.wakeScan l).ring j = s.ring j := by simp [ring]
@[simp] theorem wakeScan_feed (l : LoopId) (j : LoopId) : (s.wakeScan l).feed j = s.feed j := by simp [feed]
@[simp] theorem wakeScan_record (l : LoopId) (j : SlotId) : (s.wakeScan l).record j = s.record j := by simp [record]
@[simp] theorem wakeScan_ctx (l : LoopId) (j : CtxId) : (s.wakeScan l).ctx j = s.ctx j := by simp [ctx]
@[simp] theorem wakeScan_trunk (l : LoopId) (j : Trunk) : (s.wakeScan l).trunk j = s.trunk j := by cases j <;> simp [trunk]
@[simp] theorem wakeScan_path (l : LoopId) (j : CtxId) : (s.wakeScan l).path j = s.path j := by simp [path]
@[simp] theorem wakeScan_player (l : LoopId) (j : CtxId) : (s.wakeScan l).player j = s.player j := by simp [player]
@[simp] theorem wakeScan_segment (l : LoopId) (j : SegId) : (s.wakeScan l).segment j = s.segment j := by simp [segment]
@[simp] theorem wakeScan_service (l : LoopId) (j : Trunk) : (s.wakeScan l).service j = s.service j := by cases j <;> simp [service]
@[simp] theorem wakeScan_param (l : LoopId) (j : Fin 25) : (s.wakeScan l).param j = s.param j := by simp [param]

/-! ### setLampAt -/

theorem setLampAt_frame (l : LoopId) (pos : Nat) (lamp : Lamp) : s.setLampAt l pos lamp = { s with
    loops := (s.setLampAt l pos lamp).loops
    handed := (s.setLampAt l pos lamp).handed } := by
  apply State.ext <;> first | with_reducible rfl | (simp [setLampAt])
@[simp] theorem setLampAt_pending (l : LoopId) (pos : Nat) (lamp : Lamp) : (s.setLampAt l pos lamp).pending = s.pending := by rw [setLampAt_frame]
@[simp] theorem setLampAt_rings (l : LoopId) (pos : Nat) (lamp : Lamp) : (s.setLampAt l pos lamp).rings = s.rings := by rw [setLampAt_frame]
@[simp] theorem setLampAt_feeds (l : LoopId) (pos : Nat) (lamp : Lamp) : (s.setLampAt l pos lamp).feeds = s.feeds := by rw [setLampAt_frame]
@[simp] theorem setLampAt_supply (l : LoopId) (pos : Nat) (lamp : Lamp) : (s.setLampAt l pos lamp).supply = s.supply := by rw [setLampAt_frame]
@[simp] theorem setLampAt_directory (l : LoopId) (pos : Nat) (lamp : Lamp) : (s.setLampAt l pos lamp).directory = s.directory := by rw [setLampAt_frame]
@[simp] theorem setLampAt_contexts (l : LoopId) (pos : Nat) (lamp : Lamp) : (s.setLampAt l pos lamp).contexts = s.contexts := by rw [setLampAt_frame]
@[simp] theorem setLampAt_waiting (l : LoopId) (pos : Nat) (lamp : Lamp) : (s.setLampAt l pos lamp).waiting = s.waiting := by rw [setLampAt_frame]
@[simp] theorem setLampAt_entryCount (l : LoopId) (pos : Nat) (lamp : Lamp) : (s.setLampAt l pos lamp).entryCount = s.entryCount := by rw [setLampAt_frame]
@[simp] theorem setLampAt_routes (l : LoopId) (pos : Nat) (lamp : Lamp) : (s.setLampAt l pos lamp).routes = s.routes := by rw [setLampAt_frame]
@[simp] theorem setLampAt_plan (l : LoopId) (pos : Nat) (lamp : Lamp) : (s.setLampAt l pos lamp).plan = s.plan := by rw [setLampAt_frame]
@[simp] theorem setLampAt_trunkA (l : LoopId) (pos : Nat) (lamp : Lamp) : (s.setLampAt l pos lamp).trunkA = s.trunkA := by rw [setLampAt_frame]
@[simp] theorem setLampAt_trunkB (l : LoopId) (pos : Nat) (lamp : Lamp) : (s.setLampAt l pos lamp).trunkB = s.trunkB := by rw [setLampAt_frame]
@[simp] theorem setLampAt_paths (l : LoopId) (pos : Nat) (lamp : Lamp) : (s.setLampAt l pos lamp).paths = s.paths := by rw [setLampAt_frame]
@[simp] theorem setLampAt_samples (l : LoopId) (pos : Nat) (lamp : Lamp) : (s.setLampAt l pos lamp).samples = s.samples := by rw [setLampAt_frame]
@[simp] theorem setLampAt_segments (l : LoopId) (pos : Nat) (lamp : Lamp) : (s.setLampAt l pos lamp).segments = s.segments := by rw [setLampAt_frame]
@[simp] theorem setLampAt_players (l : LoopId) (pos : Nat) (lamp : Lamp) : (s.setLampAt l pos lamp).players = s.players := by rw [setLampAt_frame]
@[simp] theorem setLampAt_serviceA (l : LoopId) (pos : Nat) (lamp : Lamp) : (s.setLampAt l pos lamp).serviceA = s.serviceA := by rw [setLampAt_frame]
@[simp] theorem setLampAt_serviceB (l : LoopId) (pos : Nat) (lamp : Lamp) : (s.setLampAt l pos lamp).serviceB = s.serviceB := by rw [setLampAt_frame]
@[simp] theorem setLampAt_home (l : LoopId) (pos : Nat) (lamp : Lamp) : (s.setLampAt l pos lamp).home = s.home := by rw [setLampAt_frame]
@[simp] theorem setLampAt_settings (l : LoopId) (pos : Nat) (lamp : Lamp) : (s.setLampAt l pos lamp).settings = s.settings := by rw [setLampAt_frame]
@[simp] theorem setLampAt_sectionFault (l : LoopId) (pos : Nat) (lamp : Lamp) : (s.setLampAt l pos lamp).sectionFault = s.sectionFault := by rw [setLampAt_frame]
@[simp] theorem setLampAt_trunkFaultA (l : LoopId) (pos : Nat) (lamp : Lamp) : (s.setLampAt l pos lamp).trunkFaultA = s.trunkFaultA := by rw [setLampAt_frame]
@[simp] theorem setLampAt_trunkFaultB (l : LoopId) (pos : Nat) (lamp : Lamp) : (s.setLampAt l pos lamp).trunkFaultB = s.trunkFaultB := by rw [setLampAt_frame]
@[simp] theorem setLampAt_loopFaults (l : LoopId) (pos : Nat) (lamp : Lamp) : (s.setLampAt l pos lamp).loopFaults = s.loopFaults := by rw [setLampAt_frame]
@[simp] theorem setLampAt_postFaults (l : LoopId) (pos : Nat) (lamp : Lamp) : (s.setLampAt l pos lamp).postFaults = s.postFaults := by rw [setLampAt_frame]
@[simp] theorem setLampAt_testResults (l : LoopId) (pos : Nat) (lamp : Lamp) : (s.setLampAt l pos lamp).testResults = s.testResults := by rw [setLampAt_frame]
@[simp] theorem setLampAt_marks (l : LoopId) (pos : Nat) (lamp : Lamp) : (s.setLampAt l pos lamp).marks = s.marks := by rw [setLampAt_frame]
@[simp] theorem setLampAt_abandons (l : LoopId) (pos : Nat) (lamp : Lamp) : (s.setLampAt l pos lamp).abandons = s.abandons := by rw [setLampAt_frame]
@[simp] theorem setLampAt_abandonPosts (l : LoopId) (pos : Nat) (lamp : Lamp) : (s.setLampAt l pos lamp).abandonPosts = s.abandonPosts := by rw [setLampAt_frame]
@[simp] theorem setLampAt_mask (l : LoopId) (pos : Nat) (lamp : Lamp) : (s.setLampAt l pos lamp).mask = s.mask := by rw [setLampAt_frame]
@[simp] theorem setLampAt_ring (l : LoopId) (pos : Nat) (lamp : Lamp) (j : LoopId) : (s.setLampAt l pos lamp).ring j = s.ring j := by simp [ring]
@[simp] theorem setLampAt_feed (l : LoopId) (pos : Nat) (lamp : Lamp) (j : LoopId) : (s.setLampAt l pos lamp).feed j = s.feed j := by simp [feed]
@[simp] theorem setLampAt_record (l : LoopId) (pos : Nat) (lamp : Lamp) (j : SlotId) : (s.setLampAt l pos lamp).record j = s.record j := by simp [record]
@[simp] theorem setLampAt_ctx (l : LoopId) (pos : Nat) (lamp : Lamp) (j : CtxId) : (s.setLampAt l pos lamp).ctx j = s.ctx j := by simp [ctx]
@[simp] theorem setLampAt_trunk (l : LoopId) (pos : Nat) (lamp : Lamp) (j : Trunk) : (s.setLampAt l pos lamp).trunk j = s.trunk j := by cases j <;> simp [trunk]
@[simp] theorem setLampAt_path (l : LoopId) (pos : Nat) (lamp : Lamp) (j : CtxId) : (s.setLampAt l pos lamp).path j = s.path j := by simp [path]
@[simp] theorem setLampAt_player (l : LoopId) (pos : Nat) (lamp : Lamp) (j : CtxId) : (s.setLampAt l pos lamp).player j = s.player j := by simp [player]
@[simp] theorem setLampAt_segment (l : LoopId) (pos : Nat) (lamp : Lamp) (j : SegId) : (s.setLampAt l pos lamp).segment j = s.segment j := by simp [segment]
@[simp] theorem setLampAt_service (l : LoopId) (pos : Nat) (lamp : Lamp) (j : Trunk) : (s.setLampAt l pos lamp).service j = s.service j := by cases j <;> simp [service]
@[simp] theorem setLampAt_param (l : LoopId) (pos : Nat) (lamp : Lamp) (j : Fin 25) : (s.setLampAt l pos lamp).param j = s.param j := by simp [param]

/-! ### setLamp -/

theorem setLamp_frame (c : CtxId) (lamp : Lamp) : s.setLamp c lamp = { s with
    loops := (s.setLamp c lamp).loops
    handed := (s.setLamp c lamp).handed } := by
  apply State.ext <;> first | with_reducible rfl | (unfold setLamp; (repeat' split) <;> simp)
@[simp] theorem setLamp_pending (c : CtxId) (lamp : Lamp) : (s.setLamp c lamp).pending = s.pending := by rw [setLamp_frame]
@[simp] theorem setLamp_rings (c : CtxId) (lamp : Lamp) : (s.setLamp c lamp).rings = s.rings := by rw [setLamp_frame]
@[simp] theorem setLamp_feeds (c : CtxId) (lamp : Lamp) : (s.setLamp c lamp).feeds = s.feeds := by rw [setLamp_frame]
@[simp] theorem setLamp_supply (c : CtxId) (lamp : Lamp) : (s.setLamp c lamp).supply = s.supply := by rw [setLamp_frame]
@[simp] theorem setLamp_directory (c : CtxId) (lamp : Lamp) : (s.setLamp c lamp).directory = s.directory := by rw [setLamp_frame]
@[simp] theorem setLamp_contexts (c : CtxId) (lamp : Lamp) : (s.setLamp c lamp).contexts = s.contexts := by rw [setLamp_frame]
@[simp] theorem setLamp_waiting (c : CtxId) (lamp : Lamp) : (s.setLamp c lamp).waiting = s.waiting := by rw [setLamp_frame]
@[simp] theorem setLamp_entryCount (c : CtxId) (lamp : Lamp) : (s.setLamp c lamp).entryCount = s.entryCount := by rw [setLamp_frame]
@[simp] theorem setLamp_routes (c : CtxId) (lamp : Lamp) : (s.setLamp c lamp).routes = s.routes := by rw [setLamp_frame]
@[simp] theorem setLamp_plan (c : CtxId) (lamp : Lamp) : (s.setLamp c lamp).plan = s.plan := by rw [setLamp_frame]
@[simp] theorem setLamp_trunkA (c : CtxId) (lamp : Lamp) : (s.setLamp c lamp).trunkA = s.trunkA := by rw [setLamp_frame]
@[simp] theorem setLamp_trunkB (c : CtxId) (lamp : Lamp) : (s.setLamp c lamp).trunkB = s.trunkB := by rw [setLamp_frame]
@[simp] theorem setLamp_paths (c : CtxId) (lamp : Lamp) : (s.setLamp c lamp).paths = s.paths := by rw [setLamp_frame]
@[simp] theorem setLamp_samples (c : CtxId) (lamp : Lamp) : (s.setLamp c lamp).samples = s.samples := by rw [setLamp_frame]
@[simp] theorem setLamp_segments (c : CtxId) (lamp : Lamp) : (s.setLamp c lamp).segments = s.segments := by rw [setLamp_frame]
@[simp] theorem setLamp_players (c : CtxId) (lamp : Lamp) : (s.setLamp c lamp).players = s.players := by rw [setLamp_frame]
@[simp] theorem setLamp_serviceA (c : CtxId) (lamp : Lamp) : (s.setLamp c lamp).serviceA = s.serviceA := by rw [setLamp_frame]
@[simp] theorem setLamp_serviceB (c : CtxId) (lamp : Lamp) : (s.setLamp c lamp).serviceB = s.serviceB := by rw [setLamp_frame]
@[simp] theorem setLamp_home (c : CtxId) (lamp : Lamp) : (s.setLamp c lamp).home = s.home := by rw [setLamp_frame]
@[simp] theorem setLamp_settings (c : CtxId) (lamp : Lamp) : (s.setLamp c lamp).settings = s.settings := by rw [setLamp_frame]
@[simp] theorem setLamp_sectionFault (c : CtxId) (lamp : Lamp) : (s.setLamp c lamp).sectionFault = s.sectionFault := by rw [setLamp_frame]
@[simp] theorem setLamp_trunkFaultA (c : CtxId) (lamp : Lamp) : (s.setLamp c lamp).trunkFaultA = s.trunkFaultA := by rw [setLamp_frame]
@[simp] theorem setLamp_trunkFaultB (c : CtxId) (lamp : Lamp) : (s.setLamp c lamp).trunkFaultB = s.trunkFaultB := by rw [setLamp_frame]
@[simp] theorem setLamp_loopFaults (c : CtxId) (lamp : Lamp) : (s.setLamp c lamp).loopFaults = s.loopFaults := by rw [setLamp_frame]
@[simp] theorem setLamp_postFaults (c : CtxId) (lamp : Lamp) : (s.setLamp c lamp).postFaults = s.postFaults := by rw [setLamp_frame]
@[simp] theorem setLamp_testResults (c : CtxId) (lamp : Lamp) : (s.setLamp c lamp).testResults = s.testResults := by rw [setLamp_frame]
@[simp] theorem setLamp_marks (c : CtxId) (lamp : Lamp) : (s.setLamp c lamp).marks = s.marks := by rw [setLamp_frame]
@[simp] theorem setLamp_abandons (c : CtxId) (lamp : Lamp) : (s.setLamp c lamp).abandons = s.abandons := by rw [setLamp_frame]
@[simp] theorem setLamp_abandonPosts (c : CtxId) (lamp : Lamp) : (s.setLamp c lamp).abandonPosts = s.abandonPosts := by rw [setLamp_frame]
@[simp] theorem setLamp_mask (c : CtxId) (lamp : Lamp) : (s.setLamp c lamp).mask = s.mask := by rw [setLamp_frame]
@[simp] theorem setLamp_ring (c : CtxId) (lamp : Lamp) (j : LoopId) : (s.setLamp c lamp).ring j = s.ring j := by simp [ring]
@[simp] theorem setLamp_feed (c : CtxId) (lamp : Lamp) (j : LoopId) : (s.setLamp c lamp).feed j = s.feed j := by simp [feed]
@[simp] theorem setLamp_record (c : CtxId) (lamp : Lamp) (j : SlotId) : (s.setLamp c lamp).record j = s.record j := by simp [record]
@[simp] theorem setLamp_ctx (c : CtxId) (lamp : Lamp) (j : CtxId) : (s.setLamp c lamp).ctx j = s.ctx j := by simp [ctx]
@[simp] theorem setLamp_trunk (c : CtxId) (lamp : Lamp) (j : Trunk) : (s.setLamp c lamp).trunk j = s.trunk j := by cases j <;> simp [trunk]
@[simp] theorem setLamp_path (c : CtxId) (lamp : Lamp) (j : CtxId) : (s.setLamp c lamp).path j = s.path j := by simp [path]
@[simp] theorem setLamp_player (c : CtxId) (lamp : Lamp) (j : CtxId) : (s.setLamp c lamp).player j = s.player j := by simp [player]
@[simp] theorem setLamp_segment (c : CtxId) (lamp : Lamp) (j : SegId) : (s.setLamp c lamp).segment j = s.segment j := by simp [segment]
@[simp] theorem setLamp_service (c : CtxId) (lamp : Lamp) (j : Trunk) : (s.setLamp c lamp).service j = s.service j := by cases j <;> simp [service]
@[simp] theorem setLamp_param (c : CtxId) (lamp : Lamp) (j : Fin 25) : (s.setLamp c lamp).param j = s.param j := by simp [param]

/-! ### setAck -/

theorem setAck_frame (l : LoopId) (pos : Nat) : s.setAck l pos = { s with
    loops := (s.setAck l pos).loops
    handed := (s.setAck l pos).handed } := by
  apply State.ext <;> first | with_reducible rfl | (simp [setAck])
@[simp] theorem setAck_pending (l : LoopId) (pos : Nat) : (s.setAck l pos).pending = s.pending := by rw [setAck_frame]
@[simp] theorem setAck_rings (l : LoopId) (pos : Nat) : (s.setAck l pos).rings = s.rings := by rw [setAck_frame]
@[simp] theorem setAck_feeds (l : LoopId) (pos : Nat) : (s.setAck l pos).feeds = s.feeds := by rw [setAck_frame]
@[simp] theorem setAck_supply (l : LoopId) (pos : Nat) : (s.setAck l pos).supply = s.supply := by rw [setAck_frame]
@[simp] theorem setAck_directory (l : LoopId) (pos : Nat) : (s.setAck l pos).directory = s.directory := by rw [setAck_frame]
@[simp] theorem setAck_contexts (l : LoopId) (pos : Nat) : (s.setAck l pos).contexts = s.contexts := by rw [setAck_frame]
@[simp] theorem setAck_waiting (l : LoopId) (pos : Nat) : (s.setAck l pos).waiting = s.waiting := by rw [setAck_frame]
@[simp] theorem setAck_entryCount (l : LoopId) (pos : Nat) : (s.setAck l pos).entryCount = s.entryCount := by rw [setAck_frame]
@[simp] theorem setAck_routes (l : LoopId) (pos : Nat) : (s.setAck l pos).routes = s.routes := by rw [setAck_frame]
@[simp] theorem setAck_plan (l : LoopId) (pos : Nat) : (s.setAck l pos).plan = s.plan := by rw [setAck_frame]
@[simp] theorem setAck_trunkA (l : LoopId) (pos : Nat) : (s.setAck l pos).trunkA = s.trunkA := by rw [setAck_frame]
@[simp] theorem setAck_trunkB (l : LoopId) (pos : Nat) : (s.setAck l pos).trunkB = s.trunkB := by rw [setAck_frame]
@[simp] theorem setAck_paths (l : LoopId) (pos : Nat) : (s.setAck l pos).paths = s.paths := by rw [setAck_frame]
@[simp] theorem setAck_samples (l : LoopId) (pos : Nat) : (s.setAck l pos).samples = s.samples := by rw [setAck_frame]
@[simp] theorem setAck_segments (l : LoopId) (pos : Nat) : (s.setAck l pos).segments = s.segments := by rw [setAck_frame]
@[simp] theorem setAck_players (l : LoopId) (pos : Nat) : (s.setAck l pos).players = s.players := by rw [setAck_frame]
@[simp] theorem setAck_serviceA (l : LoopId) (pos : Nat) : (s.setAck l pos).serviceA = s.serviceA := by rw [setAck_frame]
@[simp] theorem setAck_serviceB (l : LoopId) (pos : Nat) : (s.setAck l pos).serviceB = s.serviceB := by rw [setAck_frame]
@[simp] theorem setAck_home (l : LoopId) (pos : Nat) : (s.setAck l pos).home = s.home := by rw [setAck_frame]
@[simp] theorem setAck_settings (l : LoopId) (pos : Nat) : (s.setAck l pos).settings = s.settings := by rw [setAck_frame]
@[simp] theorem setAck_sectionFault (l : LoopId) (pos : Nat) : (s.setAck l pos).sectionFault = s.sectionFault := by rw [setAck_frame]
@[simp] theorem setAck_trunkFaultA (l : LoopId) (pos : Nat) : (s.setAck l pos).trunkFaultA = s.trunkFaultA := by rw [setAck_frame]
@[simp] theorem setAck_trunkFaultB (l : LoopId) (pos : Nat) : (s.setAck l pos).trunkFaultB = s.trunkFaultB := by rw [setAck_frame]
@[simp] theorem setAck_loopFaults (l : LoopId) (pos : Nat) : (s.setAck l pos).loopFaults = s.loopFaults := by rw [setAck_frame]
@[simp] theorem setAck_postFaults (l : LoopId) (pos : Nat) : (s.setAck l pos).postFaults = s.postFaults := by rw [setAck_frame]
@[simp] theorem setAck_testResults (l : LoopId) (pos : Nat) : (s.setAck l pos).testResults = s.testResults := by rw [setAck_frame]
@[simp] theorem setAck_marks (l : LoopId) (pos : Nat) : (s.setAck l pos).marks = s.marks := by rw [setAck_frame]
@[simp] theorem setAck_abandons (l : LoopId) (pos : Nat) : (s.setAck l pos).abandons = s.abandons := by rw [setAck_frame]
@[simp] theorem setAck_abandonPosts (l : LoopId) (pos : Nat) : (s.setAck l pos).abandonPosts = s.abandonPosts := by rw [setAck_frame]
@[simp] theorem setAck_mask (l : LoopId) (pos : Nat) : (s.setAck l pos).mask = s.mask := by rw [setAck_frame]
@[simp] theorem setAck_ring (l : LoopId) (pos : Nat) (j : LoopId) : (s.setAck l pos).ring j = s.ring j := by simp [ring]
@[simp] theorem setAck_feed (l : LoopId) (pos : Nat) (j : LoopId) : (s.setAck l pos).feed j = s.feed j := by simp [feed]
@[simp] theorem setAck_record (l : LoopId) (pos : Nat) (j : SlotId) : (s.setAck l pos).record j = s.record j := by simp [record]
@[simp] theorem setAck_ctx (l : LoopId) (pos : Nat) (j : CtxId) : (s.setAck l pos).ctx j = s.ctx j := by simp [ctx]
@[simp] theorem setAck_trunk (l : LoopId) (pos : Nat) (j : Trunk) : (s.setAck l pos).trunk j = s.trunk j := by cases j <;> simp [trunk]
@[simp] theorem setAck_path (l : LoopId) (pos : Nat) (j : CtxId) : (s.setAck l pos).path j = s.path j := by simp [path]
@[simp] theorem setAck_player (l : LoopId) (pos : Nat) (j : CtxId) : (s.setAck l pos).player j = s.player j := by simp [player]
@[simp] theorem setAck_segment (l : LoopId) (pos : Nat) (j : SegId) : (s.setAck l pos).segment j = s.segment j := by simp [segment]
@[simp] theorem setAck_service (l : LoopId) (pos : Nat) (j : Trunk) : (s.setAck l pos).service j = s.service j := by cases j <;> simp [service]
@[simp] theorem setAck_param (l : LoopId) (pos : Nat) (j : Fin 25) : (s.setAck l pos).param j = s.param j := by simp [param]

/-! ### withdrawAck -/

theorem withdrawAck_frame (c : CtxId) : s.withdrawAck c = { s with
    loops := (s.withdrawAck c).loops } := by
  apply State.ext <;> first | with_reducible rfl | (unfold withdrawAck; (repeat' split) <;> simp)
@[simp] theorem withdrawAck_pending (c : CtxId) : (s.withdrawAck c).pending = s.pending := by rw [withdrawAck_frame]
@[simp] theorem withdrawAck_handed (c : CtxId) : (s.withdrawAck c).handed = s.handed := by rw [withdrawAck_frame]
@[simp] theorem withdrawAck_rings (c : CtxId) : (s.withdrawAck c).rings = s.rings := by rw [withdrawAck_frame]
@[simp] theorem withdrawAck_feeds (c : CtxId) : (s.withdrawAck c).feeds = s.feeds := by rw [withdrawAck_frame]
@[simp] theorem withdrawAck_supply (c : CtxId) : (s.withdrawAck c).supply = s.supply := by rw [withdrawAck_frame]
@[simp] theorem withdrawAck_directory (c : CtxId) : (s.withdrawAck c).directory = s.directory := by rw [withdrawAck_frame]
@[simp] theorem withdrawAck_contexts (c : CtxId) : (s.withdrawAck c).contexts = s.contexts := by rw [withdrawAck_frame]
@[simp] theorem withdrawAck_waiting (c : CtxId) : (s.withdrawAck c).waiting = s.waiting := by rw [withdrawAck_frame]
@[simp] theorem withdrawAck_entryCount (c : CtxId) : (s.withdrawAck c).entryCount = s.entryCount := by rw [withdrawAck_frame]
@[simp] theorem withdrawAck_routes (c : CtxId) : (s.withdrawAck c).routes = s.routes := by rw [withdrawAck_frame]
@[simp] theorem withdrawAck_plan (c : CtxId) : (s.withdrawAck c).plan = s.plan := by rw [withdrawAck_frame]
@[simp] theorem withdrawAck_trunkA (c : CtxId) : (s.withdrawAck c).trunkA = s.trunkA := by rw [withdrawAck_frame]
@[simp] theorem withdrawAck_trunkB (c : CtxId) : (s.withdrawAck c).trunkB = s.trunkB := by rw [withdrawAck_frame]
@[simp] theorem withdrawAck_paths (c : CtxId) : (s.withdrawAck c).paths = s.paths := by rw [withdrawAck_frame]
@[simp] theorem withdrawAck_samples (c : CtxId) : (s.withdrawAck c).samples = s.samples := by rw [withdrawAck_frame]
@[simp] theorem withdrawAck_segments (c : CtxId) : (s.withdrawAck c).segments = s.segments := by rw [withdrawAck_frame]
@[simp] theorem withdrawAck_players (c : CtxId) : (s.withdrawAck c).players = s.players := by rw [withdrawAck_frame]
@[simp] theorem withdrawAck_serviceA (c : CtxId) : (s.withdrawAck c).serviceA = s.serviceA := by rw [withdrawAck_frame]
@[simp] theorem withdrawAck_serviceB (c : CtxId) : (s.withdrawAck c).serviceB = s.serviceB := by rw [withdrawAck_frame]
@[simp] theorem withdrawAck_home (c : CtxId) : (s.withdrawAck c).home = s.home := by rw [withdrawAck_frame]
@[simp] theorem withdrawAck_settings (c : CtxId) : (s.withdrawAck c).settings = s.settings := by rw [withdrawAck_frame]
@[simp] theorem withdrawAck_sectionFault (c : CtxId) : (s.withdrawAck c).sectionFault = s.sectionFault := by rw [withdrawAck_frame]
@[simp] theorem withdrawAck_trunkFaultA (c : CtxId) : (s.withdrawAck c).trunkFaultA = s.trunkFaultA := by rw [withdrawAck_frame]
@[simp] theorem withdrawAck_trunkFaultB (c : CtxId) : (s.withdrawAck c).trunkFaultB = s.trunkFaultB := by rw [withdrawAck_frame]
@[simp] theorem withdrawAck_loopFaults (c : CtxId) : (s.withdrawAck c).loopFaults = s.loopFaults := by rw [withdrawAck_frame]
@[simp] theorem withdrawAck_postFaults (c : CtxId) : (s.withdrawAck c).postFaults = s.postFaults := by rw [withdrawAck_frame]
@[simp] theorem withdrawAck_testResults (c : CtxId) : (s.withdrawAck c).testResults = s.testResults := by rw [withdrawAck_frame]
@[simp] theorem withdrawAck_marks (c : CtxId) : (s.withdrawAck c).marks = s.marks := by rw [withdrawAck_frame]
@[simp] theorem withdrawAck_abandons (c : CtxId) : (s.withdrawAck c).abandons = s.abandons := by rw [withdrawAck_frame]
@[simp] theorem withdrawAck_abandonPosts (c : CtxId) : (s.withdrawAck c).abandonPosts = s.abandonPosts := by rw [withdrawAck_frame]
@[simp] theorem withdrawAck_mask (c : CtxId) : (s.withdrawAck c).mask = s.mask := by rw [withdrawAck_frame]
@[simp] theorem withdrawAck_ring (c : CtxId) (j : LoopId) : (s.withdrawAck c).ring j = s.ring j := by simp [ring]
@[simp] theorem withdrawAck_feed (c : CtxId) (j : LoopId) : (s.withdrawAck c).feed j = s.feed j := by simp [feed]
@[simp] theorem withdrawAck_record (c : CtxId) (j : SlotId) : (s.withdrawAck c).record j = s.record j := by simp [record]
@[simp] theorem withdrawAck_ctx (c : CtxId) (j : CtxId) : (s.withdrawAck c).ctx j = s.ctx j := by simp [ctx]
@[simp] theorem withdrawAck_trunk (c : CtxId) (j : Trunk) : (s.withdrawAck c).trunk j = s.trunk j := by cases j <;> simp [trunk]
@[simp] theorem withdrawAck_path (c : CtxId) (j : CtxId) : (s.withdrawAck c).path j = s.path j := by simp [path]
@[simp] theorem withdrawAck_player (c : CtxId) (j : CtxId) : (s.withdrawAck c).player j = s.player j := by simp [player]
@[simp] theorem withdrawAck_segment (c : CtxId) (j : SegId) : (s.withdrawAck c).segment j = s.segment j := by simp [segment]
@[simp] theorem withdrawAck_service (c : CtxId) (j : Trunk) : (s.withdrawAck c).service j = s.service j := by cases j <;> simp [service]
@[simp] theorem withdrawAck_param (c : CtxId) (j : Fin 25) : (s.withdrawAck c).param j = s.param j := by simp [param]

/-! ### setBearer -/

theorem setBearer_frame (l : LoopId) (b : BearerId) (x : Bearer) : s.setBearer l b x = { s with
    loops := (s.setBearer l b x).loops } := by
  apply State.ext <;> first | with_reducible rfl | (simp [setBearer])
@[simp] theorem setBearer_pending (l : LoopId) (b : BearerId) (x : Bearer) : (s.setBearer l b x).pending = s.pending := by rw [setBearer_frame]
@[simp] theorem setBearer_handed (l : LoopId) (b : BearerId) (x : Bearer) : (s.setBearer l b x).handed = s.handed := by rw [setBearer_frame]
@[simp] theorem setBearer_rings (l : LoopId) (b : BearerId) (x : Bearer) : (s.setBearer l b x).rings = s.rings := by rw [setBearer_frame]
@[simp] theorem setBearer_feeds (l : LoopId) (b : BearerId) (x : Bearer) : (s.setBearer l b x).feeds = s.feeds := by rw [setBearer_frame]
@[simp] theorem setBearer_supply (l : LoopId) (b : BearerId) (x : Bearer) : (s.setBearer l b x).supply = s.supply := by rw [setBearer_frame]
@[simp] theorem setBearer_directory (l : LoopId) (b : BearerId) (x : Bearer) : (s.setBearer l b x).directory = s.directory := by rw [setBearer_frame]
@[simp] theorem setBearer_contexts (l : LoopId) (b : BearerId) (x : Bearer) : (s.setBearer l b x).contexts = s.contexts := by rw [setBearer_frame]
@[simp] theorem setBearer_waiting (l : LoopId) (b : BearerId) (x : Bearer) : (s.setBearer l b x).waiting = s.waiting := by rw [setBearer_frame]
@[simp] theorem setBearer_entryCount (l : LoopId) (b : BearerId) (x : Bearer) : (s.setBearer l b x).entryCount = s.entryCount := by rw [setBearer_frame]
@[simp] theorem setBearer_routes (l : LoopId) (b : BearerId) (x : Bearer) : (s.setBearer l b x).routes = s.routes := by rw [setBearer_frame]
@[simp] theorem setBearer_plan (l : LoopId) (b : BearerId) (x : Bearer) : (s.setBearer l b x).plan = s.plan := by rw [setBearer_frame]
@[simp] theorem setBearer_trunkA (l : LoopId) (b : BearerId) (x : Bearer) : (s.setBearer l b x).trunkA = s.trunkA := by rw [setBearer_frame]
@[simp] theorem setBearer_trunkB (l : LoopId) (b : BearerId) (x : Bearer) : (s.setBearer l b x).trunkB = s.trunkB := by rw [setBearer_frame]
@[simp] theorem setBearer_paths (l : LoopId) (b : BearerId) (x : Bearer) : (s.setBearer l b x).paths = s.paths := by rw [setBearer_frame]
@[simp] theorem setBearer_samples (l : LoopId) (b : BearerId) (x : Bearer) : (s.setBearer l b x).samples = s.samples := by rw [setBearer_frame]
@[simp] theorem setBearer_segments (l : LoopId) (b : BearerId) (x : Bearer) : (s.setBearer l b x).segments = s.segments := by rw [setBearer_frame]
@[simp] theorem setBearer_players (l : LoopId) (b : BearerId) (x : Bearer) : (s.setBearer l b x).players = s.players := by rw [setBearer_frame]
@[simp] theorem setBearer_serviceA (l : LoopId) (b : BearerId) (x : Bearer) : (s.setBearer l b x).serviceA = s.serviceA := by rw [setBearer_frame]
@[simp] theorem setBearer_serviceB (l : LoopId) (b : BearerId) (x : Bearer) : (s.setBearer l b x).serviceB = s.serviceB := by rw [setBearer_frame]
@[simp] theorem setBearer_home (l : LoopId) (b : BearerId) (x : Bearer) : (s.setBearer l b x).home = s.home := by rw [setBearer_frame]
@[simp] theorem setBearer_settings (l : LoopId) (b : BearerId) (x : Bearer) : (s.setBearer l b x).settings = s.settings := by rw [setBearer_frame]
@[simp] theorem setBearer_sectionFault (l : LoopId) (b : BearerId) (x : Bearer) : (s.setBearer l b x).sectionFault = s.sectionFault := by rw [setBearer_frame]
@[simp] theorem setBearer_trunkFaultA (l : LoopId) (b : BearerId) (x : Bearer) : (s.setBearer l b x).trunkFaultA = s.trunkFaultA := by rw [setBearer_frame]
@[simp] theorem setBearer_trunkFaultB (l : LoopId) (b : BearerId) (x : Bearer) : (s.setBearer l b x).trunkFaultB = s.trunkFaultB := by rw [setBearer_frame]
@[simp] theorem setBearer_loopFaults (l : LoopId) (b : BearerId) (x : Bearer) : (s.setBearer l b x).loopFaults = s.loopFaults := by rw [setBearer_frame]
@[simp] theorem setBearer_postFaults (l : LoopId) (b : BearerId) (x : Bearer) : (s.setBearer l b x).postFaults = s.postFaults := by rw [setBearer_frame]
@[simp] theorem setBearer_testResults (l : LoopId) (b : BearerId) (x : Bearer) : (s.setBearer l b x).testResults = s.testResults := by rw [setBearer_frame]
@[simp] theorem setBearer_marks (l : LoopId) (b : BearerId) (x : Bearer) : (s.setBearer l b x).marks = s.marks := by rw [setBearer_frame]
@[simp] theorem setBearer_abandons (l : LoopId) (b : BearerId) (x : Bearer) : (s.setBearer l b x).abandons = s.abandons := by rw [setBearer_frame]
@[simp] theorem setBearer_abandonPosts (l : LoopId) (b : BearerId) (x : Bearer) : (s.setBearer l b x).abandonPosts = s.abandonPosts := by rw [setBearer_frame]
@[simp] theorem setBearer_mask (l : LoopId) (b : BearerId) (x : Bearer) : (s.setBearer l b x).mask = s.mask := by rw [setBearer_frame]
@[simp] theorem setBearer_ring (l : LoopId) (b : BearerId) (x : Bearer) (j : LoopId) : (s.setBearer l b x).ring j = s.ring j := by simp [ring]
@[simp] theorem setBearer_feed (l : LoopId) (b : BearerId) (x : Bearer) (j : LoopId) : (s.setBearer l b x).feed j = s.feed j := by simp [feed]
@[simp] theorem setBearer_record (l : LoopId) (b : BearerId) (x : Bearer) (j : SlotId) : (s.setBearer l b x).record j = s.record j := by simp [record]
@[simp] theorem setBearer_ctx (l : LoopId) (b : BearerId) (x : Bearer) (j : CtxId) : (s.setBearer l b x).ctx j = s.ctx j := by simp [ctx]
@[simp] theorem setBearer_trunk (l : LoopId) (b : BearerId) (x : Bearer) (j : Trunk) : (s.setBearer l b x).trunk j = s.trunk j := by cases j <;> simp [trunk]
@[simp] theorem setBearer_path (l : LoopId) (b : BearerId) (x : Bearer) (j : CtxId) : (s.setBearer l b x).path j = s.path j := by simp [path]
@[simp] theorem setBearer_player (l : LoopId) (b : BearerId) (x : Bearer) (j : CtxId) : (s.setBearer l b x).player j = s.player j := by simp [player]
@[simp] theorem setBearer_segment (l : LoopId) (b : BearerId) (x : Bearer) (j : SegId) : (s.setBearer l b x).segment j = s.segment j := by simp [segment]
@[simp] theorem setBearer_service (l : LoopId) (b : BearerId) (x : Bearer) (j : Trunk) : (s.setBearer l b x).service j = s.service j := by cases j <;> simp [service]
@[simp] theorem setBearer_param (l : LoopId) (b : BearerId) (x : Bearer) (j : Fin 25) : (s.setBearer l b x).param j = s.param j := by simp [param]

/-! ### assignBearer -/

theorem assignBearer_frame (l : LoopId) (pos : Nat) (b : BearerId) : s.assignBearer l pos b = { s with
    loops := (s.assignBearer l pos b).loops
    handed := (s.assignBearer l pos b).handed } := by
  apply State.ext <;> first | with_reducible rfl | (simp [assignBearer])
@[simp] theorem assignBearer_pending (l : LoopId) (pos : Nat) (b : BearerId) : (s.assignBearer l pos b).pending = s.pending := by rw [assignBearer_frame]
@[simp] theorem assignBearer_rings (l : LoopId) (pos : Nat) (b : BearerId) : (s.assignBearer l pos b).rings = s.rings := by rw [assignBearer_frame]
@[simp] theorem assignBearer_feeds (l : LoopId) (pos : Nat) (b : BearerId) : (s.assignBearer l pos b).feeds = s.feeds := by rw [assignBearer_frame]
@[simp] theorem assignBearer_supply (l : LoopId) (pos : Nat) (b : BearerId) : (s.assignBearer l pos b).supply = s.supply := by rw [assignBearer_frame]
@[simp] theorem assignBearer_directory (l : LoopId) (pos : Nat) (b : BearerId) : (s.assignBearer l pos b).directory = s.directory := by rw [assignBearer_frame]
@[simp] theorem assignBearer_contexts (l : LoopId) (pos : Nat) (b : BearerId) : (s.assignBearer l pos b).contexts = s.contexts := by rw [assignBearer_frame]
@[simp] theorem assignBearer_waiting (l : LoopId) (pos : Nat) (b : BearerId) : (s.assignBearer l pos b).waiting = s.waiting := by rw [assignBearer_frame]
@[simp] theorem assignBearer_entryCount (l : LoopId) (pos : Nat) (b : BearerId) : (s.assignBearer l pos b).entryCount = s.entryCount := by rw [assignBearer_frame]
@[simp] theorem assignBearer_routes (l : LoopId) (pos : Nat) (b : BearerId) : (s.assignBearer l pos b).routes = s.routes := by rw [assignBearer_frame]
@[simp] theorem assignBearer_plan (l : LoopId) (pos : Nat) (b : BearerId) : (s.assignBearer l pos b).plan = s.plan := by rw [assignBearer_frame]
@[simp] theorem assignBearer_trunkA (l : LoopId) (pos : Nat) (b : BearerId) : (s.assignBearer l pos b).trunkA = s.trunkA := by rw [assignBearer_frame]
@[simp] theorem assignBearer_trunkB (l : LoopId) (pos : Nat) (b : BearerId) : (s.assignBearer l pos b).trunkB = s.trunkB := by rw [assignBearer_frame]
@[simp] theorem assignBearer_paths (l : LoopId) (pos : Nat) (b : BearerId) : (s.assignBearer l pos b).paths = s.paths := by rw [assignBearer_frame]
@[simp] theorem assignBearer_samples (l : LoopId) (pos : Nat) (b : BearerId) : (s.assignBearer l pos b).samples = s.samples := by rw [assignBearer_frame]
@[simp] theorem assignBearer_segments (l : LoopId) (pos : Nat) (b : BearerId) : (s.assignBearer l pos b).segments = s.segments := by rw [assignBearer_frame]
@[simp] theorem assignBearer_players (l : LoopId) (pos : Nat) (b : BearerId) : (s.assignBearer l pos b).players = s.players := by rw [assignBearer_frame]
@[simp] theorem assignBearer_serviceA (l : LoopId) (pos : Nat) (b : BearerId) : (s.assignBearer l pos b).serviceA = s.serviceA := by rw [assignBearer_frame]
@[simp] theorem assignBearer_serviceB (l : LoopId) (pos : Nat) (b : BearerId) : (s.assignBearer l pos b).serviceB = s.serviceB := by rw [assignBearer_frame]
@[simp] theorem assignBearer_home (l : LoopId) (pos : Nat) (b : BearerId) : (s.assignBearer l pos b).home = s.home := by rw [assignBearer_frame]
@[simp] theorem assignBearer_settings (l : LoopId) (pos : Nat) (b : BearerId) : (s.assignBearer l pos b).settings = s.settings := by rw [assignBearer_frame]
@[simp] theorem assignBearer_sectionFault (l : LoopId) (pos : Nat) (b : BearerId) : (s.assignBearer l pos b).sectionFault = s.sectionFault := by rw [assignBearer_frame]
@[simp] theorem assignBearer_trunkFaultA (l : LoopId) (pos : Nat) (b : BearerId) : (s.assignBearer l pos b).trunkFaultA = s.trunkFaultA := by rw [assignBearer_frame]
@[simp] theorem assignBearer_trunkFaultB (l : LoopId) (pos : Nat) (b : BearerId) : (s.assignBearer l pos b).trunkFaultB = s.trunkFaultB := by rw [assignBearer_frame]
@[simp] theorem assignBearer_loopFaults (l : LoopId) (pos : Nat) (b : BearerId) : (s.assignBearer l pos b).loopFaults = s.loopFaults := by rw [assignBearer_frame]
@[simp] theorem assignBearer_postFaults (l : LoopId) (pos : Nat) (b : BearerId) : (s.assignBearer l pos b).postFaults = s.postFaults := by rw [assignBearer_frame]
@[simp] theorem assignBearer_testResults (l : LoopId) (pos : Nat) (b : BearerId) : (s.assignBearer l pos b).testResults = s.testResults := by rw [assignBearer_frame]
@[simp] theorem assignBearer_marks (l : LoopId) (pos : Nat) (b : BearerId) : (s.assignBearer l pos b).marks = s.marks := by rw [assignBearer_frame]
@[simp] theorem assignBearer_abandons (l : LoopId) (pos : Nat) (b : BearerId) : (s.assignBearer l pos b).abandons = s.abandons := by rw [assignBearer_frame]
@[simp] theorem assignBearer_abandonPosts (l : LoopId) (pos : Nat) (b : BearerId) : (s.assignBearer l pos b).abandonPosts = s.abandonPosts := by rw [assignBearer_frame]
@[simp] theorem assignBearer_mask (l : LoopId) (pos : Nat) (b : BearerId) : (s.assignBearer l pos b).mask = s.mask := by rw [assignBearer_frame]
@[simp] theorem assignBearer_ring (l : LoopId) (pos : Nat) (b : BearerId) (j : LoopId) : (s.assignBearer l pos b).ring j = s.ring j := by simp [ring]
@[simp] theorem assignBearer_feed (l : LoopId) (pos : Nat) (b : BearerId) (j : LoopId) : (s.assignBearer l pos b).feed j = s.feed j := by simp [feed]
@[simp] theorem assignBearer_record (l : LoopId) (pos : Nat) (b : BearerId) (j : SlotId) : (s.assignBearer l pos b).record j = s.record j := by simp [record]
@[simp] theorem assignBearer_ctx (l : LoopId) (pos : Nat) (b : BearerId) (j : CtxId) : (s.assignBearer l pos b).ctx j = s.ctx j := by simp [ctx]
@[simp] theorem assignBearer_trunk (l : LoopId) (pos : Nat) (b : BearerId) (j : Trunk) : (s.assignBearer l pos b).trunk j = s.trunk j := by cases j <;> simp [trunk]
@[simp] theorem assignBearer_path (l : LoopId) (pos : Nat) (b : BearerId) (j : CtxId) : (s.assignBearer l pos b).path j = s.path j := by simp [path]
@[simp] theorem assignBearer_player (l : LoopId) (pos : Nat) (b : BearerId) (j : CtxId) : (s.assignBearer l pos b).player j = s.player j := by simp [player]
@[simp] theorem assignBearer_segment (l : LoopId) (pos : Nat) (b : BearerId) (j : SegId) : (s.assignBearer l pos b).segment j = s.segment j := by simp [segment]
@[simp] theorem assignBearer_service (l : LoopId) (pos : Nat) (b : BearerId) (j : Trunk) : (s.assignBearer l pos b).service j = s.service j := by cases j <;> simp [service]
@[simp] theorem assignBearer_param (l : LoopId) (pos : Nat) (b : BearerId) (j : Fin 25) : (s.assignBearer l pos b).param j = s.param j := by simp [param]

/-! ### releaseBearer -/

theorem releaseBearer_frame (l : LoopId) (b : BearerId) : s.releaseBearer l b = { s with
    loops := (s.releaseBearer l b).loops
    handed := (s.releaseBearer l b).handed } := by
  apply State.ext <;> first | with_reducible rfl | (unfold releaseBearer; (repeat' split) <;> simp)
@[simp] theorem releaseBearer_pending (l : LoopId) (b : BearerId) : (s.releaseBearer l b).pending = s.pending := by rw [releaseBearer_frame]
@[simp] theorem releaseBearer_rings (l : LoopId) (b : BearerId) : (s.releaseBearer l b).rings = s.rings := by rw [releaseBearer_frame]
@[simp] theorem releaseBearer_feeds (l : LoopId) (b : BearerId) : (s.releaseBearer l b).feeds = s.feeds := by rw [releaseBearer_frame]
@[simp] theorem releaseBearer_supply (l : LoopId) (b : BearerId) : (s.releaseBearer l b).supply = s.supply := by rw [releaseBearer_frame]
@[simp] theorem releaseBearer_directory (l : LoopId) (b : BearerId) : (s.releaseBearer l b).directory = s.directory := by rw [releaseBearer_frame]
@[simp] theorem releaseBearer_contexts (l : LoopId) (b : BearerId) : (s.releaseBearer l b).contexts = s.contexts := by rw [releaseBearer_frame]
@[simp] theorem releaseBearer_waiting (l : LoopId) (b : BearerId) : (s.releaseBearer l b).waiting = s.waiting := by rw [releaseBearer_frame]
@[simp] theorem releaseBearer_entryCount (l : LoopId) (b : BearerId) : (s.releaseBearer l b).entryCount = s.entryCount := by rw [releaseBearer_frame]
@[simp] theorem releaseBearer_routes (l : LoopId) (b : BearerId) : (s.releaseBearer l b).routes = s.routes := by rw [releaseBearer_frame]
@[simp] theorem releaseBearer_plan (l : LoopId) (b : BearerId) : (s.releaseBearer l b).plan = s.plan := by rw [releaseBearer_frame]
@[simp] theorem releaseBearer_trunkA (l : LoopId) (b : BearerId) : (s.releaseBearer l b).trunkA = s.trunkA := by rw [releaseBearer_frame]
@[simp] theorem releaseBearer_trunkB (l : LoopId) (b : BearerId) : (s.releaseBearer l b).trunkB = s.trunkB := by rw [releaseBearer_frame]
@[simp] theorem releaseBearer_paths (l : LoopId) (b : BearerId) : (s.releaseBearer l b).paths = s.paths := by rw [releaseBearer_frame]
@[simp] theorem releaseBearer_samples (l : LoopId) (b : BearerId) : (s.releaseBearer l b).samples = s.samples := by rw [releaseBearer_frame]
@[simp] theorem releaseBearer_segments (l : LoopId) (b : BearerId) : (s.releaseBearer l b).segments = s.segments := by rw [releaseBearer_frame]
@[simp] theorem releaseBearer_players (l : LoopId) (b : BearerId) : (s.releaseBearer l b).players = s.players := by rw [releaseBearer_frame]
@[simp] theorem releaseBearer_serviceA (l : LoopId) (b : BearerId) : (s.releaseBearer l b).serviceA = s.serviceA := by rw [releaseBearer_frame]
@[simp] theorem releaseBearer_serviceB (l : LoopId) (b : BearerId) : (s.releaseBearer l b).serviceB = s.serviceB := by rw [releaseBearer_frame]
@[simp] theorem releaseBearer_home (l : LoopId) (b : BearerId) : (s.releaseBearer l b).home = s.home := by rw [releaseBearer_frame]
@[simp] theorem releaseBearer_settings (l : LoopId) (b : BearerId) : (s.releaseBearer l b).settings = s.settings := by rw [releaseBearer_frame]
@[simp] theorem releaseBearer_sectionFault (l : LoopId) (b : BearerId) : (s.releaseBearer l b).sectionFault = s.sectionFault := by rw [releaseBearer_frame]
@[simp] theorem releaseBearer_trunkFaultA (l : LoopId) (b : BearerId) : (s.releaseBearer l b).trunkFaultA = s.trunkFaultA := by rw [releaseBearer_frame]
@[simp] theorem releaseBearer_trunkFaultB (l : LoopId) (b : BearerId) : (s.releaseBearer l b).trunkFaultB = s.trunkFaultB := by rw [releaseBearer_frame]
@[simp] theorem releaseBearer_loopFaults (l : LoopId) (b : BearerId) : (s.releaseBearer l b).loopFaults = s.loopFaults := by rw [releaseBearer_frame]
@[simp] theorem releaseBearer_postFaults (l : LoopId) (b : BearerId) : (s.releaseBearer l b).postFaults = s.postFaults := by rw [releaseBearer_frame]
@[simp] theorem releaseBearer_testResults (l : LoopId) (b : BearerId) : (s.releaseBearer l b).testResults = s.testResults := by rw [releaseBearer_frame]
@[simp] theorem releaseBearer_marks (l : LoopId) (b : BearerId) : (s.releaseBearer l b).marks = s.marks := by rw [releaseBearer_frame]
@[simp] theorem releaseBearer_abandons (l : LoopId) (b : BearerId) : (s.releaseBearer l b).abandons = s.abandons := by rw [releaseBearer_frame]
@[simp] theorem releaseBearer_abandonPosts (l : LoopId) (b : BearerId) : (s.releaseBearer l b).abandonPosts = s.abandonPosts := by rw [releaseBearer_frame]
@[simp] theorem releaseBearer_mask (l : LoopId) (b : BearerId) : (s.releaseBearer l b).mask = s.mask := by rw [releaseBearer_frame]
@[simp] theorem releaseBearer_ring (l : LoopId) (b : BearerId) (j : LoopId) : (s.releaseBearer l b).ring j = s.ring j := by simp [ring]
@[simp] theorem releaseBearer_feed (l : LoopId) (b : BearerId) (j : LoopId) : (s.releaseBearer l b).feed j = s.feed j := by simp [feed]
@[simp] theorem releaseBearer_record (l : LoopId) (b : BearerId) (j : SlotId) : (s.releaseBearer l b).record j = s.record j := by simp [record]
@[simp] theorem releaseBearer_ctx (l : LoopId) (b : BearerId) (j : CtxId) : (s.releaseBearer l b).ctx j = s.ctx j := by simp [ctx]
@[simp] theorem releaseBearer_trunk (l : LoopId) (b : BearerId) (j : Trunk) : (s.releaseBearer l b).trunk j = s.trunk j := by cases j <;> simp [trunk]
@[simp] theorem releaseBearer_path (l : LoopId) (b : BearerId) (j : CtxId) : (s.releaseBearer l b).path j = s.path j := by simp [path]
@[simp] theorem releaseBearer_player (l : LoopId) (b : BearerId) (j : CtxId) : (s.releaseBearer l b).player j = s.player j := by simp [player]
@[simp] theorem releaseBearer_segment (l : LoopId) (b : BearerId) (j : SegId) : (s.releaseBearer l b).segment j = s.segment j := by simp [segment]
@[simp] theorem releaseBearer_service (l : LoopId) (b : BearerId) (j : Trunk) : (s.releaseBearer l b).service j = s.service j := by cases j <;> simp [service]
@[simp] theorem releaseBearer_param (l : LoopId) (b : BearerId) (j : Fin 25) : (s.releaseBearer l b).param j = s.param j := by simp [param]

/-! ### releaseHeld -/

theorem releaseHeld_frame (c : CtxId) : s.releaseHeld c = { s with
    loops := (s.releaseHeld c).loops
    handed := (s.releaseHeld c).handed } := by
  apply State.ext <;> first | with_reducible rfl | (unfold releaseHeld; (repeat' split) <;> simp)
@[simp] theorem releaseHeld_pending (c : CtxId) : (s.releaseHeld c).pending = s.pending := by rw [releaseHeld_frame]
@[simp] theorem releaseHeld_rings (c : CtxId) : (s.releaseHeld c).rings = s.rings := by rw [releaseHeld_frame]
@[simp] theorem releaseHeld_feeds (c : CtxId) : (s.releaseHeld c).feeds = s.feeds := by rw [releaseHeld_frame]
@[simp] theorem releaseHeld_supply (c : CtxId) : (s.releaseHeld c).supply = s.supply := by rw [releaseHeld_frame]
@[simp] theorem releaseHeld_directory (c : CtxId) : (s.releaseHeld c).directory = s.directory := by rw [releaseHeld_frame]
@[simp] theorem releaseHeld_contexts (c : CtxId) : (s.releaseHeld c).contexts = s.contexts := by rw [releaseHeld_frame]
@[simp] theorem releaseHeld_waiting (c : CtxId) : (s.releaseHeld c).waiting = s.waiting := by rw [releaseHeld_frame]
@[simp] theorem releaseHeld_entryCount (c : CtxId) : (s.releaseHeld c).entryCount = s.entryCount := by rw [releaseHeld_frame]
@[simp] theorem releaseHeld_routes (c : CtxId) : (s.releaseHeld c).routes = s.routes := by rw [releaseHeld_frame]
@[simp] theorem releaseHeld_plan (c : CtxId) : (s.releaseHeld c).plan = s.plan := by rw [releaseHeld_frame]
@[simp] theorem releaseHeld_trunkA (c : CtxId) : (s.releaseHeld c).trunkA = s.trunkA := by rw [releaseHeld_frame]
@[simp] theorem releaseHeld_trunkB (c : CtxId) : (s.releaseHeld c).trunkB = s.trunkB := by rw [releaseHeld_frame]
@[simp] theorem releaseHeld_paths (c : CtxId) : (s.releaseHeld c).paths = s.paths := by rw [releaseHeld_frame]
@[simp] theorem releaseHeld_samples (c : CtxId) : (s.releaseHeld c).samples = s.samples := by rw [releaseHeld_frame]
@[simp] theorem releaseHeld_segments (c : CtxId) : (s.releaseHeld c).segments = s.segments := by rw [releaseHeld_frame]
@[simp] theorem releaseHeld_players (c : CtxId) : (s.releaseHeld c).players = s.players := by rw [releaseHeld_frame]
@[simp] theorem releaseHeld_serviceA (c : CtxId) : (s.releaseHeld c).serviceA = s.serviceA := by rw [releaseHeld_frame]
@[simp] theorem releaseHeld_serviceB (c : CtxId) : (s.releaseHeld c).serviceB = s.serviceB := by rw [releaseHeld_frame]
@[simp] theorem releaseHeld_home (c : CtxId) : (s.releaseHeld c).home = s.home := by rw [releaseHeld_frame]
@[simp] theorem releaseHeld_settings (c : CtxId) : (s.releaseHeld c).settings = s.settings := by rw [releaseHeld_frame]
@[simp] theorem releaseHeld_sectionFault (c : CtxId) : (s.releaseHeld c).sectionFault = s.sectionFault := by rw [releaseHeld_frame]
@[simp] theorem releaseHeld_trunkFaultA (c : CtxId) : (s.releaseHeld c).trunkFaultA = s.trunkFaultA := by rw [releaseHeld_frame]
@[simp] theorem releaseHeld_trunkFaultB (c : CtxId) : (s.releaseHeld c).trunkFaultB = s.trunkFaultB := by rw [releaseHeld_frame]
@[simp] theorem releaseHeld_loopFaults (c : CtxId) : (s.releaseHeld c).loopFaults = s.loopFaults := by rw [releaseHeld_frame]
@[simp] theorem releaseHeld_postFaults (c : CtxId) : (s.releaseHeld c).postFaults = s.postFaults := by rw [releaseHeld_frame]
@[simp] theorem releaseHeld_testResults (c : CtxId) : (s.releaseHeld c).testResults = s.testResults := by rw [releaseHeld_frame]
@[simp] theorem releaseHeld_marks (c : CtxId) : (s.releaseHeld c).marks = s.marks := by rw [releaseHeld_frame]
@[simp] theorem releaseHeld_abandons (c : CtxId) : (s.releaseHeld c).abandons = s.abandons := by rw [releaseHeld_frame]
@[simp] theorem releaseHeld_abandonPosts (c : CtxId) : (s.releaseHeld c).abandonPosts = s.abandonPosts := by rw [releaseHeld_frame]
@[simp] theorem releaseHeld_mask (c : CtxId) : (s.releaseHeld c).mask = s.mask := by rw [releaseHeld_frame]
@[simp] theorem releaseHeld_ring (c : CtxId) (j : LoopId) : (s.releaseHeld c).ring j = s.ring j := by simp [ring]
@[simp] theorem releaseHeld_feed (c : CtxId) (j : LoopId) : (s.releaseHeld c).feed j = s.feed j := by simp [feed]
@[simp] theorem releaseHeld_record (c : CtxId) (j : SlotId) : (s.releaseHeld c).record j = s.record j := by simp [record]
@[simp] theorem releaseHeld_ctx (c : CtxId) (j : CtxId) : (s.releaseHeld c).ctx j = s.ctx j := by simp [ctx]
@[simp] theorem releaseHeld_trunk (c : CtxId) (j : Trunk) : (s.releaseHeld c).trunk j = s.trunk j := by cases j <;> simp [trunk]
@[simp] theorem releaseHeld_path (c : CtxId) (j : CtxId) : (s.releaseHeld c).path j = s.path j := by simp [path]
@[simp] theorem releaseHeld_player (c : CtxId) (j : CtxId) : (s.releaseHeld c).player j = s.player j := by simp [player]
@[simp] theorem releaseHeld_segment (c : CtxId) (j : SegId) : (s.releaseHeld c).segment j = s.segment j := by simp [segment]
@[simp] theorem releaseHeld_service (c : CtxId) (j : Trunk) : (s.releaseHeld c).service j = s.service j := by cases j <;> simp [service]
@[simp] theorem releaseHeld_param (c : CtxId) (j : Fin 25) : (s.releaseHeld c).param j = s.param j := by simp [param]

/-! ### setChan -/

theorem setChan_frame (t : Trunk) (n : ChanId) (x : Channel) : s.setChan t n x = { s with
    trunkA := (s.setChan t n x).trunkA
    trunkB := (s.setChan t n x).trunkB } := by
  apply State.ext <;> first | with_reducible rfl | (simp [setChan])
@[simp] theorem setChan_pending (t : Trunk) (n : ChanId) (x : Channel) : (s.setChan t n x).pending = s.pending := by rw [setChan_frame]
@[simp] theorem setChan_handed (t : Trunk) (n : ChanId) (x : Channel) : (s.setChan t n x).handed = s.handed := by rw [setChan_frame]
@[simp] theorem setChan_loops (t : Trunk) (n : ChanId) (x : Channel) : (s.setChan t n x).loops = s.loops := by rw [setChan_frame]
@[simp] theorem setChan_rings (t : Trunk) (n : ChanId) (x : Channel) : (s.setChan t n x).rings = s.rings := by rw [setChan_frame]
@[simp] theorem setChan_feeds (t : Trunk) (n : ChanId) (x : Channel) : (s.setChan t n x).feeds = s.feeds := by rw [setChan_frame]
@[simp] theorem setChan_supply (t : Trunk) (n : ChanId) (x : Channel) : (s.setChan t n x).supply = s.supply := by rw [setChan_frame]
@[simp] theorem setChan_directory (t : Trunk) (n : ChanId) (x : Channel) : (s.setChan t n x).directory = s.directory := by rw [setChan_frame]
@[simp] theorem setChan_contexts (t : Trunk) (n : ChanId) (x : Channel) : (s.setChan t n x).contexts = s.contexts := by rw [setChan_frame]
@[simp] theorem setChan_waiting (t : Trunk) (n : ChanId) (x : Channel) : (s.setChan t n x).waiting = s.waiting := by rw [setChan_frame]
@[simp] theorem setChan_entryCount (t : Trunk) (n : ChanId) (x : Channel) : (s.setChan t n x).entryCount = s.entryCount := by rw [setChan_frame]
@[simp] theorem setChan_routes (t : Trunk) (n : ChanId) (x : Channel) : (s.setChan t n x).routes = s.routes := by rw [setChan_frame]
@[simp] theorem setChan_plan (t : Trunk) (n : ChanId) (x : Channel) : (s.setChan t n x).plan = s.plan := by rw [setChan_frame]
@[simp] theorem setChan_paths (t : Trunk) (n : ChanId) (x : Channel) : (s.setChan t n x).paths = s.paths := by rw [setChan_frame]
@[simp] theorem setChan_samples (t : Trunk) (n : ChanId) (x : Channel) : (s.setChan t n x).samples = s.samples := by rw [setChan_frame]
@[simp] theorem setChan_segments (t : Trunk) (n : ChanId) (x : Channel) : (s.setChan t n x).segments = s.segments := by rw [setChan_frame]
@[simp] theorem setChan_players (t : Trunk) (n : ChanId) (x : Channel) : (s.setChan t n x).players = s.players := by rw [setChan_frame]
@[simp] theorem setChan_serviceA (t : Trunk) (n : ChanId) (x : Channel) : (s.setChan t n x).serviceA = s.serviceA := by rw [setChan_frame]
@[simp] theorem setChan_serviceB (t : Trunk) (n : ChanId) (x : Channel) : (s.setChan t n x).serviceB = s.serviceB := by rw [setChan_frame]
@[simp] theorem setChan_home (t : Trunk) (n : ChanId) (x : Channel) : (s.setChan t n x).home = s.home := by rw [setChan_frame]
@[simp] theorem setChan_settings (t : Trunk) (n : ChanId) (x : Channel) : (s.setChan t n x).settings = s.settings := by rw [setChan_frame]
@[simp] theorem setChan_sectionFault (t : Trunk) (n : ChanId) (x : Channel) : (s.setChan t n x).sectionFault = s.sectionFault := by rw [setChan_frame]
@[simp] theorem setChan_trunkFaultA (t : Trunk) (n : ChanId) (x : Channel) : (s.setChan t n x).trunkFaultA = s.trunkFaultA := by rw [setChan_frame]
@[simp] theorem setChan_trunkFaultB (t : Trunk) (n : ChanId) (x : Channel) : (s.setChan t n x).trunkFaultB = s.trunkFaultB := by rw [setChan_frame]
@[simp] theorem setChan_loopFaults (t : Trunk) (n : ChanId) (x : Channel) : (s.setChan t n x).loopFaults = s.loopFaults := by rw [setChan_frame]
@[simp] theorem setChan_postFaults (t : Trunk) (n : ChanId) (x : Channel) : (s.setChan t n x).postFaults = s.postFaults := by rw [setChan_frame]
@[simp] theorem setChan_testResults (t : Trunk) (n : ChanId) (x : Channel) : (s.setChan t n x).testResults = s.testResults := by rw [setChan_frame]
@[simp] theorem setChan_marks (t : Trunk) (n : ChanId) (x : Channel) : (s.setChan t n x).marks = s.marks := by rw [setChan_frame]
@[simp] theorem setChan_abandons (t : Trunk) (n : ChanId) (x : Channel) : (s.setChan t n x).abandons = s.abandons := by rw [setChan_frame]
@[simp] theorem setChan_abandonPosts (t : Trunk) (n : ChanId) (x : Channel) : (s.setChan t n x).abandonPosts = s.abandonPosts := by rw [setChan_frame]
@[simp] theorem setChan_mask (t : Trunk) (n : ChanId) (x : Channel) : (s.setChan t n x).mask = s.mask := by rw [setChan_frame]
@[simp] theorem setChan_loop (t : Trunk) (n : ChanId) (x : Channel) (j : LoopId) : (s.setChan t n x).loop j = s.loop j := by simp [loop]
@[simp] theorem setChan_ring (t : Trunk) (n : ChanId) (x : Channel) (j : LoopId) : (s.setChan t n x).ring j = s.ring j := by simp [ring]
@[simp] theorem setChan_feed (t : Trunk) (n : ChanId) (x : Channel) (j : LoopId) : (s.setChan t n x).feed j = s.feed j := by simp [feed]
@[simp] theorem setChan_record (t : Trunk) (n : ChanId) (x : Channel) (j : SlotId) : (s.setChan t n x).record j = s.record j := by simp [record]
@[simp] theorem setChan_ctx (t : Trunk) (n : ChanId) (x : Channel) (j : CtxId) : (s.setChan t n x).ctx j = s.ctx j := by simp [ctx]
@[simp] theorem setChan_path (t : Trunk) (n : ChanId) (x : Channel) (j : CtxId) : (s.setChan t n x).path j = s.path j := by simp [path]
@[simp] theorem setChan_player (t : Trunk) (n : ChanId) (x : Channel) (j : CtxId) : (s.setChan t n x).player j = s.player j := by simp [player]
@[simp] theorem setChan_segment (t : Trunk) (n : ChanId) (x : Channel) (j : SegId) : (s.setChan t n x).segment j = s.segment j := by simp [segment]
@[simp] theorem setChan_service (t : Trunk) (n : ChanId) (x : Channel) (j : Trunk) : (s.setChan t n x).service j = s.service j := by cases j <;> simp [service]
@[simp] theorem setChan_param (t : Trunk) (n : ChanId) (x : Channel) (j : Fin 25) : (s.setChan t n x).param j = s.param j := by simp [param]

/-! ### freeChan -/

theorem freeChan_frame (t : Trunk) (n : ChanId) : s.freeChan t n = { s with
    trunkA := (s.freeChan t n).trunkA
    trunkB := (s.freeChan t n).trunkB } := by
  apply State.ext <;> first | with_reducible rfl | (simp [freeChan])
@[simp] theorem freeChan_pending (t : Trunk) (n : ChanId) : (s.freeChan t n).pending = s.pending := by rw [freeChan_frame]
@[simp] theorem freeChan_handed (t : Trunk) (n : ChanId) : (s.freeChan t n).handed = s.handed := by rw [freeChan_frame]
@[simp] theorem freeChan_loops (t : Trunk) (n : ChanId) : (s.freeChan t n).loops = s.loops := by rw [freeChan_frame]
@[simp] theorem freeChan_rings (t : Trunk) (n : ChanId) : (s.freeChan t n).rings = s.rings := by rw [freeChan_frame]
@[simp] theorem freeChan_feeds (t : Trunk) (n : ChanId) : (s.freeChan t n).feeds = s.feeds := by rw [freeChan_frame]
@[simp] theorem freeChan_supply (t : Trunk) (n : ChanId) : (s.freeChan t n).supply = s.supply := by rw [freeChan_frame]
@[simp] theorem freeChan_directory (t : Trunk) (n : ChanId) : (s.freeChan t n).directory = s.directory := by rw [freeChan_frame]
@[simp] theorem freeChan_contexts (t : Trunk) (n : ChanId) : (s.freeChan t n).contexts = s.contexts := by rw [freeChan_frame]
@[simp] theorem freeChan_waiting (t : Trunk) (n : ChanId) : (s.freeChan t n).waiting = s.waiting := by rw [freeChan_frame]
@[simp] theorem freeChan_entryCount (t : Trunk) (n : ChanId) : (s.freeChan t n).entryCount = s.entryCount := by rw [freeChan_frame]
@[simp] theorem freeChan_routes (t : Trunk) (n : ChanId) : (s.freeChan t n).routes = s.routes := by rw [freeChan_frame]
@[simp] theorem freeChan_plan (t : Trunk) (n : ChanId) : (s.freeChan t n).plan = s.plan := by rw [freeChan_frame]
@[simp] theorem freeChan_paths (t : Trunk) (n : ChanId) : (s.freeChan t n).paths = s.paths := by rw [freeChan_frame]
@[simp] theorem freeChan_samples (t : Trunk) (n : ChanId) : (s.freeChan t n).samples = s.samples := by rw [freeChan_frame]
@[simp] theorem freeChan_segments (t : Trunk) (n : ChanId) : (s.freeChan t n).segments = s.segments := by rw [freeChan_frame]
@[simp] theorem freeChan_players (t : Trunk) (n : ChanId) : (s.freeChan t n).players = s.players := by rw [freeChan_frame]
@[simp] theorem freeChan_serviceA (t : Trunk) (n : ChanId) : (s.freeChan t n).serviceA = s.serviceA := by rw [freeChan_frame]
@[simp] theorem freeChan_serviceB (t : Trunk) (n : ChanId) : (s.freeChan t n).serviceB = s.serviceB := by rw [freeChan_frame]
@[simp] theorem freeChan_home (t : Trunk) (n : ChanId) : (s.freeChan t n).home = s.home := by rw [freeChan_frame]
@[simp] theorem freeChan_settings (t : Trunk) (n : ChanId) : (s.freeChan t n).settings = s.settings := by rw [freeChan_frame]
@[simp] theorem freeChan_sectionFault (t : Trunk) (n : ChanId) : (s.freeChan t n).sectionFault = s.sectionFault := by rw [freeChan_frame]
@[simp] theorem freeChan_trunkFaultA (t : Trunk) (n : ChanId) : (s.freeChan t n).trunkFaultA = s.trunkFaultA := by rw [freeChan_frame]
@[simp] theorem freeChan_trunkFaultB (t : Trunk) (n : ChanId) : (s.freeChan t n).trunkFaultB = s.trunkFaultB := by rw [freeChan_frame]
@[simp] theorem freeChan_loopFaults (t : Trunk) (n : ChanId) : (s.freeChan t n).loopFaults = s.loopFaults := by rw [freeChan_frame]
@[simp] theorem freeChan_postFaults (t : Trunk) (n : ChanId) : (s.freeChan t n).postFaults = s.postFaults := by rw [freeChan_frame]
@[simp] theorem freeChan_testResults (t : Trunk) (n : ChanId) : (s.freeChan t n).testResults = s.testResults := by rw [freeChan_frame]
@[simp] theorem freeChan_marks (t : Trunk) (n : ChanId) : (s.freeChan t n).marks = s.marks := by rw [freeChan_frame]
@[simp] theorem freeChan_abandons (t : Trunk) (n : ChanId) : (s.freeChan t n).abandons = s.abandons := by rw [freeChan_frame]
@[simp] theorem freeChan_abandonPosts (t : Trunk) (n : ChanId) : (s.freeChan t n).abandonPosts = s.abandonPosts := by rw [freeChan_frame]
@[simp] theorem freeChan_mask (t : Trunk) (n : ChanId) : (s.freeChan t n).mask = s.mask := by rw [freeChan_frame]
@[simp] theorem freeChan_loop (t : Trunk) (n : ChanId) (j : LoopId) : (s.freeChan t n).loop j = s.loop j := by simp [loop]
@[simp] theorem freeChan_ring (t : Trunk) (n : ChanId) (j : LoopId) : (s.freeChan t n).ring j = s.ring j := by simp [ring]
@[simp] theorem freeChan_feed (t : Trunk) (n : ChanId) (j : LoopId) : (s.freeChan t n).feed j = s.feed j := by simp [feed]
@[simp] theorem freeChan_record (t : Trunk) (n : ChanId) (j : SlotId) : (s.freeChan t n).record j = s.record j := by simp [record]
@[simp] theorem freeChan_ctx (t : Trunk) (n : ChanId) (j : CtxId) : (s.freeChan t n).ctx j = s.ctx j := by simp [ctx]
@[simp] theorem freeChan_path (t : Trunk) (n : ChanId) (j : CtxId) : (s.freeChan t n).path j = s.path j := by simp [path]
@[simp] theorem freeChan_player (t : Trunk) (n : ChanId) (j : CtxId) : (s.freeChan t n).player j = s.player j := by simp [player]
@[simp] theorem freeChan_segment (t : Trunk) (n : ChanId) (j : SegId) : (s.freeChan t n).segment j = s.segment j := by simp [segment]
@[simp] theorem freeChan_service (t : Trunk) (n : ChanId) (j : Trunk) : (s.freeChan t n).service j = s.service j := by cases j <;> simp [service]
@[simp] theorem freeChan_param (t : Trunk) (n : ChanId) (j : Fin 25) : (s.freeChan t n).param j = s.param j := by simp [param]

/-! ### freeLeg -/

theorem freeLeg_frame (g : Option Leg) : s.freeLeg g = { s with
    trunkA := (s.freeLeg g).trunkA
    trunkB := (s.freeLeg g).trunkB } := by
  apply State.ext <;> first | with_reducible rfl | (unfold freeLeg; (repeat' split) <;> simp)
@[simp] theorem freeLeg_pending (g : Option Leg) : (s.freeLeg g).pending = s.pending := by rw [freeLeg_frame]
@[simp] theorem freeLeg_handed (g : Option Leg) : (s.freeLeg g).handed = s.handed := by rw [freeLeg_frame]
@[simp] theorem freeLeg_loops (g : Option Leg) : (s.freeLeg g).loops = s.loops := by rw [freeLeg_frame]
@[simp] theorem freeLeg_rings (g : Option Leg) : (s.freeLeg g).rings = s.rings := by rw [freeLeg_frame]
@[simp] theorem freeLeg_feeds (g : Option Leg) : (s.freeLeg g).feeds = s.feeds := by rw [freeLeg_frame]
@[simp] theorem freeLeg_supply (g : Option Leg) : (s.freeLeg g).supply = s.supply := by rw [freeLeg_frame]
@[simp] theorem freeLeg_directory (g : Option Leg) : (s.freeLeg g).directory = s.directory := by rw [freeLeg_frame]
@[simp] theorem freeLeg_contexts (g : Option Leg) : (s.freeLeg g).contexts = s.contexts := by rw [freeLeg_frame]
@[simp] theorem freeLeg_waiting (g : Option Leg) : (s.freeLeg g).waiting = s.waiting := by rw [freeLeg_frame]
@[simp] theorem freeLeg_entryCount (g : Option Leg) : (s.freeLeg g).entryCount = s.entryCount := by rw [freeLeg_frame]
@[simp] theorem freeLeg_routes (g : Option Leg) : (s.freeLeg g).routes = s.routes := by rw [freeLeg_frame]
@[simp] theorem freeLeg_plan (g : Option Leg) : (s.freeLeg g).plan = s.plan := by rw [freeLeg_frame]
@[simp] theorem freeLeg_paths (g : Option Leg) : (s.freeLeg g).paths = s.paths := by rw [freeLeg_frame]
@[simp] theorem freeLeg_samples (g : Option Leg) : (s.freeLeg g).samples = s.samples := by rw [freeLeg_frame]
@[simp] theorem freeLeg_segments (g : Option Leg) : (s.freeLeg g).segments = s.segments := by rw [freeLeg_frame]
@[simp] theorem freeLeg_players (g : Option Leg) : (s.freeLeg g).players = s.players := by rw [freeLeg_frame]
@[simp] theorem freeLeg_serviceA (g : Option Leg) : (s.freeLeg g).serviceA = s.serviceA := by rw [freeLeg_frame]
@[simp] theorem freeLeg_serviceB (g : Option Leg) : (s.freeLeg g).serviceB = s.serviceB := by rw [freeLeg_frame]
@[simp] theorem freeLeg_home (g : Option Leg) : (s.freeLeg g).home = s.home := by rw [freeLeg_frame]
@[simp] theorem freeLeg_settings (g : Option Leg) : (s.freeLeg g).settings = s.settings := by rw [freeLeg_frame]
@[simp] theorem freeLeg_sectionFault (g : Option Leg) : (s.freeLeg g).sectionFault = s.sectionFault := by rw [freeLeg_frame]
@[simp] theorem freeLeg_trunkFaultA (g : Option Leg) : (s.freeLeg g).trunkFaultA = s.trunkFaultA := by rw [freeLeg_frame]
@[simp] theorem freeLeg_trunkFaultB (g : Option Leg) : (s.freeLeg g).trunkFaultB = s.trunkFaultB := by rw [freeLeg_frame]
@[simp] theorem freeLeg_loopFaults (g : Option Leg) : (s.freeLeg g).loopFaults = s.loopFaults := by rw [freeLeg_frame]
@[simp] theorem freeLeg_postFaults (g : Option Leg) : (s.freeLeg g).postFaults = s.postFaults := by rw [freeLeg_frame]
@[simp] theorem freeLeg_testResults (g : Option Leg) : (s.freeLeg g).testResults = s.testResults := by rw [freeLeg_frame]
@[simp] theorem freeLeg_marks (g : Option Leg) : (s.freeLeg g).marks = s.marks := by rw [freeLeg_frame]
@[simp] theorem freeLeg_abandons (g : Option Leg) : (s.freeLeg g).abandons = s.abandons := by rw [freeLeg_frame]
@[simp] theorem freeLeg_abandonPosts (g : Option Leg) : (s.freeLeg g).abandonPosts = s.abandonPosts := by rw [freeLeg_frame]
@[simp] theorem freeLeg_mask (g : Option Leg) : (s.freeLeg g).mask = s.mask := by rw [freeLeg_frame]
@[simp] theorem freeLeg_loop (g : Option Leg) (j : LoopId) : (s.freeLeg g).loop j = s.loop j := by simp [loop]
@[simp] theorem freeLeg_ring (g : Option Leg) (j : LoopId) : (s.freeLeg g).ring j = s.ring j := by simp [ring]
@[simp] theorem freeLeg_feed (g : Option Leg) (j : LoopId) : (s.freeLeg g).feed j = s.feed j := by simp [feed]
@[simp] theorem freeLeg_record (g : Option Leg) (j : SlotId) : (s.freeLeg g).record j = s.record j := by simp [record]
@[simp] theorem freeLeg_ctx (g : Option Leg) (j : CtxId) : (s.freeLeg g).ctx j = s.ctx j := by simp [ctx]
@[simp] theorem freeLeg_path (g : Option Leg) (j : CtxId) : (s.freeLeg g).path j = s.path j := by simp [path]
@[simp] theorem freeLeg_player (g : Option Leg) (j : CtxId) : (s.freeLeg g).player j = s.player j := by simp [player]
@[simp] theorem freeLeg_segment (g : Option Leg) (j : SegId) : (s.freeLeg g).segment j = s.segment j := by simp [segment]
@[simp] theorem freeLeg_service (g : Option Leg) (j : Trunk) : (s.freeLeg g).service j = s.service j := by cases j <;> simp [service]
@[simp] theorem freeLeg_param (g : Option Leg) (j : Fin 25) : (s.freeLeg g).param j = s.param j := by simp [param]

/-! ### freePool -/

theorem freePool_frame (t : Trunk) : s.freePool t = { s with
    trunkA := (s.freePool t).trunkA
    trunkB := (s.freePool t).trunkB } := by
  apply State.ext <;> first | with_reducible rfl | (simp [freePool])
@[simp] theorem freePool_pending (t : Trunk) : (s.freePool t).pending = s.pending := by rw [freePool_frame]
@[simp] theorem freePool_handed (t : Trunk) : (s.freePool t).handed = s.handed := by rw [freePool_frame]
@[simp] theorem freePool_loops (t : Trunk) : (s.freePool t).loops = s.loops := by rw [freePool_frame]
@[simp] theorem freePool_rings (t : Trunk) : (s.freePool t).rings = s.rings := by rw [freePool_frame]
@[simp] theorem freePool_feeds (t : Trunk) : (s.freePool t).feeds = s.feeds := by rw [freePool_frame]
@[simp] theorem freePool_supply (t : Trunk) : (s.freePool t).supply = s.supply := by rw [freePool_frame]
@[simp] theorem freePool_directory (t : Trunk) : (s.freePool t).directory = s.directory := by rw [freePool_frame]
@[simp] theorem freePool_contexts (t : Trunk) : (s.freePool t).contexts = s.contexts := by rw [freePool_frame]
@[simp] theorem freePool_waiting (t : Trunk) : (s.freePool t).waiting = s.waiting := by rw [freePool_frame]
@[simp] theorem freePool_entryCount (t : Trunk) : (s.freePool t).entryCount = s.entryCount := by rw [freePool_frame]
@[simp] theorem freePool_routes (t : Trunk) : (s.freePool t).routes = s.routes := by rw [freePool_frame]
@[simp] theorem freePool_plan (t : Trunk) : (s.freePool t).plan = s.plan := by rw [freePool_frame]
@[simp] theorem freePool_paths (t : Trunk) : (s.freePool t).paths = s.paths := by rw [freePool_frame]
@[simp] theorem freePool_samples (t : Trunk) : (s.freePool t).samples = s.samples := by rw [freePool_frame]
@[simp] theorem freePool_segments (t : Trunk) : (s.freePool t).segments = s.segments := by rw [freePool_frame]
@[simp] theorem freePool_players (t : Trunk) : (s.freePool t).players = s.players := by rw [freePool_frame]
@[simp] theorem freePool_serviceA (t : Trunk) : (s.freePool t).serviceA = s.serviceA := by rw [freePool_frame]
@[simp] theorem freePool_serviceB (t : Trunk) : (s.freePool t).serviceB = s.serviceB := by rw [freePool_frame]
@[simp] theorem freePool_home (t : Trunk) : (s.freePool t).home = s.home := by rw [freePool_frame]
@[simp] theorem freePool_settings (t : Trunk) : (s.freePool t).settings = s.settings := by rw [freePool_frame]
@[simp] theorem freePool_sectionFault (t : Trunk) : (s.freePool t).sectionFault = s.sectionFault := by rw [freePool_frame]
@[simp] theorem freePool_trunkFaultA (t : Trunk) : (s.freePool t).trunkFaultA = s.trunkFaultA := by rw [freePool_frame]
@[simp] theorem freePool_trunkFaultB (t : Trunk) : (s.freePool t).trunkFaultB = s.trunkFaultB := by rw [freePool_frame]
@[simp] theorem freePool_loopFaults (t : Trunk) : (s.freePool t).loopFaults = s.loopFaults := by rw [freePool_frame]
@[simp] theorem freePool_postFaults (t : Trunk) : (s.freePool t).postFaults = s.postFaults := by rw [freePool_frame]
@[simp] theorem freePool_testResults (t : Trunk) : (s.freePool t).testResults = s.testResults := by rw [freePool_frame]
@[simp] theorem freePool_marks (t : Trunk) : (s.freePool t).marks = s.marks := by rw [freePool_frame]
@[simp] theorem freePool_abandons (t : Trunk) : (s.freePool t).abandons = s.abandons := by rw [freePool_frame]
@[simp] theorem freePool_abandonPosts (t : Trunk) : (s.freePool t).abandonPosts = s.abandonPosts := by rw [freePool_frame]
@[simp] theorem freePool_mask (t : Trunk) : (s.freePool t).mask = s.mask := by rw [freePool_frame]
@[simp] theorem freePool_loop (t : Trunk) (j : LoopId) : (s.freePool t).loop j = s.loop j := by simp [loop]
@[simp] theorem freePool_ring (t : Trunk) (j : LoopId) : (s.freePool t).ring j = s.ring j := by simp [ring]
@[simp] theorem freePool_feed (t : Trunk) (j : LoopId) : (s.freePool t).feed j = s.feed j := by simp [feed]
@[simp] theorem freePool_record (t : Trunk) (j : SlotId) : (s.freePool t).record j = s.record j := by simp [record]
@[simp] theorem freePool_ctx (t : Trunk) (j : CtxId) : (s.freePool t).ctx j = s.ctx j := by simp [ctx]
@[simp] theorem freePool_path (t : Trunk) (j : CtxId) : (s.freePool t).path j = s.path j := by simp [path]
@[simp] theorem freePool_player (t : Trunk) (j : CtxId) : (s.freePool t).player j = s.player j := by simp [player]
@[simp] theorem freePool_segment (t : Trunk) (j : SegId) : (s.freePool t).segment j = s.segment j := by simp [segment]
@[simp] theorem freePool_service (t : Trunk) (j : Trunk) : (s.freePool t).service j = s.service j := by cases j <;> simp [service]
@[simp] theorem freePool_param (t : Trunk) (j : Fin 25) : (s.freePool t).param j = s.param j := by simp [param]

/-! ### pushSig -/

theorem pushSig_frame (t : Trunk) (m : SigMsg) : s.pushSig t m = { s with
    trunkA := (s.pushSig t m).trunkA
    trunkB := (s.pushSig t m).trunkB
    handed := (s.pushSig t m).handed } := by
  apply State.ext <;> first | with_reducible rfl | (unfold pushSig; (repeat' split) <;> simp)
@[simp] theorem pushSig_pending (t : Trunk) (m : SigMsg) : (s.pushSig t m).pending = s.pending := by rw [pushSig_frame]
@[simp] theorem pushSig_loops (t : Trunk) (m : SigMsg) : (s.pushSig t m).loops = s.loops := by rw [pushSig_frame]
@[simp] theorem pushSig_rings (t : Trunk) (m : SigMsg) : (s.pushSig t m).rings = s.rings := by rw [pushSig_frame]
@[simp] theorem pushSig_feeds (t : Trunk) (m : SigMsg) : (s.pushSig t m).feeds = s.feeds := by rw [pushSig_frame]
@[simp] theorem pushSig_supply (t : Trunk) (m : SigMsg) : (s.pushSig t m).supply = s.supply := by rw [pushSig_frame]
@[simp] theorem pushSig_directory (t : Trunk) (m : SigMsg) : (s.pushSig t m).directory = s.directory := by rw [pushSig_frame]
@[simp] theorem pushSig_contexts (t : Trunk) (m : SigMsg) : (s.pushSig t m).contexts = s.contexts := by rw [pushSig_frame]
@[simp] theorem pushSig_waiting (t : Trunk) (m : SigMsg) : (s.pushSig t m).waiting = s.waiting := by rw [pushSig_frame]
@[simp] theorem pushSig_entryCount (t : Trunk) (m : SigMsg) : (s.pushSig t m).entryCount = s.entryCount := by rw [pushSig_frame]
@[simp] theorem pushSig_routes (t : Trunk) (m : SigMsg) : (s.pushSig t m).routes = s.routes := by rw [pushSig_frame]
@[simp] theorem pushSig_plan (t : Trunk) (m : SigMsg) : (s.pushSig t m).plan = s.plan := by rw [pushSig_frame]
@[simp] theorem pushSig_paths (t : Trunk) (m : SigMsg) : (s.pushSig t m).paths = s.paths := by rw [pushSig_frame]
@[simp] theorem pushSig_samples (t : Trunk) (m : SigMsg) : (s.pushSig t m).samples = s.samples := by rw [pushSig_frame]
@[simp] theorem pushSig_segments (t : Trunk) (m : SigMsg) : (s.pushSig t m).segments = s.segments := by rw [pushSig_frame]
@[simp] theorem pushSig_players (t : Trunk) (m : SigMsg) : (s.pushSig t m).players = s.players := by rw [pushSig_frame]
@[simp] theorem pushSig_serviceA (t : Trunk) (m : SigMsg) : (s.pushSig t m).serviceA = s.serviceA := by rw [pushSig_frame]
@[simp] theorem pushSig_serviceB (t : Trunk) (m : SigMsg) : (s.pushSig t m).serviceB = s.serviceB := by rw [pushSig_frame]
@[simp] theorem pushSig_home (t : Trunk) (m : SigMsg) : (s.pushSig t m).home = s.home := by rw [pushSig_frame]
@[simp] theorem pushSig_settings (t : Trunk) (m : SigMsg) : (s.pushSig t m).settings = s.settings := by rw [pushSig_frame]
@[simp] theorem pushSig_sectionFault (t : Trunk) (m : SigMsg) : (s.pushSig t m).sectionFault = s.sectionFault := by rw [pushSig_frame]
@[simp] theorem pushSig_trunkFaultA (t : Trunk) (m : SigMsg) : (s.pushSig t m).trunkFaultA = s.trunkFaultA := by rw [pushSig_frame]
@[simp] theorem pushSig_trunkFaultB (t : Trunk) (m : SigMsg) : (s.pushSig t m).trunkFaultB = s.trunkFaultB := by rw [pushSig_frame]
@[simp] theorem pushSig_loopFaults (t : Trunk) (m : SigMsg) : (s.pushSig t m).loopFaults = s.loopFaults := by rw [pushSig_frame]
@[simp] theorem pushSig_postFaults (t : Trunk) (m : SigMsg) : (s.pushSig t m).postFaults = s.postFaults := by rw [pushSig_frame]
@[simp] theorem pushSig_testResults (t : Trunk) (m : SigMsg) : (s.pushSig t m).testResults = s.testResults := by rw [pushSig_frame]
@[simp] theorem pushSig_marks (t : Trunk) (m : SigMsg) : (s.pushSig t m).marks = s.marks := by rw [pushSig_frame]
@[simp] theorem pushSig_abandons (t : Trunk) (m : SigMsg) : (s.pushSig t m).abandons = s.abandons := by rw [pushSig_frame]
@[simp] theorem pushSig_abandonPosts (t : Trunk) (m : SigMsg) : (s.pushSig t m).abandonPosts = s.abandonPosts := by rw [pushSig_frame]
@[simp] theorem pushSig_mask (t : Trunk) (m : SigMsg) : (s.pushSig t m).mask = s.mask := by rw [pushSig_frame]
@[simp] theorem pushSig_loop (t : Trunk) (m : SigMsg) (j : LoopId) : (s.pushSig t m).loop j = s.loop j := by simp [loop]
@[simp] theorem pushSig_ring (t : Trunk) (m : SigMsg) (j : LoopId) : (s.pushSig t m).ring j = s.ring j := by simp [ring]
@[simp] theorem pushSig_feed (t : Trunk) (m : SigMsg) (j : LoopId) : (s.pushSig t m).feed j = s.feed j := by simp [feed]
@[simp] theorem pushSig_record (t : Trunk) (m : SigMsg) (j : SlotId) : (s.pushSig t m).record j = s.record j := by simp [record]
@[simp] theorem pushSig_ctx (t : Trunk) (m : SigMsg) (j : CtxId) : (s.pushSig t m).ctx j = s.ctx j := by simp [ctx]
@[simp] theorem pushSig_path (t : Trunk) (m : SigMsg) (j : CtxId) : (s.pushSig t m).path j = s.path j := by simp [path]
@[simp] theorem pushSig_player (t : Trunk) (m : SigMsg) (j : CtxId) : (s.pushSig t m).player j = s.player j := by simp [player]
@[simp] theorem pushSig_segment (t : Trunk) (m : SigMsg) (j : SegId) : (s.pushSig t m).segment j = s.segment j := by simp [segment]
@[simp] theorem pushSig_service (t : Trunk) (m : SigMsg) (j : Trunk) : (s.pushSig t m).service j = s.service j := by cases j <;> simp [service]
@[simp] theorem pushSig_param (t : Trunk) (m : SigMsg) (j : Fin 25) : (s.pushSig t m).param j = s.param j := by simp [param]

/-! ### enterWaiting -/

theorem enterWaiting_frame (c : CtxId) : s.enterWaiting c = { s with
    waiting := (s.enterWaiting c).waiting } := by
  apply State.ext <;> first | with_reducible rfl | (simp [enterWaiting])
@[simp] theorem enterWaiting_pending (c : CtxId) : (s.enterWaiting c).pending = s.pending := by rw [enterWaiting_frame]
@[simp] theorem enterWaiting_handed (c : CtxId) : (s.enterWaiting c).handed = s.handed := by rw [enterWaiting_frame]
@[simp] theorem enterWaiting_loops (c : CtxId) : (s.enterWaiting c).loops = s.loops := by rw [enterWaiting_frame]
@[simp] theorem enterWaiting_rings (c : CtxId) : (s.enterWaiting c).rings = s.rings := by rw [enterWaiting_frame]
@[simp] theorem enterWaiting_feeds (c : CtxId) : (s.enterWaiting c).feeds = s.feeds := by rw [enterWaiting_frame]
@[simp] theorem enterWaiting_supply (c : CtxId) : (s.enterWaiting c).supply = s.supply := by rw [enterWaiting_frame]
@[simp] theorem enterWaiting_directory (c : CtxId) : (s.enterWaiting c).directory = s.directory := by rw [enterWaiting_frame]
@[simp] theorem enterWaiting_contexts (c : CtxId) : (s.enterWaiting c).contexts = s.contexts := by rw [enterWaiting_frame]
@[simp] theorem enterWaiting_entryCount (c : CtxId) : (s.enterWaiting c).entryCount = s.entryCount := by rw [enterWaiting_frame]
@[simp] theorem enterWaiting_routes (c : CtxId) : (s.enterWaiting c).routes = s.routes := by rw [enterWaiting_frame]
@[simp] theorem enterWaiting_plan (c : CtxId) : (s.enterWaiting c).plan = s.plan := by rw [enterWaiting_frame]
@[simp] theorem enterWaiting_trunkA (c : CtxId) : (s.enterWaiting c).trunkA = s.trunkA := by rw [enterWaiting_frame]
@[simp] theorem enterWaiting_trunkB (c : CtxId) : (s.enterWaiting c).trunkB = s.trunkB := by rw [enterWaiting_frame]
@[simp] theorem enterWaiting_paths (c : CtxId) : (s.enterWaiting c).paths = s.paths := by rw [enterWaiting_frame]
@[simp] theorem enterWaiting_samples (c : CtxId) : (s.enterWaiting c).samples = s.samples := by rw [enterWaiting_frame]
@[simp] theorem enterWaiting_segments (c : CtxId) : (s.enterWaiting c).segments = s.segments := by rw [enterWaiting_frame]
@[simp] theorem enterWaiting_players (c : CtxId) : (s.enterWaiting c).players = s.players := by rw [enterWaiting_frame]
@[simp] theorem enterWaiting_serviceA (c : CtxId) : (s.enterWaiting c).serviceA = s.serviceA := by rw [enterWaiting_frame]
@[simp] theorem enterWaiting_serviceB (c : CtxId) : (s.enterWaiting c).serviceB = s.serviceB := by rw [enterWaiting_frame]
@[simp] theorem enterWaiting_home (c : CtxId) : (s.enterWaiting c).home = s.home := by rw [enterWaiting_frame]
@[simp] theorem enterWaiting_settings (c : CtxId) : (s.enterWaiting c).settings = s.settings := by rw [enterWaiting_frame]
@[simp] theorem enterWaiting_sectionFault (c : CtxId) : (s.enterWaiting c).sectionFault = s.sectionFault := by rw [enterWaiting_frame]
@[simp] theorem enterWaiting_trunkFaultA (c : CtxId) : (s.enterWaiting c).trunkFaultA = s.trunkFaultA := by rw [enterWaiting_frame]
@[simp] theorem enterWaiting_trunkFaultB (c : CtxId) : (s.enterWaiting c).trunkFaultB = s.trunkFaultB := by rw [enterWaiting_frame]
@[simp] theorem enterWaiting_loopFaults (c : CtxId) : (s.enterWaiting c).loopFaults = s.loopFaults := by rw [enterWaiting_frame]
@[simp] theorem enterWaiting_postFaults (c : CtxId) : (s.enterWaiting c).postFaults = s.postFaults := by rw [enterWaiting_frame]
@[simp] theorem enterWaiting_testResults (c : CtxId) : (s.enterWaiting c).testResults = s.testResults := by rw [enterWaiting_frame]
@[simp] theorem enterWaiting_marks (c : CtxId) : (s.enterWaiting c).marks = s.marks := by rw [enterWaiting_frame]
@[simp] theorem enterWaiting_abandons (c : CtxId) : (s.enterWaiting c).abandons = s.abandons := by rw [enterWaiting_frame]
@[simp] theorem enterWaiting_abandonPosts (c : CtxId) : (s.enterWaiting c).abandonPosts = s.abandonPosts := by rw [enterWaiting_frame]
@[simp] theorem enterWaiting_mask (c : CtxId) : (s.enterWaiting c).mask = s.mask := by rw [enterWaiting_frame]
@[simp] theorem enterWaiting_loop (c : CtxId) (j : LoopId) : (s.enterWaiting c).loop j = s.loop j := by simp [loop]
@[simp] theorem enterWaiting_ring (c : CtxId) (j : LoopId) : (s.enterWaiting c).ring j = s.ring j := by simp [ring]
@[simp] theorem enterWaiting_feed (c : CtxId) (j : LoopId) : (s.enterWaiting c).feed j = s.feed j := by simp [feed]
@[simp] theorem enterWaiting_record (c : CtxId) (j : SlotId) : (s.enterWaiting c).record j = s.record j := by simp [record]
@[simp] theorem enterWaiting_ctx (c : CtxId) (j : CtxId) : (s.enterWaiting c).ctx j = s.ctx j := by simp [ctx]
@[simp] theorem enterWaiting_trunk (c : CtxId) (j : Trunk) : (s.enterWaiting c).trunk j = s.trunk j := by cases j <;> simp [trunk]
@[simp] theorem enterWaiting_path (c : CtxId) (j : CtxId) : (s.enterWaiting c).path j = s.path j := by simp [path]
@[simp] theorem enterWaiting_player (c : CtxId) (j : CtxId) : (s.enterWaiting c).player j = s.player j := by simp [player]
@[simp] theorem enterWaiting_segment (c : CtxId) (j : SegId) : (s.enterWaiting c).segment j = s.segment j := by simp [segment]
@[simp] theorem enterWaiting_service (c : CtxId) (j : Trunk) : (s.enterWaiting c).service j = s.service j := by cases j <;> simp [service]
@[simp] theorem enterWaiting_param (c : CtxId) (j : Fin 25) : (s.enterWaiting c).param j = s.param j := by simp [param]

/-! ### leaveWaiting -/

theorem leaveWaiting_frame (c : CtxId) : s.leaveWaiting c = { s with
    waiting := (s.leaveWaiting c).waiting } := by
  apply State.ext <;> first | with_reducible rfl | (simp [leaveWaiting])
@[simp] theorem leaveWaiting_pending (c : CtxId) : (s.leaveWaiting c).pending = s.pending := by rw [leaveWaiting_frame]
@[simp] theorem leaveWaiting_handed (c : CtxId) : (s.leaveWaiting c).handed = s.handed := by rw [leaveWaiting_frame]
@[simp] theorem leaveWaiting_loops (c : CtxId) : (s.leaveWaiting c).loops = s.loops := by rw [leaveWaiting_frame]
@[simp] theorem leaveWaiting_rings (c : CtxId) : (s.leaveWaiting c).rings = s.rings := by rw [leaveWaiting_frame]
@[simp] theorem leaveWaiting_feeds (c : CtxId) : (s.leaveWaiting c).feeds = s.feeds := by rw [leaveWaiting_frame]
@[simp] theorem leaveWaiting_supply (c : CtxId) : (s.leaveWaiting c).supply = s.supply := by rw [leaveWaiting_frame]
@[simp] theorem leaveWaiting_directory (c : CtxId) : (s.leaveWaiting c).directory = s.directory := by rw [leaveWaiting_frame]
@[simp] theorem leaveWaiting_contexts (c : CtxId) : (s.leaveWaiting c).contexts = s.contexts := by rw [leaveWaiting_frame]
@[simp] theorem leaveWaiting_entryCount (c : CtxId) : (s.leaveWaiting c).entryCount = s.entryCount := by rw [leaveWaiting_frame]
@[simp] theorem leaveWaiting_routes (c : CtxId) : (s.leaveWaiting c).routes = s.routes := by rw [leaveWaiting_frame]
@[simp] theorem leaveWaiting_plan (c : CtxId) : (s.leaveWaiting c).plan = s.plan := by rw [leaveWaiting_frame]
@[simp] theorem leaveWaiting_trunkA (c : CtxId) : (s.leaveWaiting c).trunkA = s.trunkA := by rw [leaveWaiting_frame]
@[simp] theorem leaveWaiting_trunkB (c : CtxId) : (s.leaveWaiting c).trunkB = s.trunkB := by rw [leaveWaiting_frame]
@[simp] theorem leaveWaiting_paths (c : CtxId) : (s.leaveWaiting c).paths = s.paths := by rw [leaveWaiting_frame]
@[simp] theorem leaveWaiting_samples (c : CtxId) : (s.leaveWaiting c).samples = s.samples := by rw [leaveWaiting_frame]
@[simp] theorem leaveWaiting_segments (c : CtxId) : (s.leaveWaiting c).segments = s.segments := by rw [leaveWaiting_frame]
@[simp] theorem leaveWaiting_players (c : CtxId) : (s.leaveWaiting c).players = s.players := by rw [leaveWaiting_frame]
@[simp] theorem leaveWaiting_serviceA (c : CtxId) : (s.leaveWaiting c).serviceA = s.serviceA := by rw [leaveWaiting_frame]
@[simp] theorem leaveWaiting_serviceB (c : CtxId) : (s.leaveWaiting c).serviceB = s.serviceB := by rw [leaveWaiting_frame]
@[simp] theorem leaveWaiting_home (c : CtxId) : (s.leaveWaiting c).home = s.home := by rw [leaveWaiting_frame]
@[simp] theorem leaveWaiting_settings (c : CtxId) : (s.leaveWaiting c).settings = s.settings := by rw [leaveWaiting_frame]
@[simp] theorem leaveWaiting_sectionFault (c : CtxId) : (s.leaveWaiting c).sectionFault = s.sectionFault := by rw [leaveWaiting_frame]
@[simp] theorem leaveWaiting_trunkFaultA (c : CtxId) : (s.leaveWaiting c).trunkFaultA = s.trunkFaultA := by rw [leaveWaiting_frame]
@[simp] theorem leaveWaiting_trunkFaultB (c : CtxId) : (s.leaveWaiting c).trunkFaultB = s.trunkFaultB := by rw [leaveWaiting_frame]
@[simp] theorem leaveWaiting_loopFaults (c : CtxId) : (s.leaveWaiting c).loopFaults = s.loopFaults := by rw [leaveWaiting_frame]
@[simp] theorem leaveWaiting_postFaults (c : CtxId) : (s.leaveWaiting c).postFaults = s.postFaults := by rw [leaveWaiting_frame]
@[simp] theorem leaveWaiting_testResults (c : CtxId) : (s.leaveWaiting c).testResults = s.testResults := by rw [leaveWaiting_frame]
@[simp] theorem leaveWaiting_marks (c : CtxId) : (s.leaveWaiting c).marks = s.marks := by rw [leaveWaiting_frame]
@[simp] theorem leaveWaiting_abandons (c : CtxId) : (s.leaveWaiting c).abandons = s.abandons := by rw [leaveWaiting_frame]
@[simp] theorem leaveWaiting_abandonPosts (c : CtxId) : (s.leaveWaiting c).abandonPosts = s.abandonPosts := by rw [leaveWaiting_frame]
@[simp] theorem leaveWaiting_mask (c : CtxId) : (s.leaveWaiting c).mask = s.mask := by rw [leaveWaiting_frame]
@[simp] theorem leaveWaiting_loop (c : CtxId) (j : LoopId) : (s.leaveWaiting c).loop j = s.loop j := by simp [loop]
@[simp] theorem leaveWaiting_ring (c : CtxId) (j : LoopId) : (s.leaveWaiting c).ring j = s.ring j := by simp [ring]
@[simp] theorem leaveWaiting_feed (c : CtxId) (j : LoopId) : (s.leaveWaiting c).feed j = s.feed j := by simp [feed]
@[simp] theorem leaveWaiting_record (c : CtxId) (j : SlotId) : (s.leaveWaiting c).record j = s.record j := by simp [record]
@[simp] theorem leaveWaiting_ctx (c : CtxId) (j : CtxId) : (s.leaveWaiting c).ctx j = s.ctx j := by simp [ctx]
@[simp] theorem leaveWaiting_trunk (c : CtxId) (j : Trunk) : (s.leaveWaiting c).trunk j = s.trunk j := by cases j <;> simp [trunk]
@[simp] theorem leaveWaiting_path (c : CtxId) (j : CtxId) : (s.leaveWaiting c).path j = s.path j := by simp [path]
@[simp] theorem leaveWaiting_player (c : CtxId) (j : CtxId) : (s.leaveWaiting c).player j = s.player j := by simp [player]
@[simp] theorem leaveWaiting_segment (c : CtxId) (j : SegId) : (s.leaveWaiting c).segment j = s.segment j := by simp [segment]
@[simp] theorem leaveWaiting_service (c : CtxId) (j : Trunk) : (s.leaveWaiting c).service j = s.service j := by cases j <;> simp [service]
@[simp] theorem leaveWaiting_param (c : CtxId) (j : Fin 25) : (s.leaveWaiting c).param j = s.param j := by simp [param]

/-! ### renumber -/

theorem renumber_frame : s.renumber = { s with
    contexts := (s.renumber).contexts
    entryCount := (s.renumber).entryCount } := by
  apply State.ext <;> first | with_reducible rfl | (simp [renumber])
@[simp] theorem renumber_pending : (s.renumber).pending = s.pending := by rw [renumber_frame]
@[simp] theorem renumber_handed : (s.renumber).handed = s.handed := by rw [renumber_frame]
@[simp] theorem renumber_loops : (s.renumber).loops = s.loops := by rw [renumber_frame]
@[simp] theorem renumber_rings : (s.renumber).rings = s.rings := by rw [renumber_frame]
@[simp] theorem renumber_feeds : (s.renumber).feeds = s.feeds := by rw [renumber_frame]
@[simp] theorem renumber_supply : (s.renumber).supply = s.supply := by rw [renumber_frame]
@[simp] theorem renumber_directory : (s.renumber).directory = s.directory := by rw [renumber_frame]
@[simp] theorem renumber_waiting : (s.renumber).waiting = s.waiting := by rw [renumber_frame]
@[simp] theorem renumber_routes : (s.renumber).routes = s.routes := by rw [renumber_frame]
@[simp] theorem renumber_plan : (s.renumber).plan = s.plan := by rw [renumber_frame]
@[simp] theorem renumber_trunkA : (s.renumber).trunkA = s.trunkA := by rw [renumber_frame]
@[simp] theorem renumber_trunkB : (s.renumber).trunkB = s.trunkB := by rw [renumber_frame]
@[simp] theorem renumber_paths : (s.renumber).paths = s.paths := by rw [renumber_frame]
@[simp] theorem renumber_samples : (s.renumber).samples = s.samples := by rw [renumber_frame]
@[simp] theorem renumber_segments : (s.renumber).segments = s.segments := by rw [renumber_frame]
@[simp] theorem renumber_players : (s.renumber).players = s.players := by rw [renumber_frame]
@[simp] theorem renumber_serviceA : (s.renumber).serviceA = s.serviceA := by rw [renumber_frame]
@[simp] theorem renumber_serviceB : (s.renumber).serviceB = s.serviceB := by rw [renumber_frame]
@[simp] theorem renumber_home : (s.renumber).home = s.home := by rw [renumber_frame]
@[simp] theorem renumber_settings : (s.renumber).settings = s.settings := by rw [renumber_frame]
@[simp] theorem renumber_sectionFault : (s.renumber).sectionFault = s.sectionFault := by rw [renumber_frame]
@[simp] theorem renumber_trunkFaultA : (s.renumber).trunkFaultA = s.trunkFaultA := by rw [renumber_frame]
@[simp] theorem renumber_trunkFaultB : (s.renumber).trunkFaultB = s.trunkFaultB := by rw [renumber_frame]
@[simp] theorem renumber_loopFaults : (s.renumber).loopFaults = s.loopFaults := by rw [renumber_frame]
@[simp] theorem renumber_postFaults : (s.renumber).postFaults = s.postFaults := by rw [renumber_frame]
@[simp] theorem renumber_testResults : (s.renumber).testResults = s.testResults := by rw [renumber_frame]
@[simp] theorem renumber_marks : (s.renumber).marks = s.marks := by rw [renumber_frame]
@[simp] theorem renumber_abandons : (s.renumber).abandons = s.abandons := by rw [renumber_frame]
@[simp] theorem renumber_abandonPosts : (s.renumber).abandonPosts = s.abandonPosts := by rw [renumber_frame]
@[simp] theorem renumber_mask : (s.renumber).mask = s.mask := by rw [renumber_frame]
@[simp] theorem renumber_loop (j : LoopId) : (s.renumber).loop j = s.loop j := by simp [loop]
@[simp] theorem renumber_ring (j : LoopId) : (s.renumber).ring j = s.ring j := by simp [ring]
@[simp] theorem renumber_feed (j : LoopId) : (s.renumber).feed j = s.feed j := by simp [feed]
@[simp] theorem renumber_record (j : SlotId) : (s.renumber).record j = s.record j := by simp [record]
@[simp] theorem renumber_trunk (j : Trunk) : (s.renumber).trunk j = s.trunk j := by cases j <;> simp [trunk]
@[simp] theorem renumber_path (j : CtxId) : (s.renumber).path j = s.path j := by simp [path]
@[simp] theorem renumber_player (j : CtxId) : (s.renumber).player j = s.player j := by simp [player]
@[simp] theorem renumber_segment (j : SegId) : (s.renumber).segment j = s.segment j := by simp [segment]
@[simp] theorem renumber_service (j : Trunk) : (s.renumber).service j = s.service j := by cases j <;> simp [service]
@[simp] theorem renumber_param (j : Fin 25) : (s.renumber).param j = s.param j := by simp [param]

/-! ### countEntry -/

theorem countEntry_frame : s.countEntry = { s with
    contexts := (s.countEntry).contexts
    entryCount := (s.countEntry).entryCount } := by
  apply State.ext <;> first | with_reducible rfl | (unfold countEntry; (repeat' split) <;> simp)
@[simp] theorem countEntry_pending : (s.countEntry).pending = s.pending := by rw [countEntry_frame]
@[simp] theorem countEntry_handed : (s.countEntry).handed = s.handed := by rw [countEntry_frame]
@[simp] theorem countEntry_loops : (s.countEntry).loops = s.loops := by rw [countEntry_frame]
@[simp] theorem countEntry_rings : (s.countEntry).rings = s.rings := by rw [countEntry_frame]
@[simp] theorem countEntry_feeds : (s.countEntry).feeds = s.feeds := by rw [countEntry_frame]
@[simp] theorem countEntry_supply : (s.countEntry).supply = s.supply := by rw [countEntry_frame]
@[simp] theorem countEntry_directory : (s.countEntry).directory = s.directory := by rw [countEntry_frame]
@[simp] theorem countEntry_waiting : (s.countEntry).waiting = s.waiting := by rw [countEntry_frame]
@[simp] theorem countEntry_routes : (s.countEntry).routes = s.routes := by rw [countEntry_frame]
@[simp] theorem countEntry_plan : (s.countEntry).plan = s.plan := by rw [countEntry_frame]
@[simp] theorem countEntry_trunkA : (s.countEntry).trunkA = s.trunkA := by rw [countEntry_frame]
@[simp] theorem countEntry_trunkB : (s.countEntry).trunkB = s.trunkB := by rw [countEntry_frame]
@[simp] theorem countEntry_paths : (s.countEntry).paths = s.paths := by rw [countEntry_frame]
@[simp] theorem countEntry_samples : (s.countEntry).samples = s.samples := by rw [countEntry_frame]
@[simp] theorem countEntry_segments : (s.countEntry).segments = s.segments := by rw [countEntry_frame]
@[simp] theorem countEntry_players : (s.countEntry).players = s.players := by rw [countEntry_frame]
@[simp] theorem countEntry_serviceA : (s.countEntry).serviceA = s.serviceA := by rw [countEntry_frame]
@[simp] theorem countEntry_serviceB : (s.countEntry).serviceB = s.serviceB := by rw [countEntry_frame]
@[simp] theorem countEntry_home : (s.countEntry).home = s.home := by rw [countEntry_frame]
@[simp] theorem countEntry_settings : (s.countEntry).settings = s.settings := by rw [countEntry_frame]
@[simp] theorem countEntry_sectionFault : (s.countEntry).sectionFault = s.sectionFault := by rw [countEntry_frame]
@[simp] theorem countEntry_trunkFaultA : (s.countEntry).trunkFaultA = s.trunkFaultA := by rw [countEntry_frame]
@[simp] theorem countEntry_trunkFaultB : (s.countEntry).trunkFaultB = s.trunkFaultB := by rw [countEntry_frame]
@[simp] theorem countEntry_loopFaults : (s.countEntry).loopFaults = s.loopFaults := by rw [countEntry_frame]
@[simp] theorem countEntry_postFaults : (s.countEntry).postFaults = s.postFaults := by rw [countEntry_frame]
@[simp] theorem countEntry_testResults : (s.countEntry).testResults = s.testResults := by rw [countEntry_frame]
@[simp] theorem countEntry_marks : (s.countEntry).marks = s.marks := by rw [countEntry_frame]
@[simp] theorem countEntry_abandons : (s.countEntry).abandons = s.abandons := by rw [countEntry_frame]
@[simp] theorem countEntry_abandonPosts : (s.countEntry).abandonPosts = s.abandonPosts := by rw [countEntry_frame]
@[simp] theorem countEntry_mask : (s.countEntry).mask = s.mask := by rw [countEntry_frame]
@[simp] theorem countEntry_loop (j : LoopId) : (s.countEntry).loop j = s.loop j := by simp [loop]
@[simp] theorem countEntry_ring (j : LoopId) : (s.countEntry).ring j = s.ring j := by simp [ring]
@[simp] theorem countEntry_feed (j : LoopId) : (s.countEntry).feed j = s.feed j := by simp [feed]
@[simp] theorem countEntry_record (j : SlotId) : (s.countEntry).record j = s.record j := by simp [record]
@[simp] theorem countEntry_trunk (j : Trunk) : (s.countEntry).trunk j = s.trunk j := by cases j <;> simp [trunk]
@[simp] theorem countEntry_path (j : CtxId) : (s.countEntry).path j = s.path j := by simp [path]
@[simp] theorem countEntry_player (j : CtxId) : (s.countEntry).player j = s.player j := by simp [player]
@[simp] theorem countEntry_segment (j : SegId) : (s.countEntry).segment j = s.segment j := by simp [segment]
@[simp] theorem countEntry_service (j : Trunk) : (s.countEntry).service j = s.service j := by cases j <;> simp [service]
@[simp] theorem countEntry_param (j : Fin 25) : (s.countEntry).param j = s.param j := by simp [param]

/-! ### takePlan -/

theorem takePlan_frame (c : CtxId) : s.takePlan c = { s with
    contexts := (s.takePlan c).contexts } := by
  apply State.ext <;> first | with_reducible rfl | (unfold takePlan; (repeat' split) <;> simp)
@[simp] theorem takePlan_pending (c : CtxId) : (s.takePlan c).pending = s.pending := by rw [takePlan_frame]
@[simp] theorem takePlan_handed (c : CtxId) : (s.takePlan c).handed = s.handed := by rw [takePlan_frame]
@[simp] theorem takePlan_loops (c : CtxId) : (s.takePlan c).loops = s.loops := by rw [takePlan_frame]
@[simp] theorem takePlan_rings (c : CtxId) : (s.takePlan c).rings = s.rings := by rw [takePlan_frame]
@[simp] theorem takePlan_feeds (c : CtxId) : (s.takePlan c).feeds = s.feeds := by rw [takePlan_frame]
@[simp] theorem takePlan_supply (c : CtxId) : (s.takePlan c).supply = s.supply := by rw [takePlan_frame]
@[simp] theorem takePlan_directory (c : CtxId) : (s.takePlan c).directory = s.directory := by rw [takePlan_frame]
@[simp] theorem takePlan_waiting (c : CtxId) : (s.takePlan c).waiting = s.waiting := by rw [takePlan_frame]
@[simp] theorem takePlan_entryCount (c : CtxId) : (s.takePlan c).entryCount = s.entryCount := by rw [takePlan_frame]
@[simp] theorem takePlan_routes (c : CtxId) : (s.takePlan c).routes = s.routes := by rw [takePlan_frame]
@[simp] theorem takePlan_plan (c : CtxId) : (s.takePlan c).plan = s.plan := by rw [takePlan_frame]
@[simp] theorem takePlan_trunkA (c : CtxId) : (s.takePlan c).trunkA = s.trunkA := by rw [takePlan_frame]
@[simp] theorem takePlan_trunkB (c : CtxId) : (s.takePlan c).trunkB = s.trunkB := by rw [takePlan_frame]
@[simp] theorem takePlan_paths (c : CtxId) : (s.takePlan c).paths = s.paths := by rw [takePlan_frame]
@[simp] theorem takePlan_samples (c : CtxId) : (s.takePlan c).samples = s.samples := by rw [takePlan_frame]
@[simp] theorem takePlan_segments (c : CtxId) : (s.takePlan c).segments = s.segments := by rw [takePlan_frame]
@[simp] theorem takePlan_players (c : CtxId) : (s.takePlan c).players = s.players := by rw [takePlan_frame]
@[simp] theorem takePlan_serviceA (c : CtxId) : (s.takePlan c).serviceA = s.serviceA := by rw [takePlan_frame]
@[simp] theorem takePlan_serviceB (c : CtxId) : (s.takePlan c).serviceB = s.serviceB := by rw [takePlan_frame]
@[simp] theorem takePlan_home (c : CtxId) : (s.takePlan c).home = s.home := by rw [takePlan_frame]
@[simp] theorem takePlan_settings (c : CtxId) : (s.takePlan c).settings = s.settings := by rw [takePlan_frame]
@[simp] theorem takePlan_sectionFault (c : CtxId) : (s.takePlan c).sectionFault = s.sectionFault := by rw [takePlan_frame]
@[simp] theorem takePlan_trunkFaultA (c : CtxId) : (s.takePlan c).trunkFaultA = s.trunkFaultA := by rw [takePlan_frame]
@[simp] theorem takePlan_trunkFaultB (c : CtxId) : (s.takePlan c).trunkFaultB = s.trunkFaultB := by rw [takePlan_frame]
@[simp] theorem takePlan_loopFaults (c : CtxId) : (s.takePlan c).loopFaults = s.loopFaults := by rw [takePlan_frame]
@[simp] theorem takePlan_postFaults (c : CtxId) : (s.takePlan c).postFaults = s.postFaults := by rw [takePlan_frame]
@[simp] theorem takePlan_testResults (c : CtxId) : (s.takePlan c).testResults = s.testResults := by rw [takePlan_frame]
@[simp] theorem takePlan_marks (c : CtxId) : (s.takePlan c).marks = s.marks := by rw [takePlan_frame]
@[simp] theorem takePlan_abandons (c : CtxId) : (s.takePlan c).abandons = s.abandons := by rw [takePlan_frame]
@[simp] theorem takePlan_abandonPosts (c : CtxId) : (s.takePlan c).abandonPosts = s.abandonPosts := by rw [takePlan_frame]
@[simp] theorem takePlan_mask (c : CtxId) : (s.takePlan c).mask = s.mask := by rw [takePlan_frame]
@[simp] theorem takePlan_loop (c : CtxId) (j : LoopId) : (s.takePlan c).loop j = s.loop j := by simp [loop]
@[simp] theorem takePlan_ring (c : CtxId) (j : LoopId) : (s.takePlan c).ring j = s.ring j := by simp [ring]
@[simp] theorem takePlan_feed (c : CtxId) (j : LoopId) : (s.takePlan c).feed j = s.feed j := by simp [feed]
@[simp] theorem takePlan_record (c : CtxId) (j : SlotId) : (s.takePlan c).record j = s.record j := by simp [record]
@[simp] theorem takePlan_trunk (c : CtxId) (j : Trunk) : (s.takePlan c).trunk j = s.trunk j := by cases j <;> simp [trunk]
@[simp] theorem takePlan_path (c : CtxId) (j : CtxId) : (s.takePlan c).path j = s.path j := by simp [path]
@[simp] theorem takePlan_player (c : CtxId) (j : CtxId) : (s.takePlan c).player j = s.player j := by simp [player]
@[simp] theorem takePlan_segment (c : CtxId) (j : SegId) : (s.takePlan c).segment j = s.segment j := by simp [segment]
@[simp] theorem takePlan_service (c : CtxId) (j : Trunk) : (s.takePlan c).service j = s.service j := by cases j <;> simp [service]
@[simp] theorem takePlan_param (c : CtxId) (j : Fin 25) : (s.takePlan c).param j = s.param j := by simp [param]

/-! ### exhaust -/

theorem exhaust_frame (c : CtxId) : s.exhaust c = { s with
    contexts := (s.exhaust c).contexts
    handed := (s.exhaust c).handed } := by
  apply State.ext <;> first | with_reducible rfl | (simp [exhaust])
@[simp] theorem exhaust_pending (c : CtxId) : (s.exhaust c).pending = s.pending := by rw [exhaust_frame]
@[simp] theorem exhaust_loops (c : CtxId) : (s.exhaust c).loops = s.loops := by rw [exhaust_frame]
@[simp] theorem exhaust_rings (c : CtxId) : (s.exhaust c).rings = s.rings := by rw [exhaust_frame]
@[simp] theorem exhaust_feeds (c : CtxId) : (s.exhaust c).feeds = s.feeds := by rw [exhaust_frame]
@[simp] theorem exhaust_supply (c : CtxId) : (s.exhaust c).supply = s.supply := by rw [exhaust_frame]
@[simp] theorem exhaust_directory (c : CtxId) : (s.exhaust c).directory = s.directory := by rw [exhaust_frame]
@[simp] theorem exhaust_waiting (c : CtxId) : (s.exhaust c).waiting = s.waiting := by rw [exhaust_frame]
@[simp] theorem exhaust_entryCount (c : CtxId) : (s.exhaust c).entryCount = s.entryCount := by rw [exhaust_frame]
@[simp] theorem exhaust_routes (c : CtxId) : (s.exhaust c).routes = s.routes := by rw [exhaust_frame]
@[simp] theorem exhaust_plan (c : CtxId) : (s.exhaust c).plan = s.plan := by rw [exhaust_frame]
@[simp] theorem exhaust_trunkA (c : CtxId) : (s.exhaust c).trunkA = s.trunkA := by rw [exhaust_frame]
@[simp] theorem exhaust_trunkB (c : CtxId) : (s.exhaust c).trunkB = s.trunkB := by rw [exhaust_frame]
@[simp] theorem exhaust_paths (c : CtxId) : (s.exhaust c).paths = s.paths := by rw [exhaust_frame]
@[simp] theorem exhaust_samples (c : CtxId) : (s.exhaust c).samples = s.samples := by rw [exhaust_frame]
@[simp] theorem exhaust_segments (c : CtxId) : (s.exhaust c).segments = s.segments := by rw [exhaust_frame]
@[simp] theorem exhaust_players (c : CtxId) : (s.exhaust c).players = s.players := by rw [exhaust_frame]
@[simp] theorem exhaust_serviceA (c : CtxId) : (s.exhaust c).serviceA = s.serviceA := by rw [exhaust_frame]
@[simp] theorem exhaust_serviceB (c : CtxId) : (s.exhaust c).serviceB = s.serviceB := by rw [exhaust_frame]
@[simp] theorem exhaust_home (c : CtxId) : (s.exhaust c).home = s.home := by rw [exhaust_frame]
@[simp] theorem exhaust_settings (c : CtxId) : (s.exhaust c).settings = s.settings := by rw [exhaust_frame]
@[simp] theorem exhaust_sectionFault (c : CtxId) : (s.exhaust c).sectionFault = s.sectionFault := by rw [exhaust_frame]
@[simp] theorem exhaust_trunkFaultA (c : CtxId) : (s.exhaust c).trunkFaultA = s.trunkFaultA := by rw [exhaust_frame]
@[simp] theorem exhaust_trunkFaultB (c : CtxId) : (s.exhaust c).trunkFaultB = s.trunkFaultB := by rw [exhaust_frame]
@[simp] theorem exhaust_loopFaults (c : CtxId) : (s.exhaust c).loopFaults = s.loopFaults := by rw [exhaust_frame]
@[simp] theorem exhaust_postFaults (c : CtxId) : (s.exhaust c).postFaults = s.postFaults := by rw [exhaust_frame]
@[simp] theorem exhaust_testResults (c : CtxId) : (s.exhaust c).testResults = s.testResults := by rw [exhaust_frame]
@[simp] theorem exhaust_marks (c : CtxId) : (s.exhaust c).marks = s.marks := by rw [exhaust_frame]
@[simp] theorem exhaust_abandons (c : CtxId) : (s.exhaust c).abandons = s.abandons := by rw [exhaust_frame]
@[simp] theorem exhaust_abandonPosts (c : CtxId) : (s.exhaust c).abandonPosts = s.abandonPosts := by rw [exhaust_frame]
@[simp] theorem exhaust_mask (c : CtxId) : (s.exhaust c).mask = s.mask := by rw [exhaust_frame]
@[simp] theorem exhaust_loop (c : CtxId) (j : LoopId) : (s.exhaust c).loop j = s.loop j := by simp [loop]
@[simp] theorem exhaust_ring (c : CtxId) (j : LoopId) : (s.exhaust c).ring j = s.ring j := by simp [ring]
@[simp] theorem exhaust_feed (c : CtxId) (j : LoopId) : (s.exhaust c).feed j = s.feed j := by simp [feed]
@[simp] theorem exhaust_record (c : CtxId) (j : SlotId) : (s.exhaust c).record j = s.record j := by simp [record]
@[simp] theorem exhaust_trunk (c : CtxId) (j : Trunk) : (s.exhaust c).trunk j = s.trunk j := by cases j <;> simp [trunk]
@[simp] theorem exhaust_path (c : CtxId) (j : CtxId) : (s.exhaust c).path j = s.path j := by simp [path]
@[simp] theorem exhaust_player (c : CtxId) (j : CtxId) : (s.exhaust c).player j = s.player j := by simp [player]
@[simp] theorem exhaust_segment (c : CtxId) (j : SegId) : (s.exhaust c).segment j = s.segment j := by simp [segment]
@[simp] theorem exhaust_service (c : CtxId) (j : Trunk) : (s.exhaust c).service j = s.service j := by cases j <;> simp [service]
@[simp] theorem exhaust_param (c : CtxId) (j : Fin 25) : (s.exhaust c).param j = s.param j := by simp [param]

/-! ### makeOffer -/

theorem makeOffer_frame (c : CtxId) (place : Nat) (target : Target) (ch : ChanId) : s.makeOffer c place target ch = { s with
    contexts := (s.makeOffer c place target ch).contexts
    loops := (s.makeOffer c place target ch).loops
    trunkA := (s.makeOffer c place target ch).trunkA
    trunkB := (s.makeOffer c place target ch).trunkB
    handed := (s.makeOffer c place target ch).handed } := by
  apply State.ext <;> first | with_reducible rfl | (simp [makeOffer])
@[simp] theorem makeOffer_pending (c : CtxId) (place : Nat) (target : Target) (ch : ChanId) : (s.makeOffer c place target ch).pending = s.pending := by rw [makeOffer_frame]
@[simp] theorem makeOffer_rings (c : CtxId) (place : Nat) (target : Target) (ch : ChanId) : (s.makeOffer c place target ch).rings = s.rings := by rw [makeOffer_frame]
@[simp] theorem makeOffer_feeds (c : CtxId) (place : Nat) (target : Target) (ch : ChanId) : (s.makeOffer c place target ch).feeds = s.feeds := by rw [makeOffer_frame]
@[simp] theorem makeOffer_supply (c : CtxId) (place : Nat) (target : Target) (ch : ChanId) : (s.makeOffer c place target ch).supply = s.supply := by rw [makeOffer_frame]
@[simp] theorem makeOffer_directory (c : CtxId) (place : Nat) (target : Target) (ch : ChanId) : (s.makeOffer c place target ch).directory = s.directory := by rw [makeOffer_frame]
@[simp] theorem makeOffer_waiting (c : CtxId) (place : Nat) (target : Target) (ch : ChanId) : (s.makeOffer c place target ch).waiting = s.waiting := by rw [makeOffer_frame]
@[simp] theorem makeOffer_entryCount (c : CtxId) (place : Nat) (target : Target) (ch : ChanId) : (s.makeOffer c place target ch).entryCount = s.entryCount := by rw [makeOffer_frame]
@[simp] theorem makeOffer_routes (c : CtxId) (place : Nat) (target : Target) (ch : ChanId) : (s.makeOffer c place target ch).routes = s.routes := by rw [makeOffer_frame]
@[simp] theorem makeOffer_plan (c : CtxId) (place : Nat) (target : Target) (ch : ChanId) : (s.makeOffer c place target ch).plan = s.plan := by rw [makeOffer_frame]
@[simp] theorem makeOffer_paths (c : CtxId) (place : Nat) (target : Target) (ch : ChanId) : (s.makeOffer c place target ch).paths = s.paths := by rw [makeOffer_frame]
@[simp] theorem makeOffer_samples (c : CtxId) (place : Nat) (target : Target) (ch : ChanId) : (s.makeOffer c place target ch).samples = s.samples := by rw [makeOffer_frame]
@[simp] theorem makeOffer_segments (c : CtxId) (place : Nat) (target : Target) (ch : ChanId) : (s.makeOffer c place target ch).segments = s.segments := by rw [makeOffer_frame]
@[simp] theorem makeOffer_players (c : CtxId) (place : Nat) (target : Target) (ch : ChanId) : (s.makeOffer c place target ch).players = s.players := by rw [makeOffer_frame]
@[simp] theorem makeOffer_serviceA (c : CtxId) (place : Nat) (target : Target) (ch : ChanId) : (s.makeOffer c place target ch).serviceA = s.serviceA := by rw [makeOffer_frame]
@[simp] theorem makeOffer_serviceB (c : CtxId) (place : Nat) (target : Target) (ch : ChanId) : (s.makeOffer c place target ch).serviceB = s.serviceB := by rw [makeOffer_frame]
@[simp] theorem makeOffer_home (c : CtxId) (place : Nat) (target : Target) (ch : ChanId) : (s.makeOffer c place target ch).home = s.home := by rw [makeOffer_frame]
@[simp] theorem makeOffer_settings (c : CtxId) (place : Nat) (target : Target) (ch : ChanId) : (s.makeOffer c place target ch).settings = s.settings := by rw [makeOffer_frame]
@[simp] theorem makeOffer_sectionFault (c : CtxId) (place : Nat) (target : Target) (ch : ChanId) : (s.makeOffer c place target ch).sectionFault = s.sectionFault := by rw [makeOffer_frame]
@[simp] theorem makeOffer_trunkFaultA (c : CtxId) (place : Nat) (target : Target) (ch : ChanId) : (s.makeOffer c place target ch).trunkFaultA = s.trunkFaultA := by rw [makeOffer_frame]
@[simp] theorem makeOffer_trunkFaultB (c : CtxId) (place : Nat) (target : Target) (ch : ChanId) : (s.makeOffer c place target ch).trunkFaultB = s.trunkFaultB := by rw [makeOffer_frame]
@[simp] theorem makeOffer_loopFaults (c : CtxId) (place : Nat) (target : Target) (ch : ChanId) : (s.makeOffer c place target ch).loopFaults = s.loopFaults := by rw [makeOffer_frame]
@[simp] theorem makeOffer_postFaults (c : CtxId) (place : Nat) (target : Target) (ch : ChanId) : (s.makeOffer c place target ch).postFaults = s.postFaults := by rw [makeOffer_frame]
@[simp] theorem makeOffer_testResults (c : CtxId) (place : Nat) (target : Target) (ch : ChanId) : (s.makeOffer c place target ch).testResults = s.testResults := by rw [makeOffer_frame]
@[simp] theorem makeOffer_marks (c : CtxId) (place : Nat) (target : Target) (ch : ChanId) : (s.makeOffer c place target ch).marks = s.marks := by rw [makeOffer_frame]
@[simp] theorem makeOffer_abandons (c : CtxId) (place : Nat) (target : Target) (ch : ChanId) : (s.makeOffer c place target ch).abandons = s.abandons := by rw [makeOffer_frame]
@[simp] theorem makeOffer_abandonPosts (c : CtxId) (place : Nat) (target : Target) (ch : ChanId) : (s.makeOffer c place target ch).abandonPosts = s.abandonPosts := by rw [makeOffer_frame]
@[simp] theorem makeOffer_mask (c : CtxId) (place : Nat) (target : Target) (ch : ChanId) : (s.makeOffer c place target ch).mask = s.mask := by rw [makeOffer_frame]
@[simp] theorem makeOffer_ring (c : CtxId) (place : Nat) (target : Target) (ch : ChanId) (j : LoopId) : (s.makeOffer c place target ch).ring j = s.ring j := by simp [ring]
@[simp] theorem makeOffer_feed (c : CtxId) (place : Nat) (target : Target) (ch : ChanId) (j : LoopId) : (s.makeOffer c place target ch).feed j = s.feed j := by simp [feed]
@[simp] theorem makeOffer_record (c : CtxId) (place : Nat) (target : Target) (ch : ChanId) (j : SlotId) : (s.makeOffer c place target ch).record j = s.record j := by simp [record]
@[simp] theorem makeOffer_path (c : CtxId) (place : Nat) (target : Target) (ch : ChanId) (j : CtxId) : (s.makeOffer c place target ch).path j = s.path j := by simp [path]
@[simp] theorem makeOffer_player (c : CtxId) (place : Nat) (target : Target) (ch : ChanId) (j : CtxId) : (s.makeOffer c place target ch).player j = s.player j := by simp [player]
@[simp] theorem makeOffer_segment (c : CtxId) (place : Nat) (target : Target) (ch : ChanId) (j : SegId) : (s.makeOffer c place target ch).segment j = s.segment j := by simp [segment]
@[simp] theorem makeOffer_service (c : CtxId) (place : Nat) (target : Target) (ch : ChanId) (j : Trunk) : (s.makeOffer c place target ch).service j = s.service j := by cases j <;> simp [service]
@[simp] theorem makeOffer_param (c : CtxId) (place : Nat) (target : Target) (ch : ChanId) (j : Fin 25) : (s.makeOffer c place target ch).param j = s.param j := by simp [param]

/-! ### dispatchOne -/

theorem dispatchOne_frame (c : CtxId) : s.dispatchOne c = { s with
    contexts := (s.dispatchOne c).contexts
    loops := (s.dispatchOne c).loops
    trunkA := (s.dispatchOne c).trunkA
    trunkB := (s.dispatchOne c).trunkB
    handed := (s.dispatchOne c).handed } := by
  apply State.ext <;> first | with_reducible rfl | (unfold dispatchOne; dsimp only; (repeat' split) <;> simp)
@[simp] theorem dispatchOne_pending (c : CtxId) : (s.dispatchOne c).pending = s.pending := by rw [dispatchOne_frame]
@[simp] theorem dispatchOne_rings (c : CtxId) : (s.dispatchOne c).rings = s.rings := by rw [dispatchOne_frame]
@[simp] theorem dispatchOne_feeds (c : CtxId) : (s.dispatchOne c).feeds = s.feeds := by rw [dispatchOne_frame]
@[simp] theorem dispatchOne_supply (c : CtxId) : (s.dispatchOne c).supply = s.supply := by rw [dispatchOne_frame]
@[simp] theorem dispatchOne_directory (c : CtxId) : (s.dispatchOne c).directory = s.directory := by rw [dispatchOne_frame]
@[simp] theorem dispatchOne_waiting (c : CtxId) : (s.dispatchOne c).waiting = s.waiting := by rw [dispatchOne_frame]
@[simp] theorem dispatchOne_entryCount (c : CtxId) : (s.dispatchOne c).entryCount = s.entryCount := by rw [dispatchOne_frame]
@[simp] theorem dispatchOne_routes (c : CtxId) : (s.dispatchOne c).routes = s.routes := by rw [dispatchOne_frame]
@[simp] theorem dispatchOne_plan (c : CtxId) : (s.dispatchOne c).plan = s.plan := by rw [dispatchOne_frame]
@[simp] theorem dispatchOne_paths (c : CtxId) : (s.dispatchOne c).paths = s.paths := by rw [dispatchOne_frame]
@[simp] theorem dispatchOne_samples (c : CtxId) : (s.dispatchOne c).samples = s.samples := by rw [dispatchOne_frame]
@[simp] theorem dispatchOne_segments (c : CtxId) : (s.dispatchOne c).segments = s.segments := by rw [dispatchOne_frame]
@[simp] theorem dispatchOne_players (c : CtxId) : (s.dispatchOne c).players = s.players := by rw [dispatchOne_frame]
@[simp] theorem dispatchOne_serviceA (c : CtxId) : (s.dispatchOne c).serviceA = s.serviceA := by rw [dispatchOne_frame]
@[simp] theorem dispatchOne_serviceB (c : CtxId) : (s.dispatchOne c).serviceB = s.serviceB := by rw [dispatchOne_frame]
@[simp] theorem dispatchOne_home (c : CtxId) : (s.dispatchOne c).home = s.home := by rw [dispatchOne_frame]
@[simp] theorem dispatchOne_settings (c : CtxId) : (s.dispatchOne c).settings = s.settings := by rw [dispatchOne_frame]
@[simp] theorem dispatchOne_sectionFault (c : CtxId) : (s.dispatchOne c).sectionFault = s.sectionFault := by rw [dispatchOne_frame]
@[simp] theorem dispatchOne_trunkFaultA (c : CtxId) : (s.dispatchOne c).trunkFaultA = s.trunkFaultA := by rw [dispatchOne_frame]
@[simp] theorem dispatchOne_trunkFaultB (c : CtxId) : (s.dispatchOne c).trunkFaultB = s.trunkFaultB := by rw [dispatchOne_frame]
@[simp] theorem dispatchOne_loopFaults (c : CtxId) : (s.dispatchOne c).loopFaults = s.loopFaults := by rw [dispatchOne_frame]
@[simp] theorem dispatchOne_postFaults (c : CtxId) : (s.dispatchOne c).postFaults = s.postFaults := by rw [dispatchOne_frame]
@[simp] theorem dispatchOne_testResults (c : CtxId) : (s.dispatchOne c).testResults = s.testResults := by rw [dispatchOne_frame]
@[simp] theorem dispatchOne_marks (c : CtxId) : (s.dispatchOne c).marks = s.marks := by rw [dispatchOne_frame]
@[simp] theorem dispatchOne_abandons (c : CtxId) : (s.dispatchOne c).abandons = s.abandons := by rw [dispatchOne_frame]
@[simp] theorem dispatchOne_abandonPosts (c : CtxId) : (s.dispatchOne c).abandonPosts = s.abandonPosts := by rw [dispatchOne_frame]
@[simp] theorem dispatchOne_mask (c : CtxId) : (s.dispatchOne c).mask = s.mask := by rw [dispatchOne_frame]
@[simp] theorem dispatchOne_ring (c : CtxId) (j : LoopId) : (s.dispatchOne c).ring j = s.ring j := by simp [ring]
@[simp] theorem dispatchOne_feed (c : CtxId) (j : LoopId) : (s.dispatchOne c).feed j = s.feed j := by simp [feed]
@[simp] theorem dispatchOne_record (c : CtxId) (j : SlotId) : (s.dispatchOne c).record j = s.record j := by simp [record]
@[simp] theorem dispatchOne_path (c : CtxId) (j : CtxId) : (s.dispatchOne c).path j = s.path j := by simp [path]
@[simp] theorem dispatchOne_player (c : CtxId) (j : CtxId) : (s.dispatchOne c).player j = s.player j := by simp [player]
@[simp] theorem dispatchOne_segment (c : CtxId) (j : SegId) : (s.dispatchOne c).segment j = s.segment j := by simp [segment]
@[simp] theorem dispatchOne_service (c : CtxId) (j : Trunk) : (s.dispatchOne c).service j = s.service j := by cases j <;> simp [service]
@[simp] theorem dispatchOne_param (c : CtxId) (j : Fin 25) : (s.dispatchOne c).param j = s.param j := by simp [param]

/-! ### dispatch -/

theorem dispatch_frame : s.dispatch = { s with
    contexts := (s.dispatch).contexts
    loops := (s.dispatch).loops
    trunkA := (s.dispatch).trunkA
    trunkB := (s.dispatch).trunkB
    handed := (s.dispatch).handed } := by
  apply State.ext <;> first | with_reducible rfl | (exact foldl_keeps _ _ (fun _ _ => by simp) _ _)
@[simp] theorem dispatch_pending : (s.dispatch).pending = s.pending := by rw [dispatch_frame]
@[simp] theorem dispatch_rings : (s.dispatch).rings = s.rings := by rw [dispatch_frame]
@[simp] theorem dispatch_feeds : (s.dispatch).feeds = s.feeds := by rw [dispatch_frame]
@[simp] theorem dispatch_supply : (s.dispatch).supply = s.supply := by rw [dispatch_frame]
@[simp] theorem dispatch_directory : (s.dispatch).directory = s.directory := by rw [dispatch_frame]
@[simp] theorem dispatch_waiting : (s.dispatch).waiting = s.waiting := by rw [dispatch_frame]
@[simp] theorem dispatch_entryCount : (s.dispatch).entryCount = s.entryCount := by rw [dispatch_frame]
@[simp] theorem dispatch_routes : (s.dispatch).routes = s.routes := by rw [dispatch_frame]
@[simp] theorem dispatch_plan : (s.dispatch).plan = s.plan := by rw [dispatch_frame]
@[simp] theorem dispatch_paths : (s.dispatch).paths = s.paths := by rw [dispatch_frame]
@[simp] theorem dispatch_samples : (s.dispatch).samples = s.samples := by rw [dispatch_frame]
@[simp] theorem dispatch_segments : (s.dispatch).segments = s.segments := by rw [dispatch_frame]
@[simp] theorem dispatch_players : (s.dispatch).players = s.players := by rw [dispatch_frame]
@[simp] theorem dispatch_serviceA : (s.dispatch).serviceA = s.serviceA := by rw [dispatch_frame]
@[simp] theorem dispatch_serviceB : (s.dispatch).serviceB = s.serviceB := by rw [dispatch_frame]
@[simp] theorem dispatch_home : (s.dispatch).home = s.home := by rw [dispatch_frame]
@[simp] theorem dispatch_settings : (s.dispatch).settings = s.settings := by rw [dispatch_frame]
@[simp] theorem dispatch_sectionFault : (s.dispatch).sectionFault = s.sectionFault := by rw [dispatch_frame]
@[simp] theorem dispatch_trunkFaultA : (s.dispatch).trunkFaultA = s.trunkFaultA := by rw [dispatch_frame]
@[simp] theorem dispatch_trunkFaultB : (s.dispatch).trunkFaultB = s.trunkFaultB := by rw [dispatch_frame]
@[simp] theorem dispatch_loopFaults : (s.dispatch).loopFaults = s.loopFaults := by rw [dispatch_frame]
@[simp] theorem dispatch_postFaults : (s.dispatch).postFaults = s.postFaults := by rw [dispatch_frame]
@[simp] theorem dispatch_testResults : (s.dispatch).testResults = s.testResults := by rw [dispatch_frame]
@[simp] theorem dispatch_marks : (s.dispatch).marks = s.marks := by rw [dispatch_frame]
@[simp] theorem dispatch_abandons : (s.dispatch).abandons = s.abandons := by rw [dispatch_frame]
@[simp] theorem dispatch_abandonPosts : (s.dispatch).abandonPosts = s.abandonPosts := by rw [dispatch_frame]
@[simp] theorem dispatch_mask : (s.dispatch).mask = s.mask := by rw [dispatch_frame]
@[simp] theorem dispatch_ring (j : LoopId) : (s.dispatch).ring j = s.ring j := by simp [ring]
@[simp] theorem dispatch_feed (j : LoopId) : (s.dispatch).feed j = s.feed j := by simp [feed]
@[simp] theorem dispatch_record (j : SlotId) : (s.dispatch).record j = s.record j := by simp [record]
@[simp] theorem dispatch_path (j : CtxId) : (s.dispatch).path j = s.path j := by simp [path]
@[simp] theorem dispatch_player (j : CtxId) : (s.dispatch).player j = s.player j := by simp [player]
@[simp] theorem dispatch_segment (j : SegId) : (s.dispatch).segment j = s.segment j := by simp [segment]
@[simp] theorem dispatch_service (j : Trunk) : (s.dispatch).service j = s.service j := by cases j <;> simp [service]
@[simp] theorem dispatch_param (j : Fin 25) : (s.dispatch).param j = s.param j := by simp [param]

/-! ### judgeBlock -/

theorem judgeBlock_frame (c : CtxId) : s.judgeBlock c = { s with
    contexts := (s.judgeBlock c).contexts
    paths := (s.judgeBlock c).paths
    handed := (s.judgeBlock c).handed } := by
  apply State.ext <;> first | with_reducible rfl | (unfold judgeBlock; dsimp only; (repeat' split) <;> simp)
@[simp] theorem judgeBlock_pending (c : CtxId) : (s.judgeBlock c).pending = s.pending := by rw [judgeBlock_frame]
@[simp] theorem judgeBlock_loops (c : CtxId) : (s.judgeBlock c).loops = s.loops := by rw [judgeBlock_frame]
@[simp] theorem judgeBlock_rings (c : CtxId) : (s.judgeBlock c).rings = s.rings := by rw [judgeBlock_frame]
@[simp] theorem judgeBlock_feeds (c : CtxId) : (s.judgeBlock c).feeds = s.feeds := by rw [judgeBlock_frame]
@[simp] theorem judgeBlock_supply (c : CtxId) : (s.judgeBlock c).supply = s.supply := by rw [judgeBlock_frame]
@[simp] theorem judgeBlock_directory (c : CtxId) : (s.judgeBlock c).directory = s.directory := by rw [judgeBlock_frame]
@[simp] theorem judgeBlock_waiting (c : CtxId) : (s.judgeBlock c).waiting = s.waiting := by rw [judgeBlock_frame]
@[simp] theorem judgeBlock_entryCount (c : CtxId) : (s.judgeBlock c).entryCount = s.entryCount := by rw [judgeBlock_frame]
@[simp] theorem judgeBlock_routes (c : CtxId) : (s.judgeBlock c).routes = s.routes := by rw [judgeBlock_frame]
@[simp] theorem judgeBlock_plan (c : CtxId) : (s.judgeBlock c).plan = s.plan := by rw [judgeBlock_frame]
@[simp] theorem judgeBlock_trunkA (c : CtxId) : (s.judgeBlock c).trunkA = s.trunkA := by rw [judgeBlock_frame]
@[simp] theorem judgeBlock_trunkB (c : CtxId) : (s.judgeBlock c).trunkB = s.trunkB := by rw [judgeBlock_frame]
@[simp] theorem judgeBlock_samples (c : CtxId) : (s.judgeBlock c).samples = s.samples := by rw [judgeBlock_frame]
@[simp] theorem judgeBlock_segments (c : CtxId) : (s.judgeBlock c).segments = s.segments := by rw [judgeBlock_frame]
@[simp] theorem judgeBlock_players (c : CtxId) : (s.judgeBlock c).players = s.players := by rw [judgeBlock_frame]
@[simp] theorem judgeBlock_serviceA (c : CtxId) : (s.judgeBlock c).serviceA = s.serviceA := by rw [judgeBlock_frame]
@[simp] theorem judgeBlock_serviceB (c : CtxId) : (s.judgeBlock c).serviceB = s.serviceB := by rw [judgeBlock_frame]
@[simp] theorem judgeBlock_home (c : CtxId) : (s.judgeBlock c).home = s.home := by rw [judgeBlock_frame]
@[simp] theorem judgeBlock_settings (c : CtxId) : (s.judgeBlock c).settings = s.settings := by rw [judgeBlock_frame]
@[simp] theorem judgeBlock_sectionFault (c : CtxId) : (s.judgeBlock c).sectionFault = s.sectionFault := by rw [judgeBlock_frame]
@[simp] theorem judgeBlock_trunkFaultA (c : CtxId) : (s.judgeBlock c).trunkFaultA = s.trunkFaultA := by rw [judgeBlock_frame]
@[simp] theorem judgeBlock_trunkFaultB (c : CtxId) : (s.judgeBlock c).trunkFaultB = s.trunkFaultB := by rw [judgeBlock_frame]
@[simp] theorem judgeBlock_loopFaults (c : CtxId) : (s.judgeBlock c).loopFaults = s.loopFaults := by rw [judgeBlock_frame]
@[simp] theorem judgeBlock_postFaults (c : CtxId) : (s.judgeBlock c).postFaults = s.postFaults := by rw [judgeBlock_frame]
@[simp] theorem judgeBlock_testResults (c : CtxId) : (s.judgeBlock c).testResults = s.testResults := by rw [judgeBlock_frame]
@[simp] theorem judgeBlock_marks (c : CtxId) : (s.judgeBlock c).marks = s.marks := by rw [judgeBlock_frame]
@[simp] theorem judgeBlock_abandons (c : CtxId) : (s.judgeBlock c).abandons = s.abandons := by rw [judgeBlock_frame]
@[simp] theorem judgeBlock_abandonPosts (c : CtxId) : (s.judgeBlock c).abandonPosts = s.abandonPosts := by rw [judgeBlock_frame]
@[simp] theorem judgeBlock_mask (c : CtxId) : (s.judgeBlock c).mask = s.mask := by rw [judgeBlock_frame]
@[simp] theorem judgeBlock_loop (c : CtxId) (j : LoopId) : (s.judgeBlock c).loop j = s.loop j := by simp [loop]
@[simp] theorem judgeBlock_ring (c : CtxId) (j : LoopId) : (s.judgeBlock c).ring j = s.ring j := by simp [ring]
@[simp] theorem judgeBlock_feed (c : CtxId) (j : LoopId) : (s.judgeBlock c).feed j = s.feed j := by simp [feed]
@[simp] theorem judgeBlock_record (c : CtxId) (j : SlotId) : (s.judgeBlock c).record j = s.record j := by simp [record]
@[simp] theorem judgeBlock_trunk (c : CtxId) (j : Trunk) : (s.judgeBlock c).trunk j = s.trunk j := by cases j <;> simp [trunk]
@[simp] theorem judgeBlock_player (c : CtxId) (j : CtxId) : (s.judgeBlock c).player j = s.player j := by simp [player]
@[simp] theorem judgeBlock_segment (c : CtxId) (j : SegId) : (s.judgeBlock c).segment j = s.segment j := by simp [segment]
@[simp] theorem judgeBlock_service (c : CtxId) (j : Trunk) : (s.judgeBlock c).service j = s.service j := by cases j <;> simp [service]
@[simp] theorem judgeBlock_param (c : CtxId) (j : Fin 25) : (s.judgeBlock c).param j = s.param j := by simp [param]

/-! ### catchBlock -/

theorem catchBlock_frame (c : CtxId) : s.catchBlock c = { s with
    contexts := (s.catchBlock c).contexts
    paths := (s.catchBlock c).paths
    handed := (s.catchBlock c).handed } := by
  apply State.ext <;> first | with_reducible rfl | (unfold catchBlock; (repeat' split) <;> simp)
@[simp] theorem catchBlock_pending (c : CtxId) : (s.catchBlock c).pending = s.pending := by rw [catchBlock_frame]
@[simp] theorem catchBlock_loops (c : CtxId) : (s.catchBlock c).loops = s.loops := by rw [catchBlock_frame]
@[simp] theorem catchBlock_rings (c : CtxId) : (s.catchBlock c).rings = s.rings := by rw [catchBlock_frame]
@[simp] theorem catchBlock_feeds (c : CtxId) : (s.catchBlock c).feeds = s.feeds := by rw [catchBlock_frame]
@[simp] theorem catchBlock_supply (c : CtxId) : (s.catchBlock c).supply = s.supply := by rw [catchBlock_frame]
@[simp] theorem catchBlock_directory (c : CtxId) : (s.catchBlock c).directory = s.directory := by rw [catchBlock_frame]
@[simp] theorem catchBlock_waiting (c : CtxId) : (s.catchBlock c).waiting = s.waiting := by rw [catchBlock_frame]
@[simp] theorem catchBlock_entryCount (c : CtxId) : (s.catchBlock c).entryCount = s.entryCount := by rw [catchBlock_frame]
@[simp] theorem catchBlock_routes (c : CtxId) : (s.catchBlock c).routes = s.routes := by rw [catchBlock_frame]
@[simp] theorem catchBlock_plan (c : CtxId) : (s.catchBlock c).plan = s.plan := by rw [catchBlock_frame]
@[simp] theorem catchBlock_trunkA (c : CtxId) : (s.catchBlock c).trunkA = s.trunkA := by rw [catchBlock_frame]
@[simp] theorem catchBlock_trunkB (c : CtxId) : (s.catchBlock c).trunkB = s.trunkB := by rw [catchBlock_frame]
@[simp] theorem catchBlock_samples (c : CtxId) : (s.catchBlock c).samples = s.samples := by rw [catchBlock_frame]
@[simp] theorem catchBlock_segments (c : CtxId) : (s.catchBlock c).segments = s.segments := by rw [catchBlock_frame]
@[simp] theorem catchBlock_players (c : CtxId) : (s.catchBlock c).players = s.players := by rw [catchBlock_frame]
@[simp] theorem catchBlock_serviceA (c : CtxId) : (s.catchBlock c).serviceA = s.serviceA := by rw [catchBlock_frame]
@[simp] theorem catchBlock_serviceB (c : CtxId) : (s.catchBlock c).serviceB = s.serviceB := by rw [catchBlock_frame]
@[simp] theorem catchBlock_home (c : CtxId) : (s.catchBlock c).home = s.home := by rw [catchBlock_frame]
@[simp] theorem catchBlock_settings (c : CtxId) : (s.catchBlock c).settings = s.settings := by rw [catchBlock_frame]
@[simp] theorem catchBlock_sectionFault (c : CtxId) : (s.catchBlock c).sectionFault = s.sectionFault := by rw [catchBlock_frame]
@[simp] theorem catchBlock_trunkFaultA (c : CtxId) : (s.catchBlock c).trunkFaultA = s.trunkFaultA := by rw [catchBlock_frame]
@[simp] theorem catchBlock_trunkFaultB (c : CtxId) : (s.catchBlock c).trunkFaultB = s.trunkFaultB := by rw [catchBlock_frame]
@[simp] theorem catchBlock_loopFaults (c : CtxId) : (s.catchBlock c).loopFaults = s.loopFaults := by rw [catchBlock_frame]
@[simp] theorem catchBlock_postFaults (c : CtxId) : (s.catchBlock c).postFaults = s.postFaults := by rw [catchBlock_frame]
@[simp] theorem catchBlock_testResults (c : CtxId) : (s.catchBlock c).testResults = s.testResults := by rw [catchBlock_frame]
@[simp] theorem catchBlock_marks (c : CtxId) : (s.catchBlock c).marks = s.marks := by rw [catchBlock_frame]
@[simp] theorem catchBlock_abandons (c : CtxId) : (s.catchBlock c).abandons = s.abandons := by rw [catchBlock_frame]
@[simp] theorem catchBlock_abandonPosts (c : CtxId) : (s.catchBlock c).abandonPosts = s.abandonPosts := by rw [catchBlock_frame]
@[simp] theorem catchBlock_mask (c : CtxId) : (s.catchBlock c).mask = s.mask := by rw [catchBlock_frame]
@[simp] theorem catchBlock_loop (c : CtxId) (j : LoopId) : (s.catchBlock c).loop j = s.loop j := by simp [loop]
@[simp] theorem catchBlock_ring (c : CtxId) (j : LoopId) : (s.catchBlock c).ring j = s.ring j := by simp [ring]
@[simp] theorem catchBlock_feed (c : CtxId) (j : LoopId) : (s.catchBlock c).feed j = s.feed j := by simp [feed]
@[simp] theorem catchBlock_record (c : CtxId) (j : SlotId) : (s.catchBlock c).record j = s.record j := by simp [record]
@[simp] theorem catchBlock_trunk (c : CtxId) (j : Trunk) : (s.catchBlock c).trunk j = s.trunk j := by cases j <;> simp [trunk]
@[simp] theorem catchBlock_player (c : CtxId) (j : CtxId) : (s.catchBlock c).player j = s.player j := by simp [player]
@[simp] theorem catchBlock_segment (c : CtxId) (j : SegId) : (s.catchBlock c).segment j = s.segment j := by simp [segment]
@[simp] theorem catchBlock_service (c : CtxId) (j : Trunk) : (s.catchBlock c).service j = s.service j := by cases j <;> simp [service]
@[simp] theorem catchBlock_param (c : CtxId) (j : Fin 25) : (s.catchBlock c).param j = s.param j := by simp [param]

/-! ### sendCleared -/

theorem sendCleared_frame (c : CtxId) (cause : Cause) : s.sendCleared c cause = { s with
    trunkA := (s.sendCleared c cause).trunkA
    trunkB := (s.sendCleared c cause).trunkB
    handed := (s.sendCleared c cause).handed } := by
  apply State.ext <;> first | with_reducible rfl | (unfold sendCleared; (repeat' split) <;> simp)
@[simp] theorem sendCleared_pending (c : CtxId) (cause : Cause) : (s.sendCleared c cause).pending = s.pending := by rw [sendCleared_frame]
@[simp] theorem sendCleared_loops (c : CtxId) (cause : Cause) : (s.sendCleared c cause).loops = s.loops := by rw [sendCleared_frame]
@[simp] theorem sendCleared_rings (c : CtxId) (cause : Cause) : (s.sendCleared c cause).rings = s.rings := by rw [sendCleared_frame]
@[simp] theorem sendCleared_feeds (c : CtxId) (cause : Cause) : (s.sendCleared c cause).feeds = s.feeds := by rw [sendCleared_frame]
@[simp] theorem sendCleared_supply (c : CtxId) (cause : Cause) : (s.sendCleared c cause).supply = s.supply := by rw [sendCleared_frame]
@[simp] theorem sendCleared_directory (c : CtxId) (cause : Cause) : (s.sendCleared c cause).directory = s.directory := by rw [sendCleared_frame]
@[simp] theorem sendCleared_contexts (c : CtxId) (cause : Cause) : (s.sendCleared c cause).contexts = s.contexts := by rw [sendCleared_frame]
@[simp] theorem sendCleared_waiting (c : CtxId) (cause : Cause) : (s.sendCleared c cause).waiting = s.waiting := by rw [sendCleared_frame]
@[simp] theorem sendCleared_entryCount (c : CtxId) (cause : Cause) : (s.sendCleared c cause).entryCount = s.entryCount := by rw [sendCleared_frame]
@[simp] theorem sendCleared_routes (c : CtxId) (cause : Cause) : (s.sendCleared c cause).routes = s.routes := by rw [sendCleared_frame]
@[simp] theorem sendCleared_plan (c : CtxId) (cause : Cause) : (s.sendCleared c cause).plan = s.plan := by rw [sendCleared_frame]
@[simp] theorem sendCleared_paths (c : CtxId) (cause : Cause) : (s.sendCleared c cause).paths = s.paths := by rw [sendCleared_frame]
@[simp] theorem sendCleared_samples (c : CtxId) (cause : Cause) : (s.sendCleared c cause).samples = s.samples := by rw [sendCleared_frame]
@[simp] theorem sendCleared_segments (c : CtxId) (cause : Cause) : (s.sendCleared c cause).segments = s.segments := by rw [sendCleared_frame]
@[simp] theorem sendCleared_players (c : CtxId) (cause : Cause) : (s.sendCleared c cause).players = s.players := by rw [sendCleared_frame]
@[simp] theorem sendCleared_serviceA (c : CtxId) (cause : Cause) : (s.sendCleared c cause).serviceA = s.serviceA := by rw [sendCleared_frame]
@[simp] theorem sendCleared_serviceB (c : CtxId) (cause : Cause) : (s.sendCleared c cause).serviceB = s.serviceB := by rw [sendCleared_frame]
@[simp] theorem sendCleared_home (c : CtxId) (cause : Cause) : (s.sendCleared c cause).home = s.home := by rw [sendCleared_frame]
@[simp] theorem sendCleared_settings (c : CtxId) (cause : Cause) : (s.sendCleared c cause).settings = s.settings := by rw [sendCleared_frame]
@[simp] theorem sendCleared_sectionFault (c : CtxId) (cause : Cause) : (s.sendCleared c cause).sectionFault = s.sectionFault := by rw [sendCleared_frame]
@[simp] theorem sendCleared_trunkFaultA (c : CtxId) (cause : Cause) : (s.sendCleared c cause).trunkFaultA = s.trunkFaultA := by rw [sendCleared_frame]
@[simp] theorem sendCleared_trunkFaultB (c : CtxId) (cause : Cause) : (s.sendCleared c cause).trunkFaultB = s.trunkFaultB := by rw [sendCleared_frame]
@[simp] theorem sendCleared_loopFaults (c : CtxId) (cause : Cause) : (s.sendCleared c cause).loopFaults = s.loopFaults := by rw [sendCleared_frame]
@[simp] theorem sendCleared_postFaults (c : CtxId) (cause : Cause) : (s.sendCleared c cause).postFaults = s.postFaults := by rw [sendCleared_frame]
@[simp] theorem sendCleared_testResults (c : CtxId) (cause : Cause) : (s.sendCleared c cause).testResults = s.testResults := by rw [sendCleared_frame]
@[simp] theorem sendCleared_marks (c : CtxId) (cause : Cause) : (s.sendCleared c cause).marks = s.marks := by rw [sendCleared_frame]
@[simp] theorem sendCleared_abandons (c : CtxId) (cause : Cause) : (s.sendCleared c cause).abandons = s.abandons := by rw [sendCleared_frame]
@[simp] theorem sendCleared_abandonPosts (c : CtxId) (cause : Cause) : (s.sendCleared c cause).abandonPosts = s.abandonPosts := by rw [sendCleared_frame]
@[simp] theorem sendCleared_mask (c : CtxId) (cause : Cause) : (s.sendCleared c cause).mask = s.mask := by rw [sendCleared_frame]
@[simp] theorem sendCleared_loop (c : CtxId) (cause : Cause) (j : LoopId) : (s.sendCleared c cause).loop j = s.loop j := by simp [loop]
@[simp] theorem sendCleared_ring (c : CtxId) (cause : Cause) (j : LoopId) : (s.sendCleared c cause).ring j = s.ring j := by simp [ring]
@[simp] theorem sendCleared_feed (c : CtxId) (cause : Cause) (j : LoopId) : (s.sendCleared c cause).feed j = s.feed j := by simp [feed]
@[simp] theorem sendCleared_record (c : CtxId) (cause : Cause) (j : SlotId) : (s.sendCleared c cause).record j = s.record j := by simp [record]
@[simp] theorem sendCleared_ctx (c : CtxId) (cause : Cause) (j : CtxId) : (s.sendCleared c cause).ctx j = s.ctx j := by simp [ctx]
@[simp] theorem sendCleared_path (c : CtxId) (cause : Cause) (j : CtxId) : (s.sendCleared c cause).path j = s.path j := by simp [path]
@[simp] theorem sendCleared_player (c : CtxId) (cause : Cause) (j : CtxId) : (s.sendCleared c cause).player j = s.player j := by simp [player]
@[simp] theorem sendCleared_segment (c : CtxId) (cause : Cause) (j : SegId) : (s.sendCleared c cause).segment j = s.segment j := by simp [segment]
@[simp] theorem sendCleared_service (c : CtxId) (cause : Cause) (j : Trunk) : (s.sendCleared c cause).service j = s.service j := by cases j <;> simp [service]
@[simp] theorem sendCleared_param (c : CtxId) (cause : Cause) (j : Fin 25) : (s.sendCleared c cause).param j = s.param j := by simp [param]

/-! ### sendIfCarried -/

theorem sendIfCarried_frame (c : CtxId) (cause : Cause) : s.sendIfCarried c cause = { s with
    trunkA := (s.sendIfCarried c cause).trunkA
    trunkB := (s.sendIfCarried c cause).trunkB
    handed := (s.sendIfCarried c cause).handed } := by
  apply State.ext <;> first | with_reducible rfl | (unfold sendIfCarried; (repeat' split) <;> simp)
@[simp] theorem sendIfCarried_pending (c : CtxId) (cause : Cause) : (s.sendIfCarried c cause).pending = s.pending := by rw [sendIfCarried_frame]
@[simp] theorem sendIfCarried_loops (c : CtxId) (cause : Cause) : (s.sendIfCarried c cause).loops = s.loops := by rw [sendIfCarried_frame]
@[simp] theorem sendIfCarried_rings (c : CtxId) (cause : Cause) : (s.sendIfCarried c cause).rings = s.rings := by rw [sendIfCarried_frame]
@[simp] theorem sendIfCarried_feeds (c : CtxId) (cause : Cause) : (s.sendIfCarried c cause).feeds = s.feeds := by rw [sendIfCarried_frame]
@[simp] theorem sendIfCarried_supply (c : CtxId) (cause : Cause) : (s.sendIfCarried c cause).supply = s.supply := by rw [sendIfCarried_frame]
@[simp] theorem sendIfCarried_directory (c : CtxId) (cause : Cause) : (s.sendIfCarried c cause).directory = s.directory := by rw [sendIfCarried_frame]
@[simp] theorem sendIfCarried_contexts (c : CtxId) (cause : Cause) : (s.sendIfCarried c cause).contexts = s.contexts := by rw [sendIfCarried_frame]
@[simp] theorem sendIfCarried_waiting (c : CtxId) (cause : Cause) : (s.sendIfCarried c cause).waiting = s.waiting := by rw [sendIfCarried_frame]
@[simp] theorem sendIfCarried_entryCount (c : CtxId) (cause : Cause) : (s.sendIfCarried c cause).entryCount = s.entryCount := by rw [sendIfCarried_frame]
@[simp] theorem sendIfCarried_routes (c : CtxId) (cause : Cause) : (s.sendIfCarried c cause).routes = s.routes := by rw [sendIfCarried_frame]
@[simp] theorem sendIfCarried_plan (c : CtxId) (cause : Cause) : (s.sendIfCarried c cause).plan = s.plan := by rw [sendIfCarried_frame]
@[simp] theorem sendIfCarried_paths (c : CtxId) (cause : Cause) : (s.sendIfCarried c cause).paths = s.paths := by rw [sendIfCarried_frame]
@[simp] theorem sendIfCarried_samples (c : CtxId) (cause : Cause) : (s.sendIfCarried c cause).samples = s.samples := by rw [sendIfCarried_frame]
@[simp] theorem sendIfCarried_segments (c : CtxId) (cause : Cause) : (s.sendIfCarried c cause).segments = s.segments := by rw [sendIfCarried_frame]
@[simp] theorem sendIfCarried_players (c : CtxId) (cause : Cause) : (s.sendIfCarried c cause).players = s.players := by rw [sendIfCarried_frame]
@[simp] theorem sendIfCarried_serviceA (c : CtxId) (cause : Cause) : (s.sendIfCarried c cause).serviceA = s.serviceA := by rw [sendIfCarried_frame]
@[simp] theorem sendIfCarried_serviceB (c : CtxId) (cause : Cause) : (s.sendIfCarried c cause).serviceB = s.serviceB := by rw [sendIfCarried_frame]
@[simp] theorem sendIfCarried_home (c : CtxId) (cause : Cause) : (s.sendIfCarried c cause).home = s.home := by rw [sendIfCarried_frame]
@[simp] theorem sendIfCarried_settings (c : CtxId) (cause : Cause) : (s.sendIfCarried c cause).settings = s.settings := by rw [sendIfCarried_frame]
@[simp] theorem sendIfCarried_sectionFault (c : CtxId) (cause : Cause) : (s.sendIfCarried c cause).sectionFault = s.sectionFault := by rw [sendIfCarried_frame]
@[simp] theorem sendIfCarried_trunkFaultA (c : CtxId) (cause : Cause) : (s.sendIfCarried c cause).trunkFaultA = s.trunkFaultA := by rw [sendIfCarried_frame]
@[simp] theorem sendIfCarried_trunkFaultB (c : CtxId) (cause : Cause) : (s.sendIfCarried c cause).trunkFaultB = s.trunkFaultB := by rw [sendIfCarried_frame]
@[simp] theorem sendIfCarried_loopFaults (c : CtxId) (cause : Cause) : (s.sendIfCarried c cause).loopFaults = s.loopFaults := by rw [sendIfCarried_frame]
@[simp] theorem sendIfCarried_postFaults (c : CtxId) (cause : Cause) : (s.sendIfCarried c cause).postFaults = s.postFaults := by rw [sendIfCarried_frame]
@[simp] theorem sendIfCarried_testResults (c : CtxId) (cause : Cause) : (s.sendIfCarried c cause).testResults = s.testResults := by rw [sendIfCarried_frame]
@[simp] theorem sendIfCarried_marks (c : CtxId) (cause : Cause) : (s.sendIfCarried c cause).marks = s.marks := by rw [sendIfCarried_frame]
@[simp] theorem sendIfCarried_abandons (c : CtxId) (cause : Cause) : (s.sendIfCarried c cause).abandons = s.abandons := by rw [sendIfCarried_frame]
@[simp] theorem sendIfCarried_abandonPosts (c : CtxId) (cause : Cause) : (s.sendIfCarried c cause).abandonPosts = s.abandonPosts := by rw [sendIfCarried_frame]
@[simp] theorem sendIfCarried_mask (c : CtxId) (cause : Cause) : (s.sendIfCarried c cause).mask = s.mask := by rw [sendIfCarried_frame]
@[simp] theorem sendIfCarried_loop (c : CtxId) (cause : Cause) (j : LoopId) : (s.sendIfCarried c cause).loop j = s.loop j := by simp [loop]
@[simp] theorem sendIfCarried_ring (c : CtxId) (cause : Cause) (j : LoopId) : (s.sendIfCarried c cause).ring j = s.ring j := by simp [ring]
@[simp] theorem sendIfCarried_feed (c : CtxId) (cause : Cause) (j : LoopId) : (s.sendIfCarried c cause).feed j = s.feed j := by simp [feed]
@[simp] theorem sendIfCarried_record (c : CtxId) (cause : Cause) (j : SlotId) : (s.sendIfCarried c cause).record j = s.record j := by simp [record]
@[simp] theorem sendIfCarried_ctx (c : CtxId) (cause : Cause) (j : CtxId) : (s.sendIfCarried c cause).ctx j = s.ctx j := by simp [ctx]
@[simp] theorem sendIfCarried_path (c : CtxId) (cause : Cause) (j : CtxId) : (s.sendIfCarried c cause).path j = s.path j := by simp [path]
@[simp] theorem sendIfCarried_player (c : CtxId) (cause : Cause) (j : CtxId) : (s.sendIfCarried c cause).player j = s.player j := by simp [player]
@[simp] theorem sendIfCarried_segment (c : CtxId) (cause : Cause) (j : SegId) : (s.sendIfCarried c cause).segment j = s.segment j := by simp [segment]
@[simp] theorem sendIfCarried_service (c : CtxId) (cause : Cause) (j : Trunk) : (s.sendIfCarried c cause).service j = s.service j := by cases j <;> simp [service]
@[simp] theorem sendIfCarried_param (c : CtxId) (cause : Cause) (j : Fin 25) : (s.sendIfCarried c cause).param j = s.param j := by simp [param]

/-! ### clearFields -/

theorem clearFields_frame (c : CtxId) (cause : Cause) : s.clearFields c cause = { s with
    contexts := (s.clearFields c cause).contexts } := by
  apply State.ext <;> first | with_reducible rfl | (simp [clearFields])
@[simp] theorem clearFields_pending (c : CtxId) (cause : Cause) : (s.clearFields c cause).pending = s.pending := by rw [clearFields_frame]
@[simp] theorem clearFields_handed (c : CtxId) (cause : Cause) : (s.clearFields c cause).handed = s.handed := by rw [clearFields_frame]
@[simp] theorem clearFields_loops (c : CtxId) (cause : Cause) : (s.clearFields c cause).loops = s.loops := by rw [clearFields_frame]
@[simp] theorem clearFields_rings (c : CtxId) (cause : Cause) : (s.clearFields c cause).rings = s.rings := by rw [clearFields_frame]
@[simp] theorem clearFields_feeds (c : CtxId) (cause : Cause) : (s.clearFields c cause).feeds = s.feeds := by rw [clearFields_frame]
@[simp] theorem clearFields_supply (c : CtxId) (cause : Cause) : (s.clearFields c cause).supply = s.supply := by rw [clearFields_frame]
@[simp] theorem clearFields_directory (c : CtxId) (cause : Cause) : (s.clearFields c cause).directory = s.directory := by rw [clearFields_frame]
@[simp] theorem clearFields_waiting (c : CtxId) (cause : Cause) : (s.clearFields c cause).waiting = s.waiting := by rw [clearFields_frame]
@[simp] theorem clearFields_entryCount (c : CtxId) (cause : Cause) : (s.clearFields c cause).entryCount = s.entryCount := by rw [clearFields_frame]
@[simp] theorem clearFields_routes (c : CtxId) (cause : Cause) : (s.clearFields c cause).routes = s.routes := by rw [clearFields_frame]
@[simp] theorem clearFields_plan (c : CtxId) (cause : Cause) : (s.clearFields c cause).plan = s.plan := by rw [clearFields_frame]
@[simp] theorem clearFields_trunkA (c : CtxId) (cause : Cause) : (s.clearFields c cause).trunkA = s.trunkA := by rw [clearFields_frame]
@[simp] theorem clearFields_trunkB (c : CtxId) (cause : Cause) : (s.clearFields c cause).trunkB = s.trunkB := by rw [clearFields_frame]
@[simp] theorem clearFields_paths (c : CtxId) (cause : Cause) : (s.clearFields c cause).paths = s.paths := by rw [clearFields_frame]
@[simp] theorem clearFields_samples (c : CtxId) (cause : Cause) : (s.clearFields c cause).samples = s.samples := by rw [clearFields_frame]
@[simp] theorem clearFields_segments (c : CtxId) (cause : Cause) : (s.clearFields c cause).segments = s.segments := by rw [clearFields_frame]
@[simp] theorem clearFields_players (c : CtxId) (cause : Cause) : (s.clearFields c cause).players = s.players := by rw [clearFields_frame]
@[simp] theorem clearFields_serviceA (c : CtxId) (cause : Cause) : (s.clearFields c cause).serviceA = s.serviceA := by rw [clearFields_frame]
@[simp] theorem clearFields_serviceB (c : CtxId) (cause : Cause) : (s.clearFields c cause).serviceB = s.serviceB := by rw [clearFields_frame]
@[simp] theorem clearFields_home (c : CtxId) (cause : Cause) : (s.clearFields c cause).home = s.home := by rw [clearFields_frame]
@[simp] theorem clearFields_settings (c : CtxId) (cause : Cause) : (s.clearFields c cause).settings = s.settings := by rw [clearFields_frame]
@[simp] theorem clearFields_sectionFault (c : CtxId) (cause : Cause) : (s.clearFields c cause).sectionFault = s.sectionFault := by rw [clearFields_frame]
@[simp] theorem clearFields_trunkFaultA (c : CtxId) (cause : Cause) : (s.clearFields c cause).trunkFaultA = s.trunkFaultA := by rw [clearFields_frame]
@[simp] theorem clearFields_trunkFaultB (c : CtxId) (cause : Cause) : (s.clearFields c cause).trunkFaultB = s.trunkFaultB := by rw [clearFields_frame]
@[simp] theorem clearFields_loopFaults (c : CtxId) (cause : Cause) : (s.clearFields c cause).loopFaults = s.loopFaults := by rw [clearFields_frame]
@[simp] theorem clearFields_postFaults (c : CtxId) (cause : Cause) : (s.clearFields c cause).postFaults = s.postFaults := by rw [clearFields_frame]
@[simp] theorem clearFields_testResults (c : CtxId) (cause : Cause) : (s.clearFields c cause).testResults = s.testResults := by rw [clearFields_frame]
@[simp] theorem clearFields_marks (c : CtxId) (cause : Cause) : (s.clearFields c cause).marks = s.marks := by rw [clearFields_frame]
@[simp] theorem clearFields_abandons (c : CtxId) (cause : Cause) : (s.clearFields c cause).abandons = s.abandons := by rw [clearFields_frame]
@[simp] theorem clearFields_abandonPosts (c : CtxId) (cause : Cause) : (s.clearFields c cause).abandonPosts = s.abandonPosts := by rw [clearFields_frame]
@[simp] theorem clearFields_mask (c : CtxId) (cause : Cause) : (s.clearFields c cause).mask = s.mask := by rw [clearFields_frame]
@[simp] theorem clearFields_loop (c : CtxId) (cause : Cause) (j : LoopId) : (s.clearFields c cause).loop j = s.loop j := by simp [loop]
@[simp] theorem clearFields_ring (c : CtxId) (cause : Cause) (j : LoopId) : (s.clearFields c cause).ring j = s.ring j := by simp [ring]
@[simp] theorem clearFields_feed (c : CtxId) (cause : Cause) (j : LoopId) : (s.clearFields c cause).feed j = s.feed j := by simp [feed]
@[simp] theorem clearFields_record (c : CtxId) (cause : Cause) (j : SlotId) : (s.clearFields c cause).record j = s.record j := by simp [record]
@[simp] theorem clearFields_trunk (c : CtxId) (cause : Cause) (j : Trunk) : (s.clearFields c cause).trunk j = s.trunk j := by cases j <;> simp [trunk]
@[simp] theorem clearFields_path (c : CtxId) (cause : Cause) (j : CtxId) : (s.clearFields c cause).path j = s.path j := by simp [path]
@[simp] theorem clearFields_player (c : CtxId) (cause : Cause) (j : CtxId) : (s.clearFields c cause).player j = s.player j := by simp [player]
@[simp] theorem clearFields_segment (c : CtxId) (cause : Cause) (j : SegId) : (s.clearFields c cause).segment j = s.segment j := by simp [segment]
@[simp] theorem clearFields_service (c : CtxId) (cause : Cause) (j : Trunk) : (s.clearFields c cause).service j = s.service j := by cases j <;> simp [service]
@[simp] theorem clearFields_param (c : CtxId) (cause : Cause) (j : Fin 25) : (s.clearFields c cause).param j = s.param j := by simp [param]

/-! ### startPlayer -/

theorem startPlayer_frame (c : CtxId) (prog : Programme) : s.startPlayer c prog = { s with
    players := (s.startPlayer c prog).players } := by
  apply State.ext <;> first | with_reducible rfl | (simp [startPlayer])
@[simp] theorem startPlayer_pending (c : CtxId) (prog : Programme) : (s.startPlayer c prog).pending = s.pending := by rw [startPlayer_frame]
@[simp] theorem startPlayer_handed (c : CtxId) (prog : Programme) : (s.startPlayer c prog).handed = s.handed := by rw [startPlayer_frame]
@[simp] theorem startPlayer_loops (c : CtxId) (prog : Programme) : (s.startPlayer c prog).loops = s.loops := by rw [startPlayer_frame]
@[simp] theorem startPlayer_rings (c : CtxId) (prog : Programme) : (s.startPlayer c prog).rings = s.rings := by rw [startPlayer_frame]
@[simp] theorem startPlayer_feeds (c : CtxId) (prog : Programme) : (s.startPlayer c prog).feeds = s.feeds := by rw [startPlayer_frame]
@[simp] theorem startPlayer_supply (c : CtxId) (prog : Programme) : (s.startPlayer c prog).supply = s.supply := by rw [startPlayer_frame]
@[simp] theorem startPlayer_directory (c : CtxId) (prog : Programme) : (s.startPlayer c prog).directory = s.directory := by rw [startPlayer_frame]
@[simp] theorem startPlayer_contexts (c : CtxId) (prog : Programme) : (s.startPlayer c prog).contexts = s.contexts := by rw [startPlayer_frame]
@[simp] theorem startPlayer_waiting (c : CtxId) (prog : Programme) : (s.startPlayer c prog).waiting = s.waiting := by rw [startPlayer_frame]
@[simp] theorem startPlayer_entryCount (c : CtxId) (prog : Programme) : (s.startPlayer c prog).entryCount = s.entryCount := by rw [startPlayer_frame]
@[simp] theorem startPlayer_routes (c : CtxId) (prog : Programme) : (s.startPlayer c prog).routes = s.routes := by rw [startPlayer_frame]
@[simp] theorem startPlayer_plan (c : CtxId) (prog : Programme) : (s.startPlayer c prog).plan = s.plan := by rw [startPlayer_frame]
@[simp] theorem startPlayer_trunkA (c : CtxId) (prog : Programme) : (s.startPlayer c prog).trunkA = s.trunkA := by rw [startPlayer_frame]
@[simp] theorem startPlayer_trunkB (c : CtxId) (prog : Programme) : (s.startPlayer c prog).trunkB = s.trunkB := by rw [startPlayer_frame]
@[simp] theorem startPlayer_paths (c : CtxId) (prog : Programme) : (s.startPlayer c prog).paths = s.paths := by rw [startPlayer_frame]
@[simp] theorem startPlayer_samples (c : CtxId) (prog : Programme) : (s.startPlayer c prog).samples = s.samples := by rw [startPlayer_frame]
@[simp] theorem startPlayer_segments (c : CtxId) (prog : Programme) : (s.startPlayer c prog).segments = s.segments := by rw [startPlayer_frame]
@[simp] theorem startPlayer_serviceA (c : CtxId) (prog : Programme) : (s.startPlayer c prog).serviceA = s.serviceA := by rw [startPlayer_frame]
@[simp] theorem startPlayer_serviceB (c : CtxId) (prog : Programme) : (s.startPlayer c prog).serviceB = s.serviceB := by rw [startPlayer_frame]
@[simp] theorem startPlayer_home (c : CtxId) (prog : Programme) : (s.startPlayer c prog).home = s.home := by rw [startPlayer_frame]
@[simp] theorem startPlayer_settings (c : CtxId) (prog : Programme) : (s.startPlayer c prog).settings = s.settings := by rw [startPlayer_frame]
@[simp] theorem startPlayer_sectionFault (c : CtxId) (prog : Programme) : (s.startPlayer c prog).sectionFault = s.sectionFault := by rw [startPlayer_frame]
@[simp] theorem startPlayer_trunkFaultA (c : CtxId) (prog : Programme) : (s.startPlayer c prog).trunkFaultA = s.trunkFaultA := by rw [startPlayer_frame]
@[simp] theorem startPlayer_trunkFaultB (c : CtxId) (prog : Programme) : (s.startPlayer c prog).trunkFaultB = s.trunkFaultB := by rw [startPlayer_frame]
@[simp] theorem startPlayer_loopFaults (c : CtxId) (prog : Programme) : (s.startPlayer c prog).loopFaults = s.loopFaults := by rw [startPlayer_frame]
@[simp] theorem startPlayer_postFaults (c : CtxId) (prog : Programme) : (s.startPlayer c prog).postFaults = s.postFaults := by rw [startPlayer_frame]
@[simp] theorem startPlayer_testResults (c : CtxId) (prog : Programme) : (s.startPlayer c prog).testResults = s.testResults := by rw [startPlayer_frame]
@[simp] theorem startPlayer_marks (c : CtxId) (prog : Programme) : (s.startPlayer c prog).marks = s.marks := by rw [startPlayer_frame]
@[simp] theorem startPlayer_abandons (c : CtxId) (prog : Programme) : (s.startPlayer c prog).abandons = s.abandons := by rw [startPlayer_frame]
@[simp] theorem startPlayer_abandonPosts (c : CtxId) (prog : Programme) : (s.startPlayer c prog).abandonPosts = s.abandonPosts := by rw [startPlayer_frame]
@[simp] theorem startPlayer_mask (c : CtxId) (prog : Programme) : (s.startPlayer c prog).mask = s.mask := by rw [startPlayer_frame]
@[simp] theorem startPlayer_loop (c : CtxId) (prog : Programme) (j : LoopId) : (s.startPlayer c prog).loop j = s.loop j := by simp [loop]
@[simp] theorem startPlayer_ring (c : CtxId) (prog : Programme) (j : LoopId) : (s.startPlayer c prog).ring j = s.ring j := by simp [ring]
@[simp] theorem startPlayer_feed (c : CtxId) (prog : Programme) (j : LoopId) : (s.startPlayer c prog).feed j = s.feed j := by simp [feed]
@[simp] theorem startPlayer_record (c : CtxId) (prog : Programme) (j : SlotId) : (s.startPlayer c prog).record j = s.record j := by simp [record]
@[simp] theorem startPlayer_ctx (c : CtxId) (prog : Programme) (j : CtxId) : (s.startPlayer c prog).ctx j = s.ctx j := by simp [ctx]
@[simp] theorem startPlayer_trunk (c : CtxId) (prog : Programme) (j : Trunk) : (s.startPlayer c prog).trunk j = s.trunk j := by cases j <;> simp [trunk]
@[simp] theorem startPlayer_path (c : CtxId) (prog : Programme) (j : CtxId) : (s.startPlayer c prog).path j = s.path j := by simp [path]
@[simp] theorem startPlayer_segment (c : CtxId) (prog : Programme) (j : SegId) : (s.startPlayer c prog).segment j = s.segment j := by simp [segment]
@[simp] theorem startPlayer_service (c : CtxId) (prog : Programme) (j : Trunk) : (s.startPlayer c prog).service j = s.service j := by cases j <;> simp [service]
@[simp] theorem startPlayer_param (c : CtxId) (prog : Programme) (j : Fin 25) : (s.startPlayer c prog).param j = s.param j := by simp [param]

/-! ### stopPlayer -/

theorem stopPlayer_frame (c : CtxId) : s.stopPlayer c = { s with
    players := (s.stopPlayer c).players } := by
  apply State.ext <;> first | with_reducible rfl | (simp [stopPlayer])
@[simp] theorem stopPlayer_pending (c : CtxId) : (s.stopPlayer c).pending = s.pending := by rw [stopPlayer_frame]
@[simp] theorem stopPlayer_handed (c : CtxId) : (s.stopPlayer c).handed = s.handed := by rw [stopPlayer_frame]
@[simp] theorem stopPlayer_loops (c : CtxId) : (s.stopPlayer c).loops = s.loops := by rw [stopPlayer_frame]
@[simp] theorem stopPlayer_rings (c : CtxId) : (s.stopPlayer c).rings = s.rings := by rw [stopPlayer_frame]
@[simp] theorem stopPlayer_feeds (c : CtxId) : (s.stopPlayer c).feeds = s.feeds := by rw [stopPlayer_frame]
@[simp] theorem stopPlayer_supply (c : CtxId) : (s.stopPlayer c).supply = s.supply := by rw [stopPlayer_frame]
@[simp] theorem stopPlayer_directory (c : CtxId) : (s.stopPlayer c).directory = s.directory := by rw [stopPlayer_frame]
@[simp] theorem stopPlayer_contexts (c : CtxId) : (s.stopPlayer c).contexts = s.contexts := by rw [stopPlayer_frame]
@[simp] theorem stopPlayer_waiting (c : CtxId) : (s.stopPlayer c).waiting = s.waiting := by rw [stopPlayer_frame]
@[simp] theorem stopPlayer_entryCount (c : CtxId) : (s.stopPlayer c).entryCount = s.entryCount := by rw [stopPlayer_frame]
@[simp] theorem stopPlayer_routes (c : CtxId) : (s.stopPlayer c).routes = s.routes := by rw [stopPlayer_frame]
@[simp] theorem stopPlayer_plan (c : CtxId) : (s.stopPlayer c).plan = s.plan := by rw [stopPlayer_frame]
@[simp] theorem stopPlayer_trunkA (c : CtxId) : (s.stopPlayer c).trunkA = s.trunkA := by rw [stopPlayer_frame]
@[simp] theorem stopPlayer_trunkB (c : CtxId) : (s.stopPlayer c).trunkB = s.trunkB := by rw [stopPlayer_frame]
@[simp] theorem stopPlayer_paths (c : CtxId) : (s.stopPlayer c).paths = s.paths := by rw [stopPlayer_frame]
@[simp] theorem stopPlayer_samples (c : CtxId) : (s.stopPlayer c).samples = s.samples := by rw [stopPlayer_frame]
@[simp] theorem stopPlayer_segments (c : CtxId) : (s.stopPlayer c).segments = s.segments := by rw [stopPlayer_frame]
@[simp] theorem stopPlayer_serviceA (c : CtxId) : (s.stopPlayer c).serviceA = s.serviceA := by rw [stopPlayer_frame]
@[simp] theorem stopPlayer_serviceB (c : CtxId) : (s.stopPlayer c).serviceB = s.serviceB := by rw [stopPlayer_frame]
@[simp] theorem stopPlayer_home (c : CtxId) : (s.stopPlayer c).home = s.home := by rw [stopPlayer_frame]
@[simp] theorem stopPlayer_settings (c : CtxId) : (s.stopPlayer c).settings = s.settings := by rw [stopPlayer_frame]
@[simp] theorem stopPlayer_sectionFault (c : CtxId) : (s.stopPlayer c).sectionFault = s.sectionFault := by rw [stopPlayer_frame]
@[simp] theorem stopPlayer_trunkFaultA (c : CtxId) : (s.stopPlayer c).trunkFaultA = s.trunkFaultA := by rw [stopPlayer_frame]
@[simp] theorem stopPlayer_trunkFaultB (c : CtxId) : (s.stopPlayer c).trunkFaultB = s.trunkFaultB := by rw [stopPlayer_frame]
@[simp] theorem stopPlayer_loopFaults (c : CtxId) : (s.stopPlayer c).loopFaults = s.loopFaults := by rw [stopPlayer_frame]
@[simp] theorem stopPlayer_postFaults (c : CtxId) : (s.stopPlayer c).postFaults = s.postFaults := by rw [stopPlayer_frame]
@[simp] theorem stopPlayer_testResults (c : CtxId) : (s.stopPlayer c).testResults = s.testResults := by rw [stopPlayer_frame]
@[simp] theorem stopPlayer_marks (c : CtxId) : (s.stopPlayer c).marks = s.marks := by rw [stopPlayer_frame]
@[simp] theorem stopPlayer_abandons (c : CtxId) : (s.stopPlayer c).abandons = s.abandons := by rw [stopPlayer_frame]
@[simp] theorem stopPlayer_abandonPosts (c : CtxId) : (s.stopPlayer c).abandonPosts = s.abandonPosts := by rw [stopPlayer_frame]
@[simp] theorem stopPlayer_mask (c : CtxId) : (s.stopPlayer c).mask = s.mask := by rw [stopPlayer_frame]
@[simp] theorem stopPlayer_loop (c : CtxId) (j : LoopId) : (s.stopPlayer c).loop j = s.loop j := by simp [loop]
@[simp] theorem stopPlayer_ring (c : CtxId) (j : LoopId) : (s.stopPlayer c).ring j = s.ring j := by simp [ring]
@[simp] theorem stopPlayer_feed (c : CtxId) (j : LoopId) : (s.stopPlayer c).feed j = s.feed j := by simp [feed]
@[simp] theorem stopPlayer_record (c : CtxId) (j : SlotId) : (s.stopPlayer c).record j = s.record j := by simp [record]
@[simp] theorem stopPlayer_ctx (c : CtxId) (j : CtxId) : (s.stopPlayer c).ctx j = s.ctx j := by simp [ctx]
@[simp] theorem stopPlayer_trunk (c : CtxId) (j : Trunk) : (s.stopPlayer c).trunk j = s.trunk j := by cases j <;> simp [trunk]
@[simp] theorem stopPlayer_path (c : CtxId) (j : CtxId) : (s.stopPlayer c).path j = s.path j := by simp [path]
@[simp] theorem stopPlayer_segment (c : CtxId) (j : SegId) : (s.stopPlayer c).segment j = s.segment j := by simp [segment]
@[simp] theorem stopPlayer_service (c : CtxId) (j : Trunk) : (s.stopPlayer c).service j = s.service j := by cases j <;> simp [service]
@[simp] theorem stopPlayer_param (c : CtxId) (j : Fin 25) : (s.stopPlayer c).param j = s.param j := by simp [param]

/-! ### stopCall -/

theorem stopCall_frame (c : CtxId) (cause : Cause) : s.stopCall c cause = { s with
    contexts := (s.stopCall c cause).contexts
    waiting := (s.stopCall c cause).waiting
    players := (s.stopCall c cause).players
    trunkA := (s.stopCall c cause).trunkA
    trunkB := (s.stopCall c cause).trunkB } := by
  apply State.ext <;> first | with_reducible rfl | (simp [stopCall])
@[simp] theorem stopCall_pending (c : CtxId) (cause : Cause) : (s.stopCall c cause).pending = s.pending := by rw [stopCall_frame]
@[simp] theorem stopCall_handed (c : CtxId) (cause : Cause) : (s.stopCall c cause).handed = s.handed := by rw [stopCall_frame]
@[simp] theorem stopCall_loops (c : CtxId) (cause : Cause) : (s.stopCall c cause).loops = s.loops := by rw [stopCall_frame]
@[simp] theorem stopCall_rings (c : CtxId) (cause : Cause) : (s.stopCall c cause).rings = s.rings := by rw [stopCall_frame]
@[simp] theorem stopCall_feeds (c : CtxId) (cause : Cause) : (s.stopCall c cause).feeds = s.feeds := by rw [stopCall_frame]
@[simp] theorem stopCall_supply (c : CtxId) (cause : Cause) : (s.stopCall c cause).supply = s.supply := by rw [stopCall_frame]
@[simp] theorem stopCall_directory (c : CtxId) (cause : Cause) : (s.stopCall c cause).directory = s.directory := by rw [stopCall_frame]
@[simp] theorem stopCall_entryCount (c : CtxId) (cause : Cause) : (s.stopCall c cause).entryCount = s.entryCount := by rw [stopCall_frame]
@[simp] theorem stopCall_routes (c : CtxId) (cause : Cause) : (s.stopCall c cause).routes = s.routes := by rw [stopCall_frame]
@[simp] theorem stopCall_plan (c : CtxId) (cause : Cause) : (s.stopCall c cause).plan = s.plan := by rw [stopCall_frame]
@[simp] theorem stopCall_paths (c : CtxId) (cause : Cause) : (s.stopCall c cause).paths = s.paths := by rw [stopCall_frame]
@[simp] theorem stopCall_samples (c : CtxId) (cause : Cause) : (s.stopCall c cause).samples = s.samples := by rw [stopCall_frame]
@[simp] theorem stopCall_segments (c : CtxId) (cause : Cause) : (s.stopCall c cause).segments = s.segments := by rw [stopCall_frame]
@[simp] theorem stopCall_serviceA (c : CtxId) (cause : Cause) : (s.stopCall c cause).serviceA = s.serviceA := by rw [stopCall_frame]
@[simp] theorem stopCall_serviceB (c : CtxId) (cause : Cause) : (s.stopCall c cause).serviceB = s.serviceB := by rw [stopCall_frame]
@[simp] theorem stopCall_home (c : CtxId) (cause : Cause) : (s.stopCall c cause).home = s.home := by rw [stopCall_frame]
@[simp] theorem stopCall_settings (c : CtxId) (cause : Cause) : (s.stopCall c cause).settings = s.settings := by rw [stopCall_frame]
@[simp] theorem stopCall_sectionFault (c : CtxId) (cause : Cause) : (s.stopCall c cause).sectionFault = s.sectionFault := by rw [stopCall_frame]
@[simp] theorem stopCall_trunkFaultA (c : CtxId) (cause : Cause) : (s.stopCall c cause).trunkFaultA = s.trunkFaultA := by rw [stopCall_frame]
@[simp] theorem stopCall_trunkFaultB (c : CtxId) (cause : Cause) : (s.stopCall c cause).trunkFaultB = s.trunkFaultB := by rw [stopCall_frame]
@[simp] theorem stopCall_loopFaults (c : CtxId) (cause : Cause) : (s.stopCall c cause).loopFaults = s.loopFaults := by rw [stopCall_frame]
@[simp] theorem stopCall_postFaults (c : CtxId) (cause : Cause) : (s.stopCall c cause).postFaults = s.postFaults := by rw [stopCall_frame]
@[simp] theorem stopCall_testResults (c : CtxId) (cause : Cause) : (s.stopCall c cause).testResults = s.testResults := by rw [stopCall_frame]
@[simp] theorem stopCall_marks (c : CtxId) (cause : Cause) : (s.stopCall c cause).marks = s.marks := by rw [stopCall_frame]
@[simp] theorem stopCall_abandons (c : CtxId) (cause : Cause) : (s.stopCall c cause).abandons = s.abandons := by rw [stopCall_frame]
@[simp] theorem stopCall_abandonPosts (c : CtxId) (cause : Cause) : (s.stopCall c cause).abandonPosts = s.abandonPosts := by rw [stopCall_frame]
@[simp] theorem stopCall_mask (c : CtxId) (cause : Cause) : (s.stopCall c cause).mask = s.mask := by rw [stopCall_frame]
@[simp] theorem stopCall_loop (c : CtxId) (cause : Cause) (j : LoopId) : (s.stopCall c cause).loop j = s.loop j := by simp [loop]
@[simp] theorem stopCall_ring (c : CtxId) (cause : Cause) (j : LoopId) : (s.stopCall c cause).ring j = s.ring j := by simp [ring]
@[simp] theorem stopCall_feed (c : CtxId) (cause : Cause) (j : LoopId) : (s.stopCall c cause).feed j = s.feed j := by simp [feed]
@[simp] theorem stopCall_record (c : CtxId) (cause : Cause) (j : SlotId) : (s.stopCall c cause).record j = s.record j := by simp [record]
@[simp] theorem stopCall_path (c : CtxId) (cause : Cause) (j : CtxId) : (s.stopCall c cause).path j = s.path j := by simp [path]
@[simp] theorem stopCall_segment (c : CtxId) (cause : Cause) (j : SegId) : (s.stopCall c cause).segment j = s.segment j := by simp [segment]
@[simp] theorem stopCall_service (c : CtxId) (cause : Cause) (j : Trunk) : (s.stopCall c cause).service j = s.service j := by cases j <;> simp [service]
@[simp] theorem stopCall_param (c : CtxId) (cause : Cause) (j : Fin 25) : (s.stopCall c cause).param j = s.param j := by simp [param]

/-! ### dropCtxMarks -/

theorem dropCtxMarks_frame (c : CtxId) : s.dropCtxMarks c = { s with
    marks := (s.dropCtxMarks c).marks } := by
  apply State.ext <;> first | with_reducible rfl | (simp [dropCtxMarks])
@[simp] theorem dropCtxMarks_pending (c : CtxId) : (s.dropCtxMarks c).pending = s.pending := by rw [dropCtxMarks_frame]
@[simp] theorem dropCtxMarks_handed (c : CtxId) : (s.dropCtxMarks c).handed = s.handed := by rw [dropCtxMarks_frame]
@[simp] theorem dropCtxMarks_loops (c : CtxId) : (s.dropCtxMarks c).loops = s.loops := by rw [dropCtxMarks_frame]
@[simp] theorem dropCtxMarks_rings (c : CtxId) : (s.dropCtxMarks c).rings = s.rings := by rw [dropCtxMarks_frame]
@[simp] theorem dropCtxMarks_feeds (c : CtxId) : (s.dropCtxMarks c).feeds = s.feeds := by rw [dropCtxMarks_frame]
@[simp] theorem dropCtxMarks_supply (c : CtxId) : (s.dropCtxMarks c).supply = s.supply := by rw [dropCtxMarks_frame]
@[simp] theorem dropCtxMarks_directory (c : CtxId) : (s.dropCtxMarks c).directory = s.directory := by rw [dropCtxMarks_frame]
@[simp] theorem dropCtxMarks_contexts (c : CtxId) : (s.dropCtxMarks c).contexts = s.contexts := by rw [dropCtxMarks_frame]
@[simp] theorem dropCtxMarks_waiting (c : CtxId) : (s.dropCtxMarks c).waiting = s.waiting := by rw [dropCtxMarks_frame]
@[simp] theorem dropCtxMarks_entryCount (c : CtxId) : (s.dropCtxMarks c).entryCount = s.entryCount := by rw [dropCtxMarks_frame]
@[simp] theorem dropCtxMarks_routes (c : CtxId) : (s.dropCtxMarks c).routes = s.routes := by rw [dropCtxMarks_frame]
@[simp] theorem dropCtxMarks_plan (c : CtxId) : (s.dropCtxMarks c).plan = s.plan := by rw [dropCtxMarks_frame]
@[simp] theorem dropCtxMarks_trunkA (c : CtxId) : (s.dropCtxMarks c).trunkA = s.trunkA := by rw [dropCtxMarks_frame]
@[simp] theorem dropCtxMarks_trunkB (c : CtxId) : (s.dropCtxMarks c).trunkB = s.trunkB := by rw [dropCtxMarks_frame]
@[simp] theorem dropCtxMarks_paths (c : CtxId) : (s.dropCtxMarks c).paths = s.paths := by rw [dropCtxMarks_frame]
@[simp] theorem dropCtxMarks_samples (c : CtxId) : (s.dropCtxMarks c).samples = s.samples := by rw [dropCtxMarks_frame]
@[simp] theorem dropCtxMarks_segments (c : CtxId) : (s.dropCtxMarks c).segments = s.segments := by rw [dropCtxMarks_frame]
@[simp] theorem dropCtxMarks_players (c : CtxId) : (s.dropCtxMarks c).players = s.players := by rw [dropCtxMarks_frame]
@[simp] theorem dropCtxMarks_serviceA (c : CtxId) : (s.dropCtxMarks c).serviceA = s.serviceA := by rw [dropCtxMarks_frame]
@[simp] theorem dropCtxMarks_serviceB (c : CtxId) : (s.dropCtxMarks c).serviceB = s.serviceB := by rw [dropCtxMarks_frame]
@[simp] theorem dropCtxMarks_home (c : CtxId) : (s.dropCtxMarks c).home = s.home := by rw [dropCtxMarks_frame]
@[simp] theorem dropCtxMarks_settings (c : CtxId) : (s.dropCtxMarks c).settings = s.settings := by rw [dropCtxMarks_frame]
@[simp] theorem dropCtxMarks_sectionFault (c : CtxId) : (s.dropCtxMarks c).sectionFault = s.sectionFault := by rw [dropCtxMarks_frame]
@[simp] theorem dropCtxMarks_trunkFaultA (c : CtxId) : (s.dropCtxMarks c).trunkFaultA = s.trunkFaultA := by rw [dropCtxMarks_frame]
@[simp] theorem dropCtxMarks_trunkFaultB (c : CtxId) : (s.dropCtxMarks c).trunkFaultB = s.trunkFaultB := by rw [dropCtxMarks_frame]
@[simp] theorem dropCtxMarks_loopFaults (c : CtxId) : (s.dropCtxMarks c).loopFaults = s.loopFaults := by rw [dropCtxMarks_frame]
@[simp] theorem dropCtxMarks_postFaults (c : CtxId) : (s.dropCtxMarks c).postFaults = s.postFaults := by rw [dropCtxMarks_frame]
@[simp] theorem dropCtxMarks_testResults (c : CtxId) : (s.dropCtxMarks c).testResults = s.testResults := by rw [dropCtxMarks_frame]
@[simp] theorem dropCtxMarks_abandons (c : CtxId) : (s.dropCtxMarks c).abandons = s.abandons := by rw [dropCtxMarks_frame]
@[simp] theorem dropCtxMarks_abandonPosts (c : CtxId) : (s.dropCtxMarks c).abandonPosts = s.abandonPosts := by rw [dropCtxMarks_frame]
@[simp] theorem dropCtxMarks_mask (c : CtxId) : (s.dropCtxMarks c).mask = s.mask := by rw [dropCtxMarks_frame]
@[simp] theorem dropCtxMarks_loop (c : CtxId) (j : LoopId) : (s.dropCtxMarks c).loop j = s.loop j := by simp [loop]
@[simp] theorem dropCtxMarks_ring (c : CtxId) (j : LoopId) : (s.dropCtxMarks c).ring j = s.ring j := by simp [ring]
@[simp] theorem dropCtxMarks_feed (c : CtxId) (j : LoopId) : (s.dropCtxMarks c).feed j = s.feed j := by simp [feed]
@[simp] theorem dropCtxMarks_record (c : CtxId) (j : SlotId) : (s.dropCtxMarks c).record j = s.record j := by simp [record]
@[simp] theorem dropCtxMarks_ctx (c : CtxId) (j : CtxId) : (s.dropCtxMarks c).ctx j = s.ctx j := by simp [ctx]
@[simp] theorem dropCtxMarks_trunk (c : CtxId) (j : Trunk) : (s.dropCtxMarks c).trunk j = s.trunk j := by cases j <;> simp [trunk]
@[simp] theorem dropCtxMarks_path (c : CtxId) (j : CtxId) : (s.dropCtxMarks c).path j = s.path j := by simp [path]
@[simp] theorem dropCtxMarks_player (c : CtxId) (j : CtxId) : (s.dropCtxMarks c).player j = s.player j := by simp [player]
@[simp] theorem dropCtxMarks_segment (c : CtxId) (j : SegId) : (s.dropCtxMarks c).segment j = s.segment j := by simp [segment]
@[simp] theorem dropCtxMarks_service (c : CtxId) (j : Trunk) : (s.dropCtxMarks c).service j = s.service j := by cases j <;> simp [service]
@[simp] theorem dropCtxMarks_param (c : CtxId) (j : Fin 25) : (s.dropCtxMarks c).param j = s.param j := by simp [param]

/-! ### freeCtx -/

theorem freeCtx_frame (c : CtxId) : s.freeCtx c = { s with
    contexts := (s.freeCtx c).contexts
    waiting := (s.freeCtx c).waiting
    players := (s.freeCtx c).players
    marks := (s.freeCtx c).marks } := by
  apply State.ext <;> first | with_reducible rfl | (simp [freeCtx])
@[simp] theorem freeCtx_pending (c : CtxId) : (s.freeCtx c).pending = s.pending := by rw [freeCtx_frame]
@[simp] theorem freeCtx_handed (c : CtxId) : (s.freeCtx c).handed = s.handed := by rw [freeCtx_frame]
@[simp] theorem freeCtx_loops (c : CtxId) : (s.freeCtx c).loops = s.loops := by rw [freeCtx_frame]
@[simp] theorem freeCtx_rings (c : CtxId) : (s.freeCtx c).rings = s.rings := by rw [freeCtx_frame]
@[simp] theorem freeCtx_feeds (c : CtxId) : (s.freeCtx c).feeds = s.feeds := by rw [freeCtx_frame]
@[simp] theorem freeCtx_supply (c : CtxId) : (s.freeCtx c).supply = s.supply := by rw [freeCtx_frame]
@[simp] theorem freeCtx_directory (c : CtxId) : (s.freeCtx c).directory = s.directory := by rw [freeCtx_frame]
@[simp] theorem freeCtx_entryCount (c : CtxId) : (s.freeCtx c).entryCount = s.entryCount := by rw [freeCtx_frame]
@[simp] theorem freeCtx_routes (c : CtxId) : (s.freeCtx c).routes = s.routes := by rw [freeCtx_frame]
@[simp] theorem freeCtx_plan (c : CtxId) : (s.freeCtx c).plan = s.plan := by rw [freeCtx_frame]
@[simp] theorem freeCtx_trunkA (c : CtxId) : (s.freeCtx c).trunkA = s.trunkA := by rw [freeCtx_frame]
@[simp] theorem freeCtx_trunkB (c : CtxId) : (s.freeCtx c).trunkB = s.trunkB := by rw [freeCtx_frame]
@[simp] theorem freeCtx_paths (c : CtxId) : (s.freeCtx c).paths = s.paths := by rw [freeCtx_frame]
@[simp] theorem freeCtx_samples (c : CtxId) : (s.freeCtx c).samples = s.samples := by rw [freeCtx_frame]
@[simp] theorem freeCtx_segments (c : CtxId) : (s.freeCtx c).segments = s.segments := by rw [freeCtx_frame]
@[simp] theorem freeCtx_serviceA (c : CtxId) : (s.freeCtx c).serviceA = s.serviceA := by rw [freeCtx_frame]
@[simp] theorem freeCtx_serviceB (c : CtxId) : (s.freeCtx c).serviceB = s.serviceB := by rw [freeCtx_frame]
@[simp] theorem freeCtx_home (c : CtxId) : (s.freeCtx c).home = s.home := by rw [freeCtx_frame]
@[simp] theorem freeCtx_settings (c : CtxId) : (s.freeCtx c).settings = s.settings := by rw [freeCtx_frame]
@[simp] theorem freeCtx_sectionFault (c : CtxId) : (s.freeCtx c).sectionFault = s.sectionFault := by rw [freeCtx_frame]
@[simp] theorem freeCtx_trunkFaultA (c : CtxId) : (s.freeCtx c).trunkFaultA = s.trunkFaultA := by rw [freeCtx_frame]
@[simp] theorem freeCtx_trunkFaultB (c : CtxId) : (s.freeCtx c).trunkFaultB = s.trunkFaultB := by rw [freeCtx_frame]
@[simp] theorem freeCtx_loopFaults (c : CtxId) : (s.freeCtx c).loopFaults = s.loopFaults := by rw [freeCtx_frame]
@[simp] theorem freeCtx_postFaults (c : CtxId) : (s.freeCtx c).postFaults = s.postFaults := by rw [freeCtx_frame]
@[simp] theorem freeCtx_testResults (c : CtxId) : (s.freeCtx c).testResults = s.testResults := by rw [freeCtx_frame]
@[simp] theorem freeCtx_abandons (c : CtxId) : (s.freeCtx c).abandons = s.abandons := by rw [freeCtx_frame]
@[simp] theorem freeCtx_abandonPosts (c : CtxId) : (s.freeCtx c).abandonPosts = s.abandonPosts := by rw [freeCtx_frame]
@[simp] theorem freeCtx_mask (c : CtxId) : (s.freeCtx c).mask = s.mask := by rw [freeCtx_frame]
@[simp] theorem freeCtx_loop (c : CtxId) (j : LoopId) : (s.freeCtx c).loop j = s.loop j := by simp [loop]
@[simp] theorem freeCtx_ring (c : CtxId) (j : LoopId) : (s.freeCtx c).ring j = s.ring j := by simp [ring]
@[simp] theorem freeCtx_feed (c : CtxId) (j : LoopId) : (s.freeCtx c).feed j = s.feed j := by simp [feed]
@[simp] theorem freeCtx_record (c : CtxId) (j : SlotId) : (s.freeCtx c).record j = s.record j := by simp [record]
@[simp] theorem freeCtx_trunk (c : CtxId) (j : Trunk) : (s.freeCtx c).trunk j = s.trunk j := by cases j <;> simp [trunk]
@[simp] theorem freeCtx_path (c : CtxId) (j : CtxId) : (s.freeCtx c).path j = s.path j := by simp [path]
@[simp] theorem freeCtx_segment (c : CtxId) (j : SegId) : (s.freeCtx c).segment j = s.segment j := by simp [segment]
@[simp] theorem freeCtx_service (c : CtxId) (j : Trunk) : (s.freeCtx c).service j = s.service j := by cases j <;> simp [service]
@[simp] theorem freeCtx_param (c : CtxId) (j : Fin 25) : (s.freeCtx c).param j = s.param j := by simp [param]

/-! ### enterClearing -/

theorem enterClearing_frame (c : CtxId) (cause : Cause) : s.enterClearing c cause = { s with
    contexts := (s.enterClearing c cause).contexts
    paths := (s.enterClearing c cause).paths
    waiting := (s.enterClearing c cause).waiting
    players := (s.enterClearing c cause).players
    marks := (s.enterClearing c cause).marks
    loops := (s.enterClearing c cause).loops
    trunkA := (s.enterClearing c cause).trunkA
    trunkB := (s.enterClearing c cause).trunkB
    handed := (s.enterClearing c cause).handed } := by
  apply State.ext <;> first | with_reducible rfl | (unfold enterClearing; dsimp only; (repeat' split) <;> simp)
@[simp] theorem enterClearing_pending (c : CtxId) (cause : Cause) : (s.enterClearing c cause).pending = s.pending := by rw [enterClearing_frame]
@[simp] theorem enterClearing_rings (c : CtxId) (cause : Cause) : (s.enterClearing c cause).rings = s.rings := by rw [enterClearing_frame]
@[simp] theorem enterClearing_feeds (c : CtxId) (cause : Cause) : (s.enterClearing c cause).feeds = s.feeds := by rw [enterClearing_frame]
@[simp] theorem enterClearing_supply (c : CtxId) (cause : Cause) : (s.enterClearing c cause).supply = s.supply := by rw [enterClearing_frame]
@[simp] theorem enterClearing_directory (c : CtxId) (cause : Cause) : (s.enterClearing c cause).directory = s.directory := by rw [enterClearing_frame]
@[simp] theorem enterClearing_entryCount (c : CtxId) (cause : Cause) : (s.enterClearing c cause).entryCount = s.entryCount := by rw [enterClearing_frame]
@[simp] theorem enterClearing_routes (c : CtxId) (cause : Cause) : (s.enterClearing c cause).routes = s.routes := by rw [enterClearing_frame]
@[simp] theorem enterClearing_plan (c : CtxId) (cause : Cause) : (s.enterClearing c cause).plan = s.plan := by rw [enterClearing_frame]
@[simp] theorem enterClearing_samples (c : CtxId) (cause : Cause) : (s.enterClearing c cause).samples = s.samples := by rw [enterClearing_frame]
@[simp] theorem enterClearing_segments (c : CtxId) (cause : Cause) : (s.enterClearing c cause).segments = s.segments := by rw [enterClearing_frame]
@[simp] theorem enterClearing_serviceA (c : CtxId) (cause : Cause) : (s.enterClearing c cause).serviceA = s.serviceA := by rw [enterClearing_frame]
@[simp] theorem enterClearing_serviceB (c : CtxId) (cause : Cause) : (s.enterClearing c cause).serviceB = s.serviceB := by rw [enterClearing_frame]
@[simp] theorem enterClearing_home (c : CtxId) (cause : Cause) : (s.enterClearing c cause).home = s.home := by rw [enterClearing_frame]
@[simp] theorem enterClearing_settings (c : CtxId) (cause : Cause) : (s.enterClearing c cause).settings = s.settings := by rw [enterClearing_frame]
@[simp] theorem enterClearing_sectionFault (c : CtxId) (cause : Cause) : (s.enterClearing c cause).sectionFault = s.sectionFault := by rw [enterClearing_frame]
@[simp] theorem enterClearing_trunkFaultA (c : CtxId) (cause : Cause) : (s.enterClearing c cause).trunkFaultA = s.trunkFaultA := by rw [enterClearing_frame]
@[simp] theorem enterClearing_trunkFaultB (c : CtxId) (cause : Cause) : (s.enterClearing c cause).trunkFaultB = s.trunkFaultB := by rw [enterClearing_frame]
@[simp] theorem enterClearing_loopFaults (c : CtxId) (cause : Cause) : (s.enterClearing c cause).loopFaults = s.loopFaults := by rw [enterClearing_frame]
@[simp] theorem enterClearing_postFaults (c : CtxId) (cause : Cause) : (s.enterClearing c cause).postFaults = s.postFaults := by rw [enterClearing_frame]
@[simp] theorem enterClearing_testResults (c : CtxId) (cause : Cause) : (s.enterClearing c cause).testResults = s.testResults := by rw [enterClearing_frame]
@[simp] theorem enterClearing_abandons (c : CtxId) (cause : Cause) : (s.enterClearing c cause).abandons = s.abandons := by rw [enterClearing_frame]
@[simp] theorem enterClearing_abandonPosts (c : CtxId) (cause : Cause) : (s.enterClearing c cause).abandonPosts = s.abandonPosts := by rw [enterClearing_frame]
@[simp] theorem enterClearing_mask (c : CtxId) (cause : Cause) : (s.enterClearing c cause).mask = s.mask := by rw [enterClearing_frame]
@[simp] theorem enterClearing_ring (c : CtxId) (cause : Cause) (j : LoopId) : (s.enterClearing c cause).ring j = s.ring j := by simp [ring]
@[simp] theorem enterClearing_feed (c : CtxId) (cause : Cause) (j : LoopId) : (s.enterClearing c cause).feed j = s.feed j := by simp [feed]
@[simp] theorem enterClearing_record (c : CtxId) (cause : Cause) (j : SlotId) : (s.enterClearing c cause).record j = s.record j := by simp [record]
@[simp] theorem enterClearing_segment (c : CtxId) (cause : Cause) (j : SegId) : (s.enterClearing c cause).segment j = s.segment j := by simp [segment]
@[simp] theorem enterClearing_service (c : CtxId) (cause : Cause) (j : Trunk) : (s.enterClearing c cause).service j = s.service j := by cases j <;> simp [service]
@[simp] theorem enterClearing_param (c : CtxId) (cause : Cause) (j : Fin 25) : (s.enterClearing c cause).param j = s.param j := by simp [param]

/-! ### releaseToFree -/

theorem releaseToFree_frame (c : CtxId) (cause : Cause) : s.releaseToFree c cause = { s with
    contexts := (s.releaseToFree c cause).contexts
    waiting := (s.releaseToFree c cause).waiting
    players := (s.releaseToFree c cause).players
    marks := (s.releaseToFree c cause).marks
    loops := (s.releaseToFree c cause).loops
    trunkA := (s.releaseToFree c cause).trunkA
    trunkB := (s.releaseToFree c cause).trunkB
    handed := (s.releaseToFree c cause).handed } := by
  apply State.ext <;> first | with_reducible rfl | (simp [releaseToFree])
@[simp] theorem releaseToFree_pending (c : CtxId) (cause : Cause) : (s.releaseToFree c cause).pending = s.pending := by rw [releaseToFree_frame]
@[simp] theorem releaseToFree_rings (c : CtxId) (cause : Cause) : (s.releaseToFree c cause).rings = s.rings := by rw [releaseToFree_frame]
@[simp] theorem releaseToFree_feeds (c : CtxId) (cause : Cause) : (s.releaseToFree c cause).feeds = s.feeds := by rw [releaseToFree_frame]
@[simp] theorem releaseToFree_supply (c : CtxId) (cause : Cause) : (s.releaseToFree c cause).supply = s.supply := by rw [releaseToFree_frame]
@[simp] theorem releaseToFree_directory (c : CtxId) (cause : Cause) : (s.releaseToFree c cause).directory = s.directory := by rw [releaseToFree_frame]
@[simp] theorem releaseToFree_entryCount (c : CtxId) (cause : Cause) : (s.releaseToFree c cause).entryCount = s.entryCount := by rw [releaseToFree_frame]
@[simp] theorem releaseToFree_routes (c : CtxId) (cause : Cause) : (s.releaseToFree c cause).routes = s.routes := by rw [releaseToFree_frame]
@[simp] theorem releaseToFree_plan (c : CtxId) (cause : Cause) : (s.releaseToFree c cause).plan = s.plan := by rw [releaseToFree_frame]
@[simp] theorem releaseToFree_paths (c : CtxId) (cause : Cause) : (s.releaseToFree c cause).paths = s.paths := by rw [releaseToFree_frame]
@[simp] theorem releaseToFree_samples (c : CtxId) (cause : Cause) : (s.releaseToFree c cause).samples = s.samples := by rw [releaseToFree_frame]
@[simp] theorem releaseToFree_segments (c : CtxId) (cause : Cause) : (s.releaseToFree c cause).segments = s.segments := by rw [releaseToFree_frame]
@[simp] theorem releaseToFree_serviceA (c : CtxId) (cause : Cause) : (s.releaseToFree c cause).serviceA = s.serviceA := by rw [releaseToFree_frame]
@[simp] theorem releaseToFree_serviceB (c : CtxId) (cause : Cause) : (s.releaseToFree c cause).serviceB = s.serviceB := by rw [releaseToFree_frame]
@[simp] theorem releaseToFree_home (c : CtxId) (cause : Cause) : (s.releaseToFree c cause).home = s.home := by rw [releaseToFree_frame]
@[simp] theorem releaseToFree_settings (c : CtxId) (cause : Cause) : (s.releaseToFree c cause).settings = s.settings := by rw [releaseToFree_frame]
@[simp] theorem releaseToFree_sectionFault (c : CtxId) (cause : Cause) : (s.releaseToFree c cause).sectionFault = s.sectionFault := by rw [releaseToFree_frame]
@[simp] theorem releaseToFree_trunkFaultA (c : CtxId) (cause : Cause) : (s.releaseToFree c cause).trunkFaultA = s.trunkFaultA := by rw [releaseToFree_frame]
@[simp] theorem releaseToFree_trunkFaultB (c : CtxId) (cause : Cause) : (s.releaseToFree c cause).trunkFaultB = s.trunkFaultB := by rw [releaseToFree_frame]
@[simp] theorem releaseToFree_loopFaults (c : CtxId) (cause : Cause) : (s.releaseToFree c cause).loopFaults = s.loopFaults := by rw [releaseToFree_frame]
@[simp] theorem releaseToFree_postFaults (c : CtxId) (cause : Cause) : (s.releaseToFree c cause).postFaults = s.postFaults := by rw [releaseToFree_frame]
@[simp] theorem releaseToFree_testResults (c : CtxId) (cause : Cause) : (s.releaseToFree c cause).testResults = s.testResults := by rw [releaseToFree_frame]
@[simp] theorem releaseToFree_abandons (c : CtxId) (cause : Cause) : (s.releaseToFree c cause).abandons = s.abandons := by rw [releaseToFree_frame]
@[simp] theorem releaseToFree_abandonPosts (c : CtxId) (cause : Cause) : (s.releaseToFree c cause).abandonPosts = s.abandonPosts := by rw [releaseToFree_frame]
@[simp] theorem releaseToFree_mask (c : CtxId) (cause : Cause) : (s.releaseToFree c cause).mask = s.mask := by rw [releaseToFree_frame]
@[simp] theorem releaseToFree_ring (c : CtxId) (cause : Cause) (j : LoopId) : (s.releaseToFree c cause).ring j = s.ring j := by simp [ring]
@[simp] theorem releaseToFree_feed (c : CtxId) (cause : Cause) (j : LoopId) : (s.releaseToFree c cause).feed j = s.feed j := by simp [feed]
@[simp] theorem releaseToFree_record (c : CtxId) (cause : Cause) (j : SlotId) : (s.releaseToFree c cause).record j = s.record j := by simp [record]
@[simp] theorem releaseToFree_path (c : CtxId) (cause : Cause) (j : CtxId) : (s.releaseToFree c cause).path j = s.path j := by simp [path]
@[simp] theorem releaseToFree_segment (c : CtxId) (cause : Cause) (j : SegId) : (s.releaseToFree c cause).segment j = s.segment j := by simp [segment]
@[simp] theorem releaseToFree_service (c : CtxId) (cause : Cause) (j : Trunk) : (s.releaseToFree c cause).service j = s.service j := by cases j <;> simp [service]
@[simp] theorem releaseToFree_param (c : CtxId) (cause : Cause) (j : Fin 25) : (s.releaseToFree c cause).param j = s.param j := by simp [param]

/-! ### releaseByLoop -/

theorem releaseByLoop_frame (c : CtxId) (cause : Cause) : s.releaseByLoop c cause = { s with
    contexts := (s.releaseByLoop c cause).contexts
    waiting := (s.releaseByLoop c cause).waiting
    players := (s.releaseByLoop c cause).players
    marks := (s.releaseByLoop c cause).marks
    loops := (s.releaseByLoop c cause).loops
    trunkA := (s.releaseByLoop c cause).trunkA
    trunkB := (s.releaseByLoop c cause).trunkB
    handed := (s.releaseByLoop c cause).handed } := by
  apply State.ext <;> first | with_reducible rfl | (unfold releaseByLoop; (repeat' split) <;> simp)
@[simp] theorem releaseByLoop_pending (c : CtxId) (cause : Cause) : (s.releaseByLoop c cause).pending = s.pending := by rw [releaseByLoop_frame]
@[simp] theorem releaseByLoop_rings (c : CtxId) (cause : Cause) : (s.releaseByLoop c cause).rings = s.rings := by rw [releaseByLoop_frame]
@[simp] theorem releaseByLoop_feeds (c : CtxId) (cause : Cause) : (s.releaseByLoop c cause).feeds = s.feeds := by rw [releaseByLoop_frame]
@[simp] theorem releaseByLoop_supply (c : CtxId) (cause : Cause) : (s.releaseByLoop c cause).supply = s.supply := by rw [releaseByLoop_frame]
@[simp] theorem releaseByLoop_directory (c : CtxId) (cause : Cause) : (s.releaseByLoop c cause).directory = s.directory := by rw [releaseByLoop_frame]
@[simp] theorem releaseByLoop_entryCount (c : CtxId) (cause : Cause) : (s.releaseByLoop c cause).entryCount = s.entryCount := by rw [releaseByLoop_frame]
@[simp] theorem releaseByLoop_routes (c : CtxId) (cause : Cause) : (s.releaseByLoop c cause).routes = s.routes := by rw [releaseByLoop_frame]
@[simp] theorem releaseByLoop_plan (c : CtxId) (cause : Cause) : (s.releaseByLoop c cause).plan = s.plan := by rw [releaseByLoop_frame]
@[simp] theorem releaseByLoop_paths (c : CtxId) (cause : Cause) : (s.releaseByLoop c cause).paths = s.paths := by rw [releaseByLoop_frame]
@[simp] theorem releaseByLoop_samples (c : CtxId) (cause : Cause) : (s.releaseByLoop c cause).samples = s.samples := by rw [releaseByLoop_frame]
@[simp] theorem releaseByLoop_segments (c : CtxId) (cause : Cause) : (s.releaseByLoop c cause).segments = s.segments := by rw [releaseByLoop_frame]
@[simp] theorem releaseByLoop_serviceA (c : CtxId) (cause : Cause) : (s.releaseByLoop c cause).serviceA = s.serviceA := by rw [releaseByLoop_frame]
@[simp] theorem releaseByLoop_serviceB (c : CtxId) (cause : Cause) : (s.releaseByLoop c cause).serviceB = s.serviceB := by rw [releaseByLoop_frame]
@[simp] theorem releaseByLoop_home (c : CtxId) (cause : Cause) : (s.releaseByLoop c cause).home = s.home := by rw [releaseByLoop_frame]
@[simp] theorem releaseByLoop_settings (c : CtxId) (cause : Cause) : (s.releaseByLoop c cause).settings = s.settings := by rw [releaseByLoop_frame]
@[simp] theorem releaseByLoop_sectionFault (c : CtxId) (cause : Cause) : (s.releaseByLoop c cause).sectionFault = s.sectionFault := by rw [releaseByLoop_frame]
@[simp] theorem releaseByLoop_trunkFaultA (c : CtxId) (cause : Cause) : (s.releaseByLoop c cause).trunkFaultA = s.trunkFaultA := by rw [releaseByLoop_frame]
@[simp] theorem releaseByLoop_trunkFaultB (c : CtxId) (cause : Cause) : (s.releaseByLoop c cause).trunkFaultB = s.trunkFaultB := by rw [releaseByLoop_frame]
@[simp] theorem releaseByLoop_loopFaults (c : CtxId) (cause : Cause) : (s.releaseByLoop c cause).loopFaults = s.loopFaults := by rw [releaseByLoop_frame]
@[simp] theorem releaseByLoop_postFaults (c : CtxId) (cause : Cause) : (s.releaseByLoop c cause).postFaults = s.postFaults := by rw [releaseByLoop_frame]
@[simp] theorem releaseByLoop_testResults (c : CtxId) (cause : Cause) : (s.releaseByLoop c cause).testResults = s.testResults := by rw [releaseByLoop_frame]
@[simp] theorem releaseByLoop_abandons (c : CtxId) (cause : Cause) : (s.releaseByLoop c cause).abandons = s.abandons := by rw [releaseByLoop_frame]
@[simp] theorem releaseByLoop_abandonPosts (c : CtxId) (cause : Cause) : (s.releaseByLoop c cause).abandonPosts = s.abandonPosts := by rw [releaseByLoop_frame]
@[simp] theorem releaseByLoop_mask (c : CtxId) (cause : Cause) : (s.releaseByLoop c cause).mask = s.mask := by rw [releaseByLoop_frame]
@[simp] theorem releaseByLoop_ring (c : CtxId) (cause : Cause) (j : LoopId) : (s.releaseByLoop c cause).ring j = s.ring j := by simp [ring]
@[simp] theorem releaseByLoop_feed (c : CtxId) (cause : Cause) (j : LoopId) : (s.releaseByLoop c cause).feed j = s.feed j := by simp [feed]
@[simp] theorem releaseByLoop_record (c : CtxId) (cause : Cause) (j : SlotId) : (s.releaseByLoop c cause).record j = s.record j := by simp [record]
@[simp] theorem releaseByLoop_path (c : CtxId) (cause : Cause) (j : CtxId) : (s.releaseByLoop c cause).path j = s.path j := by simp [path]
@[simp] theorem releaseByLoop_segment (c : CtxId) (cause : Cause) (j : SegId) : (s.releaseByLoop c cause).segment j = s.segment j := by simp [segment]
@[simp] theorem releaseByLoop_service (c : CtxId) (cause : Cause) (j : Trunk) : (s.releaseByLoop c cause).service j = s.service j := by cases j <;> simp [service]
@[simp] theorem releaseByLoop_param (c : CtxId) (cause : Cause) (j : Fin 25) : (s.releaseByLoop c cause).param j = s.param j := by simp [param]

/-! ### releaseLost -/

theorem releaseLost_frame (c : CtxId) : s.releaseLost c = { s with
    contexts := (s.releaseLost c).contexts
    waiting := (s.releaseLost c).waiting
    players := (s.releaseLost c).players
    marks := (s.releaseLost c).marks
    trunkA := (s.releaseLost c).trunkA
    trunkB := (s.releaseLost c).trunkB
    handed := (s.releaseLost c).handed } := by
  apply State.ext <;> first | with_reducible rfl | (unfold releaseLost; (repeat' split) <;> simp)
@[simp] theorem releaseLost_pending (c : CtxId) : (s.releaseLost c).pending = s.pending := by rw [releaseLost_frame]
@[simp] theorem releaseLost_loops (c : CtxId) : (s.releaseLost c).loops = s.loops := by rw [releaseLost_frame]
@[simp] theorem releaseLost_rings (c : CtxId) : (s.releaseLost c).rings = s.rings := by rw [releaseLost_frame]
@[simp] theorem releaseLost_feeds (c : CtxId) : (s.releaseLost c).feeds = s.feeds := by rw [releaseLost_frame]
@[simp] theorem releaseLost_supply (c : CtxId) : (s.releaseLost c).supply = s.supply := by rw [releaseLost_frame]
@[simp] theorem releaseLost_directory (c : CtxId) : (s.releaseLost c).directory = s.directory := by rw [releaseLost_frame]
@[simp] theorem releaseLost_entryCount (c : CtxId) : (s.releaseLost c).entryCount = s.entryCount := by rw [releaseLost_frame]
@[simp] theorem releaseLost_routes (c : CtxId) : (s.releaseLost c).routes = s.routes := by rw [releaseLost_frame]
@[simp] theorem releaseLost_plan (c : CtxId) : (s.releaseLost c).plan = s.plan := by rw [releaseLost_frame]
@[simp] theorem releaseLost_paths (c : CtxId) : (s.releaseLost c).paths = s.paths := by rw [releaseLost_frame]
@[simp] theorem releaseLost_samples (c : CtxId) : (s.releaseLost c).samples = s.samples := by rw [releaseLost_frame]
@[simp] theorem releaseLost_segments (c : CtxId) : (s.releaseLost c).segments = s.segments := by rw [releaseLost_frame]
@[simp] theorem releaseLost_serviceA (c : CtxId) : (s.releaseLost c).serviceA = s.serviceA := by rw [releaseLost_frame]
@[simp] theorem releaseLost_serviceB (c : CtxId) : (s.releaseLost c).serviceB = s.serviceB := by rw [releaseLost_frame]
@[simp] theorem releaseLost_home (c : CtxId) : (s.releaseLost c).home = s.home := by rw [releaseLost_frame]
@[simp] theorem releaseLost_settings (c : CtxId) : (s.releaseLost c).settings = s.settings := by rw [releaseLost_frame]
@[simp] theorem releaseLost_sectionFault (c : CtxId) : (s.releaseLost c).sectionFault = s.sectionFault := by rw [releaseLost_frame]
@[simp] theorem releaseLost_trunkFaultA (c : CtxId) : (s.releaseLost c).trunkFaultA = s.trunkFaultA := by rw [releaseLost_frame]
@[simp] theorem releaseLost_trunkFaultB (c : CtxId) : (s.releaseLost c).trunkFaultB = s.trunkFaultB := by rw [releaseLost_frame]
@[simp] theorem releaseLost_loopFaults (c : CtxId) : (s.releaseLost c).loopFaults = s.loopFaults := by rw [releaseLost_frame]
@[simp] theorem releaseLost_postFaults (c : CtxId) : (s.releaseLost c).postFaults = s.postFaults := by rw [releaseLost_frame]
@[simp] theorem releaseLost_testResults (c : CtxId) : (s.releaseLost c).testResults = s.testResults := by rw [releaseLost_frame]
@[simp] theorem releaseLost_abandons (c : CtxId) : (s.releaseLost c).abandons = s.abandons := by rw [releaseLost_frame]
@[simp] theorem releaseLost_abandonPosts (c : CtxId) : (s.releaseLost c).abandonPosts = s.abandonPosts := by rw [releaseLost_frame]
@[simp] theorem releaseLost_mask (c : CtxId) : (s.releaseLost c).mask = s.mask := by rw [releaseLost_frame]
@[simp] theorem releaseLost_loop (c : CtxId) (j : LoopId) : (s.releaseLost c).loop j = s.loop j := by simp [loop]
@[simp] theorem releaseLost_ring (c : CtxId) (j : LoopId) : (s.releaseLost c).ring j = s.ring j := by simp [ring]
@[simp] theorem releaseLost_feed (c : CtxId) (j : LoopId) : (s.releaseLost c).feed j = s.feed j := by simp [feed]
@[simp] theorem releaseLost_record (c : CtxId) (j : SlotId) : (s.releaseLost c).record j = s.record j := by simp [record]
@[simp] theorem releaseLost_path (c : CtxId) (j : CtxId) : (s.releaseLost c).path j = s.path j := by simp [path]
@[simp] theorem releaseLost_segment (c : CtxId) (j : SegId) : (s.releaseLost c).segment j = s.segment j := by simp [segment]
@[simp] theorem releaseLost_service (c : CtxId) (j : Trunk) : (s.releaseLost c).service j = s.service j := by cases j <;> simp [service]
@[simp] theorem releaseLost_param (c : CtxId) (j : Fin 25) : (s.releaseLost c).param j = s.param j := by simp [param]

/-! ### releaseByRestart -/

theorem releaseByRestart_frame (c : CtxId) : s.releaseByRestart c = { s with
    contexts := (s.releaseByRestart c).contexts
    paths := (s.releaseByRestart c).paths
    waiting := (s.releaseByRestart c).waiting
    players := (s.releaseByRestart c).players
    marks := (s.releaseByRestart c).marks
    loops := (s.releaseByRestart c).loops
    trunkA := (s.releaseByRestart c).trunkA
    trunkB := (s.releaseByRestart c).trunkB
    handed := (s.releaseByRestart c).handed } := by
  apply State.ext <;> first | with_reducible rfl | (unfold releaseByRestart; (repeat' split) <;> simp)
@[simp] theorem releaseByRestart_pending (c : CtxId) : (s.releaseByRestart c).pending = s.pending := by rw [releaseByRestart_frame]
@[simp] theorem releaseByRestart_rings (c : CtxId) : (s.releaseByRestart c).rings = s.rings := by rw [releaseByRestart_frame]
@[simp] theorem releaseByRestart_feeds (c : CtxId) : (s.releaseByRestart c).feeds = s.feeds := by rw [releaseByRestart_frame]
@[simp] theorem releaseByRestart_supply (c : CtxId) : (s.releaseByRestart c).supply = s.supply := by rw [releaseByRestart_frame]
@[simp] theorem releaseByRestart_directory (c : CtxId) : (s.releaseByRestart c).directory = s.directory := by rw [releaseByRestart_frame]
@[simp] theorem releaseByRestart_entryCount (c : CtxId) : (s.releaseByRestart c).entryCount = s.entryCount := by rw [releaseByRestart_frame]
@[simp] theorem releaseByRestart_routes (c : CtxId) : (s.releaseByRestart c).routes = s.routes := by rw [releaseByRestart_frame]
@[simp] theorem releaseByRestart_plan (c : CtxId) : (s.releaseByRestart c).plan = s.plan := by rw [releaseByRestart_frame]
@[simp] theorem releaseByRestart_samples (c : CtxId) : (s.releaseByRestart c).samples = s.samples := by rw [releaseByRestart_frame]
@[simp] theorem releaseByRestart_segments (c : CtxId) : (s.releaseByRestart c).segments = s.segments := by rw [releaseByRestart_frame]
@[simp] theorem releaseByRestart_serviceA (c : CtxId) : (s.releaseByRestart c).serviceA = s.serviceA := by rw [releaseByRestart_frame]
@[simp] theorem releaseByRestart_serviceB (c : CtxId) : (s.releaseByRestart c).serviceB = s.serviceB := by rw [releaseByRestart_frame]
@[simp] theorem releaseByRestart_home (c : CtxId) : (s.releaseByRestart c).home = s.home := by rw [releaseByRestart_frame]
@[simp] theorem releaseByRestart_settings (c : CtxId) : (s.releaseByRestart c).settings = s.settings := by rw [releaseByRestart_frame]
@[simp] theorem releaseByRestart_sectionFault (c : CtxId) : (s.releaseByRestart c).sectionFault = s.sectionFault := by rw [releaseByRestart_frame]
@[simp] theorem releaseByRestart_trunkFaultA (c : CtxId) : (s.releaseByRestart c).trunkFaultA = s.trunkFaultA := by rw [releaseByRestart_frame]
@[simp] theorem releaseByRestart_trunkFaultB (c : CtxId) : (s.releaseByRestart c).trunkFaultB = s.trunkFaultB := by rw [releaseByRestart_frame]
@[simp] theorem releaseByRestart_loopFaults (c : CtxId) : (s.releaseByRestart c).loopFaults = s.loopFaults := by rw [releaseByRestart_frame]
@[simp] theorem releaseByRestart_postFaults (c : CtxId) : (s.releaseByRestart c).postFaults = s.postFaults := by rw [releaseByRestart_frame]
@[simp] theorem releaseByRestart_testResults (c : CtxId) : (s.releaseByRestart c).testResults = s.testResults := by rw [releaseByRestart_frame]
@[simp] theorem releaseByRestart_abandons (c : CtxId) : (s.releaseByRestart c).abandons = s.abandons := by rw [releaseByRestart_frame]
@[simp] theorem releaseByRestart_abandonPosts (c : CtxId) : (s.releaseByRestart c).abandonPosts = s.abandonPosts := by rw [releaseByRestart_frame]
@[simp] theorem releaseByRestart_mask (c : CtxId) : (s.releaseByRestart c).mask = s.mask := by rw [releaseByRestart_frame]
@[simp] theorem releaseByRestart_ring (c : CtxId) (j : LoopId) : (s.releaseByRestart c).ring j = s.ring j := by simp [ring]
@[simp] theorem releaseByRestart_feed (c : CtxId) (j : LoopId) : (s.releaseByRestart c).feed j = s.feed j := by simp [feed]
@[simp] theorem releaseByRestart_record (c : CtxId) (j : SlotId) : (s.releaseByRestart c).record j = s.record j := by simp [record]
@[simp] theorem releaseByRestart_segment (c : CtxId) (j : SegId) : (s.releaseByRestart c).segment j = s.segment j := by simp [segment]
@[simp] theorem releaseByRestart_service (c : CtxId) (j : Trunk) : (s.releaseByRestart c).service j = s.service j := by cases j <;> simp [service]
@[simp] theorem releaseByRestart_param (c : CtxId) (j : Fin 25) : (s.releaseByRestart c).param j = s.param j := by simp [param]

/-! ### releaseByDirectory -/

theorem releaseByDirectory_frame (c : CtxId) : s.releaseByDirectory c = { s with
    contexts := (s.releaseByDirectory c).contexts
    paths := (s.releaseByDirectory c).paths
    waiting := (s.releaseByDirectory c).waiting
    players := (s.releaseByDirectory c).players
    marks := (s.releaseByDirectory c).marks
    loops := (s.releaseByDirectory c).loops
    trunkA := (s.releaseByDirectory c).trunkA
    trunkB := (s.releaseByDirectory c).trunkB
    handed := (s.releaseByDirectory c).handed } := by
  apply State.ext <;> first | with_reducible rfl | (unfold releaseByDirectory; (repeat' split) <;> simp)
@[simp] theorem releaseByDirectory_pending (c : CtxId) : (s.releaseByDirectory c).pending = s.pending := by rw [releaseByDirectory_frame]
@[simp] theorem releaseByDirectory_rings (c : CtxId) : (s.releaseByDirectory c).rings = s.rings := by rw [releaseByDirectory_frame]
@[simp] theorem releaseByDirectory_feeds (c : CtxId) : (s.releaseByDirectory c).feeds = s.feeds := by rw [releaseByDirectory_frame]
@[simp] theorem releaseByDirectory_supply (c : CtxId) : (s.releaseByDirectory c).supply = s.supply := by rw [releaseByDirectory_frame]
@[simp] theorem releaseByDirectory_directory (c : CtxId) : (s.releaseByDirectory c).directory = s.directory := by rw [releaseByDirectory_frame]
@[simp] theorem releaseByDirectory_entryCount (c : CtxId) : (s.releaseByDirectory c).entryCount = s.entryCount := by rw [releaseByDirectory_frame]
@[simp] theorem releaseByDirectory_routes (c : CtxId) : (s.releaseByDirectory c).routes = s.routes := by rw [releaseByDirectory_frame]
@[simp] theorem releaseByDirectory_plan (c : CtxId) : (s.releaseByDirectory c).plan = s.plan := by rw [releaseByDirectory_frame]
@[simp] theorem releaseByDirectory_samples (c : CtxId) : (s.releaseByDirectory c).samples = s.samples := by rw [releaseByDirectory_frame]
@[simp] theorem releaseByDirectory_segments (c : CtxId) : (s.releaseByDirectory c).segments = s.segments := by rw [releaseByDirectory_frame]
@[simp] theorem releaseByDirectory_serviceA (c : CtxId) : (s.releaseByDirectory c).serviceA = s.serviceA := by rw [releaseByDirectory_frame]
@[simp] theorem releaseByDirectory_serviceB (c : CtxId) : (s.releaseByDirectory c).serviceB = s.serviceB := by rw [releaseByDirectory_frame]
@[simp] theorem releaseByDirectory_home (c : CtxId) : (s.releaseByDirectory c).home = s.home := by rw [releaseByDirectory_frame]
@[simp] theorem releaseByDirectory_settings (c : CtxId) : (s.releaseByDirectory c).settings = s.settings := by rw [releaseByDirectory_frame]
@[simp] theorem releaseByDirectory_sectionFault (c : CtxId) : (s.releaseByDirectory c).sectionFault = s.sectionFault := by rw [releaseByDirectory_frame]
@[simp] theorem releaseByDirectory_trunkFaultA (c : CtxId) : (s.releaseByDirectory c).trunkFaultA = s.trunkFaultA := by rw [releaseByDirectory_frame]
@[simp] theorem releaseByDirectory_trunkFaultB (c : CtxId) : (s.releaseByDirectory c).trunkFaultB = s.trunkFaultB := by rw [releaseByDirectory_frame]
@[simp] theorem releaseByDirectory_loopFaults (c : CtxId) : (s.releaseByDirectory c).loopFaults = s.loopFaults := by rw [releaseByDirectory_frame]
@[simp] theorem releaseByDirectory_postFaults (c : CtxId) : (s.releaseByDirectory c).postFaults = s.postFaults := by rw [releaseByDirectory_frame]
@[simp] theorem releaseByDirectory_testResults (c : CtxId) : (s.releaseByDirectory c).testResults = s.testResults := by rw [releaseByDirectory_frame]
@[simp] theorem releaseByDirectory_abandons (c : CtxId) : (s.releaseByDirectory c).abandons = s.abandons := by rw [releaseByDirectory_frame]
@[simp] theorem releaseByDirectory_abandonPosts (c : CtxId) : (s.releaseByDirectory c).abandonPosts = s.abandonPosts := by rw [releaseByDirectory_frame]
@[simp] theorem releaseByDirectory_mask (c : CtxId) : (s.releaseByDirectory c).mask = s.mask := by rw [releaseByDirectory_frame]
@[simp] theorem releaseByDirectory_ring (c : CtxId) (j : LoopId) : (s.releaseByDirectory c).ring j = s.ring j := by simp [ring]
@[simp] theorem releaseByDirectory_feed (c : CtxId) (j : LoopId) : (s.releaseByDirectory c).feed j = s.feed j := by simp [feed]
@[simp] theorem releaseByDirectory_record (c : CtxId) (j : SlotId) : (s.releaseByDirectory c).record j = s.record j := by simp [record]
@[simp] theorem releaseByDirectory_segment (c : CtxId) (j : SegId) : (s.releaseByDirectory c).segment j = s.segment j := by simp [segment]
@[simp] theorem releaseByDirectory_service (c : CtxId) (j : Trunk) : (s.releaseByDirectory c).service j = s.service j := by cases j <;> simp [service]
@[simp] theorem releaseByDirectory_param (c : CtxId) (j : Fin 25) : (s.releaseByDirectory c).param j = s.param j := by simp [param]

/-! ### releaseBySection -/

theorem releaseBySection_frame (c : CtxId) : s.releaseBySection c = { s with
    contexts := (s.releaseBySection c).contexts
    waiting := (s.releaseBySection c).waiting
    players := (s.releaseBySection c).players
    marks := (s.releaseBySection c).marks
    loops := (s.releaseBySection c).loops
    handed := (s.releaseBySection c).handed } := by
  apply State.ext <;> first | with_reducible rfl | (unfold releaseBySection; (repeat' split) <;> simp)
@[simp] theorem releaseBySection_pending (c : CtxId) : (s.releaseBySection c).pending = s.pending := by rw [releaseBySection_frame]
@[simp] theorem releaseBySection_rings (c : CtxId) : (s.releaseBySection c).rings = s.rings := by rw [releaseBySection_frame]
@[simp] theorem releaseBySection_feeds (c : CtxId) : (s.releaseBySection c).feeds = s.feeds := by rw [releaseBySection_frame]
@[simp] theorem releaseBySection_supply (c : CtxId) : (s.releaseBySection c).supply = s.supply := by rw [releaseBySection_frame]
@[simp] theorem releaseBySection_directory (c : CtxId) : (s.releaseBySection c).directory = s.directory := by rw [releaseBySection_frame]
@[simp] theorem releaseBySection_entryCount (c : CtxId) : (s.releaseBySection c).entryCount = s.entryCount := by rw [releaseBySection_frame]
@[simp] theorem releaseBySection_routes (c : CtxId) : (s.releaseBySection c).routes = s.routes := by rw [releaseBySection_frame]
@[simp] theorem releaseBySection_plan (c : CtxId) : (s.releaseBySection c).plan = s.plan := by rw [releaseBySection_frame]
@[simp] theorem releaseBySection_trunkA (c : CtxId) : (s.releaseBySection c).trunkA = s.trunkA := by rw [releaseBySection_frame]
@[simp] theorem releaseBySection_trunkB (c : CtxId) : (s.releaseBySection c).trunkB = s.trunkB := by rw [releaseBySection_frame]
@[simp] theorem releaseBySection_paths (c : CtxId) : (s.releaseBySection c).paths = s.paths := by rw [releaseBySection_frame]
@[simp] theorem releaseBySection_samples (c : CtxId) : (s.releaseBySection c).samples = s.samples := by rw [releaseBySection_frame]
@[simp] theorem releaseBySection_segments (c : CtxId) : (s.releaseBySection c).segments = s.segments := by rw [releaseBySection_frame]
@[simp] theorem releaseBySection_serviceA (c : CtxId) : (s.releaseBySection c).serviceA = s.serviceA := by rw [releaseBySection_frame]
@[simp] theorem releaseBySection_serviceB (c : CtxId) : (s.releaseBySection c).serviceB = s.serviceB := by rw [releaseBySection_frame]
@[simp] theorem releaseBySection_home (c : CtxId) : (s.releaseBySection c).home = s.home := by rw [releaseBySection_frame]
@[simp] theorem releaseBySection_settings (c : CtxId) : (s.releaseBySection c).settings = s.settings := by rw [releaseBySection_frame]
@[simp] theorem releaseBySection_sectionFault (c : CtxId) : (s.releaseBySection c).sectionFault = s.sectionFault := by rw [releaseBySection_frame]
@[simp] theorem releaseBySection_trunkFaultA (c : CtxId) : (s.releaseBySection c).trunkFaultA = s.trunkFaultA := by rw [releaseBySection_frame]
@[simp] theorem releaseBySection_trunkFaultB (c : CtxId) : (s.releaseBySection c).trunkFaultB = s.trunkFaultB := by rw [releaseBySection_frame]
@[simp] theorem releaseBySection_loopFaults (c : CtxId) : (s.releaseBySection c).loopFaults = s.loopFaults := by rw [releaseBySection_frame]
@[simp] theorem releaseBySection_postFaults (c : CtxId) : (s.releaseBySection c).postFaults = s.postFaults := by rw [releaseBySection_frame]
@[simp] theorem releaseBySection_testResults (c : CtxId) : (s.releaseBySection c).testResults = s.testResults := by rw [releaseBySection_frame]
@[simp] theorem releaseBySection_abandons (c : CtxId) : (s.releaseBySection c).abandons = s.abandons := by rw [releaseBySection_frame]
@[simp] theorem releaseBySection_abandonPosts (c : CtxId) : (s.releaseBySection c).abandonPosts = s.abandonPosts := by rw [releaseBySection_frame]
@[simp] theorem releaseBySection_mask (c : CtxId) : (s.releaseBySection c).mask = s.mask := by rw [releaseBySection_frame]
@[simp] theorem releaseBySection_ring (c : CtxId) (j : LoopId) : (s.releaseBySection c).ring j = s.ring j := by simp [ring]
@[simp] theorem releaseBySection_feed (c : CtxId) (j : LoopId) : (s.releaseBySection c).feed j = s.feed j := by simp [feed]
@[simp] theorem releaseBySection_record (c : CtxId) (j : SlotId) : (s.releaseBySection c).record j = s.record j := by simp [record]
@[simp] theorem releaseBySection_trunk (c : CtxId) (j : Trunk) : (s.releaseBySection c).trunk j = s.trunk j := by cases j <;> simp [trunk]
@[simp] theorem releaseBySection_path (c : CtxId) (j : CtxId) : (s.releaseBySection c).path j = s.path j := by simp [path]
@[simp] theorem releaseBySection_segment (c : CtxId) (j : SegId) : (s.releaseBySection c).segment j = s.segment j := by simp [segment]
@[simp] theorem releaseBySection_service (c : CtxId) (j : Trunk) : (s.releaseBySection c).service j = s.service j := by cases j <;> simp [service]
@[simp] theorem releaseBySection_param (c : CtxId) (j : Fin 25) : (s.releaseBySection c).param j = s.param j := by simp [param]

/-! ### handOn -/

theorem handOn_frame (l : LoopId) (b : BearerId) : s.handOn l b = { s with
    contexts := (s.handOn l b).contexts
    loops := (s.handOn l b).loops
    handed := (s.handOn l b).handed } := by
  apply State.ext <;> first | with_reducible rfl | (unfold handOn; (repeat' split) <;> simp)
@[simp] theorem handOn_pending (l : LoopId) (b : BearerId) : (s.handOn l b).pending = s.pending := by rw [handOn_frame]
@[simp] theorem handOn_rings (l : LoopId) (b : BearerId) : (s.handOn l b).rings = s.rings := by rw [handOn_frame]
@[simp] theorem handOn_feeds (l : LoopId) (b : BearerId) : (s.handOn l b).feeds = s.feeds := by rw [handOn_frame]
@[simp] theorem handOn_supply (l : LoopId) (b : BearerId) : (s.handOn l b).supply = s.supply := by rw [handOn_frame]
@[simp] theorem handOn_directory (l : LoopId) (b : BearerId) : (s.handOn l b).directory = s.directory := by rw [handOn_frame]
@[simp] theorem handOn_waiting (l : LoopId) (b : BearerId) : (s.handOn l b).waiting = s.waiting := by rw [handOn_frame]
@[simp] theorem handOn_entryCount (l : LoopId) (b : BearerId) : (s.handOn l b).entryCount = s.entryCount := by rw [handOn_frame]
@[simp] theorem handOn_routes (l : LoopId) (b : BearerId) : (s.handOn l b).routes = s.routes := by rw [handOn_frame]
@[simp] theorem handOn_plan (l : LoopId) (b : BearerId) : (s.handOn l b).plan = s.plan := by rw [handOn_frame]
@[simp] theorem handOn_trunkA (l : LoopId) (b : BearerId) : (s.handOn l b).trunkA = s.trunkA := by rw [handOn_frame]
@[simp] theorem handOn_trunkB (l : LoopId) (b : BearerId) : (s.handOn l b).trunkB = s.trunkB := by rw [handOn_frame]
@[simp] theorem handOn_paths (l : LoopId) (b : BearerId) : (s.handOn l b).paths = s.paths := by rw [handOn_frame]
@[simp] theorem handOn_samples (l : LoopId) (b : BearerId) : (s.handOn l b).samples = s.samples := by rw [handOn_frame]
@[simp] theorem handOn_segments (l : LoopId) (b : BearerId) : (s.handOn l b).segments = s.segments := by rw [handOn_frame]
@[simp] theorem handOn_players (l : LoopId) (b : BearerId) : (s.handOn l b).players = s.players := by rw [handOn_frame]
@[simp] theorem handOn_serviceA (l : LoopId) (b : BearerId) : (s.handOn l b).serviceA = s.serviceA := by rw [handOn_frame]
@[simp] theorem handOn_serviceB (l : LoopId) (b : BearerId) : (s.handOn l b).serviceB = s.serviceB := by rw [handOn_frame]
@[simp] theorem handOn_home (l : LoopId) (b : BearerId) : (s.handOn l b).home = s.home := by rw [handOn_frame]
@[simp] theorem handOn_settings (l : LoopId) (b : BearerId) : (s.handOn l b).settings = s.settings := by rw [handOn_frame]
@[simp] theorem handOn_sectionFault (l : LoopId) (b : BearerId) : (s.handOn l b).sectionFault = s.sectionFault := by rw [handOn_frame]
@[simp] theorem handOn_trunkFaultA (l : LoopId) (b : BearerId) : (s.handOn l b).trunkFaultA = s.trunkFaultA := by rw [handOn_frame]
@[simp] theorem handOn_trunkFaultB (l : LoopId) (b : BearerId) : (s.handOn l b).trunkFaultB = s.trunkFaultB := by rw [handOn_frame]
@[simp] theorem handOn_loopFaults (l : LoopId) (b : BearerId) : (s.handOn l b).loopFaults = s.loopFaults := by rw [handOn_frame]
@[simp] theorem handOn_postFaults (l : LoopId) (b : BearerId) : (s.handOn l b).postFaults = s.postFaults := by rw [handOn_frame]
@[simp] theorem handOn_testResults (l : LoopId) (b : BearerId) : (s.handOn l b).testResults = s.testResults := by rw [handOn_frame]
@[simp] theorem handOn_marks (l : LoopId) (b : BearerId) : (s.handOn l b).marks = s.marks := by rw [handOn_frame]
@[simp] theorem handOn_abandons (l : LoopId) (b : BearerId) : (s.handOn l b).abandons = s.abandons := by rw [handOn_frame]
@[simp] theorem handOn_abandonPosts (l : LoopId) (b : BearerId) : (s.handOn l b).abandonPosts = s.abandonPosts := by rw [handOn_frame]
@[simp] theorem handOn_mask (l : LoopId) (b : BearerId) : (s.handOn l b).mask = s.mask := by rw [handOn_frame]
@[simp] theorem handOn_ring (l : LoopId) (b : BearerId) (j : LoopId) : (s.handOn l b).ring j = s.ring j := by simp [ring]
@[simp] theorem handOn_feed (l : LoopId) (b : BearerId) (j : LoopId) : (s.handOn l b).feed j = s.feed j := by simp [feed]
@[simp] theorem handOn_record (l : LoopId) (b : BearerId) (j : SlotId) : (s.handOn l b).record j = s.record j := by simp [record]
@[simp] theorem handOn_trunk (l : LoopId) (b : BearerId) (j : Trunk) : (s.handOn l b).trunk j = s.trunk j := by cases j <;> simp [trunk]
@[simp] theorem handOn_path (l : LoopId) (b : BearerId) (j : CtxId) : (s.handOn l b).path j = s.path j := by simp [path]
@[simp] theorem handOn_player (l : LoopId) (b : BearerId) (j : CtxId) : (s.handOn l b).player j = s.player j := by simp [player]
@[simp] theorem handOn_segment (l : LoopId) (b : BearerId) (j : SegId) : (s.handOn l b).segment j = s.segment j := by simp [segment]
@[simp] theorem handOn_service (l : LoopId) (b : BearerId) (j : Trunk) : (s.handOn l b).service j = s.service j := by cases j <;> simp [service]
@[simp] theorem handOn_param (l : LoopId) (b : BearerId) (j : Fin 25) : (s.handOn l b).param j = s.param j := by simp [param]

/-! ### startMonitor -/

theorem startMonitor_frame (c : CtxId) : s.startMonitor c = { s with
    contexts := (s.startMonitor c).contexts
    paths := (s.startMonitor c).paths } := by
  apply State.ext <;> first | with_reducible rfl | (simp [startMonitor])
@[simp] theorem startMonitor_pending (c : CtxId) : (s.startMonitor c).pending = s.pending := by rw [startMonitor_frame]
@[simp] theorem startMonitor_handed (c : CtxId) : (s.startMonitor c).handed = s.handed := by rw [startMonitor_frame]
@[simp] theorem startMonitor_loops (c : CtxId) : (s.startMonitor c).loops = s.loops := by rw [startMonitor_frame]
@[simp] theorem startMonitor_rings (c : CtxId) : (s.startMonitor c).rings = s.rings := by rw [startMonitor_frame]
@[simp] theorem startMonitor_feeds (c : CtxId) : (s.startMonitor c).feeds = s.feeds := by rw [startMonitor_frame]
@[simp] theorem startMonitor_supply (c : CtxId) : (s.startMonitor c).supply = s.supply := by rw [startMonitor_frame]
@[simp] theorem startMonitor_directory (c : CtxId) : (s.startMonitor c).directory = s.directory := by rw [startMonitor_frame]
@[simp] theorem startMonitor_waiting (c : CtxId) : (s.startMonitor c).waiting = s.waiting := by rw [startMonitor_frame]
@[simp] theorem startMonitor_entryCount (c : CtxId) : (s.startMonitor c).entryCount = s.entryCount := by rw [startMonitor_frame]
@[simp] theorem startMonitor_routes (c : CtxId) : (s.startMonitor c).routes = s.routes := by rw [startMonitor_frame]
@[simp] theorem startMonitor_plan (c : CtxId) : (s.startMonitor c).plan = s.plan := by rw [startMonitor_frame]
@[simp] theorem startMonitor_trunkA (c : CtxId) : (s.startMonitor c).trunkA = s.trunkA := by rw [startMonitor_frame]
@[simp] theorem startMonitor_trunkB (c : CtxId) : (s.startMonitor c).trunkB = s.trunkB := by rw [startMonitor_frame]
@[simp] theorem startMonitor_samples (c : CtxId) : (s.startMonitor c).samples = s.samples := by rw [startMonitor_frame]
@[simp] theorem startMonitor_segments (c : CtxId) : (s.startMonitor c).segments = s.segments := by rw [startMonitor_frame]
@[simp] theorem startMonitor_players (c : CtxId) : (s.startMonitor c).players = s.players := by rw [startMonitor_frame]
@[simp] theorem startMonitor_serviceA (c : CtxId) : (s.startMonitor c).serviceA = s.serviceA := by rw [startMonitor_frame]
@[simp] theorem startMonitor_serviceB (c : CtxId) : (s.startMonitor c).serviceB = s.serviceB := by rw [startMonitor_frame]
@[simp] theorem startMonitor_home (c : CtxId) : (s.startMonitor c).home = s.home := by rw [startMonitor_frame]
@[simp] theorem startMonitor_settings (c : CtxId) : (s.startMonitor c).settings = s.settings := by rw [startMonitor_frame]
@[simp] theorem startMonitor_sectionFault (c : CtxId) : (s.startMonitor c).sectionFault = s.sectionFault := by rw [startMonitor_frame]
@[simp] theorem startMonitor_trunkFaultA (c : CtxId) : (s.startMonitor c).trunkFaultA = s.trunkFaultA := by rw [startMonitor_frame]
@[simp] theorem startMonitor_trunkFaultB (c : CtxId) : (s.startMonitor c).trunkFaultB = s.trunkFaultB := by rw [startMonitor_frame]
@[simp] theorem startMonitor_loopFaults (c : CtxId) : (s.startMonitor c).loopFaults = s.loopFaults := by rw [startMonitor_frame]
@[simp] theorem startMonitor_postFaults (c : CtxId) : (s.startMonitor c).postFaults = s.postFaults := by rw [startMonitor_frame]
@[simp] theorem startMonitor_testResults (c : CtxId) : (s.startMonitor c).testResults = s.testResults := by rw [startMonitor_frame]
@[simp] theorem startMonitor_marks (c : CtxId) : (s.startMonitor c).marks = s.marks := by rw [startMonitor_frame]
@[simp] theorem startMonitor_abandons (c : CtxId) : (s.startMonitor c).abandons = s.abandons := by rw [startMonitor_frame]
@[simp] theorem startMonitor_abandonPosts (c : CtxId) : (s.startMonitor c).abandonPosts = s.abandonPosts := by rw [startMonitor_frame]
@[simp] theorem startMonitor_mask (c : CtxId) : (s.startMonitor c).mask = s.mask := by rw [startMonitor_frame]
@[simp] theorem startMonitor_loop (c : CtxId) (j : LoopId) : (s.startMonitor c).loop j = s.loop j := by simp [loop]
@[simp] theorem startMonitor_ring (c : CtxId) (j : LoopId) : (s.startMonitor c).ring j = s.ring j := by simp [ring]
@[simp] theorem startMonitor_feed (c : CtxId) (j : LoopId) : (s.startMonitor c).feed j = s.feed j := by simp [feed]
@[simp] theorem startMonitor_record (c : CtxId) (j : SlotId) : (s.startMonitor c).record j = s.record j := by simp [record]
@[simp] theorem startMonitor_trunk (c : CtxId) (j : Trunk) : (s.startMonitor c).trunk j = s.trunk j := by cases j <;> simp [trunk]
@[simp] theorem startMonitor_player (c : CtxId) (j : CtxId) : (s.startMonitor c).player j = s.player j := by simp [player]
@[simp] theorem startMonitor_segment (c : CtxId) (j : SegId) : (s.startMonitor c).segment j = s.segment j := by simp [segment]
@[simp] theorem startMonitor_service (c : CtxId) (j : Trunk) : (s.startMonitor c).service j = s.service j := by cases j <;> simp [service]
@[simp] theorem startMonitor_param (c : CtxId) (j : Fin 25) : (s.startMonitor c).param j = s.param j := by simp [param]

/-! ### endOffer -/

theorem endOffer_frame (c : CtxId) : s.endOffer c = { s with
    contexts := (s.endOffer c).contexts
    loops := (s.endOffer c).loops
    handed := (s.endOffer c).handed } := by
  apply State.ext <;> first | with_reducible rfl | (simp [endOffer])
@[simp] theorem endOffer_pending (c : CtxId) : (s.endOffer c).pending = s.pending := by rw [endOffer_frame]
@[simp] theorem endOffer_rings (c : CtxId) : (s.endOffer c).rings = s.rings := by rw [endOffer_frame]
@[simp] theorem endOffer_feeds (c : CtxId) : (s.endOffer c).feeds = s.feeds := by rw [endOffer_frame]
@[simp] theorem endOffer_supply (c : CtxId) : (s.endOffer c).supply = s.supply := by rw [endOffer_frame]
@[simp] theorem endOffer_directory (c : CtxId) : (s.endOffer c).directory = s.directory := by rw [endOffer_frame]
@[simp] theorem endOffer_waiting (c : CtxId) : (s.endOffer c).waiting = s.waiting := by rw [endOffer_frame]
@[simp] theorem endOffer_entryCount (c : CtxId) : (s.endOffer c).entryCount = s.entryCount := by rw [endOffer_frame]
@[simp] theorem endOffer_routes (c : CtxId) : (s.endOffer c).routes = s.routes := by rw [endOffer_frame]
@[simp] theorem endOffer_plan (c : CtxId) : (s.endOffer c).plan = s.plan := by rw [endOffer_frame]
@[simp] theorem endOffer_trunkA (c : CtxId) : (s.endOffer c).trunkA = s.trunkA := by rw [endOffer_frame]
@[simp] theorem endOffer_trunkB (c : CtxId) : (s.endOffer c).trunkB = s.trunkB := by rw [endOffer_frame]
@[simp] theorem endOffer_paths (c : CtxId) : (s.endOffer c).paths = s.paths := by rw [endOffer_frame]
@[simp] theorem endOffer_samples (c : CtxId) : (s.endOffer c).samples = s.samples := by rw [endOffer_frame]
@[simp] theorem endOffer_segments (c : CtxId) : (s.endOffer c).segments = s.segments := by rw [endOffer_frame]
@[simp] theorem endOffer_players (c : CtxId) : (s.endOffer c).players = s.players := by rw [endOffer_frame]
@[simp] theorem endOffer_serviceA (c : CtxId) : (s.endOffer c).serviceA = s.serviceA := by rw [endOffer_frame]
@[simp] theorem endOffer_serviceB (c : CtxId) : (s.endOffer c).serviceB = s.serviceB := by rw [endOffer_frame]
@[simp] theorem endOffer_home (c : CtxId) : (s.endOffer c).home = s.home := by rw [endOffer_frame]
@[simp] theorem endOffer_settings (c : CtxId) : (s.endOffer c).settings = s.settings := by rw [endOffer_frame]
@[simp] theorem endOffer_sectionFault (c : CtxId) : (s.endOffer c).sectionFault = s.sectionFault := by rw [endOffer_frame]
@[simp] theorem endOffer_trunkFaultA (c : CtxId) : (s.endOffer c).trunkFaultA = s.trunkFaultA := by rw [endOffer_frame]
@[simp] theorem endOffer_trunkFaultB (c : CtxId) : (s.endOffer c).trunkFaultB = s.trunkFaultB := by rw [endOffer_frame]
@[simp] theorem endOffer_loopFaults (c : CtxId) : (s.endOffer c).loopFaults = s.loopFaults := by rw [endOffer_frame]
@[simp] theorem endOffer_postFaults (c : CtxId) : (s.endOffer c).postFaults = s.postFaults := by rw [endOffer_frame]
@[simp] theorem endOffer_testResults (c : CtxId) : (s.endOffer c).testResults = s.testResults := by rw [endOffer_frame]
@[simp] theorem endOffer_marks (c : CtxId) : (s.endOffer c).marks = s.marks := by rw [endOffer_frame]
@[simp] theorem endOffer_abandons (c : CtxId) : (s.endOffer c).abandons = s.abandons := by rw [endOffer_frame]
@[simp] theorem endOffer_abandonPosts (c : CtxId) : (s.endOffer c).abandonPosts = s.abandonPosts := by rw [endOffer_frame]
@[simp] theorem endOffer_mask (c : CtxId) : (s.endOffer c).mask = s.mask := by rw [endOffer_frame]
@[simp] theorem endOffer_ring (c : CtxId) (j : LoopId) : (s.endOffer c).ring j = s.ring j := by simp [ring]
@[simp] theorem endOffer_feed (c : CtxId) (j : LoopId) : (s.endOffer c).feed j = s.feed j := by simp [feed]
@[simp] theorem endOffer_record (c : CtxId) (j : SlotId) : (s.endOffer c).record j = s.record j := by simp [record]
@[simp] theorem endOffer_trunk (c : CtxId) (j : Trunk) : (s.endOffer c).trunk j = s.trunk j := by cases j <;> simp [trunk]
@[simp] theorem endOffer_path (c : CtxId) (j : CtxId) : (s.endOffer c).path j = s.path j := by simp [path]
@[simp] theorem endOffer_player (c : CtxId) (j : CtxId) : (s.endOffer c).player j = s.player j := by simp [player]
@[simp] theorem endOffer_segment (c : CtxId) (j : SegId) : (s.endOffer c).segment j = s.segment j := by simp [segment]
@[simp] theorem endOffer_service (c : CtxId) (j : Trunk) : (s.endOffer c).service j = s.service j := by cases j <;> simp [service]
@[simp] theorem endOffer_param (c : CtxId) (j : Fin 25) : (s.endOffer c).param j = s.param j := by simp [param]

/-! ### represent -/

theorem represent_frame (c : CtxId) : s.represent c = { s with
    contexts := (s.represent c).contexts
    paths := (s.represent c).paths
    entryCount := (s.represent c).entryCount
    waiting := (s.represent c).waiting
    players := (s.represent c).players
    loops := (s.represent c).loops
    handed := (s.represent c).handed } := by
  apply State.ext <;> first | with_reducible rfl | (unfold represent; dsimp only; simp)
@[simp] theorem represent_pending (c : CtxId) : (s.represent c).pending = s.pending := by rw [represent_frame]
@[simp] theorem represent_rings (c : CtxId) : (s.represent c).rings = s.rings := by rw [represent_frame]
@[simp] theorem represent_feeds (c : CtxId) : (s.represent c).feeds = s.feeds := by rw [represent_frame]
@[simp] theorem represent_supply (c : CtxId) : (s.represent c).supply = s.supply := by rw [represent_frame]
@[simp] theorem represent_directory (c : CtxId) : (s.represent c).directory = s.directory := by rw [represent_frame]
@[simp] theorem represent_routes (c : CtxId) : (s.represent c).routes = s.routes := by rw [represent_frame]
@[simp] theorem represent_plan (c : CtxId) : (s.represent c).plan = s.plan := by rw [represent_frame]
@[simp] theorem represent_trunkA (c : CtxId) : (s.represent c).trunkA = s.trunkA := by rw [represent_frame]
@[simp] theorem represent_trunkB (c : CtxId) : (s.represent c).trunkB = s.trunkB := by rw [represent_frame]
@[simp] theorem represent_samples (c : CtxId) : (s.represent c).samples = s.samples := by rw [represent_frame]
@[simp] theorem represent_segments (c : CtxId) : (s.represent c).segments = s.segments := by rw [represent_frame]
@[simp] theorem represent_serviceA (c : CtxId) : (s.represent c).serviceA = s.serviceA := by rw [represent_frame]
@[simp] theorem represent_serviceB (c : CtxId) : (s.represent c).serviceB = s.serviceB := by rw [represent_frame]
@[simp] theorem represent_home (c : CtxId) : (s.represent c).home = s.home := by rw [represent_frame]
@[simp] theorem represent_settings (c : CtxId) : (s.represent c).settings = s.settings := by rw [represent_frame]
@[simp] theorem represent_sectionFault (c : CtxId) : (s.represent c).sectionFault = s.sectionFault := by rw [represent_frame]
@[simp] theorem represent_trunkFaultA (c : CtxId) : (s.represent c).trunkFaultA = s.trunkFaultA := by rw [represent_frame]
@[simp] theorem represent_trunkFaultB (c : CtxId) : (s.represent c).trunkFaultB = s.trunkFaultB := by rw [represent_frame]
@[simp] theorem represent_loopFaults (c : CtxId) : (s.represent c).loopFaults = s.loopFaults := by rw [represent_frame]
@[simp] theorem represent_postFaults (c : CtxId) : (s.represent c).postFaults = s.postFaults := by rw [represent_frame]
@[simp] theorem represent_testResults (c : CtxId) : (s.represent c).testResults = s.testResults := by rw [represent_frame]
@[simp] theorem represent_marks (c : CtxId) : (s.represent c).marks = s.marks := by rw [represent_frame]
@[simp] theorem represent_abandons (c : CtxId) : (s.represent c).abandons = s.abandons := by rw [represent_frame]
@[simp] theorem represent_abandonPosts (c : CtxId) : (s.represent c).abandonPosts = s.abandonPosts := by rw [represent_frame]
@[simp] theorem represent_mask (c : CtxId) : (s.represent c).mask = s.mask := by rw [represent_frame]
@[simp] theorem represent_ring (c : CtxId) (j : LoopId) : (s.represent c).ring j = s.ring j := by simp [ring]
@[simp] theorem represent_feed (c : CtxId) (j : LoopId) : (s.represent c).feed j = s.feed j := by simp [feed]
@[simp] theorem represent_record (c : CtxId) (j : SlotId) : (s.represent c).record j = s.record j := by simp [record]
@[simp] theorem represent_trunk (c : CtxId) (j : Trunk) : (s.represent c).trunk j = s.trunk j := by cases j <;> simp [trunk]
@[simp] theorem represent_segment (c : CtxId) (j : SegId) : (s.represent c).segment j = s.segment j := by simp [segment]
@[simp] theorem represent_service (c : CtxId) (j : Trunk) : (s.represent c).service j = s.service j := by cases j <;> simp [service]
@[simp] theorem represent_param (c : CtxId) (j : Fin 25) : (s.represent c).param j = s.param j := by simp [param]

/-! ### foldl_endOffer -/

theorem foldl_endOffer_frame (xs : List CtxId) : xs.foldl State.endOffer s = { s with
    contexts := (xs.foldl State.endOffer s).contexts
    loops := (xs.foldl State.endOffer s).loops
    handed := (xs.foldl State.endOffer s).handed } := by
  apply State.ext <;> first | with_reducible rfl | (exact foldl_keeps _ _ (fun _ _ => by simp) _ _)
@[simp] theorem foldl_endOffer_pending (xs : List CtxId) : (xs.foldl State.endOffer s).pending = s.pending := by rw [foldl_endOffer_frame]
@[simp] theorem foldl_endOffer_rings (xs : List CtxId) : (xs.foldl State.endOffer s).rings = s.rings := by rw [foldl_endOffer_frame]
@[simp] theorem foldl_endOffer_feeds (xs : List CtxId) : (xs.foldl State.endOffer s).feeds = s.feeds := by rw [foldl_endOffer_frame]
@[simp] theorem foldl_endOffer_supply (xs : List CtxId) : (xs.foldl State.endOffer s).supply = s.supply := by rw [foldl_endOffer_frame]
@[simp] theorem foldl_endOffer_directory (xs : List CtxId) : (xs.foldl State.endOffer s).directory = s.directory := by rw [foldl_endOffer_frame]
@[simp] theorem foldl_endOffer_waiting (xs : List CtxId) : (xs.foldl State.endOffer s).waiting = s.waiting := by rw [foldl_endOffer_frame]
@[simp] theorem foldl_endOffer_entryCount (xs : List CtxId) : (xs.foldl State.endOffer s).entryCount = s.entryCount := by rw [foldl_endOffer_frame]
@[simp] theorem foldl_endOffer_routes (xs : List CtxId) : (xs.foldl State.endOffer s).routes = s.routes := by rw [foldl_endOffer_frame]
@[simp] theorem foldl_endOffer_plan (xs : List CtxId) : (xs.foldl State.endOffer s).plan = s.plan := by rw [foldl_endOffer_frame]
@[simp] theorem foldl_endOffer_trunkA (xs : List CtxId) : (xs.foldl State.endOffer s).trunkA = s.trunkA := by rw [foldl_endOffer_frame]
@[simp] theorem foldl_endOffer_trunkB (xs : List CtxId) : (xs.foldl State.endOffer s).trunkB = s.trunkB := by rw [foldl_endOffer_frame]
@[simp] theorem foldl_endOffer_paths (xs : List CtxId) : (xs.foldl State.endOffer s).paths = s.paths := by rw [foldl_endOffer_frame]
@[simp] theorem foldl_endOffer_samples (xs : List CtxId) : (xs.foldl State.endOffer s).samples = s.samples := by rw [foldl_endOffer_frame]
@[simp] theorem foldl_endOffer_segments (xs : List CtxId) : (xs.foldl State.endOffer s).segments = s.segments := by rw [foldl_endOffer_frame]
@[simp] theorem foldl_endOffer_players (xs : List CtxId) : (xs.foldl State.endOffer s).players = s.players := by rw [foldl_endOffer_frame]
@[simp] theorem foldl_endOffer_serviceA (xs : List CtxId) : (xs.foldl State.endOffer s).serviceA = s.serviceA := by rw [foldl_endOffer_frame]
@[simp] theorem foldl_endOffer_serviceB (xs : List CtxId) : (xs.foldl State.endOffer s).serviceB = s.serviceB := by rw [foldl_endOffer_frame]
@[simp] theorem foldl_endOffer_home (xs : List CtxId) : (xs.foldl State.endOffer s).home = s.home := by rw [foldl_endOffer_frame]
@[simp] theorem foldl_endOffer_settings (xs : List CtxId) : (xs.foldl State.endOffer s).settings = s.settings := by rw [foldl_endOffer_frame]
@[simp] theorem foldl_endOffer_sectionFault (xs : List CtxId) : (xs.foldl State.endOffer s).sectionFault = s.sectionFault := by rw [foldl_endOffer_frame]
@[simp] theorem foldl_endOffer_trunkFaultA (xs : List CtxId) : (xs.foldl State.endOffer s).trunkFaultA = s.trunkFaultA := by rw [foldl_endOffer_frame]
@[simp] theorem foldl_endOffer_trunkFaultB (xs : List CtxId) : (xs.foldl State.endOffer s).trunkFaultB = s.trunkFaultB := by rw [foldl_endOffer_frame]
@[simp] theorem foldl_endOffer_loopFaults (xs : List CtxId) : (xs.foldl State.endOffer s).loopFaults = s.loopFaults := by rw [foldl_endOffer_frame]
@[simp] theorem foldl_endOffer_postFaults (xs : List CtxId) : (xs.foldl State.endOffer s).postFaults = s.postFaults := by rw [foldl_endOffer_frame]
@[simp] theorem foldl_endOffer_testResults (xs : List CtxId) : (xs.foldl State.endOffer s).testResults = s.testResults := by rw [foldl_endOffer_frame]
@[simp] theorem foldl_endOffer_marks (xs : List CtxId) : (xs.foldl State.endOffer s).marks = s.marks := by rw [foldl_endOffer_frame]
@[simp] theorem foldl_endOffer_abandons (xs : List CtxId) : (xs.foldl State.endOffer s).abandons = s.abandons := by rw [foldl_endOffer_frame]
@[simp] theorem foldl_endOffer_abandonPosts (xs : List CtxId) : (xs.foldl State.endOffer s).abandonPosts = s.abandonPosts := by rw [foldl_endOffer_frame]
@[simp] theorem foldl_endOffer_mask (xs : List CtxId) : (xs.foldl State.endOffer s).mask = s.mask := by rw [foldl_endOffer_frame]
@[simp] theorem foldl_endOffer_ring (xs : List CtxId) (j : LoopId) : (xs.foldl State.endOffer s).ring j = s.ring j := by simp [ring]
@[simp] theorem foldl_endOffer_feed (xs : List CtxId) (j : LoopId) : (xs.foldl State.endOffer s).feed j = s.feed j := by simp [feed]
@[simp] theorem foldl_endOffer_record (xs : List CtxId) (j : SlotId) : (xs.foldl State.endOffer s).record j = s.record j := by simp [record]
@[simp] theorem foldl_endOffer_trunk (xs : List CtxId) (j : Trunk) : (xs.foldl State.endOffer s).trunk j = s.trunk j := by cases j <;> simp [trunk]
@[simp] theorem foldl_endOffer_path (xs : List CtxId) (j : CtxId) : (xs.foldl State.endOffer s).path j = s.path j := by simp [path]
@[simp] theorem foldl_endOffer_player (xs : List CtxId) (j : CtxId) : (xs.foldl State.endOffer s).player j = s.player j := by simp [player]
@[simp] theorem foldl_endOffer_segment (xs : List CtxId) (j : SegId) : (xs.foldl State.endOffer s).segment j = s.segment j := by simp [segment]
@[simp] theorem foldl_endOffer_service (xs : List CtxId) (j : Trunk) : (xs.foldl State.endOffer s).service j = s.service j := by cases j <;> simp [service]
@[simp] theorem foldl_endOffer_param (xs : List CtxId) (j : Fin 25) : (xs.foldl State.endOffer s).param j = s.param j := by simp [param]

/-! ### foldl_represent -/

theorem foldl_represent_frame (xs : List CtxId) : xs.foldl State.represent s = { s with
    contexts := (xs.foldl State.represent s).contexts
    paths := (xs.foldl State.represent s).paths
    entryCount := (xs.foldl State.represent s).entryCount
    waiting := (xs.foldl State.represent s).waiting
    players := (xs.foldl State.represent s).players
    loops := (xs.foldl State.represent s).loops
    handed := (xs.foldl State.represent s).handed } := by
  apply State.ext <;> first | with_reducible rfl | (exact foldl_keeps _ _ (fun _ _ => by simp) _ _)
@[simp] theorem foldl_represent_pending (xs : List CtxId) : (xs.foldl State.represent s).pending = s.pending := by rw [foldl_represent_frame]
@[simp] theorem foldl_represent_rings (xs : List CtxId) : (xs.foldl State.represent s).rings = s.rings := by rw [foldl_represent_frame]
@[simp] theorem foldl_represent_feeds (xs : List CtxId) : (xs.foldl State.represent s).feeds = s.feeds := by rw [foldl_represent_frame]
@[simp] theorem foldl_represent_supply (xs : List CtxId) : (xs.foldl State.represent s).supply = s.supply := by rw [foldl_represent_frame]
@[simp] theorem foldl_represent_directory (xs : List CtxId) : (xs.foldl State.represent s).directory = s.directory := by rw [foldl_represent_frame]
@[simp] theorem foldl_represent_routes (xs : List CtxId) : (xs.foldl State.represent s).routes = s.routes := by rw [foldl_represent_frame]
@[simp] theorem foldl_represent_plan (xs : List CtxId) : (xs.foldl State.represent s).plan = s.plan := by rw [foldl_represent_frame]
@[simp] theorem foldl_represent_trunkA (xs : List CtxId) : (xs.foldl State.represent s).trunkA = s.trunkA := by rw [foldl_represent_frame]
@[simp] theorem foldl_represent_trunkB (xs : List CtxId) : (xs.foldl State.represent s).trunkB = s.trunkB := by rw [foldl_represent_frame]
@[simp] theorem foldl_represent_samples (xs : List CtxId) : (xs.foldl State.represent s).samples = s.samples := by rw [foldl_represent_frame]
@[simp] theorem foldl_represent_segments (xs : List CtxId) : (xs.foldl State.represent s).segments = s.segments := by rw [foldl_represent_frame]
@[simp] theorem foldl_represent_serviceA (xs : List CtxId) : (xs.foldl State.represent s).serviceA = s.serviceA := by rw [foldl_represent_frame]
@[simp] theorem foldl_represent_serviceB (xs : List CtxId) : (xs.foldl State.represent s).serviceB = s.serviceB := by rw [foldl_represent_frame]
@[simp] theorem foldl_represent_home (xs : List CtxId) : (xs.foldl State.represent s).home = s.home := by rw [foldl_represent_frame]
@[simp] theorem foldl_represent_settings (xs : List CtxId) : (xs.foldl State.represent s).settings = s.settings := by rw [foldl_represent_frame]
@[simp] theorem foldl_represent_sectionFault (xs : List CtxId) : (xs.foldl State.represent s).sectionFault = s.sectionFault := by rw [foldl_represent_frame]
@[simp] theorem foldl_represent_trunkFaultA (xs : List CtxId) : (xs.foldl State.represent s).trunkFaultA = s.trunkFaultA := by rw [foldl_represent_frame]
@[simp] theorem foldl_represent_trunkFaultB (xs : List CtxId) : (xs.foldl State.represent s).trunkFaultB = s.trunkFaultB := by rw [foldl_represent_frame]
@[simp] theorem foldl_represent_loopFaults (xs : List CtxId) : (xs.foldl State.represent s).loopFaults = s.loopFaults := by rw [foldl_represent_frame]
@[simp] theorem foldl_represent_postFaults (xs : List CtxId) : (xs.foldl State.represent s).postFaults = s.postFaults := by rw [foldl_represent_frame]
@[simp] theorem foldl_represent_testResults (xs : List CtxId) : (xs.foldl State.represent s).testResults = s.testResults := by rw [foldl_represent_frame]
@[simp] theorem foldl_represent_marks (xs : List CtxId) : (xs.foldl State.represent s).marks = s.marks := by rw [foldl_represent_frame]
@[simp] theorem foldl_represent_abandons (xs : List CtxId) : (xs.foldl State.represent s).abandons = s.abandons := by rw [foldl_represent_frame]
@[simp] theorem foldl_represent_abandonPosts (xs : List CtxId) : (xs.foldl State.represent s).abandonPosts = s.abandonPosts := by rw [foldl_represent_frame]
@[simp] theorem foldl_represent_mask (xs : List CtxId) : (xs.foldl State.represent s).mask = s.mask := by rw [foldl_represent_frame]
@[simp] theorem foldl_represent_ring (xs : List CtxId) (j : LoopId) : (xs.foldl State.represent s).ring j = s.ring j := by simp [ring]
@[simp] theorem foldl_represent_feed (xs : List CtxId) (j : LoopId) : (xs.foldl State.represent s).feed j = s.feed j := by simp [feed]
@[simp] theorem foldl_represent_record (xs : List CtxId) (j : SlotId) : (xs.foldl State.represent s).record j = s.record j := by simp [record]
@[simp] theorem foldl_represent_trunk (xs : List CtxId) (j : Trunk) : (xs.foldl State.represent s).trunk j = s.trunk j := by cases j <;> simp [trunk]
@[simp] theorem foldl_represent_segment (xs : List CtxId) (j : SegId) : (xs.foldl State.represent s).segment j = s.segment j := by simp [segment]
@[simp] theorem foldl_represent_service (xs : List CtxId) (j : Trunk) : (xs.foldl State.represent s).service j = s.service j := by cases j <;> simp [service]
@[simp] theorem foldl_represent_param (xs : List CtxId) (j : Fin 25) : (xs.foldl State.represent s).param j = s.param j := by simp [param]

/-! ### failover -/

theorem failover_frame (t : Trunk) : s.failover t = { s with
    contexts := (s.failover t).contexts
    paths := (s.failover t).paths
    entryCount := (s.failover t).entryCount
    waiting := (s.failover t).waiting
    players := (s.failover t).players
    loops := (s.failover t).loops
    trunkA := (s.failover t).trunkA
    trunkB := (s.failover t).trunkB
    handed := (s.failover t).handed } := by
  apply State.ext <;> first | with_reducible rfl | (simp [failover])
@[simp] theorem failover_pending (t : Trunk) : (s.failover t).pending = s.pending := by rw [failover_frame]
@[simp] theorem failover_rings (t : Trunk) : (s.failover t).rings = s.rings := by rw [failover_frame]
@[simp] theorem failover_feeds (t : Trunk) : (s.failover t).feeds = s.feeds := by rw [failover_frame]
@[simp] theorem failover_supply (t : Trunk) : (s.failover t).supply = s.supply := by rw [failover_frame]
@[simp] theorem failover_directory (t : Trunk) : (s.failover t).directory = s.directory := by rw [failover_frame]
@[simp] theorem failover_routes (t : Trunk) : (s.failover t).routes = s.routes := by rw [failover_frame]
@[simp] theorem failover_plan (t : Trunk) : (s.failover t).plan = s.plan := by rw [failover_frame]
@[simp] theorem failover_samples (t : Trunk) : (s.failover t).samples = s.samples := by rw [failover_frame]
@[simp] theorem failover_segments (t : Trunk) : (s.failover t).segments = s.segments := by rw [failover_frame]
@[simp] theorem failover_serviceA (t : Trunk) : (s.failover t).serviceA = s.serviceA := by rw [failover_frame]
@[simp] theorem failover_serviceB (t : Trunk) : (s.failover t).serviceB = s.serviceB := by rw [failover_frame]
@[simp] theorem failover_home (t : Trunk) : (s.failover t).home = s.home := by rw [failover_frame]
@[simp] theorem failover_settings (t : Trunk) : (s.failover t).settings = s.settings := by rw [failover_frame]
@[simp] theorem failover_sectionFault (t : Trunk) : (s.failover t).sectionFault = s.sectionFault := by rw [failover_frame]
@[simp] theorem failover_trunkFaultA (t : Trunk) : (s.failover t).trunkFaultA = s.trunkFaultA := by rw [failover_frame]
@[simp] theorem failover_trunkFaultB (t : Trunk) : (s.failover t).trunkFaultB = s.trunkFaultB := by rw [failover_frame]
@[simp] theorem failover_loopFaults (t : Trunk) : (s.failover t).loopFaults = s.loopFaults := by rw [failover_frame]
@[simp] theorem failover_postFaults (t : Trunk) : (s.failover t).postFaults = s.postFaults := by rw [failover_frame]
@[simp] theorem failover_testResults (t : Trunk) : (s.failover t).testResults = s.testResults := by rw [failover_frame]
@[simp] theorem failover_marks (t : Trunk) : (s.failover t).marks = s.marks := by rw [failover_frame]
@[simp] theorem failover_abandons (t : Trunk) : (s.failover t).abandons = s.abandons := by rw [failover_frame]
@[simp] theorem failover_abandonPosts (t : Trunk) : (s.failover t).abandonPosts = s.abandonPosts := by rw [failover_frame]
@[simp] theorem failover_mask (t : Trunk) : (s.failover t).mask = s.mask := by rw [failover_frame]
@[simp] theorem failover_ring (t : Trunk) (j : LoopId) : (s.failover t).ring j = s.ring j := by simp [ring]
@[simp] theorem failover_feed (t : Trunk) (j : LoopId) : (s.failover t).feed j = s.feed j := by simp [feed]
@[simp] theorem failover_record (t : Trunk) (j : SlotId) : (s.failover t).record j = s.record j := by simp [record]
@[simp] theorem failover_segment (t : Trunk) (j : SegId) : (s.failover t).segment j = s.segment j := by simp [segment]
@[simp] theorem failover_service (t : Trunk) (j : Trunk) : (s.failover t).service j = s.service j := by cases j <;> simp [service]
@[simp] theorem failover_param (t : Trunk) (j : Fin 25) : (s.failover t).param j = s.param j := by simp [param]

end Sys2Proof.Machine.State
end

