-- ==== Sys2Proof/Laws/Completes.lean ====
section
/-! SUPPORT. No command stops the part: every command and every step answers a next state. -/

namespace Sys2Proof.Machine

open Sys2Proof

/-- Every command answers a next state. -/
theorem exec_next (i : Instr) (s : State) : ∃ t : State, exec i s = .next t := by
  cases i <;> exact ⟨_, rfl⟩

/-- Every step answers a next state. -/
theorem step_next (s : State) : ∃ t : State, step s = .next t := by
  unfold step
  split
  · exact exec_next _ _
  · unfold idleStep
    split
    · exact exec_next _ _
    · exact ⟨_, rfl⟩

end Sys2Proof.Machine
end

