-- ==== Sys2Proof/Laws/Desk.lean ====
section
/-! SUPPORT. What each operation of the desk requests and of the events of the call manager may change, one equation each, and what it leaves in every other field. -/

namespace Sys2Proof.Machine.State

open Sys2Proof

variable (s : State)

/-! ### confirm -/

theorem confirm_frame (t : Trunk) (ref : OfferRef) (request : Byte) (result : DeskResult) (chan : Nat) : s.confirm t ref request result chan = { s with
    trunkA := (s.confirm t ref request result chan).trunkA
    trunkB := (s.confirm t ref request result chan).trunkB
    handed := (s.confirm t ref request result chan).handed } := by
  apply State.ext <;> first | with_reducible rfl | (simp [confirm])
@[simp] theorem confirm_pending (t : Trunk) (ref : OfferRef) (request : Byte) (result : DeskResult) (chan : Nat) : (s.confirm t ref request result chan).pending = s.pending := by rw [confirm_frame]
@[simp] theorem confirm_loops (t : Trunk) (ref : OfferRef) (request : Byte) (result : DeskResult) (chan : Nat) : (s.confirm t ref request result chan).loops = s.loops := by rw [confirm_frame]
@[simp] theorem confirm_rings (t : Trunk) (ref : OfferRef) (request : Byte) (result : DeskResult) (chan : Nat) : (s.confirm t ref request result chan).rings = s.rings := by rw [confirm_frame]
@[simp] theorem confirm_feeds (t : Trunk) (ref : OfferRef) (request : Byte) (result : DeskResult) (chan : Nat) : (s.confirm t ref request result chan).feeds = s.feeds := by rw [confirm_frame]
@[simp] theorem confirm_supply (t : Trunk) (ref : OfferRef) (request : Byte) (result : DeskResult) (chan : Nat) : (s.confirm t ref request result chan).supply = s.supply := by rw [confirm_frame]
@[simp] theorem confirm_directory (t : Trunk) (ref : OfferRef) (request : Byte) (result : DeskResult) (chan : Nat) : (s.confirm t ref request result chan).directory = s.directory := by rw [confirm_frame]
@[simp] theorem confirm_contexts (t : Trunk) (ref : OfferRef) (request : Byte) (result : DeskResult) (chan : Nat) : (s.confirm t ref request result chan).contexts = s.contexts := by rw [confirm_frame]
@[simp] theorem confirm_waiting (t : Trunk) (ref : OfferRef) (request : Byte) (result : DeskResult) (chan : Nat) : (s.confirm t ref request result chan).waiting = s.waiting := by rw [confirm_frame]
@[simp] theorem confirm_entryCount (t : Trunk) (ref : OfferRef) (request : Byte) (result : DeskResult) (chan : Nat) : (s.confirm t ref request result chan).entryCount = s.entryCount := by rw [confirm_frame]
@[simp] theorem confirm_routes (t : Trunk) (ref : OfferRef) (request : Byte) (result : DeskResult) (chan : Nat) : (s.confirm t ref request result chan).routes = s.routes := by rw [confirm_frame]
@[simp] theorem confirm_plan (t : Trunk) (ref : OfferRef) (request : Byte) (result : DeskResult) (chan : Nat) : (s.confirm t ref request result chan).plan = s.plan := by rw [confirm_frame]
@[simp] theorem confirm_paths (t : Trunk) (ref : OfferRef) (request : Byte) (result : DeskResult) (chan : Nat) : (s.confirm t ref request result chan).paths = s.paths := by rw [confirm_frame]
@[simp] theorem confirm_samples (t : Trunk) (ref : OfferRef) (request : Byte) (result : DeskResult) (chan : Nat) : (s.confirm t ref request result chan).samples = s.samples := by rw [confirm_frame]
@[simp] theorem confirm_segments (t : Trunk) (ref : OfferRef) (request : Byte) (result : DeskResult) (chan : Nat) : (s.confirm t ref request result chan).segments = s.segments := by rw [confirm_frame]
@[simp] theorem confirm_players (t : Trunk) (ref : OfferRef) (request : Byte) (result : DeskResult) (chan : Nat) : (s.confirm t ref request result chan).players = s.players := by rw [confirm_frame]
@[simp] theorem confirm_serviceA (t : Trunk) (ref : OfferRef) (request : Byte) (result : DeskResult) (chan : Nat) : (s.confirm t ref request result chan).serviceA = s.serviceA := by rw [confirm_frame]
@[simp] theorem confirm_serviceB (t : Trunk) (ref : OfferRef) (request : Byte) (result : DeskResult) (chan : Nat) : (s.confirm t ref request result chan).serviceB = s.serviceB := by rw [confirm_frame]
@[simp] theorem confirm_home (t : Trunk) (ref : OfferRef) (request : Byte) (result : DeskResult) (chan : Nat) : (s.confirm t ref request result chan).home = s.home := by rw [confirm_frame]
@[simp] theorem confirm_settings (t : Trunk) (ref : OfferRef) (request : Byte) (result : DeskResult) (chan : Nat) : (s.confirm t ref request result chan).settings = s.settings := by rw [confirm_frame]
@[simp] theorem confirm_sectionFault (t : Trunk) (ref : OfferRef) (request : Byte) (result : DeskResult) (chan : Nat) : (s.confirm t ref request result chan).sectionFault = s.sectionFault := by rw [confirm_frame]
@[simp] theorem confirm_trunkFaultA (t : Trunk) (ref : OfferRef) (request : Byte) (result : DeskResult) (chan : Nat) : (s.confirm t ref request result chan).trunkFaultA = s.trunkFaultA := by rw [confirm_frame]
@[simp] theorem confirm_trunkFaultB (t : Trunk) (ref : OfferRef) (request : Byte) (result : DeskResult) (chan : Nat) : (s.confirm t ref request result chan).trunkFaultB = s.trunkFaultB := by rw [confirm_frame]
@[simp] theorem confirm_loopFaults (t : Trunk) (ref : OfferRef) (request : Byte) (result : DeskResult) (chan : Nat) : (s.confirm t ref request result chan).loopFaults = s.loopFaults := by rw [confirm_frame]
@[simp] theorem confirm_postFaults (t : Trunk) (ref : OfferRef) (request : Byte) (result : DeskResult) (chan : Nat) : (s.confirm t ref request result chan).postFaults = s.postFaults := by rw [confirm_frame]
@[simp] theorem confirm_testResults (t : Trunk) (ref : OfferRef) (request : Byte) (result : DeskResult) (chan : Nat) : (s.confirm t ref request result chan).testResults = s.testResults := by rw [confirm_frame]
@[simp] theorem confirm_marks (t : Trunk) (ref : OfferRef) (request : Byte) (result : DeskResult) (chan : Nat) : (s.confirm t ref request result chan).marks = s.marks := by rw [confirm_frame]
@[simp] theorem confirm_abandons (t : Trunk) (ref : OfferRef) (request : Byte) (result : DeskResult) (chan : Nat) : (s.confirm t ref request result chan).abandons = s.abandons := by rw [confirm_frame]
@[simp] theorem confirm_abandonPosts (t : Trunk) (ref : OfferRef) (request : Byte) (result : DeskResult) (chan : Nat) : (s.confirm t ref request result chan).abandonPosts = s.abandonPosts := by rw [confirm_frame]
@[simp] theorem confirm_mask (t : Trunk) (ref : OfferRef) (request : Byte) (result : DeskResult) (chan : Nat) : (s.confirm t ref request result chan).mask = s.mask := by rw [confirm_frame]
@[simp] theorem confirm_loop (t : Trunk) (ref : OfferRef) (request : Byte) (result : DeskResult) (chan : Nat) (j : LoopId) : (s.confirm t ref request result chan).loop j = s.loop j := by simp [loop]
@[simp] theorem confirm_ring (t : Trunk) (ref : OfferRef) (request : Byte) (result : DeskResult) (chan : Nat) (j : LoopId) : (s.confirm t ref request result chan).ring j = s.ring j := by simp [ring]
@[simp] theorem confirm_feed (t : Trunk) (ref : OfferRef) (request : Byte) (result : DeskResult) (chan : Nat) (j : LoopId) : (s.confirm t ref request result chan).feed j = s.feed j := by simp [feed]
@[simp] theorem confirm_record (t : Trunk) (ref : OfferRef) (request : Byte) (result : DeskResult) (chan : Nat) (j : SlotId) : (s.confirm t ref request result chan).record j = s.record j := by simp [record]
@[simp] theorem confirm_ctx (t : Trunk) (ref : OfferRef) (request : Byte) (result : DeskResult) (chan : Nat) (j : CtxId) : (s.confirm t ref request result chan).ctx j = s.ctx j := by simp [ctx]
@[simp] theorem confirm_path (t : Trunk) (ref : OfferRef) (request : Byte) (result : DeskResult) (chan : Nat) (j : CtxId) : (s.confirm t ref request result chan).path j = s.path j := by simp [path]
@[simp] theorem confirm_player (t : Trunk) (ref : OfferRef) (request : Byte) (result : DeskResult) (chan : Nat) (j : CtxId) : (s.confirm t ref request result chan).player j = s.player j := by simp [player]
@[simp] theorem confirm_segment (t : Trunk) (ref : OfferRef) (request : Byte) (result : DeskResult) (chan : Nat) (j : SegId) : (s.confirm t ref request result chan).segment j = s.segment j := by simp [segment]
@[simp] theorem confirm_service (t : Trunk) (ref : OfferRef) (request : Byte) (result : DeskResult) (chan : Nat) (j : Trunk) : (s.confirm t ref request result chan).service j = s.service j := by cases j <;> simp [service]
@[simp] theorem confirm_param (t : Trunk) (ref : OfferRef) (request : Byte) (result : DeskResult) (chan : Nat) (j : Fin 25) : (s.confirm t ref request result chan).param j = s.param j := by simp [param]

/-! ### answerGone -/

theorem answerGone_frame (t : Trunk) (ref : OfferRef) (request : Byte) : s.answerGone t ref request = { s with
    trunkA := (s.answerGone t ref request).trunkA
    trunkB := (s.answerGone t ref request).trunkB
    handed := (s.answerGone t ref request).handed } := by
  apply State.ext <;> first | with_reducible rfl | (simp [answerGone])
@[simp] theorem answerGone_pending (t : Trunk) (ref : OfferRef) (request : Byte) : (s.answerGone t ref request).pending = s.pending := by rw [answerGone_frame]
@[simp] theorem answerGone_loops (t : Trunk) (ref : OfferRef) (request : Byte) : (s.answerGone t ref request).loops = s.loops := by rw [answerGone_frame]
@[simp] theorem answerGone_rings (t : Trunk) (ref : OfferRef) (request : Byte) : (s.answerGone t ref request).rings = s.rings := by rw [answerGone_frame]
@[simp] theorem answerGone_feeds (t : Trunk) (ref : OfferRef) (request : Byte) : (s.answerGone t ref request).feeds = s.feeds := by rw [answerGone_frame]
@[simp] theorem answerGone_supply (t : Trunk) (ref : OfferRef) (request : Byte) : (s.answerGone t ref request).supply = s.supply := by rw [answerGone_frame]
@[simp] theorem answerGone_directory (t : Trunk) (ref : OfferRef) (request : Byte) : (s.answerGone t ref request).directory = s.directory := by rw [answerGone_frame]
@[simp] theorem answerGone_contexts (t : Trunk) (ref : OfferRef) (request : Byte) : (s.answerGone t ref request).contexts = s.contexts := by rw [answerGone_frame]
@[simp] theorem answerGone_waiting (t : Trunk) (ref : OfferRef) (request : Byte) : (s.answerGone t ref request).waiting = s.waiting := by rw [answerGone_frame]
@[simp] theorem answerGone_entryCount (t : Trunk) (ref : OfferRef) (request : Byte) : (s.answerGone t ref request).entryCount = s.entryCount := by rw [answerGone_frame]
@[simp] theorem answerGone_routes (t : Trunk) (ref : OfferRef) (request : Byte) : (s.answerGone t ref request).routes = s.routes := by rw [answerGone_frame]
@[simp] theorem answerGone_plan (t : Trunk) (ref : OfferRef) (request : Byte) : (s.answerGone t ref request).plan = s.plan := by rw [answerGone_frame]
@[simp] theorem answerGone_paths (t : Trunk) (ref : OfferRef) (request : Byte) : (s.answerGone t ref request).paths = s.paths := by rw [answerGone_frame]
@[simp] theorem answerGone_samples (t : Trunk) (ref : OfferRef) (request : Byte) : (s.answerGone t ref request).samples = s.samples := by rw [answerGone_frame]
@[simp] theorem answerGone_segments (t : Trunk) (ref : OfferRef) (request : Byte) : (s.answerGone t ref request).segments = s.segments := by rw [answerGone_frame]
@[simp] theorem answerGone_players (t : Trunk) (ref : OfferRef) (request : Byte) : (s.answerGone t ref request).players = s.players := by rw [answerGone_frame]
@[simp] theorem answerGone_serviceA (t : Trunk) (ref : OfferRef) (request : Byte) : (s.answerGone t ref request).serviceA = s.serviceA := by rw [answerGone_frame]
@[simp] theorem answerGone_serviceB (t : Trunk) (ref : OfferRef) (request : Byte) : (s.answerGone t ref request).serviceB = s.serviceB := by rw [answerGone_frame]
@[simp] theorem answerGone_home (t : Trunk) (ref : OfferRef) (request : Byte) : (s.answerGone t ref request).home = s.home := by rw [answerGone_frame]
@[simp] theorem answerGone_settings (t : Trunk) (ref : OfferRef) (request : Byte) : (s.answerGone t ref request).settings = s.settings := by rw [answerGone_frame]
@[simp] theorem answerGone_sectionFault (t : Trunk) (ref : OfferRef) (request : Byte) : (s.answerGone t ref request).sectionFault = s.sectionFault := by rw [answerGone_frame]
@[simp] theorem answerGone_trunkFaultA (t : Trunk) (ref : OfferRef) (request : Byte) : (s.answerGone t ref request).trunkFaultA = s.trunkFaultA := by rw [answerGone_frame]
@[simp] theorem answerGone_trunkFaultB (t : Trunk) (ref : OfferRef) (request : Byte) : (s.answerGone t ref request).trunkFaultB = s.trunkFaultB := by rw [answerGone_frame]
@[simp] theorem answerGone_loopFaults (t : Trunk) (ref : OfferRef) (request : Byte) : (s.answerGone t ref request).loopFaults = s.loopFaults := by rw [answerGone_frame]
@[simp] theorem answerGone_postFaults (t : Trunk) (ref : OfferRef) (request : Byte) : (s.answerGone t ref request).postFaults = s.postFaults := by rw [answerGone_frame]
@[simp] theorem answerGone_testResults (t : Trunk) (ref : OfferRef) (request : Byte) : (s.answerGone t ref request).testResults = s.testResults := by rw [answerGone_frame]
@[simp] theorem answerGone_marks (t : Trunk) (ref : OfferRef) (request : Byte) : (s.answerGone t ref request).marks = s.marks := by rw [answerGone_frame]
@[simp] theorem answerGone_abandons (t : Trunk) (ref : OfferRef) (request : Byte) : (s.answerGone t ref request).abandons = s.abandons := by rw [answerGone_frame]
@[simp] theorem answerGone_abandonPosts (t : Trunk) (ref : OfferRef) (request : Byte) : (s.answerGone t ref request).abandonPosts = s.abandonPosts := by rw [answerGone_frame]
@[simp] theorem answerGone_mask (t : Trunk) (ref : OfferRef) (request : Byte) : (s.answerGone t ref request).mask = s.mask := by rw [answerGone_frame]
@[simp] theorem answerGone_loop (t : Trunk) (ref : OfferRef) (request : Byte) (j : LoopId) : (s.answerGone t ref request).loop j = s.loop j := by simp [loop]
@[simp] theorem answerGone_ring (t : Trunk) (ref : OfferRef) (request : Byte) (j : LoopId) : (s.answerGone t ref request).ring j = s.ring j := by simp [ring]
@[simp] theorem answerGone_feed (t : Trunk) (ref : OfferRef) (request : Byte) (j : LoopId) : (s.answerGone t ref request).feed j = s.feed j := by simp [feed]
@[simp] theorem answerGone_record (t : Trunk) (ref : OfferRef) (request : Byte) (j : SlotId) : (s.answerGone t ref request).record j = s.record j := by simp [record]
@[simp] theorem answerGone_ctx (t : Trunk) (ref : OfferRef) (request : Byte) (j : CtxId) : (s.answerGone t ref request).ctx j = s.ctx j := by simp [ctx]
@[simp] theorem answerGone_path (t : Trunk) (ref : OfferRef) (request : Byte) (j : CtxId) : (s.answerGone t ref request).path j = s.path j := by simp [path]
@[simp] theorem answerGone_player (t : Trunk) (ref : OfferRef) (request : Byte) (j : CtxId) : (s.answerGone t ref request).player j = s.player j := by simp [player]
@[simp] theorem answerGone_segment (t : Trunk) (ref : OfferRef) (request : Byte) (j : SegId) : (s.answerGone t ref request).segment j = s.segment j := by simp [segment]
@[simp] theorem answerGone_service (t : Trunk) (ref : OfferRef) (request : Byte) (j : Trunk) : (s.answerGone t ref request).service j = s.service j := by cases j <;> simp [service]
@[simp] theorem answerGone_param (t : Trunk) (ref : OfferRef) (request : Byte) (j : Fin 25) : (s.answerGone t ref request).param j = s.param j := by simp [param]

/-! ### wrongState -/

theorem wrongState_frame (t : Trunk) (ref : OfferRef) (request : Byte) : s.wrongState t ref request = { s with
    trunkA := (s.wrongState t ref request).trunkA
    trunkB := (s.wrongState t ref request).trunkB
    handed := (s.wrongState t ref request).handed } := by
  apply State.ext <;> first | with_reducible rfl | (simp [wrongState])
@[simp] theorem wrongState_pending (t : Trunk) (ref : OfferRef) (request : Byte) : (s.wrongState t ref request).pending = s.pending := by rw [wrongState_frame]
@[simp] theorem wrongState_loops (t : Trunk) (ref : OfferRef) (request : Byte) : (s.wrongState t ref request).loops = s.loops := by rw [wrongState_frame]
@[simp] theorem wrongState_rings (t : Trunk) (ref : OfferRef) (request : Byte) : (s.wrongState t ref request).rings = s.rings := by rw [wrongState_frame]
@[simp] theorem wrongState_feeds (t : Trunk) (ref : OfferRef) (request : Byte) : (s.wrongState t ref request).feeds = s.feeds := by rw [wrongState_frame]
@[simp] theorem wrongState_supply (t : Trunk) (ref : OfferRef) (request : Byte) : (s.wrongState t ref request).supply = s.supply := by rw [wrongState_frame]
@[simp] theorem wrongState_directory (t : Trunk) (ref : OfferRef) (request : Byte) : (s.wrongState t ref request).directory = s.directory := by rw [wrongState_frame]
@[simp] theorem wrongState_contexts (t : Trunk) (ref : OfferRef) (request : Byte) : (s.wrongState t ref request).contexts = s.contexts := by rw [wrongState_frame]
@[simp] theorem wrongState_waiting (t : Trunk) (ref : OfferRef) (request : Byte) : (s.wrongState t ref request).waiting = s.waiting := by rw [wrongState_frame]
@[simp] theorem wrongState_entryCount (t : Trunk) (ref : OfferRef) (request : Byte) : (s.wrongState t ref request).entryCount = s.entryCount := by rw [wrongState_frame]
@[simp] theorem wrongState_routes (t : Trunk) (ref : OfferRef) (request : Byte) : (s.wrongState t ref request).routes = s.routes := by rw [wrongState_frame]
@[simp] theorem wrongState_plan (t : Trunk) (ref : OfferRef) (request : Byte) : (s.wrongState t ref request).plan = s.plan := by rw [wrongState_frame]
@[simp] theorem wrongState_paths (t : Trunk) (ref : OfferRef) (request : Byte) : (s.wrongState t ref request).paths = s.paths := by rw [wrongState_frame]
@[simp] theorem wrongState_samples (t : Trunk) (ref : OfferRef) (request : Byte) : (s.wrongState t ref request).samples = s.samples := by rw [wrongState_frame]
@[simp] theorem wrongState_segments (t : Trunk) (ref : OfferRef) (request : Byte) : (s.wrongState t ref request).segments = s.segments := by rw [wrongState_frame]
@[simp] theorem wrongState_players (t : Trunk) (ref : OfferRef) (request : Byte) : (s.wrongState t ref request).players = s.players := by rw [wrongState_frame]
@[simp] theorem wrongState_serviceA (t : Trunk) (ref : OfferRef) (request : Byte) : (s.wrongState t ref request).serviceA = s.serviceA := by rw [wrongState_frame]
@[simp] theorem wrongState_serviceB (t : Trunk) (ref : OfferRef) (request : Byte) : (s.wrongState t ref request).serviceB = s.serviceB := by rw [wrongState_frame]
@[simp] theorem wrongState_home (t : Trunk) (ref : OfferRef) (request : Byte) : (s.wrongState t ref request).home = s.home := by rw [wrongState_frame]
@[simp] theorem wrongState_settings (t : Trunk) (ref : OfferRef) (request : Byte) : (s.wrongState t ref request).settings = s.settings := by rw [wrongState_frame]
@[simp] theorem wrongState_sectionFault (t : Trunk) (ref : OfferRef) (request : Byte) : (s.wrongState t ref request).sectionFault = s.sectionFault := by rw [wrongState_frame]
@[simp] theorem wrongState_trunkFaultA (t : Trunk) (ref : OfferRef) (request : Byte) : (s.wrongState t ref request).trunkFaultA = s.trunkFaultA := by rw [wrongState_frame]
@[simp] theorem wrongState_trunkFaultB (t : Trunk) (ref : OfferRef) (request : Byte) : (s.wrongState t ref request).trunkFaultB = s.trunkFaultB := by rw [wrongState_frame]
@[simp] theorem wrongState_loopFaults (t : Trunk) (ref : OfferRef) (request : Byte) : (s.wrongState t ref request).loopFaults = s.loopFaults := by rw [wrongState_frame]
@[simp] theorem wrongState_postFaults (t : Trunk) (ref : OfferRef) (request : Byte) : (s.wrongState t ref request).postFaults = s.postFaults := by rw [wrongState_frame]
@[simp] theorem wrongState_testResults (t : Trunk) (ref : OfferRef) (request : Byte) : (s.wrongState t ref request).testResults = s.testResults := by rw [wrongState_frame]
@[simp] theorem wrongState_marks (t : Trunk) (ref : OfferRef) (request : Byte) : (s.wrongState t ref request).marks = s.marks := by rw [wrongState_frame]
@[simp] theorem wrongState_abandons (t : Trunk) (ref : OfferRef) (request : Byte) : (s.wrongState t ref request).abandons = s.abandons := by rw [wrongState_frame]
@[simp] theorem wrongState_abandonPosts (t : Trunk) (ref : OfferRef) (request : Byte) : (s.wrongState t ref request).abandonPosts = s.abandonPosts := by rw [wrongState_frame]
@[simp] theorem wrongState_mask (t : Trunk) (ref : OfferRef) (request : Byte) : (s.wrongState t ref request).mask = s.mask := by rw [wrongState_frame]
@[simp] theorem wrongState_loop (t : Trunk) (ref : OfferRef) (request : Byte) (j : LoopId) : (s.wrongState t ref request).loop j = s.loop j := by simp [loop]
@[simp] theorem wrongState_ring (t : Trunk) (ref : OfferRef) (request : Byte) (j : LoopId) : (s.wrongState t ref request).ring j = s.ring j := by simp [ring]
@[simp] theorem wrongState_feed (t : Trunk) (ref : OfferRef) (request : Byte) (j : LoopId) : (s.wrongState t ref request).feed j = s.feed j := by simp [feed]
@[simp] theorem wrongState_record (t : Trunk) (ref : OfferRef) (request : Byte) (j : SlotId) : (s.wrongState t ref request).record j = s.record j := by simp [record]
@[simp] theorem wrongState_ctx (t : Trunk) (ref : OfferRef) (request : Byte) (j : CtxId) : (s.wrongState t ref request).ctx j = s.ctx j := by simp [ctx]
@[simp] theorem wrongState_path (t : Trunk) (ref : OfferRef) (request : Byte) (j : CtxId) : (s.wrongState t ref request).path j = s.path j := by simp [path]
@[simp] theorem wrongState_player (t : Trunk) (ref : OfferRef) (request : Byte) (j : CtxId) : (s.wrongState t ref request).player j = s.player j := by simp [player]
@[simp] theorem wrongState_segment (t : Trunk) (ref : OfferRef) (request : Byte) (j : SegId) : (s.wrongState t ref request).segment j = s.segment j := by simp [segment]
@[simp] theorem wrongState_service (t : Trunk) (ref : OfferRef) (request : Byte) (j : Trunk) : (s.wrongState t ref request).service j = s.service j := by cases j <;> simp [service]
@[simp] theorem wrongState_param (t : Trunk) (ref : OfferRef) (request : Byte) (j : Fin 25) : (s.wrongState t ref request).param j = s.param j := by simp [param]

/-! ### deskOk -/

theorem deskOk_frame (t : Trunk) (ref : OfferRef) (request : Byte) : s.deskOk t ref request = { s with
    trunkA := (s.deskOk t ref request).trunkA
    trunkB := (s.deskOk t ref request).trunkB
    handed := (s.deskOk t ref request).handed } := by
  apply State.ext <;> first | with_reducible rfl | (simp [deskOk])
@[simp] theorem deskOk_pending (t : Trunk) (ref : OfferRef) (request : Byte) : (s.deskOk t ref request).pending = s.pending := by rw [deskOk_frame]
@[simp] theorem deskOk_loops (t : Trunk) (ref : OfferRef) (request : Byte) : (s.deskOk t ref request).loops = s.loops := by rw [deskOk_frame]
@[simp] theorem deskOk_rings (t : Trunk) (ref : OfferRef) (request : Byte) : (s.deskOk t ref request).rings = s.rings := by rw [deskOk_frame]
@[simp] theorem deskOk_feeds (t : Trunk) (ref : OfferRef) (request : Byte) : (s.deskOk t ref request).feeds = s.feeds := by rw [deskOk_frame]
@[simp] theorem deskOk_supply (t : Trunk) (ref : OfferRef) (request : Byte) : (s.deskOk t ref request).supply = s.supply := by rw [deskOk_frame]
@[simp] theorem deskOk_directory (t : Trunk) (ref : OfferRef) (request : Byte) : (s.deskOk t ref request).directory = s.directory := by rw [deskOk_frame]
@[simp] theorem deskOk_contexts (t : Trunk) (ref : OfferRef) (request : Byte) : (s.deskOk t ref request).contexts = s.contexts := by rw [deskOk_frame]
@[simp] theorem deskOk_waiting (t : Trunk) (ref : OfferRef) (request : Byte) : (s.deskOk t ref request).waiting = s.waiting := by rw [deskOk_frame]
@[simp] theorem deskOk_entryCount (t : Trunk) (ref : OfferRef) (request : Byte) : (s.deskOk t ref request).entryCount = s.entryCount := by rw [deskOk_frame]
@[simp] theorem deskOk_routes (t : Trunk) (ref : OfferRef) (request : Byte) : (s.deskOk t ref request).routes = s.routes := by rw [deskOk_frame]
@[simp] theorem deskOk_plan (t : Trunk) (ref : OfferRef) (request : Byte) : (s.deskOk t ref request).plan = s.plan := by rw [deskOk_frame]
@[simp] theorem deskOk_paths (t : Trunk) (ref : OfferRef) (request : Byte) : (s.deskOk t ref request).paths = s.paths := by rw [deskOk_frame]
@[simp] theorem deskOk_samples (t : Trunk) (ref : OfferRef) (request : Byte) : (s.deskOk t ref request).samples = s.samples := by rw [deskOk_frame]
@[simp] theorem deskOk_segments (t : Trunk) (ref : OfferRef) (request : Byte) : (s.deskOk t ref request).segments = s.segments := by rw [deskOk_frame]
@[simp] theorem deskOk_players (t : Trunk) (ref : OfferRef) (request : Byte) : (s.deskOk t ref request).players = s.players := by rw [deskOk_frame]
@[simp] theorem deskOk_serviceA (t : Trunk) (ref : OfferRef) (request : Byte) : (s.deskOk t ref request).serviceA = s.serviceA := by rw [deskOk_frame]
@[simp] theorem deskOk_serviceB (t : Trunk) (ref : OfferRef) (request : Byte) : (s.deskOk t ref request).serviceB = s.serviceB := by rw [deskOk_frame]
@[simp] theorem deskOk_home (t : Trunk) (ref : OfferRef) (request : Byte) : (s.deskOk t ref request).home = s.home := by rw [deskOk_frame]
@[simp] theorem deskOk_settings (t : Trunk) (ref : OfferRef) (request : Byte) : (s.deskOk t ref request).settings = s.settings := by rw [deskOk_frame]
@[simp] theorem deskOk_sectionFault (t : Trunk) (ref : OfferRef) (request : Byte) : (s.deskOk t ref request).sectionFault = s.sectionFault := by rw [deskOk_frame]
@[simp] theorem deskOk_trunkFaultA (t : Trunk) (ref : OfferRef) (request : Byte) : (s.deskOk t ref request).trunkFaultA = s.trunkFaultA := by rw [deskOk_frame]
@[simp] theorem deskOk_trunkFaultB (t : Trunk) (ref : OfferRef) (request : Byte) : (s.deskOk t ref request).trunkFaultB = s.trunkFaultB := by rw [deskOk_frame]
@[simp] theorem deskOk_loopFaults (t : Trunk) (ref : OfferRef) (request : Byte) : (s.deskOk t ref request).loopFaults = s.loopFaults := by rw [deskOk_frame]
@[simp] theorem deskOk_postFaults (t : Trunk) (ref : OfferRef) (request : Byte) : (s.deskOk t ref request).postFaults = s.postFaults := by rw [deskOk_frame]
@[simp] theorem deskOk_testResults (t : Trunk) (ref : OfferRef) (request : Byte) : (s.deskOk t ref request).testResults = s.testResults := by rw [deskOk_frame]
@[simp] theorem deskOk_marks (t : Trunk) (ref : OfferRef) (request : Byte) : (s.deskOk t ref request).marks = s.marks := by rw [deskOk_frame]
@[simp] theorem deskOk_abandons (t : Trunk) (ref : OfferRef) (request : Byte) : (s.deskOk t ref request).abandons = s.abandons := by rw [deskOk_frame]
@[simp] theorem deskOk_abandonPosts (t : Trunk) (ref : OfferRef) (request : Byte) : (s.deskOk t ref request).abandonPosts = s.abandonPosts := by rw [deskOk_frame]
@[simp] theorem deskOk_mask (t : Trunk) (ref : OfferRef) (request : Byte) : (s.deskOk t ref request).mask = s.mask := by rw [deskOk_frame]
@[simp] theorem deskOk_loop (t : Trunk) (ref : OfferRef) (request : Byte) (j : LoopId) : (s.deskOk t ref request).loop j = s.loop j := by simp [loop]
@[simp] theorem deskOk_ring (t : Trunk) (ref : OfferRef) (request : Byte) (j : LoopId) : (s.deskOk t ref request).ring j = s.ring j := by simp [ring]
@[simp] theorem deskOk_feed (t : Trunk) (ref : OfferRef) (request : Byte) (j : LoopId) : (s.deskOk t ref request).feed j = s.feed j := by simp [feed]
@[simp] theorem deskOk_record (t : Trunk) (ref : OfferRef) (request : Byte) (j : SlotId) : (s.deskOk t ref request).record j = s.record j := by simp [record]
@[simp] theorem deskOk_ctx (t : Trunk) (ref : OfferRef) (request : Byte) (j : CtxId) : (s.deskOk t ref request).ctx j = s.ctx j := by simp [ctx]
@[simp] theorem deskOk_path (t : Trunk) (ref : OfferRef) (request : Byte) (j : CtxId) : (s.deskOk t ref request).path j = s.path j := by simp [path]
@[simp] theorem deskOk_player (t : Trunk) (ref : OfferRef) (request : Byte) (j : CtxId) : (s.deskOk t ref request).player j = s.player j := by simp [player]
@[simp] theorem deskOk_segment (t : Trunk) (ref : OfferRef) (request : Byte) (j : SegId) : (s.deskOk t ref request).segment j = s.segment j := by simp [segment]
@[simp] theorem deskOk_service (t : Trunk) (ref : OfferRef) (request : Byte) (j : Trunk) : (s.deskOk t ref request).service j = s.service j := by cases j <;> simp [service]
@[simp] theorem deskOk_param (t : Trunk) (ref : OfferRef) (request : Byte) (j : Fin 25) : (s.deskOk t ref request).param j = s.param j := by simp [param]

/-! ### useChan -/

theorem useChan_frame (g : Leg) : s.useChan g = { s with
    trunkA := (s.useChan g).trunkA
    trunkB := (s.useChan g).trunkB } := by
  apply State.ext <;> first | with_reducible rfl | (simp [useChan])
@[simp] theorem useChan_pending (g : Leg) : (s.useChan g).pending = s.pending := by rw [useChan_frame]
@[simp] theorem useChan_handed (g : Leg) : (s.useChan g).handed = s.handed := by rw [useChan_frame]
@[simp] theorem useChan_loops (g : Leg) : (s.useChan g).loops = s.loops := by rw [useChan_frame]
@[simp] theorem useChan_rings (g : Leg) : (s.useChan g).rings = s.rings := by rw [useChan_frame]
@[simp] theorem useChan_feeds (g : Leg) : (s.useChan g).feeds = s.feeds := by rw [useChan_frame]
@[simp] theorem useChan_supply (g : Leg) : (s.useChan g).supply = s.supply := by rw [useChan_frame]
@[simp] theorem useChan_directory (g : Leg) : (s.useChan g).directory = s.directory := by rw [useChan_frame]
@[simp] theorem useChan_contexts (g : Leg) : (s.useChan g).contexts = s.contexts := by rw [useChan_frame]
@[simp] theorem useChan_waiting (g : Leg) : (s.useChan g).waiting = s.waiting := by rw [useChan_frame]
@[simp] theorem useChan_entryCount (g : Leg) : (s.useChan g).entryCount = s.entryCount := by rw [useChan_frame]
@[simp] theorem useChan_routes (g : Leg) : (s.useChan g).routes = s.routes := by rw [useChan_frame]
@[simp] theorem useChan_plan (g : Leg) : (s.useChan g).plan = s.plan := by rw [useChan_frame]
@[simp] theorem useChan_paths (g : Leg) : (s.useChan g).paths = s.paths := by rw [useChan_frame]
@[simp] theorem useChan_samples (g : Leg) : (s.useChan g).samples = s.samples := by rw [useChan_frame]
@[simp] theorem useChan_segments (g : Leg) : (s.useChan g).segments = s.segments := by rw [useChan_frame]
@[simp] theorem useChan_players (g : Leg) : (s.useChan g).players = s.players := by rw [useChan_frame]
@[simp] theorem useChan_serviceA (g : Leg) : (s.useChan g).serviceA = s.serviceA := by rw [useChan_frame]
@[simp] theorem useChan_serviceB (g : Leg) : (s.useChan g).serviceB = s.serviceB := by rw [useChan_frame]
@[simp] theorem useChan_home (g : Leg) : (s.useChan g).home = s.home := by rw [useChan_frame]
@[simp] theorem useChan_settings (g : Leg) : (s.useChan g).settings = s.settings := by rw [useChan_frame]
@[simp] theorem useChan_sectionFault (g : Leg) : (s.useChan g).sectionFault = s.sectionFault := by rw [useChan_frame]
@[simp] theorem useChan_trunkFaultA (g : Leg) : (s.useChan g).trunkFaultA = s.trunkFaultA := by rw [useChan_frame]
@[simp] theorem useChan_trunkFaultB (g : Leg) : (s.useChan g).trunkFaultB = s.trunkFaultB := by rw [useChan_frame]
@[simp] theorem useChan_loopFaults (g : Leg) : (s.useChan g).loopFaults = s.loopFaults := by rw [useChan_frame]
@[simp] theorem useChan_postFaults (g : Leg) : (s.useChan g).postFaults = s.postFaults := by rw [useChan_frame]
@[simp] theorem useChan_testResults (g : Leg) : (s.useChan g).testResults = s.testResults := by rw [useChan_frame]
@[simp] theorem useChan_marks (g : Leg) : (s.useChan g).marks = s.marks := by rw [useChan_frame]
@[simp] theorem useChan_abandons (g : Leg) : (s.useChan g).abandons = s.abandons := by rw [useChan_frame]
@[simp] theorem useChan_abandonPosts (g : Leg) : (s.useChan g).abandonPosts = s.abandonPosts := by rw [useChan_frame]
@[simp] theorem useChan_mask (g : Leg) : (s.useChan g).mask = s.mask := by rw [useChan_frame]
@[simp] theorem useChan_loop (g : Leg) (j : LoopId) : (s.useChan g).loop j = s.loop j := by simp [loop]
@[simp] theorem useChan_ring (g : Leg) (j : LoopId) : (s.useChan g).ring j = s.ring j := by simp [ring]
@[simp] theorem useChan_feed (g : Leg) (j : LoopId) : (s.useChan g).feed j = s.feed j := by simp [feed]
@[simp] theorem useChan_record (g : Leg) (j : SlotId) : (s.useChan g).record j = s.record j := by simp [record]
@[simp] theorem useChan_ctx (g : Leg) (j : CtxId) : (s.useChan g).ctx j = s.ctx j := by simp [ctx]
@[simp] theorem useChan_path (g : Leg) (j : CtxId) : (s.useChan g).path j = s.path j := by simp [path]
@[simp] theorem useChan_player (g : Leg) (j : CtxId) : (s.useChan g).player j = s.player j := by simp [player]
@[simp] theorem useChan_segment (g : Leg) (j : SegId) : (s.useChan g).segment j = s.segment j := by simp [segment]
@[simp] theorem useChan_service (g : Leg) (j : Trunk) : (s.useChan g).service j = s.service j := by cases j <;> simp [service]
@[simp] theorem useChan_param (g : Leg) (j : Fin 25) : (s.useChan g).param j = s.param j := by simp [param]

/-! ### answerLeg -/

theorem answerLeg_frame (g : Option Leg) : s.answerLeg g = { s with
    trunkA := (s.answerLeg g).trunkA
    trunkB := (s.answerLeg g).trunkB } := by
  apply State.ext <;> first | with_reducible rfl | (unfold answerLeg; dsimp only; (repeat' split) <;> simp)
@[simp] theorem answerLeg_pending (g : Option Leg) : (s.answerLeg g).pending = s.pending := by rw [answerLeg_frame]
@[simp] theorem answerLeg_handed (g : Option Leg) : (s.answerLeg g).handed = s.handed := by rw [answerLeg_frame]
@[simp] theorem answerLeg_loops (g : Option Leg) : (s.answerLeg g).loops = s.loops := by rw [answerLeg_frame]
@[simp] theorem answerLeg_rings (g : Option Leg) : (s.answerLeg g).rings = s.rings := by rw [answerLeg_frame]
@[simp] theorem answerLeg_feeds (g : Option Leg) : (s.answerLeg g).feeds = s.feeds := by rw [answerLeg_frame]
@[simp] theorem answerLeg_supply (g : Option Leg) : (s.answerLeg g).supply = s.supply := by rw [answerLeg_frame]
@[simp] theorem answerLeg_directory (g : Option Leg) : (s.answerLeg g).directory = s.directory := by rw [answerLeg_frame]
@[simp] theorem answerLeg_contexts (g : Option Leg) : (s.answerLeg g).contexts = s.contexts := by rw [answerLeg_frame]
@[simp] theorem answerLeg_waiting (g : Option Leg) : (s.answerLeg g).waiting = s.waiting := by rw [answerLeg_frame]
@[simp] theorem answerLeg_entryCount (g : Option Leg) : (s.answerLeg g).entryCount = s.entryCount := by rw [answerLeg_frame]
@[simp] theorem answerLeg_routes (g : Option Leg) : (s.answerLeg g).routes = s.routes := by rw [answerLeg_frame]
@[simp] theorem answerLeg_plan (g : Option Leg) : (s.answerLeg g).plan = s.plan := by rw [answerLeg_frame]
@[simp] theorem answerLeg_paths (g : Option Leg) : (s.answerLeg g).paths = s.paths := by rw [answerLeg_frame]
@[simp] theorem answerLeg_samples (g : Option Leg) : (s.answerLeg g).samples = s.samples := by rw [answerLeg_frame]
@[simp] theorem answerLeg_segments (g : Option Leg) : (s.answerLeg g).segments = s.segments := by rw [answerLeg_frame]
@[simp] theorem answerLeg_players (g : Option Leg) : (s.answerLeg g).players = s.players := by rw [answerLeg_frame]
@[simp] theorem answerLeg_serviceA (g : Option Leg) : (s.answerLeg g).serviceA = s.serviceA := by rw [answerLeg_frame]
@[simp] theorem answerLeg_serviceB (g : Option Leg) : (s.answerLeg g).serviceB = s.serviceB := by rw [answerLeg_frame]
@[simp] theorem answerLeg_home (g : Option Leg) : (s.answerLeg g).home = s.home := by rw [answerLeg_frame]
@[simp] theorem answerLeg_settings (g : Option Leg) : (s.answerLeg g).settings = s.settings := by rw [answerLeg_frame]
@[simp] theorem answerLeg_sectionFault (g : Option Leg) : (s.answerLeg g).sectionFault = s.sectionFault := by rw [answerLeg_frame]
@[simp] theorem answerLeg_trunkFaultA (g : Option Leg) : (s.answerLeg g).trunkFaultA = s.trunkFaultA := by rw [answerLeg_frame]
@[simp] theorem answerLeg_trunkFaultB (g : Option Leg) : (s.answerLeg g).trunkFaultB = s.trunkFaultB := by rw [answerLeg_frame]
@[simp] theorem answerLeg_loopFaults (g : Option Leg) : (s.answerLeg g).loopFaults = s.loopFaults := by rw [answerLeg_frame]
@[simp] theorem answerLeg_postFaults (g : Option Leg) : (s.answerLeg g).postFaults = s.postFaults := by rw [answerLeg_frame]
@[simp] theorem answerLeg_testResults (g : Option Leg) : (s.answerLeg g).testResults = s.testResults := by rw [answerLeg_frame]
@[simp] theorem answerLeg_marks (g : Option Leg) : (s.answerLeg g).marks = s.marks := by rw [answerLeg_frame]
@[simp] theorem answerLeg_abandons (g : Option Leg) : (s.answerLeg g).abandons = s.abandons := by rw [answerLeg_frame]
@[simp] theorem answerLeg_abandonPosts (g : Option Leg) : (s.answerLeg g).abandonPosts = s.abandonPosts := by rw [answerLeg_frame]
@[simp] theorem answerLeg_mask (g : Option Leg) : (s.answerLeg g).mask = s.mask := by rw [answerLeg_frame]
@[simp] theorem answerLeg_loop (g : Option Leg) (j : LoopId) : (s.answerLeg g).loop j = s.loop j := by simp [loop]
@[simp] theorem answerLeg_ring (g : Option Leg) (j : LoopId) : (s.answerLeg g).ring j = s.ring j := by simp [ring]
@[simp] theorem answerLeg_feed (g : Option Leg) (j : LoopId) : (s.answerLeg g).feed j = s.feed j := by simp [feed]
@[simp] theorem answerLeg_record (g : Option Leg) (j : SlotId) : (s.answerLeg g).record j = s.record j := by simp [record]
@[simp] theorem answerLeg_ctx (g : Option Leg) (j : CtxId) : (s.answerLeg g).ctx j = s.ctx j := by simp [ctx]
@[simp] theorem answerLeg_path (g : Option Leg) (j : CtxId) : (s.answerLeg g).path j = s.path j := by simp [path]
@[simp] theorem answerLeg_player (g : Option Leg) (j : CtxId) : (s.answerLeg g).player j = s.player j := by simp [player]
@[simp] theorem answerLeg_segment (g : Option Leg) (j : SegId) : (s.answerLeg g).segment j = s.segment j := by simp [segment]
@[simp] theorem answerLeg_service (g : Option Leg) (j : Trunk) : (s.answerLeg g).service j = s.service j := by cases j <;> simp [service]
@[simp] theorem answerLeg_param (g : Option Leg) (j : Fin 25) : (s.answerLeg g).param j = s.param j := by simp [param]

/-! ### connect -/

theorem connect_frame (c : CtxId) : s.connect c = { s with
    contexts := (s.connect c).contexts
    paths := (s.connect c).paths
    players := (s.connect c).players
    loops := (s.connect c).loops
    handed := (s.connect c).handed } := by
  apply State.ext <;> first | with_reducible rfl | (simp [connect])
@[simp] theorem connect_pending (c : CtxId) : (s.connect c).pending = s.pending := by rw [connect_frame]
@[simp] theorem connect_rings (c : CtxId) : (s.connect c).rings = s.rings := by rw [connect_frame]
@[simp] theorem connect_feeds (c : CtxId) : (s.connect c).feeds = s.feeds := by rw [connect_frame]
@[simp] theorem connect_supply (c : CtxId) : (s.connect c).supply = s.supply := by rw [connect_frame]
@[simp] theorem connect_directory (c : CtxId) : (s.connect c).directory = s.directory := by rw [connect_frame]
@[simp] theorem connect_waiting (c : CtxId) : (s.connect c).waiting = s.waiting := by rw [connect_frame]
@[simp] theorem connect_entryCount (c : CtxId) : (s.connect c).entryCount = s.entryCount := by rw [connect_frame]
@[simp] theorem connect_routes (c : CtxId) : (s.connect c).routes = s.routes := by rw [connect_frame]
@[simp] theorem connect_plan (c : CtxId) : (s.connect c).plan = s.plan := by rw [connect_frame]
@[simp] theorem connect_trunkA (c : CtxId) : (s.connect c).trunkA = s.trunkA := by rw [connect_frame]
@[simp] theorem connect_trunkB (c : CtxId) : (s.connect c).trunkB = s.trunkB := by rw [connect_frame]
@[simp] theorem connect_samples (c : CtxId) : (s.connect c).samples = s.samples := by rw [connect_frame]
@[simp] theorem connect_segments (c : CtxId) : (s.connect c).segments = s.segments := by rw [connect_frame]
@[simp] theorem connect_serviceA (c : CtxId) : (s.connect c).serviceA = s.serviceA := by rw [connect_frame]
@[simp] theorem connect_serviceB (c : CtxId) : (s.connect c).serviceB = s.serviceB := by rw [connect_frame]
@[simp] theorem connect_home (c : CtxId) : (s.connect c).home = s.home := by rw [connect_frame]
@[simp] theorem connect_settings (c : CtxId) : (s.connect c).settings = s.settings := by rw [connect_frame]
@[simp] theorem connect_sectionFault (c : CtxId) : (s.connect c).sectionFault = s.sectionFault := by rw [connect_frame]
@[simp] theorem connect_trunkFaultA (c : CtxId) : (s.connect c).trunkFaultA = s.trunkFaultA := by rw [connect_frame]
@[simp] theorem connect_trunkFaultB (c : CtxId) : (s.connect c).trunkFaultB = s.trunkFaultB := by rw [connect_frame]
@[simp] theorem connect_loopFaults (c : CtxId) : (s.connect c).loopFaults = s.loopFaults := by rw [connect_frame]
@[simp] theorem connect_postFaults (c : CtxId) : (s.connect c).postFaults = s.postFaults := by rw [connect_frame]
@[simp] theorem connect_testResults (c : CtxId) : (s.connect c).testResults = s.testResults := by rw [connect_frame]
@[simp] theorem connect_marks (c : CtxId) : (s.connect c).marks = s.marks := by rw [connect_frame]
@[simp] theorem connect_abandons (c : CtxId) : (s.connect c).abandons = s.abandons := by rw [connect_frame]
@[simp] theorem connect_abandonPosts (c : CtxId) : (s.connect c).abandonPosts = s.abandonPosts := by rw [connect_frame]
@[simp] theorem connect_mask (c : CtxId) : (s.connect c).mask = s.mask := by rw [connect_frame]
@[simp] theorem connect_ring (c : CtxId) (j : LoopId) : (s.connect c).ring j = s.ring j := by simp [ring]
@[simp] theorem connect_feed (c : CtxId) (j : LoopId) : (s.connect c).feed j = s.feed j := by simp [feed]
@[simp] theorem connect_record (c : CtxId) (j : SlotId) : (s.connect c).record j = s.record j := by simp [record]
@[simp] theorem connect_trunk (c : CtxId) (j : Trunk) : (s.connect c).trunk j = s.trunk j := by cases j <;> simp [trunk]
@[simp] theorem connect_segment (c : CtxId) (j : SegId) : (s.connect c).segment j = s.segment j := by simp [segment]
@[simp] theorem connect_service (c : CtxId) (j : Trunk) : (s.connect c).service j = s.service j := by cases j <;> simp [service]
@[simp] theorem connect_param (c : CtxId) (j : Fin 25) : (s.connect c).param j = s.param j := by simp [param]

/-! ### answerCall -/

theorem answerCall_frame (c : CtxId) (desk : Byte) : s.answerCall c desk = { s with
    contexts := (s.answerCall c desk).contexts
    waiting := (s.answerCall c desk).waiting
    paths := (s.answerCall c desk).paths
    players := (s.answerCall c desk).players
    loops := (s.answerCall c desk).loops
    trunkA := (s.answerCall c desk).trunkA
    trunkB := (s.answerCall c desk).trunkB
    handed := (s.answerCall c desk).handed } := by
  apply State.ext <;> first | with_reducible rfl | (simp [answerCall])
@[simp] theorem answerCall_pending (c : CtxId) (desk : Byte) : (s.answerCall c desk).pending = s.pending := by rw [answerCall_frame]
@[simp] theorem answerCall_rings (c : CtxId) (desk : Byte) : (s.answerCall c desk).rings = s.rings := by rw [answerCall_frame]
@[simp] theorem answerCall_feeds (c : CtxId) (desk : Byte) : (s.answerCall c desk).feeds = s.feeds := by rw [answerCall_frame]
@[simp] theorem answerCall_supply (c : CtxId) (desk : Byte) : (s.answerCall c desk).supply = s.supply := by rw [answerCall_frame]
@[simp] theorem answerCall_directory (c : CtxId) (desk : Byte) : (s.answerCall c desk).directory = s.directory := by rw [answerCall_frame]
@[simp] theorem answerCall_entryCount (c : CtxId) (desk : Byte) : (s.answerCall c desk).entryCount = s.entryCount := by rw [answerCall_frame]
@[simp] theorem answerCall_routes (c : CtxId) (desk : Byte) : (s.answerCall c desk).routes = s.routes := by rw [answerCall_frame]
@[simp] theorem answerCall_plan (c : CtxId) (desk : Byte) : (s.answerCall c desk).plan = s.plan := by rw [answerCall_frame]
@[simp] theorem answerCall_samples (c : CtxId) (desk : Byte) : (s.answerCall c desk).samples = s.samples := by rw [answerCall_frame]
@[simp] theorem answerCall_segments (c : CtxId) (desk : Byte) : (s.answerCall c desk).segments = s.segments := by rw [answerCall_frame]
@[simp] theorem answerCall_serviceA (c : CtxId) (desk : Byte) : (s.answerCall c desk).serviceA = s.serviceA := by rw [answerCall_frame]
@[simp] theorem answerCall_serviceB (c : CtxId) (desk : Byte) : (s.answerCall c desk).serviceB = s.serviceB := by rw [answerCall_frame]
@[simp] theorem answerCall_home (c : CtxId) (desk : Byte) : (s.answerCall c desk).home = s.home := by rw [answerCall_frame]
@[simp] theorem answerCall_settings (c : CtxId) (desk : Byte) : (s.answerCall c desk).settings = s.settings := by rw [answerCall_frame]
@[simp] theorem answerCall_sectionFault (c : CtxId) (desk : Byte) : (s.answerCall c desk).sectionFault = s.sectionFault := by rw [answerCall_frame]
@[simp] theorem answerCall_trunkFaultA (c : CtxId) (desk : Byte) : (s.answerCall c desk).trunkFaultA = s.trunkFaultA := by rw [answerCall_frame]
@[simp] theorem answerCall_trunkFaultB (c : CtxId) (desk : Byte) : (s.answerCall c desk).trunkFaultB = s.trunkFaultB := by rw [answerCall_frame]
@[simp] theorem answerCall_loopFaults (c : CtxId) (desk : Byte) : (s.answerCall c desk).loopFaults = s.loopFaults := by rw [answerCall_frame]
@[simp] theorem answerCall_postFaults (c : CtxId) (desk : Byte) : (s.answerCall c desk).postFaults = s.postFaults := by rw [answerCall_frame]
@[simp] theorem answerCall_testResults (c : CtxId) (desk : Byte) : (s.answerCall c desk).testResults = s.testResults := by rw [answerCall_frame]
@[simp] theorem answerCall_marks (c : CtxId) (desk : Byte) : (s.answerCall c desk).marks = s.marks := by rw [answerCall_frame]
@[simp] theorem answerCall_abandons (c : CtxId) (desk : Byte) : (s.answerCall c desk).abandons = s.abandons := by rw [answerCall_frame]
@[simp] theorem answerCall_abandonPosts (c : CtxId) (desk : Byte) : (s.answerCall c desk).abandonPosts = s.abandonPosts := by rw [answerCall_frame]
@[simp] theorem answerCall_mask (c : CtxId) (desk : Byte) : (s.answerCall c desk).mask = s.mask := by rw [answerCall_frame]
@[simp] theorem answerCall_ring (c : CtxId) (desk : Byte) (j : LoopId) : (s.answerCall c desk).ring j = s.ring j := by simp [ring]
@[simp] theorem answerCall_feed (c : CtxId) (desk : Byte) (j : LoopId) : (s.answerCall c desk).feed j = s.feed j := by simp [feed]
@[simp] theorem answerCall_record (c : CtxId) (desk : Byte) (j : SlotId) : (s.answerCall c desk).record j = s.record j := by simp [record]
@[simp] theorem answerCall_segment (c : CtxId) (desk : Byte) (j : SegId) : (s.answerCall c desk).segment j = s.segment j := by simp [segment]
@[simp] theorem answerCall_service (c : CtxId) (desk : Byte) (j : Trunk) : (s.answerCall c desk).service j = s.service j := by cases j <;> simp [service]
@[simp] theorem answerCall_param (c : CtxId) (desk : Byte) (j : Fin 25) : (s.answerCall c desk).param j = s.param j := by simp [param]

/-! ### holdCall -/

theorem holdCall_frame (c : CtxId) : s.holdCall c = { s with
    contexts := (s.holdCall c).contexts
    paths := (s.holdCall c).paths
    players := (s.holdCall c).players
    loops := (s.holdCall c).loops
    handed := (s.holdCall c).handed } := by
  apply State.ext <;> first | with_reducible rfl | (simp [holdCall])
@[simp] theorem holdCall_pending (c : CtxId) : (s.holdCall c).pending = s.pending := by rw [holdCall_frame]
@[simp] theorem holdCall_rings (c : CtxId) : (s.holdCall c).rings = s.rings := by rw [holdCall_frame]
@[simp] theorem holdCall_feeds (c : CtxId) : (s.holdCall c).feeds = s.feeds := by rw [holdCall_frame]
@[simp] theorem holdCall_supply (c : CtxId) : (s.holdCall c).supply = s.supply := by rw [holdCall_frame]
@[simp] theorem holdCall_directory (c : CtxId) : (s.holdCall c).directory = s.directory := by rw [holdCall_frame]
@[simp] theorem holdCall_waiting (c : CtxId) : (s.holdCall c).waiting = s.waiting := by rw [holdCall_frame]
@[simp] theorem holdCall_entryCount (c : CtxId) : (s.holdCall c).entryCount = s.entryCount := by rw [holdCall_frame]
@[simp] theorem holdCall_routes (c : CtxId) : (s.holdCall c).routes = s.routes := by rw [holdCall_frame]
@[simp] theorem holdCall_plan (c : CtxId) : (s.holdCall c).plan = s.plan := by rw [holdCall_frame]
@[simp] theorem holdCall_trunkA (c : CtxId) : (s.holdCall c).trunkA = s.trunkA := by rw [holdCall_frame]
@[simp] theorem holdCall_trunkB (c : CtxId) : (s.holdCall c).trunkB = s.trunkB := by rw [holdCall_frame]
@[simp] theorem holdCall_samples (c : CtxId) : (s.holdCall c).samples = s.samples := by rw [holdCall_frame]
@[simp] theorem holdCall_segments (c : CtxId) : (s.holdCall c).segments = s.segments := by rw [holdCall_frame]
@[simp] theorem holdCall_serviceA (c : CtxId) : (s.holdCall c).serviceA = s.serviceA := by rw [holdCall_frame]
@[simp] theorem holdCall_serviceB (c : CtxId) : (s.holdCall c).serviceB = s.serviceB := by rw [holdCall_frame]
@[simp] theorem holdCall_home (c : CtxId) : (s.holdCall c).home = s.home := by rw [holdCall_frame]
@[simp] theorem holdCall_settings (c : CtxId) : (s.holdCall c).settings = s.settings := by rw [holdCall_frame]
@[simp] theorem holdCall_sectionFault (c : CtxId) : (s.holdCall c).sectionFault = s.sectionFault := by rw [holdCall_frame]
@[simp] theorem holdCall_trunkFaultA (c : CtxId) : (s.holdCall c).trunkFaultA = s.trunkFaultA := by rw [holdCall_frame]
@[simp] theorem holdCall_trunkFaultB (c : CtxId) : (s.holdCall c).trunkFaultB = s.trunkFaultB := by rw [holdCall_frame]
@[simp] theorem holdCall_loopFaults (c : CtxId) : (s.holdCall c).loopFaults = s.loopFaults := by rw [holdCall_frame]
@[simp] theorem holdCall_postFaults (c : CtxId) : (s.holdCall c).postFaults = s.postFaults := by rw [holdCall_frame]
@[simp] theorem holdCall_testResults (c : CtxId) : (s.holdCall c).testResults = s.testResults := by rw [holdCall_frame]
@[simp] theorem holdCall_marks (c : CtxId) : (s.holdCall c).marks = s.marks := by rw [holdCall_frame]
@[simp] theorem holdCall_abandons (c : CtxId) : (s.holdCall c).abandons = s.abandons := by rw [holdCall_frame]
@[simp] theorem holdCall_abandonPosts (c : CtxId) : (s.holdCall c).abandonPosts = s.abandonPosts := by rw [holdCall_frame]
@[simp] theorem holdCall_mask (c : CtxId) : (s.holdCall c).mask = s.mask := by rw [holdCall_frame]
@[simp] theorem holdCall_ring (c : CtxId) (j : LoopId) : (s.holdCall c).ring j = s.ring j := by simp [ring]
@[simp] theorem holdCall_feed (c : CtxId) (j : LoopId) : (s.holdCall c).feed j = s.feed j := by simp [feed]
@[simp] theorem holdCall_record (c : CtxId) (j : SlotId) : (s.holdCall c).record j = s.record j := by simp [record]
@[simp] theorem holdCall_trunk (c : CtxId) (j : Trunk) : (s.holdCall c).trunk j = s.trunk j := by cases j <;> simp [trunk]
@[simp] theorem holdCall_segment (c : CtxId) (j : SegId) : (s.holdCall c).segment j = s.segment j := by simp [segment]
@[simp] theorem holdCall_service (c : CtxId) (j : Trunk) : (s.holdCall c).service j = s.service j := by cases j <;> simp [service]
@[simp] theorem holdCall_param (c : CtxId) (j : Fin 25) : (s.holdCall c).param j = s.param j := by simp [param]

/-! ### retrieveCall -/

theorem retrieveCall_frame (c : CtxId) : s.retrieveCall c = { s with
    contexts := (s.retrieveCall c).contexts
    paths := (s.retrieveCall c).paths
    players := (s.retrieveCall c).players
    loops := (s.retrieveCall c).loops
    handed := (s.retrieveCall c).handed } := by
  apply State.ext <;> first | with_reducible rfl | (simp [retrieveCall])
@[simp] theorem retrieveCall_pending (c : CtxId) : (s.retrieveCall c).pending = s.pending := by rw [retrieveCall_frame]
@[simp] theorem retrieveCall_rings (c : CtxId) : (s.retrieveCall c).rings = s.rings := by rw [retrieveCall_frame]
@[simp] theorem retrieveCall_feeds (c : CtxId) : (s.retrieveCall c).feeds = s.feeds := by rw [retrieveCall_frame]
@[simp] theorem retrieveCall_supply (c : CtxId) : (s.retrieveCall c).supply = s.supply := by rw [retrieveCall_frame]
@[simp] theorem retrieveCall_directory (c : CtxId) : (s.retrieveCall c).directory = s.directory := by rw [retrieveCall_frame]
@[simp] theorem retrieveCall_waiting (c : CtxId) : (s.retrieveCall c).waiting = s.waiting := by rw [retrieveCall_frame]
@[simp] theorem retrieveCall_entryCount (c : CtxId) : (s.retrieveCall c).entryCount = s.entryCount := by rw [retrieveCall_frame]
@[simp] theorem retrieveCall_routes (c : CtxId) : (s.retrieveCall c).routes = s.routes := by rw [retrieveCall_frame]
@[simp] theorem retrieveCall_plan (c : CtxId) : (s.retrieveCall c).plan = s.plan := by rw [retrieveCall_frame]
@[simp] theorem retrieveCall_trunkA (c : CtxId) : (s.retrieveCall c).trunkA = s.trunkA := by rw [retrieveCall_frame]
@[simp] theorem retrieveCall_trunkB (c : CtxId) : (s.retrieveCall c).trunkB = s.trunkB := by rw [retrieveCall_frame]
@[simp] theorem retrieveCall_samples (c : CtxId) : (s.retrieveCall c).samples = s.samples := by rw [retrieveCall_frame]
@[simp] theorem retrieveCall_segments (c : CtxId) : (s.retrieveCall c).segments = s.segments := by rw [retrieveCall_frame]
@[simp] theorem retrieveCall_serviceA (c : CtxId) : (s.retrieveCall c).serviceA = s.serviceA := by rw [retrieveCall_frame]
@[simp] theorem retrieveCall_serviceB (c : CtxId) : (s.retrieveCall c).serviceB = s.serviceB := by rw [retrieveCall_frame]
@[simp] theorem retrieveCall_home (c : CtxId) : (s.retrieveCall c).home = s.home := by rw [retrieveCall_frame]
@[simp] theorem retrieveCall_settings (c : CtxId) : (s.retrieveCall c).settings = s.settings := by rw [retrieveCall_frame]
@[simp] theorem retrieveCall_sectionFault (c : CtxId) : (s.retrieveCall c).sectionFault = s.sectionFault := by rw [retrieveCall_frame]
@[simp] theorem retrieveCall_trunkFaultA (c : CtxId) : (s.retrieveCall c).trunkFaultA = s.trunkFaultA := by rw [retrieveCall_frame]
@[simp] theorem retrieveCall_trunkFaultB (c : CtxId) : (s.retrieveCall c).trunkFaultB = s.trunkFaultB := by rw [retrieveCall_frame]
@[simp] theorem retrieveCall_loopFaults (c : CtxId) : (s.retrieveCall c).loopFaults = s.loopFaults := by rw [retrieveCall_frame]
@[simp] theorem retrieveCall_postFaults (c : CtxId) : (s.retrieveCall c).postFaults = s.postFaults := by rw [retrieveCall_frame]
@[simp] theorem retrieveCall_testResults (c : CtxId) : (s.retrieveCall c).testResults = s.testResults := by rw [retrieveCall_frame]
@[simp] theorem retrieveCall_marks (c : CtxId) : (s.retrieveCall c).marks = s.marks := by rw [retrieveCall_frame]
@[simp] theorem retrieveCall_abandons (c : CtxId) : (s.retrieveCall c).abandons = s.abandons := by rw [retrieveCall_frame]
@[simp] theorem retrieveCall_abandonPosts (c : CtxId) : (s.retrieveCall c).abandonPosts = s.abandonPosts := by rw [retrieveCall_frame]
@[simp] theorem retrieveCall_mask (c : CtxId) : (s.retrieveCall c).mask = s.mask := by rw [retrieveCall_frame]
@[simp] theorem retrieveCall_ring (c : CtxId) (j : LoopId) : (s.retrieveCall c).ring j = s.ring j := by simp [ring]
@[simp] theorem retrieveCall_feed (c : CtxId) (j : LoopId) : (s.retrieveCall c).feed j = s.feed j := by simp [feed]
@[simp] theorem retrieveCall_record (c : CtxId) (j : SlotId) : (s.retrieveCall c).record j = s.record j := by simp [record]
@[simp] theorem retrieveCall_trunk (c : CtxId) (j : Trunk) : (s.retrieveCall c).trunk j = s.trunk j := by cases j <;> simp [trunk]
@[simp] theorem retrieveCall_segment (c : CtxId) (j : SegId) : (s.retrieveCall c).segment j = s.segment j := by simp [segment]
@[simp] theorem retrieveCall_service (c : CtxId) (j : Trunk) : (s.retrieveCall c).service j = s.service j := by cases j <;> simp [service]
@[simp] theorem retrieveCall_param (c : CtxId) (j : Fin 25) : (s.retrieveCall c).param j = s.param j := by simp [param]

/-! ### joinCall -/

theorem joinCall_frame (c : CtxId) (t : Trunk) (ref : OfferRef) : s.joinCall c t ref = { s with
    contexts := (s.joinCall c t ref).contexts
    trunkA := (s.joinCall c t ref).trunkA
    trunkB := (s.joinCall c t ref).trunkB
    handed := (s.joinCall c t ref).handed } := by
  apply State.ext <;> first | with_reducible rfl | (unfold joinCall; dsimp only; (repeat' split) <;> simp)
@[simp] theorem joinCall_pending (c : CtxId) (t : Trunk) (ref : OfferRef) : (s.joinCall c t ref).pending = s.pending := by rw [joinCall_frame]
@[simp] theorem joinCall_loops (c : CtxId) (t : Trunk) (ref : OfferRef) : (s.joinCall c t ref).loops = s.loops := by rw [joinCall_frame]
@[simp] theorem joinCall_rings (c : CtxId) (t : Trunk) (ref : OfferRef) : (s.joinCall c t ref).rings = s.rings := by rw [joinCall_frame]
@[simp] theorem joinCall_feeds (c : CtxId) (t : Trunk) (ref : OfferRef) : (s.joinCall c t ref).feeds = s.feeds := by rw [joinCall_frame]
@[simp] theorem joinCall_supply (c : CtxId) (t : Trunk) (ref : OfferRef) : (s.joinCall c t ref).supply = s.supply := by rw [joinCall_frame]
@[simp] theorem joinCall_directory (c : CtxId) (t : Trunk) (ref : OfferRef) : (s.joinCall c t ref).directory = s.directory := by rw [joinCall_frame]
@[simp] theorem joinCall_waiting (c : CtxId) (t : Trunk) (ref : OfferRef) : (s.joinCall c t ref).waiting = s.waiting := by rw [joinCall_frame]
@[simp] theorem joinCall_entryCount (c : CtxId) (t : Trunk) (ref : OfferRef) : (s.joinCall c t ref).entryCount = s.entryCount := by rw [joinCall_frame]
@[simp] theorem joinCall_routes (c : CtxId) (t : Trunk) (ref : OfferRef) : (s.joinCall c t ref).routes = s.routes := by rw [joinCall_frame]
@[simp] theorem joinCall_plan (c : CtxId) (t : Trunk) (ref : OfferRef) : (s.joinCall c t ref).plan = s.plan := by rw [joinCall_frame]
@[simp] theorem joinCall_paths (c : CtxId) (t : Trunk) (ref : OfferRef) : (s.joinCall c t ref).paths = s.paths := by rw [joinCall_frame]
@[simp] theorem joinCall_samples (c : CtxId) (t : Trunk) (ref : OfferRef) : (s.joinCall c t ref).samples = s.samples := by rw [joinCall_frame]
@[simp] theorem joinCall_segments (c : CtxId) (t : Trunk) (ref : OfferRef) : (s.joinCall c t ref).segments = s.segments := by rw [joinCall_frame]
@[simp] theorem joinCall_players (c : CtxId) (t : Trunk) (ref : OfferRef) : (s.joinCall c t ref).players = s.players := by rw [joinCall_frame]
@[simp] theorem joinCall_serviceA (c : CtxId) (t : Trunk) (ref : OfferRef) : (s.joinCall c t ref).serviceA = s.serviceA := by rw [joinCall_frame]
@[simp] theorem joinCall_serviceB (c : CtxId) (t : Trunk) (ref : OfferRef) : (s.joinCall c t ref).serviceB = s.serviceB := by rw [joinCall_frame]
@[simp] theorem joinCall_home (c : CtxId) (t : Trunk) (ref : OfferRef) : (s.joinCall c t ref).home = s.home := by rw [joinCall_frame]
@[simp] theorem joinCall_settings (c : CtxId) (t : Trunk) (ref : OfferRef) : (s.joinCall c t ref).settings = s.settings := by rw [joinCall_frame]
@[simp] theorem joinCall_sectionFault (c : CtxId) (t : Trunk) (ref : OfferRef) : (s.joinCall c t ref).sectionFault = s.sectionFault := by rw [joinCall_frame]
@[simp] theorem joinCall_trunkFaultA (c : CtxId) (t : Trunk) (ref : OfferRef) : (s.joinCall c t ref).trunkFaultA = s.trunkFaultA := by rw [joinCall_frame]
@[simp] theorem joinCall_trunkFaultB (c : CtxId) (t : Trunk) (ref : OfferRef) : (s.joinCall c t ref).trunkFaultB = s.trunkFaultB := by rw [joinCall_frame]
@[simp] theorem joinCall_loopFaults (c : CtxId) (t : Trunk) (ref : OfferRef) : (s.joinCall c t ref).loopFaults = s.loopFaults := by rw [joinCall_frame]
@[simp] theorem joinCall_postFaults (c : CtxId) (t : Trunk) (ref : OfferRef) : (s.joinCall c t ref).postFaults = s.postFaults := by rw [joinCall_frame]
@[simp] theorem joinCall_testResults (c : CtxId) (t : Trunk) (ref : OfferRef) : (s.joinCall c t ref).testResults = s.testResults := by rw [joinCall_frame]
@[simp] theorem joinCall_marks (c : CtxId) (t : Trunk) (ref : OfferRef) : (s.joinCall c t ref).marks = s.marks := by rw [joinCall_frame]
@[simp] theorem joinCall_abandons (c : CtxId) (t : Trunk) (ref : OfferRef) : (s.joinCall c t ref).abandons = s.abandons := by rw [joinCall_frame]
@[simp] theorem joinCall_abandonPosts (c : CtxId) (t : Trunk) (ref : OfferRef) : (s.joinCall c t ref).abandonPosts = s.abandonPosts := by rw [joinCall_frame]
@[simp] theorem joinCall_mask (c : CtxId) (t : Trunk) (ref : OfferRef) : (s.joinCall c t ref).mask = s.mask := by rw [joinCall_frame]
@[simp] theorem joinCall_loop (c : CtxId) (t : Trunk) (ref : OfferRef) (j : LoopId) : (s.joinCall c t ref).loop j = s.loop j := by simp [loop]
@[simp] theorem joinCall_ring (c : CtxId) (t : Trunk) (ref : OfferRef) (j : LoopId) : (s.joinCall c t ref).ring j = s.ring j := by simp [ring]
@[simp] theorem joinCall_feed (c : CtxId) (t : Trunk) (ref : OfferRef) (j : LoopId) : (s.joinCall c t ref).feed j = s.feed j := by simp [feed]
@[simp] theorem joinCall_record (c : CtxId) (t : Trunk) (ref : OfferRef) (j : SlotId) : (s.joinCall c t ref).record j = s.record j := by simp [record]
@[simp] theorem joinCall_path (c : CtxId) (t : Trunk) (ref : OfferRef) (j : CtxId) : (s.joinCall c t ref).path j = s.path j := by simp [path]
@[simp] theorem joinCall_player (c : CtxId) (t : Trunk) (ref : OfferRef) (j : CtxId) : (s.joinCall c t ref).player j = s.player j := by simp [player]
@[simp] theorem joinCall_segment (c : CtxId) (t : Trunk) (ref : OfferRef) (j : SegId) : (s.joinCall c t ref).segment j = s.segment j := by simp [segment]
@[simp] theorem joinCall_service (c : CtxId) (t : Trunk) (ref : OfferRef) (j : Trunk) : (s.joinCall c t ref).service j = s.service j := by cases j <;> simp [service]
@[simp] theorem joinCall_param (c : CtxId) (t : Trunk) (ref : OfferRef) (j : Fin 25) : (s.joinCall c t ref).param j = s.param j := by simp [param]

/-! ### leaveCall -/

theorem leaveCall_frame (c : CtxId) (t : Trunk) (ref : OfferRef) : s.leaveCall c t ref = { s with
    contexts := (s.leaveCall c t ref).contexts
    loops := (s.leaveCall c t ref).loops
    trunkA := (s.leaveCall c t ref).trunkA
    trunkB := (s.leaveCall c t ref).trunkB
    handed := (s.leaveCall c t ref).handed } := by
  apply State.ext <;> first | with_reducible rfl | (unfold leaveCall; dsimp only; (repeat' split) <;> simp)
@[simp] theorem leaveCall_pending (c : CtxId) (t : Trunk) (ref : OfferRef) : (s.leaveCall c t ref).pending = s.pending := by rw [leaveCall_frame]
@[simp] theorem leaveCall_rings (c : CtxId) (t : Trunk) (ref : OfferRef) : (s.leaveCall c t ref).rings = s.rings := by rw [leaveCall_frame]
@[simp] theorem leaveCall_feeds (c : CtxId) (t : Trunk) (ref : OfferRef) : (s.leaveCall c t ref).feeds = s.feeds := by rw [leaveCall_frame]
@[simp] theorem leaveCall_supply (c : CtxId) (t : Trunk) (ref : OfferRef) : (s.leaveCall c t ref).supply = s.supply := by rw [leaveCall_frame]
@[simp] theorem leaveCall_directory (c : CtxId) (t : Trunk) (ref : OfferRef) : (s.leaveCall c t ref).directory = s.directory := by rw [leaveCall_frame]
@[simp] theorem leaveCall_waiting (c : CtxId) (t : Trunk) (ref : OfferRef) : (s.leaveCall c t ref).waiting = s.waiting := by rw [leaveCall_frame]
@[simp] theorem leaveCall_entryCount (c : CtxId) (t : Trunk) (ref : OfferRef) : (s.leaveCall c t ref).entryCount = s.entryCount := by rw [leaveCall_frame]
@[simp] theorem leaveCall_routes (c : CtxId) (t : Trunk) (ref : OfferRef) : (s.leaveCall c t ref).routes = s.routes := by rw [leaveCall_frame]
@[simp] theorem leaveCall_plan (c : CtxId) (t : Trunk) (ref : OfferRef) : (s.leaveCall c t ref).plan = s.plan := by rw [leaveCall_frame]
@[simp] theorem leaveCall_paths (c : CtxId) (t : Trunk) (ref : OfferRef) : (s.leaveCall c t ref).paths = s.paths := by rw [leaveCall_frame]
@[simp] theorem leaveCall_samples (c : CtxId) (t : Trunk) (ref : OfferRef) : (s.leaveCall c t ref).samples = s.samples := by rw [leaveCall_frame]
@[simp] theorem leaveCall_segments (c : CtxId) (t : Trunk) (ref : OfferRef) : (s.leaveCall c t ref).segments = s.segments := by rw [leaveCall_frame]
@[simp] theorem leaveCall_players (c : CtxId) (t : Trunk) (ref : OfferRef) : (s.leaveCall c t ref).players = s.players := by rw [leaveCall_frame]
@[simp] theorem leaveCall_serviceA (c : CtxId) (t : Trunk) (ref : OfferRef) : (s.leaveCall c t ref).serviceA = s.serviceA := by rw [leaveCall_frame]
@[simp] theorem leaveCall_serviceB (c : CtxId) (t : Trunk) (ref : OfferRef) : (s.leaveCall c t ref).serviceB = s.serviceB := by rw [leaveCall_frame]
@[simp] theorem leaveCall_home (c : CtxId) (t : Trunk) (ref : OfferRef) : (s.leaveCall c t ref).home = s.home := by rw [leaveCall_frame]
@[simp] theorem leaveCall_settings (c : CtxId) (t : Trunk) (ref : OfferRef) : (s.leaveCall c t ref).settings = s.settings := by rw [leaveCall_frame]
@[simp] theorem leaveCall_sectionFault (c : CtxId) (t : Trunk) (ref : OfferRef) : (s.leaveCall c t ref).sectionFault = s.sectionFault := by rw [leaveCall_frame]
@[simp] theorem leaveCall_trunkFaultA (c : CtxId) (t : Trunk) (ref : OfferRef) : (s.leaveCall c t ref).trunkFaultA = s.trunkFaultA := by rw [leaveCall_frame]
@[simp] theorem leaveCall_trunkFaultB (c : CtxId) (t : Trunk) (ref : OfferRef) : (s.leaveCall c t ref).trunkFaultB = s.trunkFaultB := by rw [leaveCall_frame]
@[simp] theorem leaveCall_loopFaults (c : CtxId) (t : Trunk) (ref : OfferRef) : (s.leaveCall c t ref).loopFaults = s.loopFaults := by rw [leaveCall_frame]
@[simp] theorem leaveCall_postFaults (c : CtxId) (t : Trunk) (ref : OfferRef) : (s.leaveCall c t ref).postFaults = s.postFaults := by rw [leaveCall_frame]
@[simp] theorem leaveCall_testResults (c : CtxId) (t : Trunk) (ref : OfferRef) : (s.leaveCall c t ref).testResults = s.testResults := by rw [leaveCall_frame]
@[simp] theorem leaveCall_marks (c : CtxId) (t : Trunk) (ref : OfferRef) : (s.leaveCall c t ref).marks = s.marks := by rw [leaveCall_frame]
@[simp] theorem leaveCall_abandons (c : CtxId) (t : Trunk) (ref : OfferRef) : (s.leaveCall c t ref).abandons = s.abandons := by rw [leaveCall_frame]
@[simp] theorem leaveCall_abandonPosts (c : CtxId) (t : Trunk) (ref : OfferRef) : (s.leaveCall c t ref).abandonPosts = s.abandonPosts := by rw [leaveCall_frame]
@[simp] theorem leaveCall_mask (c : CtxId) (t : Trunk) (ref : OfferRef) : (s.leaveCall c t ref).mask = s.mask := by rw [leaveCall_frame]
@[simp] theorem leaveCall_ring (c : CtxId) (t : Trunk) (ref : OfferRef) (j : LoopId) : (s.leaveCall c t ref).ring j = s.ring j := by simp [ring]
@[simp] theorem leaveCall_feed (c : CtxId) (t : Trunk) (ref : OfferRef) (j : LoopId) : (s.leaveCall c t ref).feed j = s.feed j := by simp [feed]
@[simp] theorem leaveCall_record (c : CtxId) (t : Trunk) (ref : OfferRef) (j : SlotId) : (s.leaveCall c t ref).record j = s.record j := by simp [record]
@[simp] theorem leaveCall_path (c : CtxId) (t : Trunk) (ref : OfferRef) (j : CtxId) : (s.leaveCall c t ref).path j = s.path j := by simp [path]
@[simp] theorem leaveCall_player (c : CtxId) (t : Trunk) (ref : OfferRef) (j : CtxId) : (s.leaveCall c t ref).player j = s.player j := by simp [player]
@[simp] theorem leaveCall_segment (c : CtxId) (t : Trunk) (ref : OfferRef) (j : SegId) : (s.leaveCall c t ref).segment j = s.segment j := by simp [segment]
@[simp] theorem leaveCall_service (c : CtxId) (t : Trunk) (ref : OfferRef) (j : Trunk) : (s.leaveCall c t ref).service j = s.service j := by cases j <;> simp [service]
@[simp] theorem leaveCall_param (c : CtxId) (t : Trunk) (ref : OfferRef) (j : Fin 25) : (s.leaveCall c t ref).param j = s.param j := by simp [param]

/-! ### askBearer -/

theorem askBearer_frame (c : CtxId) (l : LoopId) (pos : Nat) : s.askBearer c l pos = { s with
    contexts := (s.askBearer c l pos).contexts
    loops := (s.askBearer c l pos).loops
    handed := (s.askBearer c l pos).handed } := by
  apply State.ext <;> first | with_reducible rfl | (unfold askBearer; dsimp only; (repeat' split) <;> simp)
@[simp] theorem askBearer_pending (c : CtxId) (l : LoopId) (pos : Nat) : (s.askBearer c l pos).pending = s.pending := by rw [askBearer_frame]
@[simp] theorem askBearer_rings (c : CtxId) (l : LoopId) (pos : Nat) : (s.askBearer c l pos).rings = s.rings := by rw [askBearer_frame]
@[simp] theorem askBearer_feeds (c : CtxId) (l : LoopId) (pos : Nat) : (s.askBearer c l pos).feeds = s.feeds := by rw [askBearer_frame]
@[simp] theorem askBearer_supply (c : CtxId) (l : LoopId) (pos : Nat) : (s.askBearer c l pos).supply = s.supply := by rw [askBearer_frame]
@[simp] theorem askBearer_directory (c : CtxId) (l : LoopId) (pos : Nat) : (s.askBearer c l pos).directory = s.directory := by rw [askBearer_frame]
@[simp] theorem askBearer_waiting (c : CtxId) (l : LoopId) (pos : Nat) : (s.askBearer c l pos).waiting = s.waiting := by rw [askBearer_frame]
@[simp] theorem askBearer_entryCount (c : CtxId) (l : LoopId) (pos : Nat) : (s.askBearer c l pos).entryCount = s.entryCount := by rw [askBearer_frame]
@[simp] theorem askBearer_routes (c : CtxId) (l : LoopId) (pos : Nat) : (s.askBearer c l pos).routes = s.routes := by rw [askBearer_frame]
@[simp] theorem askBearer_plan (c : CtxId) (l : LoopId) (pos : Nat) : (s.askBearer c l pos).plan = s.plan := by rw [askBearer_frame]
@[simp] theorem askBearer_trunkA (c : CtxId) (l : LoopId) (pos : Nat) : (s.askBearer c l pos).trunkA = s.trunkA := by rw [askBearer_frame]
@[simp] theorem askBearer_trunkB (c : CtxId) (l : LoopId) (pos : Nat) : (s.askBearer c l pos).trunkB = s.trunkB := by rw [askBearer_frame]
@[simp] theorem askBearer_paths (c : CtxId) (l : LoopId) (pos : Nat) : (s.askBearer c l pos).paths = s.paths := by rw [askBearer_frame]
@[simp] theorem askBearer_samples (c : CtxId) (l : LoopId) (pos : Nat) : (s.askBearer c l pos).samples = s.samples := by rw [askBearer_frame]
@[simp] theorem askBearer_segments (c : CtxId) (l : LoopId) (pos : Nat) : (s.askBearer c l pos).segments = s.segments := by rw [askBearer_frame]
@[simp] theorem askBearer_players (c : CtxId) (l : LoopId) (pos : Nat) : (s.askBearer c l pos).players = s.players := by rw [askBearer_frame]
@[simp] theorem askBearer_serviceA (c : CtxId) (l : LoopId) (pos : Nat) : (s.askBearer c l pos).serviceA = s.serviceA := by rw [askBearer_frame]
@[simp] theorem askBearer_serviceB (c : CtxId) (l : LoopId) (pos : Nat) : (s.askBearer c l pos).serviceB = s.serviceB := by rw [askBearer_frame]
@[simp] theorem askBearer_home (c : CtxId) (l : LoopId) (pos : Nat) : (s.askBearer c l pos).home = s.home := by rw [askBearer_frame]
@[simp] theorem askBearer_settings (c : CtxId) (l : LoopId) (pos : Nat) : (s.askBearer c l pos).settings = s.settings := by rw [askBearer_frame]
@[simp] theorem askBearer_sectionFault (c : CtxId) (l : LoopId) (pos : Nat) : (s.askBearer c l pos).sectionFault = s.sectionFault := by rw [askBearer_frame]
@[simp] theorem askBearer_trunkFaultA (c : CtxId) (l : LoopId) (pos : Nat) : (s.askBearer c l pos).trunkFaultA = s.trunkFaultA := by rw [askBearer_frame]
@[simp] theorem askBearer_trunkFaultB (c : CtxId) (l : LoopId) (pos : Nat) : (s.askBearer c l pos).trunkFaultB = s.trunkFaultB := by rw [askBearer_frame]
@[simp] theorem askBearer_loopFaults (c : CtxId) (l : LoopId) (pos : Nat) : (s.askBearer c l pos).loopFaults = s.loopFaults := by rw [askBearer_frame]
@[simp] theorem askBearer_postFaults (c : CtxId) (l : LoopId) (pos : Nat) : (s.askBearer c l pos).postFaults = s.postFaults := by rw [askBearer_frame]
@[simp] theorem askBearer_testResults (c : CtxId) (l : LoopId) (pos : Nat) : (s.askBearer c l pos).testResults = s.testResults := by rw [askBearer_frame]
@[simp] theorem askBearer_marks (c : CtxId) (l : LoopId) (pos : Nat) : (s.askBearer c l pos).marks = s.marks := by rw [askBearer_frame]
@[simp] theorem askBearer_abandons (c : CtxId) (l : LoopId) (pos : Nat) : (s.askBearer c l pos).abandons = s.abandons := by rw [askBearer_frame]
@[simp] theorem askBearer_abandonPosts (c : CtxId) (l : LoopId) (pos : Nat) : (s.askBearer c l pos).abandonPosts = s.abandonPosts := by rw [askBearer_frame]
@[simp] theorem askBearer_mask (c : CtxId) (l : LoopId) (pos : Nat) : (s.askBearer c l pos).mask = s.mask := by rw [askBearer_frame]
@[simp] theorem askBearer_ring (c : CtxId) (l : LoopId) (pos : Nat) (j : LoopId) : (s.askBearer c l pos).ring j = s.ring j := by simp [ring]
@[simp] theorem askBearer_feed (c : CtxId) (l : LoopId) (pos : Nat) (j : LoopId) : (s.askBearer c l pos).feed j = s.feed j := by simp [feed]
@[simp] theorem askBearer_record (c : CtxId) (l : LoopId) (pos : Nat) (j : SlotId) : (s.askBearer c l pos).record j = s.record j := by simp [record]
@[simp] theorem askBearer_trunk (c : CtxId) (l : LoopId) (pos : Nat) (j : Trunk) : (s.askBearer c l pos).trunk j = s.trunk j := by cases j <;> simp [trunk]
@[simp] theorem askBearer_path (c : CtxId) (l : LoopId) (pos : Nat) (j : CtxId) : (s.askBearer c l pos).path j = s.path j := by simp [path]
@[simp] theorem askBearer_player (c : CtxId) (l : LoopId) (pos : Nat) (j : CtxId) : (s.askBearer c l pos).player j = s.player j := by simp [player]
@[simp] theorem askBearer_segment (c : CtxId) (l : LoopId) (pos : Nat) (j : SegId) : (s.askBearer c l pos).segment j = s.segment j := by simp [segment]
@[simp] theorem askBearer_service (c : CtxId) (l : LoopId) (pos : Nat) (j : Trunk) : (s.askBearer c l pos).service j = s.service j := by cases j <;> simp [service]
@[simp] theorem askBearer_param (c : CtxId) (l : LoopId) (pos : Nat) (j : Fin 25) : (s.askBearer c l pos).param j = s.param j := by simp [param]

/-! ### register -/

theorem register_frame (c : CtxId) (l : LoopId) (pos : Nat) (e : MapEntry) (cls : CallClass) : s.register c l pos e cls = { s with
    contexts := (s.register c l pos e cls).contexts
    entryCount := (s.register c l pos e cls).entryCount
    waiting := (s.register c l pos e cls).waiting
    loops := (s.register c l pos e cls).loops
    handed := (s.register c l pos e cls).handed } := by
  apply State.ext <;> first | with_reducible rfl | (simp [register])
@[simp] theorem register_pending (c : CtxId) (l : LoopId) (pos : Nat) (e : MapEntry) (cls : CallClass) : (s.register c l pos e cls).pending = s.pending := by rw [register_frame]
@[simp] theorem register_rings (c : CtxId) (l : LoopId) (pos : Nat) (e : MapEntry) (cls : CallClass) : (s.register c l pos e cls).rings = s.rings := by rw [register_frame]
@[simp] theorem register_feeds (c : CtxId) (l : LoopId) (pos : Nat) (e : MapEntry) (cls : CallClass) : (s.register c l pos e cls).feeds = s.feeds := by rw [register_frame]
@[simp] theorem register_supply (c : CtxId) (l : LoopId) (pos : Nat) (e : MapEntry) (cls : CallClass) : (s.register c l pos e cls).supply = s.supply := by rw [register_frame]
@[simp] theorem register_directory (c : CtxId) (l : LoopId) (pos : Nat) (e : MapEntry) (cls : CallClass) : (s.register c l pos e cls).directory = s.directory := by rw [register_frame]
@[simp] theorem register_routes (c : CtxId) (l : LoopId) (pos : Nat) (e : MapEntry) (cls : CallClass) : (s.register c l pos e cls).routes = s.routes := by rw [register_frame]
@[simp] theorem register_plan (c : CtxId) (l : LoopId) (pos : Nat) (e : MapEntry) (cls : CallClass) : (s.register c l pos e cls).plan = s.plan := by rw [register_frame]
@[simp] theorem register_trunkA (c : CtxId) (l : LoopId) (pos : Nat) (e : MapEntry) (cls : CallClass) : (s.register c l pos e cls).trunkA = s.trunkA := by rw [register_frame]
@[simp] theorem register_trunkB (c : CtxId) (l : LoopId) (pos : Nat) (e : MapEntry) (cls : CallClass) : (s.register c l pos e cls).trunkB = s.trunkB := by rw [register_frame]
@[simp] theorem register_paths (c : CtxId) (l : LoopId) (pos : Nat) (e : MapEntry) (cls : CallClass) : (s.register c l pos e cls).paths = s.paths := by rw [register_frame]
@[simp] theorem register_samples (c : CtxId) (l : LoopId) (pos : Nat) (e : MapEntry) (cls : CallClass) : (s.register c l pos e cls).samples = s.samples := by rw [register_frame]
@[simp] theorem register_segments (c : CtxId) (l : LoopId) (pos : Nat) (e : MapEntry) (cls : CallClass) : (s.register c l pos e cls).segments = s.segments := by rw [register_frame]
@[simp] theorem register_players (c : CtxId) (l : LoopId) (pos : Nat) (e : MapEntry) (cls : CallClass) : (s.register c l pos e cls).players = s.players := by rw [register_frame]
@[simp] theorem register_serviceA (c : CtxId) (l : LoopId) (pos : Nat) (e : MapEntry) (cls : CallClass) : (s.register c l pos e cls).serviceA = s.serviceA := by rw [register_frame]
@[simp] theorem register_serviceB (c : CtxId) (l : LoopId) (pos : Nat) (e : MapEntry) (cls : CallClass) : (s.register c l pos e cls).serviceB = s.serviceB := by rw [register_frame]
@[simp] theorem register_home (c : CtxId) (l : LoopId) (pos : Nat) (e : MapEntry) (cls : CallClass) : (s.register c l pos e cls).home = s.home := by rw [register_frame]
@[simp] theorem register_settings (c : CtxId) (l : LoopId) (pos : Nat) (e : MapEntry) (cls : CallClass) : (s.register c l pos e cls).settings = s.settings := by rw [register_frame]
@[simp] theorem register_sectionFault (c : CtxId) (l : LoopId) (pos : Nat) (e : MapEntry) (cls : CallClass) : (s.register c l pos e cls).sectionFault = s.sectionFault := by rw [register_frame]
@[simp] theorem register_trunkFaultA (c : CtxId) (l : LoopId) (pos : Nat) (e : MapEntry) (cls : CallClass) : (s.register c l pos e cls).trunkFaultA = s.trunkFaultA := by rw [register_frame]
@[simp] theorem register_trunkFaultB (c : CtxId) (l : LoopId) (pos : Nat) (e : MapEntry) (cls : CallClass) : (s.register c l pos e cls).trunkFaultB = s.trunkFaultB := by rw [register_frame]
@[simp] theorem register_loopFaults (c : CtxId) (l : LoopId) (pos : Nat) (e : MapEntry) (cls : CallClass) : (s.register c l pos e cls).loopFaults = s.loopFaults := by rw [register_frame]
@[simp] theorem register_postFaults (c : CtxId) (l : LoopId) (pos : Nat) (e : MapEntry) (cls : CallClass) : (s.register c l pos e cls).postFaults = s.postFaults := by rw [register_frame]
@[simp] theorem register_testResults (c : CtxId) (l : LoopId) (pos : Nat) (e : MapEntry) (cls : CallClass) : (s.register c l pos e cls).testResults = s.testResults := by rw [register_frame]
@[simp] theorem register_marks (c : CtxId) (l : LoopId) (pos : Nat) (e : MapEntry) (cls : CallClass) : (s.register c l pos e cls).marks = s.marks := by rw [register_frame]
@[simp] theorem register_abandons (c : CtxId) (l : LoopId) (pos : Nat) (e : MapEntry) (cls : CallClass) : (s.register c l pos e cls).abandons = s.abandons := by rw [register_frame]
@[simp] theorem register_abandonPosts (c : CtxId) (l : LoopId) (pos : Nat) (e : MapEntry) (cls : CallClass) : (s.register c l pos e cls).abandonPosts = s.abandonPosts := by rw [register_frame]
@[simp] theorem register_mask (c : CtxId) (l : LoopId) (pos : Nat) (e : MapEntry) (cls : CallClass) : (s.register c l pos e cls).mask = s.mask := by rw [register_frame]
@[simp] theorem register_ring (c : CtxId) (l : LoopId) (pos : Nat) (e : MapEntry) (cls : CallClass) (j : LoopId) : (s.register c l pos e cls).ring j = s.ring j := by simp [ring]
@[simp] theorem register_feed (c : CtxId) (l : LoopId) (pos : Nat) (e : MapEntry) (cls : CallClass) (j : LoopId) : (s.register c l pos e cls).feed j = s.feed j := by simp [feed]
@[simp] theorem register_record (c : CtxId) (l : LoopId) (pos : Nat) (e : MapEntry) (cls : CallClass) (j : SlotId) : (s.register c l pos e cls).record j = s.record j := by simp [record]
@[simp] theorem register_trunk (c : CtxId) (l : LoopId) (pos : Nat) (e : MapEntry) (cls : CallClass) (j : Trunk) : (s.register c l pos e cls).trunk j = s.trunk j := by cases j <;> simp [trunk]
@[simp] theorem register_path (c : CtxId) (l : LoopId) (pos : Nat) (e : MapEntry) (cls : CallClass) (j : CtxId) : (s.register c l pos e cls).path j = s.path j := by simp [path]
@[simp] theorem register_player (c : CtxId) (l : LoopId) (pos : Nat) (e : MapEntry) (cls : CallClass) (j : CtxId) : (s.register c l pos e cls).player j = s.player j := by simp [player]
@[simp] theorem register_segment (c : CtxId) (l : LoopId) (pos : Nat) (e : MapEntry) (cls : CallClass) (j : SegId) : (s.register c l pos e cls).segment j = s.segment j := by simp [segment]
@[simp] theorem register_service (c : CtxId) (l : LoopId) (pos : Nat) (e : MapEntry) (cls : CallClass) (j : Trunk) : (s.register c l pos e cls).service j = s.service j := by cases j <;> simp [service]
@[simp] theorem register_param (c : CtxId) (l : LoopId) (pos : Nat) (e : MapEntry) (cls : CallClass) (j : Fin 25) : (s.register c l pos e cls).param j = s.param j := by simp [param]

/-! ### refuseClass -/

theorem refuseClass_frame (l : LoopId) (pos : Nat) (tie : Tie) : s.refuseClass l pos tie = { s with
    loops := (s.refuseClass l pos tie).loops
    handed := (s.refuseClass l pos tie).handed } := by
  apply State.ext <;> first | with_reducible rfl | (unfold refuseClass; dsimp only; (repeat' split) <;> simp)
@[simp] theorem refuseClass_pending (l : LoopId) (pos : Nat) (tie : Tie) : (s.refuseClass l pos tie).pending = s.pending := by rw [refuseClass_frame]
@[simp] theorem refuseClass_rings (l : LoopId) (pos : Nat) (tie : Tie) : (s.refuseClass l pos tie).rings = s.rings := by rw [refuseClass_frame]
@[simp] theorem refuseClass_feeds (l : LoopId) (pos : Nat) (tie : Tie) : (s.refuseClass l pos tie).feeds = s.feeds := by rw [refuseClass_frame]
@[simp] theorem refuseClass_supply (l : LoopId) (pos : Nat) (tie : Tie) : (s.refuseClass l pos tie).supply = s.supply := by rw [refuseClass_frame]
@[simp] theorem refuseClass_directory (l : LoopId) (pos : Nat) (tie : Tie) : (s.refuseClass l pos tie).directory = s.directory := by rw [refuseClass_frame]
@[simp] theorem refuseClass_contexts (l : LoopId) (pos : Nat) (tie : Tie) : (s.refuseClass l pos tie).contexts = s.contexts := by rw [refuseClass_frame]
@[simp] theorem refuseClass_waiting (l : LoopId) (pos : Nat) (tie : Tie) : (s.refuseClass l pos tie).waiting = s.waiting := by rw [refuseClass_frame]
@[simp] theorem refuseClass_entryCount (l : LoopId) (pos : Nat) (tie : Tie) : (s.refuseClass l pos tie).entryCount = s.entryCount := by rw [refuseClass_frame]
@[simp] theorem refuseClass_routes (l : LoopId) (pos : Nat) (tie : Tie) : (s.refuseClass l pos tie).routes = s.routes := by rw [refuseClass_frame]
@[simp] theorem refuseClass_plan (l : LoopId) (pos : Nat) (tie : Tie) : (s.refuseClass l pos tie).plan = s.plan := by rw [refuseClass_frame]
@[simp] theorem refuseClass_trunkA (l : LoopId) (pos : Nat) (tie : Tie) : (s.refuseClass l pos tie).trunkA = s.trunkA := by rw [refuseClass_frame]
@[simp] theorem refuseClass_trunkB (l : LoopId) (pos : Nat) (tie : Tie) : (s.refuseClass l pos tie).trunkB = s.trunkB := by rw [refuseClass_frame]
@[simp] theorem refuseClass_paths (l : LoopId) (pos : Nat) (tie : Tie) : (s.refuseClass l pos tie).paths = s.paths := by rw [refuseClass_frame]
@[simp] theorem refuseClass_samples (l : LoopId) (pos : Nat) (tie : Tie) : (s.refuseClass l pos tie).samples = s.samples := by rw [refuseClass_frame]
@[simp] theorem refuseClass_segments (l : LoopId) (pos : Nat) (tie : Tie) : (s.refuseClass l pos tie).segments = s.segments := by rw [refuseClass_frame]
@[simp] theorem refuseClass_players (l : LoopId) (pos : Nat) (tie : Tie) : (s.refuseClass l pos tie).players = s.players := by rw [refuseClass_frame]
@[simp] theorem refuseClass_serviceA (l : LoopId) (pos : Nat) (tie : Tie) : (s.refuseClass l pos tie).serviceA = s.serviceA := by rw [refuseClass_frame]
@[simp] theorem refuseClass_serviceB (l : LoopId) (pos : Nat) (tie : Tie) : (s.refuseClass l pos tie).serviceB = s.serviceB := by rw [refuseClass_frame]
@[simp] theorem refuseClass_home (l : LoopId) (pos : Nat) (tie : Tie) : (s.refuseClass l pos tie).home = s.home := by rw [refuseClass_frame]
@[simp] theorem refuseClass_settings (l : LoopId) (pos : Nat) (tie : Tie) : (s.refuseClass l pos tie).settings = s.settings := by rw [refuseClass_frame]
@[simp] theorem refuseClass_sectionFault (l : LoopId) (pos : Nat) (tie : Tie) : (s.refuseClass l pos tie).sectionFault = s.sectionFault := by rw [refuseClass_frame]
@[simp] theorem refuseClass_trunkFaultA (l : LoopId) (pos : Nat) (tie : Tie) : (s.refuseClass l pos tie).trunkFaultA = s.trunkFaultA := by rw [refuseClass_frame]
@[simp] theorem refuseClass_trunkFaultB (l : LoopId) (pos : Nat) (tie : Tie) : (s.refuseClass l pos tie).trunkFaultB = s.trunkFaultB := by rw [refuseClass_frame]
@[simp] theorem refuseClass_loopFaults (l : LoopId) (pos : Nat) (tie : Tie) : (s.refuseClass l pos tie).loopFaults = s.loopFaults := by rw [refuseClass_frame]
@[simp] theorem refuseClass_postFaults (l : LoopId) (pos : Nat) (tie : Tie) : (s.refuseClass l pos tie).postFaults = s.postFaults := by rw [refuseClass_frame]
@[simp] theorem refuseClass_testResults (l : LoopId) (pos : Nat) (tie : Tie) : (s.refuseClass l pos tie).testResults = s.testResults := by rw [refuseClass_frame]
@[simp] theorem refuseClass_marks (l : LoopId) (pos : Nat) (tie : Tie) : (s.refuseClass l pos tie).marks = s.marks := by rw [refuseClass_frame]
@[simp] theorem refuseClass_abandons (l : LoopId) (pos : Nat) (tie : Tie) : (s.refuseClass l pos tie).abandons = s.abandons := by rw [refuseClass_frame]
@[simp] theorem refuseClass_abandonPosts (l : LoopId) (pos : Nat) (tie : Tie) : (s.refuseClass l pos tie).abandonPosts = s.abandonPosts := by rw [refuseClass_frame]
@[simp] theorem refuseClass_mask (l : LoopId) (pos : Nat) (tie : Tie) : (s.refuseClass l pos tie).mask = s.mask := by rw [refuseClass_frame]
@[simp] theorem refuseClass_ring (l : LoopId) (pos : Nat) (tie : Tie) (j : LoopId) : (s.refuseClass l pos tie).ring j = s.ring j := by simp [ring]
@[simp] theorem refuseClass_feed (l : LoopId) (pos : Nat) (tie : Tie) (j : LoopId) : (s.refuseClass l pos tie).feed j = s.feed j := by simp [feed]
@[simp] theorem refuseClass_record (l : LoopId) (pos : Nat) (tie : Tie) (j : SlotId) : (s.refuseClass l pos tie).record j = s.record j := by simp [record]
@[simp] theorem refuseClass_ctx (l : LoopId) (pos : Nat) (tie : Tie) (j : CtxId) : (s.refuseClass l pos tie).ctx j = s.ctx j := by simp [ctx]
@[simp] theorem refuseClass_trunk (l : LoopId) (pos : Nat) (tie : Tie) (j : Trunk) : (s.refuseClass l pos tie).trunk j = s.trunk j := by cases j <;> simp [trunk]
@[simp] theorem refuseClass_path (l : LoopId) (pos : Nat) (tie : Tie) (j : CtxId) : (s.refuseClass l pos tie).path j = s.path j := by simp [path]
@[simp] theorem refuseClass_player (l : LoopId) (pos : Nat) (tie : Tie) (j : CtxId) : (s.refuseClass l pos tie).player j = s.player j := by simp [player]
@[simp] theorem refuseClass_segment (l : LoopId) (pos : Nat) (tie : Tie) (j : SegId) : (s.refuseClass l pos tie).segment j = s.segment j := by simp [segment]
@[simp] theorem refuseClass_service (l : LoopId) (pos : Nat) (tie : Tie) (j : Trunk) : (s.refuseClass l pos tie).service j = s.service j := by cases j <;> simp [service]
@[simp] theorem refuseClass_param (l : LoopId) (pos : Nat) (tie : Tie) (j : Fin 25) : (s.refuseClass l pos tie).param j = s.param j := by simp [param]

/-! ### newRequest -/

theorem newRequest_frame (l : LoopId) (pos : Nat) (e : MapEntry) (cls : CallClass) : s.newRequest l pos e cls = { s with
    contexts := (s.newRequest l pos e cls).contexts
    entryCount := (s.newRequest l pos e cls).entryCount
    waiting := (s.newRequest l pos e cls).waiting
    loops := (s.newRequest l pos e cls).loops
    handed := (s.newRequest l pos e cls).handed } := by
  apply State.ext <;> first | with_reducible rfl | (unfold newRequest; dsimp only; (repeat' split) <;> simp)
@[simp] theorem newRequest_pending (l : LoopId) (pos : Nat) (e : MapEntry) (cls : CallClass) : (s.newRequest l pos e cls).pending = s.pending := by rw [newRequest_frame]
@[simp] theorem newRequest_rings (l : LoopId) (pos : Nat) (e : MapEntry) (cls : CallClass) : (s.newRequest l pos e cls).rings = s.rings := by rw [newRequest_frame]
@[simp] theorem newRequest_feeds (l : LoopId) (pos : Nat) (e : MapEntry) (cls : CallClass) : (s.newRequest l pos e cls).feeds = s.feeds := by rw [newRequest_frame]
@[simp] theorem newRequest_supply (l : LoopId) (pos : Nat) (e : MapEntry) (cls : CallClass) : (s.newRequest l pos e cls).supply = s.supply := by rw [newRequest_frame]
@[simp] theorem newRequest_directory (l : LoopId) (pos : Nat) (e : MapEntry) (cls : CallClass) : (s.newRequest l pos e cls).directory = s.directory := by rw [newRequest_frame]
@[simp] theorem newRequest_routes (l : LoopId) (pos : Nat) (e : MapEntry) (cls : CallClass) : (s.newRequest l pos e cls).routes = s.routes := by rw [newRequest_frame]
@[simp] theorem newRequest_plan (l : LoopId) (pos : Nat) (e : MapEntry) (cls : CallClass) : (s.newRequest l pos e cls).plan = s.plan := by rw [newRequest_frame]
@[simp] theorem newRequest_trunkA (l : LoopId) (pos : Nat) (e : MapEntry) (cls : CallClass) : (s.newRequest l pos e cls).trunkA = s.trunkA := by rw [newRequest_frame]
@[simp] theorem newRequest_trunkB (l : LoopId) (pos : Nat) (e : MapEntry) (cls : CallClass) : (s.newRequest l pos e cls).trunkB = s.trunkB := by rw [newRequest_frame]
@[simp] theorem newRequest_paths (l : LoopId) (pos : Nat) (e : MapEntry) (cls : CallClass) : (s.newRequest l pos e cls).paths = s.paths := by rw [newRequest_frame]
@[simp] theorem newRequest_samples (l : LoopId) (pos : Nat) (e : MapEntry) (cls : CallClass) : (s.newRequest l pos e cls).samples = s.samples := by rw [newRequest_frame]
@[simp] theorem newRequest_segments (l : LoopId) (pos : Nat) (e : MapEntry) (cls : CallClass) : (s.newRequest l pos e cls).segments = s.segments := by rw [newRequest_frame]
@[simp] theorem newRequest_players (l : LoopId) (pos : Nat) (e : MapEntry) (cls : CallClass) : (s.newRequest l pos e cls).players = s.players := by rw [newRequest_frame]
@[simp] theorem newRequest_serviceA (l : LoopId) (pos : Nat) (e : MapEntry) (cls : CallClass) : (s.newRequest l pos e cls).serviceA = s.serviceA := by rw [newRequest_frame]
@[simp] theorem newRequest_serviceB (l : LoopId) (pos : Nat) (e : MapEntry) (cls : CallClass) : (s.newRequest l pos e cls).serviceB = s.serviceB := by rw [newRequest_frame]
@[simp] theorem newRequest_home (l : LoopId) (pos : Nat) (e : MapEntry) (cls : CallClass) : (s.newRequest l pos e cls).home = s.home := by rw [newRequest_frame]
@[simp] theorem newRequest_settings (l : LoopId) (pos : Nat) (e : MapEntry) (cls : CallClass) : (s.newRequest l pos e cls).settings = s.settings := by rw [newRequest_frame]
@[simp] theorem newRequest_sectionFault (l : LoopId) (pos : Nat) (e : MapEntry) (cls : CallClass) : (s.newRequest l pos e cls).sectionFault = s.sectionFault := by rw [newRequest_frame]
@[simp] theorem newRequest_trunkFaultA (l : LoopId) (pos : Nat) (e : MapEntry) (cls : CallClass) : (s.newRequest l pos e cls).trunkFaultA = s.trunkFaultA := by rw [newRequest_frame]
@[simp] theorem newRequest_trunkFaultB (l : LoopId) (pos : Nat) (e : MapEntry) (cls : CallClass) : (s.newRequest l pos e cls).trunkFaultB = s.trunkFaultB := by rw [newRequest_frame]
@[simp] theorem newRequest_loopFaults (l : LoopId) (pos : Nat) (e : MapEntry) (cls : CallClass) : (s.newRequest l pos e cls).loopFaults = s.loopFaults := by rw [newRequest_frame]
@[simp] theorem newRequest_postFaults (l : LoopId) (pos : Nat) (e : MapEntry) (cls : CallClass) : (s.newRequest l pos e cls).postFaults = s.postFaults := by rw [newRequest_frame]
@[simp] theorem newRequest_testResults (l : LoopId) (pos : Nat) (e : MapEntry) (cls : CallClass) : (s.newRequest l pos e cls).testResults = s.testResults := by rw [newRequest_frame]
@[simp] theorem newRequest_marks (l : LoopId) (pos : Nat) (e : MapEntry) (cls : CallClass) : (s.newRequest l pos e cls).marks = s.marks := by rw [newRequest_frame]
@[simp] theorem newRequest_abandons (l : LoopId) (pos : Nat) (e : MapEntry) (cls : CallClass) : (s.newRequest l pos e cls).abandons = s.abandons := by rw [newRequest_frame]
@[simp] theorem newRequest_abandonPosts (l : LoopId) (pos : Nat) (e : MapEntry) (cls : CallClass) : (s.newRequest l pos e cls).abandonPosts = s.abandonPosts := by rw [newRequest_frame]
@[simp] theorem newRequest_mask (l : LoopId) (pos : Nat) (e : MapEntry) (cls : CallClass) : (s.newRequest l pos e cls).mask = s.mask := by rw [newRequest_frame]
@[simp] theorem newRequest_ring (l : LoopId) (pos : Nat) (e : MapEntry) (cls : CallClass) (j : LoopId) : (s.newRequest l pos e cls).ring j = s.ring j := by simp [ring]
@[simp] theorem newRequest_feed (l : LoopId) (pos : Nat) (e : MapEntry) (cls : CallClass) (j : LoopId) : (s.newRequest l pos e cls).feed j = s.feed j := by simp [feed]
@[simp] theorem newRequest_record (l : LoopId) (pos : Nat) (e : MapEntry) (cls : CallClass) (j : SlotId) : (s.newRequest l pos e cls).record j = s.record j := by simp [record]
@[simp] theorem newRequest_trunk (l : LoopId) (pos : Nat) (e : MapEntry) (cls : CallClass) (j : Trunk) : (s.newRequest l pos e cls).trunk j = s.trunk j := by cases j <;> simp [trunk]
@[simp] theorem newRequest_path (l : LoopId) (pos : Nat) (e : MapEntry) (cls : CallClass) (j : CtxId) : (s.newRequest l pos e cls).path j = s.path j := by simp [path]
@[simp] theorem newRequest_player (l : LoopId) (pos : Nat) (e : MapEntry) (cls : CallClass) (j : CtxId) : (s.newRequest l pos e cls).player j = s.player j := by simp [player]
@[simp] theorem newRequest_segment (l : LoopId) (pos : Nat) (e : MapEntry) (cls : CallClass) (j : SegId) : (s.newRequest l pos e cls).segment j = s.segment j := by simp [segment]
@[simp] theorem newRequest_service (l : LoopId) (pos : Nat) (e : MapEntry) (cls : CallClass) (j : Trunk) : (s.newRequest l pos e cls).service j = s.service j := by cases j <;> simp [service]
@[simp] theorem newRequest_param (l : LoopId) (pos : Nat) (e : MapEntry) (cls : CallClass) (j : Fin 25) : (s.newRequest l pos e cls).param j = s.param j := by simp [param]

/-! ### abandon -/

theorem abandon_frame (c : CtxId) (l : LoopId) (pos : Nat) : s.abandon c l pos = { s with
    contexts := (s.abandon c l pos).contexts
    paths := (s.abandon c l pos).paths
    waiting := (s.abandon c l pos).waiting
    players := (s.abandon c l pos).players
    marks := (s.abandon c l pos).marks
    loops := (s.abandon c l pos).loops
    trunkA := (s.abandon c l pos).trunkA
    trunkB := (s.abandon c l pos).trunkB
    handed := (s.abandon c l pos).handed } := by
  apply State.ext <;> first | with_reducible rfl | (unfold abandon; dsimp only; (repeat' split) <;> simp)
@[simp] theorem abandon_pending (c : CtxId) (l : LoopId) (pos : Nat) : (s.abandon c l pos).pending = s.pending := by rw [abandon_frame]
@[simp] theorem abandon_rings (c : CtxId) (l : LoopId) (pos : Nat) : (s.abandon c l pos).rings = s.rings := by rw [abandon_frame]
@[simp] theorem abandon_feeds (c : CtxId) (l : LoopId) (pos : Nat) : (s.abandon c l pos).feeds = s.feeds := by rw [abandon_frame]
@[simp] theorem abandon_supply (c : CtxId) (l : LoopId) (pos : Nat) : (s.abandon c l pos).supply = s.supply := by rw [abandon_frame]
@[simp] theorem abandon_directory (c : CtxId) (l : LoopId) (pos : Nat) : (s.abandon c l pos).directory = s.directory := by rw [abandon_frame]
@[simp] theorem abandon_entryCount (c : CtxId) (l : LoopId) (pos : Nat) : (s.abandon c l pos).entryCount = s.entryCount := by rw [abandon_frame]
@[simp] theorem abandon_routes (c : CtxId) (l : LoopId) (pos : Nat) : (s.abandon c l pos).routes = s.routes := by rw [abandon_frame]
@[simp] theorem abandon_plan (c : CtxId) (l : LoopId) (pos : Nat) : (s.abandon c l pos).plan = s.plan := by rw [abandon_frame]
@[simp] theorem abandon_samples (c : CtxId) (l : LoopId) (pos : Nat) : (s.abandon c l pos).samples = s.samples := by rw [abandon_frame]
@[simp] theorem abandon_segments (c : CtxId) (l : LoopId) (pos : Nat) : (s.abandon c l pos).segments = s.segments := by rw [abandon_frame]
@[simp] theorem abandon_serviceA (c : CtxId) (l : LoopId) (pos : Nat) : (s.abandon c l pos).serviceA = s.serviceA := by rw [abandon_frame]
@[simp] theorem abandon_serviceB (c : CtxId) (l : LoopId) (pos : Nat) : (s.abandon c l pos).serviceB = s.serviceB := by rw [abandon_frame]
@[simp] theorem abandon_home (c : CtxId) (l : LoopId) (pos : Nat) : (s.abandon c l pos).home = s.home := by rw [abandon_frame]
@[simp] theorem abandon_settings (c : CtxId) (l : LoopId) (pos : Nat) : (s.abandon c l pos).settings = s.settings := by rw [abandon_frame]
@[simp] theorem abandon_sectionFault (c : CtxId) (l : LoopId) (pos : Nat) : (s.abandon c l pos).sectionFault = s.sectionFault := by rw [abandon_frame]
@[simp] theorem abandon_trunkFaultA (c : CtxId) (l : LoopId) (pos : Nat) : (s.abandon c l pos).trunkFaultA = s.trunkFaultA := by rw [abandon_frame]
@[simp] theorem abandon_trunkFaultB (c : CtxId) (l : LoopId) (pos : Nat) : (s.abandon c l pos).trunkFaultB = s.trunkFaultB := by rw [abandon_frame]
@[simp] theorem abandon_loopFaults (c : CtxId) (l : LoopId) (pos : Nat) : (s.abandon c l pos).loopFaults = s.loopFaults := by rw [abandon_frame]
@[simp] theorem abandon_postFaults (c : CtxId) (l : LoopId) (pos : Nat) : (s.abandon c l pos).postFaults = s.postFaults := by rw [abandon_frame]
@[simp] theorem abandon_testResults (c : CtxId) (l : LoopId) (pos : Nat) : (s.abandon c l pos).testResults = s.testResults := by rw [abandon_frame]
@[simp] theorem abandon_abandons (c : CtxId) (l : LoopId) (pos : Nat) : (s.abandon c l pos).abandons = s.abandons := by rw [abandon_frame]
@[simp] theorem abandon_abandonPosts (c : CtxId) (l : LoopId) (pos : Nat) : (s.abandon c l pos).abandonPosts = s.abandonPosts := by rw [abandon_frame]
@[simp] theorem abandon_mask (c : CtxId) (l : LoopId) (pos : Nat) : (s.abandon c l pos).mask = s.mask := by rw [abandon_frame]
@[simp] theorem abandon_ring (c : CtxId) (l : LoopId) (pos : Nat) (j : LoopId) : (s.abandon c l pos).ring j = s.ring j := by simp [ring]
@[simp] theorem abandon_feed (c : CtxId) (l : LoopId) (pos : Nat) (j : LoopId) : (s.abandon c l pos).feed j = s.feed j := by simp [feed]
@[simp] theorem abandon_record (c : CtxId) (l : LoopId) (pos : Nat) (j : SlotId) : (s.abandon c l pos).record j = s.record j := by simp [record]
@[simp] theorem abandon_segment (c : CtxId) (l : LoopId) (pos : Nat) (j : SegId) : (s.abandon c l pos).segment j = s.segment j := by simp [segment]
@[simp] theorem abandon_service (c : CtxId) (l : LoopId) (pos : Nat) (j : Trunk) : (s.abandon c l pos).service j = s.service j := by cases j <;> simp [service]
@[simp] theorem abandon_param (c : CtxId) (l : LoopId) (pos : Nat) (j : Fin 25) : (s.abandon c l pos).param j = s.param j := by simp [param]

/-! ### callerDropped -/

theorem callerDropped_frame (l : LoopId) (pos : Nat) : s.callerDropped l pos = { s with
    contexts := (s.callerDropped l pos).contexts
    paths := (s.callerDropped l pos).paths
    waiting := (s.callerDropped l pos).waiting
    players := (s.callerDropped l pos).players
    marks := (s.callerDropped l pos).marks
    loops := (s.callerDropped l pos).loops
    trunkA := (s.callerDropped l pos).trunkA
    trunkB := (s.callerDropped l pos).trunkB
    handed := (s.callerDropped l pos).handed } := by
  apply State.ext <;> first | with_reducible rfl | (unfold callerDropped; dsimp only; (repeat' split) <;> simp)
@[simp] theorem callerDropped_pending (l : LoopId) (pos : Nat) : (s.callerDropped l pos).pending = s.pending := by rw [callerDropped_frame]
@[simp] theorem callerDropped_rings (l : LoopId) (pos : Nat) : (s.callerDropped l pos).rings = s.rings := by rw [callerDropped_frame]
@[simp] theorem callerDropped_feeds (l : LoopId) (pos : Nat) : (s.callerDropped l pos).feeds = s.feeds := by rw [callerDropped_frame]
@[simp] theorem callerDropped_supply (l : LoopId) (pos : Nat) : (s.callerDropped l pos).supply = s.supply := by rw [callerDropped_frame]
@[simp] theorem callerDropped_directory (l : LoopId) (pos : Nat) : (s.callerDropped l pos).directory = s.directory := by rw [callerDropped_frame]
@[simp] theorem callerDropped_entryCount (l : LoopId) (pos : Nat) : (s.callerDropped l pos).entryCount = s.entryCount := by rw [callerDropped_frame]
@[simp] theorem callerDropped_routes (l : LoopId) (pos : Nat) : (s.callerDropped l pos).routes = s.routes := by rw [callerDropped_frame]
@[simp] theorem callerDropped_plan (l : LoopId) (pos : Nat) : (s.callerDropped l pos).plan = s.plan := by rw [callerDropped_frame]
@[simp] theorem callerDropped_samples (l : LoopId) (pos : Nat) : (s.callerDropped l pos).samples = s.samples := by rw [callerDropped_frame]
@[simp] theorem callerDropped_segments (l : LoopId) (pos : Nat) : (s.callerDropped l pos).segments = s.segments := by rw [callerDropped_frame]
@[simp] theorem callerDropped_serviceA (l : LoopId) (pos : Nat) : (s.callerDropped l pos).serviceA = s.serviceA := by rw [callerDropped_frame]
@[simp] theorem callerDropped_serviceB (l : LoopId) (pos : Nat) : (s.callerDropped l pos).serviceB = s.serviceB := by rw [callerDropped_frame]
@[simp] theorem callerDropped_home (l : LoopId) (pos : Nat) : (s.callerDropped l pos).home = s.home := by rw [callerDropped_frame]
@[simp] theorem callerDropped_settings (l : LoopId) (pos : Nat) : (s.callerDropped l pos).settings = s.settings := by rw [callerDropped_frame]
@[simp] theorem callerDropped_sectionFault (l : LoopId) (pos : Nat) : (s.callerDropped l pos).sectionFault = s.sectionFault := by rw [callerDropped_frame]
@[simp] theorem callerDropped_trunkFaultA (l : LoopId) (pos : Nat) : (s.callerDropped l pos).trunkFaultA = s.trunkFaultA := by rw [callerDropped_frame]
@[simp] theorem callerDropped_trunkFaultB (l : LoopId) (pos : Nat) : (s.callerDropped l pos).trunkFaultB = s.trunkFaultB := by rw [callerDropped_frame]
@[simp] theorem callerDropped_loopFaults (l : LoopId) (pos : Nat) : (s.callerDropped l pos).loopFaults = s.loopFaults := by rw [callerDropped_frame]
@[simp] theorem callerDropped_postFaults (l : LoopId) (pos : Nat) : (s.callerDropped l pos).postFaults = s.postFaults := by rw [callerDropped_frame]
@[simp] theorem callerDropped_testResults (l : LoopId) (pos : Nat) : (s.callerDropped l pos).testResults = s.testResults := by rw [callerDropped_frame]
@[simp] theorem callerDropped_abandons (l : LoopId) (pos : Nat) : (s.callerDropped l pos).abandons = s.abandons := by rw [callerDropped_frame]
@[simp] theorem callerDropped_abandonPosts (l : LoopId) (pos : Nat) : (s.callerDropped l pos).abandonPosts = s.abandonPosts := by rw [callerDropped_frame]
@[simp] theorem callerDropped_mask (l : LoopId) (pos : Nat) : (s.callerDropped l pos).mask = s.mask := by rw [callerDropped_frame]
@[simp] theorem callerDropped_ring (l : LoopId) (pos : Nat) (j : LoopId) : (s.callerDropped l pos).ring j = s.ring j := by simp [ring]
@[simp] theorem callerDropped_feed (l : LoopId) (pos : Nat) (j : LoopId) : (s.callerDropped l pos).feed j = s.feed j := by simp [feed]
@[simp] theorem callerDropped_record (l : LoopId) (pos : Nat) (j : SlotId) : (s.callerDropped l pos).record j = s.record j := by simp [record]
@[simp] theorem callerDropped_segment (l : LoopId) (pos : Nat) (j : SegId) : (s.callerDropped l pos).segment j = s.segment j := by simp [segment]
@[simp] theorem callerDropped_service (l : LoopId) (pos : Nat) (j : Trunk) : (s.callerDropped l pos).service j = s.service j := by cases j <;> simp [service]
@[simp] theorem callerDropped_param (l : LoopId) (pos : Nat) (j : Fin 25) : (s.callerDropped l pos).param j = s.param j := by simp [param]

/-! ### freeHolder -/

theorem freeHolder_frame (l : LoopId) (b : BearerId) : s.freeHolder l b = { s with
    contexts := (s.freeHolder l b).contexts
    waiting := (s.freeHolder l b).waiting
    players := (s.freeHolder l b).players
    marks := (s.freeHolder l b).marks } := by
  apply State.ext <;> first | with_reducible rfl | (unfold freeHolder; dsimp only; (repeat' split) <;> simp)
@[simp] theorem freeHolder_pending (l : LoopId) (b : BearerId) : (s.freeHolder l b).pending = s.pending := by rw [freeHolder_frame]
@[simp] theorem freeHolder_handed (l : LoopId) (b : BearerId) : (s.freeHolder l b).handed = s.handed := by rw [freeHolder_frame]
@[simp] theorem freeHolder_loops (l : LoopId) (b : BearerId) : (s.freeHolder l b).loops = s.loops := by rw [freeHolder_frame]
@[simp] theorem freeHolder_rings (l : LoopId) (b : BearerId) : (s.freeHolder l b).rings = s.rings := by rw [freeHolder_frame]
@[simp] theorem freeHolder_feeds (l : LoopId) (b : BearerId) : (s.freeHolder l b).feeds = s.feeds := by rw [freeHolder_frame]
@[simp] theorem freeHolder_supply (l : LoopId) (b : BearerId) : (s.freeHolder l b).supply = s.supply := by rw [freeHolder_frame]
@[simp] theorem freeHolder_directory (l : LoopId) (b : BearerId) : (s.freeHolder l b).directory = s.directory := by rw [freeHolder_frame]
@[simp] theorem freeHolder_entryCount (l : LoopId) (b : BearerId) : (s.freeHolder l b).entryCount = s.entryCount := by rw [freeHolder_frame]
@[simp] theorem freeHolder_routes (l : LoopId) (b : BearerId) : (s.freeHolder l b).routes = s.routes := by rw [freeHolder_frame]
@[simp] theorem freeHolder_plan (l : LoopId) (b : BearerId) : (s.freeHolder l b).plan = s.plan := by rw [freeHolder_frame]
@[simp] theorem freeHolder_trunkA (l : LoopId) (b : BearerId) : (s.freeHolder l b).trunkA = s.trunkA := by rw [freeHolder_frame]
@[simp] theorem freeHolder_trunkB (l : LoopId) (b : BearerId) : (s.freeHolder l b).trunkB = s.trunkB := by rw [freeHolder_frame]
@[simp] theorem freeHolder_paths (l : LoopId) (b : BearerId) : (s.freeHolder l b).paths = s.paths := by rw [freeHolder_frame]
@[simp] theorem freeHolder_samples (l : LoopId) (b : BearerId) : (s.freeHolder l b).samples = s.samples := by rw [freeHolder_frame]
@[simp] theorem freeHolder_segments (l : LoopId) (b : BearerId) : (s.freeHolder l b).segments = s.segments := by rw [freeHolder_frame]
@[simp] theorem freeHolder_serviceA (l : LoopId) (b : BearerId) : (s.freeHolder l b).serviceA = s.serviceA := by rw [freeHolder_frame]
@[simp] theorem freeHolder_serviceB (l : LoopId) (b : BearerId) : (s.freeHolder l b).serviceB = s.serviceB := by rw [freeHolder_frame]
@[simp] theorem freeHolder_home (l : LoopId) (b : BearerId) : (s.freeHolder l b).home = s.home := by rw [freeHolder_frame]
@[simp] theorem freeHolder_settings (l : LoopId) (b : BearerId) : (s.freeHolder l b).settings = s.settings := by rw [freeHolder_frame]
@[simp] theorem freeHolder_sectionFault (l : LoopId) (b : BearerId) : (s.freeHolder l b).sectionFault = s.sectionFault := by rw [freeHolder_frame]
@[simp] theorem freeHolder_trunkFaultA (l : LoopId) (b : BearerId) : (s.freeHolder l b).trunkFaultA = s.trunkFaultA := by rw [freeHolder_frame]
@[simp] theorem freeHolder_trunkFaultB (l : LoopId) (b : BearerId) : (s.freeHolder l b).trunkFaultB = s.trunkFaultB := by rw [freeHolder_frame]
@[simp] theorem freeHolder_loopFaults (l : LoopId) (b : BearerId) : (s.freeHolder l b).loopFaults = s.loopFaults := by rw [freeHolder_frame]
@[simp] theorem freeHolder_postFaults (l : LoopId) (b : BearerId) : (s.freeHolder l b).postFaults = s.postFaults := by rw [freeHolder_frame]
@[simp] theorem freeHolder_testResults (l : LoopId) (b : BearerId) : (s.freeHolder l b).testResults = s.testResults := by rw [freeHolder_frame]
@[simp] theorem freeHolder_abandons (l : LoopId) (b : BearerId) : (s.freeHolder l b).abandons = s.abandons := by rw [freeHolder_frame]
@[simp] theorem freeHolder_abandonPosts (l : LoopId) (b : BearerId) : (s.freeHolder l b).abandonPosts = s.abandonPosts := by rw [freeHolder_frame]
@[simp] theorem freeHolder_mask (l : LoopId) (b : BearerId) : (s.freeHolder l b).mask = s.mask := by rw [freeHolder_frame]
@[simp] theorem freeHolder_loop (l : LoopId) (b : BearerId) (j : LoopId) : (s.freeHolder l b).loop j = s.loop j := by simp [loop]
@[simp] theorem freeHolder_ring (l : LoopId) (b : BearerId) (j : LoopId) : (s.freeHolder l b).ring j = s.ring j := by simp [ring]
@[simp] theorem freeHolder_feed (l : LoopId) (b : BearerId) (j : LoopId) : (s.freeHolder l b).feed j = s.feed j := by simp [feed]
@[simp] theorem freeHolder_record (l : LoopId) (b : BearerId) (j : SlotId) : (s.freeHolder l b).record j = s.record j := by simp [record]
@[simp] theorem freeHolder_trunk (l : LoopId) (b : BearerId) (j : Trunk) : (s.freeHolder l b).trunk j = s.trunk j := by cases j <;> simp [trunk]
@[simp] theorem freeHolder_path (l : LoopId) (b : BearerId) (j : CtxId) : (s.freeHolder l b).path j = s.path j := by simp [path]
@[simp] theorem freeHolder_segment (l : LoopId) (b : BearerId) (j : SegId) : (s.freeHolder l b).segment j = s.segment j := by simp [segment]
@[simp] theorem freeHolder_service (l : LoopId) (b : BearerId) (j : Trunk) : (s.freeHolder l b).service j = s.service j := by cases j <;> simp [service]
@[simp] theorem freeHolder_param (l : LoopId) (b : BearerId) (j : Fin 25) : (s.freeHolder l b).param j = s.param j := by simp [param]

/-! ### followPost -/

theorem followPost_frame (passes : List (Option (Nat × Tie))) (c : CtxId) : followPost passes s c = { s with
    contexts := (followPost passes s c).contexts
    waiting := (followPost passes s c).waiting
    players := (followPost passes s c).players
    marks := (followPost passes s c).marks
    trunkA := (followPost passes s c).trunkA
    trunkB := (followPost passes s c).trunkB
    handed := (followPost passes s c).handed } := by
  apply State.ext <;> first | with_reducible rfl | (unfold followPost; dsimp only; (repeat' split) <;> simp)
@[simp] theorem followPost_pending (passes : List (Option (Nat × Tie))) (c : CtxId) : (followPost passes s c).pending = s.pending := by rw [followPost_frame]
@[simp] theorem followPost_loops (passes : List (Option (Nat × Tie))) (c : CtxId) : (followPost passes s c).loops = s.loops := by rw [followPost_frame]
@[simp] theorem followPost_rings (passes : List (Option (Nat × Tie))) (c : CtxId) : (followPost passes s c).rings = s.rings := by rw [followPost_frame]
@[simp] theorem followPost_feeds (passes : List (Option (Nat × Tie))) (c : CtxId) : (followPost passes s c).feeds = s.feeds := by rw [followPost_frame]
@[simp] theorem followPost_supply (passes : List (Option (Nat × Tie))) (c : CtxId) : (followPost passes s c).supply = s.supply := by rw [followPost_frame]
@[simp] theorem followPost_directory (passes : List (Option (Nat × Tie))) (c : CtxId) : (followPost passes s c).directory = s.directory := by rw [followPost_frame]
@[simp] theorem followPost_entryCount (passes : List (Option (Nat × Tie))) (c : CtxId) : (followPost passes s c).entryCount = s.entryCount := by rw [followPost_frame]
@[simp] theorem followPost_routes (passes : List (Option (Nat × Tie))) (c : CtxId) : (followPost passes s c).routes = s.routes := by rw [followPost_frame]
@[simp] theorem followPost_plan (passes : List (Option (Nat × Tie))) (c : CtxId) : (followPost passes s c).plan = s.plan := by rw [followPost_frame]
@[simp] theorem followPost_paths (passes : List (Option (Nat × Tie))) (c : CtxId) : (followPost passes s c).paths = s.paths := by rw [followPost_frame]
@[simp] theorem followPost_samples (passes : List (Option (Nat × Tie))) (c : CtxId) : (followPost passes s c).samples = s.samples := by rw [followPost_frame]
@[simp] theorem followPost_segments (passes : List (Option (Nat × Tie))) (c : CtxId) : (followPost passes s c).segments = s.segments := by rw [followPost_frame]
@[simp] theorem followPost_serviceA (passes : List (Option (Nat × Tie))) (c : CtxId) : (followPost passes s c).serviceA = s.serviceA := by rw [followPost_frame]
@[simp] theorem followPost_serviceB (passes : List (Option (Nat × Tie))) (c : CtxId) : (followPost passes s c).serviceB = s.serviceB := by rw [followPost_frame]
@[simp] theorem followPost_home (passes : List (Option (Nat × Tie))) (c : CtxId) : (followPost passes s c).home = s.home := by rw [followPost_frame]
@[simp] theorem followPost_settings (passes : List (Option (Nat × Tie))) (c : CtxId) : (followPost passes s c).settings = s.settings := by rw [followPost_frame]
@[simp] theorem followPost_sectionFault (passes : List (Option (Nat × Tie))) (c : CtxId) : (followPost passes s c).sectionFault = s.sectionFault := by rw [followPost_frame]
@[simp] theorem followPost_trunkFaultA (passes : List (Option (Nat × Tie))) (c : CtxId) : (followPost passes s c).trunkFaultA = s.trunkFaultA := by rw [followPost_frame]
@[simp] theorem followPost_trunkFaultB (passes : List (Option (Nat × Tie))) (c : CtxId) : (followPost passes s c).trunkFaultB = s.trunkFaultB := by rw [followPost_frame]
@[simp] theorem followPost_loopFaults (passes : List (Option (Nat × Tie))) (c : CtxId) : (followPost passes s c).loopFaults = s.loopFaults := by rw [followPost_frame]
@[simp] theorem followPost_postFaults (passes : List (Option (Nat × Tie))) (c : CtxId) : (followPost passes s c).postFaults = s.postFaults := by rw [followPost_frame]
@[simp] theorem followPost_testResults (passes : List (Option (Nat × Tie))) (c : CtxId) : (followPost passes s c).testResults = s.testResults := by rw [followPost_frame]
@[simp] theorem followPost_abandons (passes : List (Option (Nat × Tie))) (c : CtxId) : (followPost passes s c).abandons = s.abandons := by rw [followPost_frame]
@[simp] theorem followPost_abandonPosts (passes : List (Option (Nat × Tie))) (c : CtxId) : (followPost passes s c).abandonPosts = s.abandonPosts := by rw [followPost_frame]
@[simp] theorem followPost_mask (passes : List (Option (Nat × Tie))) (c : CtxId) : (followPost passes s c).mask = s.mask := by rw [followPost_frame]
@[simp] theorem followPost_loop (passes : List (Option (Nat × Tie))) (c : CtxId) (j : LoopId) : (followPost passes s c).loop j = s.loop j := by simp [loop]
@[simp] theorem followPost_ring (passes : List (Option (Nat × Tie))) (c : CtxId) (j : LoopId) : (followPost passes s c).ring j = s.ring j := by simp [ring]
@[simp] theorem followPost_feed (passes : List (Option (Nat × Tie))) (c : CtxId) (j : LoopId) : (followPost passes s c).feed j = s.feed j := by simp [feed]
@[simp] theorem followPost_record (passes : List (Option (Nat × Tie))) (c : CtxId) (j : SlotId) : (followPost passes s c).record j = s.record j := by simp [record]
@[simp] theorem followPost_path (passes : List (Option (Nat × Tie))) (c : CtxId) (j : CtxId) : (followPost passes s c).path j = s.path j := by simp [path]
@[simp] theorem followPost_segment (passes : List (Option (Nat × Tie))) (c : CtxId) (j : SegId) : (followPost passes s c).segment j = s.segment j := by simp [segment]
@[simp] theorem followPost_service (passes : List (Option (Nat × Tie))) (c : CtxId) (j : Trunk) : (followPost passes s c).service j = s.service j := by cases j <;> simp [service]
@[simp] theorem followPost_param (passes : List (Option (Nat × Tie))) (c : CtxId) (j : Fin 25) : (followPost passes s c).param j = s.param j := by simp [param]

/-! ### foldl_followPost -/

theorem foldl_followPost_frame (passes : List (Option (Nat × Tie))) (xs : List CtxId) : xs.foldl (followPost passes) s = { s with
    contexts := (xs.foldl (followPost passes) s).contexts
    waiting := (xs.foldl (followPost passes) s).waiting
    players := (xs.foldl (followPost passes) s).players
    marks := (xs.foldl (followPost passes) s).marks
    trunkA := (xs.foldl (followPost passes) s).trunkA
    trunkB := (xs.foldl (followPost passes) s).trunkB
    handed := (xs.foldl (followPost passes) s).handed } := by
  apply State.ext <;> first | with_reducible rfl | (exact foldl_keeps _ _ (fun _ _ => by simp) _ _)
@[simp] theorem foldl_followPost_pending (passes : List (Option (Nat × Tie))) (xs : List CtxId) : (xs.foldl (followPost passes) s).pending = s.pending := by rw [foldl_followPost_frame]
@[simp] theorem foldl_followPost_loops (passes : List (Option (Nat × Tie))) (xs : List CtxId) : (xs.foldl (followPost passes) s).loops = s.loops := by rw [foldl_followPost_frame]
@[simp] theorem foldl_followPost_rings (passes : List (Option (Nat × Tie))) (xs : List CtxId) : (xs.foldl (followPost passes) s).rings = s.rings := by rw [foldl_followPost_frame]
@[simp] theorem foldl_followPost_feeds (passes : List (Option (Nat × Tie))) (xs : List CtxId) : (xs.foldl (followPost passes) s).feeds = s.feeds := by rw [foldl_followPost_frame]
@[simp] theorem foldl_followPost_supply (passes : List (Option (Nat × Tie))) (xs : List CtxId) : (xs.foldl (followPost passes) s).supply = s.supply := by rw [foldl_followPost_frame]
@[simp] theorem foldl_followPost_directory (passes : List (Option (Nat × Tie))) (xs : List CtxId) : (xs.foldl (followPost passes) s).directory = s.directory := by rw [foldl_followPost_frame]
@[simp] theorem foldl_followPost_entryCount (passes : List (Option (Nat × Tie))) (xs : List CtxId) : (xs.foldl (followPost passes) s).entryCount = s.entryCount := by rw [foldl_followPost_frame]
@[simp] theorem foldl_followPost_routes (passes : List (Option (Nat × Tie))) (xs : List CtxId) : (xs.foldl (followPost passes) s).routes = s.routes := by rw [foldl_followPost_frame]
@[simp] theorem foldl_followPost_plan (passes : List (Option (Nat × Tie))) (xs : List CtxId) : (xs.foldl (followPost passes) s).plan = s.plan := by rw [foldl_followPost_frame]
@[simp] theorem foldl_followPost_paths (passes : List (Option (Nat × Tie))) (xs : List CtxId) : (xs.foldl (followPost passes) s).paths = s.paths := by rw [foldl_followPost_frame]
@[simp] theorem foldl_followPost_samples (passes : List (Option (Nat × Tie))) (xs : List CtxId) : (xs.foldl (followPost passes) s).samples = s.samples := by rw [foldl_followPost_frame]
@[simp] theorem foldl_followPost_segments (passes : List (Option (Nat × Tie))) (xs : List CtxId) : (xs.foldl (followPost passes) s).segments = s.segments := by rw [foldl_followPost_frame]
@[simp] theorem foldl_followPost_serviceA (passes : List (Option (Nat × Tie))) (xs : List CtxId) : (xs.foldl (followPost passes) s).serviceA = s.serviceA := by rw [foldl_followPost_frame]
@[simp] theorem foldl_followPost_serviceB (passes : List (Option (Nat × Tie))) (xs : List CtxId) : (xs.foldl (followPost passes) s).serviceB = s.serviceB := by rw [foldl_followPost_frame]
@[simp] theorem foldl_followPost_home (passes : List (Option (Nat × Tie))) (xs : List CtxId) : (xs.foldl (followPost passes) s).home = s.home := by rw [foldl_followPost_frame]
@[simp] theorem foldl_followPost_settings (passes : List (Option (Nat × Tie))) (xs : List CtxId) : (xs.foldl (followPost passes) s).settings = s.settings := by rw [foldl_followPost_frame]
@[simp] theorem foldl_followPost_sectionFault (passes : List (Option (Nat × Tie))) (xs : List CtxId) : (xs.foldl (followPost passes) s).sectionFault = s.sectionFault := by rw [foldl_followPost_frame]
@[simp] theorem foldl_followPost_trunkFaultA (passes : List (Option (Nat × Tie))) (xs : List CtxId) : (xs.foldl (followPost passes) s).trunkFaultA = s.trunkFaultA := by rw [foldl_followPost_frame]
@[simp] theorem foldl_followPost_trunkFaultB (passes : List (Option (Nat × Tie))) (xs : List CtxId) : (xs.foldl (followPost passes) s).trunkFaultB = s.trunkFaultB := by rw [foldl_followPost_frame]
@[simp] theorem foldl_followPost_loopFaults (passes : List (Option (Nat × Tie))) (xs : List CtxId) : (xs.foldl (followPost passes) s).loopFaults = s.loopFaults := by rw [foldl_followPost_frame]
@[simp] theorem foldl_followPost_postFaults (passes : List (Option (Nat × Tie))) (xs : List CtxId) : (xs.foldl (followPost passes) s).postFaults = s.postFaults := by rw [foldl_followPost_frame]
@[simp] theorem foldl_followPost_testResults (passes : List (Option (Nat × Tie))) (xs : List CtxId) : (xs.foldl (followPost passes) s).testResults = s.testResults := by rw [foldl_followPost_frame]
@[simp] theorem foldl_followPost_abandons (passes : List (Option (Nat × Tie))) (xs : List CtxId) : (xs.foldl (followPost passes) s).abandons = s.abandons := by rw [foldl_followPost_frame]
@[simp] theorem foldl_followPost_abandonPosts (passes : List (Option (Nat × Tie))) (xs : List CtxId) : (xs.foldl (followPost passes) s).abandonPosts = s.abandonPosts := by rw [foldl_followPost_frame]
@[simp] theorem foldl_followPost_mask (passes : List (Option (Nat × Tie))) (xs : List CtxId) : (xs.foldl (followPost passes) s).mask = s.mask := by rw [foldl_followPost_frame]
@[simp] theorem foldl_followPost_loop (passes : List (Option (Nat × Tie))) (xs : List CtxId) (j : LoopId) : (xs.foldl (followPost passes) s).loop j = s.loop j := by simp [loop]
@[simp] theorem foldl_followPost_ring (passes : List (Option (Nat × Tie))) (xs : List CtxId) (j : LoopId) : (xs.foldl (followPost passes) s).ring j = s.ring j := by simp [ring]
@[simp] theorem foldl_followPost_feed (passes : List (Option (Nat × Tie))) (xs : List CtxId) (j : LoopId) : (xs.foldl (followPost passes) s).feed j = s.feed j := by simp [feed]
@[simp] theorem foldl_followPost_record (passes : List (Option (Nat × Tie))) (xs : List CtxId) (j : SlotId) : (xs.foldl (followPost passes) s).record j = s.record j := by simp [record]
@[simp] theorem foldl_followPost_path (passes : List (Option (Nat × Tie))) (xs : List CtxId) (j : CtxId) : (xs.foldl (followPost passes) s).path j = s.path j := by simp [path]
@[simp] theorem foldl_followPost_segment (passes : List (Option (Nat × Tie))) (xs : List CtxId) (j : SegId) : (xs.foldl (followPost passes) s).segment j = s.segment j := by simp [segment]
@[simp] theorem foldl_followPost_service (passes : List (Option (Nat × Tie))) (xs : List CtxId) (j : Trunk) : (xs.foldl (followPost passes) s).service j = s.service j := by cases j <;> simp [service]
@[simp] theorem foldl_followPost_param (passes : List (Option (Nat × Tie))) (xs : List CtxId) (j : Fin 25) : (xs.foldl (followPost passes) s).param j = s.param j := by simp [param]

/-! ### foldl_handOn -/

theorem foldl_handOn_frame (l : LoopId) (bs : List BearerId) : bs.foldl (fun s b => s.handOn l b) s = { s with
    contexts := (bs.foldl (fun s b => s.handOn l b) s).contexts
    loops := (bs.foldl (fun s b => s.handOn l b) s).loops
    handed := (bs.foldl (fun s b => s.handOn l b) s).handed } := by
  apply State.ext <;> first | with_reducible rfl | (exact foldl_keeps _ _ (fun _ _ => by simp) _ _)
@[simp] theorem foldl_handOn_pending (l : LoopId) (bs : List BearerId) : (bs.foldl (fun s b => s.handOn l b) s).pending = s.pending := by rw [foldl_handOn_frame]
@[simp] theorem foldl_handOn_rings (l : LoopId) (bs : List BearerId) : (bs.foldl (fun s b => s.handOn l b) s).rings = s.rings := by rw [foldl_handOn_frame]
@[simp] theorem foldl_handOn_feeds (l : LoopId) (bs : List BearerId) : (bs.foldl (fun s b => s.handOn l b) s).feeds = s.feeds := by rw [foldl_handOn_frame]
@[simp] theorem foldl_handOn_supply (l : LoopId) (bs : List BearerId) : (bs.foldl (fun s b => s.handOn l b) s).supply = s.supply := by rw [foldl_handOn_frame]
@[simp] theorem foldl_handOn_directory (l : LoopId) (bs : List BearerId) : (bs.foldl (fun s b => s.handOn l b) s).directory = s.directory := by rw [foldl_handOn_frame]
@[simp] theorem foldl_handOn_waiting (l : LoopId) (bs : List BearerId) : (bs.foldl (fun s b => s.handOn l b) s).waiting = s.waiting := by rw [foldl_handOn_frame]
@[simp] theorem foldl_handOn_entryCount (l : LoopId) (bs : List BearerId) : (bs.foldl (fun s b => s.handOn l b) s).entryCount = s.entryCount := by rw [foldl_handOn_frame]
@[simp] theorem foldl_handOn_routes (l : LoopId) (bs : List BearerId) : (bs.foldl (fun s b => s.handOn l b) s).routes = s.routes := by rw [foldl_handOn_frame]
@[simp] theorem foldl_handOn_plan (l : LoopId) (bs : List BearerId) : (bs.foldl (fun s b => s.handOn l b) s).plan = s.plan := by rw [foldl_handOn_frame]
@[simp] theorem foldl_handOn_trunkA (l : LoopId) (bs : List BearerId) : (bs.foldl (fun s b => s.handOn l b) s).trunkA = s.trunkA := by rw [foldl_handOn_frame]
@[simp] theorem foldl_handOn_trunkB (l : LoopId) (bs : List BearerId) : (bs.foldl (fun s b => s.handOn l b) s).trunkB = s.trunkB := by rw [foldl_handOn_frame]
@[simp] theorem foldl_handOn_paths (l : LoopId) (bs : List BearerId) : (bs.foldl (fun s b => s.handOn l b) s).paths = s.paths := by rw [foldl_handOn_frame]
@[simp] theorem foldl_handOn_samples (l : LoopId) (bs : List BearerId) : (bs.foldl (fun s b => s.handOn l b) s).samples = s.samples := by rw [foldl_handOn_frame]
@[simp] theorem foldl_handOn_segments (l : LoopId) (bs : List BearerId) : (bs.foldl (fun s b => s.handOn l b) s).segments = s.segments := by rw [foldl_handOn_frame]
@[simp] theorem foldl_handOn_players (l : LoopId) (bs : List BearerId) : (bs.foldl (fun s b => s.handOn l b) s).players = s.players := by rw [foldl_handOn_frame]
@[simp] theorem foldl_handOn_serviceA (l : LoopId) (bs : List BearerId) : (bs.foldl (fun s b => s.handOn l b) s).serviceA = s.serviceA := by rw [foldl_handOn_frame]
@[simp] theorem foldl_handOn_serviceB (l : LoopId) (bs : List BearerId) : (bs.foldl (fun s b => s.handOn l b) s).serviceB = s.serviceB := by rw [foldl_handOn_frame]
@[simp] theorem foldl_handOn_home (l : LoopId) (bs : List BearerId) : (bs.foldl (fun s b => s.handOn l b) s).home = s.home := by rw [foldl_handOn_frame]
@[simp] theorem foldl_handOn_settings (l : LoopId) (bs : List BearerId) : (bs.foldl (fun s b => s.handOn l b) s).settings = s.settings := by rw [foldl_handOn_frame]
@[simp] theorem foldl_handOn_sectionFault (l : LoopId) (bs : List BearerId) : (bs.foldl (fun s b => s.handOn l b) s).sectionFault = s.sectionFault := by rw [foldl_handOn_frame]
@[simp] theorem foldl_handOn_trunkFaultA (l : LoopId) (bs : List BearerId) : (bs.foldl (fun s b => s.handOn l b) s).trunkFaultA = s.trunkFaultA := by rw [foldl_handOn_frame]
@[simp] theorem foldl_handOn_trunkFaultB (l : LoopId) (bs : List BearerId) : (bs.foldl (fun s b => s.handOn l b) s).trunkFaultB = s.trunkFaultB := by rw [foldl_handOn_frame]
@[simp] theorem foldl_handOn_loopFaults (l : LoopId) (bs : List BearerId) : (bs.foldl (fun s b => s.handOn l b) s).loopFaults = s.loopFaults := by rw [foldl_handOn_frame]
@[simp] theorem foldl_handOn_postFaults (l : LoopId) (bs : List BearerId) : (bs.foldl (fun s b => s.handOn l b) s).postFaults = s.postFaults := by rw [foldl_handOn_frame]
@[simp] theorem foldl_handOn_testResults (l : LoopId) (bs : List BearerId) : (bs.foldl (fun s b => s.handOn l b) s).testResults = s.testResults := by rw [foldl_handOn_frame]
@[simp] theorem foldl_handOn_marks (l : LoopId) (bs : List BearerId) : (bs.foldl (fun s b => s.handOn l b) s).marks = s.marks := by rw [foldl_handOn_frame]
@[simp] theorem foldl_handOn_abandons (l : LoopId) (bs : List BearerId) : (bs.foldl (fun s b => s.handOn l b) s).abandons = s.abandons := by rw [foldl_handOn_frame]
@[simp] theorem foldl_handOn_abandonPosts (l : LoopId) (bs : List BearerId) : (bs.foldl (fun s b => s.handOn l b) s).abandonPosts = s.abandonPosts := by rw [foldl_handOn_frame]
@[simp] theorem foldl_handOn_mask (l : LoopId) (bs : List BearerId) : (bs.foldl (fun s b => s.handOn l b) s).mask = s.mask := by rw [foldl_handOn_frame]
@[simp] theorem foldl_handOn_ring (l : LoopId) (bs : List BearerId) (j : LoopId) : (bs.foldl (fun s b => s.handOn l b) s).ring j = s.ring j := by simp [ring]
@[simp] theorem foldl_handOn_feed (l : LoopId) (bs : List BearerId) (j : LoopId) : (bs.foldl (fun s b => s.handOn l b) s).feed j = s.feed j := by simp [feed]
@[simp] theorem foldl_handOn_record (l : LoopId) (bs : List BearerId) (j : SlotId) : (bs.foldl (fun s b => s.handOn l b) s).record j = s.record j := by simp [record]
@[simp] theorem foldl_handOn_trunk (l : LoopId) (bs : List BearerId) (j : Trunk) : (bs.foldl (fun s b => s.handOn l b) s).trunk j = s.trunk j := by cases j <;> simp [trunk]
@[simp] theorem foldl_handOn_path (l : LoopId) (bs : List BearerId) (j : CtxId) : (bs.foldl (fun s b => s.handOn l b) s).path j = s.path j := by simp [path]
@[simp] theorem foldl_handOn_player (l : LoopId) (bs : List BearerId) (j : CtxId) : (bs.foldl (fun s b => s.handOn l b) s).player j = s.player j := by simp [player]
@[simp] theorem foldl_handOn_segment (l : LoopId) (bs : List BearerId) (j : SegId) : (bs.foldl (fun s b => s.handOn l b) s).segment j = s.segment j := by simp [segment]
@[simp] theorem foldl_handOn_service (l : LoopId) (bs : List BearerId) (j : Trunk) : (bs.foldl (fun s b => s.handOn l b) s).service j = s.service j := by cases j <;> simp [service]
@[simp] theorem foldl_handOn_param (l : LoopId) (bs : List BearerId) (j : Fin 25) : (bs.foldl (fun s b => s.handOn l b) s).param j = s.param j := by simp [param]

/-! ### foldl_releaseByLoop -/

theorem foldl_releaseByLoop_frame (cause : Cause) (xs : List CtxId) : xs.foldl (fun s c => s.releaseByLoop c cause) s = { s with
    contexts := (xs.foldl (fun s c => s.releaseByLoop c cause) s).contexts
    waiting := (xs.foldl (fun s c => s.releaseByLoop c cause) s).waiting
    players := (xs.foldl (fun s c => s.releaseByLoop c cause) s).players
    marks := (xs.foldl (fun s c => s.releaseByLoop c cause) s).marks
    loops := (xs.foldl (fun s c => s.releaseByLoop c cause) s).loops
    trunkA := (xs.foldl (fun s c => s.releaseByLoop c cause) s).trunkA
    trunkB := (xs.foldl (fun s c => s.releaseByLoop c cause) s).trunkB
    handed := (xs.foldl (fun s c => s.releaseByLoop c cause) s).handed } := by
  apply State.ext <;> first | with_reducible rfl | (exact foldl_keeps _ _ (fun _ _ => by simp) _ _)
@[simp] theorem foldl_releaseByLoop_pending (cause : Cause) (xs : List CtxId) : (xs.foldl (fun s c => s.releaseByLoop c cause) s).pending = s.pending := by rw [foldl_releaseByLoop_frame]
@[simp] theorem foldl_releaseByLoop_rings (cause : Cause) (xs : List CtxId) : (xs.foldl (fun s c => s.releaseByLoop c cause) s).rings = s.rings := by rw [foldl_releaseByLoop_frame]
@[simp] theorem foldl_releaseByLoop_feeds (cause : Cause) (xs : List CtxId) : (xs.foldl (fun s c => s.releaseByLoop c cause) s).feeds = s.feeds := by rw [foldl_releaseByLoop_frame]
@[simp] theorem foldl_releaseByLoop_supply (cause : Cause) (xs : List CtxId) : (xs.foldl (fun s c => s.releaseByLoop c cause) s).supply = s.supply := by rw [foldl_releaseByLoop_frame]
@[simp] theorem foldl_releaseByLoop_directory (cause : Cause) (xs : List CtxId) : (xs.foldl (fun s c => s.releaseByLoop c cause) s).directory = s.directory := by rw [foldl_releaseByLoop_frame]
@[simp] theorem foldl_releaseByLoop_entryCount (cause : Cause) (xs : List CtxId) : (xs.foldl (fun s c => s.releaseByLoop c cause) s).entryCount = s.entryCount := by rw [foldl_releaseByLoop_frame]
@[simp] theorem foldl_releaseByLoop_routes (cause : Cause) (xs : List CtxId) : (xs.foldl (fun s c => s.releaseByLoop c cause) s).routes = s.routes := by rw [foldl_releaseByLoop_frame]
@[simp] theorem foldl_releaseByLoop_plan (cause : Cause) (xs : List CtxId) : (xs.foldl (fun s c => s.releaseByLoop c cause) s).plan = s.plan := by rw [foldl_releaseByLoop_frame]
@[simp] theorem foldl_releaseByLoop_paths (cause : Cause) (xs : List CtxId) : (xs.foldl (fun s c => s.releaseByLoop c cause) s).paths = s.paths := by rw [foldl_releaseByLoop_frame]
@[simp] theorem foldl_releaseByLoop_samples (cause : Cause) (xs : List CtxId) : (xs.foldl (fun s c => s.releaseByLoop c cause) s).samples = s.samples := by rw [foldl_releaseByLoop_frame]
@[simp] theorem foldl_releaseByLoop_segments (cause : Cause) (xs : List CtxId) : (xs.foldl (fun s c => s.releaseByLoop c cause) s).segments = s.segments := by rw [foldl_releaseByLoop_frame]
@[simp] theorem foldl_releaseByLoop_serviceA (cause : Cause) (xs : List CtxId) : (xs.foldl (fun s c => s.releaseByLoop c cause) s).serviceA = s.serviceA := by rw [foldl_releaseByLoop_frame]
@[simp] theorem foldl_releaseByLoop_serviceB (cause : Cause) (xs : List CtxId) : (xs.foldl (fun s c => s.releaseByLoop c cause) s).serviceB = s.serviceB := by rw [foldl_releaseByLoop_frame]
@[simp] theorem foldl_releaseByLoop_home (cause : Cause) (xs : List CtxId) : (xs.foldl (fun s c => s.releaseByLoop c cause) s).home = s.home := by rw [foldl_releaseByLoop_frame]
@[simp] theorem foldl_releaseByLoop_settings (cause : Cause) (xs : List CtxId) : (xs.foldl (fun s c => s.releaseByLoop c cause) s).settings = s.settings := by rw [foldl_releaseByLoop_frame]
@[simp] theorem foldl_releaseByLoop_sectionFault (cause : Cause) (xs : List CtxId) : (xs.foldl (fun s c => s.releaseByLoop c cause) s).sectionFault = s.sectionFault := by rw [foldl_releaseByLoop_frame]
@[simp] theorem foldl_releaseByLoop_trunkFaultA (cause : Cause) (xs : List CtxId) : (xs.foldl (fun s c => s.releaseByLoop c cause) s).trunkFaultA = s.trunkFaultA := by rw [foldl_releaseByLoop_frame]
@[simp] theorem foldl_releaseByLoop_trunkFaultB (cause : Cause) (xs : List CtxId) : (xs.foldl (fun s c => s.releaseByLoop c cause) s).trunkFaultB = s.trunkFaultB := by rw [foldl_releaseByLoop_frame]
@[simp] theorem foldl_releaseByLoop_loopFaults (cause : Cause) (xs : List CtxId) : (xs.foldl (fun s c => s.releaseByLoop c cause) s).loopFaults = s.loopFaults := by rw [foldl_releaseByLoop_frame]
@[simp] theorem foldl_releaseByLoop_postFaults (cause : Cause) (xs : List CtxId) : (xs.foldl (fun s c => s.releaseByLoop c cause) s).postFaults = s.postFaults := by rw [foldl_releaseByLoop_frame]
@[simp] theorem foldl_releaseByLoop_testResults (cause : Cause) (xs : List CtxId) : (xs.foldl (fun s c => s.releaseByLoop c cause) s).testResults = s.testResults := by rw [foldl_releaseByLoop_frame]
@[simp] theorem foldl_releaseByLoop_abandons (cause : Cause) (xs : List CtxId) : (xs.foldl (fun s c => s.releaseByLoop c cause) s).abandons = s.abandons := by rw [foldl_releaseByLoop_frame]
@[simp] theorem foldl_releaseByLoop_abandonPosts (cause : Cause) (xs : List CtxId) : (xs.foldl (fun s c => s.releaseByLoop c cause) s).abandonPosts = s.abandonPosts := by rw [foldl_releaseByLoop_frame]
@[simp] theorem foldl_releaseByLoop_mask (cause : Cause) (xs : List CtxId) : (xs.foldl (fun s c => s.releaseByLoop c cause) s).mask = s.mask := by rw [foldl_releaseByLoop_frame]
@[simp] theorem foldl_releaseByLoop_ring (cause : Cause) (xs : List CtxId) (j : LoopId) : (xs.foldl (fun s c => s.releaseByLoop c cause) s).ring j = s.ring j := by simp [ring]
@[simp] theorem foldl_releaseByLoop_feed (cause : Cause) (xs : List CtxId) (j : LoopId) : (xs.foldl (fun s c => s.releaseByLoop c cause) s).feed j = s.feed j := by simp [feed]
@[simp] theorem foldl_releaseByLoop_record (cause : Cause) (xs : List CtxId) (j : SlotId) : (xs.foldl (fun s c => s.releaseByLoop c cause) s).record j = s.record j := by simp [record]
@[simp] theorem foldl_releaseByLoop_path (cause : Cause) (xs : List CtxId) (j : CtxId) : (xs.foldl (fun s c => s.releaseByLoop c cause) s).path j = s.path j := by simp [path]
@[simp] theorem foldl_releaseByLoop_segment (cause : Cause) (xs : List CtxId) (j : SegId) : (xs.foldl (fun s c => s.releaseByLoop c cause) s).segment j = s.segment j := by simp [segment]
@[simp] theorem foldl_releaseByLoop_service (cause : Cause) (xs : List CtxId) (j : Trunk) : (xs.foldl (fun s c => s.releaseByLoop c cause) s).service j = s.service j := by cases j <;> simp [service]
@[simp] theorem foldl_releaseByLoop_param (cause : Cause) (xs : List CtxId) (j : Fin 25) : (xs.foldl (fun s c => s.releaseByLoop c cause) s).param j = s.param j := by simp [param]

/-! ### releaseLoop -/

theorem releaseLoop_frame (l : LoopId) (cause : Cause) : s.releaseLoop l cause = { s with
    contexts := (s.releaseLoop l cause).contexts
    waiting := (s.releaseLoop l cause).waiting
    players := (s.releaseLoop l cause).players
    marks := (s.releaseLoop l cause).marks
    loops := (s.releaseLoop l cause).loops
    trunkA := (s.releaseLoop l cause).trunkA
    trunkB := (s.releaseLoop l cause).trunkB
    handed := (s.releaseLoop l cause).handed } := by
  apply State.ext <;> first | with_reducible rfl | (simp [releaseLoop])
@[simp] theorem releaseLoop_pending (l : LoopId) (cause : Cause) : (s.releaseLoop l cause).pending = s.pending := by rw [releaseLoop_frame]
@[simp] theorem releaseLoop_rings (l : LoopId) (cause : Cause) : (s.releaseLoop l cause).rings = s.rings := by rw [releaseLoop_frame]
@[simp] theorem releaseLoop_feeds (l : LoopId) (cause : Cause) : (s.releaseLoop l cause).feeds = s.feeds := by rw [releaseLoop_frame]
@[simp] theorem releaseLoop_supply (l : LoopId) (cause : Cause) : (s.releaseLoop l cause).supply = s.supply := by rw [releaseLoop_frame]
@[simp] theorem releaseLoop_directory (l : LoopId) (cause : Cause) : (s.releaseLoop l cause).directory = s.directory := by rw [releaseLoop_frame]
@[simp] theorem releaseLoop_entryCount (l : LoopId) (cause : Cause) : (s.releaseLoop l cause).entryCount = s.entryCount := by rw [releaseLoop_frame]
@[simp] theorem releaseLoop_routes (l : LoopId) (cause : Cause) : (s.releaseLoop l cause).routes = s.routes := by rw [releaseLoop_frame]
@[simp] theorem releaseLoop_plan (l : LoopId) (cause : Cause) : (s.releaseLoop l cause).plan = s.plan := by rw [releaseLoop_frame]
@[simp] theorem releaseLoop_paths (l : LoopId) (cause : Cause) : (s.releaseLoop l cause).paths = s.paths := by rw [releaseLoop_frame]
@[simp] theorem releaseLoop_samples (l : LoopId) (cause : Cause) : (s.releaseLoop l cause).samples = s.samples := by rw [releaseLoop_frame]
@[simp] theorem releaseLoop_segments (l : LoopId) (cause : Cause) : (s.releaseLoop l cause).segments = s.segments := by rw [releaseLoop_frame]
@[simp] theorem releaseLoop_serviceA (l : LoopId) (cause : Cause) : (s.releaseLoop l cause).serviceA = s.serviceA := by rw [releaseLoop_frame]
@[simp] theorem releaseLoop_serviceB (l : LoopId) (cause : Cause) : (s.releaseLoop l cause).serviceB = s.serviceB := by rw [releaseLoop_frame]
@[simp] theorem releaseLoop_home (l : LoopId) (cause : Cause) : (s.releaseLoop l cause).home = s.home := by rw [releaseLoop_frame]
@[simp] theorem releaseLoop_settings (l : LoopId) (cause : Cause) : (s.releaseLoop l cause).settings = s.settings := by rw [releaseLoop_frame]
@[simp] theorem releaseLoop_sectionFault (l : LoopId) (cause : Cause) : (s.releaseLoop l cause).sectionFault = s.sectionFault := by rw [releaseLoop_frame]
@[simp] theorem releaseLoop_trunkFaultA (l : LoopId) (cause : Cause) : (s.releaseLoop l cause).trunkFaultA = s.trunkFaultA := by rw [releaseLoop_frame]
@[simp] theorem releaseLoop_trunkFaultB (l : LoopId) (cause : Cause) : (s.releaseLoop l cause).trunkFaultB = s.trunkFaultB := by rw [releaseLoop_frame]
@[simp] theorem releaseLoop_loopFaults (l : LoopId) (cause : Cause) : (s.releaseLoop l cause).loopFaults = s.loopFaults := by rw [releaseLoop_frame]
@[simp] theorem releaseLoop_postFaults (l : LoopId) (cause : Cause) : (s.releaseLoop l cause).postFaults = s.postFaults := by rw [releaseLoop_frame]
@[simp] theorem releaseLoop_testResults (l : LoopId) (cause : Cause) : (s.releaseLoop l cause).testResults = s.testResults := by rw [releaseLoop_frame]
@[simp] theorem releaseLoop_abandons (l : LoopId) (cause : Cause) : (s.releaseLoop l cause).abandons = s.abandons := by rw [releaseLoop_frame]
@[simp] theorem releaseLoop_abandonPosts (l : LoopId) (cause : Cause) : (s.releaseLoop l cause).abandonPosts = s.abandonPosts := by rw [releaseLoop_frame]
@[simp] theorem releaseLoop_mask (l : LoopId) (cause : Cause) : (s.releaseLoop l cause).mask = s.mask := by rw [releaseLoop_frame]
@[simp] theorem releaseLoop_ring (l : LoopId) (cause : Cause) (j : LoopId) : (s.releaseLoop l cause).ring j = s.ring j := by simp [ring]
@[simp] theorem releaseLoop_feed (l : LoopId) (cause : Cause) (j : LoopId) : (s.releaseLoop l cause).feed j = s.feed j := by simp [feed]
@[simp] theorem releaseLoop_record (l : LoopId) (cause : Cause) (j : SlotId) : (s.releaseLoop l cause).record j = s.record j := by simp [record]
@[simp] theorem releaseLoop_path (l : LoopId) (cause : Cause) (j : CtxId) : (s.releaseLoop l cause).path j = s.path j := by simp [path]
@[simp] theorem releaseLoop_segment (l : LoopId) (cause : Cause) (j : SegId) : (s.releaseLoop l cause).segment j = s.segment j := by simp [segment]
@[simp] theorem releaseLoop_service (l : LoopId) (cause : Cause) (j : Trunk) : (s.releaseLoop l cause).service j = s.service j := by cases j <;> simp [service]
@[simp] theorem releaseLoop_param (l : LoopId) (cause : Cause) (j : Fin 25) : (s.releaseLoop l cause).param j = s.param j := by simp [param]

/-! ### raiseHoldLong -/

theorem raiseHoldLong_frame (c : CtxId) : s.raiseHoldLong c = { s with
    contexts := (s.raiseHoldLong c).contexts
    handed := (s.raiseHoldLong c).handed } := by
  apply State.ext <;> first | with_reducible rfl | (simp [raiseHoldLong])
@[simp] theorem raiseHoldLong_pending (c : CtxId) : (s.raiseHoldLong c).pending = s.pending := by rw [raiseHoldLong_frame]
@[simp] theorem raiseHoldLong_loops (c : CtxId) : (s.raiseHoldLong c).loops = s.loops := by rw [raiseHoldLong_frame]
@[simp] theorem raiseHoldLong_rings (c : CtxId) : (s.raiseHoldLong c).rings = s.rings := by rw [raiseHoldLong_frame]
@[simp] theorem raiseHoldLong_feeds (c : CtxId) : (s.raiseHoldLong c).feeds = s.feeds := by rw [raiseHoldLong_frame]
@[simp] theorem raiseHoldLong_supply (c : CtxId) : (s.raiseHoldLong c).supply = s.supply := by rw [raiseHoldLong_frame]
@[simp] theorem raiseHoldLong_directory (c : CtxId) : (s.raiseHoldLong c).directory = s.directory := by rw [raiseHoldLong_frame]
@[simp] theorem raiseHoldLong_waiting (c : CtxId) : (s.raiseHoldLong c).waiting = s.waiting := by rw [raiseHoldLong_frame]
@[simp] theorem raiseHoldLong_entryCount (c : CtxId) : (s.raiseHoldLong c).entryCount = s.entryCount := by rw [raiseHoldLong_frame]
@[simp] theorem raiseHoldLong_routes (c : CtxId) : (s.raiseHoldLong c).routes = s.routes := by rw [raiseHoldLong_frame]
@[simp] theorem raiseHoldLong_plan (c : CtxId) : (s.raiseHoldLong c).plan = s.plan := by rw [raiseHoldLong_frame]
@[simp] theorem raiseHoldLong_trunkA (c : CtxId) : (s.raiseHoldLong c).trunkA = s.trunkA := by rw [raiseHoldLong_frame]
@[simp] theorem raiseHoldLong_trunkB (c : CtxId) : (s.raiseHoldLong c).trunkB = s.trunkB := by rw [raiseHoldLong_frame]
@[simp] theorem raiseHoldLong_paths (c : CtxId) : (s.raiseHoldLong c).paths = s.paths := by rw [raiseHoldLong_frame]
@[simp] theorem raiseHoldLong_samples (c : CtxId) : (s.raiseHoldLong c).samples = s.samples := by rw [raiseHoldLong_frame]
@[simp] theorem raiseHoldLong_segments (c : CtxId) : (s.raiseHoldLong c).segments = s.segments := by rw [raiseHoldLong_frame]
@[simp] theorem raiseHoldLong_players (c : CtxId) : (s.raiseHoldLong c).players = s.players := by rw [raiseHoldLong_frame]
@[simp] theorem raiseHoldLong_serviceA (c : CtxId) : (s.raiseHoldLong c).serviceA = s.serviceA := by rw [raiseHoldLong_frame]
@[simp] theorem raiseHoldLong_serviceB (c : CtxId) : (s.raiseHoldLong c).serviceB = s.serviceB := by rw [raiseHoldLong_frame]
@[simp] theorem raiseHoldLong_home (c : CtxId) : (s.raiseHoldLong c).home = s.home := by rw [raiseHoldLong_frame]
@[simp] theorem raiseHoldLong_settings (c : CtxId) : (s.raiseHoldLong c).settings = s.settings := by rw [raiseHoldLong_frame]
@[simp] theorem raiseHoldLong_sectionFault (c : CtxId) : (s.raiseHoldLong c).sectionFault = s.sectionFault := by rw [raiseHoldLong_frame]
@[simp] theorem raiseHoldLong_trunkFaultA (c : CtxId) : (s.raiseHoldLong c).trunkFaultA = s.trunkFaultA := by rw [raiseHoldLong_frame]
@[simp] theorem raiseHoldLong_trunkFaultB (c : CtxId) : (s.raiseHoldLong c).trunkFaultB = s.trunkFaultB := by rw [raiseHoldLong_frame]
@[simp] theorem raiseHoldLong_loopFaults (c : CtxId) : (s.raiseHoldLong c).loopFaults = s.loopFaults := by rw [raiseHoldLong_frame]
@[simp] theorem raiseHoldLong_postFaults (c : CtxId) : (s.raiseHoldLong c).postFaults = s.postFaults := by rw [raiseHoldLong_frame]
@[simp] theorem raiseHoldLong_testResults (c : CtxId) : (s.raiseHoldLong c).testResults = s.testResults := by rw [raiseHoldLong_frame]
@[simp] theorem raiseHoldLong_marks (c : CtxId) : (s.raiseHoldLong c).marks = s.marks := by rw [raiseHoldLong_frame]
@[simp] theorem raiseHoldLong_abandons (c : CtxId) : (s.raiseHoldLong c).abandons = s.abandons := by rw [raiseHoldLong_frame]
@[simp] theorem raiseHoldLong_abandonPosts (c : CtxId) : (s.raiseHoldLong c).abandonPosts = s.abandonPosts := by rw [raiseHoldLong_frame]
@[simp] theorem raiseHoldLong_mask (c : CtxId) : (s.raiseHoldLong c).mask = s.mask := by rw [raiseHoldLong_frame]
@[simp] theorem raiseHoldLong_loop (c : CtxId) (j : LoopId) : (s.raiseHoldLong c).loop j = s.loop j := by simp [loop]
@[simp] theorem raiseHoldLong_ring (c : CtxId) (j : LoopId) : (s.raiseHoldLong c).ring j = s.ring j := by simp [ring]
@[simp] theorem raiseHoldLong_feed (c : CtxId) (j : LoopId) : (s.raiseHoldLong c).feed j = s.feed j := by simp [feed]
@[simp] theorem raiseHoldLong_record (c : CtxId) (j : SlotId) : (s.raiseHoldLong c).record j = s.record j := by simp [record]
@[simp] theorem raiseHoldLong_trunk (c : CtxId) (j : Trunk) : (s.raiseHoldLong c).trunk j = s.trunk j := by cases j <;> simp [trunk]
@[simp] theorem raiseHoldLong_path (c : CtxId) (j : CtxId) : (s.raiseHoldLong c).path j = s.path j := by simp [path]
@[simp] theorem raiseHoldLong_player (c : CtxId) (j : CtxId) : (s.raiseHoldLong c).player j = s.player j := by simp [player]
@[simp] theorem raiseHoldLong_segment (c : CtxId) (j : SegId) : (s.raiseHoldLong c).segment j = s.segment j := by simp [segment]
@[simp] theorem raiseHoldLong_service (c : CtxId) (j : Trunk) : (s.raiseHoldLong c).service j = s.service j := by cases j <;> simp [service]
@[simp] theorem raiseHoldLong_param (c : CtxId) (j : Fin 25) : (s.raiseHoldLong c).param j = s.param j := by simp [param]

end Sys2Proof.Machine.State
end

