-- ==== Sys2Proof/Laws/Effects.lean ====
section
/-! SUPPORT. What the shared operations do: one lemma for the part each changes. What each leaves is in the other files
of this folder. -/

namespace Sys2Proof.Machine

open Sys2Proof

/-- A freed channel is FREE or BLOCKED (R130). -/
theorem Channel.release_st (x : Channel) : x.release.st = .free ∨ x.release.st = .blocked := by
  obtain ⟨st, mark, code⟩ := x
  cases st <;> cases mark <;> simp [Channel.release]

/-- What stands in the list after an insertion. -/
theorem mem_insertWaiting (order : CtxId → CtxId → Bool) (c d : CtxId) (w : List CtxId) :
    d ∈ insertWaiting order c w ↔ d = c ∨ d ∈ w := by
  induction w with
  | nil => simp [insertWaiting]
  | cons x w ih =>
    unfold insertWaiting; split
    · simp
    · simp only [List.mem_cons, ih]; tauto

/-- An insertion of a new context keeps each entry once. -/
theorem nodup_insertWaiting (order : CtxId → CtxId → Bool) (c : CtxId) (w : List CtxId)
    (h : w.Nodup) (hc : c ∉ w) : (insertWaiting order c w).Nodup := by
  induction w with
  | nil => simp [insertWaiting]
  | cons x w ih =>
    rw [List.nodup_cons] at h
    rw [List.mem_cons, not_or] at hc
    unfold insertWaiting; split
    · simp [h, hc]
    · rw [List.nodup_cons, mem_insertWaiting, not_or]
      exact ⟨⟨fun e => hc.1 e.symm, h.1⟩, ih h.2 hc.2⟩

end Sys2Proof.Machine

namespace Sys2Proof.Machine.State

open Sys2Proof

variable (s : State)

/-! ### Changing one block -/

@[simp] theorem modLoop_loop (l : LoopId) (f : Loop → Loop) : (s.modLoop l f).loop l = f (s.loop l) := by simp [modLoop]

theorem modLoop_loop_of_ne (l : LoopId) (f : Loop → Loop) (m : LoopId) (h : l ≠ m) :
    (s.modLoop l f).loop m = s.loop m := by simp [modLoop, setLoop_loop_of_ne, h]

@[simp] theorem modFeed_feed (l : LoopId) (f : Feed → Feed) : (s.modFeed l f).feed l = f (s.feed l) := by simp [modFeed]

theorem modFeed_feed_of_ne (l : LoopId) (f : Feed → Feed) (m : LoopId) (h : l ≠ m) :
    (s.modFeed l f).feed m = s.feed m := by simp [modFeed, setFeed_feed_of_ne, h]

@[simp] theorem modCtx_ctx (c : CtxId) (f : Ctx → Ctx) : (s.modCtx c f).ctx c = f (s.ctx c) := by simp [modCtx]

theorem modCtx_ctx_of_ne (c : CtxId) (f : Ctx → Ctx) (d : CtxId) (h : c ≠ d) :
    (s.modCtx c f).ctx d = s.ctx d := by simp [modCtx, setCtx_ctx_of_ne, h]

@[simp] theorem modTrunk_trunk (t : Trunk) (f : TrunkIf → TrunkIf) : (s.modTrunk t f).trunk t = f (s.trunk t) := by
  simp [modTrunk]

theorem modTrunk_trunk_of_ne (t : Trunk) (f : TrunkIf → TrunkIf) (u : Trunk) (h : t ≠ u) :
    (s.modTrunk t f).trunk u = s.trunk u := by simp [modTrunk, setTrunk_trunk_of_ne, h]

@[simp] theorem modService_service (t : Trunk) (f : Service → Service) :
    (s.modService t f).service t = f (s.service t) := by simp [modService]

theorem modService_service_of_ne (t : Trunk) (f : Service → Service) (u : Trunk) (h : t ≠ u) :
    (s.modService t f).service u = s.service u := by simp [modService, setService_service_of_ne, h]

/-! ### The hand-off list -/

/-- An event handed once stands in the list. -/
theorem mem_handOnce (i : Instr) : i ∈ (s.handOnce i).handed := by
  unfold handOnce; split <;> simp_all

/-- An event handed once takes nothing out of the list. -/
theorem mem_handOnce_of_mem (i j : Instr) (h : j ∈ s.handed) : j ∈ (s.handOnce i).handed := by
  unfold handOnce; split <;> simp [h]

/-- A loop at an idle moment has a pick handed. -/
theorem mem_wakeScan (l : LoopId) (h : (s.loop l).idle = true) : .scanPick l ∈ (s.wakeScan l).handed := by
  simp [wakeScan, h, mem_handOnce]

/-- What was handed stays handed when a loop is woken. -/
theorem mem_wakeScan_of_mem (l : LoopId) (j : Instr) (h : j ∈ s.handed) : j ∈ (s.wakeScan l).handed := by
  unfold wakeScan; split
  · exact s.mem_handOnce_of_mem _ _ h
  · exact h

/-! ### Bearers and channels -/

@[simp] theorem setBearer_bearer (l : LoopId) (b : BearerId) (x : Bearer) : (s.setBearer l b x).bearer l b = x := by
  simp [setBearer, bearer]

theorem setBearer_bearer_of_ne (l : LoopId) (b : BearerId) (x : Bearer) (d : BearerId) (h : b ≠ d) :
    (s.setBearer l b x).bearer l d = s.bearer l d := by
  have h' : b.val ≠ d.val := fun e => h (Fin.ext e)
  simp [setBearer, bearer, h']

@[simp] theorem setChan_chan (t : Trunk) (n : ChanId) (x : Channel) : (s.setChan t n x).chan t n = x := by
  simp [setChan, chan]

theorem setChan_chan_of_ne (t : Trunk) (n : ChanId) (x : Channel) (m : ChanId) (h : n ≠ m) :
    (s.setChan t n x).chan t m = s.chan t m := by
  have h' : n.val ≠ m.val := fun e => h (Fin.ext e)
  simp [setChan, chan, h']

@[simp] theorem freeChan_chan (t : Trunk) (n : ChanId) : (s.freeChan t n).chan t n = (s.chan t n).release := by
  simp [freeChan]

theorem freePool_chan (t : Trunk) (n : ChanId) : (s.freePool t).chan t n = (s.chan t n).release := by
  simp [freePool, chan, tabulate]

/-! ### The signalling transmit queue (R99) -/

/-- A message is taken at the end of a queue that is not full. -/
theorem pushSig_taken (t : Trunk) (m : SigMsg) (h : (s.trunk t).sigQueue.length < Config.sigQueueMax) :
    ((s.pushSig t m).trunk t).sigQueue = (s.trunk t).sigQueue ++ [m] ∧ (s.pushSig t m).handed = s.handed := by
  simp [pushSig, h]

/-- A full queue takes no message, and SIG-ERROR is handed. -/
theorem pushSig_full (t : Trunk) (m : SigMsg) (h : ¬ (s.trunk t).sigQueue.length < Config.sigQueueMax) :
    s.pushSig t m = s.latch (.trunk t .sigError) := by
  simp [pushSig, h]

/-- No queue grows beyond its maximum. -/
theorem pushSig_length (t u : Trunk) (m : SigMsg) (h : (s.trunk u).sigQueue.length ≤ Config.sigQueueMax) :
    ((s.pushSig t m).trunk u).sigQueue.length ≤ Config.sigQueueMax := by
  unfold pushSig
  split
  · by_cases e : t = u
    · subst e; simp only [modTrunk_trunk, List.length_append, List.length_singleton]; omega
    · rw [modTrunk_trunk_of_ne _ _ _ _ e]; exact h
  · simpa using h

/-! ### The waiting list (R74) -/

/-- A context that enters the waiting list joins those in it. -/
theorem mem_enterWaiting (c d : CtxId) : d ∈ (s.enterWaiting c).waiting ↔ d = c ∨ d ∈ s.waiting := by
  simp [enterWaiting, mem_insertWaiting]

/-- A context that leaves the waiting list leaves the others in it. -/
theorem mem_leaveWaiting (c d : CtxId) : d ∈ (s.leaveWaiting c).waiting ↔ d ∈ s.waiting ∧ d ≠ c := by
  simp [leaveWaiting]

/-- A context enters the waiting list once. -/
theorem nodup_enterWaiting (c : CtxId) (h : s.waiting.Nodup) (hc : c ∉ s.waiting) : (s.enterWaiting c).waiting.Nodup := by
  simpa [enterWaiting] using nodup_insertWaiting _ c s.waiting h hc

/-! ### The post of a context (R69) -/

/-- With no rebuild report of the loop to be taken, an entry stands where the call manager knows it. -/
theorem nowAt_eq_self (l : LoopId) (pos : Nat) (h : ∀ epoch passes freed, .rebuildReport l epoch passes freed ∉ s.handed) :
    s.nowAt l pos = pos := by
  have e : s.passesDue l = [] := by
    unfold passesDue
    rw [List.filterMap_eq_nil_iff]
    intro i hi
    split
    · split
      · rename_i m epoch passes freed hm
        subst hm
        exact absurd hi (h epoch passes freed)
      · rfl
    · rfl
  simp [nowAt, e]

/-- With no rebuild report of its loop to be taken, a context's post stands at the entry of its post key. -/
theorem keyPos_eq_entry (c : CtxId)
    (h : ∀ epoch passes freed, .rebuildReport (s.ctx c).loop epoch passes freed ∉ s.handed) :
    s.keyPos c = (s.ctx c).entry := s.nowAt_eq_self _ _ h

/-- What keeps the passes due on a loop keeps where its entries stand. -/
theorem nowAt_congr (t : State) (l : LoopId) (pos : Nat) (h : t.passesDue l = s.passesDue l) :
    t.nowAt l pos = s.nowAt l pos := by
  unfold nowAt; rw [h]

/-- What keeps the passes due on a context's loop, and its entry, keeps where its post stands. -/
theorem keyPos_congr (t : State) (c : CtxId) (h : t.passesDue (t.ctx c).loop = s.passesDue (s.ctx c).loop)
    (he : (t.ctx c).entry = (s.ctx c).entry) : t.keyPos c = s.keyPos c := by
  unfold keyPos nowAt; rw [h, he]

/-! ### The chain map -/

/-- A change at a seen position is what is read there. -/
theorem entryAt_modEntry (l : LoopId) (pos : Nat) (f : MapEntry → MapEntry) :
    (s.modEntry l pos f).entryAt l pos = (s.entryAt l pos).map f := by
  unfold modEntry entryAt
  split
  · rfl
  · simp

/-- A change at a seen position leaves every other position. -/
theorem entryAt_modEntry_of_ne (l : LoopId) (pos q : Nat) (f : MapEntry → MapEntry) (h : pos ≠ q) :
    (s.modEntry l pos f).entryAt l q = s.entryAt l q := by
  unfold modEntry entryAt
  split
  · rfl
  · split
    · rfl
    · have : pos - 1 ≠ q - 1 := by omega
      simp [this]

end Sys2Proof.Machine.State

namespace Sys2Proof.Machine

open Sys2Proof

/-! ### Fault records (R177, R179) -/

/-- A latched flag stands. -/
theorem FaultRec.latch_has (r : FaultRec) (bit : Nat) (h : bit < 16) : (r.latch bit).has bit = true := by
  unfold FaultRec.latch
  split
  · assumption
  · have : (flagMask bit).getLsbD bit = true := by interval_cases bit <;> decide
    simp only [FaultRec.has, BitVec.getLsbD_or, this, Bool.or_true]

/-- A latch of a clear flag counts, and of a latched one changes nothing. -/
theorem FaultRec.latch_count (r : FaultRec) (bit : Nat) :
    (r.latch bit).count = if r.has bit then r.count else r.count + 1 := by
  unfold FaultRec.latch; split <;> rfl

/-- A clear of flags keeps the change count. -/
@[simp] theorem FaultRec.clear_count (r : FaultRec) (flags : BitVec 16) : (r.clear flags).count = r.count := rfl

/-! ### Pending marks (R181) -/

/-- A set mark joins those pending. -/
theorem mem_insertMark (m x : Nat × Nat) (w : List (Nat × Nat)) : x ∈ insertMark m w ↔ x = m ∨ x ∈ w := by
  induction w with
  | nil => simp [insertMark]
  | cons y w ih =>
    unfold insertMark
    split
    · simp
    · split
      · rename_i e; subst e; simp
      · simp only [List.mem_cons, ih]; tauto

/-- The pending marks stay in the order of rank and index (R183). -/
theorem sorted_insertMark (m : Nat × Nat) (w : List (Nat × Nat))
    (h : w.Pairwise (fun a b => a.1 < b.1 ∨ (a.1 = b.1 ∧ a.2 < b.2))) :
    (insertMark m w).Pairwise (fun a b => a.1 < b.1 ∨ (a.1 = b.1 ∧ a.2 < b.2)) := by
  induction w with
  | nil => simp [insertMark]
  | cons y w ih =>
    rw [List.pairwise_cons] at h
    unfold insertMark
    split
    · rename_i hm
      have hm' : m.1 < y.1 ∨ (m.1 = y.1 ∧ m.2 < y.2) := by simpa [markBefore] using hm
      refine List.pairwise_cons.2 ⟨fun x hx => ?_, List.pairwise_cons.2 h⟩
      rcases List.mem_cons.1 hx with rfl | hx
      · exact hm'
      · have := h.1 x hx; omega
    · split
      · exact List.pairwise_cons.2 h
      · rename_i hm hne
        have hm' : y.1 < m.1 ∨ (y.1 = m.1 ∧ y.2 < m.2) := by
          have hn : ¬ (m.1 < y.1 ∨ (m.1 = y.1 ∧ m.2 < y.2)) := by simpa [markBefore] using hm
          have : m.1 ≠ y.1 ∨ m.2 ≠ y.2 := by
            by_contra hc
            rw [not_or, not_not, not_not] at hc
            exact hne (Prod.ext hc.1 hc.2)
          omega
        refine List.pairwise_cons.2 ⟨fun x hx => ?_, ih h.2⟩
        rcases (mem_insertMark _ _ _).1 hx with rfl | hx
        · exact hm'
        · exact h.1 x hx

end Sys2Proof.Machine
end

