-- ==== Sys2Proof/Laws/Feeds.lean ====
section
/-! SUPPORT. What each operation of the feed supervisors and the supply monitor may change, one equation each, and what it leaves in every other field. -/

namespace Sys2Proof.Machine.State

open Sys2Proof

variable (s : State)

/-! ### reportFeed -/

theorem reportFeed_frame (l : LoopId) : s.reportFeed l = { s with
    handed := (s.reportFeed l).handed } := by
  apply State.ext <;> first | with_reducible rfl | (simp [reportFeed])
@[simp] theorem reportFeed_pending (l : LoopId) : (s.reportFeed l).pending = s.pending := by rw [reportFeed_frame]
@[simp] theorem reportFeed_loops (l : LoopId) : (s.reportFeed l).loops = s.loops := by rw [reportFeed_frame]
@[simp] theorem reportFeed_rings (l : LoopId) : (s.reportFeed l).rings = s.rings := by rw [reportFeed_frame]
@[simp] theorem reportFeed_feeds (l : LoopId) : (s.reportFeed l).feeds = s.feeds := by rw [reportFeed_frame]
@[simp] theorem reportFeed_supply (l : LoopId) : (s.reportFeed l).supply = s.supply := by rw [reportFeed_frame]
@[simp] theorem reportFeed_directory (l : LoopId) : (s.reportFeed l).directory = s.directory := by rw [reportFeed_frame]
@[simp] theorem reportFeed_contexts (l : LoopId) : (s.reportFeed l).contexts = s.contexts := by rw [reportFeed_frame]
@[simp] theorem reportFeed_waiting (l : LoopId) : (s.reportFeed l).waiting = s.waiting := by rw [reportFeed_frame]
@[simp] theorem reportFeed_entryCount (l : LoopId) : (s.reportFeed l).entryCount = s.entryCount := by rw [reportFeed_frame]
@[simp] theorem reportFeed_routes (l : LoopId) : (s.reportFeed l).routes = s.routes := by rw [reportFeed_frame]
@[simp] theorem reportFeed_plan (l : LoopId) : (s.reportFeed l).plan = s.plan := by rw [reportFeed_frame]
@[simp] theorem reportFeed_trunkA (l : LoopId) : (s.reportFeed l).trunkA = s.trunkA := by rw [reportFeed_frame]
@[simp] theorem reportFeed_trunkB (l : LoopId) : (s.reportFeed l).trunkB = s.trunkB := by rw [reportFeed_frame]
@[simp] theorem reportFeed_paths (l : LoopId) : (s.reportFeed l).paths = s.paths := by rw [reportFeed_frame]
@[simp] theorem reportFeed_samples (l : LoopId) : (s.reportFeed l).samples = s.samples := by rw [reportFeed_frame]
@[simp] theorem reportFeed_segments (l : LoopId) : (s.reportFeed l).segments = s.segments := by rw [reportFeed_frame]
@[simp] theorem reportFeed_players (l : LoopId) : (s.reportFeed l).players = s.players := by rw [reportFeed_frame]
@[simp] theorem reportFeed_serviceA (l : LoopId) : (s.reportFeed l).serviceA = s.serviceA := by rw [reportFeed_frame]
@[simp] theorem reportFeed_serviceB (l : LoopId) : (s.reportFeed l).serviceB = s.serviceB := by rw [reportFeed_frame]
@[simp] theorem reportFeed_home (l : LoopId) : (s.reportFeed l).home = s.home := by rw [reportFeed_frame]
@[simp] theorem reportFeed_settings (l : LoopId) : (s.reportFeed l).settings = s.settings := by rw [reportFeed_frame]
@[simp] theorem reportFeed_sectionFault (l : LoopId) : (s.reportFeed l).sectionFault = s.sectionFault := by rw [reportFeed_frame]
@[simp] theorem reportFeed_trunkFaultA (l : LoopId) : (s.reportFeed l).trunkFaultA = s.trunkFaultA := by rw [reportFeed_frame]
@[simp] theorem reportFeed_trunkFaultB (l : LoopId) : (s.reportFeed l).trunkFaultB = s.trunkFaultB := by rw [reportFeed_frame]
@[simp] theorem reportFeed_loopFaults (l : LoopId) : (s.reportFeed l).loopFaults = s.loopFaults := by rw [reportFeed_frame]
@[simp] theorem reportFeed_postFaults (l : LoopId) : (s.reportFeed l).postFaults = s.postFaults := by rw [reportFeed_frame]
@[simp] theorem reportFeed_testResults (l : LoopId) : (s.reportFeed l).testResults = s.testResults := by rw [reportFeed_frame]
@[simp] theorem reportFeed_marks (l : LoopId) : (s.reportFeed l).marks = s.marks := by rw [reportFeed_frame]
@[simp] theorem reportFeed_abandons (l : LoopId) : (s.reportFeed l).abandons = s.abandons := by rw [reportFeed_frame]
@[simp] theorem reportFeed_abandonPosts (l : LoopId) : (s.reportFeed l).abandonPosts = s.abandonPosts := by rw [reportFeed_frame]
@[simp] theorem reportFeed_mask (l : LoopId) : (s.reportFeed l).mask = s.mask := by rw [reportFeed_frame]
@[simp] theorem reportFeed_loop (l : LoopId) (j : LoopId) : (s.reportFeed l).loop j = s.loop j := by simp [loop]
@[simp] theorem reportFeed_ring (l : LoopId) (j : LoopId) : (s.reportFeed l).ring j = s.ring j := by simp [ring]
@[simp] theorem reportFeed_feed (l : LoopId) (j : LoopId) : (s.reportFeed l).feed j = s.feed j := by simp [feed]
@[simp] theorem reportFeed_record (l : LoopId) (j : SlotId) : (s.reportFeed l).record j = s.record j := by simp [record]
@[simp] theorem reportFeed_ctx (l : LoopId) (j : CtxId) : (s.reportFeed l).ctx j = s.ctx j := by simp [ctx]
@[simp] theorem reportFeed_trunk (l : LoopId) (j : Trunk) : (s.reportFeed l).trunk j = s.trunk j := by cases j <;> simp [trunk]
@[simp] theorem reportFeed_path (l : LoopId) (j : CtxId) : (s.reportFeed l).path j = s.path j := by simp [path]
@[simp] theorem reportFeed_player (l : LoopId) (j : CtxId) : (s.reportFeed l).player j = s.player j := by simp [player]
@[simp] theorem reportFeed_segment (l : LoopId) (j : SegId) : (s.reportFeed l).segment j = s.segment j := by simp [segment]
@[simp] theorem reportFeed_service (l : LoopId) (j : Trunk) : (s.reportFeed l).service j = s.service j := by cases j <;> simp [service]
@[simp] theorem reportFeed_param (l : LoopId) (j : Fin 25) : (s.reportFeed l).param j = s.param j := by simp [param]

/-! ### settleFeed -/

theorem settleFeed_frame (l : LoopId) : s.settleFeed l = { s with
    feeds := (s.settleFeed l).feeds
    handed := (s.settleFeed l).handed } := by
  apply State.ext <;> first | with_reducible rfl | (simp [settleFeed])
@[simp] theorem settleFeed_pending (l : LoopId) : (s.settleFeed l).pending = s.pending := by rw [settleFeed_frame]
@[simp] theorem settleFeed_loops (l : LoopId) : (s.settleFeed l).loops = s.loops := by rw [settleFeed_frame]
@[simp] theorem settleFeed_rings (l : LoopId) : (s.settleFeed l).rings = s.rings := by rw [settleFeed_frame]
@[simp] theorem settleFeed_supply (l : LoopId) : (s.settleFeed l).supply = s.supply := by rw [settleFeed_frame]
@[simp] theorem settleFeed_directory (l : LoopId) : (s.settleFeed l).directory = s.directory := by rw [settleFeed_frame]
@[simp] theorem settleFeed_contexts (l : LoopId) : (s.settleFeed l).contexts = s.contexts := by rw [settleFeed_frame]
@[simp] theorem settleFeed_waiting (l : LoopId) : (s.settleFeed l).waiting = s.waiting := by rw [settleFeed_frame]
@[simp] theorem settleFeed_entryCount (l : LoopId) : (s.settleFeed l).entryCount = s.entryCount := by rw [settleFeed_frame]
@[simp] theorem settleFeed_routes (l : LoopId) : (s.settleFeed l).routes = s.routes := by rw [settleFeed_frame]
@[simp] theorem settleFeed_plan (l : LoopId) : (s.settleFeed l).plan = s.plan := by rw [settleFeed_frame]
@[simp] theorem settleFeed_trunkA (l : LoopId) : (s.settleFeed l).trunkA = s.trunkA := by rw [settleFeed_frame]
@[simp] theorem settleFeed_trunkB (l : LoopId) : (s.settleFeed l).trunkB = s.trunkB := by rw [settleFeed_frame]
@[simp] theorem settleFeed_paths (l : LoopId) : (s.settleFeed l).paths = s.paths := by rw [settleFeed_frame]
@[simp] theorem settleFeed_samples (l : LoopId) : (s.settleFeed l).samples = s.samples := by rw [settleFeed_frame]
@[simp] theorem settleFeed_segments (l : LoopId) : (s.settleFeed l).segments = s.segments := by rw [settleFeed_frame]
@[simp] theorem settleFeed_players (l : LoopId) : (s.settleFeed l).players = s.players := by rw [settleFeed_frame]
@[simp] theorem settleFeed_serviceA (l : LoopId) : (s.settleFeed l).serviceA = s.serviceA := by rw [settleFeed_frame]
@[simp] theorem settleFeed_serviceB (l : LoopId) : (s.settleFeed l).serviceB = s.serviceB := by rw [settleFeed_frame]
@[simp] theorem settleFeed_home (l : LoopId) : (s.settleFeed l).home = s.home := by rw [settleFeed_frame]
@[simp] theorem settleFeed_settings (l : LoopId) : (s.settleFeed l).settings = s.settings := by rw [settleFeed_frame]
@[simp] theorem settleFeed_sectionFault (l : LoopId) : (s.settleFeed l).sectionFault = s.sectionFault := by rw [settleFeed_frame]
@[simp] theorem settleFeed_trunkFaultA (l : LoopId) : (s.settleFeed l).trunkFaultA = s.trunkFaultA := by rw [settleFeed_frame]
@[simp] theorem settleFeed_trunkFaultB (l : LoopId) : (s.settleFeed l).trunkFaultB = s.trunkFaultB := by rw [settleFeed_frame]
@[simp] theorem settleFeed_loopFaults (l : LoopId) : (s.settleFeed l).loopFaults = s.loopFaults := by rw [settleFeed_frame]
@[simp] theorem settleFeed_postFaults (l : LoopId) : (s.settleFeed l).postFaults = s.postFaults := by rw [settleFeed_frame]
@[simp] theorem settleFeed_testResults (l : LoopId) : (s.settleFeed l).testResults = s.testResults := by rw [settleFeed_frame]
@[simp] theorem settleFeed_marks (l : LoopId) : (s.settleFeed l).marks = s.marks := by rw [settleFeed_frame]
@[simp] theorem settleFeed_abandons (l : LoopId) : (s.settleFeed l).abandons = s.abandons := by rw [settleFeed_frame]
@[simp] theorem settleFeed_abandonPosts (l : LoopId) : (s.settleFeed l).abandonPosts = s.abandonPosts := by rw [settleFeed_frame]
@[simp] theorem settleFeed_mask (l : LoopId) : (s.settleFeed l).mask = s.mask := by rw [settleFeed_frame]
@[simp] theorem settleFeed_loop (l : LoopId) (j : LoopId) : (s.settleFeed l).loop j = s.loop j := by simp [loop]
@[simp] theorem settleFeed_ring (l : LoopId) (j : LoopId) : (s.settleFeed l).ring j = s.ring j := by simp [ring]
@[simp] theorem settleFeed_record (l : LoopId) (j : SlotId) : (s.settleFeed l).record j = s.record j := by simp [record]
@[simp] theorem settleFeed_ctx (l : LoopId) (j : CtxId) : (s.settleFeed l).ctx j = s.ctx j := by simp [ctx]
@[simp] theorem settleFeed_trunk (l : LoopId) (j : Trunk) : (s.settleFeed l).trunk j = s.trunk j := by cases j <;> simp [trunk]
@[simp] theorem settleFeed_path (l : LoopId) (j : CtxId) : (s.settleFeed l).path j = s.path j := by simp [path]
@[simp] theorem settleFeed_player (l : LoopId) (j : CtxId) : (s.settleFeed l).player j = s.player j := by simp [player]
@[simp] theorem settleFeed_segment (l : LoopId) (j : SegId) : (s.settleFeed l).segment j = s.segment j := by simp [segment]
@[simp] theorem settleFeed_service (l : LoopId) (j : Trunk) : (s.settleFeed l).service j = s.service j := by cases j <;> simp [service]
@[simp] theorem settleFeed_param (l : LoopId) (j : Fin 25) : (s.settleFeed l).param j = s.param j := by simp [param]

/-! ### restoreFeed -/

theorem restoreFeed_frame (l : LoopId) : s.restoreFeed l = { s with
    feeds := (s.restoreFeed l).feeds
    handed := (s.restoreFeed l).handed } := by
  apply State.ext <;> first | with_reducible rfl | (unfold restoreFeed; dsimp only; (repeat' split) <;> simp)
@[simp] theorem restoreFeed_pending (l : LoopId) : (s.restoreFeed l).pending = s.pending := by rw [restoreFeed_frame]
@[simp] theorem restoreFeed_loops (l : LoopId) : (s.restoreFeed l).loops = s.loops := by rw [restoreFeed_frame]
@[simp] theorem restoreFeed_rings (l : LoopId) : (s.restoreFeed l).rings = s.rings := by rw [restoreFeed_frame]
@[simp] theorem restoreFeed_supply (l : LoopId) : (s.restoreFeed l).supply = s.supply := by rw [restoreFeed_frame]
@[simp] theorem restoreFeed_directory (l : LoopId) : (s.restoreFeed l).directory = s.directory := by rw [restoreFeed_frame]
@[simp] theorem restoreFeed_contexts (l : LoopId) : (s.restoreFeed l).contexts = s.contexts := by rw [restoreFeed_frame]
@[simp] theorem restoreFeed_waiting (l : LoopId) : (s.restoreFeed l).waiting = s.waiting := by rw [restoreFeed_frame]
@[simp] theorem restoreFeed_entryCount (l : LoopId) : (s.restoreFeed l).entryCount = s.entryCount := by rw [restoreFeed_frame]
@[simp] theorem restoreFeed_routes (l : LoopId) : (s.restoreFeed l).routes = s.routes := by rw [restoreFeed_frame]
@[simp] theorem restoreFeed_plan (l : LoopId) : (s.restoreFeed l).plan = s.plan := by rw [restoreFeed_frame]
@[simp] theorem restoreFeed_trunkA (l : LoopId) : (s.restoreFeed l).trunkA = s.trunkA := by rw [restoreFeed_frame]
@[simp] theorem restoreFeed_trunkB (l : LoopId) : (s.restoreFeed l).trunkB = s.trunkB := by rw [restoreFeed_frame]
@[simp] theorem restoreFeed_paths (l : LoopId) : (s.restoreFeed l).paths = s.paths := by rw [restoreFeed_frame]
@[simp] theorem restoreFeed_samples (l : LoopId) : (s.restoreFeed l).samples = s.samples := by rw [restoreFeed_frame]
@[simp] theorem restoreFeed_segments (l : LoopId) : (s.restoreFeed l).segments = s.segments := by rw [restoreFeed_frame]
@[simp] theorem restoreFeed_players (l : LoopId) : (s.restoreFeed l).players = s.players := by rw [restoreFeed_frame]
@[simp] theorem restoreFeed_serviceA (l : LoopId) : (s.restoreFeed l).serviceA = s.serviceA := by rw [restoreFeed_frame]
@[simp] theorem restoreFeed_serviceB (l : LoopId) : (s.restoreFeed l).serviceB = s.serviceB := by rw [restoreFeed_frame]
@[simp] theorem restoreFeed_home (l : LoopId) : (s.restoreFeed l).home = s.home := by rw [restoreFeed_frame]
@[simp] theorem restoreFeed_settings (l : LoopId) : (s.restoreFeed l).settings = s.settings := by rw [restoreFeed_frame]
@[simp] theorem restoreFeed_sectionFault (l : LoopId) : (s.restoreFeed l).sectionFault = s.sectionFault := by rw [restoreFeed_frame]
@[simp] theorem restoreFeed_trunkFaultA (l : LoopId) : (s.restoreFeed l).trunkFaultA = s.trunkFaultA := by rw [restoreFeed_frame]
@[simp] theorem restoreFeed_trunkFaultB (l : LoopId) : (s.restoreFeed l).trunkFaultB = s.trunkFaultB := by rw [restoreFeed_frame]
@[simp] theorem restoreFeed_loopFaults (l : LoopId) : (s.restoreFeed l).loopFaults = s.loopFaults := by rw [restoreFeed_frame]
@[simp] theorem restoreFeed_postFaults (l : LoopId) : (s.restoreFeed l).postFaults = s.postFaults := by rw [restoreFeed_frame]
@[simp] theorem restoreFeed_testResults (l : LoopId) : (s.restoreFeed l).testResults = s.testResults := by rw [restoreFeed_frame]
@[simp] theorem restoreFeed_marks (l : LoopId) : (s.restoreFeed l).marks = s.marks := by rw [restoreFeed_frame]
@[simp] theorem restoreFeed_abandons (l : LoopId) : (s.restoreFeed l).abandons = s.abandons := by rw [restoreFeed_frame]
@[simp] theorem restoreFeed_abandonPosts (l : LoopId) : (s.restoreFeed l).abandonPosts = s.abandonPosts := by rw [restoreFeed_frame]
@[simp] theorem restoreFeed_mask (l : LoopId) : (s.restoreFeed l).mask = s.mask := by rw [restoreFeed_frame]
@[simp] theorem restoreFeed_loop (l : LoopId) (j : LoopId) : (s.restoreFeed l).loop j = s.loop j := by simp [loop]
@[simp] theorem restoreFeed_ring (l : LoopId) (j : LoopId) : (s.restoreFeed l).ring j = s.ring j := by simp [ring]
@[simp] theorem restoreFeed_record (l : LoopId) (j : SlotId) : (s.restoreFeed l).record j = s.record j := by simp [record]
@[simp] theorem restoreFeed_ctx (l : LoopId) (j : CtxId) : (s.restoreFeed l).ctx j = s.ctx j := by simp [ctx]
@[simp] theorem restoreFeed_trunk (l : LoopId) (j : Trunk) : (s.restoreFeed l).trunk j = s.trunk j := by cases j <;> simp [trunk]
@[simp] theorem restoreFeed_path (l : LoopId) (j : CtxId) : (s.restoreFeed l).path j = s.path j := by simp [path]
@[simp] theorem restoreFeed_player (l : LoopId) (j : CtxId) : (s.restoreFeed l).player j = s.player j := by simp [player]
@[simp] theorem restoreFeed_segment (l : LoopId) (j : SegId) : (s.restoreFeed l).segment j = s.segment j := by simp [segment]
@[simp] theorem restoreFeed_service (l : LoopId) (j : Trunk) : (s.restoreFeed l).service j = s.service j := by cases j <;> simp [service]
@[simp] theorem restoreFeed_param (l : LoopId) (j : Fin 25) : (s.restoreFeed l).param j = s.param j := by simp [param]

/-! ### feedOn -/

theorem feedOn_frame (l : LoopId) : s.feedOn l = { s with
    feeds := (s.feedOn l).feeds
    handed := (s.feedOn l).handed } := by
  apply State.ext <;> first | with_reducible rfl | (unfold feedOn; dsimp only; (repeat' split) <;> simp)
@[simp] theorem feedOn_pending (l : LoopId) : (s.feedOn l).pending = s.pending := by rw [feedOn_frame]
@[simp] theorem feedOn_loops (l : LoopId) : (s.feedOn l).loops = s.loops := by rw [feedOn_frame]
@[simp] theorem feedOn_rings (l : LoopId) : (s.feedOn l).rings = s.rings := by rw [feedOn_frame]
@[simp] theorem feedOn_supply (l : LoopId) : (s.feedOn l).supply = s.supply := by rw [feedOn_frame]
@[simp] theorem feedOn_directory (l : LoopId) : (s.feedOn l).directory = s.directory := by rw [feedOn_frame]
@[simp] theorem feedOn_contexts (l : LoopId) : (s.feedOn l).contexts = s.contexts := by rw [feedOn_frame]
@[simp] theorem feedOn_waiting (l : LoopId) : (s.feedOn l).waiting = s.waiting := by rw [feedOn_frame]
@[simp] theorem feedOn_entryCount (l : LoopId) : (s.feedOn l).entryCount = s.entryCount := by rw [feedOn_frame]
@[simp] theorem feedOn_routes (l : LoopId) : (s.feedOn l).routes = s.routes := by rw [feedOn_frame]
@[simp] theorem feedOn_plan (l : LoopId) : (s.feedOn l).plan = s.plan := by rw [feedOn_frame]
@[simp] theorem feedOn_trunkA (l : LoopId) : (s.feedOn l).trunkA = s.trunkA := by rw [feedOn_frame]
@[simp] theorem feedOn_trunkB (l : LoopId) : (s.feedOn l).trunkB = s.trunkB := by rw [feedOn_frame]
@[simp] theorem feedOn_paths (l : LoopId) : (s.feedOn l).paths = s.paths := by rw [feedOn_frame]
@[simp] theorem feedOn_samples (l : LoopId) : (s.feedOn l).samples = s.samples := by rw [feedOn_frame]
@[simp] theorem feedOn_segments (l : LoopId) : (s.feedOn l).segments = s.segments := by rw [feedOn_frame]
@[simp] theorem feedOn_players (l : LoopId) : (s.feedOn l).players = s.players := by rw [feedOn_frame]
@[simp] theorem feedOn_serviceA (l : LoopId) : (s.feedOn l).serviceA = s.serviceA := by rw [feedOn_frame]
@[simp] theorem feedOn_serviceB (l : LoopId) : (s.feedOn l).serviceB = s.serviceB := by rw [feedOn_frame]
@[simp] theorem feedOn_home (l : LoopId) : (s.feedOn l).home = s.home := by rw [feedOn_frame]
@[simp] theorem feedOn_settings (l : LoopId) : (s.feedOn l).settings = s.settings := by rw [feedOn_frame]
@[simp] theorem feedOn_sectionFault (l : LoopId) : (s.feedOn l).sectionFault = s.sectionFault := by rw [feedOn_frame]
@[simp] theorem feedOn_trunkFaultA (l : LoopId) : (s.feedOn l).trunkFaultA = s.trunkFaultA := by rw [feedOn_frame]
@[simp] theorem feedOn_trunkFaultB (l : LoopId) : (s.feedOn l).trunkFaultB = s.trunkFaultB := by rw [feedOn_frame]
@[simp] theorem feedOn_loopFaults (l : LoopId) : (s.feedOn l).loopFaults = s.loopFaults := by rw [feedOn_frame]
@[simp] theorem feedOn_postFaults (l : LoopId) : (s.feedOn l).postFaults = s.postFaults := by rw [feedOn_frame]
@[simp] theorem feedOn_testResults (l : LoopId) : (s.feedOn l).testResults = s.testResults := by rw [feedOn_frame]
@[simp] theorem feedOn_marks (l : LoopId) : (s.feedOn l).marks = s.marks := by rw [feedOn_frame]
@[simp] theorem feedOn_abandons (l : LoopId) : (s.feedOn l).abandons = s.abandons := by rw [feedOn_frame]
@[simp] theorem feedOn_abandonPosts (l : LoopId) : (s.feedOn l).abandonPosts = s.abandonPosts := by rw [feedOn_frame]
@[simp] theorem feedOn_mask (l : LoopId) : (s.feedOn l).mask = s.mask := by rw [feedOn_frame]
@[simp] theorem feedOn_loop (l : LoopId) (j : LoopId) : (s.feedOn l).loop j = s.loop j := by simp [loop]
@[simp] theorem feedOn_ring (l : LoopId) (j : LoopId) : (s.feedOn l).ring j = s.ring j := by simp [ring]
@[simp] theorem feedOn_record (l : LoopId) (j : SlotId) : (s.feedOn l).record j = s.record j := by simp [record]
@[simp] theorem feedOn_ctx (l : LoopId) (j : CtxId) : (s.feedOn l).ctx j = s.ctx j := by simp [ctx]
@[simp] theorem feedOn_trunk (l : LoopId) (j : Trunk) : (s.feedOn l).trunk j = s.trunk j := by cases j <;> simp [trunk]
@[simp] theorem feedOn_path (l : LoopId) (j : CtxId) : (s.feedOn l).path j = s.path j := by simp [path]
@[simp] theorem feedOn_player (l : LoopId) (j : CtxId) : (s.feedOn l).player j = s.player j := by simp [player]
@[simp] theorem feedOn_segment (l : LoopId) (j : SegId) : (s.feedOn l).segment j = s.segment j := by simp [segment]
@[simp] theorem feedOn_service (l : LoopId) (j : Trunk) : (s.feedOn l).service j = s.service j := by cases j <;> simp [service]
@[simp] theorem feedOn_param (l : LoopId) (j : Fin 25) : (s.feedOn l).param j = s.param j := by simp [param]

/-! ### feedOff -/

theorem feedOff_frame (l : LoopId) : s.feedOff l = { s with
    feeds := (s.feedOff l).feeds
    handed := (s.feedOff l).handed } := by
  apply State.ext <;> first | with_reducible rfl | (unfold feedOff; dsimp only; (repeat' split) <;> simp)
@[simp] theorem feedOff_pending (l : LoopId) : (s.feedOff l).pending = s.pending := by rw [feedOff_frame]
@[simp] theorem feedOff_loops (l : LoopId) : (s.feedOff l).loops = s.loops := by rw [feedOff_frame]
@[simp] theorem feedOff_rings (l : LoopId) : (s.feedOff l).rings = s.rings := by rw [feedOff_frame]
@[simp] theorem feedOff_supply (l : LoopId) : (s.feedOff l).supply = s.supply := by rw [feedOff_frame]
@[simp] theorem feedOff_directory (l : LoopId) : (s.feedOff l).directory = s.directory := by rw [feedOff_frame]
@[simp] theorem feedOff_contexts (l : LoopId) : (s.feedOff l).contexts = s.contexts := by rw [feedOff_frame]
@[simp] theorem feedOff_waiting (l : LoopId) : (s.feedOff l).waiting = s.waiting := by rw [feedOff_frame]
@[simp] theorem feedOff_entryCount (l : LoopId) : (s.feedOff l).entryCount = s.entryCount := by rw [feedOff_frame]
@[simp] theorem feedOff_routes (l : LoopId) : (s.feedOff l).routes = s.routes := by rw [feedOff_frame]
@[simp] theorem feedOff_plan (l : LoopId) : (s.feedOff l).plan = s.plan := by rw [feedOff_frame]
@[simp] theorem feedOff_trunkA (l : LoopId) : (s.feedOff l).trunkA = s.trunkA := by rw [feedOff_frame]
@[simp] theorem feedOff_trunkB (l : LoopId) : (s.feedOff l).trunkB = s.trunkB := by rw [feedOff_frame]
@[simp] theorem feedOff_paths (l : LoopId) : (s.feedOff l).paths = s.paths := by rw [feedOff_frame]
@[simp] theorem feedOff_samples (l : LoopId) : (s.feedOff l).samples = s.samples := by rw [feedOff_frame]
@[simp] theorem feedOff_segments (l : LoopId) : (s.feedOff l).segments = s.segments := by rw [feedOff_frame]
@[simp] theorem feedOff_players (l : LoopId) : (s.feedOff l).players = s.players := by rw [feedOff_frame]
@[simp] theorem feedOff_serviceA (l : LoopId) : (s.feedOff l).serviceA = s.serviceA := by rw [feedOff_frame]
@[simp] theorem feedOff_serviceB (l : LoopId) : (s.feedOff l).serviceB = s.serviceB := by rw [feedOff_frame]
@[simp] theorem feedOff_home (l : LoopId) : (s.feedOff l).home = s.home := by rw [feedOff_frame]
@[simp] theorem feedOff_settings (l : LoopId) : (s.feedOff l).settings = s.settings := by rw [feedOff_frame]
@[simp] theorem feedOff_sectionFault (l : LoopId) : (s.feedOff l).sectionFault = s.sectionFault := by rw [feedOff_frame]
@[simp] theorem feedOff_trunkFaultA (l : LoopId) : (s.feedOff l).trunkFaultA = s.trunkFaultA := by rw [feedOff_frame]
@[simp] theorem feedOff_trunkFaultB (l : LoopId) : (s.feedOff l).trunkFaultB = s.trunkFaultB := by rw [feedOff_frame]
@[simp] theorem feedOff_loopFaults (l : LoopId) : (s.feedOff l).loopFaults = s.loopFaults := by rw [feedOff_frame]
@[simp] theorem feedOff_postFaults (l : LoopId) : (s.feedOff l).postFaults = s.postFaults := by rw [feedOff_frame]
@[simp] theorem feedOff_testResults (l : LoopId) : (s.feedOff l).testResults = s.testResults := by rw [feedOff_frame]
@[simp] theorem feedOff_marks (l : LoopId) : (s.feedOff l).marks = s.marks := by rw [feedOff_frame]
@[simp] theorem feedOff_abandons (l : LoopId) : (s.feedOff l).abandons = s.abandons := by rw [feedOff_frame]
@[simp] theorem feedOff_abandonPosts (l : LoopId) : (s.feedOff l).abandonPosts = s.abandonPosts := by rw [feedOff_frame]
@[simp] theorem feedOff_mask (l : LoopId) : (s.feedOff l).mask = s.mask := by rw [feedOff_frame]
@[simp] theorem feedOff_loop (l : LoopId) (j : LoopId) : (s.feedOff l).loop j = s.loop j := by simp [loop]
@[simp] theorem feedOff_ring (l : LoopId) (j : LoopId) : (s.feedOff l).ring j = s.ring j := by simp [ring]
@[simp] theorem feedOff_record (l : LoopId) (j : SlotId) : (s.feedOff l).record j = s.record j := by simp [record]
@[simp] theorem feedOff_ctx (l : LoopId) (j : CtxId) : (s.feedOff l).ctx j = s.ctx j := by simp [ctx]
@[simp] theorem feedOff_trunk (l : LoopId) (j : Trunk) : (s.feedOff l).trunk j = s.trunk j := by cases j <;> simp [trunk]
@[simp] theorem feedOff_path (l : LoopId) (j : CtxId) : (s.feedOff l).path j = s.path j := by simp [path]
@[simp] theorem feedOff_player (l : LoopId) (j : CtxId) : (s.feedOff l).player j = s.player j := by simp [player]
@[simp] theorem feedOff_segment (l : LoopId) (j : SegId) : (s.feedOff l).segment j = s.segment j := by simp [segment]
@[simp] theorem feedOff_service (l : LoopId) (j : Trunk) : (s.feedOff l).service j = s.service j := by cases j <;> simp [service]
@[simp] theorem feedOff_param (l : LoopId) (j : Fin 25) : (s.feedOff l).param j = s.param j := by simp [param]

/-! ### clearTripped -/

theorem clearTripped_frame (l : LoopId) : s.clearTripped l = { s with
    feeds := (s.clearTripped l).feeds
    handed := (s.clearTripped l).handed } := by
  apply State.ext <;> first | with_reducible rfl | (unfold clearTripped; dsimp only; (repeat' split) <;> simp)
@[simp] theorem clearTripped_pending (l : LoopId) : (s.clearTripped l).pending = s.pending := by rw [clearTripped_frame]
@[simp] theorem clearTripped_loops (l : LoopId) : (s.clearTripped l).loops = s.loops := by rw [clearTripped_frame]
@[simp] theorem clearTripped_rings (l : LoopId) : (s.clearTripped l).rings = s.rings := by rw [clearTripped_frame]
@[simp] theorem clearTripped_supply (l : LoopId) : (s.clearTripped l).supply = s.supply := by rw [clearTripped_frame]
@[simp] theorem clearTripped_directory (l : LoopId) : (s.clearTripped l).directory = s.directory := by rw [clearTripped_frame]
@[simp] theorem clearTripped_contexts (l : LoopId) : (s.clearTripped l).contexts = s.contexts := by rw [clearTripped_frame]
@[simp] theorem clearTripped_waiting (l : LoopId) : (s.clearTripped l).waiting = s.waiting := by rw [clearTripped_frame]
@[simp] theorem clearTripped_entryCount (l : LoopId) : (s.clearTripped l).entryCount = s.entryCount := by rw [clearTripped_frame]
@[simp] theorem clearTripped_routes (l : LoopId) : (s.clearTripped l).routes = s.routes := by rw [clearTripped_frame]
@[simp] theorem clearTripped_plan (l : LoopId) : (s.clearTripped l).plan = s.plan := by rw [clearTripped_frame]
@[simp] theorem clearTripped_trunkA (l : LoopId) : (s.clearTripped l).trunkA = s.trunkA := by rw [clearTripped_frame]
@[simp] theorem clearTripped_trunkB (l : LoopId) : (s.clearTripped l).trunkB = s.trunkB := by rw [clearTripped_frame]
@[simp] theorem clearTripped_paths (l : LoopId) : (s.clearTripped l).paths = s.paths := by rw [clearTripped_frame]
@[simp] theorem clearTripped_samples (l : LoopId) : (s.clearTripped l).samples = s.samples := by rw [clearTripped_frame]
@[simp] theorem clearTripped_segments (l : LoopId) : (s.clearTripped l).segments = s.segments := by rw [clearTripped_frame]
@[simp] theorem clearTripped_players (l : LoopId) : (s.clearTripped l).players = s.players := by rw [clearTripped_frame]
@[simp] theorem clearTripped_serviceA (l : LoopId) : (s.clearTripped l).serviceA = s.serviceA := by rw [clearTripped_frame]
@[simp] theorem clearTripped_serviceB (l : LoopId) : (s.clearTripped l).serviceB = s.serviceB := by rw [clearTripped_frame]
@[simp] theorem clearTripped_home (l : LoopId) : (s.clearTripped l).home = s.home := by rw [clearTripped_frame]
@[simp] theorem clearTripped_settings (l : LoopId) : (s.clearTripped l).settings = s.settings := by rw [clearTripped_frame]
@[simp] theorem clearTripped_sectionFault (l : LoopId) : (s.clearTripped l).sectionFault = s.sectionFault := by rw [clearTripped_frame]
@[simp] theorem clearTripped_trunkFaultA (l : LoopId) : (s.clearTripped l).trunkFaultA = s.trunkFaultA := by rw [clearTripped_frame]
@[simp] theorem clearTripped_trunkFaultB (l : LoopId) : (s.clearTripped l).trunkFaultB = s.trunkFaultB := by rw [clearTripped_frame]
@[simp] theorem clearTripped_loopFaults (l : LoopId) : (s.clearTripped l).loopFaults = s.loopFaults := by rw [clearTripped_frame]
@[simp] theorem clearTripped_postFaults (l : LoopId) : (s.clearTripped l).postFaults = s.postFaults := by rw [clearTripped_frame]
@[simp] theorem clearTripped_testResults (l : LoopId) : (s.clearTripped l).testResults = s.testResults := by rw [clearTripped_frame]
@[simp] theorem clearTripped_marks (l : LoopId) : (s.clearTripped l).marks = s.marks := by rw [clearTripped_frame]
@[simp] theorem clearTripped_abandons (l : LoopId) : (s.clearTripped l).abandons = s.abandons := by rw [clearTripped_frame]
@[simp] theorem clearTripped_abandonPosts (l : LoopId) : (s.clearTripped l).abandonPosts = s.abandonPosts := by rw [clearTripped_frame]
@[simp] theorem clearTripped_mask (l : LoopId) : (s.clearTripped l).mask = s.mask := by rw [clearTripped_frame]
@[simp] theorem clearTripped_loop (l : LoopId) (j : LoopId) : (s.clearTripped l).loop j = s.loop j := by simp [loop]
@[simp] theorem clearTripped_ring (l : LoopId) (j : LoopId) : (s.clearTripped l).ring j = s.ring j := by simp [ring]
@[simp] theorem clearTripped_record (l : LoopId) (j : SlotId) : (s.clearTripped l).record j = s.record j := by simp [record]
@[simp] theorem clearTripped_ctx (l : LoopId) (j : CtxId) : (s.clearTripped l).ctx j = s.ctx j := by simp [ctx]
@[simp] theorem clearTripped_trunk (l : LoopId) (j : Trunk) : (s.clearTripped l).trunk j = s.trunk j := by cases j <;> simp [trunk]
@[simp] theorem clearTripped_path (l : LoopId) (j : CtxId) : (s.clearTripped l).path j = s.path j := by simp [path]
@[simp] theorem clearTripped_player (l : LoopId) (j : CtxId) : (s.clearTripped l).player j = s.player j := by simp [player]
@[simp] theorem clearTripped_segment (l : LoopId) (j : SegId) : (s.clearTripped l).segment j = s.segment j := by simp [segment]
@[simp] theorem clearTripped_service (l : LoopId) (j : Trunk) : (s.clearTripped l).service j = s.service j := by cases j <;> simp [service]
@[simp] theorem clearTripped_param (l : LoopId) (j : Fin 25) : (s.clearTripped l).param j = s.param j := by simp [param]

/-! ### allSupplyOff -/

theorem allSupplyOff_frame : s.allSupplyOff = { s with
    feeds := (s.allSupplyOff).feeds
    handed := (s.allSupplyOff).handed } := by
  apply State.ext <;> first | with_reducible rfl | (exact foldl_keeps _ _ (fun _ _ => by simp) _ _)
@[simp] theorem allSupplyOff_pending : (s.allSupplyOff).pending = s.pending := by rw [allSupplyOff_frame]
@[simp] theorem allSupplyOff_loops : (s.allSupplyOff).loops = s.loops := by rw [allSupplyOff_frame]
@[simp] theorem allSupplyOff_rings : (s.allSupplyOff).rings = s.rings := by rw [allSupplyOff_frame]
@[simp] theorem allSupplyOff_supply : (s.allSupplyOff).supply = s.supply := by rw [allSupplyOff_frame]
@[simp] theorem allSupplyOff_directory : (s.allSupplyOff).directory = s.directory := by rw [allSupplyOff_frame]
@[simp] theorem allSupplyOff_contexts : (s.allSupplyOff).contexts = s.contexts := by rw [allSupplyOff_frame]
@[simp] theorem allSupplyOff_waiting : (s.allSupplyOff).waiting = s.waiting := by rw [allSupplyOff_frame]
@[simp] theorem allSupplyOff_entryCount : (s.allSupplyOff).entryCount = s.entryCount := by rw [allSupplyOff_frame]
@[simp] theorem allSupplyOff_routes : (s.allSupplyOff).routes = s.routes := by rw [allSupplyOff_frame]
@[simp] theorem allSupplyOff_plan : (s.allSupplyOff).plan = s.plan := by rw [allSupplyOff_frame]
@[simp] theorem allSupplyOff_trunkA : (s.allSupplyOff).trunkA = s.trunkA := by rw [allSupplyOff_frame]
@[simp] theorem allSupplyOff_trunkB : (s.allSupplyOff).trunkB = s.trunkB := by rw [allSupplyOff_frame]
@[simp] theorem allSupplyOff_paths : (s.allSupplyOff).paths = s.paths := by rw [allSupplyOff_frame]
@[simp] theorem allSupplyOff_samples : (s.allSupplyOff).samples = s.samples := by rw [allSupplyOff_frame]
@[simp] theorem allSupplyOff_segments : (s.allSupplyOff).segments = s.segments := by rw [allSupplyOff_frame]
@[simp] theorem allSupplyOff_players : (s.allSupplyOff).players = s.players := by rw [allSupplyOff_frame]
@[simp] theorem allSupplyOff_serviceA : (s.allSupplyOff).serviceA = s.serviceA := by rw [allSupplyOff_frame]
@[simp] theorem allSupplyOff_serviceB : (s.allSupplyOff).serviceB = s.serviceB := by rw [allSupplyOff_frame]
@[simp] theorem allSupplyOff_home : (s.allSupplyOff).home = s.home := by rw [allSupplyOff_frame]
@[simp] theorem allSupplyOff_settings : (s.allSupplyOff).settings = s.settings := by rw [allSupplyOff_frame]
@[simp] theorem allSupplyOff_sectionFault : (s.allSupplyOff).sectionFault = s.sectionFault := by rw [allSupplyOff_frame]
@[simp] theorem allSupplyOff_trunkFaultA : (s.allSupplyOff).trunkFaultA = s.trunkFaultA := by rw [allSupplyOff_frame]
@[simp] theorem allSupplyOff_trunkFaultB : (s.allSupplyOff).trunkFaultB = s.trunkFaultB := by rw [allSupplyOff_frame]
@[simp] theorem allSupplyOff_loopFaults : (s.allSupplyOff).loopFaults = s.loopFaults := by rw [allSupplyOff_frame]
@[simp] theorem allSupplyOff_postFaults : (s.allSupplyOff).postFaults = s.postFaults := by rw [allSupplyOff_frame]
@[simp] theorem allSupplyOff_testResults : (s.allSupplyOff).testResults = s.testResults := by rw [allSupplyOff_frame]
@[simp] theorem allSupplyOff_marks : (s.allSupplyOff).marks = s.marks := by rw [allSupplyOff_frame]
@[simp] theorem allSupplyOff_abandons : (s.allSupplyOff).abandons = s.abandons := by rw [allSupplyOff_frame]
@[simp] theorem allSupplyOff_abandonPosts : (s.allSupplyOff).abandonPosts = s.abandonPosts := by rw [allSupplyOff_frame]
@[simp] theorem allSupplyOff_mask : (s.allSupplyOff).mask = s.mask := by rw [allSupplyOff_frame]
@[simp] theorem allSupplyOff_loop (j : LoopId) : (s.allSupplyOff).loop j = s.loop j := by simp [loop]
@[simp] theorem allSupplyOff_ring (j : LoopId) : (s.allSupplyOff).ring j = s.ring j := by simp [ring]
@[simp] theorem allSupplyOff_record (j : SlotId) : (s.allSupplyOff).record j = s.record j := by simp [record]
@[simp] theorem allSupplyOff_ctx (j : CtxId) : (s.allSupplyOff).ctx j = s.ctx j := by simp [ctx]
@[simp] theorem allSupplyOff_trunk (j : Trunk) : (s.allSupplyOff).trunk j = s.trunk j := by cases j <;> simp [trunk]
@[simp] theorem allSupplyOff_path (j : CtxId) : (s.allSupplyOff).path j = s.path j := by simp [path]
@[simp] theorem allSupplyOff_player (j : CtxId) : (s.allSupplyOff).player j = s.player j := by simp [player]
@[simp] theorem allSupplyOff_segment (j : SegId) : (s.allSupplyOff).segment j = s.segment j := by simp [segment]
@[simp] theorem allSupplyOff_service (j : Trunk) : (s.allSupplyOff).service j = s.service j := by cases j <;> simp [service]
@[simp] theorem allSupplyOff_param (j : Fin 25) : (s.allSupplyOff).param j = s.param j := by simp [param]

/-! ### supplyLow -/

theorem supplyLow_frame : s.supplyLow = { s with
    supply := (s.supplyLow).supply
    feeds := (s.supplyLow).feeds
    handed := (s.supplyLow).handed } := by
  apply State.ext <;> first | with_reducible rfl | (simp [supplyLow])
@[simp] theorem supplyLow_pending : (s.supplyLow).pending = s.pending := by rw [supplyLow_frame]
@[simp] theorem supplyLow_loops : (s.supplyLow).loops = s.loops := by rw [supplyLow_frame]
@[simp] theorem supplyLow_rings : (s.supplyLow).rings = s.rings := by rw [supplyLow_frame]
@[simp] theorem supplyLow_directory : (s.supplyLow).directory = s.directory := by rw [supplyLow_frame]
@[simp] theorem supplyLow_contexts : (s.supplyLow).contexts = s.contexts := by rw [supplyLow_frame]
@[simp] theorem supplyLow_waiting : (s.supplyLow).waiting = s.waiting := by rw [supplyLow_frame]
@[simp] theorem supplyLow_entryCount : (s.supplyLow).entryCount = s.entryCount := by rw [supplyLow_frame]
@[simp] theorem supplyLow_routes : (s.supplyLow).routes = s.routes := by rw [supplyLow_frame]
@[simp] theorem supplyLow_plan : (s.supplyLow).plan = s.plan := by rw [supplyLow_frame]
@[simp] theorem supplyLow_trunkA : (s.supplyLow).trunkA = s.trunkA := by rw [supplyLow_frame]
@[simp] theorem supplyLow_trunkB : (s.supplyLow).trunkB = s.trunkB := by rw [supplyLow_frame]
@[simp] theorem supplyLow_paths : (s.supplyLow).paths = s.paths := by rw [supplyLow_frame]
@[simp] theorem supplyLow_samples : (s.supplyLow).samples = s.samples := by rw [supplyLow_frame]
@[simp] theorem supplyLow_segments : (s.supplyLow).segments = s.segments := by rw [supplyLow_frame]
@[simp] theorem supplyLow_players : (s.supplyLow).players = s.players := by rw [supplyLow_frame]
@[simp] theorem supplyLow_serviceA : (s.supplyLow).serviceA = s.serviceA := by rw [supplyLow_frame]
@[simp] theorem supplyLow_serviceB : (s.supplyLow).serviceB = s.serviceB := by rw [supplyLow_frame]
@[simp] theorem supplyLow_home : (s.supplyLow).home = s.home := by rw [supplyLow_frame]
@[simp] theorem supplyLow_settings : (s.supplyLow).settings = s.settings := by rw [supplyLow_frame]
@[simp] theorem supplyLow_sectionFault : (s.supplyLow).sectionFault = s.sectionFault := by rw [supplyLow_frame]
@[simp] theorem supplyLow_trunkFaultA : (s.supplyLow).trunkFaultA = s.trunkFaultA := by rw [supplyLow_frame]
@[simp] theorem supplyLow_trunkFaultB : (s.supplyLow).trunkFaultB = s.trunkFaultB := by rw [supplyLow_frame]
@[simp] theorem supplyLow_loopFaults : (s.supplyLow).loopFaults = s.loopFaults := by rw [supplyLow_frame]
@[simp] theorem supplyLow_postFaults : (s.supplyLow).postFaults = s.postFaults := by rw [supplyLow_frame]
@[simp] theorem supplyLow_testResults : (s.supplyLow).testResults = s.testResults := by rw [supplyLow_frame]
@[simp] theorem supplyLow_marks : (s.supplyLow).marks = s.marks := by rw [supplyLow_frame]
@[simp] theorem supplyLow_abandons : (s.supplyLow).abandons = s.abandons := by rw [supplyLow_frame]
@[simp] theorem supplyLow_abandonPosts : (s.supplyLow).abandonPosts = s.abandonPosts := by rw [supplyLow_frame]
@[simp] theorem supplyLow_mask : (s.supplyLow).mask = s.mask := by rw [supplyLow_frame]
@[simp] theorem supplyLow_loop (j : LoopId) : (s.supplyLow).loop j = s.loop j := by simp [loop]
@[simp] theorem supplyLow_ring (j : LoopId) : (s.supplyLow).ring j = s.ring j := by simp [ring]
@[simp] theorem supplyLow_record (j : SlotId) : (s.supplyLow).record j = s.record j := by simp [record]
@[simp] theorem supplyLow_ctx (j : CtxId) : (s.supplyLow).ctx j = s.ctx j := by simp [ctx]
@[simp] theorem supplyLow_trunk (j : Trunk) : (s.supplyLow).trunk j = s.trunk j := by cases j <;> simp [trunk]
@[simp] theorem supplyLow_path (j : CtxId) : (s.supplyLow).path j = s.path j := by simp [path]
@[simp] theorem supplyLow_player (j : CtxId) : (s.supplyLow).player j = s.player j := by simp [player]
@[simp] theorem supplyLow_segment (j : SegId) : (s.supplyLow).segment j = s.segment j := by simp [segment]
@[simp] theorem supplyLow_service (j : Trunk) : (s.supplyLow).service j = s.service j := by cases j <;> simp [service]
@[simp] theorem supplyLow_param (j : Fin 25) : (s.supplyLow).param j = s.param j := by simp [param]

/-! ### supplyLevel -/

theorem supplyLevel_frame (level : Nat) : s.supplyLevel level = { s with
    supply := (s.supplyLevel level).supply
    feeds := (s.supplyLevel level).feeds
    handed := (s.supplyLevel level).handed } := by
  apply State.ext <;> first | with_reducible rfl | (unfold supplyLevel; dsimp only; (repeat' split) <;> simp)
@[simp] theorem supplyLevel_pending (level : Nat) : (s.supplyLevel level).pending = s.pending := by rw [supplyLevel_frame]
@[simp] theorem supplyLevel_loops (level : Nat) : (s.supplyLevel level).loops = s.loops := by rw [supplyLevel_frame]
@[simp] theorem supplyLevel_rings (level : Nat) : (s.supplyLevel level).rings = s.rings := by rw [supplyLevel_frame]
@[simp] theorem supplyLevel_directory (level : Nat) : (s.supplyLevel level).directory = s.directory := by rw [supplyLevel_frame]
@[simp] theorem supplyLevel_contexts (level : Nat) : (s.supplyLevel level).contexts = s.contexts := by rw [supplyLevel_frame]
@[simp] theorem supplyLevel_waiting (level : Nat) : (s.supplyLevel level).waiting = s.waiting := by rw [supplyLevel_frame]
@[simp] theorem supplyLevel_entryCount (level : Nat) : (s.supplyLevel level).entryCount = s.entryCount := by rw [supplyLevel_frame]
@[simp] theorem supplyLevel_routes (level : Nat) : (s.supplyLevel level).routes = s.routes := by rw [supplyLevel_frame]
@[simp] theorem supplyLevel_plan (level : Nat) : (s.supplyLevel level).plan = s.plan := by rw [supplyLevel_frame]
@[simp] theorem supplyLevel_trunkA (level : Nat) : (s.supplyLevel level).trunkA = s.trunkA := by rw [supplyLevel_frame]
@[simp] theorem supplyLevel_trunkB (level : Nat) : (s.supplyLevel level).trunkB = s.trunkB := by rw [supplyLevel_frame]
@[simp] theorem supplyLevel_paths (level : Nat) : (s.supplyLevel level).paths = s.paths := by rw [supplyLevel_frame]
@[simp] theorem supplyLevel_samples (level : Nat) : (s.supplyLevel level).samples = s.samples := by rw [supplyLevel_frame]
@[simp] theorem supplyLevel_segments (level : Nat) : (s.supplyLevel level).segments = s.segments := by rw [supplyLevel_frame]
@[simp] theorem supplyLevel_players (level : Nat) : (s.supplyLevel level).players = s.players := by rw [supplyLevel_frame]
@[simp] theorem supplyLevel_serviceA (level : Nat) : (s.supplyLevel level).serviceA = s.serviceA := by rw [supplyLevel_frame]
@[simp] theorem supplyLevel_serviceB (level : Nat) : (s.supplyLevel level).serviceB = s.serviceB := by rw [supplyLevel_frame]
@[simp] theorem supplyLevel_home (level : Nat) : (s.supplyLevel level).home = s.home := by rw [supplyLevel_frame]
@[simp] theorem supplyLevel_settings (level : Nat) : (s.supplyLevel level).settings = s.settings := by rw [supplyLevel_frame]
@[simp] theorem supplyLevel_sectionFault (level : Nat) : (s.supplyLevel level).sectionFault = s.sectionFault := by rw [supplyLevel_frame]
@[simp] theorem supplyLevel_trunkFaultA (level : Nat) : (s.supplyLevel level).trunkFaultA = s.trunkFaultA := by rw [supplyLevel_frame]
@[simp] theorem supplyLevel_trunkFaultB (level : Nat) : (s.supplyLevel level).trunkFaultB = s.trunkFaultB := by rw [supplyLevel_frame]
@[simp] theorem supplyLevel_loopFaults (level : Nat) : (s.supplyLevel level).loopFaults = s.loopFaults := by rw [supplyLevel_frame]
@[simp] theorem supplyLevel_postFaults (level : Nat) : (s.supplyLevel level).postFaults = s.postFaults := by rw [supplyLevel_frame]
@[simp] theorem supplyLevel_testResults (level : Nat) : (s.supplyLevel level).testResults = s.testResults := by rw [supplyLevel_frame]
@[simp] theorem supplyLevel_marks (level : Nat) : (s.supplyLevel level).marks = s.marks := by rw [supplyLevel_frame]
@[simp] theorem supplyLevel_abandons (level : Nat) : (s.supplyLevel level).abandons = s.abandons := by rw [supplyLevel_frame]
@[simp] theorem supplyLevel_abandonPosts (level : Nat) : (s.supplyLevel level).abandonPosts = s.abandonPosts := by rw [supplyLevel_frame]
@[simp] theorem supplyLevel_mask (level : Nat) : (s.supplyLevel level).mask = s.mask := by rw [supplyLevel_frame]
@[simp] theorem supplyLevel_loop (level : Nat) (j : LoopId) : (s.supplyLevel level).loop j = s.loop j := by simp [loop]
@[simp] theorem supplyLevel_ring (level : Nat) (j : LoopId) : (s.supplyLevel level).ring j = s.ring j := by simp [ring]
@[simp] theorem supplyLevel_record (level : Nat) (j : SlotId) : (s.supplyLevel level).record j = s.record j := by simp [record]
@[simp] theorem supplyLevel_ctx (level : Nat) (j : CtxId) : (s.supplyLevel level).ctx j = s.ctx j := by simp [ctx]
@[simp] theorem supplyLevel_trunk (level : Nat) (j : Trunk) : (s.supplyLevel level).trunk j = s.trunk j := by cases j <;> simp [trunk]
@[simp] theorem supplyLevel_path (level : Nat) (j : CtxId) : (s.supplyLevel level).path j = s.path j := by simp [path]
@[simp] theorem supplyLevel_player (level : Nat) (j : CtxId) : (s.supplyLevel level).player j = s.player j := by simp [player]
@[simp] theorem supplyLevel_segment (level : Nat) (j : SegId) : (s.supplyLevel level).segment j = s.segment j := by simp [segment]
@[simp] theorem supplyLevel_service (level : Nat) (j : Trunk) : (s.supplyLevel level).service j = s.service j := by cases j <;> simp [service]
@[simp] theorem supplyLevel_param (level : Nat) (j : Fin 25) : (s.supplyLevel level).param j = s.param j := by simp [param]

/-! ### supplyGood -/

theorem supplyGood_frame : s.supplyGood = { s with
    supply := (s.supplyGood).supply
    feeds := (s.supplyGood).feeds
    handed := (s.supplyGood).handed } := by
  apply State.ext <;> first | with_reducible rfl | (unfold supplyGood; refine (foldl_keeps _ _ (fun _ _ => by simp) _ _).trans ?_; simp)
@[simp] theorem supplyGood_pending : (s.supplyGood).pending = s.pending := by rw [supplyGood_frame]
@[simp] theorem supplyGood_loops : (s.supplyGood).loops = s.loops := by rw [supplyGood_frame]
@[simp] theorem supplyGood_rings : (s.supplyGood).rings = s.rings := by rw [supplyGood_frame]
@[simp] theorem supplyGood_directory : (s.supplyGood).directory = s.directory := by rw [supplyGood_frame]
@[simp] theorem supplyGood_contexts : (s.supplyGood).contexts = s.contexts := by rw [supplyGood_frame]
@[simp] theorem supplyGood_waiting : (s.supplyGood).waiting = s.waiting := by rw [supplyGood_frame]
@[simp] theorem supplyGood_entryCount : (s.supplyGood).entryCount = s.entryCount := by rw [supplyGood_frame]
@[simp] theorem supplyGood_routes : (s.supplyGood).routes = s.routes := by rw [supplyGood_frame]
@[simp] theorem supplyGood_plan : (s.supplyGood).plan = s.plan := by rw [supplyGood_frame]
@[simp] theorem supplyGood_trunkA : (s.supplyGood).trunkA = s.trunkA := by rw [supplyGood_frame]
@[simp] theorem supplyGood_trunkB : (s.supplyGood).trunkB = s.trunkB := by rw [supplyGood_frame]
@[simp] theorem supplyGood_paths : (s.supplyGood).paths = s.paths := by rw [supplyGood_frame]
@[simp] theorem supplyGood_samples : (s.supplyGood).samples = s.samples := by rw [supplyGood_frame]
@[simp] theorem supplyGood_segments : (s.supplyGood).segments = s.segments := by rw [supplyGood_frame]
@[simp] theorem supplyGood_players : (s.supplyGood).players = s.players := by rw [supplyGood_frame]
@[simp] theorem supplyGood_serviceA : (s.supplyGood).serviceA = s.serviceA := by rw [supplyGood_frame]
@[simp] theorem supplyGood_serviceB : (s.supplyGood).serviceB = s.serviceB := by rw [supplyGood_frame]
@[simp] theorem supplyGood_home : (s.supplyGood).home = s.home := by rw [supplyGood_frame]
@[simp] theorem supplyGood_settings : (s.supplyGood).settings = s.settings := by rw [supplyGood_frame]
@[simp] theorem supplyGood_sectionFault : (s.supplyGood).sectionFault = s.sectionFault := by rw [supplyGood_frame]
@[simp] theorem supplyGood_trunkFaultA : (s.supplyGood).trunkFaultA = s.trunkFaultA := by rw [supplyGood_frame]
@[simp] theorem supplyGood_trunkFaultB : (s.supplyGood).trunkFaultB = s.trunkFaultB := by rw [supplyGood_frame]
@[simp] theorem supplyGood_loopFaults : (s.supplyGood).loopFaults = s.loopFaults := by rw [supplyGood_frame]
@[simp] theorem supplyGood_postFaults : (s.supplyGood).postFaults = s.postFaults := by rw [supplyGood_frame]
@[simp] theorem supplyGood_testResults : (s.supplyGood).testResults = s.testResults := by rw [supplyGood_frame]
@[simp] theorem supplyGood_marks : (s.supplyGood).marks = s.marks := by rw [supplyGood_frame]
@[simp] theorem supplyGood_abandons : (s.supplyGood).abandons = s.abandons := by rw [supplyGood_frame]
@[simp] theorem supplyGood_abandonPosts : (s.supplyGood).abandonPosts = s.abandonPosts := by rw [supplyGood_frame]
@[simp] theorem supplyGood_mask : (s.supplyGood).mask = s.mask := by rw [supplyGood_frame]
@[simp] theorem supplyGood_loop (j : LoopId) : (s.supplyGood).loop j = s.loop j := by simp [loop]
@[simp] theorem supplyGood_ring (j : LoopId) : (s.supplyGood).ring j = s.ring j := by simp [ring]
@[simp] theorem supplyGood_record (j : SlotId) : (s.supplyGood).record j = s.record j := by simp [record]
@[simp] theorem supplyGood_ctx (j : CtxId) : (s.supplyGood).ctx j = s.ctx j := by simp [ctx]
@[simp] theorem supplyGood_trunk (j : Trunk) : (s.supplyGood).trunk j = s.trunk j := by cases j <;> simp [trunk]
@[simp] theorem supplyGood_path (j : CtxId) : (s.supplyGood).path j = s.path j := by simp [path]
@[simp] theorem supplyGood_player (j : CtxId) : (s.supplyGood).player j = s.player j := by simp [player]
@[simp] theorem supplyGood_segment (j : SegId) : (s.supplyGood).segment j = s.segment j := by simp [segment]
@[simp] theorem supplyGood_service (j : Trunk) : (s.supplyGood).service j = s.service j := by cases j <;> simp [service]
@[simp] theorem supplyGood_param (j : Fin 25) : (s.supplyGood).param j = s.param j := by simp [param]

end Sys2Proof.Machine.State
end

