-- ==== Sys2Proof/Laws/Loops.lean ====
section
/-! SUPPORT. What each operation of the loop controllers may change, one equation each, and what it leaves in every other field. -/

namespace Sys2Proof.Machine.State

open Sys2Proof

variable (s : State)

/-! ### changeLoopState -/

theorem changeLoopState_frame (l : LoopId) (st : LoopState) : s.changeLoopState l st = { s with
    loops := (s.changeLoopState l st).loops
    handed := (s.changeLoopState l st).handed } := by
  apply State.ext <;> first | with_reducible rfl | (simp [changeLoopState])
@[simp] theorem changeLoopState_pending (l : LoopId) (st : LoopState) : (s.changeLoopState l st).pending = s.pending := by rw [changeLoopState_frame]
@[simp] theorem changeLoopState_rings (l : LoopId) (st : LoopState) : (s.changeLoopState l st).rings = s.rings := by rw [changeLoopState_frame]
@[simp] theorem changeLoopState_feeds (l : LoopId) (st : LoopState) : (s.changeLoopState l st).feeds = s.feeds := by rw [changeLoopState_frame]
@[simp] theorem changeLoopState_supply (l : LoopId) (st : LoopState) : (s.changeLoopState l st).supply = s.supply := by rw [changeLoopState_frame]
@[simp] theorem changeLoopState_directory (l : LoopId) (st : LoopState) : (s.changeLoopState l st).directory = s.directory := by rw [changeLoopState_frame]
@[simp] theorem changeLoopState_contexts (l : LoopId) (st : LoopState) : (s.changeLoopState l st).contexts = s.contexts := by rw [changeLoopState_frame]
@[simp] theorem changeLoopState_waiting (l : LoopId) (st : LoopState) : (s.changeLoopState l st).waiting = s.waiting := by rw [changeLoopState_frame]
@[simp] theorem changeLoopState_entryCount (l : LoopId) (st : LoopState) : (s.changeLoopState l st).entryCount = s.entryCount := by rw [changeLoopState_frame]
@[simp] theorem changeLoopState_routes (l : LoopId) (st : LoopState) : (s.changeLoopState l st).routes = s.routes := by rw [changeLoopState_frame]
@[simp] theorem changeLoopState_plan (l : LoopId) (st : LoopState) : (s.changeLoopState l st).plan = s.plan := by rw [changeLoopState_frame]
@[simp] theorem changeLoopState_trunkA (l : LoopId) (st : LoopState) : (s.changeLoopState l st).trunkA = s.trunkA := by rw [changeLoopState_frame]
@[simp] theorem changeLoopState_trunkB (l : LoopId) (st : LoopState) : (s.changeLoopState l st).trunkB = s.trunkB := by rw [changeLoopState_frame]
@[simp] theorem changeLoopState_paths (l : LoopId) (st : LoopState) : (s.changeLoopState l st).paths = s.paths := by rw [changeLoopState_frame]
@[simp] theorem changeLoopState_samples (l : LoopId) (st : LoopState) : (s.changeLoopState l st).samples = s.samples := by rw [changeLoopState_frame]
@[simp] theorem changeLoopState_segments (l : LoopId) (st : LoopState) : (s.changeLoopState l st).segments = s.segments := by rw [changeLoopState_frame]
@[simp] theorem changeLoopState_players (l : LoopId) (st : LoopState) : (s.changeLoopState l st).players = s.players := by rw [changeLoopState_frame]
@[simp] theorem changeLoopState_serviceA (l : LoopId) (st : LoopState) : (s.changeLoopState l st).serviceA = s.serviceA := by rw [changeLoopState_frame]
@[simp] theorem changeLoopState_serviceB (l : LoopId) (st : LoopState) : (s.changeLoopState l st).serviceB = s.serviceB := by rw [changeLoopState_frame]
@[simp] theorem changeLoopState_home (l : LoopId) (st : LoopState) : (s.changeLoopState l st).home = s.home := by rw [changeLoopState_frame]
@[simp] theorem changeLoopState_settings (l : LoopId) (st : LoopState) : (s.changeLoopState l st).settings = s.settings := by rw [changeLoopState_frame]
@[simp] theorem changeLoopState_sectionFault (l : LoopId) (st : LoopState) : (s.changeLoopState l st).sectionFault = s.sectionFault := by rw [changeLoopState_frame]
@[simp] theorem changeLoopState_trunkFaultA (l : LoopId) (st : LoopState) : (s.changeLoopState l st).trunkFaultA = s.trunkFaultA := by rw [changeLoopState_frame]
@[simp] theorem changeLoopState_trunkFaultB (l : LoopId) (st : LoopState) : (s.changeLoopState l st).trunkFaultB = s.trunkFaultB := by rw [changeLoopState_frame]
@[simp] theorem changeLoopState_loopFaults (l : LoopId) (st : LoopState) : (s.changeLoopState l st).loopFaults = s.loopFaults := by rw [changeLoopState_frame]
@[simp] theorem changeLoopState_postFaults (l : LoopId) (st : LoopState) : (s.changeLoopState l st).postFaults = s.postFaults := by rw [changeLoopState_frame]
@[simp] theorem changeLoopState_testResults (l : LoopId) (st : LoopState) : (s.changeLoopState l st).testResults = s.testResults := by rw [changeLoopState_frame]
@[simp] theorem changeLoopState_marks (l : LoopId) (st : LoopState) : (s.changeLoopState l st).marks = s.marks := by rw [changeLoopState_frame]
@[simp] theorem changeLoopState_abandons (l : LoopId) (st : LoopState) : (s.changeLoopState l st).abandons = s.abandons := by rw [changeLoopState_frame]
@[simp] theorem changeLoopState_abandonPosts (l : LoopId) (st : LoopState) : (s.changeLoopState l st).abandonPosts = s.abandonPosts := by rw [changeLoopState_frame]
@[simp] theorem changeLoopState_mask (l : LoopId) (st : LoopState) : (s.changeLoopState l st).mask = s.mask := by rw [changeLoopState_frame]
@[simp] theorem changeLoopState_ring (l : LoopId) (st : LoopState) (j : LoopId) : (s.changeLoopState l st).ring j = s.ring j := by simp [ring]
@[simp] theorem changeLoopState_feed (l : LoopId) (st : LoopState) (j : LoopId) : (s.changeLoopState l st).feed j = s.feed j := by simp [feed]
@[simp] theorem changeLoopState_record (l : LoopId) (st : LoopState) (j : SlotId) : (s.changeLoopState l st).record j = s.record j := by simp [record]
@[simp] theorem changeLoopState_ctx (l : LoopId) (st : LoopState) (j : CtxId) : (s.changeLoopState l st).ctx j = s.ctx j := by simp [ctx]
@[simp] theorem changeLoopState_trunk (l : LoopId) (st : LoopState) (j : Trunk) : (s.changeLoopState l st).trunk j = s.trunk j := by cases j <;> simp [trunk]
@[simp] theorem changeLoopState_path (l : LoopId) (st : LoopState) (j : CtxId) : (s.changeLoopState l st).path j = s.path j := by simp [path]
@[simp] theorem changeLoopState_player (l : LoopId) (st : LoopState) (j : CtxId) : (s.changeLoopState l st).player j = s.player j := by simp [player]
@[simp] theorem changeLoopState_segment (l : LoopId) (st : LoopState) (j : SegId) : (s.changeLoopState l st).segment j = s.segment j := by simp [segment]
@[simp] theorem changeLoopState_service (l : LoopId) (st : LoopState) (j : Trunk) : (s.changeLoopState l st).service j = s.service j := by cases j <;> simp [service]
@[simp] theorem changeLoopState_param (l : LoopId) (st : LoopState) (j : Fin 25) : (s.changeLoopState l st).param j = s.param j := by simp [param]

/-! ### dropBearer -/

theorem dropBearer_frame (l : LoopId) (b : BearerId) : s.dropBearer l b = { s with
    loops := (s.dropBearer l b).loops
    handed := (s.dropBearer l b).handed } := by
  apply State.ext <;> first | with_reducible rfl | (unfold dropBearer; dsimp only; (repeat' split) <;> simp)
@[simp] theorem dropBearer_pending (l : LoopId) (b : BearerId) : (s.dropBearer l b).pending = s.pending := by rw [dropBearer_frame]
@[simp] theorem dropBearer_rings (l : LoopId) (b : BearerId) : (s.dropBearer l b).rings = s.rings := by rw [dropBearer_frame]
@[simp] theorem dropBearer_feeds (l : LoopId) (b : BearerId) : (s.dropBearer l b).feeds = s.feeds := by rw [dropBearer_frame]
@[simp] theorem dropBearer_supply (l : LoopId) (b : BearerId) : (s.dropBearer l b).supply = s.supply := by rw [dropBearer_frame]
@[simp] theorem dropBearer_directory (l : LoopId) (b : BearerId) : (s.dropBearer l b).directory = s.directory := by rw [dropBearer_frame]
@[simp] theorem dropBearer_contexts (l : LoopId) (b : BearerId) : (s.dropBearer l b).contexts = s.contexts := by rw [dropBearer_frame]
@[simp] theorem dropBearer_waiting (l : LoopId) (b : BearerId) : (s.dropBearer l b).waiting = s.waiting := by rw [dropBearer_frame]
@[simp] theorem dropBearer_entryCount (l : LoopId) (b : BearerId) : (s.dropBearer l b).entryCount = s.entryCount := by rw [dropBearer_frame]
@[simp] theorem dropBearer_routes (l : LoopId) (b : BearerId) : (s.dropBearer l b).routes = s.routes := by rw [dropBearer_frame]
@[simp] theorem dropBearer_plan (l : LoopId) (b : BearerId) : (s.dropBearer l b).plan = s.plan := by rw [dropBearer_frame]
@[simp] theorem dropBearer_trunkA (l : LoopId) (b : BearerId) : (s.dropBearer l b).trunkA = s.trunkA := by rw [dropBearer_frame]
@[simp] theorem dropBearer_trunkB (l : LoopId) (b : BearerId) : (s.dropBearer l b).trunkB = s.trunkB := by rw [dropBearer_frame]
@[simp] theorem dropBearer_paths (l : LoopId) (b : BearerId) : (s.dropBearer l b).paths = s.paths := by rw [dropBearer_frame]
@[simp] theorem dropBearer_samples (l : LoopId) (b : BearerId) : (s.dropBearer l b).samples = s.samples := by rw [dropBearer_frame]
@[simp] theorem dropBearer_segments (l : LoopId) (b : BearerId) : (s.dropBearer l b).segments = s.segments := by rw [dropBearer_frame]
@[simp] theorem dropBearer_players (l : LoopId) (b : BearerId) : (s.dropBearer l b).players = s.players := by rw [dropBearer_frame]
@[simp] theorem dropBearer_serviceA (l : LoopId) (b : BearerId) : (s.dropBearer l b).serviceA = s.serviceA := by rw [dropBearer_frame]
@[simp] theorem dropBearer_serviceB (l : LoopId) (b : BearerId) : (s.dropBearer l b).serviceB = s.serviceB := by rw [dropBearer_frame]
@[simp] theorem dropBearer_home (l : LoopId) (b : BearerId) : (s.dropBearer l b).home = s.home := by rw [dropBearer_frame]
@[simp] theorem dropBearer_settings (l : LoopId) (b : BearerId) : (s.dropBearer l b).settings = s.settings := by rw [dropBearer_frame]
@[simp] theorem dropBearer_sectionFault (l : LoopId) (b : BearerId) : (s.dropBearer l b).sectionFault = s.sectionFault := by rw [dropBearer_frame]
@[simp] theorem dropBearer_trunkFaultA (l : LoopId) (b : BearerId) : (s.dropBearer l b).trunkFaultA = s.trunkFaultA := by rw [dropBearer_frame]
@[simp] theorem dropBearer_trunkFaultB (l : LoopId) (b : BearerId) : (s.dropBearer l b).trunkFaultB = s.trunkFaultB := by rw [dropBearer_frame]
@[simp] theorem dropBearer_loopFaults (l : LoopId) (b : BearerId) : (s.dropBearer l b).loopFaults = s.loopFaults := by rw [dropBearer_frame]
@[simp] theorem dropBearer_postFaults (l : LoopId) (b : BearerId) : (s.dropBearer l b).postFaults = s.postFaults := by rw [dropBearer_frame]
@[simp] theorem dropBearer_testResults (l : LoopId) (b : BearerId) : (s.dropBearer l b).testResults = s.testResults := by rw [dropBearer_frame]
@[simp] theorem dropBearer_marks (l : LoopId) (b : BearerId) : (s.dropBearer l b).marks = s.marks := by rw [dropBearer_frame]
@[simp] theorem dropBearer_abandons (l : LoopId) (b : BearerId) : (s.dropBearer l b).abandons = s.abandons := by rw [dropBearer_frame]
@[simp] theorem dropBearer_abandonPosts (l : LoopId) (b : BearerId) : (s.dropBearer l b).abandonPosts = s.abandonPosts := by rw [dropBearer_frame]
@[simp] theorem dropBearer_mask (l : LoopId) (b : BearerId) : (s.dropBearer l b).mask = s.mask := by rw [dropBearer_frame]
@[simp] theorem dropBearer_ring (l : LoopId) (b : BearerId) (j : LoopId) : (s.dropBearer l b).ring j = s.ring j := by simp [ring]
@[simp] theorem dropBearer_feed (l : LoopId) (b : BearerId) (j : LoopId) : (s.dropBearer l b).feed j = s.feed j := by simp [feed]
@[simp] theorem dropBearer_record (l : LoopId) (b : BearerId) (j : SlotId) : (s.dropBearer l b).record j = s.record j := by simp [record]
@[simp] theorem dropBearer_ctx (l : LoopId) (b : BearerId) (j : CtxId) : (s.dropBearer l b).ctx j = s.ctx j := by simp [ctx]
@[simp] theorem dropBearer_trunk (l : LoopId) (b : BearerId) (j : Trunk) : (s.dropBearer l b).trunk j = s.trunk j := by cases j <;> simp [trunk]
@[simp] theorem dropBearer_path (l : LoopId) (b : BearerId) (j : CtxId) : (s.dropBearer l b).path j = s.path j := by simp [path]
@[simp] theorem dropBearer_player (l : LoopId) (b : BearerId) (j : CtxId) : (s.dropBearer l b).player j = s.player j := by simp [player]
@[simp] theorem dropBearer_segment (l : LoopId) (b : BearerId) (j : SegId) : (s.dropBearer l b).segment j = s.segment j := by simp [segment]
@[simp] theorem dropBearer_service (l : LoopId) (b : BearerId) (j : Trunk) : (s.dropBearer l b).service j = s.service j := by cases j <;> simp [service]
@[simp] theorem dropBearer_param (l : LoopId) (b : BearerId) (j : Fin 25) : (s.dropBearer l b).param j = s.param j := by simp [param]

/-! ### dropBearers -/

theorem dropBearers_frame (l : LoopId) : s.dropBearers l = { s with
    loops := (s.dropBearers l).loops
    handed := (s.dropBearers l).handed } := by
  apply State.ext <;> first | with_reducible rfl | (exact foldl_keeps _ _ (fun _ _ => by simp) _ _)
@[simp] theorem dropBearers_pending (l : LoopId) : (s.dropBearers l).pending = s.pending := by rw [dropBearers_frame]
@[simp] theorem dropBearers_rings (l : LoopId) : (s.dropBearers l).rings = s.rings := by rw [dropBearers_frame]
@[simp] theorem dropBearers_feeds (l : LoopId) : (s.dropBearers l).feeds = s.feeds := by rw [dropBearers_frame]
@[simp] theorem dropBearers_supply (l : LoopId) : (s.dropBearers l).supply = s.supply := by rw [dropBearers_frame]
@[simp] theorem dropBearers_directory (l : LoopId) : (s.dropBearers l).directory = s.directory := by rw [dropBearers_frame]
@[simp] theorem dropBearers_contexts (l : LoopId) : (s.dropBearers l).contexts = s.contexts := by rw [dropBearers_frame]
@[simp] theorem dropBearers_waiting (l : LoopId) : (s.dropBearers l).waiting = s.waiting := by rw [dropBearers_frame]
@[simp] theorem dropBearers_entryCount (l : LoopId) : (s.dropBearers l).entryCount = s.entryCount := by rw [dropBearers_frame]
@[simp] theorem dropBearers_routes (l : LoopId) : (s.dropBearers l).routes = s.routes := by rw [dropBearers_frame]
@[simp] theorem dropBearers_plan (l : LoopId) : (s.dropBearers l).plan = s.plan := by rw [dropBearers_frame]
@[simp] theorem dropBearers_trunkA (l : LoopId) : (s.dropBearers l).trunkA = s.trunkA := by rw [dropBearers_frame]
@[simp] theorem dropBearers_trunkB (l : LoopId) : (s.dropBearers l).trunkB = s.trunkB := by rw [dropBearers_frame]
@[simp] theorem dropBearers_paths (l : LoopId) : (s.dropBearers l).paths = s.paths := by rw [dropBearers_frame]
@[simp] theorem dropBearers_samples (l : LoopId) : (s.dropBearers l).samples = s.samples := by rw [dropBearers_frame]
@[simp] theorem dropBearers_segments (l : LoopId) : (s.dropBearers l).segments = s.segments := by rw [dropBearers_frame]
@[simp] theorem dropBearers_players (l : LoopId) : (s.dropBearers l).players = s.players := by rw [dropBearers_frame]
@[simp] theorem dropBearers_serviceA (l : LoopId) : (s.dropBearers l).serviceA = s.serviceA := by rw [dropBearers_frame]
@[simp] theorem dropBearers_serviceB (l : LoopId) : (s.dropBearers l).serviceB = s.serviceB := by rw [dropBearers_frame]
@[simp] theorem dropBearers_home (l : LoopId) : (s.dropBearers l).home = s.home := by rw [dropBearers_frame]
@[simp] theorem dropBearers_settings (l : LoopId) : (s.dropBearers l).settings = s.settings := by rw [dropBearers_frame]
@[simp] theorem dropBearers_sectionFault (l : LoopId) : (s.dropBearers l).sectionFault = s.sectionFault := by rw [dropBearers_frame]
@[simp] theorem dropBearers_trunkFaultA (l : LoopId) : (s.dropBearers l).trunkFaultA = s.trunkFaultA := by rw [dropBearers_frame]
@[simp] theorem dropBearers_trunkFaultB (l : LoopId) : (s.dropBearers l).trunkFaultB = s.trunkFaultB := by rw [dropBearers_frame]
@[simp] theorem dropBearers_loopFaults (l : LoopId) : (s.dropBearers l).loopFaults = s.loopFaults := by rw [dropBearers_frame]
@[simp] theorem dropBearers_postFaults (l : LoopId) : (s.dropBearers l).postFaults = s.postFaults := by rw [dropBearers_frame]
@[simp] theorem dropBearers_testResults (l : LoopId) : (s.dropBearers l).testResults = s.testResults := by rw [dropBearers_frame]
@[simp] theorem dropBearers_marks (l : LoopId) : (s.dropBearers l).marks = s.marks := by rw [dropBearers_frame]
@[simp] theorem dropBearers_abandons (l : LoopId) : (s.dropBearers l).abandons = s.abandons := by rw [dropBearers_frame]
@[simp] theorem dropBearers_abandonPosts (l : LoopId) : (s.dropBearers l).abandonPosts = s.abandonPosts := by rw [dropBearers_frame]
@[simp] theorem dropBearers_mask (l : LoopId) : (s.dropBearers l).mask = s.mask := by rw [dropBearers_frame]
@[simp] theorem dropBearers_ring (l : LoopId) (j : LoopId) : (s.dropBearers l).ring j = s.ring j := by simp [ring]
@[simp] theorem dropBearers_feed (l : LoopId) (j : LoopId) : (s.dropBearers l).feed j = s.feed j := by simp [feed]
@[simp] theorem dropBearers_record (l : LoopId) (j : SlotId) : (s.dropBearers l).record j = s.record j := by simp [record]
@[simp] theorem dropBearers_ctx (l : LoopId) (j : CtxId) : (s.dropBearers l).ctx j = s.ctx j := by simp [ctx]
@[simp] theorem dropBearers_trunk (l : LoopId) (j : Trunk) : (s.dropBearers l).trunk j = s.trunk j := by cases j <;> simp [trunk]
@[simp] theorem dropBearers_path (l : LoopId) (j : CtxId) : (s.dropBearers l).path j = s.path j := by simp [path]
@[simp] theorem dropBearers_player (l : LoopId) (j : CtxId) : (s.dropBearers l).player j = s.player j := by simp [player]
@[simp] theorem dropBearers_segment (l : LoopId) (j : SegId) : (s.dropBearers l).segment j = s.segment j := by simp [segment]
@[simp] theorem dropBearers_service (l : LoopId) (j : Trunk) : (s.dropBearers l).service j = s.service j := by cases j <;> simp [service]
@[simp] theorem dropBearers_param (l : LoopId) (j : Fin 25) : (s.dropBearers l).param j = s.param j := by simp [param]

/-! ### enterFailed -/

theorem enterFailed_frame (l : LoopId) : s.enterFailed l = { s with
    loops := (s.enterFailed l).loops
    handed := (s.enterFailed l).handed } := by
  apply State.ext <;> first | with_reducible rfl | (simp [enterFailed])
@[simp] theorem enterFailed_pending (l : LoopId) : (s.enterFailed l).pending = s.pending := by rw [enterFailed_frame]
@[simp] theorem enterFailed_rings (l : LoopId) : (s.enterFailed l).rings = s.rings := by rw [enterFailed_frame]
@[simp] theorem enterFailed_feeds (l : LoopId) : (s.enterFailed l).feeds = s.feeds := by rw [enterFailed_frame]
@[simp] theorem enterFailed_supply (l : LoopId) : (s.enterFailed l).supply = s.supply := by rw [enterFailed_frame]
@[simp] theorem enterFailed_directory (l : LoopId) : (s.enterFailed l).directory = s.directory := by rw [enterFailed_frame]
@[simp] theorem enterFailed_contexts (l : LoopId) : (s.enterFailed l).contexts = s.contexts := by rw [enterFailed_frame]
@[simp] theorem enterFailed_waiting (l : LoopId) : (s.enterFailed l).waiting = s.waiting := by rw [enterFailed_frame]
@[simp] theorem enterFailed_entryCount (l : LoopId) : (s.enterFailed l).entryCount = s.entryCount := by rw [enterFailed_frame]
@[simp] theorem enterFailed_routes (l : LoopId) : (s.enterFailed l).routes = s.routes := by rw [enterFailed_frame]
@[simp] theorem enterFailed_plan (l : LoopId) : (s.enterFailed l).plan = s.plan := by rw [enterFailed_frame]
@[simp] theorem enterFailed_trunkA (l : LoopId) : (s.enterFailed l).trunkA = s.trunkA := by rw [enterFailed_frame]
@[simp] theorem enterFailed_trunkB (l : LoopId) : (s.enterFailed l).trunkB = s.trunkB := by rw [enterFailed_frame]
@[simp] theorem enterFailed_paths (l : LoopId) : (s.enterFailed l).paths = s.paths := by rw [enterFailed_frame]
@[simp] theorem enterFailed_samples (l : LoopId) : (s.enterFailed l).samples = s.samples := by rw [enterFailed_frame]
@[simp] theorem enterFailed_segments (l : LoopId) : (s.enterFailed l).segments = s.segments := by rw [enterFailed_frame]
@[simp] theorem enterFailed_players (l : LoopId) : (s.enterFailed l).players = s.players := by rw [enterFailed_frame]
@[simp] theorem enterFailed_serviceA (l : LoopId) : (s.enterFailed l).serviceA = s.serviceA := by rw [enterFailed_frame]
@[simp] theorem enterFailed_serviceB (l : LoopId) : (s.enterFailed l).serviceB = s.serviceB := by rw [enterFailed_frame]
@[simp] theorem enterFailed_home (l : LoopId) : (s.enterFailed l).home = s.home := by rw [enterFailed_frame]
@[simp] theorem enterFailed_settings (l : LoopId) : (s.enterFailed l).settings = s.settings := by rw [enterFailed_frame]
@[simp] theorem enterFailed_sectionFault (l : LoopId) : (s.enterFailed l).sectionFault = s.sectionFault := by rw [enterFailed_frame]
@[simp] theorem enterFailed_trunkFaultA (l : LoopId) : (s.enterFailed l).trunkFaultA = s.trunkFaultA := by rw [enterFailed_frame]
@[simp] theorem enterFailed_trunkFaultB (l : LoopId) : (s.enterFailed l).trunkFaultB = s.trunkFaultB := by rw [enterFailed_frame]
@[simp] theorem enterFailed_loopFaults (l : LoopId) : (s.enterFailed l).loopFaults = s.loopFaults := by rw [enterFailed_frame]
@[simp] theorem enterFailed_postFaults (l : LoopId) : (s.enterFailed l).postFaults = s.postFaults := by rw [enterFailed_frame]
@[simp] theorem enterFailed_testResults (l : LoopId) : (s.enterFailed l).testResults = s.testResults := by rw [enterFailed_frame]
@[simp] theorem enterFailed_marks (l : LoopId) : (s.enterFailed l).marks = s.marks := by rw [enterFailed_frame]
@[simp] theorem enterFailed_abandons (l : LoopId) : (s.enterFailed l).abandons = s.abandons := by rw [enterFailed_frame]
@[simp] theorem enterFailed_abandonPosts (l : LoopId) : (s.enterFailed l).abandonPosts = s.abandonPosts := by rw [enterFailed_frame]
@[simp] theorem enterFailed_mask (l : LoopId) : (s.enterFailed l).mask = s.mask := by rw [enterFailed_frame]
@[simp] theorem enterFailed_ring (l : LoopId) (j : LoopId) : (s.enterFailed l).ring j = s.ring j := by simp [ring]
@[simp] theorem enterFailed_feed (l : LoopId) (j : LoopId) : (s.enterFailed l).feed j = s.feed j := by simp [feed]
@[simp] theorem enterFailed_record (l : LoopId) (j : SlotId) : (s.enterFailed l).record j = s.record j := by simp [record]
@[simp] theorem enterFailed_ctx (l : LoopId) (j : CtxId) : (s.enterFailed l).ctx j = s.ctx j := by simp [ctx]
@[simp] theorem enterFailed_trunk (l : LoopId) (j : Trunk) : (s.enterFailed l).trunk j = s.trunk j := by cases j <;> simp [trunk]
@[simp] theorem enterFailed_path (l : LoopId) (j : CtxId) : (s.enterFailed l).path j = s.path j := by simp [path]
@[simp] theorem enterFailed_player (l : LoopId) (j : CtxId) : (s.enterFailed l).player j = s.player j := by simp [player]
@[simp] theorem enterFailed_segment (l : LoopId) (j : SegId) : (s.enterFailed l).segment j = s.segment j := by simp [segment]
@[simp] theorem enterFailed_service (l : LoopId) (j : Trunk) : (s.enterFailed l).service j = s.service j := by cases j <;> simp [service]
@[simp] theorem enterFailed_param (l : LoopId) (j : Fin 25) : (s.enterFailed l).param j = s.param j := by simp [param]

/-! ### countError -/

theorem countError_frame (l : LoopId) : s.countError l = { s with
    loops := (s.countError l).loops
    handed := (s.countError l).handed } := by
  apply State.ext <;> first | with_reducible rfl | (unfold countError; dsimp only; (repeat' split) <;> simp)
@[simp] theorem countError_pending (l : LoopId) : (s.countError l).pending = s.pending := by rw [countError_frame]
@[simp] theorem countError_rings (l : LoopId) : (s.countError l).rings = s.rings := by rw [countError_frame]
@[simp] theorem countError_feeds (l : LoopId) : (s.countError l).feeds = s.feeds := by rw [countError_frame]
@[simp] theorem countError_supply (l : LoopId) : (s.countError l).supply = s.supply := by rw [countError_frame]
@[simp] theorem countError_directory (l : LoopId) : (s.countError l).directory = s.directory := by rw [countError_frame]
@[simp] theorem countError_contexts (l : LoopId) : (s.countError l).contexts = s.contexts := by rw [countError_frame]
@[simp] theorem countError_waiting (l : LoopId) : (s.countError l).waiting = s.waiting := by rw [countError_frame]
@[simp] theorem countError_entryCount (l : LoopId) : (s.countError l).entryCount = s.entryCount := by rw [countError_frame]
@[simp] theorem countError_routes (l : LoopId) : (s.countError l).routes = s.routes := by rw [countError_frame]
@[simp] theorem countError_plan (l : LoopId) : (s.countError l).plan = s.plan := by rw [countError_frame]
@[simp] theorem countError_trunkA (l : LoopId) : (s.countError l).trunkA = s.trunkA := by rw [countError_frame]
@[simp] theorem countError_trunkB (l : LoopId) : (s.countError l).trunkB = s.trunkB := by rw [countError_frame]
@[simp] theorem countError_paths (l : LoopId) : (s.countError l).paths = s.paths := by rw [countError_frame]
@[simp] theorem countError_samples (l : LoopId) : (s.countError l).samples = s.samples := by rw [countError_frame]
@[simp] theorem countError_segments (l : LoopId) : (s.countError l).segments = s.segments := by rw [countError_frame]
@[simp] theorem countError_players (l : LoopId) : (s.countError l).players = s.players := by rw [countError_frame]
@[simp] theorem countError_serviceA (l : LoopId) : (s.countError l).serviceA = s.serviceA := by rw [countError_frame]
@[simp] theorem countError_serviceB (l : LoopId) : (s.countError l).serviceB = s.serviceB := by rw [countError_frame]
@[simp] theorem countError_home (l : LoopId) : (s.countError l).home = s.home := by rw [countError_frame]
@[simp] theorem countError_settings (l : LoopId) : (s.countError l).settings = s.settings := by rw [countError_frame]
@[simp] theorem countError_sectionFault (l : LoopId) : (s.countError l).sectionFault = s.sectionFault := by rw [countError_frame]
@[simp] theorem countError_trunkFaultA (l : LoopId) : (s.countError l).trunkFaultA = s.trunkFaultA := by rw [countError_frame]
@[simp] theorem countError_trunkFaultB (l : LoopId) : (s.countError l).trunkFaultB = s.trunkFaultB := by rw [countError_frame]
@[simp] theorem countError_loopFaults (l : LoopId) : (s.countError l).loopFaults = s.loopFaults := by rw [countError_frame]
@[simp] theorem countError_postFaults (l : LoopId) : (s.countError l).postFaults = s.postFaults := by rw [countError_frame]
@[simp] theorem countError_testResults (l : LoopId) : (s.countError l).testResults = s.testResults := by rw [countError_frame]
@[simp] theorem countError_marks (l : LoopId) : (s.countError l).marks = s.marks := by rw [countError_frame]
@[simp] theorem countError_abandons (l : LoopId) : (s.countError l).abandons = s.abandons := by rw [countError_frame]
@[simp] theorem countError_abandonPosts (l : LoopId) : (s.countError l).abandonPosts = s.abandonPosts := by rw [countError_frame]
@[simp] theorem countError_mask (l : LoopId) : (s.countError l).mask = s.mask := by rw [countError_frame]
@[simp] theorem countError_ring (l : LoopId) (j : LoopId) : (s.countError l).ring j = s.ring j := by simp [ring]
@[simp] theorem countError_feed (l : LoopId) (j : LoopId) : (s.countError l).feed j = s.feed j := by simp [feed]
@[simp] theorem countError_record (l : LoopId) (j : SlotId) : (s.countError l).record j = s.record j := by simp [record]
@[simp] theorem countError_ctx (l : LoopId) (j : CtxId) : (s.countError l).ctx j = s.ctx j := by simp [ctx]
@[simp] theorem countError_trunk (l : LoopId) (j : Trunk) : (s.countError l).trunk j = s.trunk j := by cases j <;> simp [trunk]
@[simp] theorem countError_path (l : LoopId) (j : CtxId) : (s.countError l).path j = s.path j := by simp [path]
@[simp] theorem countError_player (l : LoopId) (j : CtxId) : (s.countError l).player j = s.player j := by simp [player]
@[simp] theorem countError_segment (l : LoopId) (j : SegId) : (s.countError l).segment j = s.segment j := by simp [segment]
@[simp] theorem countError_service (l : LoopId) (j : Trunk) : (s.countError l).service j = s.service j := by cases j <;> simp [service]
@[simp] theorem countError_param (l : LoopId) (j : Fin 25) : (s.countError l).param j = s.param j := by simp [param]

/-! ### scanError -/

theorem scanError_frame (l : LoopId) (f : LoopFlag) : s.scanError l f = { s with
    loops := (s.scanError l f).loops
    handed := (s.scanError l f).handed } := by
  apply State.ext <;> first | with_reducible rfl | (simp [scanError])
@[simp] theorem scanError_pending (l : LoopId) (f : LoopFlag) : (s.scanError l f).pending = s.pending := by rw [scanError_frame]
@[simp] theorem scanError_rings (l : LoopId) (f : LoopFlag) : (s.scanError l f).rings = s.rings := by rw [scanError_frame]
@[simp] theorem scanError_feeds (l : LoopId) (f : LoopFlag) : (s.scanError l f).feeds = s.feeds := by rw [scanError_frame]
@[simp] theorem scanError_supply (l : LoopId) (f : LoopFlag) : (s.scanError l f).supply = s.supply := by rw [scanError_frame]
@[simp] theorem scanError_directory (l : LoopId) (f : LoopFlag) : (s.scanError l f).directory = s.directory := by rw [scanError_frame]
@[simp] theorem scanError_contexts (l : LoopId) (f : LoopFlag) : (s.scanError l f).contexts = s.contexts := by rw [scanError_frame]
@[simp] theorem scanError_waiting (l : LoopId) (f : LoopFlag) : (s.scanError l f).waiting = s.waiting := by rw [scanError_frame]
@[simp] theorem scanError_entryCount (l : LoopId) (f : LoopFlag) : (s.scanError l f).entryCount = s.entryCount := by rw [scanError_frame]
@[simp] theorem scanError_routes (l : LoopId) (f : LoopFlag) : (s.scanError l f).routes = s.routes := by rw [scanError_frame]
@[simp] theorem scanError_plan (l : LoopId) (f : LoopFlag) : (s.scanError l f).plan = s.plan := by rw [scanError_frame]
@[simp] theorem scanError_trunkA (l : LoopId) (f : LoopFlag) : (s.scanError l f).trunkA = s.trunkA := by rw [scanError_frame]
@[simp] theorem scanError_trunkB (l : LoopId) (f : LoopFlag) : (s.scanError l f).trunkB = s.trunkB := by rw [scanError_frame]
@[simp] theorem scanError_paths (l : LoopId) (f : LoopFlag) : (s.scanError l f).paths = s.paths := by rw [scanError_frame]
@[simp] theorem scanError_samples (l : LoopId) (f : LoopFlag) : (s.scanError l f).samples = s.samples := by rw [scanError_frame]
@[simp] theorem scanError_segments (l : LoopId) (f : LoopFlag) : (s.scanError l f).segments = s.segments := by rw [scanError_frame]
@[simp] theorem scanError_players (l : LoopId) (f : LoopFlag) : (s.scanError l f).players = s.players := by rw [scanError_frame]
@[simp] theorem scanError_serviceA (l : LoopId) (f : LoopFlag) : (s.scanError l f).serviceA = s.serviceA := by rw [scanError_frame]
@[simp] theorem scanError_serviceB (l : LoopId) (f : LoopFlag) : (s.scanError l f).serviceB = s.serviceB := by rw [scanError_frame]
@[simp] theorem scanError_home (l : LoopId) (f : LoopFlag) : (s.scanError l f).home = s.home := by rw [scanError_frame]
@[simp] theorem scanError_settings (l : LoopId) (f : LoopFlag) : (s.scanError l f).settings = s.settings := by rw [scanError_frame]
@[simp] theorem scanError_sectionFault (l : LoopId) (f : LoopFlag) : (s.scanError l f).sectionFault = s.sectionFault := by rw [scanError_frame]
@[simp] theorem scanError_trunkFaultA (l : LoopId) (f : LoopFlag) : (s.scanError l f).trunkFaultA = s.trunkFaultA := by rw [scanError_frame]
@[simp] theorem scanError_trunkFaultB (l : LoopId) (f : LoopFlag) : (s.scanError l f).trunkFaultB = s.trunkFaultB := by rw [scanError_frame]
@[simp] theorem scanError_loopFaults (l : LoopId) (f : LoopFlag) : (s.scanError l f).loopFaults = s.loopFaults := by rw [scanError_frame]
@[simp] theorem scanError_postFaults (l : LoopId) (f : LoopFlag) : (s.scanError l f).postFaults = s.postFaults := by rw [scanError_frame]
@[simp] theorem scanError_testResults (l : LoopId) (f : LoopFlag) : (s.scanError l f).testResults = s.testResults := by rw [scanError_frame]
@[simp] theorem scanError_marks (l : LoopId) (f : LoopFlag) : (s.scanError l f).marks = s.marks := by rw [scanError_frame]
@[simp] theorem scanError_abandons (l : LoopId) (f : LoopFlag) : (s.scanError l f).abandons = s.abandons := by rw [scanError_frame]
@[simp] theorem scanError_abandonPosts (l : LoopId) (f : LoopFlag) : (s.scanError l f).abandonPosts = s.abandonPosts := by rw [scanError_frame]
@[simp] theorem scanError_mask (l : LoopId) (f : LoopFlag) : (s.scanError l f).mask = s.mask := by rw [scanError_frame]
@[simp] theorem scanError_ring (l : LoopId) (f : LoopFlag) (j : LoopId) : (s.scanError l f).ring j = s.ring j := by simp [ring]
@[simp] theorem scanError_feed (l : LoopId) (f : LoopFlag) (j : LoopId) : (s.scanError l f).feed j = s.feed j := by simp [feed]
@[simp] theorem scanError_record (l : LoopId) (f : LoopFlag) (j : SlotId) : (s.scanError l f).record j = s.record j := by simp [record]
@[simp] theorem scanError_ctx (l : LoopId) (f : LoopFlag) (j : CtxId) : (s.scanError l f).ctx j = s.ctx j := by simp [ctx]
@[simp] theorem scanError_trunk (l : LoopId) (f : LoopFlag) (j : Trunk) : (s.scanError l f).trunk j = s.trunk j := by cases j <;> simp [trunk]
@[simp] theorem scanError_path (l : LoopId) (f : LoopFlag) (j : CtxId) : (s.scanError l f).path j = s.path j := by simp [path]
@[simp] theorem scanError_player (l : LoopId) (f : LoopFlag) (j : CtxId) : (s.scanError l f).player j = s.player j := by simp [player]
@[simp] theorem scanError_segment (l : LoopId) (f : LoopFlag) (j : SegId) : (s.scanError l f).segment j = s.segment j := by simp [segment]
@[simp] theorem scanError_service (l : LoopId) (f : LoopFlag) (j : Trunk) : (s.scanError l f).service j = s.service j := by cases j <;> simp [service]
@[simp] theorem scanError_param (l : LoopId) (f : LoopFlag) (j : Fin 25) : (s.scanError l f).param j = s.param j := by simp [param]

/-! ### setStale -/

theorem setStale_frame (l : LoopId) : s.setStale l = { s with
    loops := (s.setStale l).loops } := by
  apply State.ext <;> first | with_reducible rfl | (simp [setStale])
@[simp] theorem setStale_pending (l : LoopId) : (s.setStale l).pending = s.pending := by rw [setStale_frame]
@[simp] theorem setStale_handed (l : LoopId) : (s.setStale l).handed = s.handed := by rw [setStale_frame]
@[simp] theorem setStale_rings (l : LoopId) : (s.setStale l).rings = s.rings := by rw [setStale_frame]
@[simp] theorem setStale_feeds (l : LoopId) : (s.setStale l).feeds = s.feeds := by rw [setStale_frame]
@[simp] theorem setStale_supply (l : LoopId) : (s.setStale l).supply = s.supply := by rw [setStale_frame]
@[simp] theorem setStale_directory (l : LoopId) : (s.setStale l).directory = s.directory := by rw [setStale_frame]
@[simp] theorem setStale_contexts (l : LoopId) : (s.setStale l).contexts = s.contexts := by rw [setStale_frame]
@[simp] theorem setStale_waiting (l : LoopId) : (s.setStale l).waiting = s.waiting := by rw [setStale_frame]
@[simp] theorem setStale_entryCount (l : LoopId) : (s.setStale l).entryCount = s.entryCount := by rw [setStale_frame]
@[simp] theorem setStale_routes (l : LoopId) : (s.setStale l).routes = s.routes := by rw [setStale_frame]
@[simp] theorem setStale_plan (l : LoopId) : (s.setStale l).plan = s.plan := by rw [setStale_frame]
@[simp] theorem setStale_trunkA (l : LoopId) : (s.setStale l).trunkA = s.trunkA := by rw [setStale_frame]
@[simp] theorem setStale_trunkB (l : LoopId) : (s.setStale l).trunkB = s.trunkB := by rw [setStale_frame]
@[simp] theorem setStale_paths (l : LoopId) : (s.setStale l).paths = s.paths := by rw [setStale_frame]
@[simp] theorem setStale_samples (l : LoopId) : (s.setStale l).samples = s.samples := by rw [setStale_frame]
@[simp] theorem setStale_segments (l : LoopId) : (s.setStale l).segments = s.segments := by rw [setStale_frame]
@[simp] theorem setStale_players (l : LoopId) : (s.setStale l).players = s.players := by rw [setStale_frame]
@[simp] theorem setStale_serviceA (l : LoopId) : (s.setStale l).serviceA = s.serviceA := by rw [setStale_frame]
@[simp] theorem setStale_serviceB (l : LoopId) : (s.setStale l).serviceB = s.serviceB := by rw [setStale_frame]
@[simp] theorem setStale_home (l : LoopId) : (s.setStale l).home = s.home := by rw [setStale_frame]
@[simp] theorem setStale_settings (l : LoopId) : (s.setStale l).settings = s.settings := by rw [setStale_frame]
@[simp] theorem setStale_sectionFault (l : LoopId) : (s.setStale l).sectionFault = s.sectionFault := by rw [setStale_frame]
@[simp] theorem setStale_trunkFaultA (l : LoopId) : (s.setStale l).trunkFaultA = s.trunkFaultA := by rw [setStale_frame]
@[simp] theorem setStale_trunkFaultB (l : LoopId) : (s.setStale l).trunkFaultB = s.trunkFaultB := by rw [setStale_frame]
@[simp] theorem setStale_loopFaults (l : LoopId) : (s.setStale l).loopFaults = s.loopFaults := by rw [setStale_frame]
@[simp] theorem setStale_postFaults (l : LoopId) : (s.setStale l).postFaults = s.postFaults := by rw [setStale_frame]
@[simp] theorem setStale_testResults (l : LoopId) : (s.setStale l).testResults = s.testResults := by rw [setStale_frame]
@[simp] theorem setStale_marks (l : LoopId) : (s.setStale l).marks = s.marks := by rw [setStale_frame]
@[simp] theorem setStale_abandons (l : LoopId) : (s.setStale l).abandons = s.abandons := by rw [setStale_frame]
@[simp] theorem setStale_abandonPosts (l : LoopId) : (s.setStale l).abandonPosts = s.abandonPosts := by rw [setStale_frame]
@[simp] theorem setStale_mask (l : LoopId) : (s.setStale l).mask = s.mask := by rw [setStale_frame]
@[simp] theorem setStale_ring (l : LoopId) (j : LoopId) : (s.setStale l).ring j = s.ring j := by simp [ring]
@[simp] theorem setStale_feed (l : LoopId) (j : LoopId) : (s.setStale l).feed j = s.feed j := by simp [feed]
@[simp] theorem setStale_record (l : LoopId) (j : SlotId) : (s.setStale l).record j = s.record j := by simp [record]
@[simp] theorem setStale_ctx (l : LoopId) (j : CtxId) : (s.setStale l).ctx j = s.ctx j := by simp [ctx]
@[simp] theorem setStale_trunk (l : LoopId) (j : Trunk) : (s.setStale l).trunk j = s.trunk j := by cases j <;> simp [trunk]
@[simp] theorem setStale_path (l : LoopId) (j : CtxId) : (s.setStale l).path j = s.path j := by simp [path]
@[simp] theorem setStale_player (l : LoopId) (j : CtxId) : (s.setStale l).player j = s.player j := by simp [player]
@[simp] theorem setStale_segment (l : LoopId) (j : SegId) : (s.setStale l).segment j = s.segment j := by simp [segment]
@[simp] theorem setStale_service (l : LoopId) (j : Trunk) : (s.setStale l).service j = s.service j := by cases j <;> simp [service]
@[simp] theorem setStale_param (l : LoopId) (j : Fin 25) : (s.setStale l).param j = s.param j := by simp [param]

/-! ### staleByWrite -/

theorem staleByWrite_frame (l : LoopId) : s.staleByWrite l = { s with
    loops := (s.staleByWrite l).loops
    handed := (s.staleByWrite l).handed } := by
  apply State.ext <;> first | with_reducible rfl | (unfold staleByWrite; dsimp only; (repeat' split) <;> simp)
@[simp] theorem staleByWrite_pending (l : LoopId) : (s.staleByWrite l).pending = s.pending := by rw [staleByWrite_frame]
@[simp] theorem staleByWrite_rings (l : LoopId) : (s.staleByWrite l).rings = s.rings := by rw [staleByWrite_frame]
@[simp] theorem staleByWrite_feeds (l : LoopId) : (s.staleByWrite l).feeds = s.feeds := by rw [staleByWrite_frame]
@[simp] theorem staleByWrite_supply (l : LoopId) : (s.staleByWrite l).supply = s.supply := by rw [staleByWrite_frame]
@[simp] theorem staleByWrite_directory (l : LoopId) : (s.staleByWrite l).directory = s.directory := by rw [staleByWrite_frame]
@[simp] theorem staleByWrite_contexts (l : LoopId) : (s.staleByWrite l).contexts = s.contexts := by rw [staleByWrite_frame]
@[simp] theorem staleByWrite_waiting (l : LoopId) : (s.staleByWrite l).waiting = s.waiting := by rw [staleByWrite_frame]
@[simp] theorem staleByWrite_entryCount (l : LoopId) : (s.staleByWrite l).entryCount = s.entryCount := by rw [staleByWrite_frame]
@[simp] theorem staleByWrite_routes (l : LoopId) : (s.staleByWrite l).routes = s.routes := by rw [staleByWrite_frame]
@[simp] theorem staleByWrite_plan (l : LoopId) : (s.staleByWrite l).plan = s.plan := by rw [staleByWrite_frame]
@[simp] theorem staleByWrite_trunkA (l : LoopId) : (s.staleByWrite l).trunkA = s.trunkA := by rw [staleByWrite_frame]
@[simp] theorem staleByWrite_trunkB (l : LoopId) : (s.staleByWrite l).trunkB = s.trunkB := by rw [staleByWrite_frame]
@[simp] theorem staleByWrite_paths (l : LoopId) : (s.staleByWrite l).paths = s.paths := by rw [staleByWrite_frame]
@[simp] theorem staleByWrite_samples (l : LoopId) : (s.staleByWrite l).samples = s.samples := by rw [staleByWrite_frame]
@[simp] theorem staleByWrite_segments (l : LoopId) : (s.staleByWrite l).segments = s.segments := by rw [staleByWrite_frame]
@[simp] theorem staleByWrite_players (l : LoopId) : (s.staleByWrite l).players = s.players := by rw [staleByWrite_frame]
@[simp] theorem staleByWrite_serviceA (l : LoopId) : (s.staleByWrite l).serviceA = s.serviceA := by rw [staleByWrite_frame]
@[simp] theorem staleByWrite_serviceB (l : LoopId) : (s.staleByWrite l).serviceB = s.serviceB := by rw [staleByWrite_frame]
@[simp] theorem staleByWrite_home (l : LoopId) : (s.staleByWrite l).home = s.home := by rw [staleByWrite_frame]
@[simp] theorem staleByWrite_settings (l : LoopId) : (s.staleByWrite l).settings = s.settings := by rw [staleByWrite_frame]
@[simp] theorem staleByWrite_sectionFault (l : LoopId) : (s.staleByWrite l).sectionFault = s.sectionFault := by rw [staleByWrite_frame]
@[simp] theorem staleByWrite_trunkFaultA (l : LoopId) : (s.staleByWrite l).trunkFaultA = s.trunkFaultA := by rw [staleByWrite_frame]
@[simp] theorem staleByWrite_trunkFaultB (l : LoopId) : (s.staleByWrite l).trunkFaultB = s.trunkFaultB := by rw [staleByWrite_frame]
@[simp] theorem staleByWrite_loopFaults (l : LoopId) : (s.staleByWrite l).loopFaults = s.loopFaults := by rw [staleByWrite_frame]
@[simp] theorem staleByWrite_postFaults (l : LoopId) : (s.staleByWrite l).postFaults = s.postFaults := by rw [staleByWrite_frame]
@[simp] theorem staleByWrite_testResults (l : LoopId) : (s.staleByWrite l).testResults = s.testResults := by rw [staleByWrite_frame]
@[simp] theorem staleByWrite_marks (l : LoopId) : (s.staleByWrite l).marks = s.marks := by rw [staleByWrite_frame]
@[simp] theorem staleByWrite_abandons (l : LoopId) : (s.staleByWrite l).abandons = s.abandons := by rw [staleByWrite_frame]
@[simp] theorem staleByWrite_abandonPosts (l : LoopId) : (s.staleByWrite l).abandonPosts = s.abandonPosts := by rw [staleByWrite_frame]
@[simp] theorem staleByWrite_mask (l : LoopId) : (s.staleByWrite l).mask = s.mask := by rw [staleByWrite_frame]
@[simp] theorem staleByWrite_ring (l : LoopId) (j : LoopId) : (s.staleByWrite l).ring j = s.ring j := by simp [ring]
@[simp] theorem staleByWrite_feed (l : LoopId) (j : LoopId) : (s.staleByWrite l).feed j = s.feed j := by simp [feed]
@[simp] theorem staleByWrite_record (l : LoopId) (j : SlotId) : (s.staleByWrite l).record j = s.record j := by simp [record]
@[simp] theorem staleByWrite_ctx (l : LoopId) (j : CtxId) : (s.staleByWrite l).ctx j = s.ctx j := by simp [ctx]
@[simp] theorem staleByWrite_trunk (l : LoopId) (j : Trunk) : (s.staleByWrite l).trunk j = s.trunk j := by cases j <;> simp [trunk]
@[simp] theorem staleByWrite_path (l : LoopId) (j : CtxId) : (s.staleByWrite l).path j = s.path j := by simp [path]
@[simp] theorem staleByWrite_player (l : LoopId) (j : CtxId) : (s.staleByWrite l).player j = s.player j := by simp [player]
@[simp] theorem staleByWrite_segment (l : LoopId) (j : SegId) : (s.staleByWrite l).segment j = s.segment j := by simp [segment]
@[simp] theorem staleByWrite_service (l : LoopId) (j : Trunk) : (s.staleByWrite l).service j = s.service j := by cases j <;> simp [service]
@[simp] theorem staleByWrite_param (l : LoopId) (j : Fin 25) : (s.staleByWrite l).param j = s.param j := by simp [param]

/-! ### enterDown -/

theorem enterDown_frame (l : LoopId) (st : LoopState) : s.enterDown l st = { s with
    loops := (s.enterDown l st).loops
    handed := (s.enterDown l st).handed } := by
  apply State.ext <;> first | with_reducible rfl | (unfold enterDown; dsimp only; (repeat' split) <;> simp)
@[simp] theorem enterDown_pending (l : LoopId) (st : LoopState) : (s.enterDown l st).pending = s.pending := by rw [enterDown_frame]
@[simp] theorem enterDown_rings (l : LoopId) (st : LoopState) : (s.enterDown l st).rings = s.rings := by rw [enterDown_frame]
@[simp] theorem enterDown_feeds (l : LoopId) (st : LoopState) : (s.enterDown l st).feeds = s.feeds := by rw [enterDown_frame]
@[simp] theorem enterDown_supply (l : LoopId) (st : LoopState) : (s.enterDown l st).supply = s.supply := by rw [enterDown_frame]
@[simp] theorem enterDown_directory (l : LoopId) (st : LoopState) : (s.enterDown l st).directory = s.directory := by rw [enterDown_frame]
@[simp] theorem enterDown_contexts (l : LoopId) (st : LoopState) : (s.enterDown l st).contexts = s.contexts := by rw [enterDown_frame]
@[simp] theorem enterDown_waiting (l : LoopId) (st : LoopState) : (s.enterDown l st).waiting = s.waiting := by rw [enterDown_frame]
@[simp] theorem enterDown_entryCount (l : LoopId) (st : LoopState) : (s.enterDown l st).entryCount = s.entryCount := by rw [enterDown_frame]
@[simp] theorem enterDown_routes (l : LoopId) (st : LoopState) : (s.enterDown l st).routes = s.routes := by rw [enterDown_frame]
@[simp] theorem enterDown_plan (l : LoopId) (st : LoopState) : (s.enterDown l st).plan = s.plan := by rw [enterDown_frame]
@[simp] theorem enterDown_trunkA (l : LoopId) (st : LoopState) : (s.enterDown l st).trunkA = s.trunkA := by rw [enterDown_frame]
@[simp] theorem enterDown_trunkB (l : LoopId) (st : LoopState) : (s.enterDown l st).trunkB = s.trunkB := by rw [enterDown_frame]
@[simp] theorem enterDown_paths (l : LoopId) (st : LoopState) : (s.enterDown l st).paths = s.paths := by rw [enterDown_frame]
@[simp] theorem enterDown_samples (l : LoopId) (st : LoopState) : (s.enterDown l st).samples = s.samples := by rw [enterDown_frame]
@[simp] theorem enterDown_segments (l : LoopId) (st : LoopState) : (s.enterDown l st).segments = s.segments := by rw [enterDown_frame]
@[simp] theorem enterDown_players (l : LoopId) (st : LoopState) : (s.enterDown l st).players = s.players := by rw [enterDown_frame]
@[simp] theorem enterDown_serviceA (l : LoopId) (st : LoopState) : (s.enterDown l st).serviceA = s.serviceA := by rw [enterDown_frame]
@[simp] theorem enterDown_serviceB (l : LoopId) (st : LoopState) : (s.enterDown l st).serviceB = s.serviceB := by rw [enterDown_frame]
@[simp] theorem enterDown_home (l : LoopId) (st : LoopState) : (s.enterDown l st).home = s.home := by rw [enterDown_frame]
@[simp] theorem enterDown_settings (l : LoopId) (st : LoopState) : (s.enterDown l st).settings = s.settings := by rw [enterDown_frame]
@[simp] theorem enterDown_sectionFault (l : LoopId) (st : LoopState) : (s.enterDown l st).sectionFault = s.sectionFault := by rw [enterDown_frame]
@[simp] theorem enterDown_trunkFaultA (l : LoopId) (st : LoopState) : (s.enterDown l st).trunkFaultA = s.trunkFaultA := by rw [enterDown_frame]
@[simp] theorem enterDown_trunkFaultB (l : LoopId) (st : LoopState) : (s.enterDown l st).trunkFaultB = s.trunkFaultB := by rw [enterDown_frame]
@[simp] theorem enterDown_loopFaults (l : LoopId) (st : LoopState) : (s.enterDown l st).loopFaults = s.loopFaults := by rw [enterDown_frame]
@[simp] theorem enterDown_postFaults (l : LoopId) (st : LoopState) : (s.enterDown l st).postFaults = s.postFaults := by rw [enterDown_frame]
@[simp] theorem enterDown_testResults (l : LoopId) (st : LoopState) : (s.enterDown l st).testResults = s.testResults := by rw [enterDown_frame]
@[simp] theorem enterDown_marks (l : LoopId) (st : LoopState) : (s.enterDown l st).marks = s.marks := by rw [enterDown_frame]
@[simp] theorem enterDown_abandons (l : LoopId) (st : LoopState) : (s.enterDown l st).abandons = s.abandons := by rw [enterDown_frame]
@[simp] theorem enterDown_abandonPosts (l : LoopId) (st : LoopState) : (s.enterDown l st).abandonPosts = s.abandonPosts := by rw [enterDown_frame]
@[simp] theorem enterDown_mask (l : LoopId) (st : LoopState) : (s.enterDown l st).mask = s.mask := by rw [enterDown_frame]
@[simp] theorem enterDown_ring (l : LoopId) (st : LoopState) (j : LoopId) : (s.enterDown l st).ring j = s.ring j := by simp [ring]
@[simp] theorem enterDown_feed (l : LoopId) (st : LoopState) (j : LoopId) : (s.enterDown l st).feed j = s.feed j := by simp [feed]
@[simp] theorem enterDown_record (l : LoopId) (st : LoopState) (j : SlotId) : (s.enterDown l st).record j = s.record j := by simp [record]
@[simp] theorem enterDown_ctx (l : LoopId) (st : LoopState) (j : CtxId) : (s.enterDown l st).ctx j = s.ctx j := by simp [ctx]
@[simp] theorem enterDown_trunk (l : LoopId) (st : LoopState) (j : Trunk) : (s.enterDown l st).trunk j = s.trunk j := by cases j <;> simp [trunk]
@[simp] theorem enterDown_path (l : LoopId) (st : LoopState) (j : CtxId) : (s.enterDown l st).path j = s.path j := by simp [path]
@[simp] theorem enterDown_player (l : LoopId) (st : LoopState) (j : CtxId) : (s.enterDown l st).player j = s.player j := by simp [player]
@[simp] theorem enterDown_segment (l : LoopId) (st : LoopState) (j : SegId) : (s.enterDown l st).segment j = s.segment j := by simp [segment]
@[simp] theorem enterDown_service (l : LoopId) (st : LoopState) (j : Trunk) : (s.enterDown l st).service j = s.service j := by cases j <;> simp [service]
@[simp] theorem enterDown_param (l : LoopId) (st : LoopState) (j : Fin 25) : (s.enterDown l st).param j = s.param j := by simp [param]

/-! ### enterStart -/

theorem enterStart_frame (l : LoopId) : s.enterStart l = { s with
    loops := (s.enterStart l).loops
    handed := (s.enterStart l).handed } := by
  apply State.ext <;> first | with_reducible rfl | (unfold enterStart; dsimp only; (repeat' split) <;> simp)
@[simp] theorem enterStart_pending (l : LoopId) : (s.enterStart l).pending = s.pending := by rw [enterStart_frame]
@[simp] theorem enterStart_rings (l : LoopId) : (s.enterStart l).rings = s.rings := by rw [enterStart_frame]
@[simp] theorem enterStart_feeds (l : LoopId) : (s.enterStart l).feeds = s.feeds := by rw [enterStart_frame]
@[simp] theorem enterStart_supply (l : LoopId) : (s.enterStart l).supply = s.supply := by rw [enterStart_frame]
@[simp] theorem enterStart_directory (l : LoopId) : (s.enterStart l).directory = s.directory := by rw [enterStart_frame]
@[simp] theorem enterStart_contexts (l : LoopId) : (s.enterStart l).contexts = s.contexts := by rw [enterStart_frame]
@[simp] theorem enterStart_waiting (l : LoopId) : (s.enterStart l).waiting = s.waiting := by rw [enterStart_frame]
@[simp] theorem enterStart_entryCount (l : LoopId) : (s.enterStart l).entryCount = s.entryCount := by rw [enterStart_frame]
@[simp] theorem enterStart_routes (l : LoopId) : (s.enterStart l).routes = s.routes := by rw [enterStart_frame]
@[simp] theorem enterStart_plan (l : LoopId) : (s.enterStart l).plan = s.plan := by rw [enterStart_frame]
@[simp] theorem enterStart_trunkA (l : LoopId) : (s.enterStart l).trunkA = s.trunkA := by rw [enterStart_frame]
@[simp] theorem enterStart_trunkB (l : LoopId) : (s.enterStart l).trunkB = s.trunkB := by rw [enterStart_frame]
@[simp] theorem enterStart_paths (l : LoopId) : (s.enterStart l).paths = s.paths := by rw [enterStart_frame]
@[simp] theorem enterStart_samples (l : LoopId) : (s.enterStart l).samples = s.samples := by rw [enterStart_frame]
@[simp] theorem enterStart_segments (l : LoopId) : (s.enterStart l).segments = s.segments := by rw [enterStart_frame]
@[simp] theorem enterStart_players (l : LoopId) : (s.enterStart l).players = s.players := by rw [enterStart_frame]
@[simp] theorem enterStart_serviceA (l : LoopId) : (s.enterStart l).serviceA = s.serviceA := by rw [enterStart_frame]
@[simp] theorem enterStart_serviceB (l : LoopId) : (s.enterStart l).serviceB = s.serviceB := by rw [enterStart_frame]
@[simp] theorem enterStart_home (l : LoopId) : (s.enterStart l).home = s.home := by rw [enterStart_frame]
@[simp] theorem enterStart_settings (l : LoopId) : (s.enterStart l).settings = s.settings := by rw [enterStart_frame]
@[simp] theorem enterStart_sectionFault (l : LoopId) : (s.enterStart l).sectionFault = s.sectionFault := by rw [enterStart_frame]
@[simp] theorem enterStart_trunkFaultA (l : LoopId) : (s.enterStart l).trunkFaultA = s.trunkFaultA := by rw [enterStart_frame]
@[simp] theorem enterStart_trunkFaultB (l : LoopId) : (s.enterStart l).trunkFaultB = s.trunkFaultB := by rw [enterStart_frame]
@[simp] theorem enterStart_loopFaults (l : LoopId) : (s.enterStart l).loopFaults = s.loopFaults := by rw [enterStart_frame]
@[simp] theorem enterStart_postFaults (l : LoopId) : (s.enterStart l).postFaults = s.postFaults := by rw [enterStart_frame]
@[simp] theorem enterStart_testResults (l : LoopId) : (s.enterStart l).testResults = s.testResults := by rw [enterStart_frame]
@[simp] theorem enterStart_marks (l : LoopId) : (s.enterStart l).marks = s.marks := by rw [enterStart_frame]
@[simp] theorem enterStart_abandons (l : LoopId) : (s.enterStart l).abandons = s.abandons := by rw [enterStart_frame]
@[simp] theorem enterStart_abandonPosts (l : LoopId) : (s.enterStart l).abandonPosts = s.abandonPosts := by rw [enterStart_frame]
@[simp] theorem enterStart_mask (l : LoopId) : (s.enterStart l).mask = s.mask := by rw [enterStart_frame]
@[simp] theorem enterStart_ring (l : LoopId) (j : LoopId) : (s.enterStart l).ring j = s.ring j := by simp [ring]
@[simp] theorem enterStart_feed (l : LoopId) (j : LoopId) : (s.enterStart l).feed j = s.feed j := by simp [feed]
@[simp] theorem enterStart_record (l : LoopId) (j : SlotId) : (s.enterStart l).record j = s.record j := by simp [record]
@[simp] theorem enterStart_ctx (l : LoopId) (j : CtxId) : (s.enterStart l).ctx j = s.ctx j := by simp [ctx]
@[simp] theorem enterStart_trunk (l : LoopId) (j : Trunk) : (s.enterStart l).trunk j = s.trunk j := by cases j <;> simp [trunk]
@[simp] theorem enterStart_path (l : LoopId) (j : CtxId) : (s.enterStart l).path j = s.path j := by simp [path]
@[simp] theorem enterStart_player (l : LoopId) (j : CtxId) : (s.enterStart l).player j = s.player j := by simp [player]
@[simp] theorem enterStart_segment (l : LoopId) (j : SegId) : (s.enterStart l).segment j = s.segment j := by simp [segment]
@[simp] theorem enterStart_service (l : LoopId) (j : Trunk) : (s.enterStart l).service j = s.service j := by cases j <;> simp [service]
@[simp] theorem enterStart_param (l : LoopId) (j : Fin 25) : (s.enterStart l).param j = s.param j := by simp [param]

/-! ### reportReq -/

theorem reportReq_frame (l : LoopId) (x : Seen) : s.reportReq l x = { s with
    handed := (s.reportReq l x).handed } := by
  apply State.ext <;> first | with_reducible rfl | (unfold reportReq; dsimp only; (repeat' split) <;> simp)
@[simp] theorem reportReq_pending (l : LoopId) (x : Seen) : (s.reportReq l x).pending = s.pending := by rw [reportReq_frame]
@[simp] theorem reportReq_loops (l : LoopId) (x : Seen) : (s.reportReq l x).loops = s.loops := by rw [reportReq_frame]
@[simp] theorem reportReq_rings (l : LoopId) (x : Seen) : (s.reportReq l x).rings = s.rings := by rw [reportReq_frame]
@[simp] theorem reportReq_feeds (l : LoopId) (x : Seen) : (s.reportReq l x).feeds = s.feeds := by rw [reportReq_frame]
@[simp] theorem reportReq_supply (l : LoopId) (x : Seen) : (s.reportReq l x).supply = s.supply := by rw [reportReq_frame]
@[simp] theorem reportReq_directory (l : LoopId) (x : Seen) : (s.reportReq l x).directory = s.directory := by rw [reportReq_frame]
@[simp] theorem reportReq_contexts (l : LoopId) (x : Seen) : (s.reportReq l x).contexts = s.contexts := by rw [reportReq_frame]
@[simp] theorem reportReq_waiting (l : LoopId) (x : Seen) : (s.reportReq l x).waiting = s.waiting := by rw [reportReq_frame]
@[simp] theorem reportReq_entryCount (l : LoopId) (x : Seen) : (s.reportReq l x).entryCount = s.entryCount := by rw [reportReq_frame]
@[simp] theorem reportReq_routes (l : LoopId) (x : Seen) : (s.reportReq l x).routes = s.routes := by rw [reportReq_frame]
@[simp] theorem reportReq_plan (l : LoopId) (x : Seen) : (s.reportReq l x).plan = s.plan := by rw [reportReq_frame]
@[simp] theorem reportReq_trunkA (l : LoopId) (x : Seen) : (s.reportReq l x).trunkA = s.trunkA := by rw [reportReq_frame]
@[simp] theorem reportReq_trunkB (l : LoopId) (x : Seen) : (s.reportReq l x).trunkB = s.trunkB := by rw [reportReq_frame]
@[simp] theorem reportReq_paths (l : LoopId) (x : Seen) : (s.reportReq l x).paths = s.paths := by rw [reportReq_frame]
@[simp] theorem reportReq_samples (l : LoopId) (x : Seen) : (s.reportReq l x).samples = s.samples := by rw [reportReq_frame]
@[simp] theorem reportReq_segments (l : LoopId) (x : Seen) : (s.reportReq l x).segments = s.segments := by rw [reportReq_frame]
@[simp] theorem reportReq_players (l : LoopId) (x : Seen) : (s.reportReq l x).players = s.players := by rw [reportReq_frame]
@[simp] theorem reportReq_serviceA (l : LoopId) (x : Seen) : (s.reportReq l x).serviceA = s.serviceA := by rw [reportReq_frame]
@[simp] theorem reportReq_serviceB (l : LoopId) (x : Seen) : (s.reportReq l x).serviceB = s.serviceB := by rw [reportReq_frame]
@[simp] theorem reportReq_home (l : LoopId) (x : Seen) : (s.reportReq l x).home = s.home := by rw [reportReq_frame]
@[simp] theorem reportReq_settings (l : LoopId) (x : Seen) : (s.reportReq l x).settings = s.settings := by rw [reportReq_frame]
@[simp] theorem reportReq_sectionFault (l : LoopId) (x : Seen) : (s.reportReq l x).sectionFault = s.sectionFault := by rw [reportReq_frame]
@[simp] theorem reportReq_trunkFaultA (l : LoopId) (x : Seen) : (s.reportReq l x).trunkFaultA = s.trunkFaultA := by rw [reportReq_frame]
@[simp] theorem reportReq_trunkFaultB (l : LoopId) (x : Seen) : (s.reportReq l x).trunkFaultB = s.trunkFaultB := by rw [reportReq_frame]
@[simp] theorem reportReq_loopFaults (l : LoopId) (x : Seen) : (s.reportReq l x).loopFaults = s.loopFaults := by rw [reportReq_frame]
@[simp] theorem reportReq_postFaults (l : LoopId) (x : Seen) : (s.reportReq l x).postFaults = s.postFaults := by rw [reportReq_frame]
@[simp] theorem reportReq_testResults (l : LoopId) (x : Seen) : (s.reportReq l x).testResults = s.testResults := by rw [reportReq_frame]
@[simp] theorem reportReq_marks (l : LoopId) (x : Seen) : (s.reportReq l x).marks = s.marks := by rw [reportReq_frame]
@[simp] theorem reportReq_abandons (l : LoopId) (x : Seen) : (s.reportReq l x).abandons = s.abandons := by rw [reportReq_frame]
@[simp] theorem reportReq_abandonPosts (l : LoopId) (x : Seen) : (s.reportReq l x).abandonPosts = s.abandonPosts := by rw [reportReq_frame]
@[simp] theorem reportReq_mask (l : LoopId) (x : Seen) : (s.reportReq l x).mask = s.mask := by rw [reportReq_frame]
@[simp] theorem reportReq_loop (l : LoopId) (x : Seen) (j : LoopId) : (s.reportReq l x).loop j = s.loop j := by simp [loop]
@[simp] theorem reportReq_ring (l : LoopId) (x : Seen) (j : LoopId) : (s.reportReq l x).ring j = s.ring j := by simp [ring]
@[simp] theorem reportReq_feed (l : LoopId) (x : Seen) (j : LoopId) : (s.reportReq l x).feed j = s.feed j := by simp [feed]
@[simp] theorem reportReq_record (l : LoopId) (x : Seen) (j : SlotId) : (s.reportReq l x).record j = s.record j := by simp [record]
@[simp] theorem reportReq_ctx (l : LoopId) (x : Seen) (j : CtxId) : (s.reportReq l x).ctx j = s.ctx j := by simp [ctx]
@[simp] theorem reportReq_trunk (l : LoopId) (x : Seen) (j : Trunk) : (s.reportReq l x).trunk j = s.trunk j := by cases j <;> simp [trunk]
@[simp] theorem reportReq_path (l : LoopId) (x : Seen) (j : CtxId) : (s.reportReq l x).path j = s.path j := by simp [path]
@[simp] theorem reportReq_player (l : LoopId) (x : Seen) (j : CtxId) : (s.reportReq l x).player j = s.player j := by simp [player]
@[simp] theorem reportReq_segment (l : LoopId) (x : Seen) (j : SegId) : (s.reportReq l x).segment j = s.segment j := by simp [segment]
@[simp] theorem reportReq_service (l : LoopId) (x : Seen) (j : Trunk) : (s.reportReq l x).service j = s.service j := by cases j <;> simp [service]
@[simp] theorem reportReq_param (l : LoopId) (x : Seen) (j : Fin 25) : (s.reportReq l x).param j = s.param j := by simp [param]

/-! ### reportCaller -/

theorem reportCaller_frame (l : LoopId) (shown : Bool) (x : Seen) : s.reportCaller l shown x = { s with
    loops := (s.reportCaller l shown x).loops
    handed := (s.reportCaller l shown x).handed } := by
  apply State.ext <;> first | with_reducible rfl | (unfold reportCaller; dsimp only; (repeat' split) <;> simp)
@[simp] theorem reportCaller_pending (l : LoopId) (shown : Bool) (x : Seen) : (s.reportCaller l shown x).pending = s.pending := by rw [reportCaller_frame]
@[simp] theorem reportCaller_rings (l : LoopId) (shown : Bool) (x : Seen) : (s.reportCaller l shown x).rings = s.rings := by rw [reportCaller_frame]
@[simp] theorem reportCaller_feeds (l : LoopId) (shown : Bool) (x : Seen) : (s.reportCaller l shown x).feeds = s.feeds := by rw [reportCaller_frame]
@[simp] theorem reportCaller_supply (l : LoopId) (shown : Bool) (x : Seen) : (s.reportCaller l shown x).supply = s.supply := by rw [reportCaller_frame]
@[simp] theorem reportCaller_directory (l : LoopId) (shown : Bool) (x : Seen) : (s.reportCaller l shown x).directory = s.directory := by rw [reportCaller_frame]
@[simp] theorem reportCaller_contexts (l : LoopId) (shown : Bool) (x : Seen) : (s.reportCaller l shown x).contexts = s.contexts := by rw [reportCaller_frame]
@[simp] theorem reportCaller_waiting (l : LoopId) (shown : Bool) (x : Seen) : (s.reportCaller l shown x).waiting = s.waiting := by rw [reportCaller_frame]
@[simp] theorem reportCaller_entryCount (l : LoopId) (shown : Bool) (x : Seen) : (s.reportCaller l shown x).entryCount = s.entryCount := by rw [reportCaller_frame]
@[simp] theorem reportCaller_routes (l : LoopId) (shown : Bool) (x : Seen) : (s.reportCaller l shown x).routes = s.routes := by rw [reportCaller_frame]
@[simp] theorem reportCaller_plan (l : LoopId) (shown : Bool) (x : Seen) : (s.reportCaller l shown x).plan = s.plan := by rw [reportCaller_frame]
@[simp] theorem reportCaller_trunkA (l : LoopId) (shown : Bool) (x : Seen) : (s.reportCaller l shown x).trunkA = s.trunkA := by rw [reportCaller_frame]
@[simp] theorem reportCaller_trunkB (l : LoopId) (shown : Bool) (x : Seen) : (s.reportCaller l shown x).trunkB = s.trunkB := by rw [reportCaller_frame]
@[simp] theorem reportCaller_paths (l : LoopId) (shown : Bool) (x : Seen) : (s.reportCaller l shown x).paths = s.paths := by rw [reportCaller_frame]
@[simp] theorem reportCaller_samples (l : LoopId) (shown : Bool) (x : Seen) : (s.reportCaller l shown x).samples = s.samples := by rw [reportCaller_frame]
@[simp] theorem reportCaller_segments (l : LoopId) (shown : Bool) (x : Seen) : (s.reportCaller l shown x).segments = s.segments := by rw [reportCaller_frame]
@[simp] theorem reportCaller_players (l : LoopId) (shown : Bool) (x : Seen) : (s.reportCaller l shown x).players = s.players := by rw [reportCaller_frame]
@[simp] theorem reportCaller_serviceA (l : LoopId) (shown : Bool) (x : Seen) : (s.reportCaller l shown x).serviceA = s.serviceA := by rw [reportCaller_frame]
@[simp] theorem reportCaller_serviceB (l : LoopId) (shown : Bool) (x : Seen) : (s.reportCaller l shown x).serviceB = s.serviceB := by rw [reportCaller_frame]
@[simp] theorem reportCaller_home (l : LoopId) (shown : Bool) (x : Seen) : (s.reportCaller l shown x).home = s.home := by rw [reportCaller_frame]
@[simp] theorem reportCaller_settings (l : LoopId) (shown : Bool) (x : Seen) : (s.reportCaller l shown x).settings = s.settings := by rw [reportCaller_frame]
@[simp] theorem reportCaller_sectionFault (l : LoopId) (shown : Bool) (x : Seen) : (s.reportCaller l shown x).sectionFault = s.sectionFault := by rw [reportCaller_frame]
@[simp] theorem reportCaller_trunkFaultA (l : LoopId) (shown : Bool) (x : Seen) : (s.reportCaller l shown x).trunkFaultA = s.trunkFaultA := by rw [reportCaller_frame]
@[simp] theorem reportCaller_trunkFaultB (l : LoopId) (shown : Bool) (x : Seen) : (s.reportCaller l shown x).trunkFaultB = s.trunkFaultB := by rw [reportCaller_frame]
@[simp] theorem reportCaller_loopFaults (l : LoopId) (shown : Bool) (x : Seen) : (s.reportCaller l shown x).loopFaults = s.loopFaults := by rw [reportCaller_frame]
@[simp] theorem reportCaller_postFaults (l : LoopId) (shown : Bool) (x : Seen) : (s.reportCaller l shown x).postFaults = s.postFaults := by rw [reportCaller_frame]
@[simp] theorem reportCaller_testResults (l : LoopId) (shown : Bool) (x : Seen) : (s.reportCaller l shown x).testResults = s.testResults := by rw [reportCaller_frame]
@[simp] theorem reportCaller_marks (l : LoopId) (shown : Bool) (x : Seen) : (s.reportCaller l shown x).marks = s.marks := by rw [reportCaller_frame]
@[simp] theorem reportCaller_abandons (l : LoopId) (shown : Bool) (x : Seen) : (s.reportCaller l shown x).abandons = s.abandons := by rw [reportCaller_frame]
@[simp] theorem reportCaller_abandonPosts (l : LoopId) (shown : Bool) (x : Seen) : (s.reportCaller l shown x).abandonPosts = s.abandonPosts := by rw [reportCaller_frame]
@[simp] theorem reportCaller_mask (l : LoopId) (shown : Bool) (x : Seen) : (s.reportCaller l shown x).mask = s.mask := by rw [reportCaller_frame]
@[simp] theorem reportCaller_ring (l : LoopId) (shown : Bool) (x : Seen) (j : LoopId) : (s.reportCaller l shown x).ring j = s.ring j := by simp [ring]
@[simp] theorem reportCaller_feed (l : LoopId) (shown : Bool) (x : Seen) (j : LoopId) : (s.reportCaller l shown x).feed j = s.feed j := by simp [feed]
@[simp] theorem reportCaller_record (l : LoopId) (shown : Bool) (x : Seen) (j : SlotId) : (s.reportCaller l shown x).record j = s.record j := by simp [record]
@[simp] theorem reportCaller_ctx (l : LoopId) (shown : Bool) (x : Seen) (j : CtxId) : (s.reportCaller l shown x).ctx j = s.ctx j := by simp [ctx]
@[simp] theorem reportCaller_trunk (l : LoopId) (shown : Bool) (x : Seen) (j : Trunk) : (s.reportCaller l shown x).trunk j = s.trunk j := by cases j <;> simp [trunk]
@[simp] theorem reportCaller_path (l : LoopId) (shown : Bool) (x : Seen) (j : CtxId) : (s.reportCaller l shown x).path j = s.path j := by simp [path]
@[simp] theorem reportCaller_player (l : LoopId) (shown : Bool) (x : Seen) (j : CtxId) : (s.reportCaller l shown x).player j = s.player j := by simp [player]
@[simp] theorem reportCaller_segment (l : LoopId) (shown : Bool) (x : Seen) (j : SegId) : (s.reportCaller l shown x).segment j = s.segment j := by simp [segment]
@[simp] theorem reportCaller_service (l : LoopId) (shown : Bool) (x : Seen) (j : Trunk) : (s.reportCaller l shown x).service j = s.service j := by cases j <;> simp [service]
@[simp] theorem reportCaller_param (l : LoopId) (shown : Bool) (x : Seen) (j : Fin 25) : (s.reportCaller l shown x).param j = s.param j := by simp [param]

/-! ### applyOk -/

theorem applyOk_frame (l : LoopId) (x : Seen) (b : BearerId) : s.applyOk l x b = { s with
    loops := (s.applyOk l x b).loops
    handed := (s.applyOk l x b).handed } := by
  apply State.ext <;> first | with_reducible rfl | (unfold applyOk; dsimp only; (repeat' split) <;> simp)
@[simp] theorem applyOk_pending (l : LoopId) (x : Seen) (b : BearerId) : (s.applyOk l x b).pending = s.pending := by rw [applyOk_frame]
@[simp] theorem applyOk_rings (l : LoopId) (x : Seen) (b : BearerId) : (s.applyOk l x b).rings = s.rings := by rw [applyOk_frame]
@[simp] theorem applyOk_feeds (l : LoopId) (x : Seen) (b : BearerId) : (s.applyOk l x b).feeds = s.feeds := by rw [applyOk_frame]
@[simp] theorem applyOk_supply (l : LoopId) (x : Seen) (b : BearerId) : (s.applyOk l x b).supply = s.supply := by rw [applyOk_frame]
@[simp] theorem applyOk_directory (l : LoopId) (x : Seen) (b : BearerId) : (s.applyOk l x b).directory = s.directory := by rw [applyOk_frame]
@[simp] theorem applyOk_contexts (l : LoopId) (x : Seen) (b : BearerId) : (s.applyOk l x b).contexts = s.contexts := by rw [applyOk_frame]
@[simp] theorem applyOk_waiting (l : LoopId) (x : Seen) (b : BearerId) : (s.applyOk l x b).waiting = s.waiting := by rw [applyOk_frame]
@[simp] theorem applyOk_entryCount (l : LoopId) (x : Seen) (b : BearerId) : (s.applyOk l x b).entryCount = s.entryCount := by rw [applyOk_frame]
@[simp] theorem applyOk_routes (l : LoopId) (x : Seen) (b : BearerId) : (s.applyOk l x b).routes = s.routes := by rw [applyOk_frame]
@[simp] theorem applyOk_plan (l : LoopId) (x : Seen) (b : BearerId) : (s.applyOk l x b).plan = s.plan := by rw [applyOk_frame]
@[simp] theorem applyOk_trunkA (l : LoopId) (x : Seen) (b : BearerId) : (s.applyOk l x b).trunkA = s.trunkA := by rw [applyOk_frame]
@[simp] theorem applyOk_trunkB (l : LoopId) (x : Seen) (b : BearerId) : (s.applyOk l x b).trunkB = s.trunkB := by rw [applyOk_frame]
@[simp] theorem applyOk_paths (l : LoopId) (x : Seen) (b : BearerId) : (s.applyOk l x b).paths = s.paths := by rw [applyOk_frame]
@[simp] theorem applyOk_samples (l : LoopId) (x : Seen) (b : BearerId) : (s.applyOk l x b).samples = s.samples := by rw [applyOk_frame]
@[simp] theorem applyOk_segments (l : LoopId) (x : Seen) (b : BearerId) : (s.applyOk l x b).segments = s.segments := by rw [applyOk_frame]
@[simp] theorem applyOk_players (l : LoopId) (x : Seen) (b : BearerId) : (s.applyOk l x b).players = s.players := by rw [applyOk_frame]
@[simp] theorem applyOk_serviceA (l : LoopId) (x : Seen) (b : BearerId) : (s.applyOk l x b).serviceA = s.serviceA := by rw [applyOk_frame]
@[simp] theorem applyOk_serviceB (l : LoopId) (x : Seen) (b : BearerId) : (s.applyOk l x b).serviceB = s.serviceB := by rw [applyOk_frame]
@[simp] theorem applyOk_home (l : LoopId) (x : Seen) (b : BearerId) : (s.applyOk l x b).home = s.home := by rw [applyOk_frame]
@[simp] theorem applyOk_settings (l : LoopId) (x : Seen) (b : BearerId) : (s.applyOk l x b).settings = s.settings := by rw [applyOk_frame]
@[simp] theorem applyOk_sectionFault (l : LoopId) (x : Seen) (b : BearerId) : (s.applyOk l x b).sectionFault = s.sectionFault := by rw [applyOk_frame]
@[simp] theorem applyOk_trunkFaultA (l : LoopId) (x : Seen) (b : BearerId) : (s.applyOk l x b).trunkFaultA = s.trunkFaultA := by rw [applyOk_frame]
@[simp] theorem applyOk_trunkFaultB (l : LoopId) (x : Seen) (b : BearerId) : (s.applyOk l x b).trunkFaultB = s.trunkFaultB := by rw [applyOk_frame]
@[simp] theorem applyOk_loopFaults (l : LoopId) (x : Seen) (b : BearerId) : (s.applyOk l x b).loopFaults = s.loopFaults := by rw [applyOk_frame]
@[simp] theorem applyOk_postFaults (l : LoopId) (x : Seen) (b : BearerId) : (s.applyOk l x b).postFaults = s.postFaults := by rw [applyOk_frame]
@[simp] theorem applyOk_testResults (l : LoopId) (x : Seen) (b : BearerId) : (s.applyOk l x b).testResults = s.testResults := by rw [applyOk_frame]
@[simp] theorem applyOk_marks (l : LoopId) (x : Seen) (b : BearerId) : (s.applyOk l x b).marks = s.marks := by rw [applyOk_frame]
@[simp] theorem applyOk_abandons (l : LoopId) (x : Seen) (b : BearerId) : (s.applyOk l x b).abandons = s.abandons := by rw [applyOk_frame]
@[simp] theorem applyOk_abandonPosts (l : LoopId) (x : Seen) (b : BearerId) : (s.applyOk l x b).abandonPosts = s.abandonPosts := by rw [applyOk_frame]
@[simp] theorem applyOk_mask (l : LoopId) (x : Seen) (b : BearerId) : (s.applyOk l x b).mask = s.mask := by rw [applyOk_frame]
@[simp] theorem applyOk_ring (l : LoopId) (x : Seen) (b : BearerId) (j : LoopId) : (s.applyOk l x b).ring j = s.ring j := by simp [ring]
@[simp] theorem applyOk_feed (l : LoopId) (x : Seen) (b : BearerId) (j : LoopId) : (s.applyOk l x b).feed j = s.feed j := by simp [feed]
@[simp] theorem applyOk_record (l : LoopId) (x : Seen) (b : BearerId) (j : SlotId) : (s.applyOk l x b).record j = s.record j := by simp [record]
@[simp] theorem applyOk_ctx (l : LoopId) (x : Seen) (b : BearerId) (j : CtxId) : (s.applyOk l x b).ctx j = s.ctx j := by simp [ctx]
@[simp] theorem applyOk_trunk (l : LoopId) (x : Seen) (b : BearerId) (j : Trunk) : (s.applyOk l x b).trunk j = s.trunk j := by cases j <;> simp [trunk]
@[simp] theorem applyOk_path (l : LoopId) (x : Seen) (b : BearerId) (j : CtxId) : (s.applyOk l x b).path j = s.path j := by simp [path]
@[simp] theorem applyOk_player (l : LoopId) (x : Seen) (b : BearerId) (j : CtxId) : (s.applyOk l x b).player j = s.player j := by simp [player]
@[simp] theorem applyOk_segment (l : LoopId) (x : Seen) (b : BearerId) (j : SegId) : (s.applyOk l x b).segment j = s.segment j := by simp [segment]
@[simp] theorem applyOk_service (l : LoopId) (x : Seen) (b : BearerId) (j : Trunk) : (s.applyOk l x b).service j = s.service j := by cases j <;> simp [service]
@[simp] theorem applyOk_param (l : LoopId) (x : Seen) (b : BearerId) (j : Fin 25) : (s.applyOk l x b).param j = s.param j := by simp [param]

/-! ### applyRelease -/

theorem applyRelease_frame (l : LoopId) (x : Seen) (b : BearerId) : s.applyRelease l x b = { s with
    loops := (s.applyRelease l x b).loops
    handed := (s.applyRelease l x b).handed } := by
  apply State.ext <;> first | with_reducible rfl | (unfold applyRelease; dsimp only; (repeat' split) <;> simp)
@[simp] theorem applyRelease_pending (l : LoopId) (x : Seen) (b : BearerId) : (s.applyRelease l x b).pending = s.pending := by rw [applyRelease_frame]
@[simp] theorem applyRelease_rings (l : LoopId) (x : Seen) (b : BearerId) : (s.applyRelease l x b).rings = s.rings := by rw [applyRelease_frame]
@[simp] theorem applyRelease_feeds (l : LoopId) (x : Seen) (b : BearerId) : (s.applyRelease l x b).feeds = s.feeds := by rw [applyRelease_frame]
@[simp] theorem applyRelease_supply (l : LoopId) (x : Seen) (b : BearerId) : (s.applyRelease l x b).supply = s.supply := by rw [applyRelease_frame]
@[simp] theorem applyRelease_directory (l : LoopId) (x : Seen) (b : BearerId) : (s.applyRelease l x b).directory = s.directory := by rw [applyRelease_frame]
@[simp] theorem applyRelease_contexts (l : LoopId) (x : Seen) (b : BearerId) : (s.applyRelease l x b).contexts = s.contexts := by rw [applyRelease_frame]
@[simp] theorem applyRelease_waiting (l : LoopId) (x : Seen) (b : BearerId) : (s.applyRelease l x b).waiting = s.waiting := by rw [applyRelease_frame]
@[simp] theorem applyRelease_entryCount (l : LoopId) (x : Seen) (b : BearerId) : (s.applyRelease l x b).entryCount = s.entryCount := by rw [applyRelease_frame]
@[simp] theorem applyRelease_routes (l : LoopId) (x : Seen) (b : BearerId) : (s.applyRelease l x b).routes = s.routes := by rw [applyRelease_frame]
@[simp] theorem applyRelease_plan (l : LoopId) (x : Seen) (b : BearerId) : (s.applyRelease l x b).plan = s.plan := by rw [applyRelease_frame]
@[simp] theorem applyRelease_trunkA (l : LoopId) (x : Seen) (b : BearerId) : (s.applyRelease l x b).trunkA = s.trunkA := by rw [applyRelease_frame]
@[simp] theorem applyRelease_trunkB (l : LoopId) (x : Seen) (b : BearerId) : (s.applyRelease l x b).trunkB = s.trunkB := by rw [applyRelease_frame]
@[simp] theorem applyRelease_paths (l : LoopId) (x : Seen) (b : BearerId) : (s.applyRelease l x b).paths = s.paths := by rw [applyRelease_frame]
@[simp] theorem applyRelease_samples (l : LoopId) (x : Seen) (b : BearerId) : (s.applyRelease l x b).samples = s.samples := by rw [applyRelease_frame]
@[simp] theorem applyRelease_segments (l : LoopId) (x : Seen) (b : BearerId) : (s.applyRelease l x b).segments = s.segments := by rw [applyRelease_frame]
@[simp] theorem applyRelease_players (l : LoopId) (x : Seen) (b : BearerId) : (s.applyRelease l x b).players = s.players := by rw [applyRelease_frame]
@[simp] theorem applyRelease_serviceA (l : LoopId) (x : Seen) (b : BearerId) : (s.applyRelease l x b).serviceA = s.serviceA := by rw [applyRelease_frame]
@[simp] theorem applyRelease_serviceB (l : LoopId) (x : Seen) (b : BearerId) : (s.applyRelease l x b).serviceB = s.serviceB := by rw [applyRelease_frame]
@[simp] theorem applyRelease_home (l : LoopId) (x : Seen) (b : BearerId) : (s.applyRelease l x b).home = s.home := by rw [applyRelease_frame]
@[simp] theorem applyRelease_settings (l : LoopId) (x : Seen) (b : BearerId) : (s.applyRelease l x b).settings = s.settings := by rw [applyRelease_frame]
@[simp] theorem applyRelease_sectionFault (l : LoopId) (x : Seen) (b : BearerId) : (s.applyRelease l x b).sectionFault = s.sectionFault := by rw [applyRelease_frame]
@[simp] theorem applyRelease_trunkFaultA (l : LoopId) (x : Seen) (b : BearerId) : (s.applyRelease l x b).trunkFaultA = s.trunkFaultA := by rw [applyRelease_frame]
@[simp] theorem applyRelease_trunkFaultB (l : LoopId) (x : Seen) (b : BearerId) : (s.applyRelease l x b).trunkFaultB = s.trunkFaultB := by rw [applyRelease_frame]
@[simp] theorem applyRelease_loopFaults (l : LoopId) (x : Seen) (b : BearerId) : (s.applyRelease l x b).loopFaults = s.loopFaults := by rw [applyRelease_frame]
@[simp] theorem applyRelease_postFaults (l : LoopId) (x : Seen) (b : BearerId) : (s.applyRelease l x b).postFaults = s.postFaults := by rw [applyRelease_frame]
@[simp] theorem applyRelease_testResults (l : LoopId) (x : Seen) (b : BearerId) : (s.applyRelease l x b).testResults = s.testResults := by rw [applyRelease_frame]
@[simp] theorem applyRelease_marks (l : LoopId) (x : Seen) (b : BearerId) : (s.applyRelease l x b).marks = s.marks := by rw [applyRelease_frame]
@[simp] theorem applyRelease_abandons (l : LoopId) (x : Seen) (b : BearerId) : (s.applyRelease l x b).abandons = s.abandons := by rw [applyRelease_frame]
@[simp] theorem applyRelease_abandonPosts (l : LoopId) (x : Seen) (b : BearerId) : (s.applyRelease l x b).abandonPosts = s.abandonPosts := by rw [applyRelease_frame]
@[simp] theorem applyRelease_mask (l : LoopId) (x : Seen) (b : BearerId) : (s.applyRelease l x b).mask = s.mask := by rw [applyRelease_frame]
@[simp] theorem applyRelease_ring (l : LoopId) (x : Seen) (b : BearerId) (j : LoopId) : (s.applyRelease l x b).ring j = s.ring j := by simp [ring]
@[simp] theorem applyRelease_feed (l : LoopId) (x : Seen) (b : BearerId) (j : LoopId) : (s.applyRelease l x b).feed j = s.feed j := by simp [feed]
@[simp] theorem applyRelease_record (l : LoopId) (x : Seen) (b : BearerId) (j : SlotId) : (s.applyRelease l x b).record j = s.record j := by simp [record]
@[simp] theorem applyRelease_ctx (l : LoopId) (x : Seen) (b : BearerId) (j : CtxId) : (s.applyRelease l x b).ctx j = s.ctx j := by simp [ctx]
@[simp] theorem applyRelease_trunk (l : LoopId) (x : Seen) (b : BearerId) (j : Trunk) : (s.applyRelease l x b).trunk j = s.trunk j := by cases j <;> simp [trunk]
@[simp] theorem applyRelease_path (l : LoopId) (x : Seen) (b : BearerId) (j : CtxId) : (s.applyRelease l x b).path j = s.path j := by simp [path]
@[simp] theorem applyRelease_player (l : LoopId) (x : Seen) (b : BearerId) (j : CtxId) : (s.applyRelease l x b).player j = s.player j := by simp [player]
@[simp] theorem applyRelease_segment (l : LoopId) (x : Seen) (b : BearerId) (j : SegId) : (s.applyRelease l x b).segment j = s.segment j := by simp [segment]
@[simp] theorem applyRelease_service (l : LoopId) (x : Seen) (b : BearerId) (j : Trunk) : (s.applyRelease l x b).service j = s.service j := by cases j <;> simp [service]
@[simp] theorem applyRelease_param (l : LoopId) (x : Seen) (b : BearerId) (j : Fin 25) : (s.applyRelease l x b).param j = s.param j := by simp [param]

/-! ### applyBearers -/

theorem applyBearers_frame (l : LoopId) (x : Seen) (okShown : Bool) : s.applyBearers l x okShown = { s with
    loops := (s.applyBearers l x okShown).loops
    handed := (s.applyBearers l x okShown).handed } := by
  apply State.ext <;> first | with_reducible rfl | (exact foldl_keeps _ _ (fun _ _ => by dsimp only; (repeat' split) <;> simp) _ _)
@[simp] theorem applyBearers_pending (l : LoopId) (x : Seen) (okShown : Bool) : (s.applyBearers l x okShown).pending = s.pending := by rw [applyBearers_frame]
@[simp] theorem applyBearers_rings (l : LoopId) (x : Seen) (okShown : Bool) : (s.applyBearers l x okShown).rings = s.rings := by rw [applyBearers_frame]
@[simp] theorem applyBearers_feeds (l : LoopId) (x : Seen) (okShown : Bool) : (s.applyBearers l x okShown).feeds = s.feeds := by rw [applyBearers_frame]
@[simp] theorem applyBearers_supply (l : LoopId) (x : Seen) (okShown : Bool) : (s.applyBearers l x okShown).supply = s.supply := by rw [applyBearers_frame]
@[simp] theorem applyBearers_directory (l : LoopId) (x : Seen) (okShown : Bool) : (s.applyBearers l x okShown).directory = s.directory := by rw [applyBearers_frame]
@[simp] theorem applyBearers_contexts (l : LoopId) (x : Seen) (okShown : Bool) : (s.applyBearers l x okShown).contexts = s.contexts := by rw [applyBearers_frame]
@[simp] theorem applyBearers_waiting (l : LoopId) (x : Seen) (okShown : Bool) : (s.applyBearers l x okShown).waiting = s.waiting := by rw [applyBearers_frame]
@[simp] theorem applyBearers_entryCount (l : LoopId) (x : Seen) (okShown : Bool) : (s.applyBearers l x okShown).entryCount = s.entryCount := by rw [applyBearers_frame]
@[simp] theorem applyBearers_routes (l : LoopId) (x : Seen) (okShown : Bool) : (s.applyBearers l x okShown).routes = s.routes := by rw [applyBearers_frame]
@[simp] theorem applyBearers_plan (l : LoopId) (x : Seen) (okShown : Bool) : (s.applyBearers l x okShown).plan = s.plan := by rw [applyBearers_frame]
@[simp] theorem applyBearers_trunkA (l : LoopId) (x : Seen) (okShown : Bool) : (s.applyBearers l x okShown).trunkA = s.trunkA := by rw [applyBearers_frame]
@[simp] theorem applyBearers_trunkB (l : LoopId) (x : Seen) (okShown : Bool) : (s.applyBearers l x okShown).trunkB = s.trunkB := by rw [applyBearers_frame]
@[simp] theorem applyBearers_paths (l : LoopId) (x : Seen) (okShown : Bool) : (s.applyBearers l x okShown).paths = s.paths := by rw [applyBearers_frame]
@[simp] theorem applyBearers_samples (l : LoopId) (x : Seen) (okShown : Bool) : (s.applyBearers l x okShown).samples = s.samples := by rw [applyBearers_frame]
@[simp] theorem applyBearers_segments (l : LoopId) (x : Seen) (okShown : Bool) : (s.applyBearers l x okShown).segments = s.segments := by rw [applyBearers_frame]
@[simp] theorem applyBearers_players (l : LoopId) (x : Seen) (okShown : Bool) : (s.applyBearers l x okShown).players = s.players := by rw [applyBearers_frame]
@[simp] theorem applyBearers_serviceA (l : LoopId) (x : Seen) (okShown : Bool) : (s.applyBearers l x okShown).serviceA = s.serviceA := by rw [applyBearers_frame]
@[simp] theorem applyBearers_serviceB (l : LoopId) (x : Seen) (okShown : Bool) : (s.applyBearers l x okShown).serviceB = s.serviceB := by rw [applyBearers_frame]
@[simp] theorem applyBearers_home (l : LoopId) (x : Seen) (okShown : Bool) : (s.applyBearers l x okShown).home = s.home := by rw [applyBearers_frame]
@[simp] theorem applyBearers_settings (l : LoopId) (x : Seen) (okShown : Bool) : (s.applyBearers l x okShown).settings = s.settings := by rw [applyBearers_frame]
@[simp] theorem applyBearers_sectionFault (l : LoopId) (x : Seen) (okShown : Bool) : (s.applyBearers l x okShown).sectionFault = s.sectionFault := by rw [applyBearers_frame]
@[simp] theorem applyBearers_trunkFaultA (l : LoopId) (x : Seen) (okShown : Bool) : (s.applyBearers l x okShown).trunkFaultA = s.trunkFaultA := by rw [applyBearers_frame]
@[simp] theorem applyBearers_trunkFaultB (l : LoopId) (x : Seen) (okShown : Bool) : (s.applyBearers l x okShown).trunkFaultB = s.trunkFaultB := by rw [applyBearers_frame]
@[simp] theorem applyBearers_loopFaults (l : LoopId) (x : Seen) (okShown : Bool) : (s.applyBearers l x okShown).loopFaults = s.loopFaults := by rw [applyBearers_frame]
@[simp] theorem applyBearers_postFaults (l : LoopId) (x : Seen) (okShown : Bool) : (s.applyBearers l x okShown).postFaults = s.postFaults := by rw [applyBearers_frame]
@[simp] theorem applyBearers_testResults (l : LoopId) (x : Seen) (okShown : Bool) : (s.applyBearers l x okShown).testResults = s.testResults := by rw [applyBearers_frame]
@[simp] theorem applyBearers_marks (l : LoopId) (x : Seen) (okShown : Bool) : (s.applyBearers l x okShown).marks = s.marks := by rw [applyBearers_frame]
@[simp] theorem applyBearers_abandons (l : LoopId) (x : Seen) (okShown : Bool) : (s.applyBearers l x okShown).abandons = s.abandons := by rw [applyBearers_frame]
@[simp] theorem applyBearers_abandonPosts (l : LoopId) (x : Seen) (okShown : Bool) : (s.applyBearers l x okShown).abandonPosts = s.abandonPosts := by rw [applyBearers_frame]
@[simp] theorem applyBearers_mask (l : LoopId) (x : Seen) (okShown : Bool) : (s.applyBearers l x okShown).mask = s.mask := by rw [applyBearers_frame]
@[simp] theorem applyBearers_ring (l : LoopId) (x : Seen) (okShown : Bool) (j : LoopId) : (s.applyBearers l x okShown).ring j = s.ring j := by simp [ring]
@[simp] theorem applyBearers_feed (l : LoopId) (x : Seen) (okShown : Bool) (j : LoopId) : (s.applyBearers l x okShown).feed j = s.feed j := by simp [feed]
@[simp] theorem applyBearers_record (l : LoopId) (x : Seen) (okShown : Bool) (j : SlotId) : (s.applyBearers l x okShown).record j = s.record j := by simp [record]
@[simp] theorem applyBearers_ctx (l : LoopId) (x : Seen) (okShown : Bool) (j : CtxId) : (s.applyBearers l x okShown).ctx j = s.ctx j := by simp [ctx]
@[simp] theorem applyBearers_trunk (l : LoopId) (x : Seen) (okShown : Bool) (j : Trunk) : (s.applyBearers l x okShown).trunk j = s.trunk j := by cases j <;> simp [trunk]
@[simp] theorem applyBearers_path (l : LoopId) (x : Seen) (okShown : Bool) (j : CtxId) : (s.applyBearers l x okShown).path j = s.path j := by simp [path]
@[simp] theorem applyBearers_player (l : LoopId) (x : Seen) (okShown : Bool) (j : CtxId) : (s.applyBearers l x okShown).player j = s.player j := by simp [player]
@[simp] theorem applyBearers_segment (l : LoopId) (x : Seen) (okShown : Bool) (j : SegId) : (s.applyBearers l x okShown).segment j = s.segment j := by simp [segment]
@[simp] theorem applyBearers_service (l : LoopId) (x : Seen) (okShown : Bool) (j : Trunk) : (s.applyBearers l x okShown).service j = s.service j := by cases j <;> simp [service]
@[simp] theorem applyBearers_param (l : LoopId) (x : Seen) (okShown : Bool) (j : Fin 25) : (s.applyBearers l x okShown).param j = s.param j := by simp [param]

/-! ### reportHealth -/

theorem reportHealth_frame (l : LoopId) (tie : Tie) (h : Byte) : s.reportHealth l tie h = { s with
    handed := (s.reportHealth l tie h).handed } := by
  apply State.ext <;> first | with_reducible rfl | (unfold reportHealth; split; exact foldl_keeps _ _ (fun _ _ => by simp) _ _; (repeat' split) <;> simp)
@[simp] theorem reportHealth_pending (l : LoopId) (tie : Tie) (h : Byte) : (s.reportHealth l tie h).pending = s.pending := by rw [reportHealth_frame]
@[simp] theorem reportHealth_loops (l : LoopId) (tie : Tie) (h : Byte) : (s.reportHealth l tie h).loops = s.loops := by rw [reportHealth_frame]
@[simp] theorem reportHealth_rings (l : LoopId) (tie : Tie) (h : Byte) : (s.reportHealth l tie h).rings = s.rings := by rw [reportHealth_frame]
@[simp] theorem reportHealth_feeds (l : LoopId) (tie : Tie) (h : Byte) : (s.reportHealth l tie h).feeds = s.feeds := by rw [reportHealth_frame]
@[simp] theorem reportHealth_supply (l : LoopId) (tie : Tie) (h : Byte) : (s.reportHealth l tie h).supply = s.supply := by rw [reportHealth_frame]
@[simp] theorem reportHealth_directory (l : LoopId) (tie : Tie) (h : Byte) : (s.reportHealth l tie h).directory = s.directory := by rw [reportHealth_frame]
@[simp] theorem reportHealth_contexts (l : LoopId) (tie : Tie) (h : Byte) : (s.reportHealth l tie h).contexts = s.contexts := by rw [reportHealth_frame]
@[simp] theorem reportHealth_waiting (l : LoopId) (tie : Tie) (h : Byte) : (s.reportHealth l tie h).waiting = s.waiting := by rw [reportHealth_frame]
@[simp] theorem reportHealth_entryCount (l : LoopId) (tie : Tie) (h : Byte) : (s.reportHealth l tie h).entryCount = s.entryCount := by rw [reportHealth_frame]
@[simp] theorem reportHealth_routes (l : LoopId) (tie : Tie) (h : Byte) : (s.reportHealth l tie h).routes = s.routes := by rw [reportHealth_frame]
@[simp] theorem reportHealth_plan (l : LoopId) (tie : Tie) (h : Byte) : (s.reportHealth l tie h).plan = s.plan := by rw [reportHealth_frame]
@[simp] theorem reportHealth_trunkA (l : LoopId) (tie : Tie) (h : Byte) : (s.reportHealth l tie h).trunkA = s.trunkA := by rw [reportHealth_frame]
@[simp] theorem reportHealth_trunkB (l : LoopId) (tie : Tie) (h : Byte) : (s.reportHealth l tie h).trunkB = s.trunkB := by rw [reportHealth_frame]
@[simp] theorem reportHealth_paths (l : LoopId) (tie : Tie) (h : Byte) : (s.reportHealth l tie h).paths = s.paths := by rw [reportHealth_frame]
@[simp] theorem reportHealth_samples (l : LoopId) (tie : Tie) (h : Byte) : (s.reportHealth l tie h).samples = s.samples := by rw [reportHealth_frame]
@[simp] theorem reportHealth_segments (l : LoopId) (tie : Tie) (h : Byte) : (s.reportHealth l tie h).segments = s.segments := by rw [reportHealth_frame]
@[simp] theorem reportHealth_players (l : LoopId) (tie : Tie) (h : Byte) : (s.reportHealth l tie h).players = s.players := by rw [reportHealth_frame]
@[simp] theorem reportHealth_serviceA (l : LoopId) (tie : Tie) (h : Byte) : (s.reportHealth l tie h).serviceA = s.serviceA := by rw [reportHealth_frame]
@[simp] theorem reportHealth_serviceB (l : LoopId) (tie : Tie) (h : Byte) : (s.reportHealth l tie h).serviceB = s.serviceB := by rw [reportHealth_frame]
@[simp] theorem reportHealth_home (l : LoopId) (tie : Tie) (h : Byte) : (s.reportHealth l tie h).home = s.home := by rw [reportHealth_frame]
@[simp] theorem reportHealth_settings (l : LoopId) (tie : Tie) (h : Byte) : (s.reportHealth l tie h).settings = s.settings := by rw [reportHealth_frame]
@[simp] theorem reportHealth_sectionFault (l : LoopId) (tie : Tie) (h : Byte) : (s.reportHealth l tie h).sectionFault = s.sectionFault := by rw [reportHealth_frame]
@[simp] theorem reportHealth_trunkFaultA (l : LoopId) (tie : Tie) (h : Byte) : (s.reportHealth l tie h).trunkFaultA = s.trunkFaultA := by rw [reportHealth_frame]
@[simp] theorem reportHealth_trunkFaultB (l : LoopId) (tie : Tie) (h : Byte) : (s.reportHealth l tie h).trunkFaultB = s.trunkFaultB := by rw [reportHealth_frame]
@[simp] theorem reportHealth_loopFaults (l : LoopId) (tie : Tie) (h : Byte) : (s.reportHealth l tie h).loopFaults = s.loopFaults := by rw [reportHealth_frame]
@[simp] theorem reportHealth_postFaults (l : LoopId) (tie : Tie) (h : Byte) : (s.reportHealth l tie h).postFaults = s.postFaults := by rw [reportHealth_frame]
@[simp] theorem reportHealth_testResults (l : LoopId) (tie : Tie) (h : Byte) : (s.reportHealth l tie h).testResults = s.testResults := by rw [reportHealth_frame]
@[simp] theorem reportHealth_marks (l : LoopId) (tie : Tie) (h : Byte) : (s.reportHealth l tie h).marks = s.marks := by rw [reportHealth_frame]
@[simp] theorem reportHealth_abandons (l : LoopId) (tie : Tie) (h : Byte) : (s.reportHealth l tie h).abandons = s.abandons := by rw [reportHealth_frame]
@[simp] theorem reportHealth_abandonPosts (l : LoopId) (tie : Tie) (h : Byte) : (s.reportHealth l tie h).abandonPosts = s.abandonPosts := by rw [reportHealth_frame]
@[simp] theorem reportHealth_mask (l : LoopId) (tie : Tie) (h : Byte) : (s.reportHealth l tie h).mask = s.mask := by rw [reportHealth_frame]
@[simp] theorem reportHealth_loop (l : LoopId) (tie : Tie) (h : Byte) (j : LoopId) : (s.reportHealth l tie h).loop j = s.loop j := by simp [loop]
@[simp] theorem reportHealth_ring (l : LoopId) (tie : Tie) (h : Byte) (j : LoopId) : (s.reportHealth l tie h).ring j = s.ring j := by simp [ring]
@[simp] theorem reportHealth_feed (l : LoopId) (tie : Tie) (h : Byte) (j : LoopId) : (s.reportHealth l tie h).feed j = s.feed j := by simp [feed]
@[simp] theorem reportHealth_record (l : LoopId) (tie : Tie) (h : Byte) (j : SlotId) : (s.reportHealth l tie h).record j = s.record j := by simp [record]
@[simp] theorem reportHealth_ctx (l : LoopId) (tie : Tie) (h : Byte) (j : CtxId) : (s.reportHealth l tie h).ctx j = s.ctx j := by simp [ctx]
@[simp] theorem reportHealth_trunk (l : LoopId) (tie : Tie) (h : Byte) (j : Trunk) : (s.reportHealth l tie h).trunk j = s.trunk j := by cases j <;> simp [trunk]
@[simp] theorem reportHealth_path (l : LoopId) (tie : Tie) (h : Byte) (j : CtxId) : (s.reportHealth l tie h).path j = s.path j := by simp [path]
@[simp] theorem reportHealth_player (l : LoopId) (tie : Tie) (h : Byte) (j : CtxId) : (s.reportHealth l tie h).player j = s.player j := by simp [player]
@[simp] theorem reportHealth_segment (l : LoopId) (tie : Tie) (h : Byte) (j : SegId) : (s.reportHealth l tie h).segment j = s.segment j := by simp [segment]
@[simp] theorem reportHealth_service (l : LoopId) (tie : Tie) (h : Byte) (j : Trunk) : (s.reportHealth l tie h).service j = s.service j := by cases j <;> simp [service]
@[simp] theorem reportHealth_param (l : LoopId) (tie : Tie) (h : Byte) (j : Fin 25) : (s.reportHealth l tie h).param j = s.param j := by simp [param]

/-! ### reportTest -/

theorem reportTest_frame (l : LoopId) (x : Seen) : s.reportTest l x = { s with
    testResults := (s.reportTest l x).testResults
    handed := (s.reportTest l x).handed } := by
  apply State.ext <;> first | with_reducible rfl | (unfold reportTest; dsimp only; (repeat' split) <;> simp)
@[simp] theorem reportTest_pending (l : LoopId) (x : Seen) : (s.reportTest l x).pending = s.pending := by rw [reportTest_frame]
@[simp] theorem reportTest_loops (l : LoopId) (x : Seen) : (s.reportTest l x).loops = s.loops := by rw [reportTest_frame]
@[simp] theorem reportTest_rings (l : LoopId) (x : Seen) : (s.reportTest l x).rings = s.rings := by rw [reportTest_frame]
@[simp] theorem reportTest_feeds (l : LoopId) (x : Seen) : (s.reportTest l x).feeds = s.feeds := by rw [reportTest_frame]
@[simp] theorem reportTest_supply (l : LoopId) (x : Seen) : (s.reportTest l x).supply = s.supply := by rw [reportTest_frame]
@[simp] theorem reportTest_directory (l : LoopId) (x : Seen) : (s.reportTest l x).directory = s.directory := by rw [reportTest_frame]
@[simp] theorem reportTest_contexts (l : LoopId) (x : Seen) : (s.reportTest l x).contexts = s.contexts := by rw [reportTest_frame]
@[simp] theorem reportTest_waiting (l : LoopId) (x : Seen) : (s.reportTest l x).waiting = s.waiting := by rw [reportTest_frame]
@[simp] theorem reportTest_entryCount (l : LoopId) (x : Seen) : (s.reportTest l x).entryCount = s.entryCount := by rw [reportTest_frame]
@[simp] theorem reportTest_routes (l : LoopId) (x : Seen) : (s.reportTest l x).routes = s.routes := by rw [reportTest_frame]
@[simp] theorem reportTest_plan (l : LoopId) (x : Seen) : (s.reportTest l x).plan = s.plan := by rw [reportTest_frame]
@[simp] theorem reportTest_trunkA (l : LoopId) (x : Seen) : (s.reportTest l x).trunkA = s.trunkA := by rw [reportTest_frame]
@[simp] theorem reportTest_trunkB (l : LoopId) (x : Seen) : (s.reportTest l x).trunkB = s.trunkB := by rw [reportTest_frame]
@[simp] theorem reportTest_paths (l : LoopId) (x : Seen) : (s.reportTest l x).paths = s.paths := by rw [reportTest_frame]
@[simp] theorem reportTest_samples (l : LoopId) (x : Seen) : (s.reportTest l x).samples = s.samples := by rw [reportTest_frame]
@[simp] theorem reportTest_segments (l : LoopId) (x : Seen) : (s.reportTest l x).segments = s.segments := by rw [reportTest_frame]
@[simp] theorem reportTest_players (l : LoopId) (x : Seen) : (s.reportTest l x).players = s.players := by rw [reportTest_frame]
@[simp] theorem reportTest_serviceA (l : LoopId) (x : Seen) : (s.reportTest l x).serviceA = s.serviceA := by rw [reportTest_frame]
@[simp] theorem reportTest_serviceB (l : LoopId) (x : Seen) : (s.reportTest l x).serviceB = s.serviceB := by rw [reportTest_frame]
@[simp] theorem reportTest_home (l : LoopId) (x : Seen) : (s.reportTest l x).home = s.home := by rw [reportTest_frame]
@[simp] theorem reportTest_settings (l : LoopId) (x : Seen) : (s.reportTest l x).settings = s.settings := by rw [reportTest_frame]
@[simp] theorem reportTest_sectionFault (l : LoopId) (x : Seen) : (s.reportTest l x).sectionFault = s.sectionFault := by rw [reportTest_frame]
@[simp] theorem reportTest_trunkFaultA (l : LoopId) (x : Seen) : (s.reportTest l x).trunkFaultA = s.trunkFaultA := by rw [reportTest_frame]
@[simp] theorem reportTest_trunkFaultB (l : LoopId) (x : Seen) : (s.reportTest l x).trunkFaultB = s.trunkFaultB := by rw [reportTest_frame]
@[simp] theorem reportTest_loopFaults (l : LoopId) (x : Seen) : (s.reportTest l x).loopFaults = s.loopFaults := by rw [reportTest_frame]
@[simp] theorem reportTest_postFaults (l : LoopId) (x : Seen) : (s.reportTest l x).postFaults = s.postFaults := by rw [reportTest_frame]
@[simp] theorem reportTest_marks (l : LoopId) (x : Seen) : (s.reportTest l x).marks = s.marks := by rw [reportTest_frame]
@[simp] theorem reportTest_abandons (l : LoopId) (x : Seen) : (s.reportTest l x).abandons = s.abandons := by rw [reportTest_frame]
@[simp] theorem reportTest_abandonPosts (l : LoopId) (x : Seen) : (s.reportTest l x).abandonPosts = s.abandonPosts := by rw [reportTest_frame]
@[simp] theorem reportTest_mask (l : LoopId) (x : Seen) : (s.reportTest l x).mask = s.mask := by rw [reportTest_frame]
@[simp] theorem reportTest_loop (l : LoopId) (x : Seen) (j : LoopId) : (s.reportTest l x).loop j = s.loop j := by simp [loop]
@[simp] theorem reportTest_ring (l : LoopId) (x : Seen) (j : LoopId) : (s.reportTest l x).ring j = s.ring j := by simp [ring]
@[simp] theorem reportTest_feed (l : LoopId) (x : Seen) (j : LoopId) : (s.reportTest l x).feed j = s.feed j := by simp [feed]
@[simp] theorem reportTest_record (l : LoopId) (x : Seen) (j : SlotId) : (s.reportTest l x).record j = s.record j := by simp [record]
@[simp] theorem reportTest_ctx (l : LoopId) (x : Seen) (j : CtxId) : (s.reportTest l x).ctx j = s.ctx j := by simp [ctx]
@[simp] theorem reportTest_trunk (l : LoopId) (x : Seen) (j : Trunk) : (s.reportTest l x).trunk j = s.trunk j := by cases j <;> simp [trunk]
@[simp] theorem reportTest_path (l : LoopId) (x : Seen) (j : CtxId) : (s.reportTest l x).path j = s.path j := by simp [path]
@[simp] theorem reportTest_player (l : LoopId) (x : Seen) (j : CtxId) : (s.reportTest l x).player j = s.player j := by simp [player]
@[simp] theorem reportTest_segment (l : LoopId) (x : Seen) (j : SegId) : (s.reportTest l x).segment j = s.segment j := by simp [segment]
@[simp] theorem reportTest_service (l : LoopId) (x : Seen) (j : Trunk) : (s.reportTest l x).service j = s.service j := by cases j <;> simp [service]
@[simp] theorem reportTest_param (l : LoopId) (x : Seen) (j : Fin 25) : (s.reportTest l x).param j = s.param j := by simp [param]

/-! ### reportEntry -/

theorem reportEntry_frame (l : LoopId) (marked stale : Bool) (x : Seen) : reportEntry l marked stale s x = { s with
    loops := (reportEntry l marked stale s x).loops
    testResults := (reportEntry l marked stale s x).testResults
    handed := (reportEntry l marked stale s x).handed } := by
  apply State.ext <;> first | with_reducible rfl | (unfold reportEntry; dsimp only; (repeat' split) <;> simp)
@[simp] theorem reportEntry_pending (l : LoopId) (marked stale : Bool) (x : Seen) : (reportEntry l marked stale s x).pending = s.pending := by rw [reportEntry_frame]
@[simp] theorem reportEntry_rings (l : LoopId) (marked stale : Bool) (x : Seen) : (reportEntry l marked stale s x).rings = s.rings := by rw [reportEntry_frame]
@[simp] theorem reportEntry_feeds (l : LoopId) (marked stale : Bool) (x : Seen) : (reportEntry l marked stale s x).feeds = s.feeds := by rw [reportEntry_frame]
@[simp] theorem reportEntry_supply (l : LoopId) (marked stale : Bool) (x : Seen) : (reportEntry l marked stale s x).supply = s.supply := by rw [reportEntry_frame]
@[simp] theorem reportEntry_directory (l : LoopId) (marked stale : Bool) (x : Seen) : (reportEntry l marked stale s x).directory = s.directory := by rw [reportEntry_frame]
@[simp] theorem reportEntry_contexts (l : LoopId) (marked stale : Bool) (x : Seen) : (reportEntry l marked stale s x).contexts = s.contexts := by rw [reportEntry_frame]
@[simp] theorem reportEntry_waiting (l : LoopId) (marked stale : Bool) (x : Seen) : (reportEntry l marked stale s x).waiting = s.waiting := by rw [reportEntry_frame]
@[simp] theorem reportEntry_entryCount (l : LoopId) (marked stale : Bool) (x : Seen) : (reportEntry l marked stale s x).entryCount = s.entryCount := by rw [reportEntry_frame]
@[simp] theorem reportEntry_routes (l : LoopId) (marked stale : Bool) (x : Seen) : (reportEntry l marked stale s x).routes = s.routes := by rw [reportEntry_frame]
@[simp] theorem reportEntry_plan (l : LoopId) (marked stale : Bool) (x : Seen) : (reportEntry l marked stale s x).plan = s.plan := by rw [reportEntry_frame]
@[simp] theorem reportEntry_trunkA (l : LoopId) (marked stale : Bool) (x : Seen) : (reportEntry l marked stale s x).trunkA = s.trunkA := by rw [reportEntry_frame]
@[simp] theorem reportEntry_trunkB (l : LoopId) (marked stale : Bool) (x : Seen) : (reportEntry l marked stale s x).trunkB = s.trunkB := by rw [reportEntry_frame]
@[simp] theorem reportEntry_paths (l : LoopId) (marked stale : Bool) (x : Seen) : (reportEntry l marked stale s x).paths = s.paths := by rw [reportEntry_frame]
@[simp] theorem reportEntry_samples (l : LoopId) (marked stale : Bool) (x : Seen) : (reportEntry l marked stale s x).samples = s.samples := by rw [reportEntry_frame]
@[simp] theorem reportEntry_segments (l : LoopId) (marked stale : Bool) (x : Seen) : (reportEntry l marked stale s x).segments = s.segments := by rw [reportEntry_frame]
@[simp] theorem reportEntry_players (l : LoopId) (marked stale : Bool) (x : Seen) : (reportEntry l marked stale s x).players = s.players := by rw [reportEntry_frame]
@[simp] theorem reportEntry_serviceA (l : LoopId) (marked stale : Bool) (x : Seen) : (reportEntry l marked stale s x).serviceA = s.serviceA := by rw [reportEntry_frame]
@[simp] theorem reportEntry_serviceB (l : LoopId) (marked stale : Bool) (x : Seen) : (reportEntry l marked stale s x).serviceB = s.serviceB := by rw [reportEntry_frame]
@[simp] theorem reportEntry_home (l : LoopId) (marked stale : Bool) (x : Seen) : (reportEntry l marked stale s x).home = s.home := by rw [reportEntry_frame]
@[simp] theorem reportEntry_settings (l : LoopId) (marked stale : Bool) (x : Seen) : (reportEntry l marked stale s x).settings = s.settings := by rw [reportEntry_frame]
@[simp] theorem reportEntry_sectionFault (l : LoopId) (marked stale : Bool) (x : Seen) : (reportEntry l marked stale s x).sectionFault = s.sectionFault := by rw [reportEntry_frame]
@[simp] theorem reportEntry_trunkFaultA (l : LoopId) (marked stale : Bool) (x : Seen) : (reportEntry l marked stale s x).trunkFaultA = s.trunkFaultA := by rw [reportEntry_frame]
@[simp] theorem reportEntry_trunkFaultB (l : LoopId) (marked stale : Bool) (x : Seen) : (reportEntry l marked stale s x).trunkFaultB = s.trunkFaultB := by rw [reportEntry_frame]
@[simp] theorem reportEntry_loopFaults (l : LoopId) (marked stale : Bool) (x : Seen) : (reportEntry l marked stale s x).loopFaults = s.loopFaults := by rw [reportEntry_frame]
@[simp] theorem reportEntry_postFaults (l : LoopId) (marked stale : Bool) (x : Seen) : (reportEntry l marked stale s x).postFaults = s.postFaults := by rw [reportEntry_frame]
@[simp] theorem reportEntry_marks (l : LoopId) (marked stale : Bool) (x : Seen) : (reportEntry l marked stale s x).marks = s.marks := by rw [reportEntry_frame]
@[simp] theorem reportEntry_abandons (l : LoopId) (marked stale : Bool) (x : Seen) : (reportEntry l marked stale s x).abandons = s.abandons := by rw [reportEntry_frame]
@[simp] theorem reportEntry_abandonPosts (l : LoopId) (marked stale : Bool) (x : Seen) : (reportEntry l marked stale s x).abandonPosts = s.abandonPosts := by rw [reportEntry_frame]
@[simp] theorem reportEntry_mask (l : LoopId) (marked stale : Bool) (x : Seen) : (reportEntry l marked stale s x).mask = s.mask := by rw [reportEntry_frame]
@[simp] theorem reportEntry_ring (l : LoopId) (marked stale : Bool) (x : Seen) (j : LoopId) : (reportEntry l marked stale s x).ring j = s.ring j := by simp [ring]
@[simp] theorem reportEntry_feed (l : LoopId) (marked stale : Bool) (x : Seen) (j : LoopId) : (reportEntry l marked stale s x).feed j = s.feed j := by simp [feed]
@[simp] theorem reportEntry_record (l : LoopId) (marked stale : Bool) (x : Seen) (j : SlotId) : (reportEntry l marked stale s x).record j = s.record j := by simp [record]
@[simp] theorem reportEntry_ctx (l : LoopId) (marked stale : Bool) (x : Seen) (j : CtxId) : (reportEntry l marked stale s x).ctx j = s.ctx j := by simp [ctx]
@[simp] theorem reportEntry_trunk (l : LoopId) (marked stale : Bool) (x : Seen) (j : Trunk) : (reportEntry l marked stale s x).trunk j = s.trunk j := by cases j <;> simp [trunk]
@[simp] theorem reportEntry_path (l : LoopId) (marked stale : Bool) (x : Seen) (j : CtxId) : (reportEntry l marked stale s x).path j = s.path j := by simp [path]
@[simp] theorem reportEntry_player (l : LoopId) (marked stale : Bool) (x : Seen) (j : CtxId) : (reportEntry l marked stale s x).player j = s.player j := by simp [player]
@[simp] theorem reportEntry_segment (l : LoopId) (marked stale : Bool) (x : Seen) (j : SegId) : (reportEntry l marked stale s x).segment j = s.segment j := by simp [segment]
@[simp] theorem reportEntry_service (l : LoopId) (marked stale : Bool) (x : Seen) (j : Trunk) : (reportEntry l marked stale s x).service j = s.service j := by cases j <;> simp [service]
@[simp] theorem reportEntry_param (l : LoopId) (marked stale : Bool) (x : Seen) (j : Fin 25) : (reportEntry l marked stale s x).param j = s.param j := by simp [param]

/-! ### foldl_reportEntry -/

theorem foldl_reportEntry_frame (l : LoopId) (marked stale : Bool) (xs : List Seen) : xs.foldl (reportEntry l marked stale) s = { s with
    loops := (xs.foldl (reportEntry l marked stale) s).loops
    testResults := (xs.foldl (reportEntry l marked stale) s).testResults
    handed := (xs.foldl (reportEntry l marked stale) s).handed } := by
  apply State.ext <;> first | with_reducible rfl | (exact foldl_keeps _ _ (fun _ _ => by simp) _ _)
@[simp] theorem foldl_reportEntry_pending (l : LoopId) (marked stale : Bool) (xs : List Seen) : (xs.foldl (reportEntry l marked stale) s).pending = s.pending := by rw [foldl_reportEntry_frame]
@[simp] theorem foldl_reportEntry_rings (l : LoopId) (marked stale : Bool) (xs : List Seen) : (xs.foldl (reportEntry l marked stale) s).rings = s.rings := by rw [foldl_reportEntry_frame]
@[simp] theorem foldl_reportEntry_feeds (l : LoopId) (marked stale : Bool) (xs : List Seen) : (xs.foldl (reportEntry l marked stale) s).feeds = s.feeds := by rw [foldl_reportEntry_frame]
@[simp] theorem foldl_reportEntry_supply (l : LoopId) (marked stale : Bool) (xs : List Seen) : (xs.foldl (reportEntry l marked stale) s).supply = s.supply := by rw [foldl_reportEntry_frame]
@[simp] theorem foldl_reportEntry_directory (l : LoopId) (marked stale : Bool) (xs : List Seen) : (xs.foldl (reportEntry l marked stale) s).directory = s.directory := by rw [foldl_reportEntry_frame]
@[simp] theorem foldl_reportEntry_contexts (l : LoopId) (marked stale : Bool) (xs : List Seen) : (xs.foldl (reportEntry l marked stale) s).contexts = s.contexts := by rw [foldl_reportEntry_frame]
@[simp] theorem foldl_reportEntry_waiting (l : LoopId) (marked stale : Bool) (xs : List Seen) : (xs.foldl (reportEntry l marked stale) s).waiting = s.waiting := by rw [foldl_reportEntry_frame]
@[simp] theorem foldl_reportEntry_entryCount (l : LoopId) (marked stale : Bool) (xs : List Seen) : (xs.foldl (reportEntry l marked stale) s).entryCount = s.entryCount := by rw [foldl_reportEntry_frame]
@[simp] theorem foldl_reportEntry_routes (l : LoopId) (marked stale : Bool) (xs : List Seen) : (xs.foldl (reportEntry l marked stale) s).routes = s.routes := by rw [foldl_reportEntry_frame]
@[simp] theorem foldl_reportEntry_plan (l : LoopId) (marked stale : Bool) (xs : List Seen) : (xs.foldl (reportEntry l marked stale) s).plan = s.plan := by rw [foldl_reportEntry_frame]
@[simp] theorem foldl_reportEntry_trunkA (l : LoopId) (marked stale : Bool) (xs : List Seen) : (xs.foldl (reportEntry l marked stale) s).trunkA = s.trunkA := by rw [foldl_reportEntry_frame]
@[simp] theorem foldl_reportEntry_trunkB (l : LoopId) (marked stale : Bool) (xs : List Seen) : (xs.foldl (reportEntry l marked stale) s).trunkB = s.trunkB := by rw [foldl_reportEntry_frame]
@[simp] theorem foldl_reportEntry_paths (l : LoopId) (marked stale : Bool) (xs : List Seen) : (xs.foldl (reportEntry l marked stale) s).paths = s.paths := by rw [foldl_reportEntry_frame]
@[simp] theorem foldl_reportEntry_samples (l : LoopId) (marked stale : Bool) (xs : List Seen) : (xs.foldl (reportEntry l marked stale) s).samples = s.samples := by rw [foldl_reportEntry_frame]
@[simp] theorem foldl_reportEntry_segments (l : LoopId) (marked stale : Bool) (xs : List Seen) : (xs.foldl (reportEntry l marked stale) s).segments = s.segments := by rw [foldl_reportEntry_frame]
@[simp] theorem foldl_reportEntry_players (l : LoopId) (marked stale : Bool) (xs : List Seen) : (xs.foldl (reportEntry l marked stale) s).players = s.players := by rw [foldl_reportEntry_frame]
@[simp] theorem foldl_reportEntry_serviceA (l : LoopId) (marked stale : Bool) (xs : List Seen) : (xs.foldl (reportEntry l marked stale) s).serviceA = s.serviceA := by rw [foldl_reportEntry_frame]
@[simp] theorem foldl_reportEntry_serviceB (l : LoopId) (marked stale : Bool) (xs : List Seen) : (xs.foldl (reportEntry l marked stale) s).serviceB = s.serviceB := by rw [foldl_reportEntry_frame]
@[simp] theorem foldl_reportEntry_home (l : LoopId) (marked stale : Bool) (xs : List Seen) : (xs.foldl (reportEntry l marked stale) s).home = s.home := by rw [foldl_reportEntry_frame]
@[simp] theorem foldl_reportEntry_settings (l : LoopId) (marked stale : Bool) (xs : List Seen) : (xs.foldl (reportEntry l marked stale) s).settings = s.settings := by rw [foldl_reportEntry_frame]
@[simp] theorem foldl_reportEntry_sectionFault (l : LoopId) (marked stale : Bool) (xs : List Seen) : (xs.foldl (reportEntry l marked stale) s).sectionFault = s.sectionFault := by rw [foldl_reportEntry_frame]
@[simp] theorem foldl_reportEntry_trunkFaultA (l : LoopId) (marked stale : Bool) (xs : List Seen) : (xs.foldl (reportEntry l marked stale) s).trunkFaultA = s.trunkFaultA := by rw [foldl_reportEntry_frame]
@[simp] theorem foldl_reportEntry_trunkFaultB (l : LoopId) (marked stale : Bool) (xs : List Seen) : (xs.foldl (reportEntry l marked stale) s).trunkFaultB = s.trunkFaultB := by rw [foldl_reportEntry_frame]
@[simp] theorem foldl_reportEntry_loopFaults (l : LoopId) (marked stale : Bool) (xs : List Seen) : (xs.foldl (reportEntry l marked stale) s).loopFaults = s.loopFaults := by rw [foldl_reportEntry_frame]
@[simp] theorem foldl_reportEntry_postFaults (l : LoopId) (marked stale : Bool) (xs : List Seen) : (xs.foldl (reportEntry l marked stale) s).postFaults = s.postFaults := by rw [foldl_reportEntry_frame]
@[simp] theorem foldl_reportEntry_marks (l : LoopId) (marked stale : Bool) (xs : List Seen) : (xs.foldl (reportEntry l marked stale) s).marks = s.marks := by rw [foldl_reportEntry_frame]
@[simp] theorem foldl_reportEntry_abandons (l : LoopId) (marked stale : Bool) (xs : List Seen) : (xs.foldl (reportEntry l marked stale) s).abandons = s.abandons := by rw [foldl_reportEntry_frame]
@[simp] theorem foldl_reportEntry_abandonPosts (l : LoopId) (marked stale : Bool) (xs : List Seen) : (xs.foldl (reportEntry l marked stale) s).abandonPosts = s.abandonPosts := by rw [foldl_reportEntry_frame]
@[simp] theorem foldl_reportEntry_mask (l : LoopId) (marked stale : Bool) (xs : List Seen) : (xs.foldl (reportEntry l marked stale) s).mask = s.mask := by rw [foldl_reportEntry_frame]
@[simp] theorem foldl_reportEntry_ring (l : LoopId) (marked stale : Bool) (xs : List Seen) (j : LoopId) : (xs.foldl (reportEntry l marked stale) s).ring j = s.ring j := by simp [ring]
@[simp] theorem foldl_reportEntry_feed (l : LoopId) (marked stale : Bool) (xs : List Seen) (j : LoopId) : (xs.foldl (reportEntry l marked stale) s).feed j = s.feed j := by simp [feed]
@[simp] theorem foldl_reportEntry_record (l : LoopId) (marked stale : Bool) (xs : List Seen) (j : SlotId) : (xs.foldl (reportEntry l marked stale) s).record j = s.record j := by simp [record]
@[simp] theorem foldl_reportEntry_ctx (l : LoopId) (marked stale : Bool) (xs : List Seen) (j : CtxId) : (xs.foldl (reportEntry l marked stale) s).ctx j = s.ctx j := by simp [ctx]
@[simp] theorem foldl_reportEntry_trunk (l : LoopId) (marked stale : Bool) (xs : List Seen) (j : Trunk) : (xs.foldl (reportEntry l marked stale) s).trunk j = s.trunk j := by cases j <;> simp [trunk]
@[simp] theorem foldl_reportEntry_path (l : LoopId) (marked stale : Bool) (xs : List Seen) (j : CtxId) : (xs.foldl (reportEntry l marked stale) s).path j = s.path j := by simp [path]
@[simp] theorem foldl_reportEntry_player (l : LoopId) (marked stale : Bool) (xs : List Seen) (j : CtxId) : (xs.foldl (reportEntry l marked stale) s).player j = s.player j := by simp [player]
@[simp] theorem foldl_reportEntry_segment (l : LoopId) (marked stale : Bool) (xs : List Seen) (j : SegId) : (xs.foldl (reportEntry l marked stale) s).segment j = s.segment j := by simp [segment]
@[simp] theorem foldl_reportEntry_service (l : LoopId) (marked stale : Bool) (xs : List Seen) (j : Trunk) : (xs.foldl (reportEntry l marked stale) s).service j = s.service j := by cases j <;> simp [service]
@[simp] theorem foldl_reportEntry_param (l : LoopId) (marked stale : Bool) (xs : List Seen) (j : Fin 25) : (xs.foldl (reportEntry l marked stale) s).param j = s.param j := by simp [param]

/-! ### useScan -/

theorem useScan_frame (l : LoopId) (f : Flight) (r : Returned) : s.useScan l f r = { s with
    loops := (s.useScan l f r).loops
    testResults := (s.useScan l f r).testResults
    handed := (s.useScan l f r).handed } := by
  apply State.ext <;> first | with_reducible rfl | (simp [useScan])
@[simp] theorem useScan_pending (l : LoopId) (f : Flight) (r : Returned) : (s.useScan l f r).pending = s.pending := by rw [useScan_frame]
@[simp] theorem useScan_rings (l : LoopId) (f : Flight) (r : Returned) : (s.useScan l f r).rings = s.rings := by rw [useScan_frame]
@[simp] theorem useScan_feeds (l : LoopId) (f : Flight) (r : Returned) : (s.useScan l f r).feeds = s.feeds := by rw [useScan_frame]
@[simp] theorem useScan_supply (l : LoopId) (f : Flight) (r : Returned) : (s.useScan l f r).supply = s.supply := by rw [useScan_frame]
@[simp] theorem useScan_directory (l : LoopId) (f : Flight) (r : Returned) : (s.useScan l f r).directory = s.directory := by rw [useScan_frame]
@[simp] theorem useScan_contexts (l : LoopId) (f : Flight) (r : Returned) : (s.useScan l f r).contexts = s.contexts := by rw [useScan_frame]
@[simp] theorem useScan_waiting (l : LoopId) (f : Flight) (r : Returned) : (s.useScan l f r).waiting = s.waiting := by rw [useScan_frame]
@[simp] theorem useScan_entryCount (l : LoopId) (f : Flight) (r : Returned) : (s.useScan l f r).entryCount = s.entryCount := by rw [useScan_frame]
@[simp] theorem useScan_routes (l : LoopId) (f : Flight) (r : Returned) : (s.useScan l f r).routes = s.routes := by rw [useScan_frame]
@[simp] theorem useScan_plan (l : LoopId) (f : Flight) (r : Returned) : (s.useScan l f r).plan = s.plan := by rw [useScan_frame]
@[simp] theorem useScan_trunkA (l : LoopId) (f : Flight) (r : Returned) : (s.useScan l f r).trunkA = s.trunkA := by rw [useScan_frame]
@[simp] theorem useScan_trunkB (l : LoopId) (f : Flight) (r : Returned) : (s.useScan l f r).trunkB = s.trunkB := by rw [useScan_frame]
@[simp] theorem useScan_paths (l : LoopId) (f : Flight) (r : Returned) : (s.useScan l f r).paths = s.paths := by rw [useScan_frame]
@[simp] theorem useScan_samples (l : LoopId) (f : Flight) (r : Returned) : (s.useScan l f r).samples = s.samples := by rw [useScan_frame]
@[simp] theorem useScan_segments (l : LoopId) (f : Flight) (r : Returned) : (s.useScan l f r).segments = s.segments := by rw [useScan_frame]
@[simp] theorem useScan_players (l : LoopId) (f : Flight) (r : Returned) : (s.useScan l f r).players = s.players := by rw [useScan_frame]
@[simp] theorem useScan_serviceA (l : LoopId) (f : Flight) (r : Returned) : (s.useScan l f r).serviceA = s.serviceA := by rw [useScan_frame]
@[simp] theorem useScan_serviceB (l : LoopId) (f : Flight) (r : Returned) : (s.useScan l f r).serviceB = s.serviceB := by rw [useScan_frame]
@[simp] theorem useScan_home (l : LoopId) (f : Flight) (r : Returned) : (s.useScan l f r).home = s.home := by rw [useScan_frame]
@[simp] theorem useScan_settings (l : LoopId) (f : Flight) (r : Returned) : (s.useScan l f r).settings = s.settings := by rw [useScan_frame]
@[simp] theorem useScan_sectionFault (l : LoopId) (f : Flight) (r : Returned) : (s.useScan l f r).sectionFault = s.sectionFault := by rw [useScan_frame]
@[simp] theorem useScan_trunkFaultA (l : LoopId) (f : Flight) (r : Returned) : (s.useScan l f r).trunkFaultA = s.trunkFaultA := by rw [useScan_frame]
@[simp] theorem useScan_trunkFaultB (l : LoopId) (f : Flight) (r : Returned) : (s.useScan l f r).trunkFaultB = s.trunkFaultB := by rw [useScan_frame]
@[simp] theorem useScan_loopFaults (l : LoopId) (f : Flight) (r : Returned) : (s.useScan l f r).loopFaults = s.loopFaults := by rw [useScan_frame]
@[simp] theorem useScan_postFaults (l : LoopId) (f : Flight) (r : Returned) : (s.useScan l f r).postFaults = s.postFaults := by rw [useScan_frame]
@[simp] theorem useScan_marks (l : LoopId) (f : Flight) (r : Returned) : (s.useScan l f r).marks = s.marks := by rw [useScan_frame]
@[simp] theorem useScan_abandons (l : LoopId) (f : Flight) (r : Returned) : (s.useScan l f r).abandons = s.abandons := by rw [useScan_frame]
@[simp] theorem useScan_abandonPosts (l : LoopId) (f : Flight) (r : Returned) : (s.useScan l f r).abandonPosts = s.abandonPosts := by rw [useScan_frame]
@[simp] theorem useScan_mask (l : LoopId) (f : Flight) (r : Returned) : (s.useScan l f r).mask = s.mask := by rw [useScan_frame]
@[simp] theorem useScan_ring (l : LoopId) (f : Flight) (r : Returned) (j : LoopId) : (s.useScan l f r).ring j = s.ring j := by simp [ring]
@[simp] theorem useScan_feed (l : LoopId) (f : Flight) (r : Returned) (j : LoopId) : (s.useScan l f r).feed j = s.feed j := by simp [feed]
@[simp] theorem useScan_record (l : LoopId) (f : Flight) (r : Returned) (j : SlotId) : (s.useScan l f r).record j = s.record j := by simp [record]
@[simp] theorem useScan_ctx (l : LoopId) (f : Flight) (r : Returned) (j : CtxId) : (s.useScan l f r).ctx j = s.ctx j := by simp [ctx]
@[simp] theorem useScan_trunk (l : LoopId) (f : Flight) (r : Returned) (j : Trunk) : (s.useScan l f r).trunk j = s.trunk j := by cases j <;> simp [trunk]
@[simp] theorem useScan_path (l : LoopId) (f : Flight) (r : Returned) (j : CtxId) : (s.useScan l f r).path j = s.path j := by simp [path]
@[simp] theorem useScan_player (l : LoopId) (f : Flight) (r : Returned) (j : CtxId) : (s.useScan l f r).player j = s.player j := by simp [player]
@[simp] theorem useScan_segment (l : LoopId) (f : Flight) (r : Returned) (j : SegId) : (s.useScan l f r).segment j = s.segment j := by simp [segment]
@[simp] theorem useScan_service (l : LoopId) (f : Flight) (r : Returned) (j : Trunk) : (s.useScan l f r).service j = s.service j := by cases j <;> simp [service]
@[simp] theorem useScan_param (l : LoopId) (f : Flight) (r : Returned) (j : Fin 25) : (s.useScan l f r).param j = s.param j := by simp [param]

/-! ### handOverPlates -/

theorem handOverPlates_frame (l : LoopId) (r : Returned) : s.handOverPlates l r = { s with
    loops := (s.handOverPlates l r).loops
    handed := (s.handOverPlates l r).handed } := by
  apply State.ext <;> first | with_reducible rfl | (simp [handOverPlates])
@[simp] theorem handOverPlates_pending (l : LoopId) (r : Returned) : (s.handOverPlates l r).pending = s.pending := by rw [handOverPlates_frame]
@[simp] theorem handOverPlates_rings (l : LoopId) (r : Returned) : (s.handOverPlates l r).rings = s.rings := by rw [handOverPlates_frame]
@[simp] theorem handOverPlates_feeds (l : LoopId) (r : Returned) : (s.handOverPlates l r).feeds = s.feeds := by rw [handOverPlates_frame]
@[simp] theorem handOverPlates_supply (l : LoopId) (r : Returned) : (s.handOverPlates l r).supply = s.supply := by rw [handOverPlates_frame]
@[simp] theorem handOverPlates_directory (l : LoopId) (r : Returned) : (s.handOverPlates l r).directory = s.directory := by rw [handOverPlates_frame]
@[simp] theorem handOverPlates_contexts (l : LoopId) (r : Returned) : (s.handOverPlates l r).contexts = s.contexts := by rw [handOverPlates_frame]
@[simp] theorem handOverPlates_waiting (l : LoopId) (r : Returned) : (s.handOverPlates l r).waiting = s.waiting := by rw [handOverPlates_frame]
@[simp] theorem handOverPlates_entryCount (l : LoopId) (r : Returned) : (s.handOverPlates l r).entryCount = s.entryCount := by rw [handOverPlates_frame]
@[simp] theorem handOverPlates_routes (l : LoopId) (r : Returned) : (s.handOverPlates l r).routes = s.routes := by rw [handOverPlates_frame]
@[simp] theorem handOverPlates_plan (l : LoopId) (r : Returned) : (s.handOverPlates l r).plan = s.plan := by rw [handOverPlates_frame]
@[simp] theorem handOverPlates_trunkA (l : LoopId) (r : Returned) : (s.handOverPlates l r).trunkA = s.trunkA := by rw [handOverPlates_frame]
@[simp] theorem handOverPlates_trunkB (l : LoopId) (r : Returned) : (s.handOverPlates l r).trunkB = s.trunkB := by rw [handOverPlates_frame]
@[simp] theorem handOverPlates_paths (l : LoopId) (r : Returned) : (s.handOverPlates l r).paths = s.paths := by rw [handOverPlates_frame]
@[simp] theorem handOverPlates_samples (l : LoopId) (r : Returned) : (s.handOverPlates l r).samples = s.samples := by rw [handOverPlates_frame]
@[simp] theorem handOverPlates_segments (l : LoopId) (r : Returned) : (s.handOverPlates l r).segments = s.segments := by rw [handOverPlates_frame]
@[simp] theorem handOverPlates_players (l : LoopId) (r : Returned) : (s.handOverPlates l r).players = s.players := by rw [handOverPlates_frame]
@[simp] theorem handOverPlates_serviceA (l : LoopId) (r : Returned) : (s.handOverPlates l r).serviceA = s.serviceA := by rw [handOverPlates_frame]
@[simp] theorem handOverPlates_serviceB (l : LoopId) (r : Returned) : (s.handOverPlates l r).serviceB = s.serviceB := by rw [handOverPlates_frame]
@[simp] theorem handOverPlates_home (l : LoopId) (r : Returned) : (s.handOverPlates l r).home = s.home := by rw [handOverPlates_frame]
@[simp] theorem handOverPlates_settings (l : LoopId) (r : Returned) : (s.handOverPlates l r).settings = s.settings := by rw [handOverPlates_frame]
@[simp] theorem handOverPlates_sectionFault (l : LoopId) (r : Returned) : (s.handOverPlates l r).sectionFault = s.sectionFault := by rw [handOverPlates_frame]
@[simp] theorem handOverPlates_trunkFaultA (l : LoopId) (r : Returned) : (s.handOverPlates l r).trunkFaultA = s.trunkFaultA := by rw [handOverPlates_frame]
@[simp] theorem handOverPlates_trunkFaultB (l : LoopId) (r : Returned) : (s.handOverPlates l r).trunkFaultB = s.trunkFaultB := by rw [handOverPlates_frame]
@[simp] theorem handOverPlates_loopFaults (l : LoopId) (r : Returned) : (s.handOverPlates l r).loopFaults = s.loopFaults := by rw [handOverPlates_frame]
@[simp] theorem handOverPlates_postFaults (l : LoopId) (r : Returned) : (s.handOverPlates l r).postFaults = s.postFaults := by rw [handOverPlates_frame]
@[simp] theorem handOverPlates_testResults (l : LoopId) (r : Returned) : (s.handOverPlates l r).testResults = s.testResults := by rw [handOverPlates_frame]
@[simp] theorem handOverPlates_marks (l : LoopId) (r : Returned) : (s.handOverPlates l r).marks = s.marks := by rw [handOverPlates_frame]
@[simp] theorem handOverPlates_abandons (l : LoopId) (r : Returned) : (s.handOverPlates l r).abandons = s.abandons := by rw [handOverPlates_frame]
@[simp] theorem handOverPlates_abandonPosts (l : LoopId) (r : Returned) : (s.handOverPlates l r).abandonPosts = s.abandonPosts := by rw [handOverPlates_frame]
@[simp] theorem handOverPlates_mask (l : LoopId) (r : Returned) : (s.handOverPlates l r).mask = s.mask := by rw [handOverPlates_frame]
@[simp] theorem handOverPlates_ring (l : LoopId) (r : Returned) (j : LoopId) : (s.handOverPlates l r).ring j = s.ring j := by simp [ring]
@[simp] theorem handOverPlates_feed (l : LoopId) (r : Returned) (j : LoopId) : (s.handOverPlates l r).feed j = s.feed j := by simp [feed]
@[simp] theorem handOverPlates_record (l : LoopId) (r : Returned) (j : SlotId) : (s.handOverPlates l r).record j = s.record j := by simp [record]
@[simp] theorem handOverPlates_ctx (l : LoopId) (r : Returned) (j : CtxId) : (s.handOverPlates l r).ctx j = s.ctx j := by simp [ctx]
@[simp] theorem handOverPlates_trunk (l : LoopId) (r : Returned) (j : Trunk) : (s.handOverPlates l r).trunk j = s.trunk j := by cases j <;> simp [trunk]
@[simp] theorem handOverPlates_path (l : LoopId) (r : Returned) (j : CtxId) : (s.handOverPlates l r).path j = s.path j := by simp [path]
@[simp] theorem handOverPlates_player (l : LoopId) (r : Returned) (j : CtxId) : (s.handOverPlates l r).player j = s.player j := by simp [player]
@[simp] theorem handOverPlates_segment (l : LoopId) (r : Returned) (j : SegId) : (s.handOverPlates l r).segment j = s.segment j := by simp [segment]
@[simp] theorem handOverPlates_service (l : LoopId) (r : Returned) (j : Trunk) : (s.handOverPlates l r).service j = s.service j := by cases j <;> simp [service]
@[simp] theorem handOverPlates_param (l : LoopId) (r : Returned) (j : Fin 25) : (s.handOverPlates l r).param j = s.param j := by simp [param]

/-! ### markAttention -/

theorem markAttention_frame (l : LoopId) (on : Bool) : s.markAttention l on = { s with
    loops := (s.markAttention l on).loops } := by
  apply State.ext <;> first | with_reducible rfl | (simp [markAttention])
@[simp] theorem markAttention_pending (l : LoopId) (on : Bool) : (s.markAttention l on).pending = s.pending := by rw [markAttention_frame]
@[simp] theorem markAttention_handed (l : LoopId) (on : Bool) : (s.markAttention l on).handed = s.handed := by rw [markAttention_frame]
@[simp] theorem markAttention_rings (l : LoopId) (on : Bool) : (s.markAttention l on).rings = s.rings := by rw [markAttention_frame]
@[simp] theorem markAttention_feeds (l : LoopId) (on : Bool) : (s.markAttention l on).feeds = s.feeds := by rw [markAttention_frame]
@[simp] theorem markAttention_supply (l : LoopId) (on : Bool) : (s.markAttention l on).supply = s.supply := by rw [markAttention_frame]
@[simp] theorem markAttention_directory (l : LoopId) (on : Bool) : (s.markAttention l on).directory = s.directory := by rw [markAttention_frame]
@[simp] theorem markAttention_contexts (l : LoopId) (on : Bool) : (s.markAttention l on).contexts = s.contexts := by rw [markAttention_frame]
@[simp] theorem markAttention_waiting (l : LoopId) (on : Bool) : (s.markAttention l on).waiting = s.waiting := by rw [markAttention_frame]
@[simp] theorem markAttention_entryCount (l : LoopId) (on : Bool) : (s.markAttention l on).entryCount = s.entryCount := by rw [markAttention_frame]
@[simp] theorem markAttention_routes (l : LoopId) (on : Bool) : (s.markAttention l on).routes = s.routes := by rw [markAttention_frame]
@[simp] theorem markAttention_plan (l : LoopId) (on : Bool) : (s.markAttention l on).plan = s.plan := by rw [markAttention_frame]
@[simp] theorem markAttention_trunkA (l : LoopId) (on : Bool) : (s.markAttention l on).trunkA = s.trunkA := by rw [markAttention_frame]
@[simp] theorem markAttention_trunkB (l : LoopId) (on : Bool) : (s.markAttention l on).trunkB = s.trunkB := by rw [markAttention_frame]
@[simp] theorem markAttention_paths (l : LoopId) (on : Bool) : (s.markAttention l on).paths = s.paths := by rw [markAttention_frame]
@[simp] theorem markAttention_samples (l : LoopId) (on : Bool) : (s.markAttention l on).samples = s.samples := by rw [markAttention_frame]
@[simp] theorem markAttention_segments (l : LoopId) (on : Bool) : (s.markAttention l on).segments = s.segments := by rw [markAttention_frame]
@[simp] theorem markAttention_players (l : LoopId) (on : Bool) : (s.markAttention l on).players = s.players := by rw [markAttention_frame]
@[simp] theorem markAttention_serviceA (l : LoopId) (on : Bool) : (s.markAttention l on).serviceA = s.serviceA := by rw [markAttention_frame]
@[simp] theorem markAttention_serviceB (l : LoopId) (on : Bool) : (s.markAttention l on).serviceB = s.serviceB := by rw [markAttention_frame]
@[simp] theorem markAttention_home (l : LoopId) (on : Bool) : (s.markAttention l on).home = s.home := by rw [markAttention_frame]
@[simp] theorem markAttention_settings (l : LoopId) (on : Bool) : (s.markAttention l on).settings = s.settings := by rw [markAttention_frame]
@[simp] theorem markAttention_sectionFault (l : LoopId) (on : Bool) : (s.markAttention l on).sectionFault = s.sectionFault := by rw [markAttention_frame]
@[simp] theorem markAttention_trunkFaultA (l : LoopId) (on : Bool) : (s.markAttention l on).trunkFaultA = s.trunkFaultA := by rw [markAttention_frame]
@[simp] theorem markAttention_trunkFaultB (l : LoopId) (on : Bool) : (s.markAttention l on).trunkFaultB = s.trunkFaultB := by rw [markAttention_frame]
@[simp] theorem markAttention_loopFaults (l : LoopId) (on : Bool) : (s.markAttention l on).loopFaults = s.loopFaults := by rw [markAttention_frame]
@[simp] theorem markAttention_postFaults (l : LoopId) (on : Bool) : (s.markAttention l on).postFaults = s.postFaults := by rw [markAttention_frame]
@[simp] theorem markAttention_testResults (l : LoopId) (on : Bool) : (s.markAttention l on).testResults = s.testResults := by rw [markAttention_frame]
@[simp] theorem markAttention_marks (l : LoopId) (on : Bool) : (s.markAttention l on).marks = s.marks := by rw [markAttention_frame]
@[simp] theorem markAttention_abandons (l : LoopId) (on : Bool) : (s.markAttention l on).abandons = s.abandons := by rw [markAttention_frame]
@[simp] theorem markAttention_abandonPosts (l : LoopId) (on : Bool) : (s.markAttention l on).abandonPosts = s.abandonPosts := by rw [markAttention_frame]
@[simp] theorem markAttention_mask (l : LoopId) (on : Bool) : (s.markAttention l on).mask = s.mask := by rw [markAttention_frame]
@[simp] theorem markAttention_ring (l : LoopId) (on : Bool) (j : LoopId) : (s.markAttention l on).ring j = s.ring j := by simp [ring]
@[simp] theorem markAttention_feed (l : LoopId) (on : Bool) (j : LoopId) : (s.markAttention l on).feed j = s.feed j := by simp [feed]
@[simp] theorem markAttention_record (l : LoopId) (on : Bool) (j : SlotId) : (s.markAttention l on).record j = s.record j := by simp [record]
@[simp] theorem markAttention_ctx (l : LoopId) (on : Bool) (j : CtxId) : (s.markAttention l on).ctx j = s.ctx j := by simp [ctx]
@[simp] theorem markAttention_trunk (l : LoopId) (on : Bool) (j : Trunk) : (s.markAttention l on).trunk j = s.trunk j := by cases j <;> simp [trunk]
@[simp] theorem markAttention_path (l : LoopId) (on : Bool) (j : CtxId) : (s.markAttention l on).path j = s.path j := by simp [path]
@[simp] theorem markAttention_player (l : LoopId) (on : Bool) (j : CtxId) : (s.markAttention l on).player j = s.player j := by simp [player]
@[simp] theorem markAttention_segment (l : LoopId) (on : Bool) (j : SegId) : (s.markAttention l on).segment j = s.segment j := by simp [segment]
@[simp] theorem markAttention_service (l : LoopId) (on : Bool) (j : Trunk) : (s.markAttention l on).service j = s.service j := by cases j <;> simp [service]
@[simp] theorem markAttention_param (l : LoopId) (on : Bool) (j : Fin 25) : (s.markAttention l on).param j = s.param j := by simp [param]

/-! ### goodCount -/

theorem goodCount_frame (l : LoopId) : s.goodCount l = { s with
    loops := (s.goodCount l).loops
    handed := (s.goodCount l).handed } := by
  apply State.ext <;> first | with_reducible rfl | (unfold goodCount; dsimp only; (repeat' split) <;> simp)
@[simp] theorem goodCount_pending (l : LoopId) : (s.goodCount l).pending = s.pending := by rw [goodCount_frame]
@[simp] theorem goodCount_rings (l : LoopId) : (s.goodCount l).rings = s.rings := by rw [goodCount_frame]
@[simp] theorem goodCount_feeds (l : LoopId) : (s.goodCount l).feeds = s.feeds := by rw [goodCount_frame]
@[simp] theorem goodCount_supply (l : LoopId) : (s.goodCount l).supply = s.supply := by rw [goodCount_frame]
@[simp] theorem goodCount_directory (l : LoopId) : (s.goodCount l).directory = s.directory := by rw [goodCount_frame]
@[simp] theorem goodCount_contexts (l : LoopId) : (s.goodCount l).contexts = s.contexts := by rw [goodCount_frame]
@[simp] theorem goodCount_waiting (l : LoopId) : (s.goodCount l).waiting = s.waiting := by rw [goodCount_frame]
@[simp] theorem goodCount_entryCount (l : LoopId) : (s.goodCount l).entryCount = s.entryCount := by rw [goodCount_frame]
@[simp] theorem goodCount_routes (l : LoopId) : (s.goodCount l).routes = s.routes := by rw [goodCount_frame]
@[simp] theorem goodCount_plan (l : LoopId) : (s.goodCount l).plan = s.plan := by rw [goodCount_frame]
@[simp] theorem goodCount_trunkA (l : LoopId) : (s.goodCount l).trunkA = s.trunkA := by rw [goodCount_frame]
@[simp] theorem goodCount_trunkB (l : LoopId) : (s.goodCount l).trunkB = s.trunkB := by rw [goodCount_frame]
@[simp] theorem goodCount_paths (l : LoopId) : (s.goodCount l).paths = s.paths := by rw [goodCount_frame]
@[simp] theorem goodCount_samples (l : LoopId) : (s.goodCount l).samples = s.samples := by rw [goodCount_frame]
@[simp] theorem goodCount_segments (l : LoopId) : (s.goodCount l).segments = s.segments := by rw [goodCount_frame]
@[simp] theorem goodCount_players (l : LoopId) : (s.goodCount l).players = s.players := by rw [goodCount_frame]
@[simp] theorem goodCount_serviceA (l : LoopId) : (s.goodCount l).serviceA = s.serviceA := by rw [goodCount_frame]
@[simp] theorem goodCount_serviceB (l : LoopId) : (s.goodCount l).serviceB = s.serviceB := by rw [goodCount_frame]
@[simp] theorem goodCount_home (l : LoopId) : (s.goodCount l).home = s.home := by rw [goodCount_frame]
@[simp] theorem goodCount_settings (l : LoopId) : (s.goodCount l).settings = s.settings := by rw [goodCount_frame]
@[simp] theorem goodCount_sectionFault (l : LoopId) : (s.goodCount l).sectionFault = s.sectionFault := by rw [goodCount_frame]
@[simp] theorem goodCount_trunkFaultA (l : LoopId) : (s.goodCount l).trunkFaultA = s.trunkFaultA := by rw [goodCount_frame]
@[simp] theorem goodCount_trunkFaultB (l : LoopId) : (s.goodCount l).trunkFaultB = s.trunkFaultB := by rw [goodCount_frame]
@[simp] theorem goodCount_loopFaults (l : LoopId) : (s.goodCount l).loopFaults = s.loopFaults := by rw [goodCount_frame]
@[simp] theorem goodCount_postFaults (l : LoopId) : (s.goodCount l).postFaults = s.postFaults := by rw [goodCount_frame]
@[simp] theorem goodCount_testResults (l : LoopId) : (s.goodCount l).testResults = s.testResults := by rw [goodCount_frame]
@[simp] theorem goodCount_marks (l : LoopId) : (s.goodCount l).marks = s.marks := by rw [goodCount_frame]
@[simp] theorem goodCount_abandons (l : LoopId) : (s.goodCount l).abandons = s.abandons := by rw [goodCount_frame]
@[simp] theorem goodCount_abandonPosts (l : LoopId) : (s.goodCount l).abandonPosts = s.abandonPosts := by rw [goodCount_frame]
@[simp] theorem goodCount_mask (l : LoopId) : (s.goodCount l).mask = s.mask := by rw [goodCount_frame]
@[simp] theorem goodCount_ring (l : LoopId) (j : LoopId) : (s.goodCount l).ring j = s.ring j := by simp [ring]
@[simp] theorem goodCount_feed (l : LoopId) (j : LoopId) : (s.goodCount l).feed j = s.feed j := by simp [feed]
@[simp] theorem goodCount_record (l : LoopId) (j : SlotId) : (s.goodCount l).record j = s.record j := by simp [record]
@[simp] theorem goodCount_ctx (l : LoopId) (j : CtxId) : (s.goodCount l).ctx j = s.ctx j := by simp [ctx]
@[simp] theorem goodCount_trunk (l : LoopId) (j : Trunk) : (s.goodCount l).trunk j = s.trunk j := by cases j <;> simp [trunk]
@[simp] theorem goodCount_path (l : LoopId) (j : CtxId) : (s.goodCount l).path j = s.path j := by simp [path]
@[simp] theorem goodCount_player (l : LoopId) (j : CtxId) : (s.goodCount l).player j = s.player j := by simp [player]
@[simp] theorem goodCount_segment (l : LoopId) (j : SegId) : (s.goodCount l).segment j = s.segment j := by simp [segment]
@[simp] theorem goodCount_service (l : LoopId) (j : Trunk) : (s.goodCount l).service j = s.service j := by cases j <;> simp [service]
@[simp] theorem goodCount_param (l : LoopId) (j : Fin 25) : (s.goodCount l).param j = s.param j := by simp [param]

/-! ### goodScan -/

theorem goodScan_frame (l : LoopId) (f : Flight) (r : Returned) : s.goodScan l f r = { s with
    loops := (s.goodScan l f r).loops
    testResults := (s.goodScan l f r).testResults
    handed := (s.goodScan l f r).handed } := by
  apply State.ext <;> first | with_reducible rfl | (unfold goodScan; dsimp only; (repeat' split) <;> simp)
@[simp] theorem goodScan_pending (l : LoopId) (f : Flight) (r : Returned) : (s.goodScan l f r).pending = s.pending := by rw [goodScan_frame]
@[simp] theorem goodScan_rings (l : LoopId) (f : Flight) (r : Returned) : (s.goodScan l f r).rings = s.rings := by rw [goodScan_frame]
@[simp] theorem goodScan_feeds (l : LoopId) (f : Flight) (r : Returned) : (s.goodScan l f r).feeds = s.feeds := by rw [goodScan_frame]
@[simp] theorem goodScan_supply (l : LoopId) (f : Flight) (r : Returned) : (s.goodScan l f r).supply = s.supply := by rw [goodScan_frame]
@[simp] theorem goodScan_directory (l : LoopId) (f : Flight) (r : Returned) : (s.goodScan l f r).directory = s.directory := by rw [goodScan_frame]
@[simp] theorem goodScan_contexts (l : LoopId) (f : Flight) (r : Returned) : (s.goodScan l f r).contexts = s.contexts := by rw [goodScan_frame]
@[simp] theorem goodScan_waiting (l : LoopId) (f : Flight) (r : Returned) : (s.goodScan l f r).waiting = s.waiting := by rw [goodScan_frame]
@[simp] theorem goodScan_entryCount (l : LoopId) (f : Flight) (r : Returned) : (s.goodScan l f r).entryCount = s.entryCount := by rw [goodScan_frame]
@[simp] theorem goodScan_routes (l : LoopId) (f : Flight) (r : Returned) : (s.goodScan l f r).routes = s.routes := by rw [goodScan_frame]
@[simp] theorem goodScan_plan (l : LoopId) (f : Flight) (r : Returned) : (s.goodScan l f r).plan = s.plan := by rw [goodScan_frame]
@[simp] theorem goodScan_trunkA (l : LoopId) (f : Flight) (r : Returned) : (s.goodScan l f r).trunkA = s.trunkA := by rw [goodScan_frame]
@[simp] theorem goodScan_trunkB (l : LoopId) (f : Flight) (r : Returned) : (s.goodScan l f r).trunkB = s.trunkB := by rw [goodScan_frame]
@[simp] theorem goodScan_paths (l : LoopId) (f : Flight) (r : Returned) : (s.goodScan l f r).paths = s.paths := by rw [goodScan_frame]
@[simp] theorem goodScan_samples (l : LoopId) (f : Flight) (r : Returned) : (s.goodScan l f r).samples = s.samples := by rw [goodScan_frame]
@[simp] theorem goodScan_segments (l : LoopId) (f : Flight) (r : Returned) : (s.goodScan l f r).segments = s.segments := by rw [goodScan_frame]
@[simp] theorem goodScan_players (l : LoopId) (f : Flight) (r : Returned) : (s.goodScan l f r).players = s.players := by rw [goodScan_frame]
@[simp] theorem goodScan_serviceA (l : LoopId) (f : Flight) (r : Returned) : (s.goodScan l f r).serviceA = s.serviceA := by rw [goodScan_frame]
@[simp] theorem goodScan_serviceB (l : LoopId) (f : Flight) (r : Returned) : (s.goodScan l f r).serviceB = s.serviceB := by rw [goodScan_frame]
@[simp] theorem goodScan_home (l : LoopId) (f : Flight) (r : Returned) : (s.goodScan l f r).home = s.home := by rw [goodScan_frame]
@[simp] theorem goodScan_settings (l : LoopId) (f : Flight) (r : Returned) : (s.goodScan l f r).settings = s.settings := by rw [goodScan_frame]
@[simp] theorem goodScan_sectionFault (l : LoopId) (f : Flight) (r : Returned) : (s.goodScan l f r).sectionFault = s.sectionFault := by rw [goodScan_frame]
@[simp] theorem goodScan_trunkFaultA (l : LoopId) (f : Flight) (r : Returned) : (s.goodScan l f r).trunkFaultA = s.trunkFaultA := by rw [goodScan_frame]
@[simp] theorem goodScan_trunkFaultB (l : LoopId) (f : Flight) (r : Returned) : (s.goodScan l f r).trunkFaultB = s.trunkFaultB := by rw [goodScan_frame]
@[simp] theorem goodScan_loopFaults (l : LoopId) (f : Flight) (r : Returned) : (s.goodScan l f r).loopFaults = s.loopFaults := by rw [goodScan_frame]
@[simp] theorem goodScan_postFaults (l : LoopId) (f : Flight) (r : Returned) : (s.goodScan l f r).postFaults = s.postFaults := by rw [goodScan_frame]
@[simp] theorem goodScan_marks (l : LoopId) (f : Flight) (r : Returned) : (s.goodScan l f r).marks = s.marks := by rw [goodScan_frame]
@[simp] theorem goodScan_abandons (l : LoopId) (f : Flight) (r : Returned) : (s.goodScan l f r).abandons = s.abandons := by rw [goodScan_frame]
@[simp] theorem goodScan_abandonPosts (l : LoopId) (f : Flight) (r : Returned) : (s.goodScan l f r).abandonPosts = s.abandonPosts := by rw [goodScan_frame]
@[simp] theorem goodScan_mask (l : LoopId) (f : Flight) (r : Returned) : (s.goodScan l f r).mask = s.mask := by rw [goodScan_frame]
@[simp] theorem goodScan_ring (l : LoopId) (f : Flight) (r : Returned) (j : LoopId) : (s.goodScan l f r).ring j = s.ring j := by simp [ring]
@[simp] theorem goodScan_feed (l : LoopId) (f : Flight) (r : Returned) (j : LoopId) : (s.goodScan l f r).feed j = s.feed j := by simp [feed]
@[simp] theorem goodScan_record (l : LoopId) (f : Flight) (r : Returned) (j : SlotId) : (s.goodScan l f r).record j = s.record j := by simp [record]
@[simp] theorem goodScan_ctx (l : LoopId) (f : Flight) (r : Returned) (j : CtxId) : (s.goodScan l f r).ctx j = s.ctx j := by simp [ctx]
@[simp] theorem goodScan_trunk (l : LoopId) (f : Flight) (r : Returned) (j : Trunk) : (s.goodScan l f r).trunk j = s.trunk j := by cases j <;> simp [trunk]
@[simp] theorem goodScan_path (l : LoopId) (f : Flight) (r : Returned) (j : CtxId) : (s.goodScan l f r).path j = s.path j := by simp [path]
@[simp] theorem goodScan_player (l : LoopId) (f : Flight) (r : Returned) (j : CtxId) : (s.goodScan l f r).player j = s.player j := by simp [player]
@[simp] theorem goodScan_segment (l : LoopId) (f : Flight) (r : Returned) (j : SegId) : (s.goodScan l f r).segment j = s.segment j := by simp [segment]
@[simp] theorem goodScan_service (l : LoopId) (f : Flight) (r : Returned) (j : Trunk) : (s.goodScan l f r).service j = s.service j := by cases j <;> simp [service]
@[simp] theorem goodScan_param (l : LoopId) (f : Flight) (r : Returned) (j : Fin 25) : (s.goodScan l f r).param j = s.param j := by simp [param]

/-! ### goodReturn -/

theorem goodReturn_frame (l : LoopId) (f : Flight) (r : Returned) : s.goodReturn l f r = { s with
    loops := (s.goodReturn l f r).loops
    testResults := (s.goodReturn l f r).testResults
    handed := (s.goodReturn l f r).handed } := by
  apply State.ext <;> first | with_reducible rfl | (unfold goodReturn; dsimp only; (repeat' split) <;> simp)
@[simp] theorem goodReturn_pending (l : LoopId) (f : Flight) (r : Returned) : (s.goodReturn l f r).pending = s.pending := by rw [goodReturn_frame]
@[simp] theorem goodReturn_rings (l : LoopId) (f : Flight) (r : Returned) : (s.goodReturn l f r).rings = s.rings := by rw [goodReturn_frame]
@[simp] theorem goodReturn_feeds (l : LoopId) (f : Flight) (r : Returned) : (s.goodReturn l f r).feeds = s.feeds := by rw [goodReturn_frame]
@[simp] theorem goodReturn_supply (l : LoopId) (f : Flight) (r : Returned) : (s.goodReturn l f r).supply = s.supply := by rw [goodReturn_frame]
@[simp] theorem goodReturn_directory (l : LoopId) (f : Flight) (r : Returned) : (s.goodReturn l f r).directory = s.directory := by rw [goodReturn_frame]
@[simp] theorem goodReturn_contexts (l : LoopId) (f : Flight) (r : Returned) : (s.goodReturn l f r).contexts = s.contexts := by rw [goodReturn_frame]
@[simp] theorem goodReturn_waiting (l : LoopId) (f : Flight) (r : Returned) : (s.goodReturn l f r).waiting = s.waiting := by rw [goodReturn_frame]
@[simp] theorem goodReturn_entryCount (l : LoopId) (f : Flight) (r : Returned) : (s.goodReturn l f r).entryCount = s.entryCount := by rw [goodReturn_frame]
@[simp] theorem goodReturn_routes (l : LoopId) (f : Flight) (r : Returned) : (s.goodReturn l f r).routes = s.routes := by rw [goodReturn_frame]
@[simp] theorem goodReturn_plan (l : LoopId) (f : Flight) (r : Returned) : (s.goodReturn l f r).plan = s.plan := by rw [goodReturn_frame]
@[simp] theorem goodReturn_trunkA (l : LoopId) (f : Flight) (r : Returned) : (s.goodReturn l f r).trunkA = s.trunkA := by rw [goodReturn_frame]
@[simp] theorem goodReturn_trunkB (l : LoopId) (f : Flight) (r : Returned) : (s.goodReturn l f r).trunkB = s.trunkB := by rw [goodReturn_frame]
@[simp] theorem goodReturn_paths (l : LoopId) (f : Flight) (r : Returned) : (s.goodReturn l f r).paths = s.paths := by rw [goodReturn_frame]
@[simp] theorem goodReturn_samples (l : LoopId) (f : Flight) (r : Returned) : (s.goodReturn l f r).samples = s.samples := by rw [goodReturn_frame]
@[simp] theorem goodReturn_segments (l : LoopId) (f : Flight) (r : Returned) : (s.goodReturn l f r).segments = s.segments := by rw [goodReturn_frame]
@[simp] theorem goodReturn_players (l : LoopId) (f : Flight) (r : Returned) : (s.goodReturn l f r).players = s.players := by rw [goodReturn_frame]
@[simp] theorem goodReturn_serviceA (l : LoopId) (f : Flight) (r : Returned) : (s.goodReturn l f r).serviceA = s.serviceA := by rw [goodReturn_frame]
@[simp] theorem goodReturn_serviceB (l : LoopId) (f : Flight) (r : Returned) : (s.goodReturn l f r).serviceB = s.serviceB := by rw [goodReturn_frame]
@[simp] theorem goodReturn_home (l : LoopId) (f : Flight) (r : Returned) : (s.goodReturn l f r).home = s.home := by rw [goodReturn_frame]
@[simp] theorem goodReturn_settings (l : LoopId) (f : Flight) (r : Returned) : (s.goodReturn l f r).settings = s.settings := by rw [goodReturn_frame]
@[simp] theorem goodReturn_sectionFault (l : LoopId) (f : Flight) (r : Returned) : (s.goodReturn l f r).sectionFault = s.sectionFault := by rw [goodReturn_frame]
@[simp] theorem goodReturn_trunkFaultA (l : LoopId) (f : Flight) (r : Returned) : (s.goodReturn l f r).trunkFaultA = s.trunkFaultA := by rw [goodReturn_frame]
@[simp] theorem goodReturn_trunkFaultB (l : LoopId) (f : Flight) (r : Returned) : (s.goodReturn l f r).trunkFaultB = s.trunkFaultB := by rw [goodReturn_frame]
@[simp] theorem goodReturn_loopFaults (l : LoopId) (f : Flight) (r : Returned) : (s.goodReturn l f r).loopFaults = s.loopFaults := by rw [goodReturn_frame]
@[simp] theorem goodReturn_postFaults (l : LoopId) (f : Flight) (r : Returned) : (s.goodReturn l f r).postFaults = s.postFaults := by rw [goodReturn_frame]
@[simp] theorem goodReturn_marks (l : LoopId) (f : Flight) (r : Returned) : (s.goodReturn l f r).marks = s.marks := by rw [goodReturn_frame]
@[simp] theorem goodReturn_abandons (l : LoopId) (f : Flight) (r : Returned) : (s.goodReturn l f r).abandons = s.abandons := by rw [goodReturn_frame]
@[simp] theorem goodReturn_abandonPosts (l : LoopId) (f : Flight) (r : Returned) : (s.goodReturn l f r).abandonPosts = s.abandonPosts := by rw [goodReturn_frame]
@[simp] theorem goodReturn_mask (l : LoopId) (f : Flight) (r : Returned) : (s.goodReturn l f r).mask = s.mask := by rw [goodReturn_frame]
@[simp] theorem goodReturn_ring (l : LoopId) (f : Flight) (r : Returned) (j : LoopId) : (s.goodReturn l f r).ring j = s.ring j := by simp [ring]
@[simp] theorem goodReturn_feed (l : LoopId) (f : Flight) (r : Returned) (j : LoopId) : (s.goodReturn l f r).feed j = s.feed j := by simp [feed]
@[simp] theorem goodReturn_record (l : LoopId) (f : Flight) (r : Returned) (j : SlotId) : (s.goodReturn l f r).record j = s.record j := by simp [record]
@[simp] theorem goodReturn_ctx (l : LoopId) (f : Flight) (r : Returned) (j : CtxId) : (s.goodReturn l f r).ctx j = s.ctx j := by simp [ctx]
@[simp] theorem goodReturn_trunk (l : LoopId) (f : Flight) (r : Returned) (j : Trunk) : (s.goodReturn l f r).trunk j = s.trunk j := by cases j <;> simp [trunk]
@[simp] theorem goodReturn_path (l : LoopId) (f : Flight) (r : Returned) (j : CtxId) : (s.goodReturn l f r).path j = s.path j := by simp [path]
@[simp] theorem goodReturn_player (l : LoopId) (f : Flight) (r : Returned) (j : CtxId) : (s.goodReturn l f r).player j = s.player j := by simp [player]
@[simp] theorem goodReturn_segment (l : LoopId) (f : Flight) (r : Returned) (j : SegId) : (s.goodReturn l f r).segment j = s.segment j := by simp [segment]
@[simp] theorem goodReturn_service (l : LoopId) (f : Flight) (r : Returned) (j : Trunk) : (s.goodReturn l f r).service j = s.service j := by cases j <;> simp [service]
@[simp] theorem goodReturn_param (l : LoopId) (f : Flight) (r : Returned) (j : Fin 25) : (s.goodReturn l f r).param j = s.param j := by simp [param]

/-! ### completeScan -/

theorem completeScan_frame (l : LoopId) (f : Flight) (rx : List Byte) : s.completeScan l f rx = { s with
    loops := (s.completeScan l f rx).loops
    testResults := (s.completeScan l f rx).testResults
    handed := (s.completeScan l f rx).handed } := by
  apply State.ext <;> first | with_reducible rfl | (unfold completeScan; dsimp only; (repeat' split) <;> simp)
@[simp] theorem completeScan_pending (l : LoopId) (f : Flight) (rx : List Byte) : (s.completeScan l f rx).pending = s.pending := by rw [completeScan_frame]
@[simp] theorem completeScan_rings (l : LoopId) (f : Flight) (rx : List Byte) : (s.completeScan l f rx).rings = s.rings := by rw [completeScan_frame]
@[simp] theorem completeScan_feeds (l : LoopId) (f : Flight) (rx : List Byte) : (s.completeScan l f rx).feeds = s.feeds := by rw [completeScan_frame]
@[simp] theorem completeScan_supply (l : LoopId) (f : Flight) (rx : List Byte) : (s.completeScan l f rx).supply = s.supply := by rw [completeScan_frame]
@[simp] theorem completeScan_directory (l : LoopId) (f : Flight) (rx : List Byte) : (s.completeScan l f rx).directory = s.directory := by rw [completeScan_frame]
@[simp] theorem completeScan_contexts (l : LoopId) (f : Flight) (rx : List Byte) : (s.completeScan l f rx).contexts = s.contexts := by rw [completeScan_frame]
@[simp] theorem completeScan_waiting (l : LoopId) (f : Flight) (rx : List Byte) : (s.completeScan l f rx).waiting = s.waiting := by rw [completeScan_frame]
@[simp] theorem completeScan_entryCount (l : LoopId) (f : Flight) (rx : List Byte) : (s.completeScan l f rx).entryCount = s.entryCount := by rw [completeScan_frame]
@[simp] theorem completeScan_routes (l : LoopId) (f : Flight) (rx : List Byte) : (s.completeScan l f rx).routes = s.routes := by rw [completeScan_frame]
@[simp] theorem completeScan_plan (l : LoopId) (f : Flight) (rx : List Byte) : (s.completeScan l f rx).plan = s.plan := by rw [completeScan_frame]
@[simp] theorem completeScan_trunkA (l : LoopId) (f : Flight) (rx : List Byte) : (s.completeScan l f rx).trunkA = s.trunkA := by rw [completeScan_frame]
@[simp] theorem completeScan_trunkB (l : LoopId) (f : Flight) (rx : List Byte) : (s.completeScan l f rx).trunkB = s.trunkB := by rw [completeScan_frame]
@[simp] theorem completeScan_paths (l : LoopId) (f : Flight) (rx : List Byte) : (s.completeScan l f rx).paths = s.paths := by rw [completeScan_frame]
@[simp] theorem completeScan_samples (l : LoopId) (f : Flight) (rx : List Byte) : (s.completeScan l f rx).samples = s.samples := by rw [completeScan_frame]
@[simp] theorem completeScan_segments (l : LoopId) (f : Flight) (rx : List Byte) : (s.completeScan l f rx).segments = s.segments := by rw [completeScan_frame]
@[simp] theorem completeScan_players (l : LoopId) (f : Flight) (rx : List Byte) : (s.completeScan l f rx).players = s.players := by rw [completeScan_frame]
@[simp] theorem completeScan_serviceA (l : LoopId) (f : Flight) (rx : List Byte) : (s.completeScan l f rx).serviceA = s.serviceA := by rw [completeScan_frame]
@[simp] theorem completeScan_serviceB (l : LoopId) (f : Flight) (rx : List Byte) : (s.completeScan l f rx).serviceB = s.serviceB := by rw [completeScan_frame]
@[simp] theorem completeScan_home (l : LoopId) (f : Flight) (rx : List Byte) : (s.completeScan l f rx).home = s.home := by rw [completeScan_frame]
@[simp] theorem completeScan_settings (l : LoopId) (f : Flight) (rx : List Byte) : (s.completeScan l f rx).settings = s.settings := by rw [completeScan_frame]
@[simp] theorem completeScan_sectionFault (l : LoopId) (f : Flight) (rx : List Byte) : (s.completeScan l f rx).sectionFault = s.sectionFault := by rw [completeScan_frame]
@[simp] theorem completeScan_trunkFaultA (l : LoopId) (f : Flight) (rx : List Byte) : (s.completeScan l f rx).trunkFaultA = s.trunkFaultA := by rw [completeScan_frame]
@[simp] theorem completeScan_trunkFaultB (l : LoopId) (f : Flight) (rx : List Byte) : (s.completeScan l f rx).trunkFaultB = s.trunkFaultB := by rw [completeScan_frame]
@[simp] theorem completeScan_loopFaults (l : LoopId) (f : Flight) (rx : List Byte) : (s.completeScan l f rx).loopFaults = s.loopFaults := by rw [completeScan_frame]
@[simp] theorem completeScan_postFaults (l : LoopId) (f : Flight) (rx : List Byte) : (s.completeScan l f rx).postFaults = s.postFaults := by rw [completeScan_frame]
@[simp] theorem completeScan_marks (l : LoopId) (f : Flight) (rx : List Byte) : (s.completeScan l f rx).marks = s.marks := by rw [completeScan_frame]
@[simp] theorem completeScan_abandons (l : LoopId) (f : Flight) (rx : List Byte) : (s.completeScan l f rx).abandons = s.abandons := by rw [completeScan_frame]
@[simp] theorem completeScan_abandonPosts (l : LoopId) (f : Flight) (rx : List Byte) : (s.completeScan l f rx).abandonPosts = s.abandonPosts := by rw [completeScan_frame]
@[simp] theorem completeScan_mask (l : LoopId) (f : Flight) (rx : List Byte) : (s.completeScan l f rx).mask = s.mask := by rw [completeScan_frame]
@[simp] theorem completeScan_ring (l : LoopId) (f : Flight) (rx : List Byte) (j : LoopId) : (s.completeScan l f rx).ring j = s.ring j := by simp [ring]
@[simp] theorem completeScan_feed (l : LoopId) (f : Flight) (rx : List Byte) (j : LoopId) : (s.completeScan l f rx).feed j = s.feed j := by simp [feed]
@[simp] theorem completeScan_record (l : LoopId) (f : Flight) (rx : List Byte) (j : SlotId) : (s.completeScan l f rx).record j = s.record j := by simp [record]
@[simp] theorem completeScan_ctx (l : LoopId) (f : Flight) (rx : List Byte) (j : CtxId) : (s.completeScan l f rx).ctx j = s.ctx j := by simp [ctx]
@[simp] theorem completeScan_trunk (l : LoopId) (f : Flight) (rx : List Byte) (j : Trunk) : (s.completeScan l f rx).trunk j = s.trunk j := by cases j <;> simp [trunk]
@[simp] theorem completeScan_path (l : LoopId) (f : Flight) (rx : List Byte) (j : CtxId) : (s.completeScan l f rx).path j = s.path j := by simp [path]
@[simp] theorem completeScan_player (l : LoopId) (f : Flight) (rx : List Byte) (j : CtxId) : (s.completeScan l f rx).player j = s.player j := by simp [player]
@[simp] theorem completeScan_segment (l : LoopId) (f : Flight) (rx : List Byte) (j : SegId) : (s.completeScan l f rx).segment j = s.segment j := by simp [segment]
@[simp] theorem completeScan_service (l : LoopId) (f : Flight) (rx : List Byte) (j : Trunk) : (s.completeScan l f rx).service j = s.service j := by cases j <;> simp [service]
@[simp] theorem completeScan_param (l : LoopId) (f : Flight) (rx : List Byte) (j : Fin 25) : (s.completeScan l f rx).param j = s.param j := by simp [param]

/-! ### latchIf -/

theorem latchIf_frame (c : Bool) (x : Latch) : s.latchIf c x = { s with
    handed := (s.latchIf c x).handed } := by
  apply State.ext <;> first | with_reducible rfl | (unfold latchIf; dsimp only; (repeat' split) <;> simp)
@[simp] theorem latchIf_pending (c : Bool) (x : Latch) : (s.latchIf c x).pending = s.pending := by rw [latchIf_frame]
@[simp] theorem latchIf_loops (c : Bool) (x : Latch) : (s.latchIf c x).loops = s.loops := by rw [latchIf_frame]
@[simp] theorem latchIf_rings (c : Bool) (x : Latch) : (s.latchIf c x).rings = s.rings := by rw [latchIf_frame]
@[simp] theorem latchIf_feeds (c : Bool) (x : Latch) : (s.latchIf c x).feeds = s.feeds := by rw [latchIf_frame]
@[simp] theorem latchIf_supply (c : Bool) (x : Latch) : (s.latchIf c x).supply = s.supply := by rw [latchIf_frame]
@[simp] theorem latchIf_directory (c : Bool) (x : Latch) : (s.latchIf c x).directory = s.directory := by rw [latchIf_frame]
@[simp] theorem latchIf_contexts (c : Bool) (x : Latch) : (s.latchIf c x).contexts = s.contexts := by rw [latchIf_frame]
@[simp] theorem latchIf_waiting (c : Bool) (x : Latch) : (s.latchIf c x).waiting = s.waiting := by rw [latchIf_frame]
@[simp] theorem latchIf_entryCount (c : Bool) (x : Latch) : (s.latchIf c x).entryCount = s.entryCount := by rw [latchIf_frame]
@[simp] theorem latchIf_routes (c : Bool) (x : Latch) : (s.latchIf c x).routes = s.routes := by rw [latchIf_frame]
@[simp] theorem latchIf_plan (c : Bool) (x : Latch) : (s.latchIf c x).plan = s.plan := by rw [latchIf_frame]
@[simp] theorem latchIf_trunkA (c : Bool) (x : Latch) : (s.latchIf c x).trunkA = s.trunkA := by rw [latchIf_frame]
@[simp] theorem latchIf_trunkB (c : Bool) (x : Latch) : (s.latchIf c x).trunkB = s.trunkB := by rw [latchIf_frame]
@[simp] theorem latchIf_paths (c : Bool) (x : Latch) : (s.latchIf c x).paths = s.paths := by rw [latchIf_frame]
@[simp] theorem latchIf_samples (c : Bool) (x : Latch) : (s.latchIf c x).samples = s.samples := by rw [latchIf_frame]
@[simp] theorem latchIf_segments (c : Bool) (x : Latch) : (s.latchIf c x).segments = s.segments := by rw [latchIf_frame]
@[simp] theorem latchIf_players (c : Bool) (x : Latch) : (s.latchIf c x).players = s.players := by rw [latchIf_frame]
@[simp] theorem latchIf_serviceA (c : Bool) (x : Latch) : (s.latchIf c x).serviceA = s.serviceA := by rw [latchIf_frame]
@[simp] theorem latchIf_serviceB (c : Bool) (x : Latch) : (s.latchIf c x).serviceB = s.serviceB := by rw [latchIf_frame]
@[simp] theorem latchIf_home (c : Bool) (x : Latch) : (s.latchIf c x).home = s.home := by rw [latchIf_frame]
@[simp] theorem latchIf_settings (c : Bool) (x : Latch) : (s.latchIf c x).settings = s.settings := by rw [latchIf_frame]
@[simp] theorem latchIf_sectionFault (c : Bool) (x : Latch) : (s.latchIf c x).sectionFault = s.sectionFault := by rw [latchIf_frame]
@[simp] theorem latchIf_trunkFaultA (c : Bool) (x : Latch) : (s.latchIf c x).trunkFaultA = s.trunkFaultA := by rw [latchIf_frame]
@[simp] theorem latchIf_trunkFaultB (c : Bool) (x : Latch) : (s.latchIf c x).trunkFaultB = s.trunkFaultB := by rw [latchIf_frame]
@[simp] theorem latchIf_loopFaults (c : Bool) (x : Latch) : (s.latchIf c x).loopFaults = s.loopFaults := by rw [latchIf_frame]
@[simp] theorem latchIf_postFaults (c : Bool) (x : Latch) : (s.latchIf c x).postFaults = s.postFaults := by rw [latchIf_frame]
@[simp] theorem latchIf_testResults (c : Bool) (x : Latch) : (s.latchIf c x).testResults = s.testResults := by rw [latchIf_frame]
@[simp] theorem latchIf_marks (c : Bool) (x : Latch) : (s.latchIf c x).marks = s.marks := by rw [latchIf_frame]
@[simp] theorem latchIf_abandons (c : Bool) (x : Latch) : (s.latchIf c x).abandons = s.abandons := by rw [latchIf_frame]
@[simp] theorem latchIf_abandonPosts (c : Bool) (x : Latch) : (s.latchIf c x).abandonPosts = s.abandonPosts := by rw [latchIf_frame]
@[simp] theorem latchIf_mask (c : Bool) (x : Latch) : (s.latchIf c x).mask = s.mask := by rw [latchIf_frame]
@[simp] theorem latchIf_loop (c : Bool) (x : Latch) (j : LoopId) : (s.latchIf c x).loop j = s.loop j := by simp [loop]
@[simp] theorem latchIf_ring (c : Bool) (x : Latch) (j : LoopId) : (s.latchIf c x).ring j = s.ring j := by simp [ring]
@[simp] theorem latchIf_feed (c : Bool) (x : Latch) (j : LoopId) : (s.latchIf c x).feed j = s.feed j := by simp [feed]
@[simp] theorem latchIf_record (c : Bool) (x : Latch) (j : SlotId) : (s.latchIf c x).record j = s.record j := by simp [record]
@[simp] theorem latchIf_ctx (c : Bool) (x : Latch) (j : CtxId) : (s.latchIf c x).ctx j = s.ctx j := by simp [ctx]
@[simp] theorem latchIf_trunk (c : Bool) (x : Latch) (j : Trunk) : (s.latchIf c x).trunk j = s.trunk j := by cases j <;> simp [trunk]
@[simp] theorem latchIf_path (c : Bool) (x : Latch) (j : CtxId) : (s.latchIf c x).path j = s.path j := by simp [path]
@[simp] theorem latchIf_player (c : Bool) (x : Latch) (j : CtxId) : (s.latchIf c x).player j = s.player j := by simp [player]
@[simp] theorem latchIf_segment (c : Bool) (x : Latch) (j : SegId) : (s.latchIf c x).segment j = s.segment j := by simp [segment]
@[simp] theorem latchIf_service (c : Bool) (x : Latch) (j : Trunk) : (s.latchIf c x).service j = s.service j := by cases j <;> simp [service]
@[simp] theorem latchIf_param (c : Bool) (x : Latch) (j : Fin 25) : (s.latchIf c x).param j = s.param j := by simp [param]

/-! ### checkChange -/

theorem checkChange_frame (l : LoopId) (old new : List MapEntry) (oldAbsent newAbsent : List SlotId) : s.checkChange l old new oldAbsent newAbsent = { s with
    handed := (s.checkChange l old new oldAbsent newAbsent).handed } := by
  apply State.ext <;> first | with_reducible rfl | (unfold checkChange; dsimp only; (repeat' split) <;> simp)
@[simp] theorem checkChange_pending (l : LoopId) (old new : List MapEntry) (oldAbsent newAbsent : List SlotId) : (s.checkChange l old new oldAbsent newAbsent).pending = s.pending := by rw [checkChange_frame]
@[simp] theorem checkChange_loops (l : LoopId) (old new : List MapEntry) (oldAbsent newAbsent : List SlotId) : (s.checkChange l old new oldAbsent newAbsent).loops = s.loops := by rw [checkChange_frame]
@[simp] theorem checkChange_rings (l : LoopId) (old new : List MapEntry) (oldAbsent newAbsent : List SlotId) : (s.checkChange l old new oldAbsent newAbsent).rings = s.rings := by rw [checkChange_frame]
@[simp] theorem checkChange_feeds (l : LoopId) (old new : List MapEntry) (oldAbsent newAbsent : List SlotId) : (s.checkChange l old new oldAbsent newAbsent).feeds = s.feeds := by rw [checkChange_frame]
@[simp] theorem checkChange_supply (l : LoopId) (old new : List MapEntry) (oldAbsent newAbsent : List SlotId) : (s.checkChange l old new oldAbsent newAbsent).supply = s.supply := by rw [checkChange_frame]
@[simp] theorem checkChange_directory (l : LoopId) (old new : List MapEntry) (oldAbsent newAbsent : List SlotId) : (s.checkChange l old new oldAbsent newAbsent).directory = s.directory := by rw [checkChange_frame]
@[simp] theorem checkChange_contexts (l : LoopId) (old new : List MapEntry) (oldAbsent newAbsent : List SlotId) : (s.checkChange l old new oldAbsent newAbsent).contexts = s.contexts := by rw [checkChange_frame]
@[simp] theorem checkChange_waiting (l : LoopId) (old new : List MapEntry) (oldAbsent newAbsent : List SlotId) : (s.checkChange l old new oldAbsent newAbsent).waiting = s.waiting := by rw [checkChange_frame]
@[simp] theorem checkChange_entryCount (l : LoopId) (old new : List MapEntry) (oldAbsent newAbsent : List SlotId) : (s.checkChange l old new oldAbsent newAbsent).entryCount = s.entryCount := by rw [checkChange_frame]
@[simp] theorem checkChange_routes (l : LoopId) (old new : List MapEntry) (oldAbsent newAbsent : List SlotId) : (s.checkChange l old new oldAbsent newAbsent).routes = s.routes := by rw [checkChange_frame]
@[simp] theorem checkChange_plan (l : LoopId) (old new : List MapEntry) (oldAbsent newAbsent : List SlotId) : (s.checkChange l old new oldAbsent newAbsent).plan = s.plan := by rw [checkChange_frame]
@[simp] theorem checkChange_trunkA (l : LoopId) (old new : List MapEntry) (oldAbsent newAbsent : List SlotId) : (s.checkChange l old new oldAbsent newAbsent).trunkA = s.trunkA := by rw [checkChange_frame]
@[simp] theorem checkChange_trunkB (l : LoopId) (old new : List MapEntry) (oldAbsent newAbsent : List SlotId) : (s.checkChange l old new oldAbsent newAbsent).trunkB = s.trunkB := by rw [checkChange_frame]
@[simp] theorem checkChange_paths (l : LoopId) (old new : List MapEntry) (oldAbsent newAbsent : List SlotId) : (s.checkChange l old new oldAbsent newAbsent).paths = s.paths := by rw [checkChange_frame]
@[simp] theorem checkChange_samples (l : LoopId) (old new : List MapEntry) (oldAbsent newAbsent : List SlotId) : (s.checkChange l old new oldAbsent newAbsent).samples = s.samples := by rw [checkChange_frame]
@[simp] theorem checkChange_segments (l : LoopId) (old new : List MapEntry) (oldAbsent newAbsent : List SlotId) : (s.checkChange l old new oldAbsent newAbsent).segments = s.segments := by rw [checkChange_frame]
@[simp] theorem checkChange_players (l : LoopId) (old new : List MapEntry) (oldAbsent newAbsent : List SlotId) : (s.checkChange l old new oldAbsent newAbsent).players = s.players := by rw [checkChange_frame]
@[simp] theorem checkChange_serviceA (l : LoopId) (old new : List MapEntry) (oldAbsent newAbsent : List SlotId) : (s.checkChange l old new oldAbsent newAbsent).serviceA = s.serviceA := by rw [checkChange_frame]
@[simp] theorem checkChange_serviceB (l : LoopId) (old new : List MapEntry) (oldAbsent newAbsent : List SlotId) : (s.checkChange l old new oldAbsent newAbsent).serviceB = s.serviceB := by rw [checkChange_frame]
@[simp] theorem checkChange_home (l : LoopId) (old new : List MapEntry) (oldAbsent newAbsent : List SlotId) : (s.checkChange l old new oldAbsent newAbsent).home = s.home := by rw [checkChange_frame]
@[simp] theorem checkChange_settings (l : LoopId) (old new : List MapEntry) (oldAbsent newAbsent : List SlotId) : (s.checkChange l old new oldAbsent newAbsent).settings = s.settings := by rw [checkChange_frame]
@[simp] theorem checkChange_sectionFault (l : LoopId) (old new : List MapEntry) (oldAbsent newAbsent : List SlotId) : (s.checkChange l old new oldAbsent newAbsent).sectionFault = s.sectionFault := by rw [checkChange_frame]
@[simp] theorem checkChange_trunkFaultA (l : LoopId) (old new : List MapEntry) (oldAbsent newAbsent : List SlotId) : (s.checkChange l old new oldAbsent newAbsent).trunkFaultA = s.trunkFaultA := by rw [checkChange_frame]
@[simp] theorem checkChange_trunkFaultB (l : LoopId) (old new : List MapEntry) (oldAbsent newAbsent : List SlotId) : (s.checkChange l old new oldAbsent newAbsent).trunkFaultB = s.trunkFaultB := by rw [checkChange_frame]
@[simp] theorem checkChange_loopFaults (l : LoopId) (old new : List MapEntry) (oldAbsent newAbsent : List SlotId) : (s.checkChange l old new oldAbsent newAbsent).loopFaults = s.loopFaults := by rw [checkChange_frame]
@[simp] theorem checkChange_postFaults (l : LoopId) (old new : List MapEntry) (oldAbsent newAbsent : List SlotId) : (s.checkChange l old new oldAbsent newAbsent).postFaults = s.postFaults := by rw [checkChange_frame]
@[simp] theorem checkChange_testResults (l : LoopId) (old new : List MapEntry) (oldAbsent newAbsent : List SlotId) : (s.checkChange l old new oldAbsent newAbsent).testResults = s.testResults := by rw [checkChange_frame]
@[simp] theorem checkChange_marks (l : LoopId) (old new : List MapEntry) (oldAbsent newAbsent : List SlotId) : (s.checkChange l old new oldAbsent newAbsent).marks = s.marks := by rw [checkChange_frame]
@[simp] theorem checkChange_abandons (l : LoopId) (old new : List MapEntry) (oldAbsent newAbsent : List SlotId) : (s.checkChange l old new oldAbsent newAbsent).abandons = s.abandons := by rw [checkChange_frame]
@[simp] theorem checkChange_abandonPosts (l : LoopId) (old new : List MapEntry) (oldAbsent newAbsent : List SlotId) : (s.checkChange l old new oldAbsent newAbsent).abandonPosts = s.abandonPosts := by rw [checkChange_frame]
@[simp] theorem checkChange_mask (l : LoopId) (old new : List MapEntry) (oldAbsent newAbsent : List SlotId) : (s.checkChange l old new oldAbsent newAbsent).mask = s.mask := by rw [checkChange_frame]
@[simp] theorem checkChange_loop (l : LoopId) (old new : List MapEntry) (oldAbsent newAbsent : List SlotId) (j : LoopId) : (s.checkChange l old new oldAbsent newAbsent).loop j = s.loop j := by simp [loop]
@[simp] theorem checkChange_ring (l : LoopId) (old new : List MapEntry) (oldAbsent newAbsent : List SlotId) (j : LoopId) : (s.checkChange l old new oldAbsent newAbsent).ring j = s.ring j := by simp [ring]
@[simp] theorem checkChange_feed (l : LoopId) (old new : List MapEntry) (oldAbsent newAbsent : List SlotId) (j : LoopId) : (s.checkChange l old new oldAbsent newAbsent).feed j = s.feed j := by simp [feed]
@[simp] theorem checkChange_record (l : LoopId) (old new : List MapEntry) (oldAbsent newAbsent : List SlotId) (j : SlotId) : (s.checkChange l old new oldAbsent newAbsent).record j = s.record j := by simp [record]
@[simp] theorem checkChange_ctx (l : LoopId) (old new : List MapEntry) (oldAbsent newAbsent : List SlotId) (j : CtxId) : (s.checkChange l old new oldAbsent newAbsent).ctx j = s.ctx j := by simp [ctx]
@[simp] theorem checkChange_trunk (l : LoopId) (old new : List MapEntry) (oldAbsent newAbsent : List SlotId) (j : Trunk) : (s.checkChange l old new oldAbsent newAbsent).trunk j = s.trunk j := by cases j <;> simp [trunk]
@[simp] theorem checkChange_path (l : LoopId) (old new : List MapEntry) (oldAbsent newAbsent : List SlotId) (j : CtxId) : (s.checkChange l old new oldAbsent newAbsent).path j = s.path j := by simp [path]
@[simp] theorem checkChange_player (l : LoopId) (old new : List MapEntry) (oldAbsent newAbsent : List SlotId) (j : CtxId) : (s.checkChange l old new oldAbsent newAbsent).player j = s.player j := by simp [player]
@[simp] theorem checkChange_segment (l : LoopId) (old new : List MapEntry) (oldAbsent newAbsent : List SlotId) (j : SegId) : (s.checkChange l old new oldAbsent newAbsent).segment j = s.segment j := by simp [segment]
@[simp] theorem checkChange_service (l : LoopId) (old new : List MapEntry) (oldAbsent newAbsent : List SlotId) (j : Trunk) : (s.checkChange l old new oldAbsent newAbsent).service j = s.service j := by cases j <;> simp [service]
@[simp] theorem checkChange_param (l : LoopId) (old new : List MapEntry) (oldAbsent newAbsent : List SlotId) (j : Fin 25) : (s.checkChange l old new oldAbsent newAbsent).param j = s.param j := by simp [param]

/-! ### runAfterInstall -/

theorem runAfterInstall_frame (l : LoopId) (st : LoopState) : s.runAfterInstall l st = { s with
    loops := (s.runAfterInstall l st).loops
    handed := (s.runAfterInstall l st).handed } := by
  apply State.ext <;> first | with_reducible rfl | (unfold runAfterInstall; dsimp only; (repeat' split) <;> simp)
@[simp] theorem runAfterInstall_pending (l : LoopId) (st : LoopState) : (s.runAfterInstall l st).pending = s.pending := by rw [runAfterInstall_frame]
@[simp] theorem runAfterInstall_rings (l : LoopId) (st : LoopState) : (s.runAfterInstall l st).rings = s.rings := by rw [runAfterInstall_frame]
@[simp] theorem runAfterInstall_feeds (l : LoopId) (st : LoopState) : (s.runAfterInstall l st).feeds = s.feeds := by rw [runAfterInstall_frame]
@[simp] theorem runAfterInstall_supply (l : LoopId) (st : LoopState) : (s.runAfterInstall l st).supply = s.supply := by rw [runAfterInstall_frame]
@[simp] theorem runAfterInstall_directory (l : LoopId) (st : LoopState) : (s.runAfterInstall l st).directory = s.directory := by rw [runAfterInstall_frame]
@[simp] theorem runAfterInstall_contexts (l : LoopId) (st : LoopState) : (s.runAfterInstall l st).contexts = s.contexts := by rw [runAfterInstall_frame]
@[simp] theorem runAfterInstall_waiting (l : LoopId) (st : LoopState) : (s.runAfterInstall l st).waiting = s.waiting := by rw [runAfterInstall_frame]
@[simp] theorem runAfterInstall_entryCount (l : LoopId) (st : LoopState) : (s.runAfterInstall l st).entryCount = s.entryCount := by rw [runAfterInstall_frame]
@[simp] theorem runAfterInstall_routes (l : LoopId) (st : LoopState) : (s.runAfterInstall l st).routes = s.routes := by rw [runAfterInstall_frame]
@[simp] theorem runAfterInstall_plan (l : LoopId) (st : LoopState) : (s.runAfterInstall l st).plan = s.plan := by rw [runAfterInstall_frame]
@[simp] theorem runAfterInstall_trunkA (l : LoopId) (st : LoopState) : (s.runAfterInstall l st).trunkA = s.trunkA := by rw [runAfterInstall_frame]
@[simp] theorem runAfterInstall_trunkB (l : LoopId) (st : LoopState) : (s.runAfterInstall l st).trunkB = s.trunkB := by rw [runAfterInstall_frame]
@[simp] theorem runAfterInstall_paths (l : LoopId) (st : LoopState) : (s.runAfterInstall l st).paths = s.paths := by rw [runAfterInstall_frame]
@[simp] theorem runAfterInstall_samples (l : LoopId) (st : LoopState) : (s.runAfterInstall l st).samples = s.samples := by rw [runAfterInstall_frame]
@[simp] theorem runAfterInstall_segments (l : LoopId) (st : LoopState) : (s.runAfterInstall l st).segments = s.segments := by rw [runAfterInstall_frame]
@[simp] theorem runAfterInstall_players (l : LoopId) (st : LoopState) : (s.runAfterInstall l st).players = s.players := by rw [runAfterInstall_frame]
@[simp] theorem runAfterInstall_serviceA (l : LoopId) (st : LoopState) : (s.runAfterInstall l st).serviceA = s.serviceA := by rw [runAfterInstall_frame]
@[simp] theorem runAfterInstall_serviceB (l : LoopId) (st : LoopState) : (s.runAfterInstall l st).serviceB = s.serviceB := by rw [runAfterInstall_frame]
@[simp] theorem runAfterInstall_home (l : LoopId) (st : LoopState) : (s.runAfterInstall l st).home = s.home := by rw [runAfterInstall_frame]
@[simp] theorem runAfterInstall_settings (l : LoopId) (st : LoopState) : (s.runAfterInstall l st).settings = s.settings := by rw [runAfterInstall_frame]
@[simp] theorem runAfterInstall_sectionFault (l : LoopId) (st : LoopState) : (s.runAfterInstall l st).sectionFault = s.sectionFault := by rw [runAfterInstall_frame]
@[simp] theorem runAfterInstall_trunkFaultA (l : LoopId) (st : LoopState) : (s.runAfterInstall l st).trunkFaultA = s.trunkFaultA := by rw [runAfterInstall_frame]
@[simp] theorem runAfterInstall_trunkFaultB (l : LoopId) (st : LoopState) : (s.runAfterInstall l st).trunkFaultB = s.trunkFaultB := by rw [runAfterInstall_frame]
@[simp] theorem runAfterInstall_loopFaults (l : LoopId) (st : LoopState) : (s.runAfterInstall l st).loopFaults = s.loopFaults := by rw [runAfterInstall_frame]
@[simp] theorem runAfterInstall_postFaults (l : LoopId) (st : LoopState) : (s.runAfterInstall l st).postFaults = s.postFaults := by rw [runAfterInstall_frame]
@[simp] theorem runAfterInstall_testResults (l : LoopId) (st : LoopState) : (s.runAfterInstall l st).testResults = s.testResults := by rw [runAfterInstall_frame]
@[simp] theorem runAfterInstall_marks (l : LoopId) (st : LoopState) : (s.runAfterInstall l st).marks = s.marks := by rw [runAfterInstall_frame]
@[simp] theorem runAfterInstall_abandons (l : LoopId) (st : LoopState) : (s.runAfterInstall l st).abandons = s.abandons := by rw [runAfterInstall_frame]
@[simp] theorem runAfterInstall_abandonPosts (l : LoopId) (st : LoopState) : (s.runAfterInstall l st).abandonPosts = s.abandonPosts := by rw [runAfterInstall_frame]
@[simp] theorem runAfterInstall_mask (l : LoopId) (st : LoopState) : (s.runAfterInstall l st).mask = s.mask := by rw [runAfterInstall_frame]
@[simp] theorem runAfterInstall_ring (l : LoopId) (st : LoopState) (j : LoopId) : (s.runAfterInstall l st).ring j = s.ring j := by simp [ring]
@[simp] theorem runAfterInstall_feed (l : LoopId) (st : LoopState) (j : LoopId) : (s.runAfterInstall l st).feed j = s.feed j := by simp [feed]
@[simp] theorem runAfterInstall_record (l : LoopId) (st : LoopState) (j : SlotId) : (s.runAfterInstall l st).record j = s.record j := by simp [record]
@[simp] theorem runAfterInstall_ctx (l : LoopId) (st : LoopState) (j : CtxId) : (s.runAfterInstall l st).ctx j = s.ctx j := by simp [ctx]
@[simp] theorem runAfterInstall_trunk (l : LoopId) (st : LoopState) (j : Trunk) : (s.runAfterInstall l st).trunk j = s.trunk j := by cases j <;> simp [trunk]
@[simp] theorem runAfterInstall_path (l : LoopId) (st : LoopState) (j : CtxId) : (s.runAfterInstall l st).path j = s.path j := by simp [path]
@[simp] theorem runAfterInstall_player (l : LoopId) (st : LoopState) (j : CtxId) : (s.runAfterInstall l st).player j = s.player j := by simp [player]
@[simp] theorem runAfterInstall_segment (l : LoopId) (st : LoopState) (j : SegId) : (s.runAfterInstall l st).segment j = s.segment j := by simp [segment]
@[simp] theorem runAfterInstall_service (l : LoopId) (st : LoopState) (j : Trunk) : (s.runAfterInstall l st).service j = s.service j := by cases j <;> simp [service]
@[simp] theorem runAfterInstall_param (l : LoopId) (st : LoopState) (j : Fin 25) : (s.runAfterInstall l st).param j = s.param j := by simp [param]

/-! ### installResult -/

theorem installResult_frame (l : LoopId) (entries : List ResultEntry) (absent : List SlotId) : s.installResult l entries absent = { s with
    loops := (s.installResult l entries absent).loops
    handed := (s.installResult l entries absent).handed } := by
  apply State.ext <;> first | with_reducible rfl | (simp [installResult])
@[simp] theorem installResult_pending (l : LoopId) (entries : List ResultEntry) (absent : List SlotId) : (s.installResult l entries absent).pending = s.pending := by rw [installResult_frame]
@[simp] theorem installResult_rings (l : LoopId) (entries : List ResultEntry) (absent : List SlotId) : (s.installResult l entries absent).rings = s.rings := by rw [installResult_frame]
@[simp] theorem installResult_feeds (l : LoopId) (entries : List ResultEntry) (absent : List SlotId) : (s.installResult l entries absent).feeds = s.feeds := by rw [installResult_frame]
@[simp] theorem installResult_supply (l : LoopId) (entries : List ResultEntry) (absent : List SlotId) : (s.installResult l entries absent).supply = s.supply := by rw [installResult_frame]
@[simp] theorem installResult_directory (l : LoopId) (entries : List ResultEntry) (absent : List SlotId) : (s.installResult l entries absent).directory = s.directory := by rw [installResult_frame]
@[simp] theorem installResult_contexts (l : LoopId) (entries : List ResultEntry) (absent : List SlotId) : (s.installResult l entries absent).contexts = s.contexts := by rw [installResult_frame]
@[simp] theorem installResult_waiting (l : LoopId) (entries : List ResultEntry) (absent : List SlotId) : (s.installResult l entries absent).waiting = s.waiting := by rw [installResult_frame]
@[simp] theorem installResult_entryCount (l : LoopId) (entries : List ResultEntry) (absent : List SlotId) : (s.installResult l entries absent).entryCount = s.entryCount := by rw [installResult_frame]
@[simp] theorem installResult_routes (l : LoopId) (entries : List ResultEntry) (absent : List SlotId) : (s.installResult l entries absent).routes = s.routes := by rw [installResult_frame]
@[simp] theorem installResult_plan (l : LoopId) (entries : List ResultEntry) (absent : List SlotId) : (s.installResult l entries absent).plan = s.plan := by rw [installResult_frame]
@[simp] theorem installResult_trunkA (l : LoopId) (entries : List ResultEntry) (absent : List SlotId) : (s.installResult l entries absent).trunkA = s.trunkA := by rw [installResult_frame]
@[simp] theorem installResult_trunkB (l : LoopId) (entries : List ResultEntry) (absent : List SlotId) : (s.installResult l entries absent).trunkB = s.trunkB := by rw [installResult_frame]
@[simp] theorem installResult_paths (l : LoopId) (entries : List ResultEntry) (absent : List SlotId) : (s.installResult l entries absent).paths = s.paths := by rw [installResult_frame]
@[simp] theorem installResult_samples (l : LoopId) (entries : List ResultEntry) (absent : List SlotId) : (s.installResult l entries absent).samples = s.samples := by rw [installResult_frame]
@[simp] theorem installResult_segments (l : LoopId) (entries : List ResultEntry) (absent : List SlotId) : (s.installResult l entries absent).segments = s.segments := by rw [installResult_frame]
@[simp] theorem installResult_players (l : LoopId) (entries : List ResultEntry) (absent : List SlotId) : (s.installResult l entries absent).players = s.players := by rw [installResult_frame]
@[simp] theorem installResult_serviceA (l : LoopId) (entries : List ResultEntry) (absent : List SlotId) : (s.installResult l entries absent).serviceA = s.serviceA := by rw [installResult_frame]
@[simp] theorem installResult_serviceB (l : LoopId) (entries : List ResultEntry) (absent : List SlotId) : (s.installResult l entries absent).serviceB = s.serviceB := by rw [installResult_frame]
@[simp] theorem installResult_home (l : LoopId) (entries : List ResultEntry) (absent : List SlotId) : (s.installResult l entries absent).home = s.home := by rw [installResult_frame]
@[simp] theorem installResult_settings (l : LoopId) (entries : List ResultEntry) (absent : List SlotId) : (s.installResult l entries absent).settings = s.settings := by rw [installResult_frame]
@[simp] theorem installResult_sectionFault (l : LoopId) (entries : List ResultEntry) (absent : List SlotId) : (s.installResult l entries absent).sectionFault = s.sectionFault := by rw [installResult_frame]
@[simp] theorem installResult_trunkFaultA (l : LoopId) (entries : List ResultEntry) (absent : List SlotId) : (s.installResult l entries absent).trunkFaultA = s.trunkFaultA := by rw [installResult_frame]
@[simp] theorem installResult_trunkFaultB (l : LoopId) (entries : List ResultEntry) (absent : List SlotId) : (s.installResult l entries absent).trunkFaultB = s.trunkFaultB := by rw [installResult_frame]
@[simp] theorem installResult_loopFaults (l : LoopId) (entries : List ResultEntry) (absent : List SlotId) : (s.installResult l entries absent).loopFaults = s.loopFaults := by rw [installResult_frame]
@[simp] theorem installResult_postFaults (l : LoopId) (entries : List ResultEntry) (absent : List SlotId) : (s.installResult l entries absent).postFaults = s.postFaults := by rw [installResult_frame]
@[simp] theorem installResult_testResults (l : LoopId) (entries : List ResultEntry) (absent : List SlotId) : (s.installResult l entries absent).testResults = s.testResults := by rw [installResult_frame]
@[simp] theorem installResult_marks (l : LoopId) (entries : List ResultEntry) (absent : List SlotId) : (s.installResult l entries absent).marks = s.marks := by rw [installResult_frame]
@[simp] theorem installResult_abandons (l : LoopId) (entries : List ResultEntry) (absent : List SlotId) : (s.installResult l entries absent).abandons = s.abandons := by rw [installResult_frame]
@[simp] theorem installResult_abandonPosts (l : LoopId) (entries : List ResultEntry) (absent : List SlotId) : (s.installResult l entries absent).abandonPosts = s.abandonPosts := by rw [installResult_frame]
@[simp] theorem installResult_mask (l : LoopId) (entries : List ResultEntry) (absent : List SlotId) : (s.installResult l entries absent).mask = s.mask := by rw [installResult_frame]
@[simp] theorem installResult_ring (l : LoopId) (entries : List ResultEntry) (absent : List SlotId) (j : LoopId) : (s.installResult l entries absent).ring j = s.ring j := by simp [ring]
@[simp] theorem installResult_feed (l : LoopId) (entries : List ResultEntry) (absent : List SlotId) (j : LoopId) : (s.installResult l entries absent).feed j = s.feed j := by simp [feed]
@[simp] theorem installResult_record (l : LoopId) (entries : List ResultEntry) (absent : List SlotId) (j : SlotId) : (s.installResult l entries absent).record j = s.record j := by simp [record]
@[simp] theorem installResult_ctx (l : LoopId) (entries : List ResultEntry) (absent : List SlotId) (j : CtxId) : (s.installResult l entries absent).ctx j = s.ctx j := by simp [ctx]
@[simp] theorem installResult_trunk (l : LoopId) (entries : List ResultEntry) (absent : List SlotId) (j : Trunk) : (s.installResult l entries absent).trunk j = s.trunk j := by cases j <;> simp [trunk]
@[simp] theorem installResult_path (l : LoopId) (entries : List ResultEntry) (absent : List SlotId) (j : CtxId) : (s.installResult l entries absent).path j = s.path j := by simp [path]
@[simp] theorem installResult_player (l : LoopId) (entries : List ResultEntry) (absent : List SlotId) (j : CtxId) : (s.installResult l entries absent).player j = s.player j := by simp [player]
@[simp] theorem installResult_segment (l : LoopId) (entries : List ResultEntry) (absent : List SlotId) (j : SegId) : (s.installResult l entries absent).segment j = s.segment j := by simp [segment]
@[simp] theorem installResult_service (l : LoopId) (entries : List ResultEntry) (absent : List SlotId) (j : Trunk) : (s.installResult l entries absent).service j = s.service j := by cases j <;> simp [service]
@[simp] theorem installResult_param (l : LoopId) (entries : List ResultEntry) (absent : List SlotId) (j : Fin 25) : (s.installResult l entries absent).param j = s.param j := by simp [param]

/-! ### unlistSlot -/

theorem unlistSlot_frame (l : LoopId) (slot : SlotId) : s.unlistSlot l slot = { s with
    loops := (s.unlistSlot l slot).loops
    handed := (s.unlistSlot l slot).handed } := by
  apply State.ext <;> first | with_reducible rfl | (unfold unlistSlot; dsimp only; (repeat' split) <;> simp)
@[simp] theorem unlistSlot_pending (l : LoopId) (slot : SlotId) : (s.unlistSlot l slot).pending = s.pending := by rw [unlistSlot_frame]
@[simp] theorem unlistSlot_rings (l : LoopId) (slot : SlotId) : (s.unlistSlot l slot).rings = s.rings := by rw [unlistSlot_frame]
@[simp] theorem unlistSlot_feeds (l : LoopId) (slot : SlotId) : (s.unlistSlot l slot).feeds = s.feeds := by rw [unlistSlot_frame]
@[simp] theorem unlistSlot_supply (l : LoopId) (slot : SlotId) : (s.unlistSlot l slot).supply = s.supply := by rw [unlistSlot_frame]
@[simp] theorem unlistSlot_directory (l : LoopId) (slot : SlotId) : (s.unlistSlot l slot).directory = s.directory := by rw [unlistSlot_frame]
@[simp] theorem unlistSlot_contexts (l : LoopId) (slot : SlotId) : (s.unlistSlot l slot).contexts = s.contexts := by rw [unlistSlot_frame]
@[simp] theorem unlistSlot_waiting (l : LoopId) (slot : SlotId) : (s.unlistSlot l slot).waiting = s.waiting := by rw [unlistSlot_frame]
@[simp] theorem unlistSlot_entryCount (l : LoopId) (slot : SlotId) : (s.unlistSlot l slot).entryCount = s.entryCount := by rw [unlistSlot_frame]
@[simp] theorem unlistSlot_routes (l : LoopId) (slot : SlotId) : (s.unlistSlot l slot).routes = s.routes := by rw [unlistSlot_frame]
@[simp] theorem unlistSlot_plan (l : LoopId) (slot : SlotId) : (s.unlistSlot l slot).plan = s.plan := by rw [unlistSlot_frame]
@[simp] theorem unlistSlot_trunkA (l : LoopId) (slot : SlotId) : (s.unlistSlot l slot).trunkA = s.trunkA := by rw [unlistSlot_frame]
@[simp] theorem unlistSlot_trunkB (l : LoopId) (slot : SlotId) : (s.unlistSlot l slot).trunkB = s.trunkB := by rw [unlistSlot_frame]
@[simp] theorem unlistSlot_paths (l : LoopId) (slot : SlotId) : (s.unlistSlot l slot).paths = s.paths := by rw [unlistSlot_frame]
@[simp] theorem unlistSlot_samples (l : LoopId) (slot : SlotId) : (s.unlistSlot l slot).samples = s.samples := by rw [unlistSlot_frame]
@[simp] theorem unlistSlot_segments (l : LoopId) (slot : SlotId) : (s.unlistSlot l slot).segments = s.segments := by rw [unlistSlot_frame]
@[simp] theorem unlistSlot_players (l : LoopId) (slot : SlotId) : (s.unlistSlot l slot).players = s.players := by rw [unlistSlot_frame]
@[simp] theorem unlistSlot_serviceA (l : LoopId) (slot : SlotId) : (s.unlistSlot l slot).serviceA = s.serviceA := by rw [unlistSlot_frame]
@[simp] theorem unlistSlot_serviceB (l : LoopId) (slot : SlotId) : (s.unlistSlot l slot).serviceB = s.serviceB := by rw [unlistSlot_frame]
@[simp] theorem unlistSlot_home (l : LoopId) (slot : SlotId) : (s.unlistSlot l slot).home = s.home := by rw [unlistSlot_frame]
@[simp] theorem unlistSlot_settings (l : LoopId) (slot : SlotId) : (s.unlistSlot l slot).settings = s.settings := by rw [unlistSlot_frame]
@[simp] theorem unlistSlot_sectionFault (l : LoopId) (slot : SlotId) : (s.unlistSlot l slot).sectionFault = s.sectionFault := by rw [unlistSlot_frame]
@[simp] theorem unlistSlot_trunkFaultA (l : LoopId) (slot : SlotId) : (s.unlistSlot l slot).trunkFaultA = s.trunkFaultA := by rw [unlistSlot_frame]
@[simp] theorem unlistSlot_trunkFaultB (l : LoopId) (slot : SlotId) : (s.unlistSlot l slot).trunkFaultB = s.trunkFaultB := by rw [unlistSlot_frame]
@[simp] theorem unlistSlot_loopFaults (l : LoopId) (slot : SlotId) : (s.unlistSlot l slot).loopFaults = s.loopFaults := by rw [unlistSlot_frame]
@[simp] theorem unlistSlot_postFaults (l : LoopId) (slot : SlotId) : (s.unlistSlot l slot).postFaults = s.postFaults := by rw [unlistSlot_frame]
@[simp] theorem unlistSlot_testResults (l : LoopId) (slot : SlotId) : (s.unlistSlot l slot).testResults = s.testResults := by rw [unlistSlot_frame]
@[simp] theorem unlistSlot_marks (l : LoopId) (slot : SlotId) : (s.unlistSlot l slot).marks = s.marks := by rw [unlistSlot_frame]
@[simp] theorem unlistSlot_abandons (l : LoopId) (slot : SlotId) : (s.unlistSlot l slot).abandons = s.abandons := by rw [unlistSlot_frame]
@[simp] theorem unlistSlot_abandonPosts (l : LoopId) (slot : SlotId) : (s.unlistSlot l slot).abandonPosts = s.abandonPosts := by rw [unlistSlot_frame]
@[simp] theorem unlistSlot_mask (l : LoopId) (slot : SlotId) : (s.unlistSlot l slot).mask = s.mask := by rw [unlistSlot_frame]
@[simp] theorem unlistSlot_ring (l : LoopId) (slot : SlotId) (j : LoopId) : (s.unlistSlot l slot).ring j = s.ring j := by simp [ring]
@[simp] theorem unlistSlot_feed (l : LoopId) (slot : SlotId) (j : LoopId) : (s.unlistSlot l slot).feed j = s.feed j := by simp [feed]
@[simp] theorem unlistSlot_record (l : LoopId) (slot : SlotId) (j : SlotId) : (s.unlistSlot l slot).record j = s.record j := by simp [record]
@[simp] theorem unlistSlot_ctx (l : LoopId) (slot : SlotId) (j : CtxId) : (s.unlistSlot l slot).ctx j = s.ctx j := by simp [ctx]
@[simp] theorem unlistSlot_trunk (l : LoopId) (slot : SlotId) (j : Trunk) : (s.unlistSlot l slot).trunk j = s.trunk j := by cases j <;> simp [trunk]
@[simp] theorem unlistSlot_path (l : LoopId) (slot : SlotId) (j : CtxId) : (s.unlistSlot l slot).path j = s.path j := by simp [path]
@[simp] theorem unlistSlot_player (l : LoopId) (slot : SlotId) (j : CtxId) : (s.unlistSlot l slot).player j = s.player j := by simp [player]
@[simp] theorem unlistSlot_segment (l : LoopId) (slot : SlotId) (j : SegId) : (s.unlistSlot l slot).segment j = s.segment j := by simp [segment]
@[simp] theorem unlistSlot_service (l : LoopId) (slot : SlotId) (j : Trunk) : (s.unlistSlot l slot).service j = s.service j := by cases j <;> simp [service]
@[simp] theorem unlistSlot_param (l : LoopId) (slot : SlotId) (j : Fin 25) : (s.unlistSlot l slot).param j = s.param j := by simp [param]

end Sys2Proof.Machine.State
end

