-- ==== Sys2Proof/Laws/Paths.lean ====
section
/-! SUPPORT. What each operation of the players, the voice path engine and the loop frame may change, one equation each, and what it leaves in every other field. -/

namespace Sys2Proof.Machine.State

open Sys2Proof

variable (s : State)

/-! ### endSegment -/

theorem endSegment_frame (c : CtxId) : s.endSegment c = { s with
    players := (s.endSegment c).players } := by
  apply State.ext <;> first | with_reducible rfl | (unfold endSegment; dsimp only; (repeat' split) <;> simp)
@[simp] theorem endSegment_pending (c : CtxId) : (s.endSegment c).pending = s.pending := by rw [endSegment_frame]
@[simp] theorem endSegment_handed (c : CtxId) : (s.endSegment c).handed = s.handed := by rw [endSegment_frame]
@[simp] theorem endSegment_loops (c : CtxId) : (s.endSegment c).loops = s.loops := by rw [endSegment_frame]
@[simp] theorem endSegment_rings (c : CtxId) : (s.endSegment c).rings = s.rings := by rw [endSegment_frame]
@[simp] theorem endSegment_feeds (c : CtxId) : (s.endSegment c).feeds = s.feeds := by rw [endSegment_frame]
@[simp] theorem endSegment_supply (c : CtxId) : (s.endSegment c).supply = s.supply := by rw [endSegment_frame]
@[simp] theorem endSegment_directory (c : CtxId) : (s.endSegment c).directory = s.directory := by rw [endSegment_frame]
@[simp] theorem endSegment_contexts (c : CtxId) : (s.endSegment c).contexts = s.contexts := by rw [endSegment_frame]
@[simp] theorem endSegment_waiting (c : CtxId) : (s.endSegment c).waiting = s.waiting := by rw [endSegment_frame]
@[simp] theorem endSegment_entryCount (c : CtxId) : (s.endSegment c).entryCount = s.entryCount := by rw [endSegment_frame]
@[simp] theorem endSegment_routes (c : CtxId) : (s.endSegment c).routes = s.routes := by rw [endSegment_frame]
@[simp] theorem endSegment_plan (c : CtxId) : (s.endSegment c).plan = s.plan := by rw [endSegment_frame]
@[simp] theorem endSegment_trunkA (c : CtxId) : (s.endSegment c).trunkA = s.trunkA := by rw [endSegment_frame]
@[simp] theorem endSegment_trunkB (c : CtxId) : (s.endSegment c).trunkB = s.trunkB := by rw [endSegment_frame]
@[simp] theorem endSegment_paths (c : CtxId) : (s.endSegment c).paths = s.paths := by rw [endSegment_frame]
@[simp] theorem endSegment_samples (c : CtxId) : (s.endSegment c).samples = s.samples := by rw [endSegment_frame]
@[simp] theorem endSegment_segments (c : CtxId) : (s.endSegment c).segments = s.segments := by rw [endSegment_frame]
@[simp] theorem endSegment_serviceA (c : CtxId) : (s.endSegment c).serviceA = s.serviceA := by rw [endSegment_frame]
@[simp] theorem endSegment_serviceB (c : CtxId) : (s.endSegment c).serviceB = s.serviceB := by rw [endSegment_frame]
@[simp] theorem endSegment_home (c : CtxId) : (s.endSegment c).home = s.home := by rw [endSegment_frame]
@[simp] theorem endSegment_settings (c : CtxId) : (s.endSegment c).settings = s.settings := by rw [endSegment_frame]
@[simp] theorem endSegment_sectionFault (c : CtxId) : (s.endSegment c).sectionFault = s.sectionFault := by rw [endSegment_frame]
@[simp] theorem endSegment_trunkFaultA (c : CtxId) : (s.endSegment c).trunkFaultA = s.trunkFaultA := by rw [endSegment_frame]
@[simp] theorem endSegment_trunkFaultB (c : CtxId) : (s.endSegment c).trunkFaultB = s.trunkFaultB := by rw [endSegment_frame]
@[simp] theorem endSegment_loopFaults (c : CtxId) : (s.endSegment c).loopFaults = s.loopFaults := by rw [endSegment_frame]
@[simp] theorem endSegment_postFaults (c : CtxId) : (s.endSegment c).postFaults = s.postFaults := by rw [endSegment_frame]
@[simp] theorem endSegment_testResults (c : CtxId) : (s.endSegment c).testResults = s.testResults := by rw [endSegment_frame]
@[simp] theorem endSegment_marks (c : CtxId) : (s.endSegment c).marks = s.marks := by rw [endSegment_frame]
@[simp] theorem endSegment_abandons (c : CtxId) : (s.endSegment c).abandons = s.abandons := by rw [endSegment_frame]
@[simp] theorem endSegment_abandonPosts (c : CtxId) : (s.endSegment c).abandonPosts = s.abandonPosts := by rw [endSegment_frame]
@[simp] theorem endSegment_mask (c : CtxId) : (s.endSegment c).mask = s.mask := by rw [endSegment_frame]
@[simp] theorem endSegment_loop (c : CtxId) (j : LoopId) : (s.endSegment c).loop j = s.loop j := by simp [loop]
@[simp] theorem endSegment_ring (c : CtxId) (j : LoopId) : (s.endSegment c).ring j = s.ring j := by simp [ring]
@[simp] theorem endSegment_feed (c : CtxId) (j : LoopId) : (s.endSegment c).feed j = s.feed j := by simp [feed]
@[simp] theorem endSegment_record (c : CtxId) (j : SlotId) : (s.endSegment c).record j = s.record j := by simp [record]
@[simp] theorem endSegment_ctx (c : CtxId) (j : CtxId) : (s.endSegment c).ctx j = s.ctx j := by simp [ctx]
@[simp] theorem endSegment_trunk (c : CtxId) (j : Trunk) : (s.endSegment c).trunk j = s.trunk j := by cases j <;> simp [trunk]
@[simp] theorem endSegment_path (c : CtxId) (j : CtxId) : (s.endSegment c).path j = s.path j := by simp [path]
@[simp] theorem endSegment_segment (c : CtxId) (j : SegId) : (s.endSegment c).segment j = s.segment j := by simp [segment]
@[simp] theorem endSegment_service (c : CtxId) (j : Trunk) : (s.endSegment c).service j = s.service j := by cases j <;> simp [service]
@[simp] theorem endSegment_param (c : CtxId) (j : Fin 25) : (s.endSegment c).param j = s.param j := by simp [param]

/-! ### advancePlayer -/

theorem advancePlayer_frame (c : CtxId) : s.advancePlayer c = { s with
    players := (s.advancePlayer c).players
    handed := (s.advancePlayer c).handed } := by
  apply State.ext <;> first | with_reducible rfl | (unfold advancePlayer; dsimp only; (repeat' split) <;> simp)
@[simp] theorem advancePlayer_pending (c : CtxId) : (s.advancePlayer c).pending = s.pending := by rw [advancePlayer_frame]
@[simp] theorem advancePlayer_loops (c : CtxId) : (s.advancePlayer c).loops = s.loops := by rw [advancePlayer_frame]
@[simp] theorem advancePlayer_rings (c : CtxId) : (s.advancePlayer c).rings = s.rings := by rw [advancePlayer_frame]
@[simp] theorem advancePlayer_feeds (c : CtxId) : (s.advancePlayer c).feeds = s.feeds := by rw [advancePlayer_frame]
@[simp] theorem advancePlayer_supply (c : CtxId) : (s.advancePlayer c).supply = s.supply := by rw [advancePlayer_frame]
@[simp] theorem advancePlayer_directory (c : CtxId) : (s.advancePlayer c).directory = s.directory := by rw [advancePlayer_frame]
@[simp] theorem advancePlayer_contexts (c : CtxId) : (s.advancePlayer c).contexts = s.contexts := by rw [advancePlayer_frame]
@[simp] theorem advancePlayer_waiting (c : CtxId) : (s.advancePlayer c).waiting = s.waiting := by rw [advancePlayer_frame]
@[simp] theorem advancePlayer_entryCount (c : CtxId) : (s.advancePlayer c).entryCount = s.entryCount := by rw [advancePlayer_frame]
@[simp] theorem advancePlayer_routes (c : CtxId) : (s.advancePlayer c).routes = s.routes := by rw [advancePlayer_frame]
@[simp] theorem advancePlayer_plan (c : CtxId) : (s.advancePlayer c).plan = s.plan := by rw [advancePlayer_frame]
@[simp] theorem advancePlayer_trunkA (c : CtxId) : (s.advancePlayer c).trunkA = s.trunkA := by rw [advancePlayer_frame]
@[simp] theorem advancePlayer_trunkB (c : CtxId) : (s.advancePlayer c).trunkB = s.trunkB := by rw [advancePlayer_frame]
@[simp] theorem advancePlayer_paths (c : CtxId) : (s.advancePlayer c).paths = s.paths := by rw [advancePlayer_frame]
@[simp] theorem advancePlayer_samples (c : CtxId) : (s.advancePlayer c).samples = s.samples := by rw [advancePlayer_frame]
@[simp] theorem advancePlayer_segments (c : CtxId) : (s.advancePlayer c).segments = s.segments := by rw [advancePlayer_frame]
@[simp] theorem advancePlayer_serviceA (c : CtxId) : (s.advancePlayer c).serviceA = s.serviceA := by rw [advancePlayer_frame]
@[simp] theorem advancePlayer_serviceB (c : CtxId) : (s.advancePlayer c).serviceB = s.serviceB := by rw [advancePlayer_frame]
@[simp] theorem advancePlayer_home (c : CtxId) : (s.advancePlayer c).home = s.home := by rw [advancePlayer_frame]
@[simp] theorem advancePlayer_settings (c : CtxId) : (s.advancePlayer c).settings = s.settings := by rw [advancePlayer_frame]
@[simp] theorem advancePlayer_sectionFault (c : CtxId) : (s.advancePlayer c).sectionFault = s.sectionFault := by rw [advancePlayer_frame]
@[simp] theorem advancePlayer_trunkFaultA (c : CtxId) : (s.advancePlayer c).trunkFaultA = s.trunkFaultA := by rw [advancePlayer_frame]
@[simp] theorem advancePlayer_trunkFaultB (c : CtxId) : (s.advancePlayer c).trunkFaultB = s.trunkFaultB := by rw [advancePlayer_frame]
@[simp] theorem advancePlayer_loopFaults (c : CtxId) : (s.advancePlayer c).loopFaults = s.loopFaults := by rw [advancePlayer_frame]
@[simp] theorem advancePlayer_postFaults (c : CtxId) : (s.advancePlayer c).postFaults = s.postFaults := by rw [advancePlayer_frame]
@[simp] theorem advancePlayer_testResults (c : CtxId) : (s.advancePlayer c).testResults = s.testResults := by rw [advancePlayer_frame]
@[simp] theorem advancePlayer_marks (c : CtxId) : (s.advancePlayer c).marks = s.marks := by rw [advancePlayer_frame]
@[simp] theorem advancePlayer_abandons (c : CtxId) : (s.advancePlayer c).abandons = s.abandons := by rw [advancePlayer_frame]
@[simp] theorem advancePlayer_abandonPosts (c : CtxId) : (s.advancePlayer c).abandonPosts = s.abandonPosts := by rw [advancePlayer_frame]
@[simp] theorem advancePlayer_mask (c : CtxId) : (s.advancePlayer c).mask = s.mask := by rw [advancePlayer_frame]
@[simp] theorem advancePlayer_loop (c : CtxId) (j : LoopId) : (s.advancePlayer c).loop j = s.loop j := by simp [loop]
@[simp] theorem advancePlayer_ring (c : CtxId) (j : LoopId) : (s.advancePlayer c).ring j = s.ring j := by simp [ring]
@[simp] theorem advancePlayer_feed (c : CtxId) (j : LoopId) : (s.advancePlayer c).feed j = s.feed j := by simp [feed]
@[simp] theorem advancePlayer_record (c : CtxId) (j : SlotId) : (s.advancePlayer c).record j = s.record j := by simp [record]
@[simp] theorem advancePlayer_ctx (c : CtxId) (j : CtxId) : (s.advancePlayer c).ctx j = s.ctx j := by simp [ctx]
@[simp] theorem advancePlayer_trunk (c : CtxId) (j : Trunk) : (s.advancePlayer c).trunk j = s.trunk j := by cases j <;> simp [trunk]
@[simp] theorem advancePlayer_path (c : CtxId) (j : CtxId) : (s.advancePlayer c).path j = s.path j := by simp [path]
@[simp] theorem advancePlayer_segment (c : CtxId) (j : SegId) : (s.advancePlayer c).segment j = s.segment j := by simp [segment]
@[simp] theorem advancePlayer_service (c : CtxId) (j : Trunk) : (s.advancePlayer c).service j = s.service j := by cases j <;> simp [service]
@[simp] theorem advancePlayer_param (c : CtxId) (j : Fin 25) : (s.advancePlayer c).param j = s.param j := by simp [param]

/-! ### catchSegment -/

theorem catchSegment_frame (c : CtxId) : s.catchSegment c = { s with
    players := (s.catchSegment c).players
    handed := (s.catchSegment c).handed } := by
  apply State.ext <;> first | with_reducible rfl | (unfold catchSegment; dsimp only; (repeat' split) <;> simp)
@[simp] theorem catchSegment_pending (c : CtxId) : (s.catchSegment c).pending = s.pending := by rw [catchSegment_frame]
@[simp] theorem catchSegment_loops (c : CtxId) : (s.catchSegment c).loops = s.loops := by rw [catchSegment_frame]
@[simp] theorem catchSegment_rings (c : CtxId) : (s.catchSegment c).rings = s.rings := by rw [catchSegment_frame]
@[simp] theorem catchSegment_feeds (c : CtxId) : (s.catchSegment c).feeds = s.feeds := by rw [catchSegment_frame]
@[simp] theorem catchSegment_supply (c : CtxId) : (s.catchSegment c).supply = s.supply := by rw [catchSegment_frame]
@[simp] theorem catchSegment_directory (c : CtxId) : (s.catchSegment c).directory = s.directory := by rw [catchSegment_frame]
@[simp] theorem catchSegment_contexts (c : CtxId) : (s.catchSegment c).contexts = s.contexts := by rw [catchSegment_frame]
@[simp] theorem catchSegment_waiting (c : CtxId) : (s.catchSegment c).waiting = s.waiting := by rw [catchSegment_frame]
@[simp] theorem catchSegment_entryCount (c : CtxId) : (s.catchSegment c).entryCount = s.entryCount := by rw [catchSegment_frame]
@[simp] theorem catchSegment_routes (c : CtxId) : (s.catchSegment c).routes = s.routes := by rw [catchSegment_frame]
@[simp] theorem catchSegment_plan (c : CtxId) : (s.catchSegment c).plan = s.plan := by rw [catchSegment_frame]
@[simp] theorem catchSegment_trunkA (c : CtxId) : (s.catchSegment c).trunkA = s.trunkA := by rw [catchSegment_frame]
@[simp] theorem catchSegment_trunkB (c : CtxId) : (s.catchSegment c).trunkB = s.trunkB := by rw [catchSegment_frame]
@[simp] theorem catchSegment_paths (c : CtxId) : (s.catchSegment c).paths = s.paths := by rw [catchSegment_frame]
@[simp] theorem catchSegment_samples (c : CtxId) : (s.catchSegment c).samples = s.samples := by rw [catchSegment_frame]
@[simp] theorem catchSegment_segments (c : CtxId) : (s.catchSegment c).segments = s.segments := by rw [catchSegment_frame]
@[simp] theorem catchSegment_serviceA (c : CtxId) : (s.catchSegment c).serviceA = s.serviceA := by rw [catchSegment_frame]
@[simp] theorem catchSegment_serviceB (c : CtxId) : (s.catchSegment c).serviceB = s.serviceB := by rw [catchSegment_frame]
@[simp] theorem catchSegment_home (c : CtxId) : (s.catchSegment c).home = s.home := by rw [catchSegment_frame]
@[simp] theorem catchSegment_settings (c : CtxId) : (s.catchSegment c).settings = s.settings := by rw [catchSegment_frame]
@[simp] theorem catchSegment_sectionFault (c : CtxId) : (s.catchSegment c).sectionFault = s.sectionFault := by rw [catchSegment_frame]
@[simp] theorem catchSegment_trunkFaultA (c : CtxId) : (s.catchSegment c).trunkFaultA = s.trunkFaultA := by rw [catchSegment_frame]
@[simp] theorem catchSegment_trunkFaultB (c : CtxId) : (s.catchSegment c).trunkFaultB = s.trunkFaultB := by rw [catchSegment_frame]
@[simp] theorem catchSegment_loopFaults (c : CtxId) : (s.catchSegment c).loopFaults = s.loopFaults := by rw [catchSegment_frame]
@[simp] theorem catchSegment_postFaults (c : CtxId) : (s.catchSegment c).postFaults = s.postFaults := by rw [catchSegment_frame]
@[simp] theorem catchSegment_testResults (c : CtxId) : (s.catchSegment c).testResults = s.testResults := by rw [catchSegment_frame]
@[simp] theorem catchSegment_marks (c : CtxId) : (s.catchSegment c).marks = s.marks := by rw [catchSegment_frame]
@[simp] theorem catchSegment_abandons (c : CtxId) : (s.catchSegment c).abandons = s.abandons := by rw [catchSegment_frame]
@[simp] theorem catchSegment_abandonPosts (c : CtxId) : (s.catchSegment c).abandonPosts = s.abandonPosts := by rw [catchSegment_frame]
@[simp] theorem catchSegment_mask (c : CtxId) : (s.catchSegment c).mask = s.mask := by rw [catchSegment_frame]
@[simp] theorem catchSegment_loop (c : CtxId) (j : LoopId) : (s.catchSegment c).loop j = s.loop j := by simp [loop]
@[simp] theorem catchSegment_ring (c : CtxId) (j : LoopId) : (s.catchSegment c).ring j = s.ring j := by simp [ring]
@[simp] theorem catchSegment_feed (c : CtxId) (j : LoopId) : (s.catchSegment c).feed j = s.feed j := by simp [feed]
@[simp] theorem catchSegment_record (c : CtxId) (j : SlotId) : (s.catchSegment c).record j = s.record j := by simp [record]
@[simp] theorem catchSegment_ctx (c : CtxId) (j : CtxId) : (s.catchSegment c).ctx j = s.ctx j := by simp [ctx]
@[simp] theorem catchSegment_trunk (c : CtxId) (j : Trunk) : (s.catchSegment c).trunk j = s.trunk j := by cases j <;> simp [trunk]
@[simp] theorem catchSegment_path (c : CtxId) (j : CtxId) : (s.catchSegment c).path j = s.path j := by simp [path]
@[simp] theorem catchSegment_segment (c : CtxId) (j : SegId) : (s.catchSegment c).segment j = s.segment j := by simp [segment]
@[simp] theorem catchSegment_service (c : CtxId) (j : Trunk) : (s.catchSegment c).service j = s.service j := by cases j <;> simp [service]
@[simp] theorem catchSegment_param (c : CtxId) (j : Fin 25) : (s.catchSegment c).param j = s.param j := by simp [param]

/-! ### modPost -/

theorem modPost_frame (l : LoopId) (place : Nat) (f : Post → Post) : s.modPost l place f = { s with
    rings := (s.modPost l place f).rings } := by
  apply State.ext <;> first | with_reducible rfl | (simp [modPost])
@[simp] theorem modPost_pending (l : LoopId) (place : Nat) (f : Post → Post) : (s.modPost l place f).pending = s.pending := by rw [modPost_frame]
@[simp] theorem modPost_handed (l : LoopId) (place : Nat) (f : Post → Post) : (s.modPost l place f).handed = s.handed := by rw [modPost_frame]
@[simp] theorem modPost_loops (l : LoopId) (place : Nat) (f : Post → Post) : (s.modPost l place f).loops = s.loops := by rw [modPost_frame]
@[simp] theorem modPost_feeds (l : LoopId) (place : Nat) (f : Post → Post) : (s.modPost l place f).feeds = s.feeds := by rw [modPost_frame]
@[simp] theorem modPost_supply (l : LoopId) (place : Nat) (f : Post → Post) : (s.modPost l place f).supply = s.supply := by rw [modPost_frame]
@[simp] theorem modPost_directory (l : LoopId) (place : Nat) (f : Post → Post) : (s.modPost l place f).directory = s.directory := by rw [modPost_frame]
@[simp] theorem modPost_contexts (l : LoopId) (place : Nat) (f : Post → Post) : (s.modPost l place f).contexts = s.contexts := by rw [modPost_frame]
@[simp] theorem modPost_waiting (l : LoopId) (place : Nat) (f : Post → Post) : (s.modPost l place f).waiting = s.waiting := by rw [modPost_frame]
@[simp] theorem modPost_entryCount (l : LoopId) (place : Nat) (f : Post → Post) : (s.modPost l place f).entryCount = s.entryCount := by rw [modPost_frame]
@[simp] theorem modPost_routes (l : LoopId) (place : Nat) (f : Post → Post) : (s.modPost l place f).routes = s.routes := by rw [modPost_frame]
@[simp] theorem modPost_plan (l : LoopId) (place : Nat) (f : Post → Post) : (s.modPost l place f).plan = s.plan := by rw [modPost_frame]
@[simp] theorem modPost_trunkA (l : LoopId) (place : Nat) (f : Post → Post) : (s.modPost l place f).trunkA = s.trunkA := by rw [modPost_frame]
@[simp] theorem modPost_trunkB (l : LoopId) (place : Nat) (f : Post → Post) : (s.modPost l place f).trunkB = s.trunkB := by rw [modPost_frame]
@[simp] theorem modPost_paths (l : LoopId) (place : Nat) (f : Post → Post) : (s.modPost l place f).paths = s.paths := by rw [modPost_frame]
@[simp] theorem modPost_samples (l : LoopId) (place : Nat) (f : Post → Post) : (s.modPost l place f).samples = s.samples := by rw [modPost_frame]
@[simp] theorem modPost_segments (l : LoopId) (place : Nat) (f : Post → Post) : (s.modPost l place f).segments = s.segments := by rw [modPost_frame]
@[simp] theorem modPost_players (l : LoopId) (place : Nat) (f : Post → Post) : (s.modPost l place f).players = s.players := by rw [modPost_frame]
@[simp] theorem modPost_serviceA (l : LoopId) (place : Nat) (f : Post → Post) : (s.modPost l place f).serviceA = s.serviceA := by rw [modPost_frame]
@[simp] theorem modPost_serviceB (l : LoopId) (place : Nat) (f : Post → Post) : (s.modPost l place f).serviceB = s.serviceB := by rw [modPost_frame]
@[simp] theorem modPost_home (l : LoopId) (place : Nat) (f : Post → Post) : (s.modPost l place f).home = s.home := by rw [modPost_frame]
@[simp] theorem modPost_settings (l : LoopId) (place : Nat) (f : Post → Post) : (s.modPost l place f).settings = s.settings := by rw [modPost_frame]
@[simp] theorem modPost_sectionFault (l : LoopId) (place : Nat) (f : Post → Post) : (s.modPost l place f).sectionFault = s.sectionFault := by rw [modPost_frame]
@[simp] theorem modPost_trunkFaultA (l : LoopId) (place : Nat) (f : Post → Post) : (s.modPost l place f).trunkFaultA = s.trunkFaultA := by rw [modPost_frame]
@[simp] theorem modPost_trunkFaultB (l : LoopId) (place : Nat) (f : Post → Post) : (s.modPost l place f).trunkFaultB = s.trunkFaultB := by rw [modPost_frame]
@[simp] theorem modPost_loopFaults (l : LoopId) (place : Nat) (f : Post → Post) : (s.modPost l place f).loopFaults = s.loopFaults := by rw [modPost_frame]
@[simp] theorem modPost_postFaults (l : LoopId) (place : Nat) (f : Post → Post) : (s.modPost l place f).postFaults = s.postFaults := by rw [modPost_frame]
@[simp] theorem modPost_testResults (l : LoopId) (place : Nat) (f : Post → Post) : (s.modPost l place f).testResults = s.testResults := by rw [modPost_frame]
@[simp] theorem modPost_marks (l : LoopId) (place : Nat) (f : Post → Post) : (s.modPost l place f).marks = s.marks := by rw [modPost_frame]
@[simp] theorem modPost_abandons (l : LoopId) (place : Nat) (f : Post → Post) : (s.modPost l place f).abandons = s.abandons := by rw [modPost_frame]
@[simp] theorem modPost_abandonPosts (l : LoopId) (place : Nat) (f : Post → Post) : (s.modPost l place f).abandonPosts = s.abandonPosts := by rw [modPost_frame]
@[simp] theorem modPost_mask (l : LoopId) (place : Nat) (f : Post → Post) : (s.modPost l place f).mask = s.mask := by rw [modPost_frame]
@[simp] theorem modPost_loop (l : LoopId) (place : Nat) (f : Post → Post) (j : LoopId) : (s.modPost l place f).loop j = s.loop j := by simp [loop]
@[simp] theorem modPost_feed (l : LoopId) (place : Nat) (f : Post → Post) (j : LoopId) : (s.modPost l place f).feed j = s.feed j := by simp [feed]
@[simp] theorem modPost_record (l : LoopId) (place : Nat) (f : Post → Post) (j : SlotId) : (s.modPost l place f).record j = s.record j := by simp [record]
@[simp] theorem modPost_ctx (l : LoopId) (place : Nat) (f : Post → Post) (j : CtxId) : (s.modPost l place f).ctx j = s.ctx j := by simp [ctx]
@[simp] theorem modPost_trunk (l : LoopId) (place : Nat) (f : Post → Post) (j : Trunk) : (s.modPost l place f).trunk j = s.trunk j := by cases j <;> simp [trunk]
@[simp] theorem modPost_path (l : LoopId) (place : Nat) (f : Post → Post) (j : CtxId) : (s.modPost l place f).path j = s.path j := by simp [path]
@[simp] theorem modPost_player (l : LoopId) (place : Nat) (f : Post → Post) (j : CtxId) : (s.modPost l place f).player j = s.player j := by simp [player]
@[simp] theorem modPost_segment (l : LoopId) (place : Nat) (f : Post → Post) (j : SegId) : (s.modPost l place f).segment j = s.segment j := by simp [segment]
@[simp] theorem modPost_service (l : LoopId) (place : Nat) (f : Post → Post) (j : Trunk) : (s.modPost l place f).service j = s.service j := by cases j <;> simp [service]
@[simp] theorem modPost_param (l : LoopId) (place : Nat) (f : Post → Post) (j : Fin 25) : (s.modPost l place f).param j = s.param j := by simp [param]

/-! ### countClip -/

theorem countClip_frame (c : CtxId) (clips : Bool) : s.countClip c clips = { s with
    contexts := (s.countClip c clips).contexts } := by
  apply State.ext <;> first | with_reducible rfl | (unfold countClip; dsimp only; (repeat' split) <;> simp)
@[simp] theorem countClip_pending (c : CtxId) (clips : Bool) : (s.countClip c clips).pending = s.pending := by rw [countClip_frame]
@[simp] theorem countClip_handed (c : CtxId) (clips : Bool) : (s.countClip c clips).handed = s.handed := by rw [countClip_frame]
@[simp] theorem countClip_loops (c : CtxId) (clips : Bool) : (s.countClip c clips).loops = s.loops := by rw [countClip_frame]
@[simp] theorem countClip_rings (c : CtxId) (clips : Bool) : (s.countClip c clips).rings = s.rings := by rw [countClip_frame]
@[simp] theorem countClip_feeds (c : CtxId) (clips : Bool) : (s.countClip c clips).feeds = s.feeds := by rw [countClip_frame]
@[simp] theorem countClip_supply (c : CtxId) (clips : Bool) : (s.countClip c clips).supply = s.supply := by rw [countClip_frame]
@[simp] theorem countClip_directory (c : CtxId) (clips : Bool) : (s.countClip c clips).directory = s.directory := by rw [countClip_frame]
@[simp] theorem countClip_waiting (c : CtxId) (clips : Bool) : (s.countClip c clips).waiting = s.waiting := by rw [countClip_frame]
@[simp] theorem countClip_entryCount (c : CtxId) (clips : Bool) : (s.countClip c clips).entryCount = s.entryCount := by rw [countClip_frame]
@[simp] theorem countClip_routes (c : CtxId) (clips : Bool) : (s.countClip c clips).routes = s.routes := by rw [countClip_frame]
@[simp] theorem countClip_plan (c : CtxId) (clips : Bool) : (s.countClip c clips).plan = s.plan := by rw [countClip_frame]
@[simp] theorem countClip_trunkA (c : CtxId) (clips : Bool) : (s.countClip c clips).trunkA = s.trunkA := by rw [countClip_frame]
@[simp] theorem countClip_trunkB (c : CtxId) (clips : Bool) : (s.countClip c clips).trunkB = s.trunkB := by rw [countClip_frame]
@[simp] theorem countClip_paths (c : CtxId) (clips : Bool) : (s.countClip c clips).paths = s.paths := by rw [countClip_frame]
@[simp] theorem countClip_samples (c : CtxId) (clips : Bool) : (s.countClip c clips).samples = s.samples := by rw [countClip_frame]
@[simp] theorem countClip_segments (c : CtxId) (clips : Bool) : (s.countClip c clips).segments = s.segments := by rw [countClip_frame]
@[simp] theorem countClip_players (c : CtxId) (clips : Bool) : (s.countClip c clips).players = s.players := by rw [countClip_frame]
@[simp] theorem countClip_serviceA (c : CtxId) (clips : Bool) : (s.countClip c clips).serviceA = s.serviceA := by rw [countClip_frame]
@[simp] theorem countClip_serviceB (c : CtxId) (clips : Bool) : (s.countClip c clips).serviceB = s.serviceB := by rw [countClip_frame]
@[simp] theorem countClip_home (c : CtxId) (clips : Bool) : (s.countClip c clips).home = s.home := by rw [countClip_frame]
@[simp] theorem countClip_settings (c : CtxId) (clips : Bool) : (s.countClip c clips).settings = s.settings := by rw [countClip_frame]
@[simp] theorem countClip_sectionFault (c : CtxId) (clips : Bool) : (s.countClip c clips).sectionFault = s.sectionFault := by rw [countClip_frame]
@[simp] theorem countClip_trunkFaultA (c : CtxId) (clips : Bool) : (s.countClip c clips).trunkFaultA = s.trunkFaultA := by rw [countClip_frame]
@[simp] theorem countClip_trunkFaultB (c : CtxId) (clips : Bool) : (s.countClip c clips).trunkFaultB = s.trunkFaultB := by rw [countClip_frame]
@[simp] theorem countClip_loopFaults (c : CtxId) (clips : Bool) : (s.countClip c clips).loopFaults = s.loopFaults := by rw [countClip_frame]
@[simp] theorem countClip_postFaults (c : CtxId) (clips : Bool) : (s.countClip c clips).postFaults = s.postFaults := by rw [countClip_frame]
@[simp] theorem countClip_testResults (c : CtxId) (clips : Bool) : (s.countClip c clips).testResults = s.testResults := by rw [countClip_frame]
@[simp] theorem countClip_marks (c : CtxId) (clips : Bool) : (s.countClip c clips).marks = s.marks := by rw [countClip_frame]
@[simp] theorem countClip_abandons (c : CtxId) (clips : Bool) : (s.countClip c clips).abandons = s.abandons := by rw [countClip_frame]
@[simp] theorem countClip_abandonPosts (c : CtxId) (clips : Bool) : (s.countClip c clips).abandonPosts = s.abandonPosts := by rw [countClip_frame]
@[simp] theorem countClip_mask (c : CtxId) (clips : Bool) : (s.countClip c clips).mask = s.mask := by rw [countClip_frame]
@[simp] theorem countClip_loop (c : CtxId) (clips : Bool) (j : LoopId) : (s.countClip c clips).loop j = s.loop j := by simp [loop]
@[simp] theorem countClip_ring (c : CtxId) (clips : Bool) (j : LoopId) : (s.countClip c clips).ring j = s.ring j := by simp [ring]
@[simp] theorem countClip_feed (c : CtxId) (clips : Bool) (j : LoopId) : (s.countClip c clips).feed j = s.feed j := by simp [feed]
@[simp] theorem countClip_record (c : CtxId) (clips : Bool) (j : SlotId) : (s.countClip c clips).record j = s.record j := by simp [record]
@[simp] theorem countClip_trunk (c : CtxId) (clips : Bool) (j : Trunk) : (s.countClip c clips).trunk j = s.trunk j := by cases j <;> simp [trunk]
@[simp] theorem countClip_path (c : CtxId) (clips : Bool) (j : CtxId) : (s.countClip c clips).path j = s.path j := by simp [path]
@[simp] theorem countClip_player (c : CtxId) (clips : Bool) (j : CtxId) : (s.countClip c clips).player j = s.player j := by simp [player]
@[simp] theorem countClip_segment (c : CtxId) (clips : Bool) (j : SegId) : (s.countClip c clips).segment j = s.segment j := by simp [segment]
@[simp] theorem countClip_service (c : CtxId) (clips : Bool) (j : Trunk) : (s.countClip c clips).service j = s.service j := by cases j <;> simp [service]
@[simp] theorem countClip_param (c : CtxId) (clips : Bool) (j : Fin 25) : (s.countClip c clips).param j = s.param j := by simp [param]

/-! ### throughGain -/

theorem throughGain_frame (c : CtxId) (x : Int) (g : Nat) : (s.throughGain c x g).1 = { s with
    contexts := ((s.throughGain c x g).1).contexts } := by
  apply State.ext <;> first | with_reducible rfl | (simp [throughGain])
@[simp] theorem throughGain_pending (c : CtxId) (x : Int) (g : Nat) : ((s.throughGain c x g).1).pending = s.pending := by rw [throughGain_frame]
@[simp] theorem throughGain_handed (c : CtxId) (x : Int) (g : Nat) : ((s.throughGain c x g).1).handed = s.handed := by rw [throughGain_frame]
@[simp] theorem throughGain_loops (c : CtxId) (x : Int) (g : Nat) : ((s.throughGain c x g).1).loops = s.loops := by rw [throughGain_frame]
@[simp] theorem throughGain_rings (c : CtxId) (x : Int) (g : Nat) : ((s.throughGain c x g).1).rings = s.rings := by rw [throughGain_frame]
@[simp] theorem throughGain_feeds (c : CtxId) (x : Int) (g : Nat) : ((s.throughGain c x g).1).feeds = s.feeds := by rw [throughGain_frame]
@[simp] theorem throughGain_supply (c : CtxId) (x : Int) (g : Nat) : ((s.throughGain c x g).1).supply = s.supply := by rw [throughGain_frame]
@[simp] theorem throughGain_directory (c : CtxId) (x : Int) (g : Nat) : ((s.throughGain c x g).1).directory = s.directory := by rw [throughGain_frame]
@[simp] theorem throughGain_waiting (c : CtxId) (x : Int) (g : Nat) : ((s.throughGain c x g).1).waiting = s.waiting := by rw [throughGain_frame]
@[simp] theorem throughGain_entryCount (c : CtxId) (x : Int) (g : Nat) : ((s.throughGain c x g).1).entryCount = s.entryCount := by rw [throughGain_frame]
@[simp] theorem throughGain_routes (c : CtxId) (x : Int) (g : Nat) : ((s.throughGain c x g).1).routes = s.routes := by rw [throughGain_frame]
@[simp] theorem throughGain_plan (c : CtxId) (x : Int) (g : Nat) : ((s.throughGain c x g).1).plan = s.plan := by rw [throughGain_frame]
@[simp] theorem throughGain_trunkA (c : CtxId) (x : Int) (g : Nat) : ((s.throughGain c x g).1).trunkA = s.trunkA := by rw [throughGain_frame]
@[simp] theorem throughGain_trunkB (c : CtxId) (x : Int) (g : Nat) : ((s.throughGain c x g).1).trunkB = s.trunkB := by rw [throughGain_frame]
@[simp] theorem throughGain_paths (c : CtxId) (x : Int) (g : Nat) : ((s.throughGain c x g).1).paths = s.paths := by rw [throughGain_frame]
@[simp] theorem throughGain_samples (c : CtxId) (x : Int) (g : Nat) : ((s.throughGain c x g).1).samples = s.samples := by rw [throughGain_frame]
@[simp] theorem throughGain_segments (c : CtxId) (x : Int) (g : Nat) : ((s.throughGain c x g).1).segments = s.segments := by rw [throughGain_frame]
@[simp] theorem throughGain_players (c : CtxId) (x : Int) (g : Nat) : ((s.throughGain c x g).1).players = s.players := by rw [throughGain_frame]
@[simp] theorem throughGain_serviceA (c : CtxId) (x : Int) (g : Nat) : ((s.throughGain c x g).1).serviceA = s.serviceA := by rw [throughGain_frame]
@[simp] theorem throughGain_serviceB (c : CtxId) (x : Int) (g : Nat) : ((s.throughGain c x g).1).serviceB = s.serviceB := by rw [throughGain_frame]
@[simp] theorem throughGain_home (c : CtxId) (x : Int) (g : Nat) : ((s.throughGain c x g).1).home = s.home := by rw [throughGain_frame]
@[simp] theorem throughGain_settings (c : CtxId) (x : Int) (g : Nat) : ((s.throughGain c x g).1).settings = s.settings := by rw [throughGain_frame]
@[simp] theorem throughGain_sectionFault (c : CtxId) (x : Int) (g : Nat) : ((s.throughGain c x g).1).sectionFault = s.sectionFault := by rw [throughGain_frame]
@[simp] theorem throughGain_trunkFaultA (c : CtxId) (x : Int) (g : Nat) : ((s.throughGain c x g).1).trunkFaultA = s.trunkFaultA := by rw [throughGain_frame]
@[simp] theorem throughGain_trunkFaultB (c : CtxId) (x : Int) (g : Nat) : ((s.throughGain c x g).1).trunkFaultB = s.trunkFaultB := by rw [throughGain_frame]
@[simp] theorem throughGain_loopFaults (c : CtxId) (x : Int) (g : Nat) : ((s.throughGain c x g).1).loopFaults = s.loopFaults := by rw [throughGain_frame]
@[simp] theorem throughGain_postFaults (c : CtxId) (x : Int) (g : Nat) : ((s.throughGain c x g).1).postFaults = s.postFaults := by rw [throughGain_frame]
@[simp] theorem throughGain_testResults (c : CtxId) (x : Int) (g : Nat) : ((s.throughGain c x g).1).testResults = s.testResults := by rw [throughGain_frame]
@[simp] theorem throughGain_marks (c : CtxId) (x : Int) (g : Nat) : ((s.throughGain c x g).1).marks = s.marks := by rw [throughGain_frame]
@[simp] theorem throughGain_abandons (c : CtxId) (x : Int) (g : Nat) : ((s.throughGain c x g).1).abandons = s.abandons := by rw [throughGain_frame]
@[simp] theorem throughGain_abandonPosts (c : CtxId) (x : Int) (g : Nat) : ((s.throughGain c x g).1).abandonPosts = s.abandonPosts := by rw [throughGain_frame]
@[simp] theorem throughGain_mask (c : CtxId) (x : Int) (g : Nat) : ((s.throughGain c x g).1).mask = s.mask := by rw [throughGain_frame]
@[simp] theorem throughGain_loop (c : CtxId) (x : Int) (g : Nat) (j : LoopId) : ((s.throughGain c x g).1).loop j = s.loop j := by simp [loop]
@[simp] theorem throughGain_ring (c : CtxId) (x : Int) (g : Nat) (j : LoopId) : ((s.throughGain c x g).1).ring j = s.ring j := by simp [ring]
@[simp] theorem throughGain_feed (c : CtxId) (x : Int) (g : Nat) (j : LoopId) : ((s.throughGain c x g).1).feed j = s.feed j := by simp [feed]
@[simp] theorem throughGain_record (c : CtxId) (x : Int) (g : Nat) (j : SlotId) : ((s.throughGain c x g).1).record j = s.record j := by simp [record]
@[simp] theorem throughGain_trunk (c : CtxId) (x : Int) (g : Nat) (j : Trunk) : ((s.throughGain c x g).1).trunk j = s.trunk j := by cases j <;> simp [trunk]
@[simp] theorem throughGain_path (c : CtxId) (x : Int) (g : Nat) (j : CtxId) : ((s.throughGain c x g).1).path j = s.path j := by simp [path]
@[simp] theorem throughGain_player (c : CtxId) (x : Int) (g : Nat) (j : CtxId) : ((s.throughGain c x g).1).player j = s.player j := by simp [player]
@[simp] theorem throughGain_segment (c : CtxId) (x : Int) (g : Nat) (j : SegId) : ((s.throughGain c x g).1).segment j = s.segment j := by simp [segment]
@[simp] theorem throughGain_service (c : CtxId) (x : Int) (g : Nat) (j : Trunk) : ((s.throughGain c x g).1).service j = s.service j := by cases j <;> simp [service]
@[simp] theorem throughGain_param (c : CtxId) (x : Int) (g : Nat) (j : Fin 25) : ((s.throughGain c x g).1).param j = s.param j := by simp [param]

/-! ### playerSample -/

theorem playerSample_frame (c : CtxId) (gain : Nat) : (s.playerSample c gain).1 = { s with
    contexts := ((s.playerSample c gain).1).contexts
    players := ((s.playerSample c gain).1).players
    handed := ((s.playerSample c gain).1).handed } := by
  apply State.ext <;> first | with_reducible rfl | (simp [playerSample])
@[simp] theorem playerSample_pending (c : CtxId) (gain : Nat) : ((s.playerSample c gain).1).pending = s.pending := by rw [playerSample_frame]
@[simp] theorem playerSample_loops (c : CtxId) (gain : Nat) : ((s.playerSample c gain).1).loops = s.loops := by rw [playerSample_frame]
@[simp] theorem playerSample_rings (c : CtxId) (gain : Nat) : ((s.playerSample c gain).1).rings = s.rings := by rw [playerSample_frame]
@[simp] theorem playerSample_feeds (c : CtxId) (gain : Nat) : ((s.playerSample c gain).1).feeds = s.feeds := by rw [playerSample_frame]
@[simp] theorem playerSample_supply (c : CtxId) (gain : Nat) : ((s.playerSample c gain).1).supply = s.supply := by rw [playerSample_frame]
@[simp] theorem playerSample_directory (c : CtxId) (gain : Nat) : ((s.playerSample c gain).1).directory = s.directory := by rw [playerSample_frame]
@[simp] theorem playerSample_waiting (c : CtxId) (gain : Nat) : ((s.playerSample c gain).1).waiting = s.waiting := by rw [playerSample_frame]
@[simp] theorem playerSample_entryCount (c : CtxId) (gain : Nat) : ((s.playerSample c gain).1).entryCount = s.entryCount := by rw [playerSample_frame]
@[simp] theorem playerSample_routes (c : CtxId) (gain : Nat) : ((s.playerSample c gain).1).routes = s.routes := by rw [playerSample_frame]
@[simp] theorem playerSample_plan (c : CtxId) (gain : Nat) : ((s.playerSample c gain).1).plan = s.plan := by rw [playerSample_frame]
@[simp] theorem playerSample_trunkA (c : CtxId) (gain : Nat) : ((s.playerSample c gain).1).trunkA = s.trunkA := by rw [playerSample_frame]
@[simp] theorem playerSample_trunkB (c : CtxId) (gain : Nat) : ((s.playerSample c gain).1).trunkB = s.trunkB := by rw [playerSample_frame]
@[simp] theorem playerSample_paths (c : CtxId) (gain : Nat) : ((s.playerSample c gain).1).paths = s.paths := by rw [playerSample_frame]
@[simp] theorem playerSample_samples (c : CtxId) (gain : Nat) : ((s.playerSample c gain).1).samples = s.samples := by rw [playerSample_frame]
@[simp] theorem playerSample_segments (c : CtxId) (gain : Nat) : ((s.playerSample c gain).1).segments = s.segments := by rw [playerSample_frame]
@[simp] theorem playerSample_serviceA (c : CtxId) (gain : Nat) : ((s.playerSample c gain).1).serviceA = s.serviceA := by rw [playerSample_frame]
@[simp] theorem playerSample_serviceB (c : CtxId) (gain : Nat) : ((s.playerSample c gain).1).serviceB = s.serviceB := by rw [playerSample_frame]
@[simp] theorem playerSample_home (c : CtxId) (gain : Nat) : ((s.playerSample c gain).1).home = s.home := by rw [playerSample_frame]
@[simp] theorem playerSample_settings (c : CtxId) (gain : Nat) : ((s.playerSample c gain).1).settings = s.settings := by rw [playerSample_frame]
@[simp] theorem playerSample_sectionFault (c : CtxId) (gain : Nat) : ((s.playerSample c gain).1).sectionFault = s.sectionFault := by rw [playerSample_frame]
@[simp] theorem playerSample_trunkFaultA (c : CtxId) (gain : Nat) : ((s.playerSample c gain).1).trunkFaultA = s.trunkFaultA := by rw [playerSample_frame]
@[simp] theorem playerSample_trunkFaultB (c : CtxId) (gain : Nat) : ((s.playerSample c gain).1).trunkFaultB = s.trunkFaultB := by rw [playerSample_frame]
@[simp] theorem playerSample_loopFaults (c : CtxId) (gain : Nat) : ((s.playerSample c gain).1).loopFaults = s.loopFaults := by rw [playerSample_frame]
@[simp] theorem playerSample_postFaults (c : CtxId) (gain : Nat) : ((s.playerSample c gain).1).postFaults = s.postFaults := by rw [playerSample_frame]
@[simp] theorem playerSample_testResults (c : CtxId) (gain : Nat) : ((s.playerSample c gain).1).testResults = s.testResults := by rw [playerSample_frame]
@[simp] theorem playerSample_marks (c : CtxId) (gain : Nat) : ((s.playerSample c gain).1).marks = s.marks := by rw [playerSample_frame]
@[simp] theorem playerSample_abandons (c : CtxId) (gain : Nat) : ((s.playerSample c gain).1).abandons = s.abandons := by rw [playerSample_frame]
@[simp] theorem playerSample_abandonPosts (c : CtxId) (gain : Nat) : ((s.playerSample c gain).1).abandonPosts = s.abandonPosts := by rw [playerSample_frame]
@[simp] theorem playerSample_mask (c : CtxId) (gain : Nat) : ((s.playerSample c gain).1).mask = s.mask := by rw [playerSample_frame]
@[simp] theorem playerSample_loop (c : CtxId) (gain : Nat) (j : LoopId) : ((s.playerSample c gain).1).loop j = s.loop j := by simp [loop]
@[simp] theorem playerSample_ring (c : CtxId) (gain : Nat) (j : LoopId) : ((s.playerSample c gain).1).ring j = s.ring j := by simp [ring]
@[simp] theorem playerSample_feed (c : CtxId) (gain : Nat) (j : LoopId) : ((s.playerSample c gain).1).feed j = s.feed j := by simp [feed]
@[simp] theorem playerSample_record (c : CtxId) (gain : Nat) (j : SlotId) : ((s.playerSample c gain).1).record j = s.record j := by simp [record]
@[simp] theorem playerSample_trunk (c : CtxId) (gain : Nat) (j : Trunk) : ((s.playerSample c gain).1).trunk j = s.trunk j := by cases j <;> simp [trunk]
@[simp] theorem playerSample_path (c : CtxId) (gain : Nat) (j : CtxId) : ((s.playerSample c gain).1).path j = s.path j := by simp [path]
@[simp] theorem playerSample_segment (c : CtxId) (gain : Nat) (j : SegId) : ((s.playerSample c gain).1).segment j = s.segment j := by simp [segment]
@[simp] theorem playerSample_service (c : CtxId) (gain : Nat) (j : Trunk) : ((s.playerSample c gain).1).service j = s.service j := by cases j <;> simp [service]
@[simp] theorem playerSample_param (c : CtxId) (gain : Nat) (j : Fin 25) : ((s.playerSample c gain).1).param j = s.param j := by simp [param]

/-! ### downSample -/

theorem downSample_frame (c : CtxId) : (s.downSample c).1 = { s with
    contexts := ((s.downSample c).1).contexts
    players := ((s.downSample c).1).players
    handed := ((s.downSample c).1).handed } := by
  apply State.ext <;> first | with_reducible rfl | (unfold downSample; dsimp only; (repeat' split) <;> simp)
@[simp] theorem downSample_pending (c : CtxId) : ((s.downSample c).1).pending = s.pending := by rw [downSample_frame]
@[simp] theorem downSample_loops (c : CtxId) : ((s.downSample c).1).loops = s.loops := by rw [downSample_frame]
@[simp] theorem downSample_rings (c : CtxId) : ((s.downSample c).1).rings = s.rings := by rw [downSample_frame]
@[simp] theorem downSample_feeds (c : CtxId) : ((s.downSample c).1).feeds = s.feeds := by rw [downSample_frame]
@[simp] theorem downSample_supply (c : CtxId) : ((s.downSample c).1).supply = s.supply := by rw [downSample_frame]
@[simp] theorem downSample_directory (c : CtxId) : ((s.downSample c).1).directory = s.directory := by rw [downSample_frame]
@[simp] theorem downSample_waiting (c : CtxId) : ((s.downSample c).1).waiting = s.waiting := by rw [downSample_frame]
@[simp] theorem downSample_entryCount (c : CtxId) : ((s.downSample c).1).entryCount = s.entryCount := by rw [downSample_frame]
@[simp] theorem downSample_routes (c : CtxId) : ((s.downSample c).1).routes = s.routes := by rw [downSample_frame]
@[simp] theorem downSample_plan (c : CtxId) : ((s.downSample c).1).plan = s.plan := by rw [downSample_frame]
@[simp] theorem downSample_trunkA (c : CtxId) : ((s.downSample c).1).trunkA = s.trunkA := by rw [downSample_frame]
@[simp] theorem downSample_trunkB (c : CtxId) : ((s.downSample c).1).trunkB = s.trunkB := by rw [downSample_frame]
@[simp] theorem downSample_paths (c : CtxId) : ((s.downSample c).1).paths = s.paths := by rw [downSample_frame]
@[simp] theorem downSample_samples (c : CtxId) : ((s.downSample c).1).samples = s.samples := by rw [downSample_frame]
@[simp] theorem downSample_segments (c : CtxId) : ((s.downSample c).1).segments = s.segments := by rw [downSample_frame]
@[simp] theorem downSample_serviceA (c : CtxId) : ((s.downSample c).1).serviceA = s.serviceA := by rw [downSample_frame]
@[simp] theorem downSample_serviceB (c : CtxId) : ((s.downSample c).1).serviceB = s.serviceB := by rw [downSample_frame]
@[simp] theorem downSample_home (c : CtxId) : ((s.downSample c).1).home = s.home := by rw [downSample_frame]
@[simp] theorem downSample_settings (c : CtxId) : ((s.downSample c).1).settings = s.settings := by rw [downSample_frame]
@[simp] theorem downSample_sectionFault (c : CtxId) : ((s.downSample c).1).sectionFault = s.sectionFault := by rw [downSample_frame]
@[simp] theorem downSample_trunkFaultA (c : CtxId) : ((s.downSample c).1).trunkFaultA = s.trunkFaultA := by rw [downSample_frame]
@[simp] theorem downSample_trunkFaultB (c : CtxId) : ((s.downSample c).1).trunkFaultB = s.trunkFaultB := by rw [downSample_frame]
@[simp] theorem downSample_loopFaults (c : CtxId) : ((s.downSample c).1).loopFaults = s.loopFaults := by rw [downSample_frame]
@[simp] theorem downSample_postFaults (c : CtxId) : ((s.downSample c).1).postFaults = s.postFaults := by rw [downSample_frame]
@[simp] theorem downSample_testResults (c : CtxId) : ((s.downSample c).1).testResults = s.testResults := by rw [downSample_frame]
@[simp] theorem downSample_marks (c : CtxId) : ((s.downSample c).1).marks = s.marks := by rw [downSample_frame]
@[simp] theorem downSample_abandons (c : CtxId) : ((s.downSample c).1).abandons = s.abandons := by rw [downSample_frame]
@[simp] theorem downSample_abandonPosts (c : CtxId) : ((s.downSample c).1).abandonPosts = s.abandonPosts := by rw [downSample_frame]
@[simp] theorem downSample_mask (c : CtxId) : ((s.downSample c).1).mask = s.mask := by rw [downSample_frame]
@[simp] theorem downSample_loop (c : CtxId) (j : LoopId) : ((s.downSample c).1).loop j = s.loop j := by simp [loop]
@[simp] theorem downSample_ring (c : CtxId) (j : LoopId) : ((s.downSample c).1).ring j = s.ring j := by simp [ring]
@[simp] theorem downSample_feed (c : CtxId) (j : LoopId) : ((s.downSample c).1).feed j = s.feed j := by simp [feed]
@[simp] theorem downSample_record (c : CtxId) (j : SlotId) : ((s.downSample c).1).record j = s.record j := by simp [record]
@[simp] theorem downSample_trunk (c : CtxId) (j : Trunk) : ((s.downSample c).1).trunk j = s.trunk j := by cases j <;> simp [trunk]
@[simp] theorem downSample_path (c : CtxId) (j : CtxId) : ((s.downSample c).1).path j = s.path j := by simp [path]
@[simp] theorem downSample_segment (c : CtxId) (j : SegId) : ((s.downSample c).1).segment j = s.segment j := by simp [segment]
@[simp] theorem downSample_service (c : CtxId) (j : Trunk) : ((s.downSample c).1).service j = s.service j := by cases j <;> simp [service]
@[simp] theorem downSample_param (c : CtxId) (j : Fin 25) : ((s.downSample c).1).param j = s.param j := by simp [param]

/-! ### downCode -/

theorem downCode_frame (l : LoopId) (b : BearerId) : (s.downCode l b).1 = { s with
    contexts := ((s.downCode l b).1).contexts
    players := ((s.downCode l b).1).players
    handed := ((s.downCode l b).1).handed } := by
  apply State.ext <;> first | with_reducible rfl | (unfold downCode; dsimp only; (repeat' split) <;> simp)
@[simp] theorem downCode_pending (l : LoopId) (b : BearerId) : ((s.downCode l b).1).pending = s.pending := by rw [downCode_frame]
@[simp] theorem downCode_loops (l : LoopId) (b : BearerId) : ((s.downCode l b).1).loops = s.loops := by rw [downCode_frame]
@[simp] theorem downCode_rings (l : LoopId) (b : BearerId) : ((s.downCode l b).1).rings = s.rings := by rw [downCode_frame]
@[simp] theorem downCode_feeds (l : LoopId) (b : BearerId) : ((s.downCode l b).1).feeds = s.feeds := by rw [downCode_frame]
@[simp] theorem downCode_supply (l : LoopId) (b : BearerId) : ((s.downCode l b).1).supply = s.supply := by rw [downCode_frame]
@[simp] theorem downCode_directory (l : LoopId) (b : BearerId) : ((s.downCode l b).1).directory = s.directory := by rw [downCode_frame]
@[simp] theorem downCode_waiting (l : LoopId) (b : BearerId) : ((s.downCode l b).1).waiting = s.waiting := by rw [downCode_frame]
@[simp] theorem downCode_entryCount (l : LoopId) (b : BearerId) : ((s.downCode l b).1).entryCount = s.entryCount := by rw [downCode_frame]
@[simp] theorem downCode_routes (l : LoopId) (b : BearerId) : ((s.downCode l b).1).routes = s.routes := by rw [downCode_frame]
@[simp] theorem downCode_plan (l : LoopId) (b : BearerId) : ((s.downCode l b).1).plan = s.plan := by rw [downCode_frame]
@[simp] theorem downCode_trunkA (l : LoopId) (b : BearerId) : ((s.downCode l b).1).trunkA = s.trunkA := by rw [downCode_frame]
@[simp] theorem downCode_trunkB (l : LoopId) (b : BearerId) : ((s.downCode l b).1).trunkB = s.trunkB := by rw [downCode_frame]
@[simp] theorem downCode_paths (l : LoopId) (b : BearerId) : ((s.downCode l b).1).paths = s.paths := by rw [downCode_frame]
@[simp] theorem downCode_samples (l : LoopId) (b : BearerId) : ((s.downCode l b).1).samples = s.samples := by rw [downCode_frame]
@[simp] theorem downCode_segments (l : LoopId) (b : BearerId) : ((s.downCode l b).1).segments = s.segments := by rw [downCode_frame]
@[simp] theorem downCode_serviceA (l : LoopId) (b : BearerId) : ((s.downCode l b).1).serviceA = s.serviceA := by rw [downCode_frame]
@[simp] theorem downCode_serviceB (l : LoopId) (b : BearerId) : ((s.downCode l b).1).serviceB = s.serviceB := by rw [downCode_frame]
@[simp] theorem downCode_home (l : LoopId) (b : BearerId) : ((s.downCode l b).1).home = s.home := by rw [downCode_frame]
@[simp] theorem downCode_settings (l : LoopId) (b : BearerId) : ((s.downCode l b).1).settings = s.settings := by rw [downCode_frame]
@[simp] theorem downCode_sectionFault (l : LoopId) (b : BearerId) : ((s.downCode l b).1).sectionFault = s.sectionFault := by rw [downCode_frame]
@[simp] theorem downCode_trunkFaultA (l : LoopId) (b : BearerId) : ((s.downCode l b).1).trunkFaultA = s.trunkFaultA := by rw [downCode_frame]
@[simp] theorem downCode_trunkFaultB (l : LoopId) (b : BearerId) : ((s.downCode l b).1).trunkFaultB = s.trunkFaultB := by rw [downCode_frame]
@[simp] theorem downCode_loopFaults (l : LoopId) (b : BearerId) : ((s.downCode l b).1).loopFaults = s.loopFaults := by rw [downCode_frame]
@[simp] theorem downCode_postFaults (l : LoopId) (b : BearerId) : ((s.downCode l b).1).postFaults = s.postFaults := by rw [downCode_frame]
@[simp] theorem downCode_testResults (l : LoopId) (b : BearerId) : ((s.downCode l b).1).testResults = s.testResults := by rw [downCode_frame]
@[simp] theorem downCode_marks (l : LoopId) (b : BearerId) : ((s.downCode l b).1).marks = s.marks := by rw [downCode_frame]
@[simp] theorem downCode_abandons (l : LoopId) (b : BearerId) : ((s.downCode l b).1).abandons = s.abandons := by rw [downCode_frame]
@[simp] theorem downCode_abandonPosts (l : LoopId) (b : BearerId) : ((s.downCode l b).1).abandonPosts = s.abandonPosts := by rw [downCode_frame]
@[simp] theorem downCode_mask (l : LoopId) (b : BearerId) : ((s.downCode l b).1).mask = s.mask := by rw [downCode_frame]
@[simp] theorem downCode_loop (l : LoopId) (b : BearerId) (j : LoopId) : ((s.downCode l b).1).loop j = s.loop j := by simp [loop]
@[simp] theorem downCode_ring (l : LoopId) (b : BearerId) (j : LoopId) : ((s.downCode l b).1).ring j = s.ring j := by simp [ring]
@[simp] theorem downCode_feed (l : LoopId) (b : BearerId) (j : LoopId) : ((s.downCode l b).1).feed j = s.feed j := by simp [feed]
@[simp] theorem downCode_record (l : LoopId) (b : BearerId) (j : SlotId) : ((s.downCode l b).1).record j = s.record j := by simp [record]
@[simp] theorem downCode_trunk (l : LoopId) (b : BearerId) (j : Trunk) : ((s.downCode l b).1).trunk j = s.trunk j := by cases j <;> simp [trunk]
@[simp] theorem downCode_path (l : LoopId) (b : BearerId) (j : CtxId) : ((s.downCode l b).1).path j = s.path j := by simp [path]
@[simp] theorem downCode_segment (l : LoopId) (b : BearerId) (j : SegId) : ((s.downCode l b).1).segment j = s.segment j := by simp [segment]
@[simp] theorem downCode_service (l : LoopId) (b : BearerId) (j : Trunk) : ((s.downCode l b).1).service j = s.service j := by cases j <;> simp [service]
@[simp] theorem downCode_param (l : LoopId) (b : BearerId) (j : Fin 25) : ((s.downCode l b).1).param j = s.param j := by simp [param]

/-! ### downCodes -/

theorem downCodes_frame (l : LoopId) (bs : List BearerId) : (downCodes l bs s).1 = { s with
    contexts := ((downCodes l bs s).1).contexts
    players := ((downCodes l bs s).1).players
    handed := ((downCodes l bs s).1).handed } := by
  apply State.ext <;> first | with_reducible rfl | (induction bs generalizing s with | nil => rfl | cons b bs ih => simp [downCodes, ih])
@[simp] theorem downCodes_pending (l : LoopId) (bs : List BearerId) : ((downCodes l bs s).1).pending = s.pending := by rw [downCodes_frame]
@[simp] theorem downCodes_loops (l : LoopId) (bs : List BearerId) : ((downCodes l bs s).1).loops = s.loops := by rw [downCodes_frame]
@[simp] theorem downCodes_rings (l : LoopId) (bs : List BearerId) : ((downCodes l bs s).1).rings = s.rings := by rw [downCodes_frame]
@[simp] theorem downCodes_feeds (l : LoopId) (bs : List BearerId) : ((downCodes l bs s).1).feeds = s.feeds := by rw [downCodes_frame]
@[simp] theorem downCodes_supply (l : LoopId) (bs : List BearerId) : ((downCodes l bs s).1).supply = s.supply := by rw [downCodes_frame]
@[simp] theorem downCodes_directory (l : LoopId) (bs : List BearerId) : ((downCodes l bs s).1).directory = s.directory := by rw [downCodes_frame]
@[simp] theorem downCodes_waiting (l : LoopId) (bs : List BearerId) : ((downCodes l bs s).1).waiting = s.waiting := by rw [downCodes_frame]
@[simp] theorem downCodes_entryCount (l : LoopId) (bs : List BearerId) : ((downCodes l bs s).1).entryCount = s.entryCount := by rw [downCodes_frame]
@[simp] theorem downCodes_routes (l : LoopId) (bs : List BearerId) : ((downCodes l bs s).1).routes = s.routes := by rw [downCodes_frame]
@[simp] theorem downCodes_plan (l : LoopId) (bs : List BearerId) : ((downCodes l bs s).1).plan = s.plan := by rw [downCodes_frame]
@[simp] theorem downCodes_trunkA (l : LoopId) (bs : List BearerId) : ((downCodes l bs s).1).trunkA = s.trunkA := by rw [downCodes_frame]
@[simp] theorem downCodes_trunkB (l : LoopId) (bs : List BearerId) : ((downCodes l bs s).1).trunkB = s.trunkB := by rw [downCodes_frame]
@[simp] theorem downCodes_paths (l : LoopId) (bs : List BearerId) : ((downCodes l bs s).1).paths = s.paths := by rw [downCodes_frame]
@[simp] theorem downCodes_samples (l : LoopId) (bs : List BearerId) : ((downCodes l bs s).1).samples = s.samples := by rw [downCodes_frame]
@[simp] theorem downCodes_segments (l : LoopId) (bs : List BearerId) : ((downCodes l bs s).1).segments = s.segments := by rw [downCodes_frame]
@[simp] theorem downCodes_serviceA (l : LoopId) (bs : List BearerId) : ((downCodes l bs s).1).serviceA = s.serviceA := by rw [downCodes_frame]
@[simp] theorem downCodes_serviceB (l : LoopId) (bs : List BearerId) : ((downCodes l bs s).1).serviceB = s.serviceB := by rw [downCodes_frame]
@[simp] theorem downCodes_home (l : LoopId) (bs : List BearerId) : ((downCodes l bs s).1).home = s.home := by rw [downCodes_frame]
@[simp] theorem downCodes_settings (l : LoopId) (bs : List BearerId) : ((downCodes l bs s).1).settings = s.settings := by rw [downCodes_frame]
@[simp] theorem downCodes_sectionFault (l : LoopId) (bs : List BearerId) : ((downCodes l bs s).1).sectionFault = s.sectionFault := by rw [downCodes_frame]
@[simp] theorem downCodes_trunkFaultA (l : LoopId) (bs : List BearerId) : ((downCodes l bs s).1).trunkFaultA = s.trunkFaultA := by rw [downCodes_frame]
@[simp] theorem downCodes_trunkFaultB (l : LoopId) (bs : List BearerId) : ((downCodes l bs s).1).trunkFaultB = s.trunkFaultB := by rw [downCodes_frame]
@[simp] theorem downCodes_loopFaults (l : LoopId) (bs : List BearerId) : ((downCodes l bs s).1).loopFaults = s.loopFaults := by rw [downCodes_frame]
@[simp] theorem downCodes_postFaults (l : LoopId) (bs : List BearerId) : ((downCodes l bs s).1).postFaults = s.postFaults := by rw [downCodes_frame]
@[simp] theorem downCodes_testResults (l : LoopId) (bs : List BearerId) : ((downCodes l bs s).1).testResults = s.testResults := by rw [downCodes_frame]
@[simp] theorem downCodes_marks (l : LoopId) (bs : List BearerId) : ((downCodes l bs s).1).marks = s.marks := by rw [downCodes_frame]
@[simp] theorem downCodes_abandons (l : LoopId) (bs : List BearerId) : ((downCodes l bs s).1).abandons = s.abandons := by rw [downCodes_frame]
@[simp] theorem downCodes_abandonPosts (l : LoopId) (bs : List BearerId) : ((downCodes l bs s).1).abandonPosts = s.abandonPosts := by rw [downCodes_frame]
@[simp] theorem downCodes_mask (l : LoopId) (bs : List BearerId) : ((downCodes l bs s).1).mask = s.mask := by rw [downCodes_frame]
@[simp] theorem downCodes_loop (l : LoopId) (bs : List BearerId) (j : LoopId) : ((downCodes l bs s).1).loop j = s.loop j := by simp [loop]
@[simp] theorem downCodes_ring (l : LoopId) (bs : List BearerId) (j : LoopId) : ((downCodes l bs s).1).ring j = s.ring j := by simp [ring]
@[simp] theorem downCodes_feed (l : LoopId) (bs : List BearerId) (j : LoopId) : ((downCodes l bs s).1).feed j = s.feed j := by simp [feed]
@[simp] theorem downCodes_record (l : LoopId) (bs : List BearerId) (j : SlotId) : ((downCodes l bs s).1).record j = s.record j := by simp [record]
@[simp] theorem downCodes_trunk (l : LoopId) (bs : List BearerId) (j : Trunk) : ((downCodes l bs s).1).trunk j = s.trunk j := by cases j <;> simp [trunk]
@[simp] theorem downCodes_path (l : LoopId) (bs : List BearerId) (j : CtxId) : ((downCodes l bs s).1).path j = s.path j := by simp [path]
@[simp] theorem downCodes_segment (l : LoopId) (bs : List BearerId) (j : SegId) : ((downCodes l bs s).1).segment j = s.segment j := by simp [segment]
@[simp] theorem downCodes_service (l : LoopId) (bs : List BearerId) (j : Trunk) : ((downCodes l bs s).1).service j = s.service j := by cases j <;> simp [service]
@[simp] theorem downCodes_param (l : LoopId) (bs : List BearerId) (j : Fin 25) : ((downCodes l bs s).1).param j = s.param j := by simp [param]

/-! ### writeLeg -/

theorem writeLeg_frame (code : Byte) (g : Option Leg) : s.writeLeg code g = { s with
    trunkA := (s.writeLeg code g).trunkA
    trunkB := (s.writeLeg code g).trunkB } := by
  apply State.ext <;> first | with_reducible rfl | (unfold writeLeg; dsimp only; (repeat' split) <;> simp)
@[simp] theorem writeLeg_pending (code : Byte) (g : Option Leg) : (s.writeLeg code g).pending = s.pending := by rw [writeLeg_frame]
@[simp] theorem writeLeg_handed (code : Byte) (g : Option Leg) : (s.writeLeg code g).handed = s.handed := by rw [writeLeg_frame]
@[simp] theorem writeLeg_loops (code : Byte) (g : Option Leg) : (s.writeLeg code g).loops = s.loops := by rw [writeLeg_frame]
@[simp] theorem writeLeg_rings (code : Byte) (g : Option Leg) : (s.writeLeg code g).rings = s.rings := by rw [writeLeg_frame]
@[simp] theorem writeLeg_feeds (code : Byte) (g : Option Leg) : (s.writeLeg code g).feeds = s.feeds := by rw [writeLeg_frame]
@[simp] theorem writeLeg_supply (code : Byte) (g : Option Leg) : (s.writeLeg code g).supply = s.supply := by rw [writeLeg_frame]
@[simp] theorem writeLeg_directory (code : Byte) (g : Option Leg) : (s.writeLeg code g).directory = s.directory := by rw [writeLeg_frame]
@[simp] theorem writeLeg_contexts (code : Byte) (g : Option Leg) : (s.writeLeg code g).contexts = s.contexts := by rw [writeLeg_frame]
@[simp] theorem writeLeg_waiting (code : Byte) (g : Option Leg) : (s.writeLeg code g).waiting = s.waiting := by rw [writeLeg_frame]
@[simp] theorem writeLeg_entryCount (code : Byte) (g : Option Leg) : (s.writeLeg code g).entryCount = s.entryCount := by rw [writeLeg_frame]
@[simp] theorem writeLeg_routes (code : Byte) (g : Option Leg) : (s.writeLeg code g).routes = s.routes := by rw [writeLeg_frame]
@[simp] theorem writeLeg_plan (code : Byte) (g : Option Leg) : (s.writeLeg code g).plan = s.plan := by rw [writeLeg_frame]
@[simp] theorem writeLeg_paths (code : Byte) (g : Option Leg) : (s.writeLeg code g).paths = s.paths := by rw [writeLeg_frame]
@[simp] theorem writeLeg_samples (code : Byte) (g : Option Leg) : (s.writeLeg code g).samples = s.samples := by rw [writeLeg_frame]
@[simp] theorem writeLeg_segments (code : Byte) (g : Option Leg) : (s.writeLeg code g).segments = s.segments := by rw [writeLeg_frame]
@[simp] theorem writeLeg_players (code : Byte) (g : Option Leg) : (s.writeLeg code g).players = s.players := by rw [writeLeg_frame]
@[simp] theorem writeLeg_serviceA (code : Byte) (g : Option Leg) : (s.writeLeg code g).serviceA = s.serviceA := by rw [writeLeg_frame]
@[simp] theorem writeLeg_serviceB (code : Byte) (g : Option Leg) : (s.writeLeg code g).serviceB = s.serviceB := by rw [writeLeg_frame]
@[simp] theorem writeLeg_home (code : Byte) (g : Option Leg) : (s.writeLeg code g).home = s.home := by rw [writeLeg_frame]
@[simp] theorem writeLeg_settings (code : Byte) (g : Option Leg) : (s.writeLeg code g).settings = s.settings := by rw [writeLeg_frame]
@[simp] theorem writeLeg_sectionFault (code : Byte) (g : Option Leg) : (s.writeLeg code g).sectionFault = s.sectionFault := by rw [writeLeg_frame]
@[simp] theorem writeLeg_trunkFaultA (code : Byte) (g : Option Leg) : (s.writeLeg code g).trunkFaultA = s.trunkFaultA := by rw [writeLeg_frame]
@[simp] theorem writeLeg_trunkFaultB (code : Byte) (g : Option Leg) : (s.writeLeg code g).trunkFaultB = s.trunkFaultB := by rw [writeLeg_frame]
@[simp] theorem writeLeg_loopFaults (code : Byte) (g : Option Leg) : (s.writeLeg code g).loopFaults = s.loopFaults := by rw [writeLeg_frame]
@[simp] theorem writeLeg_postFaults (code : Byte) (g : Option Leg) : (s.writeLeg code g).postFaults = s.postFaults := by rw [writeLeg_frame]
@[simp] theorem writeLeg_testResults (code : Byte) (g : Option Leg) : (s.writeLeg code g).testResults = s.testResults := by rw [writeLeg_frame]
@[simp] theorem writeLeg_marks (code : Byte) (g : Option Leg) : (s.writeLeg code g).marks = s.marks := by rw [writeLeg_frame]
@[simp] theorem writeLeg_abandons (code : Byte) (g : Option Leg) : (s.writeLeg code g).abandons = s.abandons := by rw [writeLeg_frame]
@[simp] theorem writeLeg_abandonPosts (code : Byte) (g : Option Leg) : (s.writeLeg code g).abandonPosts = s.abandonPosts := by rw [writeLeg_frame]
@[simp] theorem writeLeg_mask (code : Byte) (g : Option Leg) : (s.writeLeg code g).mask = s.mask := by rw [writeLeg_frame]
@[simp] theorem writeLeg_loop (code : Byte) (g : Option Leg) (j : LoopId) : (s.writeLeg code g).loop j = s.loop j := by simp [loop]
@[simp] theorem writeLeg_ring (code : Byte) (g : Option Leg) (j : LoopId) : (s.writeLeg code g).ring j = s.ring j := by simp [ring]
@[simp] theorem writeLeg_feed (code : Byte) (g : Option Leg) (j : LoopId) : (s.writeLeg code g).feed j = s.feed j := by simp [feed]
@[simp] theorem writeLeg_record (code : Byte) (g : Option Leg) (j : SlotId) : (s.writeLeg code g).record j = s.record j := by simp [record]
@[simp] theorem writeLeg_ctx (code : Byte) (g : Option Leg) (j : CtxId) : (s.writeLeg code g).ctx j = s.ctx j := by simp [ctx]
@[simp] theorem writeLeg_path (code : Byte) (g : Option Leg) (j : CtxId) : (s.writeLeg code g).path j = s.path j := by simp [path]
@[simp] theorem writeLeg_player (code : Byte) (g : Option Leg) (j : CtxId) : (s.writeLeg code g).player j = s.player j := by simp [player]
@[simp] theorem writeLeg_segment (code : Byte) (g : Option Leg) (j : SegId) : (s.writeLeg code g).segment j = s.segment j := by simp [segment]
@[simp] theorem writeLeg_service (code : Byte) (g : Option Leg) (j : Trunk) : (s.writeLeg code g).service j = s.service j := by cases j <;> simp [service]
@[simp] theorem writeLeg_param (code : Byte) (g : Option Leg) (j : Fin 25) : (s.writeLeg code g).param j = s.param j := by simp [param]

/-! ### writeLegs -/

theorem writeLegs_frame (c : CtxId) (code : Byte) : s.writeLegs c code = { s with
    trunkA := (s.writeLegs c code).trunkA
    trunkB := (s.writeLegs c code).trunkB } := by
  apply State.ext <;> first | with_reducible rfl | (simp [writeLegs])
@[simp] theorem writeLegs_pending (c : CtxId) (code : Byte) : (s.writeLegs c code).pending = s.pending := by rw [writeLegs_frame]
@[simp] theorem writeLegs_handed (c : CtxId) (code : Byte) : (s.writeLegs c code).handed = s.handed := by rw [writeLegs_frame]
@[simp] theorem writeLegs_loops (c : CtxId) (code : Byte) : (s.writeLegs c code).loops = s.loops := by rw [writeLegs_frame]
@[simp] theorem writeLegs_rings (c : CtxId) (code : Byte) : (s.writeLegs c code).rings = s.rings := by rw [writeLegs_frame]
@[simp] theorem writeLegs_feeds (c : CtxId) (code : Byte) : (s.writeLegs c code).feeds = s.feeds := by rw [writeLegs_frame]
@[simp] theorem writeLegs_supply (c : CtxId) (code : Byte) : (s.writeLegs c code).supply = s.supply := by rw [writeLegs_frame]
@[simp] theorem writeLegs_directory (c : CtxId) (code : Byte) : (s.writeLegs c code).directory = s.directory := by rw [writeLegs_frame]
@[simp] theorem writeLegs_contexts (c : CtxId) (code : Byte) : (s.writeLegs c code).contexts = s.contexts := by rw [writeLegs_frame]
@[simp] theorem writeLegs_waiting (c : CtxId) (code : Byte) : (s.writeLegs c code).waiting = s.waiting := by rw [writeLegs_frame]
@[simp] theorem writeLegs_entryCount (c : CtxId) (code : Byte) : (s.writeLegs c code).entryCount = s.entryCount := by rw [writeLegs_frame]
@[simp] theorem writeLegs_routes (c : CtxId) (code : Byte) : (s.writeLegs c code).routes = s.routes := by rw [writeLegs_frame]
@[simp] theorem writeLegs_plan (c : CtxId) (code : Byte) : (s.writeLegs c code).plan = s.plan := by rw [writeLegs_frame]
@[simp] theorem writeLegs_paths (c : CtxId) (code : Byte) : (s.writeLegs c code).paths = s.paths := by rw [writeLegs_frame]
@[simp] theorem writeLegs_samples (c : CtxId) (code : Byte) : (s.writeLegs c code).samples = s.samples := by rw [writeLegs_frame]
@[simp] theorem writeLegs_segments (c : CtxId) (code : Byte) : (s.writeLegs c code).segments = s.segments := by rw [writeLegs_frame]
@[simp] theorem writeLegs_players (c : CtxId) (code : Byte) : (s.writeLegs c code).players = s.players := by rw [writeLegs_frame]
@[simp] theorem writeLegs_serviceA (c : CtxId) (code : Byte) : (s.writeLegs c code).serviceA = s.serviceA := by rw [writeLegs_frame]
@[simp] theorem writeLegs_serviceB (c : CtxId) (code : Byte) : (s.writeLegs c code).serviceB = s.serviceB := by rw [writeLegs_frame]
@[simp] theorem writeLegs_home (c : CtxId) (code : Byte) : (s.writeLegs c code).home = s.home := by rw [writeLegs_frame]
@[simp] theorem writeLegs_settings (c : CtxId) (code : Byte) : (s.writeLegs c code).settings = s.settings := by rw [writeLegs_frame]
@[simp] theorem writeLegs_sectionFault (c : CtxId) (code : Byte) : (s.writeLegs c code).sectionFault = s.sectionFault := by rw [writeLegs_frame]
@[simp] theorem writeLegs_trunkFaultA (c : CtxId) (code : Byte) : (s.writeLegs c code).trunkFaultA = s.trunkFaultA := by rw [writeLegs_frame]
@[simp] theorem writeLegs_trunkFaultB (c : CtxId) (code : Byte) : (s.writeLegs c code).trunkFaultB = s.trunkFaultB := by rw [writeLegs_frame]
@[simp] theorem writeLegs_loopFaults (c : CtxId) (code : Byte) : (s.writeLegs c code).loopFaults = s.loopFaults := by rw [writeLegs_frame]
@[simp] theorem writeLegs_postFaults (c : CtxId) (code : Byte) : (s.writeLegs c code).postFaults = s.postFaults := by rw [writeLegs_frame]
@[simp] theorem writeLegs_testResults (c : CtxId) (code : Byte) : (s.writeLegs c code).testResults = s.testResults := by rw [writeLegs_frame]
@[simp] theorem writeLegs_marks (c : CtxId) (code : Byte) : (s.writeLegs c code).marks = s.marks := by rw [writeLegs_frame]
@[simp] theorem writeLegs_abandons (c : CtxId) (code : Byte) : (s.writeLegs c code).abandons = s.abandons := by rw [writeLegs_frame]
@[simp] theorem writeLegs_abandonPosts (c : CtxId) (code : Byte) : (s.writeLegs c code).abandonPosts = s.abandonPosts := by rw [writeLegs_frame]
@[simp] theorem writeLegs_mask (c : CtxId) (code : Byte) : (s.writeLegs c code).mask = s.mask := by rw [writeLegs_frame]
@[simp] theorem writeLegs_loop (c : CtxId) (code : Byte) (j : LoopId) : (s.writeLegs c code).loop j = s.loop j := by simp [loop]
@[simp] theorem writeLegs_ring (c : CtxId) (code : Byte) (j : LoopId) : (s.writeLegs c code).ring j = s.ring j := by simp [ring]
@[simp] theorem writeLegs_feed (c : CtxId) (code : Byte) (j : LoopId) : (s.writeLegs c code).feed j = s.feed j := by simp [feed]
@[simp] theorem writeLegs_record (c : CtxId) (code : Byte) (j : SlotId) : (s.writeLegs c code).record j = s.record j := by simp [record]
@[simp] theorem writeLegs_ctx (c : CtxId) (code : Byte) (j : CtxId) : (s.writeLegs c code).ctx j = s.ctx j := by simp [ctx]
@[simp] theorem writeLegs_path (c : CtxId) (code : Byte) (j : CtxId) : (s.writeLegs c code).path j = s.path j := by simp [path]
@[simp] theorem writeLegs_player (c : CtxId) (code : Byte) (j : CtxId) : (s.writeLegs c code).player j = s.player j := by simp [player]
@[simp] theorem writeLegs_segment (c : CtxId) (code : Byte) (j : SegId) : (s.writeLegs c code).segment j = s.segment j := by simp [segment]
@[simp] theorem writeLegs_service (c : CtxId) (code : Byte) (j : Trunk) : (s.writeLegs c code).service j = s.service j := by cases j <;> simp [service]
@[simp] theorem writeLegs_param (c : CtxId) (code : Byte) (j : Fin 25) : (s.writeLegs c code).param j = s.param j := by simp [param]

/-! ### judgeDue -/

theorem judgeDue_frame (c : CtxId) : s.judgeDue c = { s with
    contexts := (s.judgeDue c).contexts
    paths := (s.judgeDue c).paths
    handed := (s.judgeDue c).handed } := by
  apply State.ext <;> first | with_reducible rfl | (unfold judgeDue; dsimp only; (repeat' split) <;> simp)
@[simp] theorem judgeDue_pending (c : CtxId) : (s.judgeDue c).pending = s.pending := by rw [judgeDue_frame]
@[simp] theorem judgeDue_loops (c : CtxId) : (s.judgeDue c).loops = s.loops := by rw [judgeDue_frame]
@[simp] theorem judgeDue_rings (c : CtxId) : (s.judgeDue c).rings = s.rings := by rw [judgeDue_frame]
@[simp] theorem judgeDue_feeds (c : CtxId) : (s.judgeDue c).feeds = s.feeds := by rw [judgeDue_frame]
@[simp] theorem judgeDue_supply (c : CtxId) : (s.judgeDue c).supply = s.supply := by rw [judgeDue_frame]
@[simp] theorem judgeDue_directory (c : CtxId) : (s.judgeDue c).directory = s.directory := by rw [judgeDue_frame]
@[simp] theorem judgeDue_waiting (c : CtxId) : (s.judgeDue c).waiting = s.waiting := by rw [judgeDue_frame]
@[simp] theorem judgeDue_entryCount (c : CtxId) : (s.judgeDue c).entryCount = s.entryCount := by rw [judgeDue_frame]
@[simp] theorem judgeDue_routes (c : CtxId) : (s.judgeDue c).routes = s.routes := by rw [judgeDue_frame]
@[simp] theorem judgeDue_plan (c : CtxId) : (s.judgeDue c).plan = s.plan := by rw [judgeDue_frame]
@[simp] theorem judgeDue_trunkA (c : CtxId) : (s.judgeDue c).trunkA = s.trunkA := by rw [judgeDue_frame]
@[simp] theorem judgeDue_trunkB (c : CtxId) : (s.judgeDue c).trunkB = s.trunkB := by rw [judgeDue_frame]
@[simp] theorem judgeDue_samples (c : CtxId) : (s.judgeDue c).samples = s.samples := by rw [judgeDue_frame]
@[simp] theorem judgeDue_segments (c : CtxId) : (s.judgeDue c).segments = s.segments := by rw [judgeDue_frame]
@[simp] theorem judgeDue_players (c : CtxId) : (s.judgeDue c).players = s.players := by rw [judgeDue_frame]
@[simp] theorem judgeDue_serviceA (c : CtxId) : (s.judgeDue c).serviceA = s.serviceA := by rw [judgeDue_frame]
@[simp] theorem judgeDue_serviceB (c : CtxId) : (s.judgeDue c).serviceB = s.serviceB := by rw [judgeDue_frame]
@[simp] theorem judgeDue_home (c : CtxId) : (s.judgeDue c).home = s.home := by rw [judgeDue_frame]
@[simp] theorem judgeDue_settings (c : CtxId) : (s.judgeDue c).settings = s.settings := by rw [judgeDue_frame]
@[simp] theorem judgeDue_sectionFault (c : CtxId) : (s.judgeDue c).sectionFault = s.sectionFault := by rw [judgeDue_frame]
@[simp] theorem judgeDue_trunkFaultA (c : CtxId) : (s.judgeDue c).trunkFaultA = s.trunkFaultA := by rw [judgeDue_frame]
@[simp] theorem judgeDue_trunkFaultB (c : CtxId) : (s.judgeDue c).trunkFaultB = s.trunkFaultB := by rw [judgeDue_frame]
@[simp] theorem judgeDue_loopFaults (c : CtxId) : (s.judgeDue c).loopFaults = s.loopFaults := by rw [judgeDue_frame]
@[simp] theorem judgeDue_postFaults (c : CtxId) : (s.judgeDue c).postFaults = s.postFaults := by rw [judgeDue_frame]
@[simp] theorem judgeDue_testResults (c : CtxId) : (s.judgeDue c).testResults = s.testResults := by rw [judgeDue_frame]
@[simp] theorem judgeDue_marks (c : CtxId) : (s.judgeDue c).marks = s.marks := by rw [judgeDue_frame]
@[simp] theorem judgeDue_abandons (c : CtxId) : (s.judgeDue c).abandons = s.abandons := by rw [judgeDue_frame]
@[simp] theorem judgeDue_abandonPosts (c : CtxId) : (s.judgeDue c).abandonPosts = s.abandonPosts := by rw [judgeDue_frame]
@[simp] theorem judgeDue_mask (c : CtxId) : (s.judgeDue c).mask = s.mask := by rw [judgeDue_frame]
@[simp] theorem judgeDue_loop (c : CtxId) (j : LoopId) : (s.judgeDue c).loop j = s.loop j := by simp [loop]
@[simp] theorem judgeDue_ring (c : CtxId) (j : LoopId) : (s.judgeDue c).ring j = s.ring j := by simp [ring]
@[simp] theorem judgeDue_feed (c : CtxId) (j : LoopId) : (s.judgeDue c).feed j = s.feed j := by simp [feed]
@[simp] theorem judgeDue_record (c : CtxId) (j : SlotId) : (s.judgeDue c).record j = s.record j := by simp [record]
@[simp] theorem judgeDue_trunk (c : CtxId) (j : Trunk) : (s.judgeDue c).trunk j = s.trunk j := by cases j <;> simp [trunk]
@[simp] theorem judgeDue_player (c : CtxId) (j : CtxId) : (s.judgeDue c).player j = s.player j := by simp [player]
@[simp] theorem judgeDue_segment (c : CtxId) (j : SegId) : (s.judgeDue c).segment j = s.segment j := by simp [segment]
@[simp] theorem judgeDue_service (c : CtxId) (j : Trunk) : (s.judgeDue c).service j = s.service j := by cases j <;> simp [service]
@[simp] theorem judgeDue_param (c : CtxId) (j : Fin 25) : (s.judgeDue c).param j = s.param j := by simp [param]

/-! ### feedMonitor -/

theorem feedMonitor_frame (c : CtxId) (magnitude : Nat) : s.feedMonitor c magnitude = { s with
    paths := (s.feedMonitor c magnitude).paths
    handed := (s.feedMonitor c magnitude).handed } := by
  apply State.ext <;> first | with_reducible rfl | (unfold feedMonitor; dsimp only; (repeat' split) <;> simp)
@[simp] theorem feedMonitor_pending (c : CtxId) (magnitude : Nat) : (s.feedMonitor c magnitude).pending = s.pending := by rw [feedMonitor_frame]
@[simp] theorem feedMonitor_loops (c : CtxId) (magnitude : Nat) : (s.feedMonitor c magnitude).loops = s.loops := by rw [feedMonitor_frame]
@[simp] theorem feedMonitor_rings (c : CtxId) (magnitude : Nat) : (s.feedMonitor c magnitude).rings = s.rings := by rw [feedMonitor_frame]
@[simp] theorem feedMonitor_feeds (c : CtxId) (magnitude : Nat) : (s.feedMonitor c magnitude).feeds = s.feeds := by rw [feedMonitor_frame]
@[simp] theorem feedMonitor_supply (c : CtxId) (magnitude : Nat) : (s.feedMonitor c magnitude).supply = s.supply := by rw [feedMonitor_frame]
@[simp] theorem feedMonitor_directory (c : CtxId) (magnitude : Nat) : (s.feedMonitor c magnitude).directory = s.directory := by rw [feedMonitor_frame]
@[simp] theorem feedMonitor_contexts (c : CtxId) (magnitude : Nat) : (s.feedMonitor c magnitude).contexts = s.contexts := by rw [feedMonitor_frame]
@[simp] theorem feedMonitor_waiting (c : CtxId) (magnitude : Nat) : (s.feedMonitor c magnitude).waiting = s.waiting := by rw [feedMonitor_frame]
@[simp] theorem feedMonitor_entryCount (c : CtxId) (magnitude : Nat) : (s.feedMonitor c magnitude).entryCount = s.entryCount := by rw [feedMonitor_frame]
@[simp] theorem feedMonitor_routes (c : CtxId) (magnitude : Nat) : (s.feedMonitor c magnitude).routes = s.routes := by rw [feedMonitor_frame]
@[simp] theorem feedMonitor_plan (c : CtxId) (magnitude : Nat) : (s.feedMonitor c magnitude).plan = s.plan := by rw [feedMonitor_frame]
@[simp] theorem feedMonitor_trunkA (c : CtxId) (magnitude : Nat) : (s.feedMonitor c magnitude).trunkA = s.trunkA := by rw [feedMonitor_frame]
@[simp] theorem feedMonitor_trunkB (c : CtxId) (magnitude : Nat) : (s.feedMonitor c magnitude).trunkB = s.trunkB := by rw [feedMonitor_frame]
@[simp] theorem feedMonitor_samples (c : CtxId) (magnitude : Nat) : (s.feedMonitor c magnitude).samples = s.samples := by rw [feedMonitor_frame]
@[simp] theorem feedMonitor_segments (c : CtxId) (magnitude : Nat) : (s.feedMonitor c magnitude).segments = s.segments := by rw [feedMonitor_frame]
@[simp] theorem feedMonitor_players (c : CtxId) (magnitude : Nat) : (s.feedMonitor c magnitude).players = s.players := by rw [feedMonitor_frame]
@[simp] theorem feedMonitor_serviceA (c : CtxId) (magnitude : Nat) : (s.feedMonitor c magnitude).serviceA = s.serviceA := by rw [feedMonitor_frame]
@[simp] theorem feedMonitor_serviceB (c : CtxId) (magnitude : Nat) : (s.feedMonitor c magnitude).serviceB = s.serviceB := by rw [feedMonitor_frame]
@[simp] theorem feedMonitor_home (c : CtxId) (magnitude : Nat) : (s.feedMonitor c magnitude).home = s.home := by rw [feedMonitor_frame]
@[simp] theorem feedMonitor_settings (c : CtxId) (magnitude : Nat) : (s.feedMonitor c magnitude).settings = s.settings := by rw [feedMonitor_frame]
@[simp] theorem feedMonitor_sectionFault (c : CtxId) (magnitude : Nat) : (s.feedMonitor c magnitude).sectionFault = s.sectionFault := by rw [feedMonitor_frame]
@[simp] theorem feedMonitor_trunkFaultA (c : CtxId) (magnitude : Nat) : (s.feedMonitor c magnitude).trunkFaultA = s.trunkFaultA := by rw [feedMonitor_frame]
@[simp] theorem feedMonitor_trunkFaultB (c : CtxId) (magnitude : Nat) : (s.feedMonitor c magnitude).trunkFaultB = s.trunkFaultB := by rw [feedMonitor_frame]
@[simp] theorem feedMonitor_loopFaults (c : CtxId) (magnitude : Nat) : (s.feedMonitor c magnitude).loopFaults = s.loopFaults := by rw [feedMonitor_frame]
@[simp] theorem feedMonitor_postFaults (c : CtxId) (magnitude : Nat) : (s.feedMonitor c magnitude).postFaults = s.postFaults := by rw [feedMonitor_frame]
@[simp] theorem feedMonitor_testResults (c : CtxId) (magnitude : Nat) : (s.feedMonitor c magnitude).testResults = s.testResults := by rw [feedMonitor_frame]
@[simp] theorem feedMonitor_marks (c : CtxId) (magnitude : Nat) : (s.feedMonitor c magnitude).marks = s.marks := by rw [feedMonitor_frame]
@[simp] theorem feedMonitor_abandons (c : CtxId) (magnitude : Nat) : (s.feedMonitor c magnitude).abandons = s.abandons := by rw [feedMonitor_frame]
@[simp] theorem feedMonitor_abandonPosts (c : CtxId) (magnitude : Nat) : (s.feedMonitor c magnitude).abandonPosts = s.abandonPosts := by rw [feedMonitor_frame]
@[simp] theorem feedMonitor_mask (c : CtxId) (magnitude : Nat) : (s.feedMonitor c magnitude).mask = s.mask := by rw [feedMonitor_frame]
@[simp] theorem feedMonitor_loop (c : CtxId) (magnitude : Nat) (j : LoopId) : (s.feedMonitor c magnitude).loop j = s.loop j := by simp [loop]
@[simp] theorem feedMonitor_ring (c : CtxId) (magnitude : Nat) (j : LoopId) : (s.feedMonitor c magnitude).ring j = s.ring j := by simp [ring]
@[simp] theorem feedMonitor_feed (c : CtxId) (magnitude : Nat) (j : LoopId) : (s.feedMonitor c magnitude).feed j = s.feed j := by simp [feed]
@[simp] theorem feedMonitor_record (c : CtxId) (magnitude : Nat) (j : SlotId) : (s.feedMonitor c magnitude).record j = s.record j := by simp [record]
@[simp] theorem feedMonitor_ctx (c : CtxId) (magnitude : Nat) (j : CtxId) : (s.feedMonitor c magnitude).ctx j = s.ctx j := by simp [ctx]
@[simp] theorem feedMonitor_trunk (c : CtxId) (magnitude : Nat) (j : Trunk) : (s.feedMonitor c magnitude).trunk j = s.trunk j := by cases j <;> simp [trunk]
@[simp] theorem feedMonitor_player (c : CtxId) (magnitude : Nat) (j : CtxId) : (s.feedMonitor c magnitude).player j = s.player j := by simp [player]
@[simp] theorem feedMonitor_segment (c : CtxId) (magnitude : Nat) (j : SegId) : (s.feedMonitor c magnitude).segment j = s.segment j := by simp [segment]
@[simp] theorem feedMonitor_service (c : CtxId) (magnitude : Nat) (j : Trunk) : (s.feedMonitor c magnitude).service j = s.service j := by cases j <;> simp [service]
@[simp] theorem feedMonitor_param (c : CtxId) (magnitude : Nat) (j : Fin 25) : (s.feedMonitor c magnitude).param j = s.param j := by simp [param]

/-! ### upSample -/

theorem upSample_frame (c : CtxId) (code : Byte) : s.upSample c code = { s with
    contexts := (s.upSample c code).contexts
    paths := (s.upSample c code).paths
    handed := (s.upSample c code).handed
    trunkA := (s.upSample c code).trunkA
    trunkB := (s.upSample c code).trunkB } := by
  apply State.ext <;> first | with_reducible rfl | (unfold upSample; dsimp only; (repeat' split) <;> simp)
@[simp] theorem upSample_pending (c : CtxId) (code : Byte) : (s.upSample c code).pending = s.pending := by rw [upSample_frame]
@[simp] theorem upSample_loops (c : CtxId) (code : Byte) : (s.upSample c code).loops = s.loops := by rw [upSample_frame]
@[simp] theorem upSample_rings (c : CtxId) (code : Byte) : (s.upSample c code).rings = s.rings := by rw [upSample_frame]
@[simp] theorem upSample_feeds (c : CtxId) (code : Byte) : (s.upSample c code).feeds = s.feeds := by rw [upSample_frame]
@[simp] theorem upSample_supply (c : CtxId) (code : Byte) : (s.upSample c code).supply = s.supply := by rw [upSample_frame]
@[simp] theorem upSample_directory (c : CtxId) (code : Byte) : (s.upSample c code).directory = s.directory := by rw [upSample_frame]
@[simp] theorem upSample_waiting (c : CtxId) (code : Byte) : (s.upSample c code).waiting = s.waiting := by rw [upSample_frame]
@[simp] theorem upSample_entryCount (c : CtxId) (code : Byte) : (s.upSample c code).entryCount = s.entryCount := by rw [upSample_frame]
@[simp] theorem upSample_routes (c : CtxId) (code : Byte) : (s.upSample c code).routes = s.routes := by rw [upSample_frame]
@[simp] theorem upSample_plan (c : CtxId) (code : Byte) : (s.upSample c code).plan = s.plan := by rw [upSample_frame]
@[simp] theorem upSample_samples (c : CtxId) (code : Byte) : (s.upSample c code).samples = s.samples := by rw [upSample_frame]
@[simp] theorem upSample_segments (c : CtxId) (code : Byte) : (s.upSample c code).segments = s.segments := by rw [upSample_frame]
@[simp] theorem upSample_players (c : CtxId) (code : Byte) : (s.upSample c code).players = s.players := by rw [upSample_frame]
@[simp] theorem upSample_serviceA (c : CtxId) (code : Byte) : (s.upSample c code).serviceA = s.serviceA := by rw [upSample_frame]
@[simp] theorem upSample_serviceB (c : CtxId) (code : Byte) : (s.upSample c code).serviceB = s.serviceB := by rw [upSample_frame]
@[simp] theorem upSample_home (c : CtxId) (code : Byte) : (s.upSample c code).home = s.home := by rw [upSample_frame]
@[simp] theorem upSample_settings (c : CtxId) (code : Byte) : (s.upSample c code).settings = s.settings := by rw [upSample_frame]
@[simp] theorem upSample_sectionFault (c : CtxId) (code : Byte) : (s.upSample c code).sectionFault = s.sectionFault := by rw [upSample_frame]
@[simp] theorem upSample_trunkFaultA (c : CtxId) (code : Byte) : (s.upSample c code).trunkFaultA = s.trunkFaultA := by rw [upSample_frame]
@[simp] theorem upSample_trunkFaultB (c : CtxId) (code : Byte) : (s.upSample c code).trunkFaultB = s.trunkFaultB := by rw [upSample_frame]
@[simp] theorem upSample_loopFaults (c : CtxId) (code : Byte) : (s.upSample c code).loopFaults = s.loopFaults := by rw [upSample_frame]
@[simp] theorem upSample_postFaults (c : CtxId) (code : Byte) : (s.upSample c code).postFaults = s.postFaults := by rw [upSample_frame]
@[simp] theorem upSample_testResults (c : CtxId) (code : Byte) : (s.upSample c code).testResults = s.testResults := by rw [upSample_frame]
@[simp] theorem upSample_marks (c : CtxId) (code : Byte) : (s.upSample c code).marks = s.marks := by rw [upSample_frame]
@[simp] theorem upSample_abandons (c : CtxId) (code : Byte) : (s.upSample c code).abandons = s.abandons := by rw [upSample_frame]
@[simp] theorem upSample_abandonPosts (c : CtxId) (code : Byte) : (s.upSample c code).abandonPosts = s.abandonPosts := by rw [upSample_frame]
@[simp] theorem upSample_mask (c : CtxId) (code : Byte) : (s.upSample c code).mask = s.mask := by rw [upSample_frame]
@[simp] theorem upSample_loop (c : CtxId) (code : Byte) (j : LoopId) : (s.upSample c code).loop j = s.loop j := by simp [loop]
@[simp] theorem upSample_ring (c : CtxId) (code : Byte) (j : LoopId) : (s.upSample c code).ring j = s.ring j := by simp [ring]
@[simp] theorem upSample_feed (c : CtxId) (code : Byte) (j : LoopId) : (s.upSample c code).feed j = s.feed j := by simp [feed]
@[simp] theorem upSample_record (c : CtxId) (code : Byte) (j : SlotId) : (s.upSample c code).record j = s.record j := by simp [record]
@[simp] theorem upSample_player (c : CtxId) (code : Byte) (j : CtxId) : (s.upSample c code).player j = s.player j := by simp [player]
@[simp] theorem upSample_segment (c : CtxId) (code : Byte) (j : SegId) : (s.upSample c code).segment j = s.segment j := by simp [segment]
@[simp] theorem upSample_service (c : CtxId) (code : Byte) (j : Trunk) : (s.upSample c code).service j = s.service j := by cases j <;> simp [service]
@[simp] theorem upSample_param (c : CtxId) (code : Byte) (j : Fin 25) : (s.upSample c code).param j = s.param j := by simp [param]

/-! ### upCode -/

theorem upCode_frame (l : LoopId) (b : BearerId) (code : Byte) : s.upCode l b code = { s with
    contexts := (s.upCode l b code).contexts
    paths := (s.upCode l b code).paths
    handed := (s.upCode l b code).handed
    trunkA := (s.upCode l b code).trunkA
    trunkB := (s.upCode l b code).trunkB } := by
  apply State.ext <;> first | with_reducible rfl | (unfold upCode; dsimp only; (repeat' split) <;> simp)
@[simp] theorem upCode_pending (l : LoopId) (b : BearerId) (code : Byte) : (s.upCode l b code).pending = s.pending := by rw [upCode_frame]
@[simp] theorem upCode_loops (l : LoopId) (b : BearerId) (code : Byte) : (s.upCode l b code).loops = s.loops := by rw [upCode_frame]
@[simp] theorem upCode_rings (l : LoopId) (b : BearerId) (code : Byte) : (s.upCode l b code).rings = s.rings := by rw [upCode_frame]
@[simp] theorem upCode_feeds (l : LoopId) (b : BearerId) (code : Byte) : (s.upCode l b code).feeds = s.feeds := by rw [upCode_frame]
@[simp] theorem upCode_supply (l : LoopId) (b : BearerId) (code : Byte) : (s.upCode l b code).supply = s.supply := by rw [upCode_frame]
@[simp] theorem upCode_directory (l : LoopId) (b : BearerId) (code : Byte) : (s.upCode l b code).directory = s.directory := by rw [upCode_frame]
@[simp] theorem upCode_waiting (l : LoopId) (b : BearerId) (code : Byte) : (s.upCode l b code).waiting = s.waiting := by rw [upCode_frame]
@[simp] theorem upCode_entryCount (l : LoopId) (b : BearerId) (code : Byte) : (s.upCode l b code).entryCount = s.entryCount := by rw [upCode_frame]
@[simp] theorem upCode_routes (l : LoopId) (b : BearerId) (code : Byte) : (s.upCode l b code).routes = s.routes := by rw [upCode_frame]
@[simp] theorem upCode_plan (l : LoopId) (b : BearerId) (code : Byte) : (s.upCode l b code).plan = s.plan := by rw [upCode_frame]
@[simp] theorem upCode_samples (l : LoopId) (b : BearerId) (code : Byte) : (s.upCode l b code).samples = s.samples := by rw [upCode_frame]
@[simp] theorem upCode_segments (l : LoopId) (b : BearerId) (code : Byte) : (s.upCode l b code).segments = s.segments := by rw [upCode_frame]
@[simp] theorem upCode_players (l : LoopId) (b : BearerId) (code : Byte) : (s.upCode l b code).players = s.players := by rw [upCode_frame]
@[simp] theorem upCode_serviceA (l : LoopId) (b : BearerId) (code : Byte) : (s.upCode l b code).serviceA = s.serviceA := by rw [upCode_frame]
@[simp] theorem upCode_serviceB (l : LoopId) (b : BearerId) (code : Byte) : (s.upCode l b code).serviceB = s.serviceB := by rw [upCode_frame]
@[simp] theorem upCode_home (l : LoopId) (b : BearerId) (code : Byte) : (s.upCode l b code).home = s.home := by rw [upCode_frame]
@[simp] theorem upCode_settings (l : LoopId) (b : BearerId) (code : Byte) : (s.upCode l b code).settings = s.settings := by rw [upCode_frame]
@[simp] theorem upCode_sectionFault (l : LoopId) (b : BearerId) (code : Byte) : (s.upCode l b code).sectionFault = s.sectionFault := by rw [upCode_frame]
@[simp] theorem upCode_trunkFaultA (l : LoopId) (b : BearerId) (code : Byte) : (s.upCode l b code).trunkFaultA = s.trunkFaultA := by rw [upCode_frame]
@[simp] theorem upCode_trunkFaultB (l : LoopId) (b : BearerId) (code : Byte) : (s.upCode l b code).trunkFaultB = s.trunkFaultB := by rw [upCode_frame]
@[simp] theorem upCode_loopFaults (l : LoopId) (b : BearerId) (code : Byte) : (s.upCode l b code).loopFaults = s.loopFaults := by rw [upCode_frame]
@[simp] theorem upCode_postFaults (l : LoopId) (b : BearerId) (code : Byte) : (s.upCode l b code).postFaults = s.postFaults := by rw [upCode_frame]
@[simp] theorem upCode_testResults (l : LoopId) (b : BearerId) (code : Byte) : (s.upCode l b code).testResults = s.testResults := by rw [upCode_frame]
@[simp] theorem upCode_marks (l : LoopId) (b : BearerId) (code : Byte) : (s.upCode l b code).marks = s.marks := by rw [upCode_frame]
@[simp] theorem upCode_abandons (l : LoopId) (b : BearerId) (code : Byte) : (s.upCode l b code).abandons = s.abandons := by rw [upCode_frame]
@[simp] theorem upCode_abandonPosts (l : LoopId) (b : BearerId) (code : Byte) : (s.upCode l b code).abandonPosts = s.abandonPosts := by rw [upCode_frame]
@[simp] theorem upCode_mask (l : LoopId) (b : BearerId) (code : Byte) : (s.upCode l b code).mask = s.mask := by rw [upCode_frame]
@[simp] theorem upCode_loop (l : LoopId) (b : BearerId) (code : Byte) (j : LoopId) : (s.upCode l b code).loop j = s.loop j := by simp [loop]
@[simp] theorem upCode_ring (l : LoopId) (b : BearerId) (code : Byte) (j : LoopId) : (s.upCode l b code).ring j = s.ring j := by simp [ring]
@[simp] theorem upCode_feed (l : LoopId) (b : BearerId) (code : Byte) (j : LoopId) : (s.upCode l b code).feed j = s.feed j := by simp [feed]
@[simp] theorem upCode_record (l : LoopId) (b : BearerId) (code : Byte) (j : SlotId) : (s.upCode l b code).record j = s.record j := by simp [record]
@[simp] theorem upCode_player (l : LoopId) (b : BearerId) (code : Byte) (j : CtxId) : (s.upCode l b code).player j = s.player j := by simp [player]
@[simp] theorem upCode_segment (l : LoopId) (b : BearerId) (code : Byte) (j : SegId) : (s.upCode l b code).segment j = s.segment j := by simp [segment]
@[simp] theorem upCode_service (l : LoopId) (b : BearerId) (code : Byte) (j : Trunk) : (s.upCode l b code).service j = s.service j := by cases j <;> simp [service]
@[simp] theorem upCode_param (l : LoopId) (b : BearerId) (code : Byte) (j : Fin 25) : (s.upCode l b code).param j = s.param j := by simp [param]

/-! ### upCodes -/

theorem upCodes_frame (l : LoopId) (codes : List Byte) : upCodes l codes s = { s with
    contexts := (upCodes l codes s).contexts
    paths := (upCodes l codes s).paths
    handed := (upCodes l codes s).handed
    trunkA := (upCodes l codes s).trunkA
    trunkB := (upCodes l codes s).trunkB } := by
  apply State.ext <;> first | with_reducible rfl | (exact foldl_keeps _ _ (fun _ _ => by simp) _ _)
@[simp] theorem upCodes_pending (l : LoopId) (codes : List Byte) : (upCodes l codes s).pending = s.pending := by rw [upCodes_frame]
@[simp] theorem upCodes_loops (l : LoopId) (codes : List Byte) : (upCodes l codes s).loops = s.loops := by rw [upCodes_frame]
@[simp] theorem upCodes_rings (l : LoopId) (codes : List Byte) : (upCodes l codes s).rings = s.rings := by rw [upCodes_frame]
@[simp] theorem upCodes_feeds (l : LoopId) (codes : List Byte) : (upCodes l codes s).feeds = s.feeds := by rw [upCodes_frame]
@[simp] theorem upCodes_supply (l : LoopId) (codes : List Byte) : (upCodes l codes s).supply = s.supply := by rw [upCodes_frame]
@[simp] theorem upCodes_directory (l : LoopId) (codes : List Byte) : (upCodes l codes s).directory = s.directory := by rw [upCodes_frame]
@[simp] theorem upCodes_waiting (l : LoopId) (codes : List Byte) : (upCodes l codes s).waiting = s.waiting := by rw [upCodes_frame]
@[simp] theorem upCodes_entryCount (l : LoopId) (codes : List Byte) : (upCodes l codes s).entryCount = s.entryCount := by rw [upCodes_frame]
@[simp] theorem upCodes_routes (l : LoopId) (codes : List Byte) : (upCodes l codes s).routes = s.routes := by rw [upCodes_frame]
@[simp] theorem upCodes_plan (l : LoopId) (codes : List Byte) : (upCodes l codes s).plan = s.plan := by rw [upCodes_frame]
@[simp] theorem upCodes_samples (l : LoopId) (codes : List Byte) : (upCodes l codes s).samples = s.samples := by rw [upCodes_frame]
@[simp] theorem upCodes_segments (l : LoopId) (codes : List Byte) : (upCodes l codes s).segments = s.segments := by rw [upCodes_frame]
@[simp] theorem upCodes_players (l : LoopId) (codes : List Byte) : (upCodes l codes s).players = s.players := by rw [upCodes_frame]
@[simp] theorem upCodes_serviceA (l : LoopId) (codes : List Byte) : (upCodes l codes s).serviceA = s.serviceA := by rw [upCodes_frame]
@[simp] theorem upCodes_serviceB (l : LoopId) (codes : List Byte) : (upCodes l codes s).serviceB = s.serviceB := by rw [upCodes_frame]
@[simp] theorem upCodes_home (l : LoopId) (codes : List Byte) : (upCodes l codes s).home = s.home := by rw [upCodes_frame]
@[simp] theorem upCodes_settings (l : LoopId) (codes : List Byte) : (upCodes l codes s).settings = s.settings := by rw [upCodes_frame]
@[simp] theorem upCodes_sectionFault (l : LoopId) (codes : List Byte) : (upCodes l codes s).sectionFault = s.sectionFault := by rw [upCodes_frame]
@[simp] theorem upCodes_trunkFaultA (l : LoopId) (codes : List Byte) : (upCodes l codes s).trunkFaultA = s.trunkFaultA := by rw [upCodes_frame]
@[simp] theorem upCodes_trunkFaultB (l : LoopId) (codes : List Byte) : (upCodes l codes s).trunkFaultB = s.trunkFaultB := by rw [upCodes_frame]
@[simp] theorem upCodes_loopFaults (l : LoopId) (codes : List Byte) : (upCodes l codes s).loopFaults = s.loopFaults := by rw [upCodes_frame]
@[simp] theorem upCodes_postFaults (l : LoopId) (codes : List Byte) : (upCodes l codes s).postFaults = s.postFaults := by rw [upCodes_frame]
@[simp] theorem upCodes_testResults (l : LoopId) (codes : List Byte) : (upCodes l codes s).testResults = s.testResults := by rw [upCodes_frame]
@[simp] theorem upCodes_marks (l : LoopId) (codes : List Byte) : (upCodes l codes s).marks = s.marks := by rw [upCodes_frame]
@[simp] theorem upCodes_abandons (l : LoopId) (codes : List Byte) : (upCodes l codes s).abandons = s.abandons := by rw [upCodes_frame]
@[simp] theorem upCodes_abandonPosts (l : LoopId) (codes : List Byte) : (upCodes l codes s).abandonPosts = s.abandonPosts := by rw [upCodes_frame]
@[simp] theorem upCodes_mask (l : LoopId) (codes : List Byte) : (upCodes l codes s).mask = s.mask := by rw [upCodes_frame]
@[simp] theorem upCodes_loop (l : LoopId) (codes : List Byte) (j : LoopId) : (upCodes l codes s).loop j = s.loop j := by simp [loop]
@[simp] theorem upCodes_ring (l : LoopId) (codes : List Byte) (j : LoopId) : (upCodes l codes s).ring j = s.ring j := by simp [ring]
@[simp] theorem upCodes_feed (l : LoopId) (codes : List Byte) (j : LoopId) : (upCodes l codes s).feed j = s.feed j := by simp [feed]
@[simp] theorem upCodes_record (l : LoopId) (codes : List Byte) (j : SlotId) : (upCodes l codes s).record j = s.record j := by simp [record]
@[simp] theorem upCodes_player (l : LoopId) (codes : List Byte) (j : CtxId) : (upCodes l codes s).player j = s.player j := by simp [player]
@[simp] theorem upCodes_segment (l : LoopId) (codes : List Byte) (j : SegId) : (upCodes l codes s).segment j = s.segment j := by simp [segment]
@[simp] theorem upCodes_service (l : LoopId) (codes : List Byte) (j : Trunk) : (upCodes l codes s).service j = s.service j := by cases j <;> simp [service]
@[simp] theorem upCodes_param (l : LoopId) (codes : List Byte) (j : Fin 25) : (upCodes l codes s).param j = s.param j := by simp [param]

/-! ### unalignLoop -/

theorem unalignLoop_frame (l : LoopId) : s.unalignLoop l = { s with
    loops := (s.unalignLoop l).loops } := by
  apply State.ext <;> first | with_reducible rfl | (unfold unalignLoop; dsimp only; (repeat' split) <;> simp)
@[simp] theorem unalignLoop_pending (l : LoopId) : (s.unalignLoop l).pending = s.pending := by rw [unalignLoop_frame]
@[simp] theorem unalignLoop_handed (l : LoopId) : (s.unalignLoop l).handed = s.handed := by rw [unalignLoop_frame]
@[simp] theorem unalignLoop_rings (l : LoopId) : (s.unalignLoop l).rings = s.rings := by rw [unalignLoop_frame]
@[simp] theorem unalignLoop_feeds (l : LoopId) : (s.unalignLoop l).feeds = s.feeds := by rw [unalignLoop_frame]
@[simp] theorem unalignLoop_supply (l : LoopId) : (s.unalignLoop l).supply = s.supply := by rw [unalignLoop_frame]
@[simp] theorem unalignLoop_directory (l : LoopId) : (s.unalignLoop l).directory = s.directory := by rw [unalignLoop_frame]
@[simp] theorem unalignLoop_contexts (l : LoopId) : (s.unalignLoop l).contexts = s.contexts := by rw [unalignLoop_frame]
@[simp] theorem unalignLoop_waiting (l : LoopId) : (s.unalignLoop l).waiting = s.waiting := by rw [unalignLoop_frame]
@[simp] theorem unalignLoop_entryCount (l : LoopId) : (s.unalignLoop l).entryCount = s.entryCount := by rw [unalignLoop_frame]
@[simp] theorem unalignLoop_routes (l : LoopId) : (s.unalignLoop l).routes = s.routes := by rw [unalignLoop_frame]
@[simp] theorem unalignLoop_plan (l : LoopId) : (s.unalignLoop l).plan = s.plan := by rw [unalignLoop_frame]
@[simp] theorem unalignLoop_trunkA (l : LoopId) : (s.unalignLoop l).trunkA = s.trunkA := by rw [unalignLoop_frame]
@[simp] theorem unalignLoop_trunkB (l : LoopId) : (s.unalignLoop l).trunkB = s.trunkB := by rw [unalignLoop_frame]
@[simp] theorem unalignLoop_paths (l : LoopId) : (s.unalignLoop l).paths = s.paths := by rw [unalignLoop_frame]
@[simp] theorem unalignLoop_samples (l : LoopId) : (s.unalignLoop l).samples = s.samples := by rw [unalignLoop_frame]
@[simp] theorem unalignLoop_segments (l : LoopId) : (s.unalignLoop l).segments = s.segments := by rw [unalignLoop_frame]
@[simp] theorem unalignLoop_players (l : LoopId) : (s.unalignLoop l).players = s.players := by rw [unalignLoop_frame]
@[simp] theorem unalignLoop_serviceA (l : LoopId) : (s.unalignLoop l).serviceA = s.serviceA := by rw [unalignLoop_frame]
@[simp] theorem unalignLoop_serviceB (l : LoopId) : (s.unalignLoop l).serviceB = s.serviceB := by rw [unalignLoop_frame]
@[simp] theorem unalignLoop_home (l : LoopId) : (s.unalignLoop l).home = s.home := by rw [unalignLoop_frame]
@[simp] theorem unalignLoop_settings (l : LoopId) : (s.unalignLoop l).settings = s.settings := by rw [unalignLoop_frame]
@[simp] theorem unalignLoop_sectionFault (l : LoopId) : (s.unalignLoop l).sectionFault = s.sectionFault := by rw [unalignLoop_frame]
@[simp] theorem unalignLoop_trunkFaultA (l : LoopId) : (s.unalignLoop l).trunkFaultA = s.trunkFaultA := by rw [unalignLoop_frame]
@[simp] theorem unalignLoop_trunkFaultB (l : LoopId) : (s.unalignLoop l).trunkFaultB = s.trunkFaultB := by rw [unalignLoop_frame]
@[simp] theorem unalignLoop_loopFaults (l : LoopId) : (s.unalignLoop l).loopFaults = s.loopFaults := by rw [unalignLoop_frame]
@[simp] theorem unalignLoop_postFaults (l : LoopId) : (s.unalignLoop l).postFaults = s.postFaults := by rw [unalignLoop_frame]
@[simp] theorem unalignLoop_testResults (l : LoopId) : (s.unalignLoop l).testResults = s.testResults := by rw [unalignLoop_frame]
@[simp] theorem unalignLoop_marks (l : LoopId) : (s.unalignLoop l).marks = s.marks := by rw [unalignLoop_frame]
@[simp] theorem unalignLoop_abandons (l : LoopId) : (s.unalignLoop l).abandons = s.abandons := by rw [unalignLoop_frame]
@[simp] theorem unalignLoop_abandonPosts (l : LoopId) : (s.unalignLoop l).abandonPosts = s.abandonPosts := by rw [unalignLoop_frame]
@[simp] theorem unalignLoop_mask (l : LoopId) : (s.unalignLoop l).mask = s.mask := by rw [unalignLoop_frame]
@[simp] theorem unalignLoop_ring (l : LoopId) (j : LoopId) : (s.unalignLoop l).ring j = s.ring j := by simp [ring]
@[simp] theorem unalignLoop_feed (l : LoopId) (j : LoopId) : (s.unalignLoop l).feed j = s.feed j := by simp [feed]
@[simp] theorem unalignLoop_record (l : LoopId) (j : SlotId) : (s.unalignLoop l).record j = s.record j := by simp [record]
@[simp] theorem unalignLoop_ctx (l : LoopId) (j : CtxId) : (s.unalignLoop l).ctx j = s.ctx j := by simp [ctx]
@[simp] theorem unalignLoop_trunk (l : LoopId) (j : Trunk) : (s.unalignLoop l).trunk j = s.trunk j := by cases j <;> simp [trunk]
@[simp] theorem unalignLoop_path (l : LoopId) (j : CtxId) : (s.unalignLoop l).path j = s.path j := by simp [path]
@[simp] theorem unalignLoop_player (l : LoopId) (j : CtxId) : (s.unalignLoop l).player j = s.player j := by simp [player]
@[simp] theorem unalignLoop_segment (l : LoopId) (j : SegId) : (s.unalignLoop l).segment j = s.segment j := by simp [segment]
@[simp] theorem unalignLoop_service (l : LoopId) (j : Trunk) : (s.unalignLoop l).service j = s.service j := by cases j <;> simp [service]
@[simp] theorem unalignLoop_param (l : LoopId) (j : Fin 25) : (s.unalignLoop l).param j = s.param j := by simp [param]

/-! ### catchUnalign -/

theorem catchUnalign_frame (l : LoopId) : s.catchUnalign l = { s with
    loops := (s.catchUnalign l).loops
    handed := (s.catchUnalign l).handed } := by
  apply State.ext <;> first | with_reducible rfl | (unfold catchUnalign; dsimp only; (repeat' split) <;> simp)
@[simp] theorem catchUnalign_pending (l : LoopId) : (s.catchUnalign l).pending = s.pending := by rw [catchUnalign_frame]
@[simp] theorem catchUnalign_rings (l : LoopId) : (s.catchUnalign l).rings = s.rings := by rw [catchUnalign_frame]
@[simp] theorem catchUnalign_feeds (l : LoopId) : (s.catchUnalign l).feeds = s.feeds := by rw [catchUnalign_frame]
@[simp] theorem catchUnalign_supply (l : LoopId) : (s.catchUnalign l).supply = s.supply := by rw [catchUnalign_frame]
@[simp] theorem catchUnalign_directory (l : LoopId) : (s.catchUnalign l).directory = s.directory := by rw [catchUnalign_frame]
@[simp] theorem catchUnalign_contexts (l : LoopId) : (s.catchUnalign l).contexts = s.contexts := by rw [catchUnalign_frame]
@[simp] theorem catchUnalign_waiting (l : LoopId) : (s.catchUnalign l).waiting = s.waiting := by rw [catchUnalign_frame]
@[simp] theorem catchUnalign_entryCount (l : LoopId) : (s.catchUnalign l).entryCount = s.entryCount := by rw [catchUnalign_frame]
@[simp] theorem catchUnalign_routes (l : LoopId) : (s.catchUnalign l).routes = s.routes := by rw [catchUnalign_frame]
@[simp] theorem catchUnalign_plan (l : LoopId) : (s.catchUnalign l).plan = s.plan := by rw [catchUnalign_frame]
@[simp] theorem catchUnalign_trunkA (l : LoopId) : (s.catchUnalign l).trunkA = s.trunkA := by rw [catchUnalign_frame]
@[simp] theorem catchUnalign_trunkB (l : LoopId) : (s.catchUnalign l).trunkB = s.trunkB := by rw [catchUnalign_frame]
@[simp] theorem catchUnalign_paths (l : LoopId) : (s.catchUnalign l).paths = s.paths := by rw [catchUnalign_frame]
@[simp] theorem catchUnalign_samples (l : LoopId) : (s.catchUnalign l).samples = s.samples := by rw [catchUnalign_frame]
@[simp] theorem catchUnalign_segments (l : LoopId) : (s.catchUnalign l).segments = s.segments := by rw [catchUnalign_frame]
@[simp] theorem catchUnalign_players (l : LoopId) : (s.catchUnalign l).players = s.players := by rw [catchUnalign_frame]
@[simp] theorem catchUnalign_serviceA (l : LoopId) : (s.catchUnalign l).serviceA = s.serviceA := by rw [catchUnalign_frame]
@[simp] theorem catchUnalign_serviceB (l : LoopId) : (s.catchUnalign l).serviceB = s.serviceB := by rw [catchUnalign_frame]
@[simp] theorem catchUnalign_home (l : LoopId) : (s.catchUnalign l).home = s.home := by rw [catchUnalign_frame]
@[simp] theorem catchUnalign_settings (l : LoopId) : (s.catchUnalign l).settings = s.settings := by rw [catchUnalign_frame]
@[simp] theorem catchUnalign_sectionFault (l : LoopId) : (s.catchUnalign l).sectionFault = s.sectionFault := by rw [catchUnalign_frame]
@[simp] theorem catchUnalign_trunkFaultA (l : LoopId) : (s.catchUnalign l).trunkFaultA = s.trunkFaultA := by rw [catchUnalign_frame]
@[simp] theorem catchUnalign_trunkFaultB (l : LoopId) : (s.catchUnalign l).trunkFaultB = s.trunkFaultB := by rw [catchUnalign_frame]
@[simp] theorem catchUnalign_loopFaults (l : LoopId) : (s.catchUnalign l).loopFaults = s.loopFaults := by rw [catchUnalign_frame]
@[simp] theorem catchUnalign_postFaults (l : LoopId) : (s.catchUnalign l).postFaults = s.postFaults := by rw [catchUnalign_frame]
@[simp] theorem catchUnalign_testResults (l : LoopId) : (s.catchUnalign l).testResults = s.testResults := by rw [catchUnalign_frame]
@[simp] theorem catchUnalign_marks (l : LoopId) : (s.catchUnalign l).marks = s.marks := by rw [catchUnalign_frame]
@[simp] theorem catchUnalign_abandons (l : LoopId) : (s.catchUnalign l).abandons = s.abandons := by rw [catchUnalign_frame]
@[simp] theorem catchUnalign_abandonPosts (l : LoopId) : (s.catchUnalign l).abandonPosts = s.abandonPosts := by rw [catchUnalign_frame]
@[simp] theorem catchUnalign_mask (l : LoopId) : (s.catchUnalign l).mask = s.mask := by rw [catchUnalign_frame]
@[simp] theorem catchUnalign_ring (l : LoopId) (j : LoopId) : (s.catchUnalign l).ring j = s.ring j := by simp [ring]
@[simp] theorem catchUnalign_feed (l : LoopId) (j : LoopId) : (s.catchUnalign l).feed j = s.feed j := by simp [feed]
@[simp] theorem catchUnalign_record (l : LoopId) (j : SlotId) : (s.catchUnalign l).record j = s.record j := by simp [record]
@[simp] theorem catchUnalign_ctx (l : LoopId) (j : CtxId) : (s.catchUnalign l).ctx j = s.ctx j := by simp [ctx]
@[simp] theorem catchUnalign_trunk (l : LoopId) (j : Trunk) : (s.catchUnalign l).trunk j = s.trunk j := by cases j <;> simp [trunk]
@[simp] theorem catchUnalign_path (l : LoopId) (j : CtxId) : (s.catchUnalign l).path j = s.path j := by simp [path]
@[simp] theorem catchUnalign_player (l : LoopId) (j : CtxId) : (s.catchUnalign l).player j = s.player j := by simp [player]
@[simp] theorem catchUnalign_segment (l : LoopId) (j : SegId) : (s.catchUnalign l).segment j = s.segment j := by simp [segment]
@[simp] theorem catchUnalign_service (l : LoopId) (j : Trunk) : (s.catchUnalign l).service j = s.service j := by cases j <;> simp [service]
@[simp] theorem catchUnalign_param (l : LoopId) (j : Fin 25) : (s.catchUnalign l).param j = s.param j := by simp [param]

/-! ### endSent -/

theorem endSent_frame (l : LoopId) : s.endSent l = { s with
    loops := (s.endSent l).loops
    rings := (s.endSent l).rings } := by
  apply State.ext <;> first | with_reducible rfl | (unfold endSent; dsimp only; (repeat' split) <;> simp)
@[simp] theorem endSent_pending (l : LoopId) : (s.endSent l).pending = s.pending := by rw [endSent_frame]
@[simp] theorem endSent_handed (l : LoopId) : (s.endSent l).handed = s.handed := by rw [endSent_frame]
@[simp] theorem endSent_feeds (l : LoopId) : (s.endSent l).feeds = s.feeds := by rw [endSent_frame]
@[simp] theorem endSent_supply (l : LoopId) : (s.endSent l).supply = s.supply := by rw [endSent_frame]
@[simp] theorem endSent_directory (l : LoopId) : (s.endSent l).directory = s.directory := by rw [endSent_frame]
@[simp] theorem endSent_contexts (l : LoopId) : (s.endSent l).contexts = s.contexts := by rw [endSent_frame]
@[simp] theorem endSent_waiting (l : LoopId) : (s.endSent l).waiting = s.waiting := by rw [endSent_frame]
@[simp] theorem endSent_entryCount (l : LoopId) : (s.endSent l).entryCount = s.entryCount := by rw [endSent_frame]
@[simp] theorem endSent_routes (l : LoopId) : (s.endSent l).routes = s.routes := by rw [endSent_frame]
@[simp] theorem endSent_plan (l : LoopId) : (s.endSent l).plan = s.plan := by rw [endSent_frame]
@[simp] theorem endSent_trunkA (l : LoopId) : (s.endSent l).trunkA = s.trunkA := by rw [endSent_frame]
@[simp] theorem endSent_trunkB (l : LoopId) : (s.endSent l).trunkB = s.trunkB := by rw [endSent_frame]
@[simp] theorem endSent_paths (l : LoopId) : (s.endSent l).paths = s.paths := by rw [endSent_frame]
@[simp] theorem endSent_samples (l : LoopId) : (s.endSent l).samples = s.samples := by rw [endSent_frame]
@[simp] theorem endSent_segments (l : LoopId) : (s.endSent l).segments = s.segments := by rw [endSent_frame]
@[simp] theorem endSent_players (l : LoopId) : (s.endSent l).players = s.players := by rw [endSent_frame]
@[simp] theorem endSent_serviceA (l : LoopId) : (s.endSent l).serviceA = s.serviceA := by rw [endSent_frame]
@[simp] theorem endSent_serviceB (l : LoopId) : (s.endSent l).serviceB = s.serviceB := by rw [endSent_frame]
@[simp] theorem endSent_home (l : LoopId) : (s.endSent l).home = s.home := by rw [endSent_frame]
@[simp] theorem endSent_settings (l : LoopId) : (s.endSent l).settings = s.settings := by rw [endSent_frame]
@[simp] theorem endSent_sectionFault (l : LoopId) : (s.endSent l).sectionFault = s.sectionFault := by rw [endSent_frame]
@[simp] theorem endSent_trunkFaultA (l : LoopId) : (s.endSent l).trunkFaultA = s.trunkFaultA := by rw [endSent_frame]
@[simp] theorem endSent_trunkFaultB (l : LoopId) : (s.endSent l).trunkFaultB = s.trunkFaultB := by rw [endSent_frame]
@[simp] theorem endSent_loopFaults (l : LoopId) : (s.endSent l).loopFaults = s.loopFaults := by rw [endSent_frame]
@[simp] theorem endSent_postFaults (l : LoopId) : (s.endSent l).postFaults = s.postFaults := by rw [endSent_frame]
@[simp] theorem endSent_testResults (l : LoopId) : (s.endSent l).testResults = s.testResults := by rw [endSent_frame]
@[simp] theorem endSent_marks (l : LoopId) : (s.endSent l).marks = s.marks := by rw [endSent_frame]
@[simp] theorem endSent_abandons (l : LoopId) : (s.endSent l).abandons = s.abandons := by rw [endSent_frame]
@[simp] theorem endSent_abandonPosts (l : LoopId) : (s.endSent l).abandonPosts = s.abandonPosts := by rw [endSent_frame]
@[simp] theorem endSent_mask (l : LoopId) : (s.endSent l).mask = s.mask := by rw [endSent_frame]
@[simp] theorem endSent_feed (l : LoopId) (j : LoopId) : (s.endSent l).feed j = s.feed j := by simp [feed]
@[simp] theorem endSent_record (l : LoopId) (j : SlotId) : (s.endSent l).record j = s.record j := by simp [record]
@[simp] theorem endSent_ctx (l : LoopId) (j : CtxId) : (s.endSent l).ctx j = s.ctx j := by simp [ctx]
@[simp] theorem endSent_trunk (l : LoopId) (j : Trunk) : (s.endSent l).trunk j = s.trunk j := by cases j <;> simp [trunk]
@[simp] theorem endSent_path (l : LoopId) (j : CtxId) : (s.endSent l).path j = s.path j := by simp [path]
@[simp] theorem endSent_player (l : LoopId) (j : CtxId) : (s.endSent l).player j = s.player j := by simp [player]
@[simp] theorem endSent_segment (l : LoopId) (j : SegId) : (s.endSent l).segment j = s.segment j := by simp [segment]
@[simp] theorem endSent_service (l : LoopId) (j : Trunk) : (s.endSent l).service j = s.service j := by cases j <;> simp [service]
@[simp] theorem endSent_param (l : LoopId) (j : Fin 25) : (s.endSent l).param j = s.param j := by simp [param]

/-! ### sendScanByte -/

theorem sendScanByte_frame (l : LoopId) : s.sendScanByte l = { s with
    loops := (s.sendScanByte l).loops
    rings := (s.sendScanByte l).rings } := by
  apply State.ext <;> first | with_reducible rfl | (unfold sendScanByte; dsimp only; (repeat' split) <;> simp)
@[simp] theorem sendScanByte_pending (l : LoopId) : (s.sendScanByte l).pending = s.pending := by rw [sendScanByte_frame]
@[simp] theorem sendScanByte_handed (l : LoopId) : (s.sendScanByte l).handed = s.handed := by rw [sendScanByte_frame]
@[simp] theorem sendScanByte_feeds (l : LoopId) : (s.sendScanByte l).feeds = s.feeds := by rw [sendScanByte_frame]
@[simp] theorem sendScanByte_supply (l : LoopId) : (s.sendScanByte l).supply = s.supply := by rw [sendScanByte_frame]
@[simp] theorem sendScanByte_directory (l : LoopId) : (s.sendScanByte l).directory = s.directory := by rw [sendScanByte_frame]
@[simp] theorem sendScanByte_contexts (l : LoopId) : (s.sendScanByte l).contexts = s.contexts := by rw [sendScanByte_frame]
@[simp] theorem sendScanByte_waiting (l : LoopId) : (s.sendScanByte l).waiting = s.waiting := by rw [sendScanByte_frame]
@[simp] theorem sendScanByte_entryCount (l : LoopId) : (s.sendScanByte l).entryCount = s.entryCount := by rw [sendScanByte_frame]
@[simp] theorem sendScanByte_routes (l : LoopId) : (s.sendScanByte l).routes = s.routes := by rw [sendScanByte_frame]
@[simp] theorem sendScanByte_plan (l : LoopId) : (s.sendScanByte l).plan = s.plan := by rw [sendScanByte_frame]
@[simp] theorem sendScanByte_trunkA (l : LoopId) : (s.sendScanByte l).trunkA = s.trunkA := by rw [sendScanByte_frame]
@[simp] theorem sendScanByte_trunkB (l : LoopId) : (s.sendScanByte l).trunkB = s.trunkB := by rw [sendScanByte_frame]
@[simp] theorem sendScanByte_paths (l : LoopId) : (s.sendScanByte l).paths = s.paths := by rw [sendScanByte_frame]
@[simp] theorem sendScanByte_samples (l : LoopId) : (s.sendScanByte l).samples = s.samples := by rw [sendScanByte_frame]
@[simp] theorem sendScanByte_segments (l : LoopId) : (s.sendScanByte l).segments = s.segments := by rw [sendScanByte_frame]
@[simp] theorem sendScanByte_players (l : LoopId) : (s.sendScanByte l).players = s.players := by rw [sendScanByte_frame]
@[simp] theorem sendScanByte_serviceA (l : LoopId) : (s.sendScanByte l).serviceA = s.serviceA := by rw [sendScanByte_frame]
@[simp] theorem sendScanByte_serviceB (l : LoopId) : (s.sendScanByte l).serviceB = s.serviceB := by rw [sendScanByte_frame]
@[simp] theorem sendScanByte_home (l : LoopId) : (s.sendScanByte l).home = s.home := by rw [sendScanByte_frame]
@[simp] theorem sendScanByte_settings (l : LoopId) : (s.sendScanByte l).settings = s.settings := by rw [sendScanByte_frame]
@[simp] theorem sendScanByte_sectionFault (l : LoopId) : (s.sendScanByte l).sectionFault = s.sectionFault := by rw [sendScanByte_frame]
@[simp] theorem sendScanByte_trunkFaultA (l : LoopId) : (s.sendScanByte l).trunkFaultA = s.trunkFaultA := by rw [sendScanByte_frame]
@[simp] theorem sendScanByte_trunkFaultB (l : LoopId) : (s.sendScanByte l).trunkFaultB = s.trunkFaultB := by rw [sendScanByte_frame]
@[simp] theorem sendScanByte_loopFaults (l : LoopId) : (s.sendScanByte l).loopFaults = s.loopFaults := by rw [sendScanByte_frame]
@[simp] theorem sendScanByte_postFaults (l : LoopId) : (s.sendScanByte l).postFaults = s.postFaults := by rw [sendScanByte_frame]
@[simp] theorem sendScanByte_testResults (l : LoopId) : (s.sendScanByte l).testResults = s.testResults := by rw [sendScanByte_frame]
@[simp] theorem sendScanByte_marks (l : LoopId) : (s.sendScanByte l).marks = s.marks := by rw [sendScanByte_frame]
@[simp] theorem sendScanByte_abandons (l : LoopId) : (s.sendScanByte l).abandons = s.abandons := by rw [sendScanByte_frame]
@[simp] theorem sendScanByte_abandonPosts (l : LoopId) : (s.sendScanByte l).abandonPosts = s.abandonPosts := by rw [sendScanByte_frame]
@[simp] theorem sendScanByte_mask (l : LoopId) : (s.sendScanByte l).mask = s.mask := by rw [sendScanByte_frame]
@[simp] theorem sendScanByte_feed (l : LoopId) (j : LoopId) : (s.sendScanByte l).feed j = s.feed j := by simp [feed]
@[simp] theorem sendScanByte_record (l : LoopId) (j : SlotId) : (s.sendScanByte l).record j = s.record j := by simp [record]
@[simp] theorem sendScanByte_ctx (l : LoopId) (j : CtxId) : (s.sendScanByte l).ctx j = s.ctx j := by simp [ctx]
@[simp] theorem sendScanByte_trunk (l : LoopId) (j : Trunk) : (s.sendScanByte l).trunk j = s.trunk j := by cases j <;> simp [trunk]
@[simp] theorem sendScanByte_path (l : LoopId) (j : CtxId) : (s.sendScanByte l).path j = s.path j := by simp [path]
@[simp] theorem sendScanByte_player (l : LoopId) (j : CtxId) : (s.sendScanByte l).player j = s.player j := by simp [player]
@[simp] theorem sendScanByte_segment (l : LoopId) (j : SegId) : (s.sendScanByte l).segment j = s.segment j := by simp [segment]
@[simp] theorem sendScanByte_service (l : LoopId) (j : Trunk) : (s.sendScanByte l).service j = s.service j := by cases j <;> simp [service]
@[simp] theorem sendScanByte_param (l : LoopId) (j : Fin 25) : (s.sendScanByte l).param j = s.param j := by simp [param]

/-! ### advanceRing -/

theorem advanceRing_frame (l : LoopId) : s.advanceRing l = { s with
    rings := (s.advanceRing l).rings } := by
  apply State.ext <;> first | with_reducible rfl | (unfold advanceRing; dsimp only; (repeat' split) <;> simp)
@[simp] theorem advanceRing_pending (l : LoopId) : (s.advanceRing l).pending = s.pending := by rw [advanceRing_frame]
@[simp] theorem advanceRing_handed (l : LoopId) : (s.advanceRing l).handed = s.handed := by rw [advanceRing_frame]
@[simp] theorem advanceRing_loops (l : LoopId) : (s.advanceRing l).loops = s.loops := by rw [advanceRing_frame]
@[simp] theorem advanceRing_feeds (l : LoopId) : (s.advanceRing l).feeds = s.feeds := by rw [advanceRing_frame]
@[simp] theorem advanceRing_supply (l : LoopId) : (s.advanceRing l).supply = s.supply := by rw [advanceRing_frame]
@[simp] theorem advanceRing_directory (l : LoopId) : (s.advanceRing l).directory = s.directory := by rw [advanceRing_frame]
@[simp] theorem advanceRing_contexts (l : LoopId) : (s.advanceRing l).contexts = s.contexts := by rw [advanceRing_frame]
@[simp] theorem advanceRing_waiting (l : LoopId) : (s.advanceRing l).waiting = s.waiting := by rw [advanceRing_frame]
@[simp] theorem advanceRing_entryCount (l : LoopId) : (s.advanceRing l).entryCount = s.entryCount := by rw [advanceRing_frame]
@[simp] theorem advanceRing_routes (l : LoopId) : (s.advanceRing l).routes = s.routes := by rw [advanceRing_frame]
@[simp] theorem advanceRing_plan (l : LoopId) : (s.advanceRing l).plan = s.plan := by rw [advanceRing_frame]
@[simp] theorem advanceRing_trunkA (l : LoopId) : (s.advanceRing l).trunkA = s.trunkA := by rw [advanceRing_frame]
@[simp] theorem advanceRing_trunkB (l : LoopId) : (s.advanceRing l).trunkB = s.trunkB := by rw [advanceRing_frame]
@[simp] theorem advanceRing_paths (l : LoopId) : (s.advanceRing l).paths = s.paths := by rw [advanceRing_frame]
@[simp] theorem advanceRing_samples (l : LoopId) : (s.advanceRing l).samples = s.samples := by rw [advanceRing_frame]
@[simp] theorem advanceRing_segments (l : LoopId) : (s.advanceRing l).segments = s.segments := by rw [advanceRing_frame]
@[simp] theorem advanceRing_players (l : LoopId) : (s.advanceRing l).players = s.players := by rw [advanceRing_frame]
@[simp] theorem advanceRing_serviceA (l : LoopId) : (s.advanceRing l).serviceA = s.serviceA := by rw [advanceRing_frame]
@[simp] theorem advanceRing_serviceB (l : LoopId) : (s.advanceRing l).serviceB = s.serviceB := by rw [advanceRing_frame]
@[simp] theorem advanceRing_home (l : LoopId) : (s.advanceRing l).home = s.home := by rw [advanceRing_frame]
@[simp] theorem advanceRing_settings (l : LoopId) : (s.advanceRing l).settings = s.settings := by rw [advanceRing_frame]
@[simp] theorem advanceRing_sectionFault (l : LoopId) : (s.advanceRing l).sectionFault = s.sectionFault := by rw [advanceRing_frame]
@[simp] theorem advanceRing_trunkFaultA (l : LoopId) : (s.advanceRing l).trunkFaultA = s.trunkFaultA := by rw [advanceRing_frame]
@[simp] theorem advanceRing_trunkFaultB (l : LoopId) : (s.advanceRing l).trunkFaultB = s.trunkFaultB := by rw [advanceRing_frame]
@[simp] theorem advanceRing_loopFaults (l : LoopId) : (s.advanceRing l).loopFaults = s.loopFaults := by rw [advanceRing_frame]
@[simp] theorem advanceRing_postFaults (l : LoopId) : (s.advanceRing l).postFaults = s.postFaults := by rw [advanceRing_frame]
@[simp] theorem advanceRing_testResults (l : LoopId) : (s.advanceRing l).testResults = s.testResults := by rw [advanceRing_frame]
@[simp] theorem advanceRing_marks (l : LoopId) : (s.advanceRing l).marks = s.marks := by rw [advanceRing_frame]
@[simp] theorem advanceRing_abandons (l : LoopId) : (s.advanceRing l).abandons = s.abandons := by rw [advanceRing_frame]
@[simp] theorem advanceRing_abandonPosts (l : LoopId) : (s.advanceRing l).abandonPosts = s.abandonPosts := by rw [advanceRing_frame]
@[simp] theorem advanceRing_mask (l : LoopId) : (s.advanceRing l).mask = s.mask := by rw [advanceRing_frame]
@[simp] theorem advanceRing_loop (l : LoopId) (j : LoopId) : (s.advanceRing l).loop j = s.loop j := by simp [loop]
@[simp] theorem advanceRing_feed (l : LoopId) (j : LoopId) : (s.advanceRing l).feed j = s.feed j := by simp [feed]
@[simp] theorem advanceRing_record (l : LoopId) (j : SlotId) : (s.advanceRing l).record j = s.record j := by simp [record]
@[simp] theorem advanceRing_ctx (l : LoopId) (j : CtxId) : (s.advanceRing l).ctx j = s.ctx j := by simp [ctx]
@[simp] theorem advanceRing_trunk (l : LoopId) (j : Trunk) : (s.advanceRing l).trunk j = s.trunk j := by cases j <;> simp [trunk]
@[simp] theorem advanceRing_path (l : LoopId) (j : CtxId) : (s.advanceRing l).path j = s.path j := by simp [path]
@[simp] theorem advanceRing_player (l : LoopId) (j : CtxId) : (s.advanceRing l).player j = s.player j := by simp [player]
@[simp] theorem advanceRing_segment (l : LoopId) (j : SegId) : (s.advanceRing l).segment j = s.segment j := by simp [segment]
@[simp] theorem advanceRing_service (l : LoopId) (j : Trunk) : (s.advanceRing l).service j = s.service j := by cases j <;> simp [service]
@[simp] theorem advanceRing_param (l : LoopId) (j : Fin 25) : (s.advanceRing l).param j = s.param j := by simp [param]

/-! ### takeReturn -/

theorem takeReturn_frame (l : LoopId) (f : Framed) : s.takeReturn l f = { s with
    loops := (s.takeReturn l f).loops
    handed := (s.takeReturn l f).handed } := by
  apply State.ext <;> first | with_reducible rfl | (unfold takeReturn; dsimp only; (repeat' split) <;> simp)
@[simp] theorem takeReturn_pending (l : LoopId) (f : Framed) : (s.takeReturn l f).pending = s.pending := by rw [takeReturn_frame]
@[simp] theorem takeReturn_rings (l : LoopId) (f : Framed) : (s.takeReturn l f).rings = s.rings := by rw [takeReturn_frame]
@[simp] theorem takeReturn_feeds (l : LoopId) (f : Framed) : (s.takeReturn l f).feeds = s.feeds := by rw [takeReturn_frame]
@[simp] theorem takeReturn_supply (l : LoopId) (f : Framed) : (s.takeReturn l f).supply = s.supply := by rw [takeReturn_frame]
@[simp] theorem takeReturn_directory (l : LoopId) (f : Framed) : (s.takeReturn l f).directory = s.directory := by rw [takeReturn_frame]
@[simp] theorem takeReturn_contexts (l : LoopId) (f : Framed) : (s.takeReturn l f).contexts = s.contexts := by rw [takeReturn_frame]
@[simp] theorem takeReturn_waiting (l : LoopId) (f : Framed) : (s.takeReturn l f).waiting = s.waiting := by rw [takeReturn_frame]
@[simp] theorem takeReturn_entryCount (l : LoopId) (f : Framed) : (s.takeReturn l f).entryCount = s.entryCount := by rw [takeReturn_frame]
@[simp] theorem takeReturn_routes (l : LoopId) (f : Framed) : (s.takeReturn l f).routes = s.routes := by rw [takeReturn_frame]
@[simp] theorem takeReturn_plan (l : LoopId) (f : Framed) : (s.takeReturn l f).plan = s.plan := by rw [takeReturn_frame]
@[simp] theorem takeReturn_trunkA (l : LoopId) (f : Framed) : (s.takeReturn l f).trunkA = s.trunkA := by rw [takeReturn_frame]
@[simp] theorem takeReturn_trunkB (l : LoopId) (f : Framed) : (s.takeReturn l f).trunkB = s.trunkB := by rw [takeReturn_frame]
@[simp] theorem takeReturn_paths (l : LoopId) (f : Framed) : (s.takeReturn l f).paths = s.paths := by rw [takeReturn_frame]
@[simp] theorem takeReturn_samples (l : LoopId) (f : Framed) : (s.takeReturn l f).samples = s.samples := by rw [takeReturn_frame]
@[simp] theorem takeReturn_segments (l : LoopId) (f : Framed) : (s.takeReturn l f).segments = s.segments := by rw [takeReturn_frame]
@[simp] theorem takeReturn_players (l : LoopId) (f : Framed) : (s.takeReturn l f).players = s.players := by rw [takeReturn_frame]
@[simp] theorem takeReturn_serviceA (l : LoopId) (f : Framed) : (s.takeReturn l f).serviceA = s.serviceA := by rw [takeReturn_frame]
@[simp] theorem takeReturn_serviceB (l : LoopId) (f : Framed) : (s.takeReturn l f).serviceB = s.serviceB := by rw [takeReturn_frame]
@[simp] theorem takeReturn_home (l : LoopId) (f : Framed) : (s.takeReturn l f).home = s.home := by rw [takeReturn_frame]
@[simp] theorem takeReturn_settings (l : LoopId) (f : Framed) : (s.takeReturn l f).settings = s.settings := by rw [takeReturn_frame]
@[simp] theorem takeReturn_sectionFault (l : LoopId) (f : Framed) : (s.takeReturn l f).sectionFault = s.sectionFault := by rw [takeReturn_frame]
@[simp] theorem takeReturn_trunkFaultA (l : LoopId) (f : Framed) : (s.takeReturn l f).trunkFaultA = s.trunkFaultA := by rw [takeReturn_frame]
@[simp] theorem takeReturn_trunkFaultB (l : LoopId) (f : Framed) : (s.takeReturn l f).trunkFaultB = s.trunkFaultB := by rw [takeReturn_frame]
@[simp] theorem takeReturn_loopFaults (l : LoopId) (f : Framed) : (s.takeReturn l f).loopFaults = s.loopFaults := by rw [takeReturn_frame]
@[simp] theorem takeReturn_postFaults (l : LoopId) (f : Framed) : (s.takeReturn l f).postFaults = s.postFaults := by rw [takeReturn_frame]
@[simp] theorem takeReturn_testResults (l : LoopId) (f : Framed) : (s.takeReturn l f).testResults = s.testResults := by rw [takeReturn_frame]
@[simp] theorem takeReturn_marks (l : LoopId) (f : Framed) : (s.takeReturn l f).marks = s.marks := by rw [takeReturn_frame]
@[simp] theorem takeReturn_abandons (l : LoopId) (f : Framed) : (s.takeReturn l f).abandons = s.abandons := by rw [takeReturn_frame]
@[simp] theorem takeReturn_abandonPosts (l : LoopId) (f : Framed) : (s.takeReturn l f).abandonPosts = s.abandonPosts := by rw [takeReturn_frame]
@[simp] theorem takeReturn_mask (l : LoopId) (f : Framed) : (s.takeReturn l f).mask = s.mask := by rw [takeReturn_frame]
@[simp] theorem takeReturn_ring (l : LoopId) (f : Framed) (j : LoopId) : (s.takeReturn l f).ring j = s.ring j := by simp [ring]
@[simp] theorem takeReturn_feed (l : LoopId) (f : Framed) (j : LoopId) : (s.takeReturn l f).feed j = s.feed j := by simp [feed]
@[simp] theorem takeReturn_record (l : LoopId) (f : Framed) (j : SlotId) : (s.takeReturn l f).record j = s.record j := by simp [record]
@[simp] theorem takeReturn_ctx (l : LoopId) (f : Framed) (j : CtxId) : (s.takeReturn l f).ctx j = s.ctx j := by simp [ctx]
@[simp] theorem takeReturn_trunk (l : LoopId) (f : Framed) (j : Trunk) : (s.takeReturn l f).trunk j = s.trunk j := by cases j <;> simp [trunk]
@[simp] theorem takeReturn_path (l : LoopId) (f : Framed) (j : CtxId) : (s.takeReturn l f).path j = s.path j := by simp [path]
@[simp] theorem takeReturn_player (l : LoopId) (f : Framed) (j : CtxId) : (s.takeReturn l f).player j = s.player j := by simp [player]
@[simp] theorem takeReturn_segment (l : LoopId) (f : Framed) (j : SegId) : (s.takeReturn l f).segment j = s.segment j := by simp [segment]
@[simp] theorem takeReturn_service (l : LoopId) (f : Framed) (j : Trunk) : (s.takeReturn l f).service j = s.service j := by cases j <;> simp [service]
@[simp] theorem takeReturn_param (l : LoopId) (f : Framed) (j : Fin 25) : (s.takeReturn l f).param j = s.param j := by simp [param]

/-! ### The context sampled -/

/-- The first of all contexts that meets a condition is the lowest-numbered that does. -/
theorem find_allCtxs (p : CtxId → Bool) (c : CtxId) :
    allCtxs.find? p = some c ↔ p c ∧ ∀ d, d < c → ¬ p d := by
  have hs : allCtxs.Pairwise (· < ·) := List.pairwise_lt_finRange 32
  rw [List.find?_eq_some_iff_append]
  refine and_congr_right fun hc => ⟨?_, fun h => ?_⟩
  · rintro ⟨as, bs, e, h⟩ d hd
    have hm : d ∈ as ++ c :: bs := e ▸ List.mem_finRange d
    rw [e, List.pairwise_append] at hs
    rcases List.mem_append.1 hm with hm | hm
    · simpa using h d hm
    · rcases List.mem_cons.1 hm with rfl | hm
      · exact absurd hd (lt_irrefl _)
      · exact absurd ((List.pairwise_cons.1 hs.2.1).1 d hm) (not_lt.2 hd.le)
  · obtain ⟨as, bs, e⟩ := List.append_of_mem (List.mem_finRange c)
    refine ⟨as, bs, e, fun d hd => ?_⟩
    rw [show allCtxs = as ++ c :: bs from e, List.pairwise_append] at hs
    simpa using h d (hs.2.2 d hd c (List.mem_cons_self))

/-- The context sampled on a bearer (R141), in the terms of the statements. -/
theorem sampled_eq_some (l : LoopId) (b : BearerId) (c : CtxId) : s.sampled l b = some c ↔ SampledOn s l b c := by
  have held (d : CtxId) : ((s.ctx d).state != .free && (s.ctx d).loop == l && (s.ctx d).bearer == some b &&
      (s.ctx d).state != .clearing) ↔ HoldsOpen s l b d := by
    simp only [HoldsOpen, Bool.and_eq_true, bne_iff_ne, beq_iff_eq]; tauto
  unfold sampled SampledOn holder
  split
  · rename_i h; rw [find_allCtxs]; simp only [held, h, true_and]
  · rename_i h; simp [h]

end Sys2Proof.Machine.State
end

