-- ==== Sys2Proof/Laws/Samples.lean ====
section
/-! SUPPORT. The prompt store: every operation keeps its canonical form, and what is read after a write (R150, R151). -/

namespace Sys2Proof.Machine

open Sys2Proof

/-- The canonical form of a store, one entry at a time. -/
theorem Samples.wf_cons (p : Nat) (c : Byte) (rest : List Host.Cell) :
    Samples.wf ((p, c) :: rest) = true ↔
      p < Config.storeSize ∧ c ≠ Config.factoryCode p ∧ (∀ e ∈ rest, p < e.1) ∧ Samples.wf rest = true := by
  induction rest generalizing p c with
  | nil => simp [Samples.wf]
  | cons e rest ih =>
    obtain ⟨q, d⟩ := e
    constructor
    · intro h
      simp only [Samples.wf, Bool.and_eq_true, decide_eq_true_eq, bne_iff_ne, ne_eq] at h
      obtain ⟨⟨hpq, hc⟩, hw⟩ := h
      have hq := (ih q d).1 hw
      refine ⟨lt_trans hpq hq.1, hc, ?_, hw⟩
      intro e he
      rcases List.mem_cons.1 he with rfl | he
      · exact hpq
      · exact lt_trans hpq (hq.2.2.1 e he)
    · rintro ⟨_, hc, hlt, hw⟩
      simp only [Samples.wf, Bool.and_eq_true, decide_eq_true_eq, bne_iff_ne, ne_eq]
      exact ⟨⟨hlt (q, d) (by simp), hc⟩, hw⟩

/-- The entry of a code, where there is one, stands at its position and differs from the factory contents. -/
theorem Samples.mem_cell {p : Nat} {c : Byte} {e : Host.Cell} (h : e ∈ Samples.cell p c) :
    e.1 = p ∧ e.2 = c ∧ c ≠ Config.factoryCode p := by
  unfold Samples.cell at h
  split at h
  · simp at h
  · simp only [List.mem_singleton] at h
    subst h
    exact ⟨rfl, rfl, ‹_›⟩

/-- An entry after a write is the one written or one that was there. -/
theorem Samples.mem_write {m : List Host.Cell} {p : Nat} {c : Byte} {e : Host.Cell} (h : e ∈ Samples.write m p c) :
    e.1 = p ∨ e ∈ m := by
  induction m with
  | nil => exact .inl (Samples.mem_cell h).1
  | cons x m ih =>
    obtain ⟨q, d⟩ := x
    simp only [Samples.write] at h
    split at h
    · rcases List.mem_append.1 h with h | h
      · exact .inl (Samples.mem_cell h).1
      · exact .inr h
    · split at h
      · rcases List.mem_append.1 h with h | h
        · exact .inl (Samples.mem_cell h).1
        · exact .inr (List.mem_cons_of_mem _ h)
      · rcases List.mem_cons.1 h with h | h
        · exact .inr (by simp [h])
        · exact (ih h).imp id (List.mem_cons_of_mem _)

/-- An entry put before a store whose entries all stand higher. -/
theorem Samples.wf_cell_append {p : Nat} {c : Byte} {m : List Host.Cell} (hp : p < Config.storeSize)
    (hlt : ∀ e ∈ m, p < e.1) (hm : Samples.wf m = true) : Samples.wf (Samples.cell p c ++ m) = true := by
  unfold Samples.cell
  split
  · simpa using hm
  · simpa using (Samples.wf_cons p c m).2 ⟨hp, ‹_›, hlt, hm⟩

/-- A write inside the store keeps the canonical form. -/
theorem Samples.write_wf {m : List Host.Cell} {p : Nat} {c : Byte} (hp : p < Config.storeSize)
    (hm : Samples.wf m = true) : Samples.wf (Samples.write m p c) = true := by
  induction m with
  | nil => simpa [Samples.write] using Samples.wf_cell_append (c := c) hp (m := []) (by simp) rfl
  | cons x m ih =>
    obtain ⟨q, d⟩ := x
    have h := (Samples.wf_cons q d m).1 hm
    simp only [Samples.write]
    split
    · refine Samples.wf_cell_append hp ?_ hm
      intro e he
      rcases List.mem_cons.1 he with rfl | he
      · assumption
      · exact lt_trans ‹_› (h.2.2.1 e he)
    · split
      · subst p
        exact Samples.wf_cell_append hp h.2.2.1 h.2.2.2
      · refine (Samples.wf_cons q d _).2 ⟨h.1, h.2.1, ?_, ih h.2.2.2⟩
        intro e he
        rcases Samples.mem_write he with he | he
        · omega
        · exact h.2.2.1 e he

/-- A write of codes inside the store keeps the canonical form. -/
theorem Samples.writeList_wf {cs : List Byte} {m : List Host.Cell} {p : Nat} (hp : p + cs.length ≤ Config.storeSize)
    (hm : Samples.wf m = true) : Samples.wf (Samples.writeList m p cs) = true := by
  induction cs generalizing m p with
  | nil => simpa [Samples.writeList] using hm
  | cons c cs ih =>
    simp only [List.length_cons] at hp
    exact ih (by omega) (Samples.write_wf (by omega) hm)

/-- The store after power-on has the canonical form. -/
theorem State.reset_samples_wf : Samples.wf State.reset.samples = true := rfl

/-- A position below every entry reads as the factory contents. -/
theorem Samples.read_below {m : List Host.Cell} {p : Nat} (h : ∀ e ∈ m, p < e.1) :
    Samples.read m p = Config.factoryCode p := by
  induction m with
  | nil => rfl
  | cons x m ih =>
    obtain ⟨q, d⟩ := x
    have hq : p < q := h (q, d) (by simp)
    simp only [Samples.read, if_neg (Nat.ne_of_lt hq)]
    exact ih (fun e he => h e (List.mem_cons_of_mem _ he))

/-- A read through an entry that may be absent. -/
theorem Samples.read_cell_append (m : List Host.Cell) (p q : Nat) (c : Byte)
    (h : q = p → Samples.read m p = Config.factoryCode p) :
    Samples.read (Samples.cell p c ++ m) q = if q = p then c else Samples.read m q := by
  unfold Samples.cell
  split <;> split
  · subst q; simp [*]
  · simp
  · simp [Samples.read, *]
  · simp [Samples.read, *]

/-- After a write its position reads as the code written, and every other position as before. -/
theorem Samples.read_write {m : List Host.Cell} (p q : Nat) (c : Byte) (hm : Samples.wf m = true) :
    Samples.read (Samples.write m p c) q = if q = p then c else Samples.read m q := by
  induction m with
  | nil => simpa [Samples.write] using Samples.read_cell_append [] p q c (fun _ => rfl)
  | cons x m ih =>
    obtain ⟨r, d⟩ := x
    have h := (Samples.wf_cons r d m).1 hm
    simp only [Samples.write]
    split
    · refine Samples.read_cell_append _ p q c (fun _ => Samples.read_below ?_)
      intro e he
      rcases List.mem_cons.1 he with rfl | he
      · assumption
      · exact lt_trans ‹_› (h.2.2.1 e he)
    · split
      · subst p
        rw [Samples.read_cell_append _ r q c (fun _ => Samples.read_below h.2.2.1)]
        simp only [Samples.read]
        split <;> rfl
      · simp only [Samples.read, ih h.2.2.2]
        split
        · subst q
          rw [if_neg (by omega)]
        · rfl

/-- After a write of codes, their positions read as the codes and every other position as before. -/
theorem Samples.read_writeList {cs : List Byte} {m : List Host.Cell} (p q : Nat)
    (hp : p + cs.length ≤ Config.storeSize) (hm : Samples.wf m = true) :
    Samples.read (Samples.writeList m p cs) q =
      if p ≤ q ∧ q < p + cs.length then cs.getD (q - p) 0 else Samples.read m q := by
  induction cs generalizing m p with
  | nil => simp only [Samples.writeList, List.length_nil]; rw [if_neg (by omega)]
  | cons c cs ih =>
    simp only [List.length_cons] at hp ⊢
    rw [Samples.writeList, ih (p + 1) (by omega) (Samples.write_wf (by omega) hm), Samples.read_write p q c hm]
    by_cases h : q = p
    · subst q
      simp
    · by_cases h2 : p ≤ q ∧ q < p + (cs.length + 1)
      · obtain ⟨k, hk⟩ : ∃ k, q - p = k + 1 := ⟨q - p - 1, by omega⟩
        have hk2 : q - (p + 1) = k := by omega
        rw [if_pos (by omega), if_pos h2, hk, hk2]
        simp
      · rw [if_neg (by omega), if_neg h, if_neg h2]

/-- Reading codes in a row reads each position. -/
theorem Samples.readList_eq (m : List Host.Cell) (p n : Nat) :
    Samples.readList m p n = (List.range n).map (fun k => Samples.read m (p + k)) := by
  induction n generalizing p with
  | zero => rfl
  | succ n ih =>
    rw [Samples.readList, ih, List.range_succ_eq_map]
    simp [Function.comp_def, Nat.add_assoc, Nat.add_comm 1]

end Sys2Proof.Machine
end

