-- ==== Sys2Proof/Laws/Trunks.lean ====
section
/-! SUPPORT. What each operation of the trunk interfaces and the service channel's bytes may change, one equation each, and what it leaves in every other field. -/

namespace Sys2Proof.Machine.State

open Sys2Proof

variable (s : State)

/-! ### wakeNotice -/

theorem wakeNotice_frame : s.wakeNotice = { s with
    handed := (s.wakeNotice).handed } := by
  apply State.ext <;> first | with_reducible rfl | (simp [wakeNotice])
@[simp] theorem wakeNotice_pending : (s.wakeNotice).pending = s.pending := by rw [wakeNotice_frame]
@[simp] theorem wakeNotice_loops : (s.wakeNotice).loops = s.loops := by rw [wakeNotice_frame]
@[simp] theorem wakeNotice_rings : (s.wakeNotice).rings = s.rings := by rw [wakeNotice_frame]
@[simp] theorem wakeNotice_feeds : (s.wakeNotice).feeds = s.feeds := by rw [wakeNotice_frame]
@[simp] theorem wakeNotice_supply : (s.wakeNotice).supply = s.supply := by rw [wakeNotice_frame]
@[simp] theorem wakeNotice_directory : (s.wakeNotice).directory = s.directory := by rw [wakeNotice_frame]
@[simp] theorem wakeNotice_contexts : (s.wakeNotice).contexts = s.contexts := by rw [wakeNotice_frame]
@[simp] theorem wakeNotice_waiting : (s.wakeNotice).waiting = s.waiting := by rw [wakeNotice_frame]
@[simp] theorem wakeNotice_entryCount : (s.wakeNotice).entryCount = s.entryCount := by rw [wakeNotice_frame]
@[simp] theorem wakeNotice_routes : (s.wakeNotice).routes = s.routes := by rw [wakeNotice_frame]
@[simp] theorem wakeNotice_plan : (s.wakeNotice).plan = s.plan := by rw [wakeNotice_frame]
@[simp] theorem wakeNotice_trunkA : (s.wakeNotice).trunkA = s.trunkA := by rw [wakeNotice_frame]
@[simp] theorem wakeNotice_trunkB : (s.wakeNotice).trunkB = s.trunkB := by rw [wakeNotice_frame]
@[simp] theorem wakeNotice_paths : (s.wakeNotice).paths = s.paths := by rw [wakeNotice_frame]
@[simp] theorem wakeNotice_samples : (s.wakeNotice).samples = s.samples := by rw [wakeNotice_frame]
@[simp] theorem wakeNotice_segments : (s.wakeNotice).segments = s.segments := by rw [wakeNotice_frame]
@[simp] theorem wakeNotice_players : (s.wakeNotice).players = s.players := by rw [wakeNotice_frame]
@[simp] theorem wakeNotice_serviceA : (s.wakeNotice).serviceA = s.serviceA := by rw [wakeNotice_frame]
@[simp] theorem wakeNotice_serviceB : (s.wakeNotice).serviceB = s.serviceB := by rw [wakeNotice_frame]
@[simp] theorem wakeNotice_home : (s.wakeNotice).home = s.home := by rw [wakeNotice_frame]
@[simp] theorem wakeNotice_settings : (s.wakeNotice).settings = s.settings := by rw [wakeNotice_frame]
@[simp] theorem wakeNotice_sectionFault : (s.wakeNotice).sectionFault = s.sectionFault := by rw [wakeNotice_frame]
@[simp] theorem wakeNotice_trunkFaultA : (s.wakeNotice).trunkFaultA = s.trunkFaultA := by rw [wakeNotice_frame]
@[simp] theorem wakeNotice_trunkFaultB : (s.wakeNotice).trunkFaultB = s.trunkFaultB := by rw [wakeNotice_frame]
@[simp] theorem wakeNotice_loopFaults : (s.wakeNotice).loopFaults = s.loopFaults := by rw [wakeNotice_frame]
@[simp] theorem wakeNotice_postFaults : (s.wakeNotice).postFaults = s.postFaults := by rw [wakeNotice_frame]
@[simp] theorem wakeNotice_testResults : (s.wakeNotice).testResults = s.testResults := by rw [wakeNotice_frame]
@[simp] theorem wakeNotice_marks : (s.wakeNotice).marks = s.marks := by rw [wakeNotice_frame]
@[simp] theorem wakeNotice_abandons : (s.wakeNotice).abandons = s.abandons := by rw [wakeNotice_frame]
@[simp] theorem wakeNotice_abandonPosts : (s.wakeNotice).abandonPosts = s.abandonPosts := by rw [wakeNotice_frame]
@[simp] theorem wakeNotice_mask : (s.wakeNotice).mask = s.mask := by rw [wakeNotice_frame]
@[simp] theorem wakeNotice_loop (j : LoopId) : (s.wakeNotice).loop j = s.loop j := by simp [loop]
@[simp] theorem wakeNotice_ring (j : LoopId) : (s.wakeNotice).ring j = s.ring j := by simp [ring]
@[simp] theorem wakeNotice_feed (j : LoopId) : (s.wakeNotice).feed j = s.feed j := by simp [feed]
@[simp] theorem wakeNotice_record (j : SlotId) : (s.wakeNotice).record j = s.record j := by simp [record]
@[simp] theorem wakeNotice_ctx (j : CtxId) : (s.wakeNotice).ctx j = s.ctx j := by simp [ctx]
@[simp] theorem wakeNotice_trunk (j : Trunk) : (s.wakeNotice).trunk j = s.trunk j := by cases j <;> simp [trunk]
@[simp] theorem wakeNotice_path (j : CtxId) : (s.wakeNotice).path j = s.path j := by simp [path]
@[simp] theorem wakeNotice_player (j : CtxId) : (s.wakeNotice).player j = s.player j := by simp [player]
@[simp] theorem wakeNotice_segment (j : SegId) : (s.wakeNotice).segment j = s.segment j := by simp [segment]
@[simp] theorem wakeNotice_service (j : Trunk) : (s.wakeNotice).service j = s.service j := by cases j <;> simp [service]
@[simp] theorem wakeNotice_param (j : Fin 25) : (s.wakeNotice).param j = s.param j := by simp [param]

/-! ### startReply -/

theorem startReply_frame (t : Trunk) : s.startReply t = { s with
    serviceA := (s.startReply t).serviceA
    serviceB := (s.startReply t).serviceB } := by
  apply State.ext <;> first | with_reducible rfl | (simp [startReply])
@[simp] theorem startReply_pending (t : Trunk) : (s.startReply t).pending = s.pending := by rw [startReply_frame]
@[simp] theorem startReply_handed (t : Trunk) : (s.startReply t).handed = s.handed := by rw [startReply_frame]
@[simp] theorem startReply_loops (t : Trunk) : (s.startReply t).loops = s.loops := by rw [startReply_frame]
@[simp] theorem startReply_rings (t : Trunk) : (s.startReply t).rings = s.rings := by rw [startReply_frame]
@[simp] theorem startReply_feeds (t : Trunk) : (s.startReply t).feeds = s.feeds := by rw [startReply_frame]
@[simp] theorem startReply_supply (t : Trunk) : (s.startReply t).supply = s.supply := by rw [startReply_frame]
@[simp] theorem startReply_directory (t : Trunk) : (s.startReply t).directory = s.directory := by rw [startReply_frame]
@[simp] theorem startReply_contexts (t : Trunk) : (s.startReply t).contexts = s.contexts := by rw [startReply_frame]
@[simp] theorem startReply_waiting (t : Trunk) : (s.startReply t).waiting = s.waiting := by rw [startReply_frame]
@[simp] theorem startReply_entryCount (t : Trunk) : (s.startReply t).entryCount = s.entryCount := by rw [startReply_frame]
@[simp] theorem startReply_routes (t : Trunk) : (s.startReply t).routes = s.routes := by rw [startReply_frame]
@[simp] theorem startReply_plan (t : Trunk) : (s.startReply t).plan = s.plan := by rw [startReply_frame]
@[simp] theorem startReply_trunkA (t : Trunk) : (s.startReply t).trunkA = s.trunkA := by rw [startReply_frame]
@[simp] theorem startReply_trunkB (t : Trunk) : (s.startReply t).trunkB = s.trunkB := by rw [startReply_frame]
@[simp] theorem startReply_paths (t : Trunk) : (s.startReply t).paths = s.paths := by rw [startReply_frame]
@[simp] theorem startReply_samples (t : Trunk) : (s.startReply t).samples = s.samples := by rw [startReply_frame]
@[simp] theorem startReply_segments (t : Trunk) : (s.startReply t).segments = s.segments := by rw [startReply_frame]
@[simp] theorem startReply_players (t : Trunk) : (s.startReply t).players = s.players := by rw [startReply_frame]
@[simp] theorem startReply_home (t : Trunk) : (s.startReply t).home = s.home := by rw [startReply_frame]
@[simp] theorem startReply_settings (t : Trunk) : (s.startReply t).settings = s.settings := by rw [startReply_frame]
@[simp] theorem startReply_sectionFault (t : Trunk) : (s.startReply t).sectionFault = s.sectionFault := by rw [startReply_frame]
@[simp] theorem startReply_trunkFaultA (t : Trunk) : (s.startReply t).trunkFaultA = s.trunkFaultA := by rw [startReply_frame]
@[simp] theorem startReply_trunkFaultB (t : Trunk) : (s.startReply t).trunkFaultB = s.trunkFaultB := by rw [startReply_frame]
@[simp] theorem startReply_loopFaults (t : Trunk) : (s.startReply t).loopFaults = s.loopFaults := by rw [startReply_frame]
@[simp] theorem startReply_postFaults (t : Trunk) : (s.startReply t).postFaults = s.postFaults := by rw [startReply_frame]
@[simp] theorem startReply_testResults (t : Trunk) : (s.startReply t).testResults = s.testResults := by rw [startReply_frame]
@[simp] theorem startReply_marks (t : Trunk) : (s.startReply t).marks = s.marks := by rw [startReply_frame]
@[simp] theorem startReply_abandons (t : Trunk) : (s.startReply t).abandons = s.abandons := by rw [startReply_frame]
@[simp] theorem startReply_abandonPosts (t : Trunk) : (s.startReply t).abandonPosts = s.abandonPosts := by rw [startReply_frame]
@[simp] theorem startReply_mask (t : Trunk) : (s.startReply t).mask = s.mask := by rw [startReply_frame]
@[simp] theorem startReply_loop (t : Trunk) (j : LoopId) : (s.startReply t).loop j = s.loop j := by simp [loop]
@[simp] theorem startReply_ring (t : Trunk) (j : LoopId) : (s.startReply t).ring j = s.ring j := by simp [ring]
@[simp] theorem startReply_feed (t : Trunk) (j : LoopId) : (s.startReply t).feed j = s.feed j := by simp [feed]
@[simp] theorem startReply_record (t : Trunk) (j : SlotId) : (s.startReply t).record j = s.record j := by simp [record]
@[simp] theorem startReply_ctx (t : Trunk) (j : CtxId) : (s.startReply t).ctx j = s.ctx j := by simp [ctx]
@[simp] theorem startReply_trunk (t : Trunk) (j : Trunk) : (s.startReply t).trunk j = s.trunk j := by cases j <;> simp [trunk]
@[simp] theorem startReply_path (t : Trunk) (j : CtxId) : (s.startReply t).path j = s.path j := by simp [path]
@[simp] theorem startReply_player (t : Trunk) (j : CtxId) : (s.startReply t).player j = s.player j := by simp [player]
@[simp] theorem startReply_segment (t : Trunk) (j : SegId) : (s.startReply t).segment j = s.segment j := by simp [segment]
@[simp] theorem startReply_param (t : Trunk) (j : Fin 25) : (s.startReply t).param j = s.param j := by simp [param]

/-! ### afterNotice -/

theorem afterNotice_frame (t : Trunk) : s.afterNotice t = { s with
    handed := (s.afterNotice t).handed } := by
  apply State.ext <;> first | with_reducible rfl | (unfold afterNotice; dsimp only; (repeat' split) <;> simp)
@[simp] theorem afterNotice_pending (t : Trunk) : (s.afterNotice t).pending = s.pending := by rw [afterNotice_frame]
@[simp] theorem afterNotice_loops (t : Trunk) : (s.afterNotice t).loops = s.loops := by rw [afterNotice_frame]
@[simp] theorem afterNotice_rings (t : Trunk) : (s.afterNotice t).rings = s.rings := by rw [afterNotice_frame]
@[simp] theorem afterNotice_feeds (t : Trunk) : (s.afterNotice t).feeds = s.feeds := by rw [afterNotice_frame]
@[simp] theorem afterNotice_supply (t : Trunk) : (s.afterNotice t).supply = s.supply := by rw [afterNotice_frame]
@[simp] theorem afterNotice_directory (t : Trunk) : (s.afterNotice t).directory = s.directory := by rw [afterNotice_frame]
@[simp] theorem afterNotice_contexts (t : Trunk) : (s.afterNotice t).contexts = s.contexts := by rw [afterNotice_frame]
@[simp] theorem afterNotice_waiting (t : Trunk) : (s.afterNotice t).waiting = s.waiting := by rw [afterNotice_frame]
@[simp] theorem afterNotice_entryCount (t : Trunk) : (s.afterNotice t).entryCount = s.entryCount := by rw [afterNotice_frame]
@[simp] theorem afterNotice_routes (t : Trunk) : (s.afterNotice t).routes = s.routes := by rw [afterNotice_frame]
@[simp] theorem afterNotice_plan (t : Trunk) : (s.afterNotice t).plan = s.plan := by rw [afterNotice_frame]
@[simp] theorem afterNotice_trunkA (t : Trunk) : (s.afterNotice t).trunkA = s.trunkA := by rw [afterNotice_frame]
@[simp] theorem afterNotice_trunkB (t : Trunk) : (s.afterNotice t).trunkB = s.trunkB := by rw [afterNotice_frame]
@[simp] theorem afterNotice_paths (t : Trunk) : (s.afterNotice t).paths = s.paths := by rw [afterNotice_frame]
@[simp] theorem afterNotice_samples (t : Trunk) : (s.afterNotice t).samples = s.samples := by rw [afterNotice_frame]
@[simp] theorem afterNotice_segments (t : Trunk) : (s.afterNotice t).segments = s.segments := by rw [afterNotice_frame]
@[simp] theorem afterNotice_players (t : Trunk) : (s.afterNotice t).players = s.players := by rw [afterNotice_frame]
@[simp] theorem afterNotice_serviceA (t : Trunk) : (s.afterNotice t).serviceA = s.serviceA := by rw [afterNotice_frame]
@[simp] theorem afterNotice_serviceB (t : Trunk) : (s.afterNotice t).serviceB = s.serviceB := by rw [afterNotice_frame]
@[simp] theorem afterNotice_home (t : Trunk) : (s.afterNotice t).home = s.home := by rw [afterNotice_frame]
@[simp] theorem afterNotice_settings (t : Trunk) : (s.afterNotice t).settings = s.settings := by rw [afterNotice_frame]
@[simp] theorem afterNotice_sectionFault (t : Trunk) : (s.afterNotice t).sectionFault = s.sectionFault := by rw [afterNotice_frame]
@[simp] theorem afterNotice_trunkFaultA (t : Trunk) : (s.afterNotice t).trunkFaultA = s.trunkFaultA := by rw [afterNotice_frame]
@[simp] theorem afterNotice_trunkFaultB (t : Trunk) : (s.afterNotice t).trunkFaultB = s.trunkFaultB := by rw [afterNotice_frame]
@[simp] theorem afterNotice_loopFaults (t : Trunk) : (s.afterNotice t).loopFaults = s.loopFaults := by rw [afterNotice_frame]
@[simp] theorem afterNotice_postFaults (t : Trunk) : (s.afterNotice t).postFaults = s.postFaults := by rw [afterNotice_frame]
@[simp] theorem afterNotice_testResults (t : Trunk) : (s.afterNotice t).testResults = s.testResults := by rw [afterNotice_frame]
@[simp] theorem afterNotice_marks (t : Trunk) : (s.afterNotice t).marks = s.marks := by rw [afterNotice_frame]
@[simp] theorem afterNotice_abandons (t : Trunk) : (s.afterNotice t).abandons = s.abandons := by rw [afterNotice_frame]
@[simp] theorem afterNotice_abandonPosts (t : Trunk) : (s.afterNotice t).abandonPosts = s.abandonPosts := by rw [afterNotice_frame]
@[simp] theorem afterNotice_mask (t : Trunk) : (s.afterNotice t).mask = s.mask := by rw [afterNotice_frame]
@[simp] theorem afterNotice_loop (t : Trunk) (j : LoopId) : (s.afterNotice t).loop j = s.loop j := by simp [loop]
@[simp] theorem afterNotice_ring (t : Trunk) (j : LoopId) : (s.afterNotice t).ring j = s.ring j := by simp [ring]
@[simp] theorem afterNotice_feed (t : Trunk) (j : LoopId) : (s.afterNotice t).feed j = s.feed j := by simp [feed]
@[simp] theorem afterNotice_record (t : Trunk) (j : SlotId) : (s.afterNotice t).record j = s.record j := by simp [record]
@[simp] theorem afterNotice_ctx (t : Trunk) (j : CtxId) : (s.afterNotice t).ctx j = s.ctx j := by simp [ctx]
@[simp] theorem afterNotice_trunk (t : Trunk) (j : Trunk) : (s.afterNotice t).trunk j = s.trunk j := by cases j <;> simp [trunk]
@[simp] theorem afterNotice_path (t : Trunk) (j : CtxId) : (s.afterNotice t).path j = s.path j := by simp [path]
@[simp] theorem afterNotice_player (t : Trunk) (j : CtxId) : (s.afterNotice t).player j = s.player j := by simp [player]
@[simp] theorem afterNotice_segment (t : Trunk) (j : SegId) : (s.afterNotice t).segment j = s.segment j := by simp [segment]
@[simp] theorem afterNotice_service (t : Trunk) (j : Trunk) : (s.afterNotice t).service j = s.service j := by cases j <;> simp [service]
@[simp] theorem afterNotice_param (t : Trunk) (j : Fin 25) : (s.afterNotice t).param j = s.param j := by simp [param]

/-! ### afterByte -/

theorem afterByte_frame (t : Trunk) (was : Transmit) : s.afterByte t was = { s with
    handed := (s.afterByte t was).handed } := by
  apply State.ext <;> first | with_reducible rfl | (unfold afterByte; dsimp only; (repeat' split) <;> simp)
@[simp] theorem afterByte_pending (t : Trunk) (was : Transmit) : (s.afterByte t was).pending = s.pending := by rw [afterByte_frame]
@[simp] theorem afterByte_loops (t : Trunk) (was : Transmit) : (s.afterByte t was).loops = s.loops := by rw [afterByte_frame]
@[simp] theorem afterByte_rings (t : Trunk) (was : Transmit) : (s.afterByte t was).rings = s.rings := by rw [afterByte_frame]
@[simp] theorem afterByte_feeds (t : Trunk) (was : Transmit) : (s.afterByte t was).feeds = s.feeds := by rw [afterByte_frame]
@[simp] theorem afterByte_supply (t : Trunk) (was : Transmit) : (s.afterByte t was).supply = s.supply := by rw [afterByte_frame]
@[simp] theorem afterByte_directory (t : Trunk) (was : Transmit) : (s.afterByte t was).directory = s.directory := by rw [afterByte_frame]
@[simp] theorem afterByte_contexts (t : Trunk) (was : Transmit) : (s.afterByte t was).contexts = s.contexts := by rw [afterByte_frame]
@[simp] theorem afterByte_waiting (t : Trunk) (was : Transmit) : (s.afterByte t was).waiting = s.waiting := by rw [afterByte_frame]
@[simp] theorem afterByte_entryCount (t : Trunk) (was : Transmit) : (s.afterByte t was).entryCount = s.entryCount := by rw [afterByte_frame]
@[simp] theorem afterByte_routes (t : Trunk) (was : Transmit) : (s.afterByte t was).routes = s.routes := by rw [afterByte_frame]
@[simp] theorem afterByte_plan (t : Trunk) (was : Transmit) : (s.afterByte t was).plan = s.plan := by rw [afterByte_frame]
@[simp] theorem afterByte_trunkA (t : Trunk) (was : Transmit) : (s.afterByte t was).trunkA = s.trunkA := by rw [afterByte_frame]
@[simp] theorem afterByte_trunkB (t : Trunk) (was : Transmit) : (s.afterByte t was).trunkB = s.trunkB := by rw [afterByte_frame]
@[simp] theorem afterByte_paths (t : Trunk) (was : Transmit) : (s.afterByte t was).paths = s.paths := by rw [afterByte_frame]
@[simp] theorem afterByte_samples (t : Trunk) (was : Transmit) : (s.afterByte t was).samples = s.samples := by rw [afterByte_frame]
@[simp] theorem afterByte_segments (t : Trunk) (was : Transmit) : (s.afterByte t was).segments = s.segments := by rw [afterByte_frame]
@[simp] theorem afterByte_players (t : Trunk) (was : Transmit) : (s.afterByte t was).players = s.players := by rw [afterByte_frame]
@[simp] theorem afterByte_serviceA (t : Trunk) (was : Transmit) : (s.afterByte t was).serviceA = s.serviceA := by rw [afterByte_frame]
@[simp] theorem afterByte_serviceB (t : Trunk) (was : Transmit) : (s.afterByte t was).serviceB = s.serviceB := by rw [afterByte_frame]
@[simp] theorem afterByte_home (t : Trunk) (was : Transmit) : (s.afterByte t was).home = s.home := by rw [afterByte_frame]
@[simp] theorem afterByte_settings (t : Trunk) (was : Transmit) : (s.afterByte t was).settings = s.settings := by rw [afterByte_frame]
@[simp] theorem afterByte_sectionFault (t : Trunk) (was : Transmit) : (s.afterByte t was).sectionFault = s.sectionFault := by rw [afterByte_frame]
@[simp] theorem afterByte_trunkFaultA (t : Trunk) (was : Transmit) : (s.afterByte t was).trunkFaultA = s.trunkFaultA := by rw [afterByte_frame]
@[simp] theorem afterByte_trunkFaultB (t : Trunk) (was : Transmit) : (s.afterByte t was).trunkFaultB = s.trunkFaultB := by rw [afterByte_frame]
@[simp] theorem afterByte_loopFaults (t : Trunk) (was : Transmit) : (s.afterByte t was).loopFaults = s.loopFaults := by rw [afterByte_frame]
@[simp] theorem afterByte_postFaults (t : Trunk) (was : Transmit) : (s.afterByte t was).postFaults = s.postFaults := by rw [afterByte_frame]
@[simp] theorem afterByte_testResults (t : Trunk) (was : Transmit) : (s.afterByte t was).testResults = s.testResults := by rw [afterByte_frame]
@[simp] theorem afterByte_marks (t : Trunk) (was : Transmit) : (s.afterByte t was).marks = s.marks := by rw [afterByte_frame]
@[simp] theorem afterByte_abandons (t : Trunk) (was : Transmit) : (s.afterByte t was).abandons = s.abandons := by rw [afterByte_frame]
@[simp] theorem afterByte_abandonPosts (t : Trunk) (was : Transmit) : (s.afterByte t was).abandonPosts = s.abandonPosts := by rw [afterByte_frame]
@[simp] theorem afterByte_mask (t : Trunk) (was : Transmit) : (s.afterByte t was).mask = s.mask := by rw [afterByte_frame]
@[simp] theorem afterByte_loop (t : Trunk) (was : Transmit) (j : LoopId) : (s.afterByte t was).loop j = s.loop j := by simp [loop]
@[simp] theorem afterByte_ring (t : Trunk) (was : Transmit) (j : LoopId) : (s.afterByte t was).ring j = s.ring j := by simp [ring]
@[simp] theorem afterByte_feed (t : Trunk) (was : Transmit) (j : LoopId) : (s.afterByte t was).feed j = s.feed j := by simp [feed]
@[simp] theorem afterByte_record (t : Trunk) (was : Transmit) (j : SlotId) : (s.afterByte t was).record j = s.record j := by simp [record]
@[simp] theorem afterByte_ctx (t : Trunk) (was : Transmit) (j : CtxId) : (s.afterByte t was).ctx j = s.ctx j := by simp [ctx]
@[simp] theorem afterByte_trunk (t : Trunk) (was : Transmit) (j : Trunk) : (s.afterByte t was).trunk j = s.trunk j := by cases j <;> simp [trunk]
@[simp] theorem afterByte_path (t : Trunk) (was : Transmit) (j : CtxId) : (s.afterByte t was).path j = s.path j := by simp [path]
@[simp] theorem afterByte_player (t : Trunk) (was : Transmit) (j : CtxId) : (s.afterByte t was).player j = s.player j := by simp [player]
@[simp] theorem afterByte_segment (t : Trunk) (was : Transmit) (j : SegId) : (s.afterByte t was).segment j = s.segment j := by simp [segment]
@[simp] theorem afterByte_service (t : Trunk) (was : Transmit) (j : Trunk) : (s.afterByte t was).service j = s.service j := by cases j <;> simp [service]
@[simp] theorem afterByte_param (t : Trunk) (was : Transmit) (j : Fin 25) : (s.afterByte t was).param j = s.param j := by simp [param]

/-! ### sendService -/

theorem sendService_frame (t : Trunk) : s.sendService t = { s with
    serviceA := (s.sendService t).serviceA
    serviceB := (s.sendService t).serviceB
    handed := (s.sendService t).handed } := by
  apply State.ext <;> first | with_reducible rfl | (simp [sendService])
@[simp] theorem sendService_pending (t : Trunk) : (s.sendService t).pending = s.pending := by rw [sendService_frame]
@[simp] theorem sendService_loops (t : Trunk) : (s.sendService t).loops = s.loops := by rw [sendService_frame]
@[simp] theorem sendService_rings (t : Trunk) : (s.sendService t).rings = s.rings := by rw [sendService_frame]
@[simp] theorem sendService_feeds (t : Trunk) : (s.sendService t).feeds = s.feeds := by rw [sendService_frame]
@[simp] theorem sendService_supply (t : Trunk) : (s.sendService t).supply = s.supply := by rw [sendService_frame]
@[simp] theorem sendService_directory (t : Trunk) : (s.sendService t).directory = s.directory := by rw [sendService_frame]
@[simp] theorem sendService_contexts (t : Trunk) : (s.sendService t).contexts = s.contexts := by rw [sendService_frame]
@[simp] theorem sendService_waiting (t : Trunk) : (s.sendService t).waiting = s.waiting := by rw [sendService_frame]
@[simp] theorem sendService_entryCount (t : Trunk) : (s.sendService t).entryCount = s.entryCount := by rw [sendService_frame]
@[simp] theorem sendService_routes (t : Trunk) : (s.sendService t).routes = s.routes := by rw [sendService_frame]
@[simp] theorem sendService_plan (t : Trunk) : (s.sendService t).plan = s.plan := by rw [sendService_frame]
@[simp] theorem sendService_trunkA (t : Trunk) : (s.sendService t).trunkA = s.trunkA := by rw [sendService_frame]
@[simp] theorem sendService_trunkB (t : Trunk) : (s.sendService t).trunkB = s.trunkB := by rw [sendService_frame]
@[simp] theorem sendService_paths (t : Trunk) : (s.sendService t).paths = s.paths := by rw [sendService_frame]
@[simp] theorem sendService_samples (t : Trunk) : (s.sendService t).samples = s.samples := by rw [sendService_frame]
@[simp] theorem sendService_segments (t : Trunk) : (s.sendService t).segments = s.segments := by rw [sendService_frame]
@[simp] theorem sendService_players (t : Trunk) : (s.sendService t).players = s.players := by rw [sendService_frame]
@[simp] theorem sendService_home (t : Trunk) : (s.sendService t).home = s.home := by rw [sendService_frame]
@[simp] theorem sendService_settings (t : Trunk) : (s.sendService t).settings = s.settings := by rw [sendService_frame]
@[simp] theorem sendService_sectionFault (t : Trunk) : (s.sendService t).sectionFault = s.sectionFault := by rw [sendService_frame]
@[simp] theorem sendService_trunkFaultA (t : Trunk) : (s.sendService t).trunkFaultA = s.trunkFaultA := by rw [sendService_frame]
@[simp] theorem sendService_trunkFaultB (t : Trunk) : (s.sendService t).trunkFaultB = s.trunkFaultB := by rw [sendService_frame]
@[simp] theorem sendService_loopFaults (t : Trunk) : (s.sendService t).loopFaults = s.loopFaults := by rw [sendService_frame]
@[simp] theorem sendService_postFaults (t : Trunk) : (s.sendService t).postFaults = s.postFaults := by rw [sendService_frame]
@[simp] theorem sendService_testResults (t : Trunk) : (s.sendService t).testResults = s.testResults := by rw [sendService_frame]
@[simp] theorem sendService_marks (t : Trunk) : (s.sendService t).marks = s.marks := by rw [sendService_frame]
@[simp] theorem sendService_abandons (t : Trunk) : (s.sendService t).abandons = s.abandons := by rw [sendService_frame]
@[simp] theorem sendService_abandonPosts (t : Trunk) : (s.sendService t).abandonPosts = s.abandonPosts := by rw [sendService_frame]
@[simp] theorem sendService_mask (t : Trunk) : (s.sendService t).mask = s.mask := by rw [sendService_frame]
@[simp] theorem sendService_loop (t : Trunk) (j : LoopId) : (s.sendService t).loop j = s.loop j := by simp [loop]
@[simp] theorem sendService_ring (t : Trunk) (j : LoopId) : (s.sendService t).ring j = s.ring j := by simp [ring]
@[simp] theorem sendService_feed (t : Trunk) (j : LoopId) : (s.sendService t).feed j = s.feed j := by simp [feed]
@[simp] theorem sendService_record (t : Trunk) (j : SlotId) : (s.sendService t).record j = s.record j := by simp [record]
@[simp] theorem sendService_ctx (t : Trunk) (j : CtxId) : (s.sendService t).ctx j = s.ctx j := by simp [ctx]
@[simp] theorem sendService_trunk (t : Trunk) (j : Trunk) : (s.sendService t).trunk j = s.trunk j := by cases j <;> simp [trunk]
@[simp] theorem sendService_path (t : Trunk) (j : CtxId) : (s.sendService t).path j = s.path j := by simp [path]
@[simp] theorem sendService_player (t : Trunk) (j : CtxId) : (s.sendService t).player j = s.player j := by simp [player]
@[simp] theorem sendService_segment (t : Trunk) (j : SegId) : (s.sendService t).segment j = s.segment j := by simp [segment]
@[simp] theorem sendService_param (t : Trunk) (j : Fin 25) : (s.sendService t).param j = s.param j := by simp [param]

/-! ### feedService -/

theorem feedService_frame (t : Trunk) (b : Byte) : s.feedService t b = { s with
    serviceA := (s.feedService t b).serviceA
    serviceB := (s.feedService t b).serviceB
    handed := (s.feedService t b).handed } := by
  apply State.ext <;> first | with_reducible rfl | (unfold feedService; dsimp only; (repeat' split) <;> simp)
@[simp] theorem feedService_pending (t : Trunk) (b : Byte) : (s.feedService t b).pending = s.pending := by rw [feedService_frame]
@[simp] theorem feedService_loops (t : Trunk) (b : Byte) : (s.feedService t b).loops = s.loops := by rw [feedService_frame]
@[simp] theorem feedService_rings (t : Trunk) (b : Byte) : (s.feedService t b).rings = s.rings := by rw [feedService_frame]
@[simp] theorem feedService_feeds (t : Trunk) (b : Byte) : (s.feedService t b).feeds = s.feeds := by rw [feedService_frame]
@[simp] theorem feedService_supply (t : Trunk) (b : Byte) : (s.feedService t b).supply = s.supply := by rw [feedService_frame]
@[simp] theorem feedService_directory (t : Trunk) (b : Byte) : (s.feedService t b).directory = s.directory := by rw [feedService_frame]
@[simp] theorem feedService_contexts (t : Trunk) (b : Byte) : (s.feedService t b).contexts = s.contexts := by rw [feedService_frame]
@[simp] theorem feedService_waiting (t : Trunk) (b : Byte) : (s.feedService t b).waiting = s.waiting := by rw [feedService_frame]
@[simp] theorem feedService_entryCount (t : Trunk) (b : Byte) : (s.feedService t b).entryCount = s.entryCount := by rw [feedService_frame]
@[simp] theorem feedService_routes (t : Trunk) (b : Byte) : (s.feedService t b).routes = s.routes := by rw [feedService_frame]
@[simp] theorem feedService_plan (t : Trunk) (b : Byte) : (s.feedService t b).plan = s.plan := by rw [feedService_frame]
@[simp] theorem feedService_trunkA (t : Trunk) (b : Byte) : (s.feedService t b).trunkA = s.trunkA := by rw [feedService_frame]
@[simp] theorem feedService_trunkB (t : Trunk) (b : Byte) : (s.feedService t b).trunkB = s.trunkB := by rw [feedService_frame]
@[simp] theorem feedService_paths (t : Trunk) (b : Byte) : (s.feedService t b).paths = s.paths := by rw [feedService_frame]
@[simp] theorem feedService_samples (t : Trunk) (b : Byte) : (s.feedService t b).samples = s.samples := by rw [feedService_frame]
@[simp] theorem feedService_segments (t : Trunk) (b : Byte) : (s.feedService t b).segments = s.segments := by rw [feedService_frame]
@[simp] theorem feedService_players (t : Trunk) (b : Byte) : (s.feedService t b).players = s.players := by rw [feedService_frame]
@[simp] theorem feedService_home (t : Trunk) (b : Byte) : (s.feedService t b).home = s.home := by rw [feedService_frame]
@[simp] theorem feedService_settings (t : Trunk) (b : Byte) : (s.feedService t b).settings = s.settings := by rw [feedService_frame]
@[simp] theorem feedService_sectionFault (t : Trunk) (b : Byte) : (s.feedService t b).sectionFault = s.sectionFault := by rw [feedService_frame]
@[simp] theorem feedService_trunkFaultA (t : Trunk) (b : Byte) : (s.feedService t b).trunkFaultA = s.trunkFaultA := by rw [feedService_frame]
@[simp] theorem feedService_trunkFaultB (t : Trunk) (b : Byte) : (s.feedService t b).trunkFaultB = s.trunkFaultB := by rw [feedService_frame]
@[simp] theorem feedService_loopFaults (t : Trunk) (b : Byte) : (s.feedService t b).loopFaults = s.loopFaults := by rw [feedService_frame]
@[simp] theorem feedService_postFaults (t : Trunk) (b : Byte) : (s.feedService t b).postFaults = s.postFaults := by rw [feedService_frame]
@[simp] theorem feedService_testResults (t : Trunk) (b : Byte) : (s.feedService t b).testResults = s.testResults := by rw [feedService_frame]
@[simp] theorem feedService_marks (t : Trunk) (b : Byte) : (s.feedService t b).marks = s.marks := by rw [feedService_frame]
@[simp] theorem feedService_abandons (t : Trunk) (b : Byte) : (s.feedService t b).abandons = s.abandons := by rw [feedService_frame]
@[simp] theorem feedService_abandonPosts (t : Trunk) (b : Byte) : (s.feedService t b).abandonPosts = s.abandonPosts := by rw [feedService_frame]
@[simp] theorem feedService_mask (t : Trunk) (b : Byte) : (s.feedService t b).mask = s.mask := by rw [feedService_frame]
@[simp] theorem feedService_loop (t : Trunk) (b : Byte) (j : LoopId) : (s.feedService t b).loop j = s.loop j := by simp [loop]
@[simp] theorem feedService_ring (t : Trunk) (b : Byte) (j : LoopId) : (s.feedService t b).ring j = s.ring j := by simp [ring]
@[simp] theorem feedService_feed (t : Trunk) (b : Byte) (j : LoopId) : (s.feedService t b).feed j = s.feed j := by simp [feed]
@[simp] theorem feedService_record (t : Trunk) (b : Byte) (j : SlotId) : (s.feedService t b).record j = s.record j := by simp [record]
@[simp] theorem feedService_ctx (t : Trunk) (b : Byte) (j : CtxId) : (s.feedService t b).ctx j = s.ctx j := by simp [ctx]
@[simp] theorem feedService_trunk (t : Trunk) (b : Byte) (j : Trunk) : (s.feedService t b).trunk j = s.trunk j := by cases j <;> simp [trunk]
@[simp] theorem feedService_path (t : Trunk) (b : Byte) (j : CtxId) : (s.feedService t b).path j = s.path j := by simp [path]
@[simp] theorem feedService_player (t : Trunk) (b : Byte) (j : CtxId) : (s.feedService t b).player j = s.player j := by simp [player]
@[simp] theorem feedService_segment (t : Trunk) (b : Byte) (j : SegId) : (s.feedService t b).segment j = s.segment j := by simp [segment]
@[simp] theorem feedService_param (t : Trunk) (b : Byte) (j : Fin 25) : (s.feedService t b).param j = s.param j := by simp [param]

/-! ### feedSignalling -/

theorem feedSignalling_frame (t : Trunk) (b : Byte) : s.feedSignalling t b = { s with
    trunkA := (s.feedSignalling t b).trunkA
    trunkB := (s.feedSignalling t b).trunkB
    handed := (s.feedSignalling t b).handed } := by
  apply State.ext <;> first | with_reducible rfl | (unfold feedSignalling; dsimp only; (repeat' split) <;> simp)
@[simp] theorem feedSignalling_pending (t : Trunk) (b : Byte) : (s.feedSignalling t b).pending = s.pending := by rw [feedSignalling_frame]
@[simp] theorem feedSignalling_loops (t : Trunk) (b : Byte) : (s.feedSignalling t b).loops = s.loops := by rw [feedSignalling_frame]
@[simp] theorem feedSignalling_rings (t : Trunk) (b : Byte) : (s.feedSignalling t b).rings = s.rings := by rw [feedSignalling_frame]
@[simp] theorem feedSignalling_feeds (t : Trunk) (b : Byte) : (s.feedSignalling t b).feeds = s.feeds := by rw [feedSignalling_frame]
@[simp] theorem feedSignalling_supply (t : Trunk) (b : Byte) : (s.feedSignalling t b).supply = s.supply := by rw [feedSignalling_frame]
@[simp] theorem feedSignalling_directory (t : Trunk) (b : Byte) : (s.feedSignalling t b).directory = s.directory := by rw [feedSignalling_frame]
@[simp] theorem feedSignalling_contexts (t : Trunk) (b : Byte) : (s.feedSignalling t b).contexts = s.contexts := by rw [feedSignalling_frame]
@[simp] theorem feedSignalling_waiting (t : Trunk) (b : Byte) : (s.feedSignalling t b).waiting = s.waiting := by rw [feedSignalling_frame]
@[simp] theorem feedSignalling_entryCount (t : Trunk) (b : Byte) : (s.feedSignalling t b).entryCount = s.entryCount := by rw [feedSignalling_frame]
@[simp] theorem feedSignalling_routes (t : Trunk) (b : Byte) : (s.feedSignalling t b).routes = s.routes := by rw [feedSignalling_frame]
@[simp] theorem feedSignalling_plan (t : Trunk) (b : Byte) : (s.feedSignalling t b).plan = s.plan := by rw [feedSignalling_frame]
@[simp] theorem feedSignalling_paths (t : Trunk) (b : Byte) : (s.feedSignalling t b).paths = s.paths := by rw [feedSignalling_frame]
@[simp] theorem feedSignalling_samples (t : Trunk) (b : Byte) : (s.feedSignalling t b).samples = s.samples := by rw [feedSignalling_frame]
@[simp] theorem feedSignalling_segments (t : Trunk) (b : Byte) : (s.feedSignalling t b).segments = s.segments := by rw [feedSignalling_frame]
@[simp] theorem feedSignalling_players (t : Trunk) (b : Byte) : (s.feedSignalling t b).players = s.players := by rw [feedSignalling_frame]
@[simp] theorem feedSignalling_serviceA (t : Trunk) (b : Byte) : (s.feedSignalling t b).serviceA = s.serviceA := by rw [feedSignalling_frame]
@[simp] theorem feedSignalling_serviceB (t : Trunk) (b : Byte) : (s.feedSignalling t b).serviceB = s.serviceB := by rw [feedSignalling_frame]
@[simp] theorem feedSignalling_home (t : Trunk) (b : Byte) : (s.feedSignalling t b).home = s.home := by rw [feedSignalling_frame]
@[simp] theorem feedSignalling_settings (t : Trunk) (b : Byte) : (s.feedSignalling t b).settings = s.settings := by rw [feedSignalling_frame]
@[simp] theorem feedSignalling_sectionFault (t : Trunk) (b : Byte) : (s.feedSignalling t b).sectionFault = s.sectionFault := by rw [feedSignalling_frame]
@[simp] theorem feedSignalling_trunkFaultA (t : Trunk) (b : Byte) : (s.feedSignalling t b).trunkFaultA = s.trunkFaultA := by rw [feedSignalling_frame]
@[simp] theorem feedSignalling_trunkFaultB (t : Trunk) (b : Byte) : (s.feedSignalling t b).trunkFaultB = s.trunkFaultB := by rw [feedSignalling_frame]
@[simp] theorem feedSignalling_loopFaults (t : Trunk) (b : Byte) : (s.feedSignalling t b).loopFaults = s.loopFaults := by rw [feedSignalling_frame]
@[simp] theorem feedSignalling_postFaults (t : Trunk) (b : Byte) : (s.feedSignalling t b).postFaults = s.postFaults := by rw [feedSignalling_frame]
@[simp] theorem feedSignalling_testResults (t : Trunk) (b : Byte) : (s.feedSignalling t b).testResults = s.testResults := by rw [feedSignalling_frame]
@[simp] theorem feedSignalling_marks (t : Trunk) (b : Byte) : (s.feedSignalling t b).marks = s.marks := by rw [feedSignalling_frame]
@[simp] theorem feedSignalling_abandons (t : Trunk) (b : Byte) : (s.feedSignalling t b).abandons = s.abandons := by rw [feedSignalling_frame]
@[simp] theorem feedSignalling_abandonPosts (t : Trunk) (b : Byte) : (s.feedSignalling t b).abandonPosts = s.abandonPosts := by rw [feedSignalling_frame]
@[simp] theorem feedSignalling_mask (t : Trunk) (b : Byte) : (s.feedSignalling t b).mask = s.mask := by rw [feedSignalling_frame]
@[simp] theorem feedSignalling_loop (t : Trunk) (b : Byte) (j : LoopId) : (s.feedSignalling t b).loop j = s.loop j := by simp [loop]
@[simp] theorem feedSignalling_ring (t : Trunk) (b : Byte) (j : LoopId) : (s.feedSignalling t b).ring j = s.ring j := by simp [ring]
@[simp] theorem feedSignalling_feed (t : Trunk) (b : Byte) (j : LoopId) : (s.feedSignalling t b).feed j = s.feed j := by simp [feed]
@[simp] theorem feedSignalling_record (t : Trunk) (b : Byte) (j : SlotId) : (s.feedSignalling t b).record j = s.record j := by simp [record]
@[simp] theorem feedSignalling_ctx (t : Trunk) (b : Byte) (j : CtxId) : (s.feedSignalling t b).ctx j = s.ctx j := by simp [ctx]
@[simp] theorem feedSignalling_path (t : Trunk) (b : Byte) (j : CtxId) : (s.feedSignalling t b).path j = s.path j := by simp [path]
@[simp] theorem feedSignalling_player (t : Trunk) (b : Byte) (j : CtxId) : (s.feedSignalling t b).player j = s.player j := by simp [player]
@[simp] theorem feedSignalling_segment (t : Trunk) (b : Byte) (j : SegId) : (s.feedSignalling t b).segment j = s.segment j := by simp [segment]
@[simp] theorem feedSignalling_service (t : Trunk) (b : Byte) (j : Trunk) : (s.feedSignalling t b).service j = s.service j := by cases j <;> simp [service]
@[simp] theorem feedSignalling_param (t : Trunk) (b : Byte) (j : Fin 25) : (s.feedSignalling t b).param j = s.param j := by simp [param]

/-! ### dropMessages -/

theorem dropMessages_frame (t : Trunk) : s.dropMessages t = { s with
    trunkA := (s.dropMessages t).trunkA
    trunkB := (s.dropMessages t).trunkB
    serviceA := (s.dropMessages t).serviceA
    serviceB := (s.dropMessages t).serviceB } := by
  apply State.ext <;> first | with_reducible rfl | (simp [dropMessages])
@[simp] theorem dropMessages_pending (t : Trunk) : (s.dropMessages t).pending = s.pending := by rw [dropMessages_frame]
@[simp] theorem dropMessages_handed (t : Trunk) : (s.dropMessages t).handed = s.handed := by rw [dropMessages_frame]
@[simp] theorem dropMessages_loops (t : Trunk) : (s.dropMessages t).loops = s.loops := by rw [dropMessages_frame]
@[simp] theorem dropMessages_rings (t : Trunk) : (s.dropMessages t).rings = s.rings := by rw [dropMessages_frame]
@[simp] theorem dropMessages_feeds (t : Trunk) : (s.dropMessages t).feeds = s.feeds := by rw [dropMessages_frame]
@[simp] theorem dropMessages_supply (t : Trunk) : (s.dropMessages t).supply = s.supply := by rw [dropMessages_frame]
@[simp] theorem dropMessages_directory (t : Trunk) : (s.dropMessages t).directory = s.directory := by rw [dropMessages_frame]
@[simp] theorem dropMessages_contexts (t : Trunk) : (s.dropMessages t).contexts = s.contexts := by rw [dropMessages_frame]
@[simp] theorem dropMessages_waiting (t : Trunk) : (s.dropMessages t).waiting = s.waiting := by rw [dropMessages_frame]
@[simp] theorem dropMessages_entryCount (t : Trunk) : (s.dropMessages t).entryCount = s.entryCount := by rw [dropMessages_frame]
@[simp] theorem dropMessages_routes (t : Trunk) : (s.dropMessages t).routes = s.routes := by rw [dropMessages_frame]
@[simp] theorem dropMessages_plan (t : Trunk) : (s.dropMessages t).plan = s.plan := by rw [dropMessages_frame]
@[simp] theorem dropMessages_paths (t : Trunk) : (s.dropMessages t).paths = s.paths := by rw [dropMessages_frame]
@[simp] theorem dropMessages_samples (t : Trunk) : (s.dropMessages t).samples = s.samples := by rw [dropMessages_frame]
@[simp] theorem dropMessages_segments (t : Trunk) : (s.dropMessages t).segments = s.segments := by rw [dropMessages_frame]
@[simp] theorem dropMessages_players (t : Trunk) : (s.dropMessages t).players = s.players := by rw [dropMessages_frame]
@[simp] theorem dropMessages_home (t : Trunk) : (s.dropMessages t).home = s.home := by rw [dropMessages_frame]
@[simp] theorem dropMessages_settings (t : Trunk) : (s.dropMessages t).settings = s.settings := by rw [dropMessages_frame]
@[simp] theorem dropMessages_sectionFault (t : Trunk) : (s.dropMessages t).sectionFault = s.sectionFault := by rw [dropMessages_frame]
@[simp] theorem dropMessages_trunkFaultA (t : Trunk) : (s.dropMessages t).trunkFaultA = s.trunkFaultA := by rw [dropMessages_frame]
@[simp] theorem dropMessages_trunkFaultB (t : Trunk) : (s.dropMessages t).trunkFaultB = s.trunkFaultB := by rw [dropMessages_frame]
@[simp] theorem dropMessages_loopFaults (t : Trunk) : (s.dropMessages t).loopFaults = s.loopFaults := by rw [dropMessages_frame]
@[simp] theorem dropMessages_postFaults (t : Trunk) : (s.dropMessages t).postFaults = s.postFaults := by rw [dropMessages_frame]
@[simp] theorem dropMessages_testResults (t : Trunk) : (s.dropMessages t).testResults = s.testResults := by rw [dropMessages_frame]
@[simp] theorem dropMessages_marks (t : Trunk) : (s.dropMessages t).marks = s.marks := by rw [dropMessages_frame]
@[simp] theorem dropMessages_abandons (t : Trunk) : (s.dropMessages t).abandons = s.abandons := by rw [dropMessages_frame]
@[simp] theorem dropMessages_abandonPosts (t : Trunk) : (s.dropMessages t).abandonPosts = s.abandonPosts := by rw [dropMessages_frame]
@[simp] theorem dropMessages_mask (t : Trunk) : (s.dropMessages t).mask = s.mask := by rw [dropMessages_frame]
@[simp] theorem dropMessages_loop (t : Trunk) (j : LoopId) : (s.dropMessages t).loop j = s.loop j := by simp [loop]
@[simp] theorem dropMessages_ring (t : Trunk) (j : LoopId) : (s.dropMessages t).ring j = s.ring j := by simp [ring]
@[simp] theorem dropMessages_feed (t : Trunk) (j : LoopId) : (s.dropMessages t).feed j = s.feed j := by simp [feed]
@[simp] theorem dropMessages_record (t : Trunk) (j : SlotId) : (s.dropMessages t).record j = s.record j := by simp [record]
@[simp] theorem dropMessages_ctx (t : Trunk) (j : CtxId) : (s.dropMessages t).ctx j = s.ctx j := by simp [ctx]
@[simp] theorem dropMessages_path (t : Trunk) (j : CtxId) : (s.dropMessages t).path j = s.path j := by simp [path]
@[simp] theorem dropMessages_player (t : Trunk) (j : CtxId) : (s.dropMessages t).player j = s.player j := by simp [player]
@[simp] theorem dropMessages_segment (t : Trunk) (j : SegId) : (s.dropMessages t).segment j = s.segment j := by simp [segment]
@[simp] theorem dropMessages_param (t : Trunk) (j : Fin 25) : (s.dropMessages t).param j = s.param j := by simp [param]

/-! ### changeTrunkState -/

theorem changeTrunkState_frame (t : Trunk) (st : TrunkState) : s.changeTrunkState t st = { s with
    trunkA := (s.changeTrunkState t st).trunkA
    trunkB := (s.changeTrunkState t st).trunkB
    handed := (s.changeTrunkState t st).handed } := by
  apply State.ext <;> first | with_reducible rfl | (simp [changeTrunkState])
@[simp] theorem changeTrunkState_pending (t : Trunk) (st : TrunkState) : (s.changeTrunkState t st).pending = s.pending := by rw [changeTrunkState_frame]
@[simp] theorem changeTrunkState_loops (t : Trunk) (st : TrunkState) : (s.changeTrunkState t st).loops = s.loops := by rw [changeTrunkState_frame]
@[simp] theorem changeTrunkState_rings (t : Trunk) (st : TrunkState) : (s.changeTrunkState t st).rings = s.rings := by rw [changeTrunkState_frame]
@[simp] theorem changeTrunkState_feeds (t : Trunk) (st : TrunkState) : (s.changeTrunkState t st).feeds = s.feeds := by rw [changeTrunkState_frame]
@[simp] theorem changeTrunkState_supply (t : Trunk) (st : TrunkState) : (s.changeTrunkState t st).supply = s.supply := by rw [changeTrunkState_frame]
@[simp] theorem changeTrunkState_directory (t : Trunk) (st : TrunkState) : (s.changeTrunkState t st).directory = s.directory := by rw [changeTrunkState_frame]
@[simp] theorem changeTrunkState_contexts (t : Trunk) (st : TrunkState) : (s.changeTrunkState t st).contexts = s.contexts := by rw [changeTrunkState_frame]
@[simp] theorem changeTrunkState_waiting (t : Trunk) (st : TrunkState) : (s.changeTrunkState t st).waiting = s.waiting := by rw [changeTrunkState_frame]
@[simp] theorem changeTrunkState_entryCount (t : Trunk) (st : TrunkState) : (s.changeTrunkState t st).entryCount = s.entryCount := by rw [changeTrunkState_frame]
@[simp] theorem changeTrunkState_routes (t : Trunk) (st : TrunkState) : (s.changeTrunkState t st).routes = s.routes := by rw [changeTrunkState_frame]
@[simp] theorem changeTrunkState_plan (t : Trunk) (st : TrunkState) : (s.changeTrunkState t st).plan = s.plan := by rw [changeTrunkState_frame]
@[simp] theorem changeTrunkState_paths (t : Trunk) (st : TrunkState) : (s.changeTrunkState t st).paths = s.paths := by rw [changeTrunkState_frame]
@[simp] theorem changeTrunkState_samples (t : Trunk) (st : TrunkState) : (s.changeTrunkState t st).samples = s.samples := by rw [changeTrunkState_frame]
@[simp] theorem changeTrunkState_segments (t : Trunk) (st : TrunkState) : (s.changeTrunkState t st).segments = s.segments := by rw [changeTrunkState_frame]
@[simp] theorem changeTrunkState_players (t : Trunk) (st : TrunkState) : (s.changeTrunkState t st).players = s.players := by rw [changeTrunkState_frame]
@[simp] theorem changeTrunkState_serviceA (t : Trunk) (st : TrunkState) : (s.changeTrunkState t st).serviceA = s.serviceA := by rw [changeTrunkState_frame]
@[simp] theorem changeTrunkState_serviceB (t : Trunk) (st : TrunkState) : (s.changeTrunkState t st).serviceB = s.serviceB := by rw [changeTrunkState_frame]
@[simp] theorem changeTrunkState_home (t : Trunk) (st : TrunkState) : (s.changeTrunkState t st).home = s.home := by rw [changeTrunkState_frame]
@[simp] theorem changeTrunkState_settings (t : Trunk) (st : TrunkState) : (s.changeTrunkState t st).settings = s.settings := by rw [changeTrunkState_frame]
@[simp] theorem changeTrunkState_sectionFault (t : Trunk) (st : TrunkState) : (s.changeTrunkState t st).sectionFault = s.sectionFault := by rw [changeTrunkState_frame]
@[simp] theorem changeTrunkState_trunkFaultA (t : Trunk) (st : TrunkState) : (s.changeTrunkState t st).trunkFaultA = s.trunkFaultA := by rw [changeTrunkState_frame]
@[simp] theorem changeTrunkState_trunkFaultB (t : Trunk) (st : TrunkState) : (s.changeTrunkState t st).trunkFaultB = s.trunkFaultB := by rw [changeTrunkState_frame]
@[simp] theorem changeTrunkState_loopFaults (t : Trunk) (st : TrunkState) : (s.changeTrunkState t st).loopFaults = s.loopFaults := by rw [changeTrunkState_frame]
@[simp] theorem changeTrunkState_postFaults (t : Trunk) (st : TrunkState) : (s.changeTrunkState t st).postFaults = s.postFaults := by rw [changeTrunkState_frame]
@[simp] theorem changeTrunkState_testResults (t : Trunk) (st : TrunkState) : (s.changeTrunkState t st).testResults = s.testResults := by rw [changeTrunkState_frame]
@[simp] theorem changeTrunkState_marks (t : Trunk) (st : TrunkState) : (s.changeTrunkState t st).marks = s.marks := by rw [changeTrunkState_frame]
@[simp] theorem changeTrunkState_abandons (t : Trunk) (st : TrunkState) : (s.changeTrunkState t st).abandons = s.abandons := by rw [changeTrunkState_frame]
@[simp] theorem changeTrunkState_abandonPosts (t : Trunk) (st : TrunkState) : (s.changeTrunkState t st).abandonPosts = s.abandonPosts := by rw [changeTrunkState_frame]
@[simp] theorem changeTrunkState_mask (t : Trunk) (st : TrunkState) : (s.changeTrunkState t st).mask = s.mask := by rw [changeTrunkState_frame]
@[simp] theorem changeTrunkState_loop (t : Trunk) (st : TrunkState) (j : LoopId) : (s.changeTrunkState t st).loop j = s.loop j := by simp [loop]
@[simp] theorem changeTrunkState_ring (t : Trunk) (st : TrunkState) (j : LoopId) : (s.changeTrunkState t st).ring j = s.ring j := by simp [ring]
@[simp] theorem changeTrunkState_feed (t : Trunk) (st : TrunkState) (j : LoopId) : (s.changeTrunkState t st).feed j = s.feed j := by simp [feed]
@[simp] theorem changeTrunkState_record (t : Trunk) (st : TrunkState) (j : SlotId) : (s.changeTrunkState t st).record j = s.record j := by simp [record]
@[simp] theorem changeTrunkState_ctx (t : Trunk) (st : TrunkState) (j : CtxId) : (s.changeTrunkState t st).ctx j = s.ctx j := by simp [ctx]
@[simp] theorem changeTrunkState_path (t : Trunk) (st : TrunkState) (j : CtxId) : (s.changeTrunkState t st).path j = s.path j := by simp [path]
@[simp] theorem changeTrunkState_player (t : Trunk) (st : TrunkState) (j : CtxId) : (s.changeTrunkState t st).player j = s.player j := by simp [player]
@[simp] theorem changeTrunkState_segment (t : Trunk) (st : TrunkState) (j : SegId) : (s.changeTrunkState t st).segment j = s.segment j := by simp [segment]
@[simp] theorem changeTrunkState_service (t : Trunk) (st : TrunkState) (j : Trunk) : (s.changeTrunkState t st).service j = s.service j := by cases j <;> simp [service]
@[simp] theorem changeTrunkState_param (t : Trunk) (st : TrunkState) (j : Fin 25) : (s.changeTrunkState t st).param j = s.param j := by simp [param]

/-! ### handFailover -/

theorem handFailover_frame (t : Trunk) : s.handFailover t = { s with
    trunkA := (s.handFailover t).trunkA
    trunkB := (s.handFailover t).trunkB
    handed := (s.handFailover t).handed } := by
  apply State.ext <;> first | with_reducible rfl | (simp [handFailover])
@[simp] theorem handFailover_pending (t : Trunk) : (s.handFailover t).pending = s.pending := by rw [handFailover_frame]
@[simp] theorem handFailover_loops (t : Trunk) : (s.handFailover t).loops = s.loops := by rw [handFailover_frame]
@[simp] theorem handFailover_rings (t : Trunk) : (s.handFailover t).rings = s.rings := by rw [handFailover_frame]
@[simp] theorem handFailover_feeds (t : Trunk) : (s.handFailover t).feeds = s.feeds := by rw [handFailover_frame]
@[simp] theorem handFailover_supply (t : Trunk) : (s.handFailover t).supply = s.supply := by rw [handFailover_frame]
@[simp] theorem handFailover_directory (t : Trunk) : (s.handFailover t).directory = s.directory := by rw [handFailover_frame]
@[simp] theorem handFailover_contexts (t : Trunk) : (s.handFailover t).contexts = s.contexts := by rw [handFailover_frame]
@[simp] theorem handFailover_waiting (t : Trunk) : (s.handFailover t).waiting = s.waiting := by rw [handFailover_frame]
@[simp] theorem handFailover_entryCount (t : Trunk) : (s.handFailover t).entryCount = s.entryCount := by rw [handFailover_frame]
@[simp] theorem handFailover_routes (t : Trunk) : (s.handFailover t).routes = s.routes := by rw [handFailover_frame]
@[simp] theorem handFailover_plan (t : Trunk) : (s.handFailover t).plan = s.plan := by rw [handFailover_frame]
@[simp] theorem handFailover_paths (t : Trunk) : (s.handFailover t).paths = s.paths := by rw [handFailover_frame]
@[simp] theorem handFailover_samples (t : Trunk) : (s.handFailover t).samples = s.samples := by rw [handFailover_frame]
@[simp] theorem handFailover_segments (t : Trunk) : (s.handFailover t).segments = s.segments := by rw [handFailover_frame]
@[simp] theorem handFailover_players (t : Trunk) : (s.handFailover t).players = s.players := by rw [handFailover_frame]
@[simp] theorem handFailover_serviceA (t : Trunk) : (s.handFailover t).serviceA = s.serviceA := by rw [handFailover_frame]
@[simp] theorem handFailover_serviceB (t : Trunk) : (s.handFailover t).serviceB = s.serviceB := by rw [handFailover_frame]
@[simp] theorem handFailover_home (t : Trunk) : (s.handFailover t).home = s.home := by rw [handFailover_frame]
@[simp] theorem handFailover_settings (t : Trunk) : (s.handFailover t).settings = s.settings := by rw [handFailover_frame]
@[simp] theorem handFailover_sectionFault (t : Trunk) : (s.handFailover t).sectionFault = s.sectionFault := by rw [handFailover_frame]
@[simp] theorem handFailover_trunkFaultA (t : Trunk) : (s.handFailover t).trunkFaultA = s.trunkFaultA := by rw [handFailover_frame]
@[simp] theorem handFailover_trunkFaultB (t : Trunk) : (s.handFailover t).trunkFaultB = s.trunkFaultB := by rw [handFailover_frame]
@[simp] theorem handFailover_loopFaults (t : Trunk) : (s.handFailover t).loopFaults = s.loopFaults := by rw [handFailover_frame]
@[simp] theorem handFailover_postFaults (t : Trunk) : (s.handFailover t).postFaults = s.postFaults := by rw [handFailover_frame]
@[simp] theorem handFailover_testResults (t : Trunk) : (s.handFailover t).testResults = s.testResults := by rw [handFailover_frame]
@[simp] theorem handFailover_marks (t : Trunk) : (s.handFailover t).marks = s.marks := by rw [handFailover_frame]
@[simp] theorem handFailover_abandons (t : Trunk) : (s.handFailover t).abandons = s.abandons := by rw [handFailover_frame]
@[simp] theorem handFailover_abandonPosts (t : Trunk) : (s.handFailover t).abandonPosts = s.abandonPosts := by rw [handFailover_frame]
@[simp] theorem handFailover_mask (t : Trunk) : (s.handFailover t).mask = s.mask := by rw [handFailover_frame]
@[simp] theorem handFailover_loop (t : Trunk) (j : LoopId) : (s.handFailover t).loop j = s.loop j := by simp [loop]
@[simp] theorem handFailover_ring (t : Trunk) (j : LoopId) : (s.handFailover t).ring j = s.ring j := by simp [ring]
@[simp] theorem handFailover_feed (t : Trunk) (j : LoopId) : (s.handFailover t).feed j = s.feed j := by simp [feed]
@[simp] theorem handFailover_record (t : Trunk) (j : SlotId) : (s.handFailover t).record j = s.record j := by simp [record]
@[simp] theorem handFailover_ctx (t : Trunk) (j : CtxId) : (s.handFailover t).ctx j = s.ctx j := by simp [ctx]
@[simp] theorem handFailover_path (t : Trunk) (j : CtxId) : (s.handFailover t).path j = s.path j := by simp [path]
@[simp] theorem handFailover_player (t : Trunk) (j : CtxId) : (s.handFailover t).player j = s.player j := by simp [player]
@[simp] theorem handFailover_segment (t : Trunk) (j : SegId) : (s.handFailover t).segment j = s.segment j := by simp [segment]
@[simp] theorem handFailover_service (t : Trunk) (j : Trunk) : (s.handFailover t).service j = s.service j := by cases j <;> simp [service]
@[simp] theorem handFailover_param (t : Trunk) (j : Fin 25) : (s.handFailover t).param j = s.param j := by simp [param]

/-! ### trunkFaultEvent -/

theorem trunkFaultEvent_frame (t : Trunk) : s.trunkFaultEvent t = { s with
    trunkA := (s.trunkFaultEvent t).trunkA
    trunkB := (s.trunkFaultEvent t).trunkB
    handed := (s.trunkFaultEvent t).handed } := by
  apply State.ext <;> first | with_reducible rfl | (unfold trunkFaultEvent; dsimp only; (repeat' split) <;> simp)
@[simp] theorem trunkFaultEvent_pending (t : Trunk) : (s.trunkFaultEvent t).pending = s.pending := by rw [trunkFaultEvent_frame]
@[simp] theorem trunkFaultEvent_loops (t : Trunk) : (s.trunkFaultEvent t).loops = s.loops := by rw [trunkFaultEvent_frame]
@[simp] theorem trunkFaultEvent_rings (t : Trunk) : (s.trunkFaultEvent t).rings = s.rings := by rw [trunkFaultEvent_frame]
@[simp] theorem trunkFaultEvent_feeds (t : Trunk) : (s.trunkFaultEvent t).feeds = s.feeds := by rw [trunkFaultEvent_frame]
@[simp] theorem trunkFaultEvent_supply (t : Trunk) : (s.trunkFaultEvent t).supply = s.supply := by rw [trunkFaultEvent_frame]
@[simp] theorem trunkFaultEvent_directory (t : Trunk) : (s.trunkFaultEvent t).directory = s.directory := by rw [trunkFaultEvent_frame]
@[simp] theorem trunkFaultEvent_contexts (t : Trunk) : (s.trunkFaultEvent t).contexts = s.contexts := by rw [trunkFaultEvent_frame]
@[simp] theorem trunkFaultEvent_waiting (t : Trunk) : (s.trunkFaultEvent t).waiting = s.waiting := by rw [trunkFaultEvent_frame]
@[simp] theorem trunkFaultEvent_entryCount (t : Trunk) : (s.trunkFaultEvent t).entryCount = s.entryCount := by rw [trunkFaultEvent_frame]
@[simp] theorem trunkFaultEvent_routes (t : Trunk) : (s.trunkFaultEvent t).routes = s.routes := by rw [trunkFaultEvent_frame]
@[simp] theorem trunkFaultEvent_plan (t : Trunk) : (s.trunkFaultEvent t).plan = s.plan := by rw [trunkFaultEvent_frame]
@[simp] theorem trunkFaultEvent_paths (t : Trunk) : (s.trunkFaultEvent t).paths = s.paths := by rw [trunkFaultEvent_frame]
@[simp] theorem trunkFaultEvent_samples (t : Trunk) : (s.trunkFaultEvent t).samples = s.samples := by rw [trunkFaultEvent_frame]
@[simp] theorem trunkFaultEvent_segments (t : Trunk) : (s.trunkFaultEvent t).segments = s.segments := by rw [trunkFaultEvent_frame]
@[simp] theorem trunkFaultEvent_players (t : Trunk) : (s.trunkFaultEvent t).players = s.players := by rw [trunkFaultEvent_frame]
@[simp] theorem trunkFaultEvent_serviceA (t : Trunk) : (s.trunkFaultEvent t).serviceA = s.serviceA := by rw [trunkFaultEvent_frame]
@[simp] theorem trunkFaultEvent_serviceB (t : Trunk) : (s.trunkFaultEvent t).serviceB = s.serviceB := by rw [trunkFaultEvent_frame]
@[simp] theorem trunkFaultEvent_home (t : Trunk) : (s.trunkFaultEvent t).home = s.home := by rw [trunkFaultEvent_frame]
@[simp] theorem trunkFaultEvent_settings (t : Trunk) : (s.trunkFaultEvent t).settings = s.settings := by rw [trunkFaultEvent_frame]
@[simp] theorem trunkFaultEvent_sectionFault (t : Trunk) : (s.trunkFaultEvent t).sectionFault = s.sectionFault := by rw [trunkFaultEvent_frame]
@[simp] theorem trunkFaultEvent_trunkFaultA (t : Trunk) : (s.trunkFaultEvent t).trunkFaultA = s.trunkFaultA := by rw [trunkFaultEvent_frame]
@[simp] theorem trunkFaultEvent_trunkFaultB (t : Trunk) : (s.trunkFaultEvent t).trunkFaultB = s.trunkFaultB := by rw [trunkFaultEvent_frame]
@[simp] theorem trunkFaultEvent_loopFaults (t : Trunk) : (s.trunkFaultEvent t).loopFaults = s.loopFaults := by rw [trunkFaultEvent_frame]
@[simp] theorem trunkFaultEvent_postFaults (t : Trunk) : (s.trunkFaultEvent t).postFaults = s.postFaults := by rw [trunkFaultEvent_frame]
@[simp] theorem trunkFaultEvent_testResults (t : Trunk) : (s.trunkFaultEvent t).testResults = s.testResults := by rw [trunkFaultEvent_frame]
@[simp] theorem trunkFaultEvent_marks (t : Trunk) : (s.trunkFaultEvent t).marks = s.marks := by rw [trunkFaultEvent_frame]
@[simp] theorem trunkFaultEvent_abandons (t : Trunk) : (s.trunkFaultEvent t).abandons = s.abandons := by rw [trunkFaultEvent_frame]
@[simp] theorem trunkFaultEvent_abandonPosts (t : Trunk) : (s.trunkFaultEvent t).abandonPosts = s.abandonPosts := by rw [trunkFaultEvent_frame]
@[simp] theorem trunkFaultEvent_mask (t : Trunk) : (s.trunkFaultEvent t).mask = s.mask := by rw [trunkFaultEvent_frame]
@[simp] theorem trunkFaultEvent_loop (t : Trunk) (j : LoopId) : (s.trunkFaultEvent t).loop j = s.loop j := by simp [loop]
@[simp] theorem trunkFaultEvent_ring (t : Trunk) (j : LoopId) : (s.trunkFaultEvent t).ring j = s.ring j := by simp [ring]
@[simp] theorem trunkFaultEvent_feed (t : Trunk) (j : LoopId) : (s.trunkFaultEvent t).feed j = s.feed j := by simp [feed]
@[simp] theorem trunkFaultEvent_record (t : Trunk) (j : SlotId) : (s.trunkFaultEvent t).record j = s.record j := by simp [record]
@[simp] theorem trunkFaultEvent_ctx (t : Trunk) (j : CtxId) : (s.trunkFaultEvent t).ctx j = s.ctx j := by simp [ctx]
@[simp] theorem trunkFaultEvent_path (t : Trunk) (j : CtxId) : (s.trunkFaultEvent t).path j = s.path j := by simp [path]
@[simp] theorem trunkFaultEvent_player (t : Trunk) (j : CtxId) : (s.trunkFaultEvent t).player j = s.player j := by simp [player]
@[simp] theorem trunkFaultEvent_segment (t : Trunk) (j : SegId) : (s.trunkFaultEvent t).segment j = s.segment j := by simp [segment]
@[simp] theorem trunkFaultEvent_service (t : Trunk) (j : Trunk) : (s.trunkFaultEvent t).service j = s.service j := by cases j <;> simp [service]
@[simp] theorem trunkFaultEvent_param (t : Trunk) (j : Fin 25) : (s.trunkFaultEvent t).param j = s.param j := by simp [param]

/-! ### recover -/

theorem recover_frame (t : Trunk) : s.recover t = { s with
    trunkA := (s.recover t).trunkA
    trunkB := (s.recover t).trunkB
    handed := (s.recover t).handed } := by
  apply State.ext <;> first | with_reducible rfl | (simp [recover])
@[simp] theorem recover_pending (t : Trunk) : (s.recover t).pending = s.pending := by rw [recover_frame]
@[simp] theorem recover_loops (t : Trunk) : (s.recover t).loops = s.loops := by rw [recover_frame]
@[simp] theorem recover_rings (t : Trunk) : (s.recover t).rings = s.rings := by rw [recover_frame]
@[simp] theorem recover_feeds (t : Trunk) : (s.recover t).feeds = s.feeds := by rw [recover_frame]
@[simp] theorem recover_supply (t : Trunk) : (s.recover t).supply = s.supply := by rw [recover_frame]
@[simp] theorem recover_directory (t : Trunk) : (s.recover t).directory = s.directory := by rw [recover_frame]
@[simp] theorem recover_contexts (t : Trunk) : (s.recover t).contexts = s.contexts := by rw [recover_frame]
@[simp] theorem recover_waiting (t : Trunk) : (s.recover t).waiting = s.waiting := by rw [recover_frame]
@[simp] theorem recover_entryCount (t : Trunk) : (s.recover t).entryCount = s.entryCount := by rw [recover_frame]
@[simp] theorem recover_routes (t : Trunk) : (s.recover t).routes = s.routes := by rw [recover_frame]
@[simp] theorem recover_plan (t : Trunk) : (s.recover t).plan = s.plan := by rw [recover_frame]
@[simp] theorem recover_paths (t : Trunk) : (s.recover t).paths = s.paths := by rw [recover_frame]
@[simp] theorem recover_samples (t : Trunk) : (s.recover t).samples = s.samples := by rw [recover_frame]
@[simp] theorem recover_segments (t : Trunk) : (s.recover t).segments = s.segments := by rw [recover_frame]
@[simp] theorem recover_players (t : Trunk) : (s.recover t).players = s.players := by rw [recover_frame]
@[simp] theorem recover_serviceA (t : Trunk) : (s.recover t).serviceA = s.serviceA := by rw [recover_frame]
@[simp] theorem recover_serviceB (t : Trunk) : (s.recover t).serviceB = s.serviceB := by rw [recover_frame]
@[simp] theorem recover_home (t : Trunk) : (s.recover t).home = s.home := by rw [recover_frame]
@[simp] theorem recover_settings (t : Trunk) : (s.recover t).settings = s.settings := by rw [recover_frame]
@[simp] theorem recover_sectionFault (t : Trunk) : (s.recover t).sectionFault = s.sectionFault := by rw [recover_frame]
@[simp] theorem recover_trunkFaultA (t : Trunk) : (s.recover t).trunkFaultA = s.trunkFaultA := by rw [recover_frame]
@[simp] theorem recover_trunkFaultB (t : Trunk) : (s.recover t).trunkFaultB = s.trunkFaultB := by rw [recover_frame]
@[simp] theorem recover_loopFaults (t : Trunk) : (s.recover t).loopFaults = s.loopFaults := by rw [recover_frame]
@[simp] theorem recover_postFaults (t : Trunk) : (s.recover t).postFaults = s.postFaults := by rw [recover_frame]
@[simp] theorem recover_testResults (t : Trunk) : (s.recover t).testResults = s.testResults := by rw [recover_frame]
@[simp] theorem recover_marks (t : Trunk) : (s.recover t).marks = s.marks := by rw [recover_frame]
@[simp] theorem recover_abandons (t : Trunk) : (s.recover t).abandons = s.abandons := by rw [recover_frame]
@[simp] theorem recover_abandonPosts (t : Trunk) : (s.recover t).abandonPosts = s.abandonPosts := by rw [recover_frame]
@[simp] theorem recover_mask (t : Trunk) : (s.recover t).mask = s.mask := by rw [recover_frame]
@[simp] theorem recover_loop (t : Trunk) (j : LoopId) : (s.recover t).loop j = s.loop j := by simp [loop]
@[simp] theorem recover_ring (t : Trunk) (j : LoopId) : (s.recover t).ring j = s.ring j := by simp [ring]
@[simp] theorem recover_feed (t : Trunk) (j : LoopId) : (s.recover t).feed j = s.feed j := by simp [feed]
@[simp] theorem recover_record (t : Trunk) (j : SlotId) : (s.recover t).record j = s.record j := by simp [record]
@[simp] theorem recover_ctx (t : Trunk) (j : CtxId) : (s.recover t).ctx j = s.ctx j := by simp [ctx]
@[simp] theorem recover_path (t : Trunk) (j : CtxId) : (s.recover t).path j = s.path j := by simp [path]
@[simp] theorem recover_player (t : Trunk) (j : CtxId) : (s.recover t).player j = s.player j := by simp [player]
@[simp] theorem recover_segment (t : Trunk) (j : SegId) : (s.recover t).segment j = s.segment j := by simp [segment]
@[simp] theorem recover_service (t : Trunk) (j : Trunk) : (s.recover t).service j = s.service j := by cases j <;> simp [service]
@[simp] theorem recover_param (t : Trunk) (j : Fin 25) : (s.recover t).param j = s.param j := by simp [param]

/-! ### onAligned -/

theorem onAligned_frame (t : Trunk) : s.onAligned t = { s with
    trunkA := (s.onAligned t).trunkA
    trunkB := (s.onAligned t).trunkB
    handed := (s.onAligned t).handed } := by
  apply State.ext <;> first | with_reducible rfl | (unfold onAligned; dsimp only; (repeat' split) <;> simp)
@[simp] theorem onAligned_pending (t : Trunk) : (s.onAligned t).pending = s.pending := by rw [onAligned_frame]
@[simp] theorem onAligned_loops (t : Trunk) : (s.onAligned t).loops = s.loops := by rw [onAligned_frame]
@[simp] theorem onAligned_rings (t : Trunk) : (s.onAligned t).rings = s.rings := by rw [onAligned_frame]
@[simp] theorem onAligned_feeds (t : Trunk) : (s.onAligned t).feeds = s.feeds := by rw [onAligned_frame]
@[simp] theorem onAligned_supply (t : Trunk) : (s.onAligned t).supply = s.supply := by rw [onAligned_frame]
@[simp] theorem onAligned_directory (t : Trunk) : (s.onAligned t).directory = s.directory := by rw [onAligned_frame]
@[simp] theorem onAligned_contexts (t : Trunk) : (s.onAligned t).contexts = s.contexts := by rw [onAligned_frame]
@[simp] theorem onAligned_waiting (t : Trunk) : (s.onAligned t).waiting = s.waiting := by rw [onAligned_frame]
@[simp] theorem onAligned_entryCount (t : Trunk) : (s.onAligned t).entryCount = s.entryCount := by rw [onAligned_frame]
@[simp] theorem onAligned_routes (t : Trunk) : (s.onAligned t).routes = s.routes := by rw [onAligned_frame]
@[simp] theorem onAligned_plan (t : Trunk) : (s.onAligned t).plan = s.plan := by rw [onAligned_frame]
@[simp] theorem onAligned_paths (t : Trunk) : (s.onAligned t).paths = s.paths := by rw [onAligned_frame]
@[simp] theorem onAligned_samples (t : Trunk) : (s.onAligned t).samples = s.samples := by rw [onAligned_frame]
@[simp] theorem onAligned_segments (t : Trunk) : (s.onAligned t).segments = s.segments := by rw [onAligned_frame]
@[simp] theorem onAligned_players (t : Trunk) : (s.onAligned t).players = s.players := by rw [onAligned_frame]
@[simp] theorem onAligned_serviceA (t : Trunk) : (s.onAligned t).serviceA = s.serviceA := by rw [onAligned_frame]
@[simp] theorem onAligned_serviceB (t : Trunk) : (s.onAligned t).serviceB = s.serviceB := by rw [onAligned_frame]
@[simp] theorem onAligned_home (t : Trunk) : (s.onAligned t).home = s.home := by rw [onAligned_frame]
@[simp] theorem onAligned_settings (t : Trunk) : (s.onAligned t).settings = s.settings := by rw [onAligned_frame]
@[simp] theorem onAligned_sectionFault (t : Trunk) : (s.onAligned t).sectionFault = s.sectionFault := by rw [onAligned_frame]
@[simp] theorem onAligned_trunkFaultA (t : Trunk) : (s.onAligned t).trunkFaultA = s.trunkFaultA := by rw [onAligned_frame]
@[simp] theorem onAligned_trunkFaultB (t : Trunk) : (s.onAligned t).trunkFaultB = s.trunkFaultB := by rw [onAligned_frame]
@[simp] theorem onAligned_loopFaults (t : Trunk) : (s.onAligned t).loopFaults = s.loopFaults := by rw [onAligned_frame]
@[simp] theorem onAligned_postFaults (t : Trunk) : (s.onAligned t).postFaults = s.postFaults := by rw [onAligned_frame]
@[simp] theorem onAligned_testResults (t : Trunk) : (s.onAligned t).testResults = s.testResults := by rw [onAligned_frame]
@[simp] theorem onAligned_marks (t : Trunk) : (s.onAligned t).marks = s.marks := by rw [onAligned_frame]
@[simp] theorem onAligned_abandons (t : Trunk) : (s.onAligned t).abandons = s.abandons := by rw [onAligned_frame]
@[simp] theorem onAligned_abandonPosts (t : Trunk) : (s.onAligned t).abandonPosts = s.abandonPosts := by rw [onAligned_frame]
@[simp] theorem onAligned_mask (t : Trunk) : (s.onAligned t).mask = s.mask := by rw [onAligned_frame]
@[simp] theorem onAligned_loop (t : Trunk) (j : LoopId) : (s.onAligned t).loop j = s.loop j := by simp [loop]
@[simp] theorem onAligned_ring (t : Trunk) (j : LoopId) : (s.onAligned t).ring j = s.ring j := by simp [ring]
@[simp] theorem onAligned_feed (t : Trunk) (j : LoopId) : (s.onAligned t).feed j = s.feed j := by simp [feed]
@[simp] theorem onAligned_record (t : Trunk) (j : SlotId) : (s.onAligned t).record j = s.record j := by simp [record]
@[simp] theorem onAligned_ctx (t : Trunk) (j : CtxId) : (s.onAligned t).ctx j = s.ctx j := by simp [ctx]
@[simp] theorem onAligned_path (t : Trunk) (j : CtxId) : (s.onAligned t).path j = s.path j := by simp [path]
@[simp] theorem onAligned_player (t : Trunk) (j : CtxId) : (s.onAligned t).player j = s.player j := by simp [player]
@[simp] theorem onAligned_segment (t : Trunk) (j : SegId) : (s.onAligned t).segment j = s.segment j := by simp [segment]
@[simp] theorem onAligned_service (t : Trunk) (j : Trunk) : (s.onAligned t).service j = s.service j := by cases j <;> simp [service]
@[simp] theorem onAligned_param (t : Trunk) (j : Fin 25) : (s.onAligned t).param j = s.param j := by simp [param]

/-! ### onLost -/

theorem onLost_frame (t : Trunk) : s.onLost t = { s with
    trunkA := (s.onLost t).trunkA
    trunkB := (s.onLost t).trunkB
    handed := (s.onLost t).handed } := by
  apply State.ext <;> first | with_reducible rfl | (unfold onLost; dsimp only; (repeat' split) <;> simp)
@[simp] theorem onLost_pending (t : Trunk) : (s.onLost t).pending = s.pending := by rw [onLost_frame]
@[simp] theorem onLost_loops (t : Trunk) : (s.onLost t).loops = s.loops := by rw [onLost_frame]
@[simp] theorem onLost_rings (t : Trunk) : (s.onLost t).rings = s.rings := by rw [onLost_frame]
@[simp] theorem onLost_feeds (t : Trunk) : (s.onLost t).feeds = s.feeds := by rw [onLost_frame]
@[simp] theorem onLost_supply (t : Trunk) : (s.onLost t).supply = s.supply := by rw [onLost_frame]
@[simp] theorem onLost_directory (t : Trunk) : (s.onLost t).directory = s.directory := by rw [onLost_frame]
@[simp] theorem onLost_contexts (t : Trunk) : (s.onLost t).contexts = s.contexts := by rw [onLost_frame]
@[simp] theorem onLost_waiting (t : Trunk) : (s.onLost t).waiting = s.waiting := by rw [onLost_frame]
@[simp] theorem onLost_entryCount (t : Trunk) : (s.onLost t).entryCount = s.entryCount := by rw [onLost_frame]
@[simp] theorem onLost_routes (t : Trunk) : (s.onLost t).routes = s.routes := by rw [onLost_frame]
@[simp] theorem onLost_plan (t : Trunk) : (s.onLost t).plan = s.plan := by rw [onLost_frame]
@[simp] theorem onLost_paths (t : Trunk) : (s.onLost t).paths = s.paths := by rw [onLost_frame]
@[simp] theorem onLost_samples (t : Trunk) : (s.onLost t).samples = s.samples := by rw [onLost_frame]
@[simp] theorem onLost_segments (t : Trunk) : (s.onLost t).segments = s.segments := by rw [onLost_frame]
@[simp] theorem onLost_players (t : Trunk) : (s.onLost t).players = s.players := by rw [onLost_frame]
@[simp] theorem onLost_serviceA (t : Trunk) : (s.onLost t).serviceA = s.serviceA := by rw [onLost_frame]
@[simp] theorem onLost_serviceB (t : Trunk) : (s.onLost t).serviceB = s.serviceB := by rw [onLost_frame]
@[simp] theorem onLost_home (t : Trunk) : (s.onLost t).home = s.home := by rw [onLost_frame]
@[simp] theorem onLost_settings (t : Trunk) : (s.onLost t).settings = s.settings := by rw [onLost_frame]
@[simp] theorem onLost_sectionFault (t : Trunk) : (s.onLost t).sectionFault = s.sectionFault := by rw [onLost_frame]
@[simp] theorem onLost_trunkFaultA (t : Trunk) : (s.onLost t).trunkFaultA = s.trunkFaultA := by rw [onLost_frame]
@[simp] theorem onLost_trunkFaultB (t : Trunk) : (s.onLost t).trunkFaultB = s.trunkFaultB := by rw [onLost_frame]
@[simp] theorem onLost_loopFaults (t : Trunk) : (s.onLost t).loopFaults = s.loopFaults := by rw [onLost_frame]
@[simp] theorem onLost_postFaults (t : Trunk) : (s.onLost t).postFaults = s.postFaults := by rw [onLost_frame]
@[simp] theorem onLost_testResults (t : Trunk) : (s.onLost t).testResults = s.testResults := by rw [onLost_frame]
@[simp] theorem onLost_marks (t : Trunk) : (s.onLost t).marks = s.marks := by rw [onLost_frame]
@[simp] theorem onLost_abandons (t : Trunk) : (s.onLost t).abandons = s.abandons := by rw [onLost_frame]
@[simp] theorem onLost_abandonPosts (t : Trunk) : (s.onLost t).abandonPosts = s.abandonPosts := by rw [onLost_frame]
@[simp] theorem onLost_mask (t : Trunk) : (s.onLost t).mask = s.mask := by rw [onLost_frame]
@[simp] theorem onLost_loop (t : Trunk) (j : LoopId) : (s.onLost t).loop j = s.loop j := by simp [loop]
@[simp] theorem onLost_ring (t : Trunk) (j : LoopId) : (s.onLost t).ring j = s.ring j := by simp [ring]
@[simp] theorem onLost_feed (t : Trunk) (j : LoopId) : (s.onLost t).feed j = s.feed j := by simp [feed]
@[simp] theorem onLost_record (t : Trunk) (j : SlotId) : (s.onLost t).record j = s.record j := by simp [record]
@[simp] theorem onLost_ctx (t : Trunk) (j : CtxId) : (s.onLost t).ctx j = s.ctx j := by simp [ctx]
@[simp] theorem onLost_path (t : Trunk) (j : CtxId) : (s.onLost t).path j = s.path j := by simp [path]
@[simp] theorem onLost_player (t : Trunk) (j : CtxId) : (s.onLost t).player j = s.player j := by simp [player]
@[simp] theorem onLost_segment (t : Trunk) (j : SegId) : (s.onLost t).segment j = s.segment j := by simp [segment]
@[simp] theorem onLost_service (t : Trunk) (j : Trunk) : (s.onLost t).service j = s.service j := by cases j <;> simp [service]
@[simp] theorem onLost_param (t : Trunk) (j : Fin 25) : (s.onLost t).param j = s.param j := by simp [param]

/-! ### onAlarm -/

theorem onAlarm_frame (t : Trunk) : s.onAlarm t = { s with
    trunkA := (s.onAlarm t).trunkA
    trunkB := (s.onAlarm t).trunkB
    handed := (s.onAlarm t).handed } := by
  apply State.ext <;> first | with_reducible rfl | (unfold onAlarm; dsimp only; (repeat' split) <;> simp)
@[simp] theorem onAlarm_pending (t : Trunk) : (s.onAlarm t).pending = s.pending := by rw [onAlarm_frame]
@[simp] theorem onAlarm_loops (t : Trunk) : (s.onAlarm t).loops = s.loops := by rw [onAlarm_frame]
@[simp] theorem onAlarm_rings (t : Trunk) : (s.onAlarm t).rings = s.rings := by rw [onAlarm_frame]
@[simp] theorem onAlarm_feeds (t : Trunk) : (s.onAlarm t).feeds = s.feeds := by rw [onAlarm_frame]
@[simp] theorem onAlarm_supply (t : Trunk) : (s.onAlarm t).supply = s.supply := by rw [onAlarm_frame]
@[simp] theorem onAlarm_directory (t : Trunk) : (s.onAlarm t).directory = s.directory := by rw [onAlarm_frame]
@[simp] theorem onAlarm_contexts (t : Trunk) : (s.onAlarm t).contexts = s.contexts := by rw [onAlarm_frame]
@[simp] theorem onAlarm_waiting (t : Trunk) : (s.onAlarm t).waiting = s.waiting := by rw [onAlarm_frame]
@[simp] theorem onAlarm_entryCount (t : Trunk) : (s.onAlarm t).entryCount = s.entryCount := by rw [onAlarm_frame]
@[simp] theorem onAlarm_routes (t : Trunk) : (s.onAlarm t).routes = s.routes := by rw [onAlarm_frame]
@[simp] theorem onAlarm_plan (t : Trunk) : (s.onAlarm t).plan = s.plan := by rw [onAlarm_frame]
@[simp] theorem onAlarm_paths (t : Trunk) : (s.onAlarm t).paths = s.paths := by rw [onAlarm_frame]
@[simp] theorem onAlarm_samples (t : Trunk) : (s.onAlarm t).samples = s.samples := by rw [onAlarm_frame]
@[simp] theorem onAlarm_segments (t : Trunk) : (s.onAlarm t).segments = s.segments := by rw [onAlarm_frame]
@[simp] theorem onAlarm_players (t : Trunk) : (s.onAlarm t).players = s.players := by rw [onAlarm_frame]
@[simp] theorem onAlarm_serviceA (t : Trunk) : (s.onAlarm t).serviceA = s.serviceA := by rw [onAlarm_frame]
@[simp] theorem onAlarm_serviceB (t : Trunk) : (s.onAlarm t).serviceB = s.serviceB := by rw [onAlarm_frame]
@[simp] theorem onAlarm_home (t : Trunk) : (s.onAlarm t).home = s.home := by rw [onAlarm_frame]
@[simp] theorem onAlarm_settings (t : Trunk) : (s.onAlarm t).settings = s.settings := by rw [onAlarm_frame]
@[simp] theorem onAlarm_sectionFault (t : Trunk) : (s.onAlarm t).sectionFault = s.sectionFault := by rw [onAlarm_frame]
@[simp] theorem onAlarm_trunkFaultA (t : Trunk) : (s.onAlarm t).trunkFaultA = s.trunkFaultA := by rw [onAlarm_frame]
@[simp] theorem onAlarm_trunkFaultB (t : Trunk) : (s.onAlarm t).trunkFaultB = s.trunkFaultB := by rw [onAlarm_frame]
@[simp] theorem onAlarm_loopFaults (t : Trunk) : (s.onAlarm t).loopFaults = s.loopFaults := by rw [onAlarm_frame]
@[simp] theorem onAlarm_postFaults (t : Trunk) : (s.onAlarm t).postFaults = s.postFaults := by rw [onAlarm_frame]
@[simp] theorem onAlarm_testResults (t : Trunk) : (s.onAlarm t).testResults = s.testResults := by rw [onAlarm_frame]
@[simp] theorem onAlarm_marks (t : Trunk) : (s.onAlarm t).marks = s.marks := by rw [onAlarm_frame]
@[simp] theorem onAlarm_abandons (t : Trunk) : (s.onAlarm t).abandons = s.abandons := by rw [onAlarm_frame]
@[simp] theorem onAlarm_abandonPosts (t : Trunk) : (s.onAlarm t).abandonPosts = s.abandonPosts := by rw [onAlarm_frame]
@[simp] theorem onAlarm_mask (t : Trunk) : (s.onAlarm t).mask = s.mask := by rw [onAlarm_frame]
@[simp] theorem onAlarm_loop (t : Trunk) (j : LoopId) : (s.onAlarm t).loop j = s.loop j := by simp [loop]
@[simp] theorem onAlarm_ring (t : Trunk) (j : LoopId) : (s.onAlarm t).ring j = s.ring j := by simp [ring]
@[simp] theorem onAlarm_feed (t : Trunk) (j : LoopId) : (s.onAlarm t).feed j = s.feed j := by simp [feed]
@[simp] theorem onAlarm_record (t : Trunk) (j : SlotId) : (s.onAlarm t).record j = s.record j := by simp [record]
@[simp] theorem onAlarm_ctx (t : Trunk) (j : CtxId) : (s.onAlarm t).ctx j = s.ctx j := by simp [ctx]
@[simp] theorem onAlarm_path (t : Trunk) (j : CtxId) : (s.onAlarm t).path j = s.path j := by simp [path]
@[simp] theorem onAlarm_player (t : Trunk) (j : CtxId) : (s.onAlarm t).player j = s.player j := by simp [player]
@[simp] theorem onAlarm_segment (t : Trunk) (j : SegId) : (s.onAlarm t).segment j = s.segment j := by simp [segment]
@[simp] theorem onAlarm_service (t : Trunk) (j : Trunk) : (s.onAlarm t).service j = s.service j := by cases j <;> simp [service]
@[simp] theorem onAlarm_param (t : Trunk) (j : Fin 25) : (s.onAlarm t).param j = s.param j := by simp [param]

/-! ### onAlarmAbsent -/

theorem onAlarmAbsent_frame (t : Trunk) : s.onAlarmAbsent t = { s with
    trunkA := (s.onAlarmAbsent t).trunkA
    trunkB := (s.onAlarmAbsent t).trunkB
    handed := (s.onAlarmAbsent t).handed } := by
  apply State.ext <;> first | with_reducible rfl | (unfold onAlarmAbsent; dsimp only; (repeat' split) <;> simp)
@[simp] theorem onAlarmAbsent_pending (t : Trunk) : (s.onAlarmAbsent t).pending = s.pending := by rw [onAlarmAbsent_frame]
@[simp] theorem onAlarmAbsent_loops (t : Trunk) : (s.onAlarmAbsent t).loops = s.loops := by rw [onAlarmAbsent_frame]
@[simp] theorem onAlarmAbsent_rings (t : Trunk) : (s.onAlarmAbsent t).rings = s.rings := by rw [onAlarmAbsent_frame]
@[simp] theorem onAlarmAbsent_feeds (t : Trunk) : (s.onAlarmAbsent t).feeds = s.feeds := by rw [onAlarmAbsent_frame]
@[simp] theorem onAlarmAbsent_supply (t : Trunk) : (s.onAlarmAbsent t).supply = s.supply := by rw [onAlarmAbsent_frame]
@[simp] theorem onAlarmAbsent_directory (t : Trunk) : (s.onAlarmAbsent t).directory = s.directory := by rw [onAlarmAbsent_frame]
@[simp] theorem onAlarmAbsent_contexts (t : Trunk) : (s.onAlarmAbsent t).contexts = s.contexts := by rw [onAlarmAbsent_frame]
@[simp] theorem onAlarmAbsent_waiting (t : Trunk) : (s.onAlarmAbsent t).waiting = s.waiting := by rw [onAlarmAbsent_frame]
@[simp] theorem onAlarmAbsent_entryCount (t : Trunk) : (s.onAlarmAbsent t).entryCount = s.entryCount := by rw [onAlarmAbsent_frame]
@[simp] theorem onAlarmAbsent_routes (t : Trunk) : (s.onAlarmAbsent t).routes = s.routes := by rw [onAlarmAbsent_frame]
@[simp] theorem onAlarmAbsent_plan (t : Trunk) : (s.onAlarmAbsent t).plan = s.plan := by rw [onAlarmAbsent_frame]
@[simp] theorem onAlarmAbsent_paths (t : Trunk) : (s.onAlarmAbsent t).paths = s.paths := by rw [onAlarmAbsent_frame]
@[simp] theorem onAlarmAbsent_samples (t : Trunk) : (s.onAlarmAbsent t).samples = s.samples := by rw [onAlarmAbsent_frame]
@[simp] theorem onAlarmAbsent_segments (t : Trunk) : (s.onAlarmAbsent t).segments = s.segments := by rw [onAlarmAbsent_frame]
@[simp] theorem onAlarmAbsent_players (t : Trunk) : (s.onAlarmAbsent t).players = s.players := by rw [onAlarmAbsent_frame]
@[simp] theorem onAlarmAbsent_serviceA (t : Trunk) : (s.onAlarmAbsent t).serviceA = s.serviceA := by rw [onAlarmAbsent_frame]
@[simp] theorem onAlarmAbsent_serviceB (t : Trunk) : (s.onAlarmAbsent t).serviceB = s.serviceB := by rw [onAlarmAbsent_frame]
@[simp] theorem onAlarmAbsent_home (t : Trunk) : (s.onAlarmAbsent t).home = s.home := by rw [onAlarmAbsent_frame]
@[simp] theorem onAlarmAbsent_settings (t : Trunk) : (s.onAlarmAbsent t).settings = s.settings := by rw [onAlarmAbsent_frame]
@[simp] theorem onAlarmAbsent_sectionFault (t : Trunk) : (s.onAlarmAbsent t).sectionFault = s.sectionFault := by rw [onAlarmAbsent_frame]
@[simp] theorem onAlarmAbsent_trunkFaultA (t : Trunk) : (s.onAlarmAbsent t).trunkFaultA = s.trunkFaultA := by rw [onAlarmAbsent_frame]
@[simp] theorem onAlarmAbsent_trunkFaultB (t : Trunk) : (s.onAlarmAbsent t).trunkFaultB = s.trunkFaultB := by rw [onAlarmAbsent_frame]
@[simp] theorem onAlarmAbsent_loopFaults (t : Trunk) : (s.onAlarmAbsent t).loopFaults = s.loopFaults := by rw [onAlarmAbsent_frame]
@[simp] theorem onAlarmAbsent_postFaults (t : Trunk) : (s.onAlarmAbsent t).postFaults = s.postFaults := by rw [onAlarmAbsent_frame]
@[simp] theorem onAlarmAbsent_testResults (t : Trunk) : (s.onAlarmAbsent t).testResults = s.testResults := by rw [onAlarmAbsent_frame]
@[simp] theorem onAlarmAbsent_marks (t : Trunk) : (s.onAlarmAbsent t).marks = s.marks := by rw [onAlarmAbsent_frame]
@[simp] theorem onAlarmAbsent_abandons (t : Trunk) : (s.onAlarmAbsent t).abandons = s.abandons := by rw [onAlarmAbsent_frame]
@[simp] theorem onAlarmAbsent_abandonPosts (t : Trunk) : (s.onAlarmAbsent t).abandonPosts = s.abandonPosts := by rw [onAlarmAbsent_frame]
@[simp] theorem onAlarmAbsent_mask (t : Trunk) : (s.onAlarmAbsent t).mask = s.mask := by rw [onAlarmAbsent_frame]
@[simp] theorem onAlarmAbsent_loop (t : Trunk) (j : LoopId) : (s.onAlarmAbsent t).loop j = s.loop j := by simp [loop]
@[simp] theorem onAlarmAbsent_ring (t : Trunk) (j : LoopId) : (s.onAlarmAbsent t).ring j = s.ring j := by simp [ring]
@[simp] theorem onAlarmAbsent_feed (t : Trunk) (j : LoopId) : (s.onAlarmAbsent t).feed j = s.feed j := by simp [feed]
@[simp] theorem onAlarmAbsent_record (t : Trunk) (j : SlotId) : (s.onAlarmAbsent t).record j = s.record j := by simp [record]
@[simp] theorem onAlarmAbsent_ctx (t : Trunk) (j : CtxId) : (s.onAlarmAbsent t).ctx j = s.ctx j := by simp [ctx]
@[simp] theorem onAlarmAbsent_path (t : Trunk) (j : CtxId) : (s.onAlarmAbsent t).path j = s.path j := by simp [path]
@[simp] theorem onAlarmAbsent_player (t : Trunk) (j : CtxId) : (s.onAlarmAbsent t).player j = s.player j := by simp [player]
@[simp] theorem onAlarmAbsent_segment (t : Trunk) (j : SegId) : (s.onAlarmAbsent t).segment j = s.segment j := by simp [segment]
@[simp] theorem onAlarmAbsent_service (t : Trunk) (j : Trunk) : (s.onAlarmAbsent t).service j = s.service j := by cases j <;> simp [service]
@[simp] theorem onAlarmAbsent_param (t : Trunk) (j : Fin 25) : (s.onAlarmAbsent t).param j = s.param j := by simp [param]

/-! ### latchTrunk -/

theorem latchTrunk_frame (t : Trunk) (f : TrunkFlag) : s.latchTrunk t f = { s with
    handed := (s.latchTrunk t f).handed } := by
  apply State.ext <;> first | with_reducible rfl | (unfold latchTrunk; dsimp only; (repeat' split) <;> simp)
@[simp] theorem latchTrunk_pending (t : Trunk) (f : TrunkFlag) : (s.latchTrunk t f).pending = s.pending := by rw [latchTrunk_frame]
@[simp] theorem latchTrunk_loops (t : Trunk) (f : TrunkFlag) : (s.latchTrunk t f).loops = s.loops := by rw [latchTrunk_frame]
@[simp] theorem latchTrunk_rings (t : Trunk) (f : TrunkFlag) : (s.latchTrunk t f).rings = s.rings := by rw [latchTrunk_frame]
@[simp] theorem latchTrunk_feeds (t : Trunk) (f : TrunkFlag) : (s.latchTrunk t f).feeds = s.feeds := by rw [latchTrunk_frame]
@[simp] theorem latchTrunk_supply (t : Trunk) (f : TrunkFlag) : (s.latchTrunk t f).supply = s.supply := by rw [latchTrunk_frame]
@[simp] theorem latchTrunk_directory (t : Trunk) (f : TrunkFlag) : (s.latchTrunk t f).directory = s.directory := by rw [latchTrunk_frame]
@[simp] theorem latchTrunk_contexts (t : Trunk) (f : TrunkFlag) : (s.latchTrunk t f).contexts = s.contexts := by rw [latchTrunk_frame]
@[simp] theorem latchTrunk_waiting (t : Trunk) (f : TrunkFlag) : (s.latchTrunk t f).waiting = s.waiting := by rw [latchTrunk_frame]
@[simp] theorem latchTrunk_entryCount (t : Trunk) (f : TrunkFlag) : (s.latchTrunk t f).entryCount = s.entryCount := by rw [latchTrunk_frame]
@[simp] theorem latchTrunk_routes (t : Trunk) (f : TrunkFlag) : (s.latchTrunk t f).routes = s.routes := by rw [latchTrunk_frame]
@[simp] theorem latchTrunk_plan (t : Trunk) (f : TrunkFlag) : (s.latchTrunk t f).plan = s.plan := by rw [latchTrunk_frame]
@[simp] theorem latchTrunk_trunkA (t : Trunk) (f : TrunkFlag) : (s.latchTrunk t f).trunkA = s.trunkA := by rw [latchTrunk_frame]
@[simp] theorem latchTrunk_trunkB (t : Trunk) (f : TrunkFlag) : (s.latchTrunk t f).trunkB = s.trunkB := by rw [latchTrunk_frame]
@[simp] theorem latchTrunk_paths (t : Trunk) (f : TrunkFlag) : (s.latchTrunk t f).paths = s.paths := by rw [latchTrunk_frame]
@[simp] theorem latchTrunk_samples (t : Trunk) (f : TrunkFlag) : (s.latchTrunk t f).samples = s.samples := by rw [latchTrunk_frame]
@[simp] theorem latchTrunk_segments (t : Trunk) (f : TrunkFlag) : (s.latchTrunk t f).segments = s.segments := by rw [latchTrunk_frame]
@[simp] theorem latchTrunk_players (t : Trunk) (f : TrunkFlag) : (s.latchTrunk t f).players = s.players := by rw [latchTrunk_frame]
@[simp] theorem latchTrunk_serviceA (t : Trunk) (f : TrunkFlag) : (s.latchTrunk t f).serviceA = s.serviceA := by rw [latchTrunk_frame]
@[simp] theorem latchTrunk_serviceB (t : Trunk) (f : TrunkFlag) : (s.latchTrunk t f).serviceB = s.serviceB := by rw [latchTrunk_frame]
@[simp] theorem latchTrunk_home (t : Trunk) (f : TrunkFlag) : (s.latchTrunk t f).home = s.home := by rw [latchTrunk_frame]
@[simp] theorem latchTrunk_settings (t : Trunk) (f : TrunkFlag) : (s.latchTrunk t f).settings = s.settings := by rw [latchTrunk_frame]
@[simp] theorem latchTrunk_sectionFault (t : Trunk) (f : TrunkFlag) : (s.latchTrunk t f).sectionFault = s.sectionFault := by rw [latchTrunk_frame]
@[simp] theorem latchTrunk_trunkFaultA (t : Trunk) (f : TrunkFlag) : (s.latchTrunk t f).trunkFaultA = s.trunkFaultA := by rw [latchTrunk_frame]
@[simp] theorem latchTrunk_trunkFaultB (t : Trunk) (f : TrunkFlag) : (s.latchTrunk t f).trunkFaultB = s.trunkFaultB := by rw [latchTrunk_frame]
@[simp] theorem latchTrunk_loopFaults (t : Trunk) (f : TrunkFlag) : (s.latchTrunk t f).loopFaults = s.loopFaults := by rw [latchTrunk_frame]
@[simp] theorem latchTrunk_postFaults (t : Trunk) (f : TrunkFlag) : (s.latchTrunk t f).postFaults = s.postFaults := by rw [latchTrunk_frame]
@[simp] theorem latchTrunk_testResults (t : Trunk) (f : TrunkFlag) : (s.latchTrunk t f).testResults = s.testResults := by rw [latchTrunk_frame]
@[simp] theorem latchTrunk_marks (t : Trunk) (f : TrunkFlag) : (s.latchTrunk t f).marks = s.marks := by rw [latchTrunk_frame]
@[simp] theorem latchTrunk_abandons (t : Trunk) (f : TrunkFlag) : (s.latchTrunk t f).abandons = s.abandons := by rw [latchTrunk_frame]
@[simp] theorem latchTrunk_abandonPosts (t : Trunk) (f : TrunkFlag) : (s.latchTrunk t f).abandonPosts = s.abandonPosts := by rw [latchTrunk_frame]
@[simp] theorem latchTrunk_mask (t : Trunk) (f : TrunkFlag) : (s.latchTrunk t f).mask = s.mask := by rw [latchTrunk_frame]
@[simp] theorem latchTrunk_loop (t : Trunk) (f : TrunkFlag) (j : LoopId) : (s.latchTrunk t f).loop j = s.loop j := by simp [loop]
@[simp] theorem latchTrunk_ring (t : Trunk) (f : TrunkFlag) (j : LoopId) : (s.latchTrunk t f).ring j = s.ring j := by simp [ring]
@[simp] theorem latchTrunk_feed (t : Trunk) (f : TrunkFlag) (j : LoopId) : (s.latchTrunk t f).feed j = s.feed j := by simp [feed]
@[simp] theorem latchTrunk_record (t : Trunk) (f : TrunkFlag) (j : SlotId) : (s.latchTrunk t f).record j = s.record j := by simp [record]
@[simp] theorem latchTrunk_ctx (t : Trunk) (f : TrunkFlag) (j : CtxId) : (s.latchTrunk t f).ctx j = s.ctx j := by simp [ctx]
@[simp] theorem latchTrunk_trunk (t : Trunk) (f : TrunkFlag) (j : Trunk) : (s.latchTrunk t f).trunk j = s.trunk j := by cases j <;> simp [trunk]
@[simp] theorem latchTrunk_path (t : Trunk) (f : TrunkFlag) (j : CtxId) : (s.latchTrunk t f).path j = s.path j := by simp [path]
@[simp] theorem latchTrunk_player (t : Trunk) (f : TrunkFlag) (j : CtxId) : (s.latchTrunk t f).player j = s.player j := by simp [player]
@[simp] theorem latchTrunk_segment (t : Trunk) (f : TrunkFlag) (j : SegId) : (s.latchTrunk t f).segment j = s.segment j := by simp [segment]
@[simp] theorem latchTrunk_service (t : Trunk) (f : TrunkFlag) (j : Trunk) : (s.latchTrunk t f).service j = s.service j := by cases j <;> simp [service]
@[simp] theorem latchTrunk_param (t : Trunk) (f : TrunkFlag) (j : Fin 25) : (s.latchTrunk t f).param j = s.param j := by simp [param]

/-! ### loseAlignment -/

theorem loseAlignment_frame (t : Trunk) : s.loseAlignment t = { s with
    trunkA := (s.loseAlignment t).trunkA
    trunkB := (s.loseAlignment t).trunkB
    serviceA := (s.loseAlignment t).serviceA
    serviceB := (s.loseAlignment t).serviceB
    handed := (s.loseAlignment t).handed } := by
  apply State.ext <;> first | with_reducible rfl | (simp [loseAlignment])
@[simp] theorem loseAlignment_pending (t : Trunk) : (s.loseAlignment t).pending = s.pending := by rw [loseAlignment_frame]
@[simp] theorem loseAlignment_loops (t : Trunk) : (s.loseAlignment t).loops = s.loops := by rw [loseAlignment_frame]
@[simp] theorem loseAlignment_rings (t : Trunk) : (s.loseAlignment t).rings = s.rings := by rw [loseAlignment_frame]
@[simp] theorem loseAlignment_feeds (t : Trunk) : (s.loseAlignment t).feeds = s.feeds := by rw [loseAlignment_frame]
@[simp] theorem loseAlignment_supply (t : Trunk) : (s.loseAlignment t).supply = s.supply := by rw [loseAlignment_frame]
@[simp] theorem loseAlignment_directory (t : Trunk) : (s.loseAlignment t).directory = s.directory := by rw [loseAlignment_frame]
@[simp] theorem loseAlignment_contexts (t : Trunk) : (s.loseAlignment t).contexts = s.contexts := by rw [loseAlignment_frame]
@[simp] theorem loseAlignment_waiting (t : Trunk) : (s.loseAlignment t).waiting = s.waiting := by rw [loseAlignment_frame]
@[simp] theorem loseAlignment_entryCount (t : Trunk) : (s.loseAlignment t).entryCount = s.entryCount := by rw [loseAlignment_frame]
@[simp] theorem loseAlignment_routes (t : Trunk) : (s.loseAlignment t).routes = s.routes := by rw [loseAlignment_frame]
@[simp] theorem loseAlignment_plan (t : Trunk) : (s.loseAlignment t).plan = s.plan := by rw [loseAlignment_frame]
@[simp] theorem loseAlignment_paths (t : Trunk) : (s.loseAlignment t).paths = s.paths := by rw [loseAlignment_frame]
@[simp] theorem loseAlignment_samples (t : Trunk) : (s.loseAlignment t).samples = s.samples := by rw [loseAlignment_frame]
@[simp] theorem loseAlignment_segments (t : Trunk) : (s.loseAlignment t).segments = s.segments := by rw [loseAlignment_frame]
@[simp] theorem loseAlignment_players (t : Trunk) : (s.loseAlignment t).players = s.players := by rw [loseAlignment_frame]
@[simp] theorem loseAlignment_home (t : Trunk) : (s.loseAlignment t).home = s.home := by rw [loseAlignment_frame]
@[simp] theorem loseAlignment_settings (t : Trunk) : (s.loseAlignment t).settings = s.settings := by rw [loseAlignment_frame]
@[simp] theorem loseAlignment_sectionFault (t : Trunk) : (s.loseAlignment t).sectionFault = s.sectionFault := by rw [loseAlignment_frame]
@[simp] theorem loseAlignment_trunkFaultA (t : Trunk) : (s.loseAlignment t).trunkFaultA = s.trunkFaultA := by rw [loseAlignment_frame]
@[simp] theorem loseAlignment_trunkFaultB (t : Trunk) : (s.loseAlignment t).trunkFaultB = s.trunkFaultB := by rw [loseAlignment_frame]
@[simp] theorem loseAlignment_loopFaults (t : Trunk) : (s.loseAlignment t).loopFaults = s.loopFaults := by rw [loseAlignment_frame]
@[simp] theorem loseAlignment_postFaults (t : Trunk) : (s.loseAlignment t).postFaults = s.postFaults := by rw [loseAlignment_frame]
@[simp] theorem loseAlignment_testResults (t : Trunk) : (s.loseAlignment t).testResults = s.testResults := by rw [loseAlignment_frame]
@[simp] theorem loseAlignment_marks (t : Trunk) : (s.loseAlignment t).marks = s.marks := by rw [loseAlignment_frame]
@[simp] theorem loseAlignment_abandons (t : Trunk) : (s.loseAlignment t).abandons = s.abandons := by rw [loseAlignment_frame]
@[simp] theorem loseAlignment_abandonPosts (t : Trunk) : (s.loseAlignment t).abandonPosts = s.abandonPosts := by rw [loseAlignment_frame]
@[simp] theorem loseAlignment_mask (t : Trunk) : (s.loseAlignment t).mask = s.mask := by rw [loseAlignment_frame]
@[simp] theorem loseAlignment_loop (t : Trunk) (j : LoopId) : (s.loseAlignment t).loop j = s.loop j := by simp [loop]
@[simp] theorem loseAlignment_ring (t : Trunk) (j : LoopId) : (s.loseAlignment t).ring j = s.ring j := by simp [ring]
@[simp] theorem loseAlignment_feed (t : Trunk) (j : LoopId) : (s.loseAlignment t).feed j = s.feed j := by simp [feed]
@[simp] theorem loseAlignment_record (t : Trunk) (j : SlotId) : (s.loseAlignment t).record j = s.record j := by simp [record]
@[simp] theorem loseAlignment_ctx (t : Trunk) (j : CtxId) : (s.loseAlignment t).ctx j = s.ctx j := by simp [ctx]
@[simp] theorem loseAlignment_path (t : Trunk) (j : CtxId) : (s.loseAlignment t).path j = s.path j := by simp [path]
@[simp] theorem loseAlignment_player (t : Trunk) (j : CtxId) : (s.loseAlignment t).player j = s.player j := by simp [player]
@[simp] theorem loseAlignment_segment (t : Trunk) (j : SegId) : (s.loseAlignment t).segment j = s.segment j := by simp [segment]
@[simp] theorem loseAlignment_param (t : Trunk) (j : Fin 25) : (s.loseAlignment t).param j = s.param j := by simp [param]

/-! ### clearAlarm -/

theorem clearAlarm_frame (t : Trunk) : s.clearAlarm t = { s with
    trunkA := (s.clearAlarm t).trunkA
    trunkB := (s.clearAlarm t).trunkB
    handed := (s.clearAlarm t).handed } := by
  apply State.ext <;> first | with_reducible rfl | (simp [clearAlarm])
@[simp] theorem clearAlarm_pending (t : Trunk) : (s.clearAlarm t).pending = s.pending := by rw [clearAlarm_frame]
@[simp] theorem clearAlarm_loops (t : Trunk) : (s.clearAlarm t).loops = s.loops := by rw [clearAlarm_frame]
@[simp] theorem clearAlarm_rings (t : Trunk) : (s.clearAlarm t).rings = s.rings := by rw [clearAlarm_frame]
@[simp] theorem clearAlarm_feeds (t : Trunk) : (s.clearAlarm t).feeds = s.feeds := by rw [clearAlarm_frame]
@[simp] theorem clearAlarm_supply (t : Trunk) : (s.clearAlarm t).supply = s.supply := by rw [clearAlarm_frame]
@[simp] theorem clearAlarm_directory (t : Trunk) : (s.clearAlarm t).directory = s.directory := by rw [clearAlarm_frame]
@[simp] theorem clearAlarm_contexts (t : Trunk) : (s.clearAlarm t).contexts = s.contexts := by rw [clearAlarm_frame]
@[simp] theorem clearAlarm_waiting (t : Trunk) : (s.clearAlarm t).waiting = s.waiting := by rw [clearAlarm_frame]
@[simp] theorem clearAlarm_entryCount (t : Trunk) : (s.clearAlarm t).entryCount = s.entryCount := by rw [clearAlarm_frame]
@[simp] theorem clearAlarm_routes (t : Trunk) : (s.clearAlarm t).routes = s.routes := by rw [clearAlarm_frame]
@[simp] theorem clearAlarm_plan (t : Trunk) : (s.clearAlarm t).plan = s.plan := by rw [clearAlarm_frame]
@[simp] theorem clearAlarm_paths (t : Trunk) : (s.clearAlarm t).paths = s.paths := by rw [clearAlarm_frame]
@[simp] theorem clearAlarm_samples (t : Trunk) : (s.clearAlarm t).samples = s.samples := by rw [clearAlarm_frame]
@[simp] theorem clearAlarm_segments (t : Trunk) : (s.clearAlarm t).segments = s.segments := by rw [clearAlarm_frame]
@[simp] theorem clearAlarm_players (t : Trunk) : (s.clearAlarm t).players = s.players := by rw [clearAlarm_frame]
@[simp] theorem clearAlarm_serviceA (t : Trunk) : (s.clearAlarm t).serviceA = s.serviceA := by rw [clearAlarm_frame]
@[simp] theorem clearAlarm_serviceB (t : Trunk) : (s.clearAlarm t).serviceB = s.serviceB := by rw [clearAlarm_frame]
@[simp] theorem clearAlarm_home (t : Trunk) : (s.clearAlarm t).home = s.home := by rw [clearAlarm_frame]
@[simp] theorem clearAlarm_settings (t : Trunk) : (s.clearAlarm t).settings = s.settings := by rw [clearAlarm_frame]
@[simp] theorem clearAlarm_sectionFault (t : Trunk) : (s.clearAlarm t).sectionFault = s.sectionFault := by rw [clearAlarm_frame]
@[simp] theorem clearAlarm_trunkFaultA (t : Trunk) : (s.clearAlarm t).trunkFaultA = s.trunkFaultA := by rw [clearAlarm_frame]
@[simp] theorem clearAlarm_trunkFaultB (t : Trunk) : (s.clearAlarm t).trunkFaultB = s.trunkFaultB := by rw [clearAlarm_frame]
@[simp] theorem clearAlarm_loopFaults (t : Trunk) : (s.clearAlarm t).loopFaults = s.loopFaults := by rw [clearAlarm_frame]
@[simp] theorem clearAlarm_postFaults (t : Trunk) : (s.clearAlarm t).postFaults = s.postFaults := by rw [clearAlarm_frame]
@[simp] theorem clearAlarm_testResults (t : Trunk) : (s.clearAlarm t).testResults = s.testResults := by rw [clearAlarm_frame]
@[simp] theorem clearAlarm_marks (t : Trunk) : (s.clearAlarm t).marks = s.marks := by rw [clearAlarm_frame]
@[simp] theorem clearAlarm_abandons (t : Trunk) : (s.clearAlarm t).abandons = s.abandons := by rw [clearAlarm_frame]
@[simp] theorem clearAlarm_abandonPosts (t : Trunk) : (s.clearAlarm t).abandonPosts = s.abandonPosts := by rw [clearAlarm_frame]
@[simp] theorem clearAlarm_mask (t : Trunk) : (s.clearAlarm t).mask = s.mask := by rw [clearAlarm_frame]
@[simp] theorem clearAlarm_loop (t : Trunk) (j : LoopId) : (s.clearAlarm t).loop j = s.loop j := by simp [loop]
@[simp] theorem clearAlarm_ring (t : Trunk) (j : LoopId) : (s.clearAlarm t).ring j = s.ring j := by simp [ring]
@[simp] theorem clearAlarm_feed (t : Trunk) (j : LoopId) : (s.clearAlarm t).feed j = s.feed j := by simp [feed]
@[simp] theorem clearAlarm_record (t : Trunk) (j : SlotId) : (s.clearAlarm t).record j = s.record j := by simp [record]
@[simp] theorem clearAlarm_ctx (t : Trunk) (j : CtxId) : (s.clearAlarm t).ctx j = s.ctx j := by simp [ctx]
@[simp] theorem clearAlarm_path (t : Trunk) (j : CtxId) : (s.clearAlarm t).path j = s.path j := by simp [path]
@[simp] theorem clearAlarm_player (t : Trunk) (j : CtxId) : (s.clearAlarm t).player j = s.player j := by simp [player]
@[simp] theorem clearAlarm_segment (t : Trunk) (j : SegId) : (s.clearAlarm t).segment j = s.segment j := by simp [segment]
@[simp] theorem clearAlarm_service (t : Trunk) (j : Trunk) : (s.clearAlarm t).service j = s.service j := by cases j <;> simp [service]
@[simp] theorem clearAlarm_param (t : Trunk) (j : Fin 25) : (s.clearAlarm t).param j = s.param j := by simp [param]

/-! ### takeAlarm -/

theorem takeAlarm_frame (t : Trunk) : s.takeAlarm t = { s with
    trunkA := (s.takeAlarm t).trunkA
    trunkB := (s.takeAlarm t).trunkB
    handed := (s.takeAlarm t).handed } := by
  apply State.ext <;> first | with_reducible rfl | (unfold takeAlarm; dsimp only; (repeat' split) <;> simp)
@[simp] theorem takeAlarm_pending (t : Trunk) : (s.takeAlarm t).pending = s.pending := by rw [takeAlarm_frame]
@[simp] theorem takeAlarm_loops (t : Trunk) : (s.takeAlarm t).loops = s.loops := by rw [takeAlarm_frame]
@[simp] theorem takeAlarm_rings (t : Trunk) : (s.takeAlarm t).rings = s.rings := by rw [takeAlarm_frame]
@[simp] theorem takeAlarm_feeds (t : Trunk) : (s.takeAlarm t).feeds = s.feeds := by rw [takeAlarm_frame]
@[simp] theorem takeAlarm_supply (t : Trunk) : (s.takeAlarm t).supply = s.supply := by rw [takeAlarm_frame]
@[simp] theorem takeAlarm_directory (t : Trunk) : (s.takeAlarm t).directory = s.directory := by rw [takeAlarm_frame]
@[simp] theorem takeAlarm_contexts (t : Trunk) : (s.takeAlarm t).contexts = s.contexts := by rw [takeAlarm_frame]
@[simp] theorem takeAlarm_waiting (t : Trunk) : (s.takeAlarm t).waiting = s.waiting := by rw [takeAlarm_frame]
@[simp] theorem takeAlarm_entryCount (t : Trunk) : (s.takeAlarm t).entryCount = s.entryCount := by rw [takeAlarm_frame]
@[simp] theorem takeAlarm_routes (t : Trunk) : (s.takeAlarm t).routes = s.routes := by rw [takeAlarm_frame]
@[simp] theorem takeAlarm_plan (t : Trunk) : (s.takeAlarm t).plan = s.plan := by rw [takeAlarm_frame]
@[simp] theorem takeAlarm_paths (t : Trunk) : (s.takeAlarm t).paths = s.paths := by rw [takeAlarm_frame]
@[simp] theorem takeAlarm_samples (t : Trunk) : (s.takeAlarm t).samples = s.samples := by rw [takeAlarm_frame]
@[simp] theorem takeAlarm_segments (t : Trunk) : (s.takeAlarm t).segments = s.segments := by rw [takeAlarm_frame]
@[simp] theorem takeAlarm_players (t : Trunk) : (s.takeAlarm t).players = s.players := by rw [takeAlarm_frame]
@[simp] theorem takeAlarm_serviceA (t : Trunk) : (s.takeAlarm t).serviceA = s.serviceA := by rw [takeAlarm_frame]
@[simp] theorem takeAlarm_serviceB (t : Trunk) : (s.takeAlarm t).serviceB = s.serviceB := by rw [takeAlarm_frame]
@[simp] theorem takeAlarm_home (t : Trunk) : (s.takeAlarm t).home = s.home := by rw [takeAlarm_frame]
@[simp] theorem takeAlarm_settings (t : Trunk) : (s.takeAlarm t).settings = s.settings := by rw [takeAlarm_frame]
@[simp] theorem takeAlarm_sectionFault (t : Trunk) : (s.takeAlarm t).sectionFault = s.sectionFault := by rw [takeAlarm_frame]
@[simp] theorem takeAlarm_trunkFaultA (t : Trunk) : (s.takeAlarm t).trunkFaultA = s.trunkFaultA := by rw [takeAlarm_frame]
@[simp] theorem takeAlarm_trunkFaultB (t : Trunk) : (s.takeAlarm t).trunkFaultB = s.trunkFaultB := by rw [takeAlarm_frame]
@[simp] theorem takeAlarm_loopFaults (t : Trunk) : (s.takeAlarm t).loopFaults = s.loopFaults := by rw [takeAlarm_frame]
@[simp] theorem takeAlarm_postFaults (t : Trunk) : (s.takeAlarm t).postFaults = s.postFaults := by rw [takeAlarm_frame]
@[simp] theorem takeAlarm_testResults (t : Trunk) : (s.takeAlarm t).testResults = s.testResults := by rw [takeAlarm_frame]
@[simp] theorem takeAlarm_marks (t : Trunk) : (s.takeAlarm t).marks = s.marks := by rw [takeAlarm_frame]
@[simp] theorem takeAlarm_abandons (t : Trunk) : (s.takeAlarm t).abandons = s.abandons := by rw [takeAlarm_frame]
@[simp] theorem takeAlarm_abandonPosts (t : Trunk) : (s.takeAlarm t).abandonPosts = s.abandonPosts := by rw [takeAlarm_frame]
@[simp] theorem takeAlarm_mask (t : Trunk) : (s.takeAlarm t).mask = s.mask := by rw [takeAlarm_frame]
@[simp] theorem takeAlarm_loop (t : Trunk) (j : LoopId) : (s.takeAlarm t).loop j = s.loop j := by simp [loop]
@[simp] theorem takeAlarm_ring (t : Trunk) (j : LoopId) : (s.takeAlarm t).ring j = s.ring j := by simp [ring]
@[simp] theorem takeAlarm_feed (t : Trunk) (j : LoopId) : (s.takeAlarm t).feed j = s.feed j := by simp [feed]
@[simp] theorem takeAlarm_record (t : Trunk) (j : SlotId) : (s.takeAlarm t).record j = s.record j := by simp [record]
@[simp] theorem takeAlarm_ctx (t : Trunk) (j : CtxId) : (s.takeAlarm t).ctx j = s.ctx j := by simp [ctx]
@[simp] theorem takeAlarm_path (t : Trunk) (j : CtxId) : (s.takeAlarm t).path j = s.path j := by simp [path]
@[simp] theorem takeAlarm_player (t : Trunk) (j : CtxId) : (s.takeAlarm t).player j = s.player j := by simp [player]
@[simp] theorem takeAlarm_segment (t : Trunk) (j : SegId) : (s.takeAlarm t).segment j = s.segment j := by simp [segment]
@[simp] theorem takeAlarm_service (t : Trunk) (j : Trunk) : (s.takeAlarm t).service j = s.service j := by cases j <;> simp [service]
@[simp] theorem takeAlarm_param (t : Trunk) (j : Fin 25) : (s.takeAlarm t).param j = s.param j := by simp [param]

/-! ### takeClear -/

theorem takeClear_frame (t : Trunk) : s.takeClear t = { s with
    trunkA := (s.takeClear t).trunkA
    trunkB := (s.takeClear t).trunkB
    handed := (s.takeClear t).handed } := by
  apply State.ext <;> first | with_reducible rfl | (unfold takeClear; dsimp only; (repeat' split) <;> simp)
@[simp] theorem takeClear_pending (t : Trunk) : (s.takeClear t).pending = s.pending := by rw [takeClear_frame]
@[simp] theorem takeClear_loops (t : Trunk) : (s.takeClear t).loops = s.loops := by rw [takeClear_frame]
@[simp] theorem takeClear_rings (t : Trunk) : (s.takeClear t).rings = s.rings := by rw [takeClear_frame]
@[simp] theorem takeClear_feeds (t : Trunk) : (s.takeClear t).feeds = s.feeds := by rw [takeClear_frame]
@[simp] theorem takeClear_supply (t : Trunk) : (s.takeClear t).supply = s.supply := by rw [takeClear_frame]
@[simp] theorem takeClear_directory (t : Trunk) : (s.takeClear t).directory = s.directory := by rw [takeClear_frame]
@[simp] theorem takeClear_contexts (t : Trunk) : (s.takeClear t).contexts = s.contexts := by rw [takeClear_frame]
@[simp] theorem takeClear_waiting (t : Trunk) : (s.takeClear t).waiting = s.waiting := by rw [takeClear_frame]
@[simp] theorem takeClear_entryCount (t : Trunk) : (s.takeClear t).entryCount = s.entryCount := by rw [takeClear_frame]
@[simp] theorem takeClear_routes (t : Trunk) : (s.takeClear t).routes = s.routes := by rw [takeClear_frame]
@[simp] theorem takeClear_plan (t : Trunk) : (s.takeClear t).plan = s.plan := by rw [takeClear_frame]
@[simp] theorem takeClear_paths (t : Trunk) : (s.takeClear t).paths = s.paths := by rw [takeClear_frame]
@[simp] theorem takeClear_samples (t : Trunk) : (s.takeClear t).samples = s.samples := by rw [takeClear_frame]
@[simp] theorem takeClear_segments (t : Trunk) : (s.takeClear t).segments = s.segments := by rw [takeClear_frame]
@[simp] theorem takeClear_players (t : Trunk) : (s.takeClear t).players = s.players := by rw [takeClear_frame]
@[simp] theorem takeClear_serviceA (t : Trunk) : (s.takeClear t).serviceA = s.serviceA := by rw [takeClear_frame]
@[simp] theorem takeClear_serviceB (t : Trunk) : (s.takeClear t).serviceB = s.serviceB := by rw [takeClear_frame]
@[simp] theorem takeClear_home (t : Trunk) : (s.takeClear t).home = s.home := by rw [takeClear_frame]
@[simp] theorem takeClear_settings (t : Trunk) : (s.takeClear t).settings = s.settings := by rw [takeClear_frame]
@[simp] theorem takeClear_sectionFault (t : Trunk) : (s.takeClear t).sectionFault = s.sectionFault := by rw [takeClear_frame]
@[simp] theorem takeClear_trunkFaultA (t : Trunk) : (s.takeClear t).trunkFaultA = s.trunkFaultA := by rw [takeClear_frame]
@[simp] theorem takeClear_trunkFaultB (t : Trunk) : (s.takeClear t).trunkFaultB = s.trunkFaultB := by rw [takeClear_frame]
@[simp] theorem takeClear_loopFaults (t : Trunk) : (s.takeClear t).loopFaults = s.loopFaults := by rw [takeClear_frame]
@[simp] theorem takeClear_postFaults (t : Trunk) : (s.takeClear t).postFaults = s.postFaults := by rw [takeClear_frame]
@[simp] theorem takeClear_testResults (t : Trunk) : (s.takeClear t).testResults = s.testResults := by rw [takeClear_frame]
@[simp] theorem takeClear_marks (t : Trunk) : (s.takeClear t).marks = s.marks := by rw [takeClear_frame]
@[simp] theorem takeClear_abandons (t : Trunk) : (s.takeClear t).abandons = s.abandons := by rw [takeClear_frame]
@[simp] theorem takeClear_abandonPosts (t : Trunk) : (s.takeClear t).abandonPosts = s.abandonPosts := by rw [takeClear_frame]
@[simp] theorem takeClear_mask (t : Trunk) : (s.takeClear t).mask = s.mask := by rw [takeClear_frame]
@[simp] theorem takeClear_loop (t : Trunk) (j : LoopId) : (s.takeClear t).loop j = s.loop j := by simp [loop]
@[simp] theorem takeClear_ring (t : Trunk) (j : LoopId) : (s.takeClear t).ring j = s.ring j := by simp [ring]
@[simp] theorem takeClear_feed (t : Trunk) (j : LoopId) : (s.takeClear t).feed j = s.feed j := by simp [feed]
@[simp] theorem takeClear_record (t : Trunk) (j : SlotId) : (s.takeClear t).record j = s.record j := by simp [record]
@[simp] theorem takeClear_ctx (t : Trunk) (j : CtxId) : (s.takeClear t).ctx j = s.ctx j := by simp [ctx]
@[simp] theorem takeClear_path (t : Trunk) (j : CtxId) : (s.takeClear t).path j = s.path j := by simp [path]
@[simp] theorem takeClear_player (t : Trunk) (j : CtxId) : (s.takeClear t).player j = s.player j := by simp [player]
@[simp] theorem takeClear_segment (t : Trunk) (j : SegId) : (s.takeClear t).segment j = s.segment j := by simp [segment]
@[simp] theorem takeClear_service (t : Trunk) (j : Trunk) : (s.takeClear t).service j = s.service j := by cases j <;> simp [service]
@[simp] theorem takeClear_param (t : Trunk) (j : Fin 25) : (s.takeClear t).param j = s.param j := by simp [param]

/-! ### takeHousekeeping -/

theorem takeHousekeeping_frame (t : Trunk) (b : Byte) : s.takeHousekeeping t b = { s with
    trunkA := (s.takeHousekeeping t b).trunkA
    trunkB := (s.takeHousekeeping t b).trunkB
    handed := (s.takeHousekeeping t b).handed } := by
  apply State.ext <;> first | with_reducible rfl | (unfold takeHousekeeping; dsimp only; (repeat' split) <;> simp)
@[simp] theorem takeHousekeeping_pending (t : Trunk) (b : Byte) : (s.takeHousekeeping t b).pending = s.pending := by rw [takeHousekeeping_frame]
@[simp] theorem takeHousekeeping_loops (t : Trunk) (b : Byte) : (s.takeHousekeeping t b).loops = s.loops := by rw [takeHousekeeping_frame]
@[simp] theorem takeHousekeeping_rings (t : Trunk) (b : Byte) : (s.takeHousekeeping t b).rings = s.rings := by rw [takeHousekeeping_frame]
@[simp] theorem takeHousekeeping_feeds (t : Trunk) (b : Byte) : (s.takeHousekeeping t b).feeds = s.feeds := by rw [takeHousekeeping_frame]
@[simp] theorem takeHousekeeping_supply (t : Trunk) (b : Byte) : (s.takeHousekeeping t b).supply = s.supply := by rw [takeHousekeeping_frame]
@[simp] theorem takeHousekeeping_directory (t : Trunk) (b : Byte) : (s.takeHousekeeping t b).directory = s.directory := by rw [takeHousekeeping_frame]
@[simp] theorem takeHousekeeping_contexts (t : Trunk) (b : Byte) : (s.takeHousekeeping t b).contexts = s.contexts := by rw [takeHousekeeping_frame]
@[simp] theorem takeHousekeeping_waiting (t : Trunk) (b : Byte) : (s.takeHousekeeping t b).waiting = s.waiting := by rw [takeHousekeeping_frame]
@[simp] theorem takeHousekeeping_entryCount (t : Trunk) (b : Byte) : (s.takeHousekeeping t b).entryCount = s.entryCount := by rw [takeHousekeeping_frame]
@[simp] theorem takeHousekeeping_routes (t : Trunk) (b : Byte) : (s.takeHousekeeping t b).routes = s.routes := by rw [takeHousekeeping_frame]
@[simp] theorem takeHousekeeping_plan (t : Trunk) (b : Byte) : (s.takeHousekeeping t b).plan = s.plan := by rw [takeHousekeeping_frame]
@[simp] theorem takeHousekeeping_paths (t : Trunk) (b : Byte) : (s.takeHousekeeping t b).paths = s.paths := by rw [takeHousekeeping_frame]
@[simp] theorem takeHousekeeping_samples (t : Trunk) (b : Byte) : (s.takeHousekeeping t b).samples = s.samples := by rw [takeHousekeeping_frame]
@[simp] theorem takeHousekeeping_segments (t : Trunk) (b : Byte) : (s.takeHousekeeping t b).segments = s.segments := by rw [takeHousekeeping_frame]
@[simp] theorem takeHousekeeping_players (t : Trunk) (b : Byte) : (s.takeHousekeeping t b).players = s.players := by rw [takeHousekeeping_frame]
@[simp] theorem takeHousekeeping_serviceA (t : Trunk) (b : Byte) : (s.takeHousekeeping t b).serviceA = s.serviceA := by rw [takeHousekeeping_frame]
@[simp] theorem takeHousekeeping_serviceB (t : Trunk) (b : Byte) : (s.takeHousekeeping t b).serviceB = s.serviceB := by rw [takeHousekeeping_frame]
@[simp] theorem takeHousekeeping_home (t : Trunk) (b : Byte) : (s.takeHousekeeping t b).home = s.home := by rw [takeHousekeeping_frame]
@[simp] theorem takeHousekeeping_settings (t : Trunk) (b : Byte) : (s.takeHousekeeping t b).settings = s.settings := by rw [takeHousekeeping_frame]
@[simp] theorem takeHousekeeping_sectionFault (t : Trunk) (b : Byte) : (s.takeHousekeeping t b).sectionFault = s.sectionFault := by rw [takeHousekeeping_frame]
@[simp] theorem takeHousekeeping_trunkFaultA (t : Trunk) (b : Byte) : (s.takeHousekeeping t b).trunkFaultA = s.trunkFaultA := by rw [takeHousekeeping_frame]
@[simp] theorem takeHousekeeping_trunkFaultB (t : Trunk) (b : Byte) : (s.takeHousekeeping t b).trunkFaultB = s.trunkFaultB := by rw [takeHousekeeping_frame]
@[simp] theorem takeHousekeeping_loopFaults (t : Trunk) (b : Byte) : (s.takeHousekeeping t b).loopFaults = s.loopFaults := by rw [takeHousekeeping_frame]
@[simp] theorem takeHousekeeping_postFaults (t : Trunk) (b : Byte) : (s.takeHousekeeping t b).postFaults = s.postFaults := by rw [takeHousekeeping_frame]
@[simp] theorem takeHousekeeping_testResults (t : Trunk) (b : Byte) : (s.takeHousekeeping t b).testResults = s.testResults := by rw [takeHousekeeping_frame]
@[simp] theorem takeHousekeeping_marks (t : Trunk) (b : Byte) : (s.takeHousekeeping t b).marks = s.marks := by rw [takeHousekeeping_frame]
@[simp] theorem takeHousekeeping_abandons (t : Trunk) (b : Byte) : (s.takeHousekeeping t b).abandons = s.abandons := by rw [takeHousekeeping_frame]
@[simp] theorem takeHousekeeping_abandonPosts (t : Trunk) (b : Byte) : (s.takeHousekeeping t b).abandonPosts = s.abandonPosts := by rw [takeHousekeeping_frame]
@[simp] theorem takeHousekeeping_mask (t : Trunk) (b : Byte) : (s.takeHousekeeping t b).mask = s.mask := by rw [takeHousekeeping_frame]
@[simp] theorem takeHousekeeping_loop (t : Trunk) (b : Byte) (j : LoopId) : (s.takeHousekeeping t b).loop j = s.loop j := by simp [loop]
@[simp] theorem takeHousekeeping_ring (t : Trunk) (b : Byte) (j : LoopId) : (s.takeHousekeeping t b).ring j = s.ring j := by simp [ring]
@[simp] theorem takeHousekeeping_feed (t : Trunk) (b : Byte) (j : LoopId) : (s.takeHousekeeping t b).feed j = s.feed j := by simp [feed]
@[simp] theorem takeHousekeeping_record (t : Trunk) (b : Byte) (j : SlotId) : (s.takeHousekeeping t b).record j = s.record j := by simp [record]
@[simp] theorem takeHousekeeping_ctx (t : Trunk) (b : Byte) (j : CtxId) : (s.takeHousekeeping t b).ctx j = s.ctx j := by simp [ctx]
@[simp] theorem takeHousekeeping_path (t : Trunk) (b : Byte) (j : CtxId) : (s.takeHousekeeping t b).path j = s.path j := by simp [path]
@[simp] theorem takeHousekeeping_player (t : Trunk) (b : Byte) (j : CtxId) : (s.takeHousekeeping t b).player j = s.player j := by simp [player]
@[simp] theorem takeHousekeeping_segment (t : Trunk) (b : Byte) (j : SegId) : (s.takeHousekeeping t b).segment j = s.segment j := by simp [segment]
@[simp] theorem takeHousekeeping_service (t : Trunk) (b : Byte) (j : Trunk) : (s.takeHousekeeping t b).service j = s.service j := by cases j <;> simp [service]
@[simp] theorem takeHousekeeping_param (t : Trunk) (b : Byte) (j : Fin 25) : (s.takeHousekeeping t b).param j = s.param j := by simp [param]

/-! ### oddFrame -/

theorem oddFrame_frame (t : Trunk) (b : Byte) : s.oddFrame t b = { s with
    trunkA := (s.oddFrame t b).trunkA
    trunkB := (s.oddFrame t b).trunkB
    handed := (s.oddFrame t b).handed } := by
  apply State.ext <;> first | with_reducible rfl | (unfold oddFrame; dsimp only; (repeat' split) <;> simp)
@[simp] theorem oddFrame_pending (t : Trunk) (b : Byte) : (s.oddFrame t b).pending = s.pending := by rw [oddFrame_frame]
@[simp] theorem oddFrame_loops (t : Trunk) (b : Byte) : (s.oddFrame t b).loops = s.loops := by rw [oddFrame_frame]
@[simp] theorem oddFrame_rings (t : Trunk) (b : Byte) : (s.oddFrame t b).rings = s.rings := by rw [oddFrame_frame]
@[simp] theorem oddFrame_feeds (t : Trunk) (b : Byte) : (s.oddFrame t b).feeds = s.feeds := by rw [oddFrame_frame]
@[simp] theorem oddFrame_supply (t : Trunk) (b : Byte) : (s.oddFrame t b).supply = s.supply := by rw [oddFrame_frame]
@[simp] theorem oddFrame_directory (t : Trunk) (b : Byte) : (s.oddFrame t b).directory = s.directory := by rw [oddFrame_frame]
@[simp] theorem oddFrame_contexts (t : Trunk) (b : Byte) : (s.oddFrame t b).contexts = s.contexts := by rw [oddFrame_frame]
@[simp] theorem oddFrame_waiting (t : Trunk) (b : Byte) : (s.oddFrame t b).waiting = s.waiting := by rw [oddFrame_frame]
@[simp] theorem oddFrame_entryCount (t : Trunk) (b : Byte) : (s.oddFrame t b).entryCount = s.entryCount := by rw [oddFrame_frame]
@[simp] theorem oddFrame_routes (t : Trunk) (b : Byte) : (s.oddFrame t b).routes = s.routes := by rw [oddFrame_frame]
@[simp] theorem oddFrame_plan (t : Trunk) (b : Byte) : (s.oddFrame t b).plan = s.plan := by rw [oddFrame_frame]
@[simp] theorem oddFrame_paths (t : Trunk) (b : Byte) : (s.oddFrame t b).paths = s.paths := by rw [oddFrame_frame]
@[simp] theorem oddFrame_samples (t : Trunk) (b : Byte) : (s.oddFrame t b).samples = s.samples := by rw [oddFrame_frame]
@[simp] theorem oddFrame_segments (t : Trunk) (b : Byte) : (s.oddFrame t b).segments = s.segments := by rw [oddFrame_frame]
@[simp] theorem oddFrame_players (t : Trunk) (b : Byte) : (s.oddFrame t b).players = s.players := by rw [oddFrame_frame]
@[simp] theorem oddFrame_serviceA (t : Trunk) (b : Byte) : (s.oddFrame t b).serviceA = s.serviceA := by rw [oddFrame_frame]
@[simp] theorem oddFrame_serviceB (t : Trunk) (b : Byte) : (s.oddFrame t b).serviceB = s.serviceB := by rw [oddFrame_frame]
@[simp] theorem oddFrame_home (t : Trunk) (b : Byte) : (s.oddFrame t b).home = s.home := by rw [oddFrame_frame]
@[simp] theorem oddFrame_settings (t : Trunk) (b : Byte) : (s.oddFrame t b).settings = s.settings := by rw [oddFrame_frame]
@[simp] theorem oddFrame_sectionFault (t : Trunk) (b : Byte) : (s.oddFrame t b).sectionFault = s.sectionFault := by rw [oddFrame_frame]
@[simp] theorem oddFrame_trunkFaultA (t : Trunk) (b : Byte) : (s.oddFrame t b).trunkFaultA = s.trunkFaultA := by rw [oddFrame_frame]
@[simp] theorem oddFrame_trunkFaultB (t : Trunk) (b : Byte) : (s.oddFrame t b).trunkFaultB = s.trunkFaultB := by rw [oddFrame_frame]
@[simp] theorem oddFrame_loopFaults (t : Trunk) (b : Byte) : (s.oddFrame t b).loopFaults = s.loopFaults := by rw [oddFrame_frame]
@[simp] theorem oddFrame_postFaults (t : Trunk) (b : Byte) : (s.oddFrame t b).postFaults = s.postFaults := by rw [oddFrame_frame]
@[simp] theorem oddFrame_testResults (t : Trunk) (b : Byte) : (s.oddFrame t b).testResults = s.testResults := by rw [oddFrame_frame]
@[simp] theorem oddFrame_marks (t : Trunk) (b : Byte) : (s.oddFrame t b).marks = s.marks := by rw [oddFrame_frame]
@[simp] theorem oddFrame_abandons (t : Trunk) (b : Byte) : (s.oddFrame t b).abandons = s.abandons := by rw [oddFrame_frame]
@[simp] theorem oddFrame_abandonPosts (t : Trunk) (b : Byte) : (s.oddFrame t b).abandonPosts = s.abandonPosts := by rw [oddFrame_frame]
@[simp] theorem oddFrame_mask (t : Trunk) (b : Byte) : (s.oddFrame t b).mask = s.mask := by rw [oddFrame_frame]
@[simp] theorem oddFrame_loop (t : Trunk) (b : Byte) (j : LoopId) : (s.oddFrame t b).loop j = s.loop j := by simp [loop]
@[simp] theorem oddFrame_ring (t : Trunk) (b : Byte) (j : LoopId) : (s.oddFrame t b).ring j = s.ring j := by simp [ring]
@[simp] theorem oddFrame_feed (t : Trunk) (b : Byte) (j : LoopId) : (s.oddFrame t b).feed j = s.feed j := by simp [feed]
@[simp] theorem oddFrame_record (t : Trunk) (b : Byte) (j : SlotId) : (s.oddFrame t b).record j = s.record j := by simp [record]
@[simp] theorem oddFrame_ctx (t : Trunk) (b : Byte) (j : CtxId) : (s.oddFrame t b).ctx j = s.ctx j := by simp [ctx]
@[simp] theorem oddFrame_path (t : Trunk) (b : Byte) (j : CtxId) : (s.oddFrame t b).path j = s.path j := by simp [path]
@[simp] theorem oddFrame_player (t : Trunk) (b : Byte) (j : CtxId) : (s.oddFrame t b).player j = s.player j := by simp [player]
@[simp] theorem oddFrame_segment (t : Trunk) (b : Byte) (j : SegId) : (s.oddFrame t b).segment j = s.segment j := by simp [segment]
@[simp] theorem oddFrame_service (t : Trunk) (b : Byte) (j : Trunk) : (s.oddFrame t b).service j = s.service j := by cases j <;> simp [service]
@[simp] theorem oddFrame_param (t : Trunk) (b : Byte) (j : Fin 25) : (s.oddFrame t b).param j = s.param j := by simp [param]

/-! ### evenFrame -/

theorem evenFrame_frame (t : Trunk) (b : Byte) : s.evenFrame t b = { s with
    trunkA := (s.evenFrame t b).trunkA
    trunkB := (s.evenFrame t b).trunkB
    handed := (s.evenFrame t b).handed } := by
  apply State.ext <;> first | with_reducible rfl | (unfold evenFrame; dsimp only; (repeat' split) <;> simp)
@[simp] theorem evenFrame_pending (t : Trunk) (b : Byte) : (s.evenFrame t b).pending = s.pending := by rw [evenFrame_frame]
@[simp] theorem evenFrame_loops (t : Trunk) (b : Byte) : (s.evenFrame t b).loops = s.loops := by rw [evenFrame_frame]
@[simp] theorem evenFrame_rings (t : Trunk) (b : Byte) : (s.evenFrame t b).rings = s.rings := by rw [evenFrame_frame]
@[simp] theorem evenFrame_feeds (t : Trunk) (b : Byte) : (s.evenFrame t b).feeds = s.feeds := by rw [evenFrame_frame]
@[simp] theorem evenFrame_supply (t : Trunk) (b : Byte) : (s.evenFrame t b).supply = s.supply := by rw [evenFrame_frame]
@[simp] theorem evenFrame_directory (t : Trunk) (b : Byte) : (s.evenFrame t b).directory = s.directory := by rw [evenFrame_frame]
@[simp] theorem evenFrame_contexts (t : Trunk) (b : Byte) : (s.evenFrame t b).contexts = s.contexts := by rw [evenFrame_frame]
@[simp] theorem evenFrame_waiting (t : Trunk) (b : Byte) : (s.evenFrame t b).waiting = s.waiting := by rw [evenFrame_frame]
@[simp] theorem evenFrame_entryCount (t : Trunk) (b : Byte) : (s.evenFrame t b).entryCount = s.entryCount := by rw [evenFrame_frame]
@[simp] theorem evenFrame_routes (t : Trunk) (b : Byte) : (s.evenFrame t b).routes = s.routes := by rw [evenFrame_frame]
@[simp] theorem evenFrame_plan (t : Trunk) (b : Byte) : (s.evenFrame t b).plan = s.plan := by rw [evenFrame_frame]
@[simp] theorem evenFrame_paths (t : Trunk) (b : Byte) : (s.evenFrame t b).paths = s.paths := by rw [evenFrame_frame]
@[simp] theorem evenFrame_samples (t : Trunk) (b : Byte) : (s.evenFrame t b).samples = s.samples := by rw [evenFrame_frame]
@[simp] theorem evenFrame_segments (t : Trunk) (b : Byte) : (s.evenFrame t b).segments = s.segments := by rw [evenFrame_frame]
@[simp] theorem evenFrame_players (t : Trunk) (b : Byte) : (s.evenFrame t b).players = s.players := by rw [evenFrame_frame]
@[simp] theorem evenFrame_serviceA (t : Trunk) (b : Byte) : (s.evenFrame t b).serviceA = s.serviceA := by rw [evenFrame_frame]
@[simp] theorem evenFrame_serviceB (t : Trunk) (b : Byte) : (s.evenFrame t b).serviceB = s.serviceB := by rw [evenFrame_frame]
@[simp] theorem evenFrame_home (t : Trunk) (b : Byte) : (s.evenFrame t b).home = s.home := by rw [evenFrame_frame]
@[simp] theorem evenFrame_settings (t : Trunk) (b : Byte) : (s.evenFrame t b).settings = s.settings := by rw [evenFrame_frame]
@[simp] theorem evenFrame_sectionFault (t : Trunk) (b : Byte) : (s.evenFrame t b).sectionFault = s.sectionFault := by rw [evenFrame_frame]
@[simp] theorem evenFrame_trunkFaultA (t : Trunk) (b : Byte) : (s.evenFrame t b).trunkFaultA = s.trunkFaultA := by rw [evenFrame_frame]
@[simp] theorem evenFrame_trunkFaultB (t : Trunk) (b : Byte) : (s.evenFrame t b).trunkFaultB = s.trunkFaultB := by rw [evenFrame_frame]
@[simp] theorem evenFrame_loopFaults (t : Trunk) (b : Byte) : (s.evenFrame t b).loopFaults = s.loopFaults := by rw [evenFrame_frame]
@[simp] theorem evenFrame_postFaults (t : Trunk) (b : Byte) : (s.evenFrame t b).postFaults = s.postFaults := by rw [evenFrame_frame]
@[simp] theorem evenFrame_testResults (t : Trunk) (b : Byte) : (s.evenFrame t b).testResults = s.testResults := by rw [evenFrame_frame]
@[simp] theorem evenFrame_marks (t : Trunk) (b : Byte) : (s.evenFrame t b).marks = s.marks := by rw [evenFrame_frame]
@[simp] theorem evenFrame_abandons (t : Trunk) (b : Byte) : (s.evenFrame t b).abandons = s.abandons := by rw [evenFrame_frame]
@[simp] theorem evenFrame_abandonPosts (t : Trunk) (b : Byte) : (s.evenFrame t b).abandonPosts = s.abandonPosts := by rw [evenFrame_frame]
@[simp] theorem evenFrame_mask (t : Trunk) (b : Byte) : (s.evenFrame t b).mask = s.mask := by rw [evenFrame_frame]
@[simp] theorem evenFrame_loop (t : Trunk) (b : Byte) (j : LoopId) : (s.evenFrame t b).loop j = s.loop j := by simp [loop]
@[simp] theorem evenFrame_ring (t : Trunk) (b : Byte) (j : LoopId) : (s.evenFrame t b).ring j = s.ring j := by simp [ring]
@[simp] theorem evenFrame_feed (t : Trunk) (b : Byte) (j : LoopId) : (s.evenFrame t b).feed j = s.feed j := by simp [feed]
@[simp] theorem evenFrame_record (t : Trunk) (b : Byte) (j : SlotId) : (s.evenFrame t b).record j = s.record j := by simp [record]
@[simp] theorem evenFrame_ctx (t : Trunk) (b : Byte) (j : CtxId) : (s.evenFrame t b).ctx j = s.ctx j := by simp [ctx]
@[simp] theorem evenFrame_path (t : Trunk) (b : Byte) (j : CtxId) : (s.evenFrame t b).path j = s.path j := by simp [path]
@[simp] theorem evenFrame_player (t : Trunk) (b : Byte) (j : CtxId) : (s.evenFrame t b).player j = s.player j := by simp [player]
@[simp] theorem evenFrame_segment (t : Trunk) (b : Byte) (j : SegId) : (s.evenFrame t b).segment j = s.segment j := by simp [segment]
@[simp] theorem evenFrame_service (t : Trunk) (b : Byte) (j : Trunk) : (s.evenFrame t b).service j = s.service j := by cases j <;> simp [service]
@[simp] theorem evenFrame_param (t : Trunk) (b : Byte) (j : Fin 25) : (s.evenFrame t b).param j = s.param j := by simp [param]

/-! ### countSlip -/

theorem countSlip_frame (t : Trunk) : s.countSlip t = { s with
    trunkA := (s.countSlip t).trunkA
    trunkB := (s.countSlip t).trunkB
    handed := (s.countSlip t).handed } := by
  apply State.ext <;> first | with_reducible rfl | (unfold countSlip; dsimp only; (repeat' split) <;> simp)
@[simp] theorem countSlip_pending (t : Trunk) : (s.countSlip t).pending = s.pending := by rw [countSlip_frame]
@[simp] theorem countSlip_loops (t : Trunk) : (s.countSlip t).loops = s.loops := by rw [countSlip_frame]
@[simp] theorem countSlip_rings (t : Trunk) : (s.countSlip t).rings = s.rings := by rw [countSlip_frame]
@[simp] theorem countSlip_feeds (t : Trunk) : (s.countSlip t).feeds = s.feeds := by rw [countSlip_frame]
@[simp] theorem countSlip_supply (t : Trunk) : (s.countSlip t).supply = s.supply := by rw [countSlip_frame]
@[simp] theorem countSlip_directory (t : Trunk) : (s.countSlip t).directory = s.directory := by rw [countSlip_frame]
@[simp] theorem countSlip_contexts (t : Trunk) : (s.countSlip t).contexts = s.contexts := by rw [countSlip_frame]
@[simp] theorem countSlip_waiting (t : Trunk) : (s.countSlip t).waiting = s.waiting := by rw [countSlip_frame]
@[simp] theorem countSlip_entryCount (t : Trunk) : (s.countSlip t).entryCount = s.entryCount := by rw [countSlip_frame]
@[simp] theorem countSlip_routes (t : Trunk) : (s.countSlip t).routes = s.routes := by rw [countSlip_frame]
@[simp] theorem countSlip_plan (t : Trunk) : (s.countSlip t).plan = s.plan := by rw [countSlip_frame]
@[simp] theorem countSlip_paths (t : Trunk) : (s.countSlip t).paths = s.paths := by rw [countSlip_frame]
@[simp] theorem countSlip_samples (t : Trunk) : (s.countSlip t).samples = s.samples := by rw [countSlip_frame]
@[simp] theorem countSlip_segments (t : Trunk) : (s.countSlip t).segments = s.segments := by rw [countSlip_frame]
@[simp] theorem countSlip_players (t : Trunk) : (s.countSlip t).players = s.players := by rw [countSlip_frame]
@[simp] theorem countSlip_serviceA (t : Trunk) : (s.countSlip t).serviceA = s.serviceA := by rw [countSlip_frame]
@[simp] theorem countSlip_serviceB (t : Trunk) : (s.countSlip t).serviceB = s.serviceB := by rw [countSlip_frame]
@[simp] theorem countSlip_home (t : Trunk) : (s.countSlip t).home = s.home := by rw [countSlip_frame]
@[simp] theorem countSlip_settings (t : Trunk) : (s.countSlip t).settings = s.settings := by rw [countSlip_frame]
@[simp] theorem countSlip_sectionFault (t : Trunk) : (s.countSlip t).sectionFault = s.sectionFault := by rw [countSlip_frame]
@[simp] theorem countSlip_trunkFaultA (t : Trunk) : (s.countSlip t).trunkFaultA = s.trunkFaultA := by rw [countSlip_frame]
@[simp] theorem countSlip_trunkFaultB (t : Trunk) : (s.countSlip t).trunkFaultB = s.trunkFaultB := by rw [countSlip_frame]
@[simp] theorem countSlip_loopFaults (t : Trunk) : (s.countSlip t).loopFaults = s.loopFaults := by rw [countSlip_frame]
@[simp] theorem countSlip_postFaults (t : Trunk) : (s.countSlip t).postFaults = s.postFaults := by rw [countSlip_frame]
@[simp] theorem countSlip_testResults (t : Trunk) : (s.countSlip t).testResults = s.testResults := by rw [countSlip_frame]
@[simp] theorem countSlip_marks (t : Trunk) : (s.countSlip t).marks = s.marks := by rw [countSlip_frame]
@[simp] theorem countSlip_abandons (t : Trunk) : (s.countSlip t).abandons = s.abandons := by rw [countSlip_frame]
@[simp] theorem countSlip_abandonPosts (t : Trunk) : (s.countSlip t).abandonPosts = s.abandonPosts := by rw [countSlip_frame]
@[simp] theorem countSlip_mask (t : Trunk) : (s.countSlip t).mask = s.mask := by rw [countSlip_frame]
@[simp] theorem countSlip_loop (t : Trunk) (j : LoopId) : (s.countSlip t).loop j = s.loop j := by simp [loop]
@[simp] theorem countSlip_ring (t : Trunk) (j : LoopId) : (s.countSlip t).ring j = s.ring j := by simp [ring]
@[simp] theorem countSlip_feed (t : Trunk) (j : LoopId) : (s.countSlip t).feed j = s.feed j := by simp [feed]
@[simp] theorem countSlip_record (t : Trunk) (j : SlotId) : (s.countSlip t).record j = s.record j := by simp [record]
@[simp] theorem countSlip_ctx (t : Trunk) (j : CtxId) : (s.countSlip t).ctx j = s.ctx j := by simp [ctx]
@[simp] theorem countSlip_path (t : Trunk) (j : CtxId) : (s.countSlip t).path j = s.path j := by simp [path]
@[simp] theorem countSlip_player (t : Trunk) (j : CtxId) : (s.countSlip t).player j = s.player j := by simp [player]
@[simp] theorem countSlip_segment (t : Trunk) (j : SegId) : (s.countSlip t).segment j = s.segment j := by simp [segment]
@[simp] theorem countSlip_service (t : Trunk) (j : Trunk) : (s.countSlip t).service j = s.service j := by cases j <;> simp [service]
@[simp] theorem countSlip_param (t : Trunk) (j : Fin 25) : (s.countSlip t).param j = s.param j := by simp [param]

/-! ### writeStore -/

theorem writeStore_frame (t : Trunk) (slots : List Byte) : s.writeStore t slots = { s with
    trunkA := (s.writeStore t slots).trunkA
    trunkB := (s.writeStore t slots).trunkB
    handed := (s.writeStore t slots).handed } := by
  apply State.ext <;> first | with_reducible rfl | (unfold writeStore; dsimp only; (repeat' split) <;> simp)
@[simp] theorem writeStore_pending (t : Trunk) (slots : List Byte) : (s.writeStore t slots).pending = s.pending := by rw [writeStore_frame]
@[simp] theorem writeStore_loops (t : Trunk) (slots : List Byte) : (s.writeStore t slots).loops = s.loops := by rw [writeStore_frame]
@[simp] theorem writeStore_rings (t : Trunk) (slots : List Byte) : (s.writeStore t slots).rings = s.rings := by rw [writeStore_frame]
@[simp] theorem writeStore_feeds (t : Trunk) (slots : List Byte) : (s.writeStore t slots).feeds = s.feeds := by rw [writeStore_frame]
@[simp] theorem writeStore_supply (t : Trunk) (slots : List Byte) : (s.writeStore t slots).supply = s.supply := by rw [writeStore_frame]
@[simp] theorem writeStore_directory (t : Trunk) (slots : List Byte) : (s.writeStore t slots).directory = s.directory := by rw [writeStore_frame]
@[simp] theorem writeStore_contexts (t : Trunk) (slots : List Byte) : (s.writeStore t slots).contexts = s.contexts := by rw [writeStore_frame]
@[simp] theorem writeStore_waiting (t : Trunk) (slots : List Byte) : (s.writeStore t slots).waiting = s.waiting := by rw [writeStore_frame]
@[simp] theorem writeStore_entryCount (t : Trunk) (slots : List Byte) : (s.writeStore t slots).entryCount = s.entryCount := by rw [writeStore_frame]
@[simp] theorem writeStore_routes (t : Trunk) (slots : List Byte) : (s.writeStore t slots).routes = s.routes := by rw [writeStore_frame]
@[simp] theorem writeStore_plan (t : Trunk) (slots : List Byte) : (s.writeStore t slots).plan = s.plan := by rw [writeStore_frame]
@[simp] theorem writeStore_paths (t : Trunk) (slots : List Byte) : (s.writeStore t slots).paths = s.paths := by rw [writeStore_frame]
@[simp] theorem writeStore_samples (t : Trunk) (slots : List Byte) : (s.writeStore t slots).samples = s.samples := by rw [writeStore_frame]
@[simp] theorem writeStore_segments (t : Trunk) (slots : List Byte) : (s.writeStore t slots).segments = s.segments := by rw [writeStore_frame]
@[simp] theorem writeStore_players (t : Trunk) (slots : List Byte) : (s.writeStore t slots).players = s.players := by rw [writeStore_frame]
@[simp] theorem writeStore_serviceA (t : Trunk) (slots : List Byte) : (s.writeStore t slots).serviceA = s.serviceA := by rw [writeStore_frame]
@[simp] theorem writeStore_serviceB (t : Trunk) (slots : List Byte) : (s.writeStore t slots).serviceB = s.serviceB := by rw [writeStore_frame]
@[simp] theorem writeStore_home (t : Trunk) (slots : List Byte) : (s.writeStore t slots).home = s.home := by rw [writeStore_frame]
@[simp] theorem writeStore_settings (t : Trunk) (slots : List Byte) : (s.writeStore t slots).settings = s.settings := by rw [writeStore_frame]
@[simp] theorem writeStore_sectionFault (t : Trunk) (slots : List Byte) : (s.writeStore t slots).sectionFault = s.sectionFault := by rw [writeStore_frame]
@[simp] theorem writeStore_trunkFaultA (t : Trunk) (slots : List Byte) : (s.writeStore t slots).trunkFaultA = s.trunkFaultA := by rw [writeStore_frame]
@[simp] theorem writeStore_trunkFaultB (t : Trunk) (slots : List Byte) : (s.writeStore t slots).trunkFaultB = s.trunkFaultB := by rw [writeStore_frame]
@[simp] theorem writeStore_loopFaults (t : Trunk) (slots : List Byte) : (s.writeStore t slots).loopFaults = s.loopFaults := by rw [writeStore_frame]
@[simp] theorem writeStore_postFaults (t : Trunk) (slots : List Byte) : (s.writeStore t slots).postFaults = s.postFaults := by rw [writeStore_frame]
@[simp] theorem writeStore_testResults (t : Trunk) (slots : List Byte) : (s.writeStore t slots).testResults = s.testResults := by rw [writeStore_frame]
@[simp] theorem writeStore_marks (t : Trunk) (slots : List Byte) : (s.writeStore t slots).marks = s.marks := by rw [writeStore_frame]
@[simp] theorem writeStore_abandons (t : Trunk) (slots : List Byte) : (s.writeStore t slots).abandons = s.abandons := by rw [writeStore_frame]
@[simp] theorem writeStore_abandonPosts (t : Trunk) (slots : List Byte) : (s.writeStore t slots).abandonPosts = s.abandonPosts := by rw [writeStore_frame]
@[simp] theorem writeStore_mask (t : Trunk) (slots : List Byte) : (s.writeStore t slots).mask = s.mask := by rw [writeStore_frame]
@[simp] theorem writeStore_loop (t : Trunk) (slots : List Byte) (j : LoopId) : (s.writeStore t slots).loop j = s.loop j := by simp [loop]
@[simp] theorem writeStore_ring (t : Trunk) (slots : List Byte) (j : LoopId) : (s.writeStore t slots).ring j = s.ring j := by simp [ring]
@[simp] theorem writeStore_feed (t : Trunk) (slots : List Byte) (j : LoopId) : (s.writeStore t slots).feed j = s.feed j := by simp [feed]
@[simp] theorem writeStore_record (t : Trunk) (slots : List Byte) (j : SlotId) : (s.writeStore t slots).record j = s.record j := by simp [record]
@[simp] theorem writeStore_ctx (t : Trunk) (slots : List Byte) (j : CtxId) : (s.writeStore t slots).ctx j = s.ctx j := by simp [ctx]
@[simp] theorem writeStore_path (t : Trunk) (slots : List Byte) (j : CtxId) : (s.writeStore t slots).path j = s.path j := by simp [path]
@[simp] theorem writeStore_player (t : Trunk) (slots : List Byte) (j : CtxId) : (s.writeStore t slots).player j = s.player j := by simp [player]
@[simp] theorem writeStore_segment (t : Trunk) (slots : List Byte) (j : SegId) : (s.writeStore t slots).segment j = s.segment j := by simp [segment]
@[simp] theorem writeStore_service (t : Trunk) (slots : List Byte) (j : Trunk) : (s.writeStore t slots).service j = s.service j := by cases j <;> simp [service]
@[simp] theorem writeStore_param (t : Trunk) (slots : List Byte) (j : Fin 25) : (s.writeStore t slots).param j = s.param j := by simp [param]

/-! ### readStore -/

theorem readStore_frame (t : Trunk) : (s.readStore t).1 = { s with
    trunkA := ((s.readStore t).1).trunkA
    trunkB := ((s.readStore t).1).trunkB
    handed := ((s.readStore t).1).handed } := by
  apply State.ext <;> first | with_reducible rfl | (unfold readStore; dsimp only; (repeat' split) <;> simp)
@[simp] theorem readStore_pending (t : Trunk) : ((s.readStore t).1).pending = s.pending := by rw [readStore_frame]
@[simp] theorem readStore_loops (t : Trunk) : ((s.readStore t).1).loops = s.loops := by rw [readStore_frame]
@[simp] theorem readStore_rings (t : Trunk) : ((s.readStore t).1).rings = s.rings := by rw [readStore_frame]
@[simp] theorem readStore_feeds (t : Trunk) : ((s.readStore t).1).feeds = s.feeds := by rw [readStore_frame]
@[simp] theorem readStore_supply (t : Trunk) : ((s.readStore t).1).supply = s.supply := by rw [readStore_frame]
@[simp] theorem readStore_directory (t : Trunk) : ((s.readStore t).1).directory = s.directory := by rw [readStore_frame]
@[simp] theorem readStore_contexts (t : Trunk) : ((s.readStore t).1).contexts = s.contexts := by rw [readStore_frame]
@[simp] theorem readStore_waiting (t : Trunk) : ((s.readStore t).1).waiting = s.waiting := by rw [readStore_frame]
@[simp] theorem readStore_entryCount (t : Trunk) : ((s.readStore t).1).entryCount = s.entryCount := by rw [readStore_frame]
@[simp] theorem readStore_routes (t : Trunk) : ((s.readStore t).1).routes = s.routes := by rw [readStore_frame]
@[simp] theorem readStore_plan (t : Trunk) : ((s.readStore t).1).plan = s.plan := by rw [readStore_frame]
@[simp] theorem readStore_paths (t : Trunk) : ((s.readStore t).1).paths = s.paths := by rw [readStore_frame]
@[simp] theorem readStore_samples (t : Trunk) : ((s.readStore t).1).samples = s.samples := by rw [readStore_frame]
@[simp] theorem readStore_segments (t : Trunk) : ((s.readStore t).1).segments = s.segments := by rw [readStore_frame]
@[simp] theorem readStore_players (t : Trunk) : ((s.readStore t).1).players = s.players := by rw [readStore_frame]
@[simp] theorem readStore_serviceA (t : Trunk) : ((s.readStore t).1).serviceA = s.serviceA := by rw [readStore_frame]
@[simp] theorem readStore_serviceB (t : Trunk) : ((s.readStore t).1).serviceB = s.serviceB := by rw [readStore_frame]
@[simp] theorem readStore_home (t : Trunk) : ((s.readStore t).1).home = s.home := by rw [readStore_frame]
@[simp] theorem readStore_settings (t : Trunk) : ((s.readStore t).1).settings = s.settings := by rw [readStore_frame]
@[simp] theorem readStore_sectionFault (t : Trunk) : ((s.readStore t).1).sectionFault = s.sectionFault := by rw [readStore_frame]
@[simp] theorem readStore_trunkFaultA (t : Trunk) : ((s.readStore t).1).trunkFaultA = s.trunkFaultA := by rw [readStore_frame]
@[simp] theorem readStore_trunkFaultB (t : Trunk) : ((s.readStore t).1).trunkFaultB = s.trunkFaultB := by rw [readStore_frame]
@[simp] theorem readStore_loopFaults (t : Trunk) : ((s.readStore t).1).loopFaults = s.loopFaults := by rw [readStore_frame]
@[simp] theorem readStore_postFaults (t : Trunk) : ((s.readStore t).1).postFaults = s.postFaults := by rw [readStore_frame]
@[simp] theorem readStore_testResults (t : Trunk) : ((s.readStore t).1).testResults = s.testResults := by rw [readStore_frame]
@[simp] theorem readStore_marks (t : Trunk) : ((s.readStore t).1).marks = s.marks := by rw [readStore_frame]
@[simp] theorem readStore_abandons (t : Trunk) : ((s.readStore t).1).abandons = s.abandons := by rw [readStore_frame]
@[simp] theorem readStore_abandonPosts (t : Trunk) : ((s.readStore t).1).abandonPosts = s.abandonPosts := by rw [readStore_frame]
@[simp] theorem readStore_mask (t : Trunk) : ((s.readStore t).1).mask = s.mask := by rw [readStore_frame]
@[simp] theorem readStore_loop (t : Trunk) (j : LoopId) : ((s.readStore t).1).loop j = s.loop j := by simp [loop]
@[simp] theorem readStore_ring (t : Trunk) (j : LoopId) : ((s.readStore t).1).ring j = s.ring j := by simp [ring]
@[simp] theorem readStore_feed (t : Trunk) (j : LoopId) : ((s.readStore t).1).feed j = s.feed j := by simp [feed]
@[simp] theorem readStore_record (t : Trunk) (j : SlotId) : ((s.readStore t).1).record j = s.record j := by simp [record]
@[simp] theorem readStore_ctx (t : Trunk) (j : CtxId) : ((s.readStore t).1).ctx j = s.ctx j := by simp [ctx]
@[simp] theorem readStore_path (t : Trunk) (j : CtxId) : ((s.readStore t).1).path j = s.path j := by simp [path]
@[simp] theorem readStore_player (t : Trunk) (j : CtxId) : ((s.readStore t).1).player j = s.player j := by simp [player]
@[simp] theorem readStore_segment (t : Trunk) (j : SegId) : ((s.readStore t).1).segment j = s.segment j := by simp [segment]
@[simp] theorem readStore_service (t : Trunk) (j : Trunk) : ((s.readStore t).1).service j = s.service j := by cases j <;> simp [service]
@[simp] theorem readStore_param (t : Trunk) (j : Fin 25) : ((s.readStore t).1).param j = s.param j := by simp [param]

/-! ### gainAlignment -/

theorem gainAlignment_frame (t : Trunk) (hk : Byte) : s.gainAlignment t hk = { s with
    trunkA := (s.gainAlignment t hk).trunkA
    trunkB := (s.gainAlignment t hk).trunkB
    handed := (s.gainAlignment t hk).handed } := by
  apply State.ext <;> first | with_reducible rfl | (simp [gainAlignment])
@[simp] theorem gainAlignment_pending (t : Trunk) (hk : Byte) : (s.gainAlignment t hk).pending = s.pending := by rw [gainAlignment_frame]
@[simp] theorem gainAlignment_loops (t : Trunk) (hk : Byte) : (s.gainAlignment t hk).loops = s.loops := by rw [gainAlignment_frame]
@[simp] theorem gainAlignment_rings (t : Trunk) (hk : Byte) : (s.gainAlignment t hk).rings = s.rings := by rw [gainAlignment_frame]
@[simp] theorem gainAlignment_feeds (t : Trunk) (hk : Byte) : (s.gainAlignment t hk).feeds = s.feeds := by rw [gainAlignment_frame]
@[simp] theorem gainAlignment_supply (t : Trunk) (hk : Byte) : (s.gainAlignment t hk).supply = s.supply := by rw [gainAlignment_frame]
@[simp] theorem gainAlignment_directory (t : Trunk) (hk : Byte) : (s.gainAlignment t hk).directory = s.directory := by rw [gainAlignment_frame]
@[simp] theorem gainAlignment_contexts (t : Trunk) (hk : Byte) : (s.gainAlignment t hk).contexts = s.contexts := by rw [gainAlignment_frame]
@[simp] theorem gainAlignment_waiting (t : Trunk) (hk : Byte) : (s.gainAlignment t hk).waiting = s.waiting := by rw [gainAlignment_frame]
@[simp] theorem gainAlignment_entryCount (t : Trunk) (hk : Byte) : (s.gainAlignment t hk).entryCount = s.entryCount := by rw [gainAlignment_frame]
@[simp] theorem gainAlignment_routes (t : Trunk) (hk : Byte) : (s.gainAlignment t hk).routes = s.routes := by rw [gainAlignment_frame]
@[simp] theorem gainAlignment_plan (t : Trunk) (hk : Byte) : (s.gainAlignment t hk).plan = s.plan := by rw [gainAlignment_frame]
@[simp] theorem gainAlignment_paths (t : Trunk) (hk : Byte) : (s.gainAlignment t hk).paths = s.paths := by rw [gainAlignment_frame]
@[simp] theorem gainAlignment_samples (t : Trunk) (hk : Byte) : (s.gainAlignment t hk).samples = s.samples := by rw [gainAlignment_frame]
@[simp] theorem gainAlignment_segments (t : Trunk) (hk : Byte) : (s.gainAlignment t hk).segments = s.segments := by rw [gainAlignment_frame]
@[simp] theorem gainAlignment_players (t : Trunk) (hk : Byte) : (s.gainAlignment t hk).players = s.players := by rw [gainAlignment_frame]
@[simp] theorem gainAlignment_serviceA (t : Trunk) (hk : Byte) : (s.gainAlignment t hk).serviceA = s.serviceA := by rw [gainAlignment_frame]
@[simp] theorem gainAlignment_serviceB (t : Trunk) (hk : Byte) : (s.gainAlignment t hk).serviceB = s.serviceB := by rw [gainAlignment_frame]
@[simp] theorem gainAlignment_home (t : Trunk) (hk : Byte) : (s.gainAlignment t hk).home = s.home := by rw [gainAlignment_frame]
@[simp] theorem gainAlignment_settings (t : Trunk) (hk : Byte) : (s.gainAlignment t hk).settings = s.settings := by rw [gainAlignment_frame]
@[simp] theorem gainAlignment_sectionFault (t : Trunk) (hk : Byte) : (s.gainAlignment t hk).sectionFault = s.sectionFault := by rw [gainAlignment_frame]
@[simp] theorem gainAlignment_trunkFaultA (t : Trunk) (hk : Byte) : (s.gainAlignment t hk).trunkFaultA = s.trunkFaultA := by rw [gainAlignment_frame]
@[simp] theorem gainAlignment_trunkFaultB (t : Trunk) (hk : Byte) : (s.gainAlignment t hk).trunkFaultB = s.trunkFaultB := by rw [gainAlignment_frame]
@[simp] theorem gainAlignment_loopFaults (t : Trunk) (hk : Byte) : (s.gainAlignment t hk).loopFaults = s.loopFaults := by rw [gainAlignment_frame]
@[simp] theorem gainAlignment_postFaults (t : Trunk) (hk : Byte) : (s.gainAlignment t hk).postFaults = s.postFaults := by rw [gainAlignment_frame]
@[simp] theorem gainAlignment_testResults (t : Trunk) (hk : Byte) : (s.gainAlignment t hk).testResults = s.testResults := by rw [gainAlignment_frame]
@[simp] theorem gainAlignment_marks (t : Trunk) (hk : Byte) : (s.gainAlignment t hk).marks = s.marks := by rw [gainAlignment_frame]
@[simp] theorem gainAlignment_abandons (t : Trunk) (hk : Byte) : (s.gainAlignment t hk).abandons = s.abandons := by rw [gainAlignment_frame]
@[simp] theorem gainAlignment_abandonPosts (t : Trunk) (hk : Byte) : (s.gainAlignment t hk).abandonPosts = s.abandonPosts := by rw [gainAlignment_frame]
@[simp] theorem gainAlignment_mask (t : Trunk) (hk : Byte) : (s.gainAlignment t hk).mask = s.mask := by rw [gainAlignment_frame]
@[simp] theorem gainAlignment_loop (t : Trunk) (hk : Byte) (j : LoopId) : (s.gainAlignment t hk).loop j = s.loop j := by simp [loop]
@[simp] theorem gainAlignment_ring (t : Trunk) (hk : Byte) (j : LoopId) : (s.gainAlignment t hk).ring j = s.ring j := by simp [ring]
@[simp] theorem gainAlignment_feed (t : Trunk) (hk : Byte) (j : LoopId) : (s.gainAlignment t hk).feed j = s.feed j := by simp [feed]
@[simp] theorem gainAlignment_record (t : Trunk) (hk : Byte) (j : SlotId) : (s.gainAlignment t hk).record j = s.record j := by simp [record]
@[simp] theorem gainAlignment_ctx (t : Trunk) (hk : Byte) (j : CtxId) : (s.gainAlignment t hk).ctx j = s.ctx j := by simp [ctx]
@[simp] theorem gainAlignment_path (t : Trunk) (hk : Byte) (j : CtxId) : (s.gainAlignment t hk).path j = s.path j := by simp [path]
@[simp] theorem gainAlignment_player (t : Trunk) (hk : Byte) (j : CtxId) : (s.gainAlignment t hk).player j = s.player j := by simp [player]
@[simp] theorem gainAlignment_segment (t : Trunk) (hk : Byte) (j : SegId) : (s.gainAlignment t hk).segment j = s.segment j := by simp [segment]
@[simp] theorem gainAlignment_service (t : Trunk) (hk : Byte) (j : Trunk) : (s.gainAlignment t hk).service j = s.service j := by cases j <;> simp [service]
@[simp] theorem gainAlignment_param (t : Trunk) (hk : Byte) (j : Fin 25) : (s.gainAlignment t hk).param j = s.param j := by simp [param]

/-! ### catchTrunk -/

theorem catchTrunk_frame (t : Trunk) : s.catchTrunk t = { s with
    trunkA := (s.catchTrunk t).trunkA
    trunkB := (s.catchTrunk t).trunkB
    serviceA := (s.catchTrunk t).serviceA
    serviceB := (s.catchTrunk t).serviceB
    handed := (s.catchTrunk t).handed } := by
  apply State.ext <;> first | with_reducible rfl | (unfold catchTrunk; dsimp only; (repeat' split) <;> simp)
@[simp] theorem catchTrunk_pending (t : Trunk) : (s.catchTrunk t).pending = s.pending := by rw [catchTrunk_frame]
@[simp] theorem catchTrunk_loops (t : Trunk) : (s.catchTrunk t).loops = s.loops := by rw [catchTrunk_frame]
@[simp] theorem catchTrunk_rings (t : Trunk) : (s.catchTrunk t).rings = s.rings := by rw [catchTrunk_frame]
@[simp] theorem catchTrunk_feeds (t : Trunk) : (s.catchTrunk t).feeds = s.feeds := by rw [catchTrunk_frame]
@[simp] theorem catchTrunk_supply (t : Trunk) : (s.catchTrunk t).supply = s.supply := by rw [catchTrunk_frame]
@[simp] theorem catchTrunk_directory (t : Trunk) : (s.catchTrunk t).directory = s.directory := by rw [catchTrunk_frame]
@[simp] theorem catchTrunk_contexts (t : Trunk) : (s.catchTrunk t).contexts = s.contexts := by rw [catchTrunk_frame]
@[simp] theorem catchTrunk_waiting (t : Trunk) : (s.catchTrunk t).waiting = s.waiting := by rw [catchTrunk_frame]
@[simp] theorem catchTrunk_entryCount (t : Trunk) : (s.catchTrunk t).entryCount = s.entryCount := by rw [catchTrunk_frame]
@[simp] theorem catchTrunk_routes (t : Trunk) : (s.catchTrunk t).routes = s.routes := by rw [catchTrunk_frame]
@[simp] theorem catchTrunk_plan (t : Trunk) : (s.catchTrunk t).plan = s.plan := by rw [catchTrunk_frame]
@[simp] theorem catchTrunk_paths (t : Trunk) : (s.catchTrunk t).paths = s.paths := by rw [catchTrunk_frame]
@[simp] theorem catchTrunk_samples (t : Trunk) : (s.catchTrunk t).samples = s.samples := by rw [catchTrunk_frame]
@[simp] theorem catchTrunk_segments (t : Trunk) : (s.catchTrunk t).segments = s.segments := by rw [catchTrunk_frame]
@[simp] theorem catchTrunk_players (t : Trunk) : (s.catchTrunk t).players = s.players := by rw [catchTrunk_frame]
@[simp] theorem catchTrunk_home (t : Trunk) : (s.catchTrunk t).home = s.home := by rw [catchTrunk_frame]
@[simp] theorem catchTrunk_settings (t : Trunk) : (s.catchTrunk t).settings = s.settings := by rw [catchTrunk_frame]
@[simp] theorem catchTrunk_sectionFault (t : Trunk) : (s.catchTrunk t).sectionFault = s.sectionFault := by rw [catchTrunk_frame]
@[simp] theorem catchTrunk_trunkFaultA (t : Trunk) : (s.catchTrunk t).trunkFaultA = s.trunkFaultA := by rw [catchTrunk_frame]
@[simp] theorem catchTrunk_trunkFaultB (t : Trunk) : (s.catchTrunk t).trunkFaultB = s.trunkFaultB := by rw [catchTrunk_frame]
@[simp] theorem catchTrunk_loopFaults (t : Trunk) : (s.catchTrunk t).loopFaults = s.loopFaults := by rw [catchTrunk_frame]
@[simp] theorem catchTrunk_postFaults (t : Trunk) : (s.catchTrunk t).postFaults = s.postFaults := by rw [catchTrunk_frame]
@[simp] theorem catchTrunk_testResults (t : Trunk) : (s.catchTrunk t).testResults = s.testResults := by rw [catchTrunk_frame]
@[simp] theorem catchTrunk_marks (t : Trunk) : (s.catchTrunk t).marks = s.marks := by rw [catchTrunk_frame]
@[simp] theorem catchTrunk_abandons (t : Trunk) : (s.catchTrunk t).abandons = s.abandons := by rw [catchTrunk_frame]
@[simp] theorem catchTrunk_abandonPosts (t : Trunk) : (s.catchTrunk t).abandonPosts = s.abandonPosts := by rw [catchTrunk_frame]
@[simp] theorem catchTrunk_mask (t : Trunk) : (s.catchTrunk t).mask = s.mask := by rw [catchTrunk_frame]
@[simp] theorem catchTrunk_loop (t : Trunk) (j : LoopId) : (s.catchTrunk t).loop j = s.loop j := by simp [loop]
@[simp] theorem catchTrunk_ring (t : Trunk) (j : LoopId) : (s.catchTrunk t).ring j = s.ring j := by simp [ring]
@[simp] theorem catchTrunk_feed (t : Trunk) (j : LoopId) : (s.catchTrunk t).feed j = s.feed j := by simp [feed]
@[simp] theorem catchTrunk_record (t : Trunk) (j : SlotId) : (s.catchTrunk t).record j = s.record j := by simp [record]
@[simp] theorem catchTrunk_ctx (t : Trunk) (j : CtxId) : (s.catchTrunk t).ctx j = s.ctx j := by simp [ctx]
@[simp] theorem catchTrunk_path (t : Trunk) (j : CtxId) : (s.catchTrunk t).path j = s.path j := by simp [path]
@[simp] theorem catchTrunk_player (t : Trunk) (j : CtxId) : (s.catchTrunk t).player j = s.player j := by simp [player]
@[simp] theorem catchTrunk_segment (t : Trunk) (j : SegId) : (s.catchTrunk t).segment j = s.segment j := by simp [segment]
@[simp] theorem catchTrunk_param (t : Trunk) (j : Fin 25) : (s.catchTrunk t).param j = s.param j := by simp [param]

/-! ### alignedFrame -/

theorem alignedFrame_frame (t : Trunk) (frame : List Byte) : s.alignedFrame t frame = { s with
    trunkA := (s.alignedFrame t frame).trunkA
    trunkB := (s.alignedFrame t frame).trunkB
    handed := (s.alignedFrame t frame).handed } := by
  apply State.ext <;> first | with_reducible rfl | (unfold alignedFrame; dsimp only; (repeat' split) <;> simp)
@[simp] theorem alignedFrame_pending (t : Trunk) (frame : List Byte) : (s.alignedFrame t frame).pending = s.pending := by rw [alignedFrame_frame]
@[simp] theorem alignedFrame_loops (t : Trunk) (frame : List Byte) : (s.alignedFrame t frame).loops = s.loops := by rw [alignedFrame_frame]
@[simp] theorem alignedFrame_rings (t : Trunk) (frame : List Byte) : (s.alignedFrame t frame).rings = s.rings := by rw [alignedFrame_frame]
@[simp] theorem alignedFrame_feeds (t : Trunk) (frame : List Byte) : (s.alignedFrame t frame).feeds = s.feeds := by rw [alignedFrame_frame]
@[simp] theorem alignedFrame_supply (t : Trunk) (frame : List Byte) : (s.alignedFrame t frame).supply = s.supply := by rw [alignedFrame_frame]
@[simp] theorem alignedFrame_directory (t : Trunk) (frame : List Byte) : (s.alignedFrame t frame).directory = s.directory := by rw [alignedFrame_frame]
@[simp] theorem alignedFrame_contexts (t : Trunk) (frame : List Byte) : (s.alignedFrame t frame).contexts = s.contexts := by rw [alignedFrame_frame]
@[simp] theorem alignedFrame_waiting (t : Trunk) (frame : List Byte) : (s.alignedFrame t frame).waiting = s.waiting := by rw [alignedFrame_frame]
@[simp] theorem alignedFrame_entryCount (t : Trunk) (frame : List Byte) : (s.alignedFrame t frame).entryCount = s.entryCount := by rw [alignedFrame_frame]
@[simp] theorem alignedFrame_routes (t : Trunk) (frame : List Byte) : (s.alignedFrame t frame).routes = s.routes := by rw [alignedFrame_frame]
@[simp] theorem alignedFrame_plan (t : Trunk) (frame : List Byte) : (s.alignedFrame t frame).plan = s.plan := by rw [alignedFrame_frame]
@[simp] theorem alignedFrame_paths (t : Trunk) (frame : List Byte) : (s.alignedFrame t frame).paths = s.paths := by rw [alignedFrame_frame]
@[simp] theorem alignedFrame_samples (t : Trunk) (frame : List Byte) : (s.alignedFrame t frame).samples = s.samples := by rw [alignedFrame_frame]
@[simp] theorem alignedFrame_segments (t : Trunk) (frame : List Byte) : (s.alignedFrame t frame).segments = s.segments := by rw [alignedFrame_frame]
@[simp] theorem alignedFrame_players (t : Trunk) (frame : List Byte) : (s.alignedFrame t frame).players = s.players := by rw [alignedFrame_frame]
@[simp] theorem alignedFrame_serviceA (t : Trunk) (frame : List Byte) : (s.alignedFrame t frame).serviceA = s.serviceA := by rw [alignedFrame_frame]
@[simp] theorem alignedFrame_serviceB (t : Trunk) (frame : List Byte) : (s.alignedFrame t frame).serviceB = s.serviceB := by rw [alignedFrame_frame]
@[simp] theorem alignedFrame_home (t : Trunk) (frame : List Byte) : (s.alignedFrame t frame).home = s.home := by rw [alignedFrame_frame]
@[simp] theorem alignedFrame_settings (t : Trunk) (frame : List Byte) : (s.alignedFrame t frame).settings = s.settings := by rw [alignedFrame_frame]
@[simp] theorem alignedFrame_sectionFault (t : Trunk) (frame : List Byte) : (s.alignedFrame t frame).sectionFault = s.sectionFault := by rw [alignedFrame_frame]
@[simp] theorem alignedFrame_trunkFaultA (t : Trunk) (frame : List Byte) : (s.alignedFrame t frame).trunkFaultA = s.trunkFaultA := by rw [alignedFrame_frame]
@[simp] theorem alignedFrame_trunkFaultB (t : Trunk) (frame : List Byte) : (s.alignedFrame t frame).trunkFaultB = s.trunkFaultB := by rw [alignedFrame_frame]
@[simp] theorem alignedFrame_loopFaults (t : Trunk) (frame : List Byte) : (s.alignedFrame t frame).loopFaults = s.loopFaults := by rw [alignedFrame_frame]
@[simp] theorem alignedFrame_postFaults (t : Trunk) (frame : List Byte) : (s.alignedFrame t frame).postFaults = s.postFaults := by rw [alignedFrame_frame]
@[simp] theorem alignedFrame_testResults (t : Trunk) (frame : List Byte) : (s.alignedFrame t frame).testResults = s.testResults := by rw [alignedFrame_frame]
@[simp] theorem alignedFrame_marks (t : Trunk) (frame : List Byte) : (s.alignedFrame t frame).marks = s.marks := by rw [alignedFrame_frame]
@[simp] theorem alignedFrame_abandons (t : Trunk) (frame : List Byte) : (s.alignedFrame t frame).abandons = s.abandons := by rw [alignedFrame_frame]
@[simp] theorem alignedFrame_abandonPosts (t : Trunk) (frame : List Byte) : (s.alignedFrame t frame).abandonPosts = s.abandonPosts := by rw [alignedFrame_frame]
@[simp] theorem alignedFrame_mask (t : Trunk) (frame : List Byte) : (s.alignedFrame t frame).mask = s.mask := by rw [alignedFrame_frame]
@[simp] theorem alignedFrame_loop (t : Trunk) (frame : List Byte) (j : LoopId) : (s.alignedFrame t frame).loop j = s.loop j := by simp [loop]
@[simp] theorem alignedFrame_ring (t : Trunk) (frame : List Byte) (j : LoopId) : (s.alignedFrame t frame).ring j = s.ring j := by simp [ring]
@[simp] theorem alignedFrame_feed (t : Trunk) (frame : List Byte) (j : LoopId) : (s.alignedFrame t frame).feed j = s.feed j := by simp [feed]
@[simp] theorem alignedFrame_record (t : Trunk) (frame : List Byte) (j : SlotId) : (s.alignedFrame t frame).record j = s.record j := by simp [record]
@[simp] theorem alignedFrame_ctx (t : Trunk) (frame : List Byte) (j : CtxId) : (s.alignedFrame t frame).ctx j = s.ctx j := by simp [ctx]
@[simp] theorem alignedFrame_path (t : Trunk) (frame : List Byte) (j : CtxId) : (s.alignedFrame t frame).path j = s.path j := by simp [path]
@[simp] theorem alignedFrame_player (t : Trunk) (frame : List Byte) (j : CtxId) : (s.alignedFrame t frame).player j = s.player j := by simp [player]
@[simp] theorem alignedFrame_segment (t : Trunk) (frame : List Byte) (j : SegId) : (s.alignedFrame t frame).segment j = s.segment j := by simp [segment]
@[simp] theorem alignedFrame_service (t : Trunk) (frame : List Byte) (j : Trunk) : (s.alignedFrame t frame).service j = s.service j := by cases j <;> simp [service]
@[simp] theorem alignedFrame_param (t : Trunk) (frame : List Byte) (j : Fin 25) : (s.alignedFrame t frame).param j = s.param j := by simp [param]

/-! ### streamStep -/

theorem streamStep_frame (t : Trunk) : (streamStep t s).1 = { s with
    trunkA := ((streamStep t s).1).trunkA
    trunkB := ((streamStep t s).1).trunkB
    handed := ((streamStep t s).1).handed } := by
  apply State.ext <;> first | with_reducible rfl | (unfold streamStep; dsimp only; (repeat' split) <;> simp)
@[simp] theorem streamStep_pending (t : Trunk) : ((streamStep t s).1).pending = s.pending := by rw [streamStep_frame]
@[simp] theorem streamStep_loops (t : Trunk) : ((streamStep t s).1).loops = s.loops := by rw [streamStep_frame]
@[simp] theorem streamStep_rings (t : Trunk) : ((streamStep t s).1).rings = s.rings := by rw [streamStep_frame]
@[simp] theorem streamStep_feeds (t : Trunk) : ((streamStep t s).1).feeds = s.feeds := by rw [streamStep_frame]
@[simp] theorem streamStep_supply (t : Trunk) : ((streamStep t s).1).supply = s.supply := by rw [streamStep_frame]
@[simp] theorem streamStep_directory (t : Trunk) : ((streamStep t s).1).directory = s.directory := by rw [streamStep_frame]
@[simp] theorem streamStep_contexts (t : Trunk) : ((streamStep t s).1).contexts = s.contexts := by rw [streamStep_frame]
@[simp] theorem streamStep_waiting (t : Trunk) : ((streamStep t s).1).waiting = s.waiting := by rw [streamStep_frame]
@[simp] theorem streamStep_entryCount (t : Trunk) : ((streamStep t s).1).entryCount = s.entryCount := by rw [streamStep_frame]
@[simp] theorem streamStep_routes (t : Trunk) : ((streamStep t s).1).routes = s.routes := by rw [streamStep_frame]
@[simp] theorem streamStep_plan (t : Trunk) : ((streamStep t s).1).plan = s.plan := by rw [streamStep_frame]
@[simp] theorem streamStep_paths (t : Trunk) : ((streamStep t s).1).paths = s.paths := by rw [streamStep_frame]
@[simp] theorem streamStep_samples (t : Trunk) : ((streamStep t s).1).samples = s.samples := by rw [streamStep_frame]
@[simp] theorem streamStep_segments (t : Trunk) : ((streamStep t s).1).segments = s.segments := by rw [streamStep_frame]
@[simp] theorem streamStep_players (t : Trunk) : ((streamStep t s).1).players = s.players := by rw [streamStep_frame]
@[simp] theorem streamStep_serviceA (t : Trunk) : ((streamStep t s).1).serviceA = s.serviceA := by rw [streamStep_frame]
@[simp] theorem streamStep_serviceB (t : Trunk) : ((streamStep t s).1).serviceB = s.serviceB := by rw [streamStep_frame]
@[simp] theorem streamStep_home (t : Trunk) : ((streamStep t s).1).home = s.home := by rw [streamStep_frame]
@[simp] theorem streamStep_settings (t : Trunk) : ((streamStep t s).1).settings = s.settings := by rw [streamStep_frame]
@[simp] theorem streamStep_sectionFault (t : Trunk) : ((streamStep t s).1).sectionFault = s.sectionFault := by rw [streamStep_frame]
@[simp] theorem streamStep_trunkFaultA (t : Trunk) : ((streamStep t s).1).trunkFaultA = s.trunkFaultA := by rw [streamStep_frame]
@[simp] theorem streamStep_trunkFaultB (t : Trunk) : ((streamStep t s).1).trunkFaultB = s.trunkFaultB := by rw [streamStep_frame]
@[simp] theorem streamStep_loopFaults (t : Trunk) : ((streamStep t s).1).loopFaults = s.loopFaults := by rw [streamStep_frame]
@[simp] theorem streamStep_postFaults (t : Trunk) : ((streamStep t s).1).postFaults = s.postFaults := by rw [streamStep_frame]
@[simp] theorem streamStep_testResults (t : Trunk) : ((streamStep t s).1).testResults = s.testResults := by rw [streamStep_frame]
@[simp] theorem streamStep_marks (t : Trunk) : ((streamStep t s).1).marks = s.marks := by rw [streamStep_frame]
@[simp] theorem streamStep_abandons (t : Trunk) : ((streamStep t s).1).abandons = s.abandons := by rw [streamStep_frame]
@[simp] theorem streamStep_abandonPosts (t : Trunk) : ((streamStep t s).1).abandonPosts = s.abandonPosts := by rw [streamStep_frame]
@[simp] theorem streamStep_mask (t : Trunk) : ((streamStep t s).1).mask = s.mask := by rw [streamStep_frame]
@[simp] theorem streamStep_loop (t : Trunk) (j : LoopId) : ((streamStep t s).1).loop j = s.loop j := by simp [loop]
@[simp] theorem streamStep_ring (t : Trunk) (j : LoopId) : ((streamStep t s).1).ring j = s.ring j := by simp [ring]
@[simp] theorem streamStep_feed (t : Trunk) (j : LoopId) : ((streamStep t s).1).feed j = s.feed j := by simp [feed]
@[simp] theorem streamStep_record (t : Trunk) (j : SlotId) : ((streamStep t s).1).record j = s.record j := by simp [record]
@[simp] theorem streamStep_ctx (t : Trunk) (j : CtxId) : ((streamStep t s).1).ctx j = s.ctx j := by simp [ctx]
@[simp] theorem streamStep_path (t : Trunk) (j : CtxId) : ((streamStep t s).1).path j = s.path j := by simp [path]
@[simp] theorem streamStep_player (t : Trunk) (j : CtxId) : ((streamStep t s).1).player j = s.player j := by simp [player]
@[simp] theorem streamStep_segment (t : Trunk) (j : SegId) : ((streamStep t s).1).segment j = s.segment j := by simp [segment]
@[simp] theorem streamStep_service (t : Trunk) (j : Trunk) : ((streamStep t s).1).service j = s.service j := by cases j <;> simp [service]
@[simp] theorem streamStep_param (t : Trunk) (j : Fin 25) : ((streamStep t s).1).param j = s.param j := by simp [param]

/-! ### deliver -/

theorem deliver_frame (t : Trunk) (slots : List Byte) : s.deliver t slots = { s with
    trunkA := (s.deliver t slots).trunkA
    trunkB := (s.deliver t slots).trunkB
    serviceA := (s.deliver t slots).serviceA
    serviceB := (s.deliver t slots).serviceB
    handed := (s.deliver t slots).handed } := by
  apply State.ext <;> first | with_reducible rfl | (unfold deliver; dsimp only; (repeat' split) <;> simp)
@[simp] theorem deliver_pending (t : Trunk) (slots : List Byte) : (s.deliver t slots).pending = s.pending := by rw [deliver_frame]
@[simp] theorem deliver_loops (t : Trunk) (slots : List Byte) : (s.deliver t slots).loops = s.loops := by rw [deliver_frame]
@[simp] theorem deliver_rings (t : Trunk) (slots : List Byte) : (s.deliver t slots).rings = s.rings := by rw [deliver_frame]
@[simp] theorem deliver_feeds (t : Trunk) (slots : List Byte) : (s.deliver t slots).feeds = s.feeds := by rw [deliver_frame]
@[simp] theorem deliver_supply (t : Trunk) (slots : List Byte) : (s.deliver t slots).supply = s.supply := by rw [deliver_frame]
@[simp] theorem deliver_directory (t : Trunk) (slots : List Byte) : (s.deliver t slots).directory = s.directory := by rw [deliver_frame]
@[simp] theorem deliver_contexts (t : Trunk) (slots : List Byte) : (s.deliver t slots).contexts = s.contexts := by rw [deliver_frame]
@[simp] theorem deliver_waiting (t : Trunk) (slots : List Byte) : (s.deliver t slots).waiting = s.waiting := by rw [deliver_frame]
@[simp] theorem deliver_entryCount (t : Trunk) (slots : List Byte) : (s.deliver t slots).entryCount = s.entryCount := by rw [deliver_frame]
@[simp] theorem deliver_routes (t : Trunk) (slots : List Byte) : (s.deliver t slots).routes = s.routes := by rw [deliver_frame]
@[simp] theorem deliver_plan (t : Trunk) (slots : List Byte) : (s.deliver t slots).plan = s.plan := by rw [deliver_frame]
@[simp] theorem deliver_paths (t : Trunk) (slots : List Byte) : (s.deliver t slots).paths = s.paths := by rw [deliver_frame]
@[simp] theorem deliver_samples (t : Trunk) (slots : List Byte) : (s.deliver t slots).samples = s.samples := by rw [deliver_frame]
@[simp] theorem deliver_segments (t : Trunk) (slots : List Byte) : (s.deliver t slots).segments = s.segments := by rw [deliver_frame]
@[simp] theorem deliver_players (t : Trunk) (slots : List Byte) : (s.deliver t slots).players = s.players := by rw [deliver_frame]
@[simp] theorem deliver_home (t : Trunk) (slots : List Byte) : (s.deliver t slots).home = s.home := by rw [deliver_frame]
@[simp] theorem deliver_settings (t : Trunk) (slots : List Byte) : (s.deliver t slots).settings = s.settings := by rw [deliver_frame]
@[simp] theorem deliver_sectionFault (t : Trunk) (slots : List Byte) : (s.deliver t slots).sectionFault = s.sectionFault := by rw [deliver_frame]
@[simp] theorem deliver_trunkFaultA (t : Trunk) (slots : List Byte) : (s.deliver t slots).trunkFaultA = s.trunkFaultA := by rw [deliver_frame]
@[simp] theorem deliver_trunkFaultB (t : Trunk) (slots : List Byte) : (s.deliver t slots).trunkFaultB = s.trunkFaultB := by rw [deliver_frame]
@[simp] theorem deliver_loopFaults (t : Trunk) (slots : List Byte) : (s.deliver t slots).loopFaults = s.loopFaults := by rw [deliver_frame]
@[simp] theorem deliver_postFaults (t : Trunk) (slots : List Byte) : (s.deliver t slots).postFaults = s.postFaults := by rw [deliver_frame]
@[simp] theorem deliver_testResults (t : Trunk) (slots : List Byte) : (s.deliver t slots).testResults = s.testResults := by rw [deliver_frame]
@[simp] theorem deliver_marks (t : Trunk) (slots : List Byte) : (s.deliver t slots).marks = s.marks := by rw [deliver_frame]
@[simp] theorem deliver_abandons (t : Trunk) (slots : List Byte) : (s.deliver t slots).abandons = s.abandons := by rw [deliver_frame]
@[simp] theorem deliver_abandonPosts (t : Trunk) (slots : List Byte) : (s.deliver t slots).abandonPosts = s.abandonPosts := by rw [deliver_frame]
@[simp] theorem deliver_mask (t : Trunk) (slots : List Byte) : (s.deliver t slots).mask = s.mask := by rw [deliver_frame]
@[simp] theorem deliver_loop (t : Trunk) (slots : List Byte) (j : LoopId) : (s.deliver t slots).loop j = s.loop j := by simp [loop]
@[simp] theorem deliver_ring (t : Trunk) (slots : List Byte) (j : LoopId) : (s.deliver t slots).ring j = s.ring j := by simp [ring]
@[simp] theorem deliver_feed (t : Trunk) (slots : List Byte) (j : LoopId) : (s.deliver t slots).feed j = s.feed j := by simp [feed]
@[simp] theorem deliver_record (t : Trunk) (slots : List Byte) (j : SlotId) : (s.deliver t slots).record j = s.record j := by simp [record]
@[simp] theorem deliver_ctx (t : Trunk) (slots : List Byte) (j : CtxId) : (s.deliver t slots).ctx j = s.ctx j := by simp [ctx]
@[simp] theorem deliver_path (t : Trunk) (slots : List Byte) (j : CtxId) : (s.deliver t slots).path j = s.path j := by simp [path]
@[simp] theorem deliver_player (t : Trunk) (slots : List Byte) (j : CtxId) : (s.deliver t slots).player j = s.player j := by simp [player]
@[simp] theorem deliver_segment (t : Trunk) (slots : List Byte) (j : SegId) : (s.deliver t slots).segment j = s.segment j := by simp [segment]
@[simp] theorem deliver_param (t : Trunk) (slots : List Byte) (j : Fin 25) : (s.deliver t slots).param j = s.param j := by simp [param]

/-! ### sendFrame -/

theorem sendFrame_frame (t : Trunk) : s.sendFrame t = { s with
    trunkA := (s.sendFrame t).trunkA
    trunkB := (s.sendFrame t).trunkB
    serviceA := (s.sendFrame t).serviceA
    serviceB := (s.sendFrame t).serviceB
    handed := (s.sendFrame t).handed } := by
  apply State.ext <;> first | with_reducible rfl | (simp [sendFrame])
@[simp] theorem sendFrame_pending (t : Trunk) : (s.sendFrame t).pending = s.pending := by rw [sendFrame_frame]
@[simp] theorem sendFrame_loops (t : Trunk) : (s.sendFrame t).loops = s.loops := by rw [sendFrame_frame]
@[simp] theorem sendFrame_rings (t : Trunk) : (s.sendFrame t).rings = s.rings := by rw [sendFrame_frame]
@[simp] theorem sendFrame_feeds (t : Trunk) : (s.sendFrame t).feeds = s.feeds := by rw [sendFrame_frame]
@[simp] theorem sendFrame_supply (t : Trunk) : (s.sendFrame t).supply = s.supply := by rw [sendFrame_frame]
@[simp] theorem sendFrame_directory (t : Trunk) : (s.sendFrame t).directory = s.directory := by rw [sendFrame_frame]
@[simp] theorem sendFrame_contexts (t : Trunk) : (s.sendFrame t).contexts = s.contexts := by rw [sendFrame_frame]
@[simp] theorem sendFrame_waiting (t : Trunk) : (s.sendFrame t).waiting = s.waiting := by rw [sendFrame_frame]
@[simp] theorem sendFrame_entryCount (t : Trunk) : (s.sendFrame t).entryCount = s.entryCount := by rw [sendFrame_frame]
@[simp] theorem sendFrame_routes (t : Trunk) : (s.sendFrame t).routes = s.routes := by rw [sendFrame_frame]
@[simp] theorem sendFrame_plan (t : Trunk) : (s.sendFrame t).plan = s.plan := by rw [sendFrame_frame]
@[simp] theorem sendFrame_paths (t : Trunk) : (s.sendFrame t).paths = s.paths := by rw [sendFrame_frame]
@[simp] theorem sendFrame_samples (t : Trunk) : (s.sendFrame t).samples = s.samples := by rw [sendFrame_frame]
@[simp] theorem sendFrame_segments (t : Trunk) : (s.sendFrame t).segments = s.segments := by rw [sendFrame_frame]
@[simp] theorem sendFrame_players (t : Trunk) : (s.sendFrame t).players = s.players := by rw [sendFrame_frame]
@[simp] theorem sendFrame_home (t : Trunk) : (s.sendFrame t).home = s.home := by rw [sendFrame_frame]
@[simp] theorem sendFrame_settings (t : Trunk) : (s.sendFrame t).settings = s.settings := by rw [sendFrame_frame]
@[simp] theorem sendFrame_sectionFault (t : Trunk) : (s.sendFrame t).sectionFault = s.sectionFault := by rw [sendFrame_frame]
@[simp] theorem sendFrame_trunkFaultA (t : Trunk) : (s.sendFrame t).trunkFaultA = s.trunkFaultA := by rw [sendFrame_frame]
@[simp] theorem sendFrame_trunkFaultB (t : Trunk) : (s.sendFrame t).trunkFaultB = s.trunkFaultB := by rw [sendFrame_frame]
@[simp] theorem sendFrame_loopFaults (t : Trunk) : (s.sendFrame t).loopFaults = s.loopFaults := by rw [sendFrame_frame]
@[simp] theorem sendFrame_postFaults (t : Trunk) : (s.sendFrame t).postFaults = s.postFaults := by rw [sendFrame_frame]
@[simp] theorem sendFrame_testResults (t : Trunk) : (s.sendFrame t).testResults = s.testResults := by rw [sendFrame_frame]
@[simp] theorem sendFrame_marks (t : Trunk) : (s.sendFrame t).marks = s.marks := by rw [sendFrame_frame]
@[simp] theorem sendFrame_abandons (t : Trunk) : (s.sendFrame t).abandons = s.abandons := by rw [sendFrame_frame]
@[simp] theorem sendFrame_abandonPosts (t : Trunk) : (s.sendFrame t).abandonPosts = s.abandonPosts := by rw [sendFrame_frame]
@[simp] theorem sendFrame_mask (t : Trunk) : (s.sendFrame t).mask = s.mask := by rw [sendFrame_frame]
@[simp] theorem sendFrame_loop (t : Trunk) (j : LoopId) : (s.sendFrame t).loop j = s.loop j := by simp [loop]
@[simp] theorem sendFrame_ring (t : Trunk) (j : LoopId) : (s.sendFrame t).ring j = s.ring j := by simp [ring]
@[simp] theorem sendFrame_feed (t : Trunk) (j : LoopId) : (s.sendFrame t).feed j = s.feed j := by simp [feed]
@[simp] theorem sendFrame_record (t : Trunk) (j : SlotId) : (s.sendFrame t).record j = s.record j := by simp [record]
@[simp] theorem sendFrame_ctx (t : Trunk) (j : CtxId) : (s.sendFrame t).ctx j = s.ctx j := by simp [ctx]
@[simp] theorem sendFrame_path (t : Trunk) (j : CtxId) : (s.sendFrame t).path j = s.path j := by simp [path]
@[simp] theorem sendFrame_player (t : Trunk) (j : CtxId) : (s.sendFrame t).player j = s.player j := by simp [player]
@[simp] theorem sendFrame_segment (t : Trunk) (j : SegId) : (s.sendFrame t).segment j = s.segment j := by simp [segment]
@[simp] theorem sendFrame_param (t : Trunk) (j : Fin 25) : (s.sendFrame t).param j = s.param j := by simp [param]

/-! ### leaveFailover -/

theorem leaveFailover_frame (t : Trunk) (st : TrunkState) : s.leaveFailover t st = { s with
    trunkA := (s.leaveFailover t st).trunkA
    trunkB := (s.leaveFailover t st).trunkB
    handed := (s.leaveFailover t st).handed } := by
  apply State.ext <;> first | with_reducible rfl | (simp [leaveFailover])
@[simp] theorem leaveFailover_pending (t : Trunk) (st : TrunkState) : (s.leaveFailover t st).pending = s.pending := by rw [leaveFailover_frame]
@[simp] theorem leaveFailover_loops (t : Trunk) (st : TrunkState) : (s.leaveFailover t st).loops = s.loops := by rw [leaveFailover_frame]
@[simp] theorem leaveFailover_rings (t : Trunk) (st : TrunkState) : (s.leaveFailover t st).rings = s.rings := by rw [leaveFailover_frame]
@[simp] theorem leaveFailover_feeds (t : Trunk) (st : TrunkState) : (s.leaveFailover t st).feeds = s.feeds := by rw [leaveFailover_frame]
@[simp] theorem leaveFailover_supply (t : Trunk) (st : TrunkState) : (s.leaveFailover t st).supply = s.supply := by rw [leaveFailover_frame]
@[simp] theorem leaveFailover_directory (t : Trunk) (st : TrunkState) : (s.leaveFailover t st).directory = s.directory := by rw [leaveFailover_frame]
@[simp] theorem leaveFailover_contexts (t : Trunk) (st : TrunkState) : (s.leaveFailover t st).contexts = s.contexts := by rw [leaveFailover_frame]
@[simp] theorem leaveFailover_waiting (t : Trunk) (st : TrunkState) : (s.leaveFailover t st).waiting = s.waiting := by rw [leaveFailover_frame]
@[simp] theorem leaveFailover_entryCount (t : Trunk) (st : TrunkState) : (s.leaveFailover t st).entryCount = s.entryCount := by rw [leaveFailover_frame]
@[simp] theorem leaveFailover_routes (t : Trunk) (st : TrunkState) : (s.leaveFailover t st).routes = s.routes := by rw [leaveFailover_frame]
@[simp] theorem leaveFailover_plan (t : Trunk) (st : TrunkState) : (s.leaveFailover t st).plan = s.plan := by rw [leaveFailover_frame]
@[simp] theorem leaveFailover_paths (t : Trunk) (st : TrunkState) : (s.leaveFailover t st).paths = s.paths := by rw [leaveFailover_frame]
@[simp] theorem leaveFailover_samples (t : Trunk) (st : TrunkState) : (s.leaveFailover t st).samples = s.samples := by rw [leaveFailover_frame]
@[simp] theorem leaveFailover_segments (t : Trunk) (st : TrunkState) : (s.leaveFailover t st).segments = s.segments := by rw [leaveFailover_frame]
@[simp] theorem leaveFailover_players (t : Trunk) (st : TrunkState) : (s.leaveFailover t st).players = s.players := by rw [leaveFailover_frame]
@[simp] theorem leaveFailover_serviceA (t : Trunk) (st : TrunkState) : (s.leaveFailover t st).serviceA = s.serviceA := by rw [leaveFailover_frame]
@[simp] theorem leaveFailover_serviceB (t : Trunk) (st : TrunkState) : (s.leaveFailover t st).serviceB = s.serviceB := by rw [leaveFailover_frame]
@[simp] theorem leaveFailover_home (t : Trunk) (st : TrunkState) : (s.leaveFailover t st).home = s.home := by rw [leaveFailover_frame]
@[simp] theorem leaveFailover_settings (t : Trunk) (st : TrunkState) : (s.leaveFailover t st).settings = s.settings := by rw [leaveFailover_frame]
@[simp] theorem leaveFailover_sectionFault (t : Trunk) (st : TrunkState) : (s.leaveFailover t st).sectionFault = s.sectionFault := by rw [leaveFailover_frame]
@[simp] theorem leaveFailover_trunkFaultA (t : Trunk) (st : TrunkState) : (s.leaveFailover t st).trunkFaultA = s.trunkFaultA := by rw [leaveFailover_frame]
@[simp] theorem leaveFailover_trunkFaultB (t : Trunk) (st : TrunkState) : (s.leaveFailover t st).trunkFaultB = s.trunkFaultB := by rw [leaveFailover_frame]
@[simp] theorem leaveFailover_loopFaults (t : Trunk) (st : TrunkState) : (s.leaveFailover t st).loopFaults = s.loopFaults := by rw [leaveFailover_frame]
@[simp] theorem leaveFailover_postFaults (t : Trunk) (st : TrunkState) : (s.leaveFailover t st).postFaults = s.postFaults := by rw [leaveFailover_frame]
@[simp] theorem leaveFailover_testResults (t : Trunk) (st : TrunkState) : (s.leaveFailover t st).testResults = s.testResults := by rw [leaveFailover_frame]
@[simp] theorem leaveFailover_marks (t : Trunk) (st : TrunkState) : (s.leaveFailover t st).marks = s.marks := by rw [leaveFailover_frame]
@[simp] theorem leaveFailover_abandons (t : Trunk) (st : TrunkState) : (s.leaveFailover t st).abandons = s.abandons := by rw [leaveFailover_frame]
@[simp] theorem leaveFailover_abandonPosts (t : Trunk) (st : TrunkState) : (s.leaveFailover t st).abandonPosts = s.abandonPosts := by rw [leaveFailover_frame]
@[simp] theorem leaveFailover_mask (t : Trunk) (st : TrunkState) : (s.leaveFailover t st).mask = s.mask := by rw [leaveFailover_frame]
@[simp] theorem leaveFailover_loop (t : Trunk) (st : TrunkState) (j : LoopId) : (s.leaveFailover t st).loop j = s.loop j := by simp [loop]
@[simp] theorem leaveFailover_ring (t : Trunk) (st : TrunkState) (j : LoopId) : (s.leaveFailover t st).ring j = s.ring j := by simp [ring]
@[simp] theorem leaveFailover_feed (t : Trunk) (st : TrunkState) (j : LoopId) : (s.leaveFailover t st).feed j = s.feed j := by simp [feed]
@[simp] theorem leaveFailover_record (t : Trunk) (st : TrunkState) (j : SlotId) : (s.leaveFailover t st).record j = s.record j := by simp [record]
@[simp] theorem leaveFailover_ctx (t : Trunk) (st : TrunkState) (j : CtxId) : (s.leaveFailover t st).ctx j = s.ctx j := by simp [ctx]
@[simp] theorem leaveFailover_path (t : Trunk) (st : TrunkState) (j : CtxId) : (s.leaveFailover t st).path j = s.path j := by simp [path]
@[simp] theorem leaveFailover_player (t : Trunk) (st : TrunkState) (j : CtxId) : (s.leaveFailover t st).player j = s.player j := by simp [player]
@[simp] theorem leaveFailover_segment (t : Trunk) (st : TrunkState) (j : SegId) : (s.leaveFailover t st).segment j = s.segment j := by simp [segment]
@[simp] theorem leaveFailover_service (t : Trunk) (st : TrunkState) (j : Trunk) : (s.leaveFailover t st).service j = s.service j := by cases j <;> simp [service]
@[simp] theorem leaveFailover_param (t : Trunk) (st : TrunkState) (j : Fin 25) : (s.leaveFailover t st).param j = s.param j := by simp [param]

/-! ### trunkReport -/

theorem trunkReport_frame (t : Trunk) (st : TrunkState) : s.trunkReport t st = { s with
    contexts := (s.trunkReport t st).contexts
    loops := (s.trunkReport t st).loops
    trunkA := (s.trunkReport t st).trunkA
    trunkB := (s.trunkReport t st).trunkB
    handed := (s.trunkReport t st).handed } := by
  apply State.ext <;> first | with_reducible rfl | (unfold trunkReport; dsimp only; (repeat' split) <;> simp)
@[simp] theorem trunkReport_pending (t : Trunk) (st : TrunkState) : (s.trunkReport t st).pending = s.pending := by rw [trunkReport_frame]
@[simp] theorem trunkReport_rings (t : Trunk) (st : TrunkState) : (s.trunkReport t st).rings = s.rings := by rw [trunkReport_frame]
@[simp] theorem trunkReport_feeds (t : Trunk) (st : TrunkState) : (s.trunkReport t st).feeds = s.feeds := by rw [trunkReport_frame]
@[simp] theorem trunkReport_supply (t : Trunk) (st : TrunkState) : (s.trunkReport t st).supply = s.supply := by rw [trunkReport_frame]
@[simp] theorem trunkReport_directory (t : Trunk) (st : TrunkState) : (s.trunkReport t st).directory = s.directory := by rw [trunkReport_frame]
@[simp] theorem trunkReport_waiting (t : Trunk) (st : TrunkState) : (s.trunkReport t st).waiting = s.waiting := by rw [trunkReport_frame]
@[simp] theorem trunkReport_entryCount (t : Trunk) (st : TrunkState) : (s.trunkReport t st).entryCount = s.entryCount := by rw [trunkReport_frame]
@[simp] theorem trunkReport_routes (t : Trunk) (st : TrunkState) : (s.trunkReport t st).routes = s.routes := by rw [trunkReport_frame]
@[simp] theorem trunkReport_plan (t : Trunk) (st : TrunkState) : (s.trunkReport t st).plan = s.plan := by rw [trunkReport_frame]
@[simp] theorem trunkReport_paths (t : Trunk) (st : TrunkState) : (s.trunkReport t st).paths = s.paths := by rw [trunkReport_frame]
@[simp] theorem trunkReport_samples (t : Trunk) (st : TrunkState) : (s.trunkReport t st).samples = s.samples := by rw [trunkReport_frame]
@[simp] theorem trunkReport_segments (t : Trunk) (st : TrunkState) : (s.trunkReport t st).segments = s.segments := by rw [trunkReport_frame]
@[simp] theorem trunkReport_players (t : Trunk) (st : TrunkState) : (s.trunkReport t st).players = s.players := by rw [trunkReport_frame]
@[simp] theorem trunkReport_serviceA (t : Trunk) (st : TrunkState) : (s.trunkReport t st).serviceA = s.serviceA := by rw [trunkReport_frame]
@[simp] theorem trunkReport_serviceB (t : Trunk) (st : TrunkState) : (s.trunkReport t st).serviceB = s.serviceB := by rw [trunkReport_frame]
@[simp] theorem trunkReport_home (t : Trunk) (st : TrunkState) : (s.trunkReport t st).home = s.home := by rw [trunkReport_frame]
@[simp] theorem trunkReport_settings (t : Trunk) (st : TrunkState) : (s.trunkReport t st).settings = s.settings := by rw [trunkReport_frame]
@[simp] theorem trunkReport_sectionFault (t : Trunk) (st : TrunkState) : (s.trunkReport t st).sectionFault = s.sectionFault := by rw [trunkReport_frame]
@[simp] theorem trunkReport_trunkFaultA (t : Trunk) (st : TrunkState) : (s.trunkReport t st).trunkFaultA = s.trunkFaultA := by rw [trunkReport_frame]
@[simp] theorem trunkReport_trunkFaultB (t : Trunk) (st : TrunkState) : (s.trunkReport t st).trunkFaultB = s.trunkFaultB := by rw [trunkReport_frame]
@[simp] theorem trunkReport_loopFaults (t : Trunk) (st : TrunkState) : (s.trunkReport t st).loopFaults = s.loopFaults := by rw [trunkReport_frame]
@[simp] theorem trunkReport_postFaults (t : Trunk) (st : TrunkState) : (s.trunkReport t st).postFaults = s.postFaults := by rw [trunkReport_frame]
@[simp] theorem trunkReport_testResults (t : Trunk) (st : TrunkState) : (s.trunkReport t st).testResults = s.testResults := by rw [trunkReport_frame]
@[simp] theorem trunkReport_marks (t : Trunk) (st : TrunkState) : (s.trunkReport t st).marks = s.marks := by rw [trunkReport_frame]
@[simp] theorem trunkReport_abandons (t : Trunk) (st : TrunkState) : (s.trunkReport t st).abandons = s.abandons := by rw [trunkReport_frame]
@[simp] theorem trunkReport_abandonPosts (t : Trunk) (st : TrunkState) : (s.trunkReport t st).abandonPosts = s.abandonPosts := by rw [trunkReport_frame]
@[simp] theorem trunkReport_mask (t : Trunk) (st : TrunkState) : (s.trunkReport t st).mask = s.mask := by rw [trunkReport_frame]
@[simp] theorem trunkReport_ring (t : Trunk) (st : TrunkState) (j : LoopId) : (s.trunkReport t st).ring j = s.ring j := by simp [ring]
@[simp] theorem trunkReport_feed (t : Trunk) (st : TrunkState) (j : LoopId) : (s.trunkReport t st).feed j = s.feed j := by simp [feed]
@[simp] theorem trunkReport_record (t : Trunk) (st : TrunkState) (j : SlotId) : (s.trunkReport t st).record j = s.record j := by simp [record]
@[simp] theorem trunkReport_path (t : Trunk) (st : TrunkState) (j : CtxId) : (s.trunkReport t st).path j = s.path j := by simp [path]
@[simp] theorem trunkReport_player (t : Trunk) (st : TrunkState) (j : CtxId) : (s.trunkReport t st).player j = s.player j := by simp [player]
@[simp] theorem trunkReport_segment (t : Trunk) (st : TrunkState) (j : SegId) : (s.trunkReport t st).segment j = s.segment j := by simp [segment]
@[simp] theorem trunkReport_service (t : Trunk) (st : TrunkState) (j : Trunk) : (s.trunkReport t st).service j = s.service j := by cases j <;> simp [service]
@[simp] theorem trunkReport_param (t : Trunk) (st : TrunkState) (j : Fin 25) : (s.trunkReport t st).param j = s.param j := by simp [param]

/-! ### drainReports -/

theorem drainReports_frame (t : Trunk) : s.drainReports t = { s with
    contexts := (s.drainReports t).contexts
    loops := (s.drainReports t).loops
    trunkA := (s.drainReports t).trunkA
    trunkB := (s.drainReports t).trunkB
    handed := (s.drainReports t).handed } := by
  apply State.ext <;> first | with_reducible rfl | (exact foldl_keeps _ _ (fun _ _ => by simp) _ _)
@[simp] theorem drainReports_pending (t : Trunk) : (s.drainReports t).pending = s.pending := by rw [drainReports_frame]
@[simp] theorem drainReports_rings (t : Trunk) : (s.drainReports t).rings = s.rings := by rw [drainReports_frame]
@[simp] theorem drainReports_feeds (t : Trunk) : (s.drainReports t).feeds = s.feeds := by rw [drainReports_frame]
@[simp] theorem drainReports_supply (t : Trunk) : (s.drainReports t).supply = s.supply := by rw [drainReports_frame]
@[simp] theorem drainReports_directory (t : Trunk) : (s.drainReports t).directory = s.directory := by rw [drainReports_frame]
@[simp] theorem drainReports_waiting (t : Trunk) : (s.drainReports t).waiting = s.waiting := by rw [drainReports_frame]
@[simp] theorem drainReports_entryCount (t : Trunk) : (s.drainReports t).entryCount = s.entryCount := by rw [drainReports_frame]
@[simp] theorem drainReports_routes (t : Trunk) : (s.drainReports t).routes = s.routes := by rw [drainReports_frame]
@[simp] theorem drainReports_plan (t : Trunk) : (s.drainReports t).plan = s.plan := by rw [drainReports_frame]
@[simp] theorem drainReports_paths (t : Trunk) : (s.drainReports t).paths = s.paths := by rw [drainReports_frame]
@[simp] theorem drainReports_samples (t : Trunk) : (s.drainReports t).samples = s.samples := by rw [drainReports_frame]
@[simp] theorem drainReports_segments (t : Trunk) : (s.drainReports t).segments = s.segments := by rw [drainReports_frame]
@[simp] theorem drainReports_players (t : Trunk) : (s.drainReports t).players = s.players := by rw [drainReports_frame]
@[simp] theorem drainReports_serviceA (t : Trunk) : (s.drainReports t).serviceA = s.serviceA := by rw [drainReports_frame]
@[simp] theorem drainReports_serviceB (t : Trunk) : (s.drainReports t).serviceB = s.serviceB := by rw [drainReports_frame]
@[simp] theorem drainReports_home (t : Trunk) : (s.drainReports t).home = s.home := by rw [drainReports_frame]
@[simp] theorem drainReports_settings (t : Trunk) : (s.drainReports t).settings = s.settings := by rw [drainReports_frame]
@[simp] theorem drainReports_sectionFault (t : Trunk) : (s.drainReports t).sectionFault = s.sectionFault := by rw [drainReports_frame]
@[simp] theorem drainReports_trunkFaultA (t : Trunk) : (s.drainReports t).trunkFaultA = s.trunkFaultA := by rw [drainReports_frame]
@[simp] theorem drainReports_trunkFaultB (t : Trunk) : (s.drainReports t).trunkFaultB = s.trunkFaultB := by rw [drainReports_frame]
@[simp] theorem drainReports_loopFaults (t : Trunk) : (s.drainReports t).loopFaults = s.loopFaults := by rw [drainReports_frame]
@[simp] theorem drainReports_postFaults (t : Trunk) : (s.drainReports t).postFaults = s.postFaults := by rw [drainReports_frame]
@[simp] theorem drainReports_testResults (t : Trunk) : (s.drainReports t).testResults = s.testResults := by rw [drainReports_frame]
@[simp] theorem drainReports_marks (t : Trunk) : (s.drainReports t).marks = s.marks := by rw [drainReports_frame]
@[simp] theorem drainReports_abandons (t : Trunk) : (s.drainReports t).abandons = s.abandons := by rw [drainReports_frame]
@[simp] theorem drainReports_abandonPosts (t : Trunk) : (s.drainReports t).abandonPosts = s.abandonPosts := by rw [drainReports_frame]
@[simp] theorem drainReports_mask (t : Trunk) : (s.drainReports t).mask = s.mask := by rw [drainReports_frame]
@[simp] theorem drainReports_ring (t : Trunk) (j : LoopId) : (s.drainReports t).ring j = s.ring j := by simp [ring]
@[simp] theorem drainReports_feed (t : Trunk) (j : LoopId) : (s.drainReports t).feed j = s.feed j := by simp [feed]
@[simp] theorem drainReports_record (t : Trunk) (j : SlotId) : (s.drainReports t).record j = s.record j := by simp [record]
@[simp] theorem drainReports_path (t : Trunk) (j : CtxId) : (s.drainReports t).path j = s.path j := by simp [path]
@[simp] theorem drainReports_player (t : Trunk) (j : CtxId) : (s.drainReports t).player j = s.player j := by simp [player]
@[simp] theorem drainReports_segment (t : Trunk) (j : SegId) : (s.drainReports t).segment j = s.segment j := by simp [segment]
@[simp] theorem drainReports_service (t : Trunk) (j : Trunk) : (s.drainReports t).service j = s.service j := by cases j <;> simp [service]
@[simp] theorem drainReports_param (t : Trunk) (j : Fin 25) : (s.drainReports t).param j = s.param j := by simp [param]

/-! ### carryFailover -/

theorem carryFailover_frame (t : Trunk) : s.carryFailover t = { s with
    contexts := (s.carryFailover t).contexts
    paths := (s.carryFailover t).paths
    entryCount := (s.carryFailover t).entryCount
    waiting := (s.carryFailover t).waiting
    players := (s.carryFailover t).players
    loops := (s.carryFailover t).loops
    trunkA := (s.carryFailover t).trunkA
    trunkB := (s.carryFailover t).trunkB
    handed := (s.carryFailover t).handed } := by
  apply State.ext <;> first | with_reducible rfl | (unfold carryFailover; simp)
@[simp] theorem carryFailover_pending (t : Trunk) : (s.carryFailover t).pending = s.pending := by rw [carryFailover_frame]
@[simp] theorem carryFailover_rings (t : Trunk) : (s.carryFailover t).rings = s.rings := by rw [carryFailover_frame]
@[simp] theorem carryFailover_feeds (t : Trunk) : (s.carryFailover t).feeds = s.feeds := by rw [carryFailover_frame]
@[simp] theorem carryFailover_supply (t : Trunk) : (s.carryFailover t).supply = s.supply := by rw [carryFailover_frame]
@[simp] theorem carryFailover_directory (t : Trunk) : (s.carryFailover t).directory = s.directory := by rw [carryFailover_frame]
@[simp] theorem carryFailover_routes (t : Trunk) : (s.carryFailover t).routes = s.routes := by rw [carryFailover_frame]
@[simp] theorem carryFailover_plan (t : Trunk) : (s.carryFailover t).plan = s.plan := by rw [carryFailover_frame]
@[simp] theorem carryFailover_samples (t : Trunk) : (s.carryFailover t).samples = s.samples := by rw [carryFailover_frame]
@[simp] theorem carryFailover_segments (t : Trunk) : (s.carryFailover t).segments = s.segments := by rw [carryFailover_frame]
@[simp] theorem carryFailover_serviceA (t : Trunk) : (s.carryFailover t).serviceA = s.serviceA := by rw [carryFailover_frame]
@[simp] theorem carryFailover_serviceB (t : Trunk) : (s.carryFailover t).serviceB = s.serviceB := by rw [carryFailover_frame]
@[simp] theorem carryFailover_home (t : Trunk) : (s.carryFailover t).home = s.home := by rw [carryFailover_frame]
@[simp] theorem carryFailover_settings (t : Trunk) : (s.carryFailover t).settings = s.settings := by rw [carryFailover_frame]
@[simp] theorem carryFailover_sectionFault (t : Trunk) : (s.carryFailover t).sectionFault = s.sectionFault := by rw [carryFailover_frame]
@[simp] theorem carryFailover_trunkFaultA (t : Trunk) : (s.carryFailover t).trunkFaultA = s.trunkFaultA := by rw [carryFailover_frame]
@[simp] theorem carryFailover_trunkFaultB (t : Trunk) : (s.carryFailover t).trunkFaultB = s.trunkFaultB := by rw [carryFailover_frame]
@[simp] theorem carryFailover_loopFaults (t : Trunk) : (s.carryFailover t).loopFaults = s.loopFaults := by rw [carryFailover_frame]
@[simp] theorem carryFailover_postFaults (t : Trunk) : (s.carryFailover t).postFaults = s.postFaults := by rw [carryFailover_frame]
@[simp] theorem carryFailover_testResults (t : Trunk) : (s.carryFailover t).testResults = s.testResults := by rw [carryFailover_frame]
@[simp] theorem carryFailover_marks (t : Trunk) : (s.carryFailover t).marks = s.marks := by rw [carryFailover_frame]
@[simp] theorem carryFailover_abandons (t : Trunk) : (s.carryFailover t).abandons = s.abandons := by rw [carryFailover_frame]
@[simp] theorem carryFailover_abandonPosts (t : Trunk) : (s.carryFailover t).abandonPosts = s.abandonPosts := by rw [carryFailover_frame]
@[simp] theorem carryFailover_mask (t : Trunk) : (s.carryFailover t).mask = s.mask := by rw [carryFailover_frame]
@[simp] theorem carryFailover_ring (t : Trunk) (j : LoopId) : (s.carryFailover t).ring j = s.ring j := by simp [ring]
@[simp] theorem carryFailover_feed (t : Trunk) (j : LoopId) : (s.carryFailover t).feed j = s.feed j := by simp [feed]
@[simp] theorem carryFailover_record (t : Trunk) (j : SlotId) : (s.carryFailover t).record j = s.record j := by simp [record]
@[simp] theorem carryFailover_segment (t : Trunk) (j : SegId) : (s.carryFailover t).segment j = s.segment j := by simp [segment]
@[simp] theorem carryFailover_service (t : Trunk) (j : Trunk) : (s.carryFailover t).service j = s.service j := by cases j <;> simp [service]
@[simp] theorem carryFailover_param (t : Trunk) (j : Fin 25) : (s.carryFailover t).param j = s.param j := by simp [param]

/-! ### endFailover -/

theorem endFailover_frame (t : Trunk) (st : TrunkState) : s.endFailover t st = { s with
    contexts := (s.endFailover t st).contexts
    paths := (s.endFailover t st).paths
    entryCount := (s.endFailover t st).entryCount
    waiting := (s.endFailover t st).waiting
    players := (s.endFailover t st).players
    loops := (s.endFailover t st).loops
    trunkA := (s.endFailover t st).trunkA
    trunkB := (s.endFailover t st).trunkB
    handed := (s.endFailover t st).handed } := by
  apply State.ext <;> first | with_reducible rfl | (unfold endFailover; simp)
@[simp] theorem endFailover_pending (t : Trunk) (st : TrunkState) : (s.endFailover t st).pending = s.pending := by rw [endFailover_frame]
@[simp] theorem endFailover_rings (t : Trunk) (st : TrunkState) : (s.endFailover t st).rings = s.rings := by rw [endFailover_frame]
@[simp] theorem endFailover_feeds (t : Trunk) (st : TrunkState) : (s.endFailover t st).feeds = s.feeds := by rw [endFailover_frame]
@[simp] theorem endFailover_supply (t : Trunk) (st : TrunkState) : (s.endFailover t st).supply = s.supply := by rw [endFailover_frame]
@[simp] theorem endFailover_directory (t : Trunk) (st : TrunkState) : (s.endFailover t st).directory = s.directory := by rw [endFailover_frame]
@[simp] theorem endFailover_routes (t : Trunk) (st : TrunkState) : (s.endFailover t st).routes = s.routes := by rw [endFailover_frame]
@[simp] theorem endFailover_plan (t : Trunk) (st : TrunkState) : (s.endFailover t st).plan = s.plan := by rw [endFailover_frame]
@[simp] theorem endFailover_samples (t : Trunk) (st : TrunkState) : (s.endFailover t st).samples = s.samples := by rw [endFailover_frame]
@[simp] theorem endFailover_segments (t : Trunk) (st : TrunkState) : (s.endFailover t st).segments = s.segments := by rw [endFailover_frame]
@[simp] theorem endFailover_serviceA (t : Trunk) (st : TrunkState) : (s.endFailover t st).serviceA = s.serviceA := by rw [endFailover_frame]
@[simp] theorem endFailover_serviceB (t : Trunk) (st : TrunkState) : (s.endFailover t st).serviceB = s.serviceB := by rw [endFailover_frame]
@[simp] theorem endFailover_home (t : Trunk) (st : TrunkState) : (s.endFailover t st).home = s.home := by rw [endFailover_frame]
@[simp] theorem endFailover_settings (t : Trunk) (st : TrunkState) : (s.endFailover t st).settings = s.settings := by rw [endFailover_frame]
@[simp] theorem endFailover_sectionFault (t : Trunk) (st : TrunkState) : (s.endFailover t st).sectionFault = s.sectionFault := by rw [endFailover_frame]
@[simp] theorem endFailover_trunkFaultA (t : Trunk) (st : TrunkState) : (s.endFailover t st).trunkFaultA = s.trunkFaultA := by rw [endFailover_frame]
@[simp] theorem endFailover_trunkFaultB (t : Trunk) (st : TrunkState) : (s.endFailover t st).trunkFaultB = s.trunkFaultB := by rw [endFailover_frame]
@[simp] theorem endFailover_loopFaults (t : Trunk) (st : TrunkState) : (s.endFailover t st).loopFaults = s.loopFaults := by rw [endFailover_frame]
@[simp] theorem endFailover_postFaults (t : Trunk) (st : TrunkState) : (s.endFailover t st).postFaults = s.postFaults := by rw [endFailover_frame]
@[simp] theorem endFailover_testResults (t : Trunk) (st : TrunkState) : (s.endFailover t st).testResults = s.testResults := by rw [endFailover_frame]
@[simp] theorem endFailover_marks (t : Trunk) (st : TrunkState) : (s.endFailover t st).marks = s.marks := by rw [endFailover_frame]
@[simp] theorem endFailover_abandons (t : Trunk) (st : TrunkState) : (s.endFailover t st).abandons = s.abandons := by rw [endFailover_frame]
@[simp] theorem endFailover_abandonPosts (t : Trunk) (st : TrunkState) : (s.endFailover t st).abandonPosts = s.abandonPosts := by rw [endFailover_frame]
@[simp] theorem endFailover_mask (t : Trunk) (st : TrunkState) : (s.endFailover t st).mask = s.mask := by rw [endFailover_frame]
@[simp] theorem endFailover_ring (t : Trunk) (st : TrunkState) (j : LoopId) : (s.endFailover t st).ring j = s.ring j := by simp [ring]
@[simp] theorem endFailover_feed (t : Trunk) (st : TrunkState) (j : LoopId) : (s.endFailover t st).feed j = s.feed j := by simp [feed]
@[simp] theorem endFailover_record (t : Trunk) (st : TrunkState) (j : SlotId) : (s.endFailover t st).record j = s.record j := by simp [record]
@[simp] theorem endFailover_segment (t : Trunk) (st : TrunkState) (j : SegId) : (s.endFailover t st).segment j = s.segment j := by simp [segment]
@[simp] theorem endFailover_service (t : Trunk) (st : TrunkState) (j : Trunk) : (s.endFailover t st).service j = s.service j := by cases j <;> simp [service]
@[simp] theorem endFailover_param (t : Trunk) (st : TrunkState) (j : Fin 25) : (s.endFailover t st).param j = s.param j := by simp [param]

/-! ### disableTrunk -/

theorem disableTrunk_frame (t : Trunk) : s.disableTrunk t = { s with
    contexts := (s.disableTrunk t).contexts
    paths := (s.disableTrunk t).paths
    entryCount := (s.disableTrunk t).entryCount
    waiting := (s.disableTrunk t).waiting
    players := (s.disableTrunk t).players
    loops := (s.disableTrunk t).loops
    trunkA := (s.disableTrunk t).trunkA
    trunkB := (s.disableTrunk t).trunkB
    handed := (s.disableTrunk t).handed } := by
  apply State.ext <;> first | with_reducible rfl | (unfold disableTrunk; dsimp only; (repeat' split) <;> simp)
@[simp] theorem disableTrunk_pending (t : Trunk) : (s.disableTrunk t).pending = s.pending := by rw [disableTrunk_frame]
@[simp] theorem disableTrunk_rings (t : Trunk) : (s.disableTrunk t).rings = s.rings := by rw [disableTrunk_frame]
@[simp] theorem disableTrunk_feeds (t : Trunk) : (s.disableTrunk t).feeds = s.feeds := by rw [disableTrunk_frame]
@[simp] theorem disableTrunk_supply (t : Trunk) : (s.disableTrunk t).supply = s.supply := by rw [disableTrunk_frame]
@[simp] theorem disableTrunk_directory (t : Trunk) : (s.disableTrunk t).directory = s.directory := by rw [disableTrunk_frame]
@[simp] theorem disableTrunk_routes (t : Trunk) : (s.disableTrunk t).routes = s.routes := by rw [disableTrunk_frame]
@[simp] theorem disableTrunk_plan (t : Trunk) : (s.disableTrunk t).plan = s.plan := by rw [disableTrunk_frame]
@[simp] theorem disableTrunk_samples (t : Trunk) : (s.disableTrunk t).samples = s.samples := by rw [disableTrunk_frame]
@[simp] theorem disableTrunk_segments (t : Trunk) : (s.disableTrunk t).segments = s.segments := by rw [disableTrunk_frame]
@[simp] theorem disableTrunk_serviceA (t : Trunk) : (s.disableTrunk t).serviceA = s.serviceA := by rw [disableTrunk_frame]
@[simp] theorem disableTrunk_serviceB (t : Trunk) : (s.disableTrunk t).serviceB = s.serviceB := by rw [disableTrunk_frame]
@[simp] theorem disableTrunk_home (t : Trunk) : (s.disableTrunk t).home = s.home := by rw [disableTrunk_frame]
@[simp] theorem disableTrunk_settings (t : Trunk) : (s.disableTrunk t).settings = s.settings := by rw [disableTrunk_frame]
@[simp] theorem disableTrunk_sectionFault (t : Trunk) : (s.disableTrunk t).sectionFault = s.sectionFault := by rw [disableTrunk_frame]
@[simp] theorem disableTrunk_trunkFaultA (t : Trunk) : (s.disableTrunk t).trunkFaultA = s.trunkFaultA := by rw [disableTrunk_frame]
@[simp] theorem disableTrunk_trunkFaultB (t : Trunk) : (s.disableTrunk t).trunkFaultB = s.trunkFaultB := by rw [disableTrunk_frame]
@[simp] theorem disableTrunk_loopFaults (t : Trunk) : (s.disableTrunk t).loopFaults = s.loopFaults := by rw [disableTrunk_frame]
@[simp] theorem disableTrunk_postFaults (t : Trunk) : (s.disableTrunk t).postFaults = s.postFaults := by rw [disableTrunk_frame]
@[simp] theorem disableTrunk_testResults (t : Trunk) : (s.disableTrunk t).testResults = s.testResults := by rw [disableTrunk_frame]
@[simp] theorem disableTrunk_marks (t : Trunk) : (s.disableTrunk t).marks = s.marks := by rw [disableTrunk_frame]
@[simp] theorem disableTrunk_abandons (t : Trunk) : (s.disableTrunk t).abandons = s.abandons := by rw [disableTrunk_frame]
@[simp] theorem disableTrunk_abandonPosts (t : Trunk) : (s.disableTrunk t).abandonPosts = s.abandonPosts := by rw [disableTrunk_frame]
@[simp] theorem disableTrunk_mask (t : Trunk) : (s.disableTrunk t).mask = s.mask := by rw [disableTrunk_frame]
@[simp] theorem disableTrunk_ring (t : Trunk) (j : LoopId) : (s.disableTrunk t).ring j = s.ring j := by simp [ring]
@[simp] theorem disableTrunk_feed (t : Trunk) (j : LoopId) : (s.disableTrunk t).feed j = s.feed j := by simp [feed]
@[simp] theorem disableTrunk_record (t : Trunk) (j : SlotId) : (s.disableTrunk t).record j = s.record j := by simp [record]
@[simp] theorem disableTrunk_segment (t : Trunk) (j : SegId) : (s.disableTrunk t).segment j = s.segment j := by simp [segment]
@[simp] theorem disableTrunk_service (t : Trunk) (j : Trunk) : (s.disableTrunk t).service j = s.service j := by cases j <;> simp [service]
@[simp] theorem disableTrunk_param (t : Trunk) (j : Fin 25) : (s.disableTrunk t).param j = s.param j := by simp [param]

/-! ### enableTrunk -/

theorem enableTrunk_frame (t : Trunk) : s.enableTrunk t = { s with
    trunkA := (s.enableTrunk t).trunkA
    trunkB := (s.enableTrunk t).trunkB
    serviceA := (s.enableTrunk t).serviceA
    serviceB := (s.enableTrunk t).serviceB
    handed := (s.enableTrunk t).handed } := by
  apply State.ext <;> first | with_reducible rfl | (unfold enableTrunk; dsimp only; (repeat' split) <;> simp)
@[simp] theorem enableTrunk_pending (t : Trunk) : (s.enableTrunk t).pending = s.pending := by rw [enableTrunk_frame]
@[simp] theorem enableTrunk_loops (t : Trunk) : (s.enableTrunk t).loops = s.loops := by rw [enableTrunk_frame]
@[simp] theorem enableTrunk_rings (t : Trunk) : (s.enableTrunk t).rings = s.rings := by rw [enableTrunk_frame]
@[simp] theorem enableTrunk_feeds (t : Trunk) : (s.enableTrunk t).feeds = s.feeds := by rw [enableTrunk_frame]
@[simp] theorem enableTrunk_supply (t : Trunk) : (s.enableTrunk t).supply = s.supply := by rw [enableTrunk_frame]
@[simp] theorem enableTrunk_directory (t : Trunk) : (s.enableTrunk t).directory = s.directory := by rw [enableTrunk_frame]
@[simp] theorem enableTrunk_contexts (t : Trunk) : (s.enableTrunk t).contexts = s.contexts := by rw [enableTrunk_frame]
@[simp] theorem enableTrunk_waiting (t : Trunk) : (s.enableTrunk t).waiting = s.waiting := by rw [enableTrunk_frame]
@[simp] theorem enableTrunk_entryCount (t : Trunk) : (s.enableTrunk t).entryCount = s.entryCount := by rw [enableTrunk_frame]
@[simp] theorem enableTrunk_routes (t : Trunk) : (s.enableTrunk t).routes = s.routes := by rw [enableTrunk_frame]
@[simp] theorem enableTrunk_plan (t : Trunk) : (s.enableTrunk t).plan = s.plan := by rw [enableTrunk_frame]
@[simp] theorem enableTrunk_paths (t : Trunk) : (s.enableTrunk t).paths = s.paths := by rw [enableTrunk_frame]
@[simp] theorem enableTrunk_samples (t : Trunk) : (s.enableTrunk t).samples = s.samples := by rw [enableTrunk_frame]
@[simp] theorem enableTrunk_segments (t : Trunk) : (s.enableTrunk t).segments = s.segments := by rw [enableTrunk_frame]
@[simp] theorem enableTrunk_players (t : Trunk) : (s.enableTrunk t).players = s.players := by rw [enableTrunk_frame]
@[simp] theorem enableTrunk_home (t : Trunk) : (s.enableTrunk t).home = s.home := by rw [enableTrunk_frame]
@[simp] theorem enableTrunk_settings (t : Trunk) : (s.enableTrunk t).settings = s.settings := by rw [enableTrunk_frame]
@[simp] theorem enableTrunk_sectionFault (t : Trunk) : (s.enableTrunk t).sectionFault = s.sectionFault := by rw [enableTrunk_frame]
@[simp] theorem enableTrunk_trunkFaultA (t : Trunk) : (s.enableTrunk t).trunkFaultA = s.trunkFaultA := by rw [enableTrunk_frame]
@[simp] theorem enableTrunk_trunkFaultB (t : Trunk) : (s.enableTrunk t).trunkFaultB = s.trunkFaultB := by rw [enableTrunk_frame]
@[simp] theorem enableTrunk_loopFaults (t : Trunk) : (s.enableTrunk t).loopFaults = s.loopFaults := by rw [enableTrunk_frame]
@[simp] theorem enableTrunk_postFaults (t : Trunk) : (s.enableTrunk t).postFaults = s.postFaults := by rw [enableTrunk_frame]
@[simp] theorem enableTrunk_testResults (t : Trunk) : (s.enableTrunk t).testResults = s.testResults := by rw [enableTrunk_frame]
@[simp] theorem enableTrunk_marks (t : Trunk) : (s.enableTrunk t).marks = s.marks := by rw [enableTrunk_frame]
@[simp] theorem enableTrunk_abandons (t : Trunk) : (s.enableTrunk t).abandons = s.abandons := by rw [enableTrunk_frame]
@[simp] theorem enableTrunk_abandonPosts (t : Trunk) : (s.enableTrunk t).abandonPosts = s.abandonPosts := by rw [enableTrunk_frame]
@[simp] theorem enableTrunk_mask (t : Trunk) : (s.enableTrunk t).mask = s.mask := by rw [enableTrunk_frame]
@[simp] theorem enableTrunk_loop (t : Trunk) (j : LoopId) : (s.enableTrunk t).loop j = s.loop j := by simp [loop]
@[simp] theorem enableTrunk_ring (t : Trunk) (j : LoopId) : (s.enableTrunk t).ring j = s.ring j := by simp [ring]
@[simp] theorem enableTrunk_feed (t : Trunk) (j : LoopId) : (s.enableTrunk t).feed j = s.feed j := by simp [feed]
@[simp] theorem enableTrunk_record (t : Trunk) (j : SlotId) : (s.enableTrunk t).record j = s.record j := by simp [record]
@[simp] theorem enableTrunk_ctx (t : Trunk) (j : CtxId) : (s.enableTrunk t).ctx j = s.ctx j := by simp [ctx]
@[simp] theorem enableTrunk_path (t : Trunk) (j : CtxId) : (s.enableTrunk t).path j = s.path j := by simp [path]
@[simp] theorem enableTrunk_player (t : Trunk) (j : CtxId) : (s.enableTrunk t).player j = s.player j := by simp [player]
@[simp] theorem enableTrunk_segment (t : Trunk) (j : SegId) : (s.enableTrunk t).segment j = s.segment j := by simp [segment]
@[simp] theorem enableTrunk_param (t : Trunk) (j : Fin 25) : (s.enableTrunk t).param j = s.param j := by simp [param]

/-! ### blockChan -/

theorem blockChan_frame (t : Trunk) (n : ChanId) : s.blockChan t n = { s with
    trunkA := (s.blockChan t n).trunkA
    trunkB := (s.blockChan t n).trunkB } := by
  apply State.ext <;> first | with_reducible rfl | (unfold blockChan; dsimp only; (repeat' split) <;> simp)
@[simp] theorem blockChan_pending (t : Trunk) (n : ChanId) : (s.blockChan t n).pending = s.pending := by rw [blockChan_frame]
@[simp] theorem blockChan_handed (t : Trunk) (n : ChanId) : (s.blockChan t n).handed = s.handed := by rw [blockChan_frame]
@[simp] theorem blockChan_loops (t : Trunk) (n : ChanId) : (s.blockChan t n).loops = s.loops := by rw [blockChan_frame]
@[simp] theorem blockChan_rings (t : Trunk) (n : ChanId) : (s.blockChan t n).rings = s.rings := by rw [blockChan_frame]
@[simp] theorem blockChan_feeds (t : Trunk) (n : ChanId) : (s.blockChan t n).feeds = s.feeds := by rw [blockChan_frame]
@[simp] theorem blockChan_supply (t : Trunk) (n : ChanId) : (s.blockChan t n).supply = s.supply := by rw [blockChan_frame]
@[simp] theorem blockChan_directory (t : Trunk) (n : ChanId) : (s.blockChan t n).directory = s.directory := by rw [blockChan_frame]
@[simp] theorem blockChan_contexts (t : Trunk) (n : ChanId) : (s.blockChan t n).contexts = s.contexts := by rw [blockChan_frame]
@[simp] theorem blockChan_waiting (t : Trunk) (n : ChanId) : (s.blockChan t n).waiting = s.waiting := by rw [blockChan_frame]
@[simp] theorem blockChan_entryCount (t : Trunk) (n : ChanId) : (s.blockChan t n).entryCount = s.entryCount := by rw [blockChan_frame]
@[simp] theorem blockChan_routes (t : Trunk) (n : ChanId) : (s.blockChan t n).routes = s.routes := by rw [blockChan_frame]
@[simp] theorem blockChan_plan (t : Trunk) (n : ChanId) : (s.blockChan t n).plan = s.plan := by rw [blockChan_frame]
@[simp] theorem blockChan_paths (t : Trunk) (n : ChanId) : (s.blockChan t n).paths = s.paths := by rw [blockChan_frame]
@[simp] theorem blockChan_samples (t : Trunk) (n : ChanId) : (s.blockChan t n).samples = s.samples := by rw [blockChan_frame]
@[simp] theorem blockChan_segments (t : Trunk) (n : ChanId) : (s.blockChan t n).segments = s.segments := by rw [blockChan_frame]
@[simp] theorem blockChan_players (t : Trunk) (n : ChanId) : (s.blockChan t n).players = s.players := by rw [blockChan_frame]
@[simp] theorem blockChan_serviceA (t : Trunk) (n : ChanId) : (s.blockChan t n).serviceA = s.serviceA := by rw [blockChan_frame]
@[simp] theorem blockChan_serviceB (t : Trunk) (n : ChanId) : (s.blockChan t n).serviceB = s.serviceB := by rw [blockChan_frame]
@[simp] theorem blockChan_home (t : Trunk) (n : ChanId) : (s.blockChan t n).home = s.home := by rw [blockChan_frame]
@[simp] theorem blockChan_settings (t : Trunk) (n : ChanId) : (s.blockChan t n).settings = s.settings := by rw [blockChan_frame]
@[simp] theorem blockChan_sectionFault (t : Trunk) (n : ChanId) : (s.blockChan t n).sectionFault = s.sectionFault := by rw [blockChan_frame]
@[simp] theorem blockChan_trunkFaultA (t : Trunk) (n : ChanId) : (s.blockChan t n).trunkFaultA = s.trunkFaultA := by rw [blockChan_frame]
@[simp] theorem blockChan_trunkFaultB (t : Trunk) (n : ChanId) : (s.blockChan t n).trunkFaultB = s.trunkFaultB := by rw [blockChan_frame]
@[simp] theorem blockChan_loopFaults (t : Trunk) (n : ChanId) : (s.blockChan t n).loopFaults = s.loopFaults := by rw [blockChan_frame]
@[simp] theorem blockChan_postFaults (t : Trunk) (n : ChanId) : (s.blockChan t n).postFaults = s.postFaults := by rw [blockChan_frame]
@[simp] theorem blockChan_testResults (t : Trunk) (n : ChanId) : (s.blockChan t n).testResults = s.testResults := by rw [blockChan_frame]
@[simp] theorem blockChan_marks (t : Trunk) (n : ChanId) : (s.blockChan t n).marks = s.marks := by rw [blockChan_frame]
@[simp] theorem blockChan_abandons (t : Trunk) (n : ChanId) : (s.blockChan t n).abandons = s.abandons := by rw [blockChan_frame]
@[simp] theorem blockChan_abandonPosts (t : Trunk) (n : ChanId) : (s.blockChan t n).abandonPosts = s.abandonPosts := by rw [blockChan_frame]
@[simp] theorem blockChan_mask (t : Trunk) (n : ChanId) : (s.blockChan t n).mask = s.mask := by rw [blockChan_frame]
@[simp] theorem blockChan_loop (t : Trunk) (n : ChanId) (j : LoopId) : (s.blockChan t n).loop j = s.loop j := by simp [loop]
@[simp] theorem blockChan_ring (t : Trunk) (n : ChanId) (j : LoopId) : (s.blockChan t n).ring j = s.ring j := by simp [ring]
@[simp] theorem blockChan_feed (t : Trunk) (n : ChanId) (j : LoopId) : (s.blockChan t n).feed j = s.feed j := by simp [feed]
@[simp] theorem blockChan_record (t : Trunk) (n : ChanId) (j : SlotId) : (s.blockChan t n).record j = s.record j := by simp [record]
@[simp] theorem blockChan_ctx (t : Trunk) (n : ChanId) (j : CtxId) : (s.blockChan t n).ctx j = s.ctx j := by simp [ctx]
@[simp] theorem blockChan_path (t : Trunk) (n : ChanId) (j : CtxId) : (s.blockChan t n).path j = s.path j := by simp [path]
@[simp] theorem blockChan_player (t : Trunk) (n : ChanId) (j : CtxId) : (s.blockChan t n).player j = s.player j := by simp [player]
@[simp] theorem blockChan_segment (t : Trunk) (n : ChanId) (j : SegId) : (s.blockChan t n).segment j = s.segment j := by simp [segment]
@[simp] theorem blockChan_service (t : Trunk) (n : ChanId) (j : Trunk) : (s.blockChan t n).service j = s.service j := by cases j <;> simp [service]
@[simp] theorem blockChan_param (t : Trunk) (n : ChanId) (j : Fin 25) : (s.blockChan t n).param j = s.param j := by simp [param]

/-! ### unblockChan -/

theorem unblockChan_frame (t : Trunk) (n : ChanId) : s.unblockChan t n = { s with
    contexts := (s.unblockChan t n).contexts
    loops := (s.unblockChan t n).loops
    trunkA := (s.unblockChan t n).trunkA
    trunkB := (s.unblockChan t n).trunkB
    handed := (s.unblockChan t n).handed } := by
  apply State.ext <;> first | with_reducible rfl | (unfold unblockChan; dsimp only; (repeat' split) <;> simp)
@[simp] theorem unblockChan_pending (t : Trunk) (n : ChanId) : (s.unblockChan t n).pending = s.pending := by rw [unblockChan_frame]
@[simp] theorem unblockChan_rings (t : Trunk) (n : ChanId) : (s.unblockChan t n).rings = s.rings := by rw [unblockChan_frame]
@[simp] theorem unblockChan_feeds (t : Trunk) (n : ChanId) : (s.unblockChan t n).feeds = s.feeds := by rw [unblockChan_frame]
@[simp] theorem unblockChan_supply (t : Trunk) (n : ChanId) : (s.unblockChan t n).supply = s.supply := by rw [unblockChan_frame]
@[simp] theorem unblockChan_directory (t : Trunk) (n : ChanId) : (s.unblockChan t n).directory = s.directory := by rw [unblockChan_frame]
@[simp] theorem unblockChan_waiting (t : Trunk) (n : ChanId) : (s.unblockChan t n).waiting = s.waiting := by rw [unblockChan_frame]
@[simp] theorem unblockChan_entryCount (t : Trunk) (n : ChanId) : (s.unblockChan t n).entryCount = s.entryCount := by rw [unblockChan_frame]
@[simp] theorem unblockChan_routes (t : Trunk) (n : ChanId) : (s.unblockChan t n).routes = s.routes := by rw [unblockChan_frame]
@[simp] theorem unblockChan_plan (t : Trunk) (n : ChanId) : (s.unblockChan t n).plan = s.plan := by rw [unblockChan_frame]
@[simp] theorem unblockChan_paths (t : Trunk) (n : ChanId) : (s.unblockChan t n).paths = s.paths := by rw [unblockChan_frame]
@[simp] theorem unblockChan_samples (t : Trunk) (n : ChanId) : (s.unblockChan t n).samples = s.samples := by rw [unblockChan_frame]
@[simp] theorem unblockChan_segments (t : Trunk) (n : ChanId) : (s.unblockChan t n).segments = s.segments := by rw [unblockChan_frame]
@[simp] theorem unblockChan_players (t : Trunk) (n : ChanId) : (s.unblockChan t n).players = s.players := by rw [unblockChan_frame]
@[simp] theorem unblockChan_serviceA (t : Trunk) (n : ChanId) : (s.unblockChan t n).serviceA = s.serviceA := by rw [unblockChan_frame]
@[simp] theorem unblockChan_serviceB (t : Trunk) (n : ChanId) : (s.unblockChan t n).serviceB = s.serviceB := by rw [unblockChan_frame]
@[simp] theorem unblockChan_home (t : Trunk) (n : ChanId) : (s.unblockChan t n).home = s.home := by rw [unblockChan_frame]
@[simp] theorem unblockChan_settings (t : Trunk) (n : ChanId) : (s.unblockChan t n).settings = s.settings := by rw [unblockChan_frame]
@[simp] theorem unblockChan_sectionFault (t : Trunk) (n : ChanId) : (s.unblockChan t n).sectionFault = s.sectionFault := by rw [unblockChan_frame]
@[simp] theorem unblockChan_trunkFaultA (t : Trunk) (n : ChanId) : (s.unblockChan t n).trunkFaultA = s.trunkFaultA := by rw [unblockChan_frame]
@[simp] theorem unblockChan_trunkFaultB (t : Trunk) (n : ChanId) : (s.unblockChan t n).trunkFaultB = s.trunkFaultB := by rw [unblockChan_frame]
@[simp] theorem unblockChan_loopFaults (t : Trunk) (n : ChanId) : (s.unblockChan t n).loopFaults = s.loopFaults := by rw [unblockChan_frame]
@[simp] theorem unblockChan_postFaults (t : Trunk) (n : ChanId) : (s.unblockChan t n).postFaults = s.postFaults := by rw [unblockChan_frame]
@[simp] theorem unblockChan_testResults (t : Trunk) (n : ChanId) : (s.unblockChan t n).testResults = s.testResults := by rw [unblockChan_frame]
@[simp] theorem unblockChan_marks (t : Trunk) (n : ChanId) : (s.unblockChan t n).marks = s.marks := by rw [unblockChan_frame]
@[simp] theorem unblockChan_abandons (t : Trunk) (n : ChanId) : (s.unblockChan t n).abandons = s.abandons := by rw [unblockChan_frame]
@[simp] theorem unblockChan_abandonPosts (t : Trunk) (n : ChanId) : (s.unblockChan t n).abandonPosts = s.abandonPosts := by rw [unblockChan_frame]
@[simp] theorem unblockChan_mask (t : Trunk) (n : ChanId) : (s.unblockChan t n).mask = s.mask := by rw [unblockChan_frame]
@[simp] theorem unblockChan_ring (t : Trunk) (n : ChanId) (j : LoopId) : (s.unblockChan t n).ring j = s.ring j := by simp [ring]
@[simp] theorem unblockChan_feed (t : Trunk) (n : ChanId) (j : LoopId) : (s.unblockChan t n).feed j = s.feed j := by simp [feed]
@[simp] theorem unblockChan_record (t : Trunk) (n : ChanId) (j : SlotId) : (s.unblockChan t n).record j = s.record j := by simp [record]
@[simp] theorem unblockChan_path (t : Trunk) (n : ChanId) (j : CtxId) : (s.unblockChan t n).path j = s.path j := by simp [path]
@[simp] theorem unblockChan_player (t : Trunk) (n : ChanId) (j : CtxId) : (s.unblockChan t n).player j = s.player j := by simp [player]
@[simp] theorem unblockChan_segment (t : Trunk) (n : ChanId) (j : SegId) : (s.unblockChan t n).segment j = s.segment j := by simp [segment]
@[simp] theorem unblockChan_service (t : Trunk) (n : ChanId) (j : Trunk) : (s.unblockChan t n).service j = s.service j := by cases j <;> simp [service]
@[simp] theorem unblockChan_param (t : Trunk) (n : ChanId) (j : Fin 25) : (s.unblockChan t n).param j = s.param j := by simp [param]

end Sys2Proof.Machine.State
end

