-- ==== Sys2Proof/Laws/Service.lean ====
section
/-! SUPPORT. What each operation of the notice unit and the service handler may change, one equation each, and what it leaves in every other field. -/

namespace Sys2Proof.Machine.State

open Sys2Proof

variable (s : State)

/-! ### latchNow -/

theorem latchNow_frame (x : Latch) : s.latchNow x = { s with
    sectionFault := (s.latchNow x).sectionFault
    trunkFaultA := (s.latchNow x).trunkFaultA
    trunkFaultB := (s.latchNow x).trunkFaultB
    loopFaults := (s.latchNow x).loopFaults
    postFaults := (s.latchNow x).postFaults } := by
  apply State.ext <;> first | with_reducible rfl | (unfold latchNow; dsimp only; (repeat' split) <;> simp)
@[simp] theorem latchNow_pending (x : Latch) : (s.latchNow x).pending = s.pending := by rw [latchNow_frame]
@[simp] theorem latchNow_handed (x : Latch) : (s.latchNow x).handed = s.handed := by rw [latchNow_frame]
@[simp] theorem latchNow_loops (x : Latch) : (s.latchNow x).loops = s.loops := by rw [latchNow_frame]
@[simp] theorem latchNow_rings (x : Latch) : (s.latchNow x).rings = s.rings := by rw [latchNow_frame]
@[simp] theorem latchNow_feeds (x : Latch) : (s.latchNow x).feeds = s.feeds := by rw [latchNow_frame]
@[simp] theorem latchNow_supply (x : Latch) : (s.latchNow x).supply = s.supply := by rw [latchNow_frame]
@[simp] theorem latchNow_directory (x : Latch) : (s.latchNow x).directory = s.directory := by rw [latchNow_frame]
@[simp] theorem latchNow_contexts (x : Latch) : (s.latchNow x).contexts = s.contexts := by rw [latchNow_frame]
@[simp] theorem latchNow_waiting (x : Latch) : (s.latchNow x).waiting = s.waiting := by rw [latchNow_frame]
@[simp] theorem latchNow_entryCount (x : Latch) : (s.latchNow x).entryCount = s.entryCount := by rw [latchNow_frame]
@[simp] theorem latchNow_routes (x : Latch) : (s.latchNow x).routes = s.routes := by rw [latchNow_frame]
@[simp] theorem latchNow_plan (x : Latch) : (s.latchNow x).plan = s.plan := by rw [latchNow_frame]
@[simp] theorem latchNow_trunkA (x : Latch) : (s.latchNow x).trunkA = s.trunkA := by rw [latchNow_frame]
@[simp] theorem latchNow_trunkB (x : Latch) : (s.latchNow x).trunkB = s.trunkB := by rw [latchNow_frame]
@[simp] theorem latchNow_paths (x : Latch) : (s.latchNow x).paths = s.paths := by rw [latchNow_frame]
@[simp] theorem latchNow_samples (x : Latch) : (s.latchNow x).samples = s.samples := by rw [latchNow_frame]
@[simp] theorem latchNow_segments (x : Latch) : (s.latchNow x).segments = s.segments := by rw [latchNow_frame]
@[simp] theorem latchNow_players (x : Latch) : (s.latchNow x).players = s.players := by rw [latchNow_frame]
@[simp] theorem latchNow_serviceA (x : Latch) : (s.latchNow x).serviceA = s.serviceA := by rw [latchNow_frame]
@[simp] theorem latchNow_serviceB (x : Latch) : (s.latchNow x).serviceB = s.serviceB := by rw [latchNow_frame]
@[simp] theorem latchNow_home (x : Latch) : (s.latchNow x).home = s.home := by rw [latchNow_frame]
@[simp] theorem latchNow_settings (x : Latch) : (s.latchNow x).settings = s.settings := by rw [latchNow_frame]
@[simp] theorem latchNow_testResults (x : Latch) : (s.latchNow x).testResults = s.testResults := by rw [latchNow_frame]
@[simp] theorem latchNow_marks (x : Latch) : (s.latchNow x).marks = s.marks := by rw [latchNow_frame]
@[simp] theorem latchNow_abandons (x : Latch) : (s.latchNow x).abandons = s.abandons := by rw [latchNow_frame]
@[simp] theorem latchNow_abandonPosts (x : Latch) : (s.latchNow x).abandonPosts = s.abandonPosts := by rw [latchNow_frame]
@[simp] theorem latchNow_mask (x : Latch) : (s.latchNow x).mask = s.mask := by rw [latchNow_frame]
@[simp] theorem latchNow_loop (x : Latch) (j : LoopId) : (s.latchNow x).loop j = s.loop j := by simp [loop]
@[simp] theorem latchNow_ring (x : Latch) (j : LoopId) : (s.latchNow x).ring j = s.ring j := by simp [ring]
@[simp] theorem latchNow_feed (x : Latch) (j : LoopId) : (s.latchNow x).feed j = s.feed j := by simp [feed]
@[simp] theorem latchNow_record (x : Latch) (j : SlotId) : (s.latchNow x).record j = s.record j := by simp [record]
@[simp] theorem latchNow_ctx (x : Latch) (j : CtxId) : (s.latchNow x).ctx j = s.ctx j := by simp [ctx]
@[simp] theorem latchNow_trunk (x : Latch) (j : Trunk) : (s.latchNow x).trunk j = s.trunk j := by cases j <;> simp [trunk]
@[simp] theorem latchNow_path (x : Latch) (j : CtxId) : (s.latchNow x).path j = s.path j := by simp [path]
@[simp] theorem latchNow_player (x : Latch) (j : CtxId) : (s.latchNow x).player j = s.player j := by simp [player]
@[simp] theorem latchNow_segment (x : Latch) (j : SegId) : (s.latchNow x).segment j = s.segment j := by simp [segment]
@[simp] theorem latchNow_service (x : Latch) (j : Trunk) : (s.latchNow x).service j = s.service j := by cases j <;> simp [service]
@[simp] theorem latchNow_param (x : Latch) (j : Fin 25) : (s.latchNow x).param j = s.param j := by simp [param]

/-! ### clearAbandon -/

theorem clearAbandon_frame (index : Nat) : s.clearAbandon index = { s with
    abandons := (s.clearAbandon index).abandons
    abandonPosts := (s.clearAbandon index).abandonPosts } := by
  apply State.ext <;> first | with_reducible rfl | (unfold clearAbandon; dsimp only; (repeat' split) <;> simp)
@[simp] theorem clearAbandon_pending (index : Nat) : (s.clearAbandon index).pending = s.pending := by rw [clearAbandon_frame]
@[simp] theorem clearAbandon_handed (index : Nat) : (s.clearAbandon index).handed = s.handed := by rw [clearAbandon_frame]
@[simp] theorem clearAbandon_loops (index : Nat) : (s.clearAbandon index).loops = s.loops := by rw [clearAbandon_frame]
@[simp] theorem clearAbandon_rings (index : Nat) : (s.clearAbandon index).rings = s.rings := by rw [clearAbandon_frame]
@[simp] theorem clearAbandon_feeds (index : Nat) : (s.clearAbandon index).feeds = s.feeds := by rw [clearAbandon_frame]
@[simp] theorem clearAbandon_supply (index : Nat) : (s.clearAbandon index).supply = s.supply := by rw [clearAbandon_frame]
@[simp] theorem clearAbandon_directory (index : Nat) : (s.clearAbandon index).directory = s.directory := by rw [clearAbandon_frame]
@[simp] theorem clearAbandon_contexts (index : Nat) : (s.clearAbandon index).contexts = s.contexts := by rw [clearAbandon_frame]
@[simp] theorem clearAbandon_waiting (index : Nat) : (s.clearAbandon index).waiting = s.waiting := by rw [clearAbandon_frame]
@[simp] theorem clearAbandon_entryCount (index : Nat) : (s.clearAbandon index).entryCount = s.entryCount := by rw [clearAbandon_frame]
@[simp] theorem clearAbandon_routes (index : Nat) : (s.clearAbandon index).routes = s.routes := by rw [clearAbandon_frame]
@[simp] theorem clearAbandon_plan (index : Nat) : (s.clearAbandon index).plan = s.plan := by rw [clearAbandon_frame]
@[simp] theorem clearAbandon_trunkA (index : Nat) : (s.clearAbandon index).trunkA = s.trunkA := by rw [clearAbandon_frame]
@[simp] theorem clearAbandon_trunkB (index : Nat) : (s.clearAbandon index).trunkB = s.trunkB := by rw [clearAbandon_frame]
@[simp] theorem clearAbandon_paths (index : Nat) : (s.clearAbandon index).paths = s.paths := by rw [clearAbandon_frame]
@[simp] theorem clearAbandon_samples (index : Nat) : (s.clearAbandon index).samples = s.samples := by rw [clearAbandon_frame]
@[simp] theorem clearAbandon_segments (index : Nat) : (s.clearAbandon index).segments = s.segments := by rw [clearAbandon_frame]
@[simp] theorem clearAbandon_players (index : Nat) : (s.clearAbandon index).players = s.players := by rw [clearAbandon_frame]
@[simp] theorem clearAbandon_serviceA (index : Nat) : (s.clearAbandon index).serviceA = s.serviceA := by rw [clearAbandon_frame]
@[simp] theorem clearAbandon_serviceB (index : Nat) : (s.clearAbandon index).serviceB = s.serviceB := by rw [clearAbandon_frame]
@[simp] theorem clearAbandon_home (index : Nat) : (s.clearAbandon index).home = s.home := by rw [clearAbandon_frame]
@[simp] theorem clearAbandon_settings (index : Nat) : (s.clearAbandon index).settings = s.settings := by rw [clearAbandon_frame]
@[simp] theorem clearAbandon_sectionFault (index : Nat) : (s.clearAbandon index).sectionFault = s.sectionFault := by rw [clearAbandon_frame]
@[simp] theorem clearAbandon_trunkFaultA (index : Nat) : (s.clearAbandon index).trunkFaultA = s.trunkFaultA := by rw [clearAbandon_frame]
@[simp] theorem clearAbandon_trunkFaultB (index : Nat) : (s.clearAbandon index).trunkFaultB = s.trunkFaultB := by rw [clearAbandon_frame]
@[simp] theorem clearAbandon_loopFaults (index : Nat) : (s.clearAbandon index).loopFaults = s.loopFaults := by rw [clearAbandon_frame]
@[simp] theorem clearAbandon_postFaults (index : Nat) : (s.clearAbandon index).postFaults = s.postFaults := by rw [clearAbandon_frame]
@[simp] theorem clearAbandon_testResults (index : Nat) : (s.clearAbandon index).testResults = s.testResults := by rw [clearAbandon_frame]
@[simp] theorem clearAbandon_marks (index : Nat) : (s.clearAbandon index).marks = s.marks := by rw [clearAbandon_frame]
@[simp] theorem clearAbandon_mask (index : Nat) : (s.clearAbandon index).mask = s.mask := by rw [clearAbandon_frame]
@[simp] theorem clearAbandon_loop (index : Nat) (j : LoopId) : (s.clearAbandon index).loop j = s.loop j := by simp [loop]
@[simp] theorem clearAbandon_ring (index : Nat) (j : LoopId) : (s.clearAbandon index).ring j = s.ring j := by simp [ring]
@[simp] theorem clearAbandon_feed (index : Nat) (j : LoopId) : (s.clearAbandon index).feed j = s.feed j := by simp [feed]
@[simp] theorem clearAbandon_record (index : Nat) (j : SlotId) : (s.clearAbandon index).record j = s.record j := by simp [record]
@[simp] theorem clearAbandon_ctx (index : Nat) (j : CtxId) : (s.clearAbandon index).ctx j = s.ctx j := by simp [ctx]
@[simp] theorem clearAbandon_trunk (index : Nat) (j : Trunk) : (s.clearAbandon index).trunk j = s.trunk j := by cases j <;> simp [trunk]
@[simp] theorem clearAbandon_path (index : Nat) (j : CtxId) : (s.clearAbandon index).path j = s.path j := by simp [path]
@[simp] theorem clearAbandon_player (index : Nat) (j : CtxId) : (s.clearAbandon index).player j = s.player j := by simp [player]
@[simp] theorem clearAbandon_segment (index : Nat) (j : SegId) : (s.clearAbandon index).segment j = s.segment j := by simp [segment]
@[simp] theorem clearAbandon_service (index : Nat) (j : Trunk) : (s.clearAbandon index).service j = s.service j := by cases j <;> simp [service]
@[simp] theorem clearAbandon_param (index : Nat) (j : Fin 25) : (s.clearAbandon index).param j = s.param j := by simp [param]

/-! ### countAbandon -/

theorem countAbandon_frame (x : Raise) : s.countAbandon x = { s with
    abandons := (s.countAbandon x).abandons
    abandonPosts := (s.countAbandon x).abandonPosts } := by
  apply State.ext <;> first | with_reducible rfl | (unfold countAbandon; dsimp only; (repeat' split) <;> simp)
@[simp] theorem countAbandon_pending (x : Raise) : (s.countAbandon x).pending = s.pending := by rw [countAbandon_frame]
@[simp] theorem countAbandon_handed (x : Raise) : (s.countAbandon x).handed = s.handed := by rw [countAbandon_frame]
@[simp] theorem countAbandon_loops (x : Raise) : (s.countAbandon x).loops = s.loops := by rw [countAbandon_frame]
@[simp] theorem countAbandon_rings (x : Raise) : (s.countAbandon x).rings = s.rings := by rw [countAbandon_frame]
@[simp] theorem countAbandon_feeds (x : Raise) : (s.countAbandon x).feeds = s.feeds := by rw [countAbandon_frame]
@[simp] theorem countAbandon_supply (x : Raise) : (s.countAbandon x).supply = s.supply := by rw [countAbandon_frame]
@[simp] theorem countAbandon_directory (x : Raise) : (s.countAbandon x).directory = s.directory := by rw [countAbandon_frame]
@[simp] theorem countAbandon_contexts (x : Raise) : (s.countAbandon x).contexts = s.contexts := by rw [countAbandon_frame]
@[simp] theorem countAbandon_waiting (x : Raise) : (s.countAbandon x).waiting = s.waiting := by rw [countAbandon_frame]
@[simp] theorem countAbandon_entryCount (x : Raise) : (s.countAbandon x).entryCount = s.entryCount := by rw [countAbandon_frame]
@[simp] theorem countAbandon_routes (x : Raise) : (s.countAbandon x).routes = s.routes := by rw [countAbandon_frame]
@[simp] theorem countAbandon_plan (x : Raise) : (s.countAbandon x).plan = s.plan := by rw [countAbandon_frame]
@[simp] theorem countAbandon_trunkA (x : Raise) : (s.countAbandon x).trunkA = s.trunkA := by rw [countAbandon_frame]
@[simp] theorem countAbandon_trunkB (x : Raise) : (s.countAbandon x).trunkB = s.trunkB := by rw [countAbandon_frame]
@[simp] theorem countAbandon_paths (x : Raise) : (s.countAbandon x).paths = s.paths := by rw [countAbandon_frame]
@[simp] theorem countAbandon_samples (x : Raise) : (s.countAbandon x).samples = s.samples := by rw [countAbandon_frame]
@[simp] theorem countAbandon_segments (x : Raise) : (s.countAbandon x).segments = s.segments := by rw [countAbandon_frame]
@[simp] theorem countAbandon_players (x : Raise) : (s.countAbandon x).players = s.players := by rw [countAbandon_frame]
@[simp] theorem countAbandon_serviceA (x : Raise) : (s.countAbandon x).serviceA = s.serviceA := by rw [countAbandon_frame]
@[simp] theorem countAbandon_serviceB (x : Raise) : (s.countAbandon x).serviceB = s.serviceB := by rw [countAbandon_frame]
@[simp] theorem countAbandon_home (x : Raise) : (s.countAbandon x).home = s.home := by rw [countAbandon_frame]
@[simp] theorem countAbandon_settings (x : Raise) : (s.countAbandon x).settings = s.settings := by rw [countAbandon_frame]
@[simp] theorem countAbandon_sectionFault (x : Raise) : (s.countAbandon x).sectionFault = s.sectionFault := by rw [countAbandon_frame]
@[simp] theorem countAbandon_trunkFaultA (x : Raise) : (s.countAbandon x).trunkFaultA = s.trunkFaultA := by rw [countAbandon_frame]
@[simp] theorem countAbandon_trunkFaultB (x : Raise) : (s.countAbandon x).trunkFaultB = s.trunkFaultB := by rw [countAbandon_frame]
@[simp] theorem countAbandon_loopFaults (x : Raise) : (s.countAbandon x).loopFaults = s.loopFaults := by rw [countAbandon_frame]
@[simp] theorem countAbandon_postFaults (x : Raise) : (s.countAbandon x).postFaults = s.postFaults := by rw [countAbandon_frame]
@[simp] theorem countAbandon_testResults (x : Raise) : (s.countAbandon x).testResults = s.testResults := by rw [countAbandon_frame]
@[simp] theorem countAbandon_marks (x : Raise) : (s.countAbandon x).marks = s.marks := by rw [countAbandon_frame]
@[simp] theorem countAbandon_mask (x : Raise) : (s.countAbandon x).mask = s.mask := by rw [countAbandon_frame]
@[simp] theorem countAbandon_loop (x : Raise) (j : LoopId) : (s.countAbandon x).loop j = s.loop j := by simp [loop]
@[simp] theorem countAbandon_ring (x : Raise) (j : LoopId) : (s.countAbandon x).ring j = s.ring j := by simp [ring]
@[simp] theorem countAbandon_feed (x : Raise) (j : LoopId) : (s.countAbandon x).feed j = s.feed j := by simp [feed]
@[simp] theorem countAbandon_record (x : Raise) (j : SlotId) : (s.countAbandon x).record j = s.record j := by simp [record]
@[simp] theorem countAbandon_ctx (x : Raise) (j : CtxId) : (s.countAbandon x).ctx j = s.ctx j := by simp [ctx]
@[simp] theorem countAbandon_trunk (x : Raise) (j : Trunk) : (s.countAbandon x).trunk j = s.trunk j := by cases j <;> simp [trunk]
@[simp] theorem countAbandon_path (x : Raise) (j : CtxId) : (s.countAbandon x).path j = s.path j := by simp [path]
@[simp] theorem countAbandon_player (x : Raise) (j : CtxId) : (s.countAbandon x).player j = s.player j := by simp [player]
@[simp] theorem countAbandon_segment (x : Raise) (j : SegId) : (s.countAbandon x).segment j = s.segment j := by simp [segment]
@[simp] theorem countAbandon_service (x : Raise) (j : Trunk) : (s.countAbandon x).service j = s.service j := by cases j <;> simp [service]
@[simp] theorem countAbandon_param (x : Raise) (j : Fin 25) : (s.countAbandon x).param j = s.param j := by simp [param]

/-! ### raiseNow -/

theorem raiseNow_frame (x : Raise) : s.raiseNow x = { s with
    abandons := (s.raiseNow x).abandons
    abandonPosts := (s.raiseNow x).abandonPosts
    marks := (s.raiseNow x).marks } := by
  apply State.ext <;> first | with_reducible rfl | (unfold raiseNow; dsimp only; (repeat' split) <;> simp)
@[simp] theorem raiseNow_pending (x : Raise) : (s.raiseNow x).pending = s.pending := by rw [raiseNow_frame]
@[simp] theorem raiseNow_handed (x : Raise) : (s.raiseNow x).handed = s.handed := by rw [raiseNow_frame]
@[simp] theorem raiseNow_loops (x : Raise) : (s.raiseNow x).loops = s.loops := by rw [raiseNow_frame]
@[simp] theorem raiseNow_rings (x : Raise) : (s.raiseNow x).rings = s.rings := by rw [raiseNow_frame]
@[simp] theorem raiseNow_feeds (x : Raise) : (s.raiseNow x).feeds = s.feeds := by rw [raiseNow_frame]
@[simp] theorem raiseNow_supply (x : Raise) : (s.raiseNow x).supply = s.supply := by rw [raiseNow_frame]
@[simp] theorem raiseNow_directory (x : Raise) : (s.raiseNow x).directory = s.directory := by rw [raiseNow_frame]
@[simp] theorem raiseNow_contexts (x : Raise) : (s.raiseNow x).contexts = s.contexts := by rw [raiseNow_frame]
@[simp] theorem raiseNow_waiting (x : Raise) : (s.raiseNow x).waiting = s.waiting := by rw [raiseNow_frame]
@[simp] theorem raiseNow_entryCount (x : Raise) : (s.raiseNow x).entryCount = s.entryCount := by rw [raiseNow_frame]
@[simp] theorem raiseNow_routes (x : Raise) : (s.raiseNow x).routes = s.routes := by rw [raiseNow_frame]
@[simp] theorem raiseNow_plan (x : Raise) : (s.raiseNow x).plan = s.plan := by rw [raiseNow_frame]
@[simp] theorem raiseNow_trunkA (x : Raise) : (s.raiseNow x).trunkA = s.trunkA := by rw [raiseNow_frame]
@[simp] theorem raiseNow_trunkB (x : Raise) : (s.raiseNow x).trunkB = s.trunkB := by rw [raiseNow_frame]
@[simp] theorem raiseNow_paths (x : Raise) : (s.raiseNow x).paths = s.paths := by rw [raiseNow_frame]
@[simp] theorem raiseNow_samples (x : Raise) : (s.raiseNow x).samples = s.samples := by rw [raiseNow_frame]
@[simp] theorem raiseNow_segments (x : Raise) : (s.raiseNow x).segments = s.segments := by rw [raiseNow_frame]
@[simp] theorem raiseNow_players (x : Raise) : (s.raiseNow x).players = s.players := by rw [raiseNow_frame]
@[simp] theorem raiseNow_serviceA (x : Raise) : (s.raiseNow x).serviceA = s.serviceA := by rw [raiseNow_frame]
@[simp] theorem raiseNow_serviceB (x : Raise) : (s.raiseNow x).serviceB = s.serviceB := by rw [raiseNow_frame]
@[simp] theorem raiseNow_home (x : Raise) : (s.raiseNow x).home = s.home := by rw [raiseNow_frame]
@[simp] theorem raiseNow_settings (x : Raise) : (s.raiseNow x).settings = s.settings := by rw [raiseNow_frame]
@[simp] theorem raiseNow_sectionFault (x : Raise) : (s.raiseNow x).sectionFault = s.sectionFault := by rw [raiseNow_frame]
@[simp] theorem raiseNow_trunkFaultA (x : Raise) : (s.raiseNow x).trunkFaultA = s.trunkFaultA := by rw [raiseNow_frame]
@[simp] theorem raiseNow_trunkFaultB (x : Raise) : (s.raiseNow x).trunkFaultB = s.trunkFaultB := by rw [raiseNow_frame]
@[simp] theorem raiseNow_loopFaults (x : Raise) : (s.raiseNow x).loopFaults = s.loopFaults := by rw [raiseNow_frame]
@[simp] theorem raiseNow_postFaults (x : Raise) : (s.raiseNow x).postFaults = s.postFaults := by rw [raiseNow_frame]
@[simp] theorem raiseNow_testResults (x : Raise) : (s.raiseNow x).testResults = s.testResults := by rw [raiseNow_frame]
@[simp] theorem raiseNow_mask (x : Raise) : (s.raiseNow x).mask = s.mask := by rw [raiseNow_frame]
@[simp] theorem raiseNow_loop (x : Raise) (j : LoopId) : (s.raiseNow x).loop j = s.loop j := by simp [loop]
@[simp] theorem raiseNow_ring (x : Raise) (j : LoopId) : (s.raiseNow x).ring j = s.ring j := by simp [ring]
@[simp] theorem raiseNow_feed (x : Raise) (j : LoopId) : (s.raiseNow x).feed j = s.feed j := by simp [feed]
@[simp] theorem raiseNow_record (x : Raise) (j : SlotId) : (s.raiseNow x).record j = s.record j := by simp [record]
@[simp] theorem raiseNow_ctx (x : Raise) (j : CtxId) : (s.raiseNow x).ctx j = s.ctx j := by simp [ctx]
@[simp] theorem raiseNow_trunk (x : Raise) (j : Trunk) : (s.raiseNow x).trunk j = s.trunk j := by cases j <;> simp [trunk]
@[simp] theorem raiseNow_path (x : Raise) (j : CtxId) : (s.raiseNow x).path j = s.path j := by simp [path]
@[simp] theorem raiseNow_player (x : Raise) (j : CtxId) : (s.raiseNow x).player j = s.player j := by simp [player]
@[simp] theorem raiseNow_segment (x : Raise) (j : SegId) : (s.raiseNow x).segment j = s.segment j := by simp [segment]
@[simp] theorem raiseNow_service (x : Raise) (j : Trunk) : (s.raiseNow x).service j = s.service j := by cases j <;> simp [service]
@[simp] theorem raiseNow_param (x : Raise) (j : Fin 25) : (s.raiseNow x).param j = s.param j := by simp [param]

/-! ### clearMark -/

theorem clearMark_frame (m : Nat × Nat) : s.clearMark m = { s with
    abandons := (s.clearMark m).abandons
    abandonPosts := (s.clearMark m).abandonPosts
    marks := (s.clearMark m).marks } := by
  apply State.ext <;> first | with_reducible rfl | (unfold clearMark; dsimp only; (repeat' split) <;> simp)
@[simp] theorem clearMark_pending (m : Nat × Nat) : (s.clearMark m).pending = s.pending := by rw [clearMark_frame]
@[simp] theorem clearMark_handed (m : Nat × Nat) : (s.clearMark m).handed = s.handed := by rw [clearMark_frame]
@[simp] theorem clearMark_loops (m : Nat × Nat) : (s.clearMark m).loops = s.loops := by rw [clearMark_frame]
@[simp] theorem clearMark_rings (m : Nat × Nat) : (s.clearMark m).rings = s.rings := by rw [clearMark_frame]
@[simp] theorem clearMark_feeds (m : Nat × Nat) : (s.clearMark m).feeds = s.feeds := by rw [clearMark_frame]
@[simp] theorem clearMark_supply (m : Nat × Nat) : (s.clearMark m).supply = s.supply := by rw [clearMark_frame]
@[simp] theorem clearMark_directory (m : Nat × Nat) : (s.clearMark m).directory = s.directory := by rw [clearMark_frame]
@[simp] theorem clearMark_contexts (m : Nat × Nat) : (s.clearMark m).contexts = s.contexts := by rw [clearMark_frame]
@[simp] theorem clearMark_waiting (m : Nat × Nat) : (s.clearMark m).waiting = s.waiting := by rw [clearMark_frame]
@[simp] theorem clearMark_entryCount (m : Nat × Nat) : (s.clearMark m).entryCount = s.entryCount := by rw [clearMark_frame]
@[simp] theorem clearMark_routes (m : Nat × Nat) : (s.clearMark m).routes = s.routes := by rw [clearMark_frame]
@[simp] theorem clearMark_plan (m : Nat × Nat) : (s.clearMark m).plan = s.plan := by rw [clearMark_frame]
@[simp] theorem clearMark_trunkA (m : Nat × Nat) : (s.clearMark m).trunkA = s.trunkA := by rw [clearMark_frame]
@[simp] theorem clearMark_trunkB (m : Nat × Nat) : (s.clearMark m).trunkB = s.trunkB := by rw [clearMark_frame]
@[simp] theorem clearMark_paths (m : Nat × Nat) : (s.clearMark m).paths = s.paths := by rw [clearMark_frame]
@[simp] theorem clearMark_samples (m : Nat × Nat) : (s.clearMark m).samples = s.samples := by rw [clearMark_frame]
@[simp] theorem clearMark_segments (m : Nat × Nat) : (s.clearMark m).segments = s.segments := by rw [clearMark_frame]
@[simp] theorem clearMark_players (m : Nat × Nat) : (s.clearMark m).players = s.players := by rw [clearMark_frame]
@[simp] theorem clearMark_serviceA (m : Nat × Nat) : (s.clearMark m).serviceA = s.serviceA := by rw [clearMark_frame]
@[simp] theorem clearMark_serviceB (m : Nat × Nat) : (s.clearMark m).serviceB = s.serviceB := by rw [clearMark_frame]
@[simp] theorem clearMark_home (m : Nat × Nat) : (s.clearMark m).home = s.home := by rw [clearMark_frame]
@[simp] theorem clearMark_settings (m : Nat × Nat) : (s.clearMark m).settings = s.settings := by rw [clearMark_frame]
@[simp] theorem clearMark_sectionFault (m : Nat × Nat) : (s.clearMark m).sectionFault = s.sectionFault := by rw [clearMark_frame]
@[simp] theorem clearMark_trunkFaultA (m : Nat × Nat) : (s.clearMark m).trunkFaultA = s.trunkFaultA := by rw [clearMark_frame]
@[simp] theorem clearMark_trunkFaultB (m : Nat × Nat) : (s.clearMark m).trunkFaultB = s.trunkFaultB := by rw [clearMark_frame]
@[simp] theorem clearMark_loopFaults (m : Nat × Nat) : (s.clearMark m).loopFaults = s.loopFaults := by rw [clearMark_frame]
@[simp] theorem clearMark_postFaults (m : Nat × Nat) : (s.clearMark m).postFaults = s.postFaults := by rw [clearMark_frame]
@[simp] theorem clearMark_testResults (m : Nat × Nat) : (s.clearMark m).testResults = s.testResults := by rw [clearMark_frame]
@[simp] theorem clearMark_mask (m : Nat × Nat) : (s.clearMark m).mask = s.mask := by rw [clearMark_frame]
@[simp] theorem clearMark_loop (m : Nat × Nat) (j : LoopId) : (s.clearMark m).loop j = s.loop j := by simp [loop]
@[simp] theorem clearMark_ring (m : Nat × Nat) (j : LoopId) : (s.clearMark m).ring j = s.ring j := by simp [ring]
@[simp] theorem clearMark_feed (m : Nat × Nat) (j : LoopId) : (s.clearMark m).feed j = s.feed j := by simp [feed]
@[simp] theorem clearMark_record (m : Nat × Nat) (j : SlotId) : (s.clearMark m).record j = s.record j := by simp [record]
@[simp] theorem clearMark_ctx (m : Nat × Nat) (j : CtxId) : (s.clearMark m).ctx j = s.ctx j := by simp [ctx]
@[simp] theorem clearMark_trunk (m : Nat × Nat) (j : Trunk) : (s.clearMark m).trunk j = s.trunk j := by cases j <;> simp [trunk]
@[simp] theorem clearMark_path (m : Nat × Nat) (j : CtxId) : (s.clearMark m).path j = s.path j := by simp [path]
@[simp] theorem clearMark_player (m : Nat × Nat) (j : CtxId) : (s.clearMark m).player j = s.player j := by simp [player]
@[simp] theorem clearMark_segment (m : Nat × Nat) (j : SegId) : (s.clearMark m).segment j = s.segment j := by simp [segment]
@[simp] theorem clearMark_service (m : Nat × Nat) (j : Trunk) : (s.clearMark m).service j = s.service j := by cases j <;> simp [service]
@[simp] theorem clearMark_param (m : Nat × Nat) (j : Fin 25) : (s.clearMark m).param j = s.param j := by simp [param]

/-! ### startNotice -/

theorem startNotice_frame (m : Nat × Nat) : s.startNotice m = { s with
    abandons := (s.startNotice m).abandons
    abandonPosts := (s.startNotice m).abandonPosts
    marks := (s.startNotice m).marks
    serviceA := (s.startNotice m).serviceA
    serviceB := (s.startNotice m).serviceB } := by
  apply State.ext <;> first | with_reducible rfl | (simp [startNotice])
@[simp] theorem startNotice_pending (m : Nat × Nat) : (s.startNotice m).pending = s.pending := by rw [startNotice_frame]
@[simp] theorem startNotice_handed (m : Nat × Nat) : (s.startNotice m).handed = s.handed := by rw [startNotice_frame]
@[simp] theorem startNotice_loops (m : Nat × Nat) : (s.startNotice m).loops = s.loops := by rw [startNotice_frame]
@[simp] theorem startNotice_rings (m : Nat × Nat) : (s.startNotice m).rings = s.rings := by rw [startNotice_frame]
@[simp] theorem startNotice_feeds (m : Nat × Nat) : (s.startNotice m).feeds = s.feeds := by rw [startNotice_frame]
@[simp] theorem startNotice_supply (m : Nat × Nat) : (s.startNotice m).supply = s.supply := by rw [startNotice_frame]
@[simp] theorem startNotice_directory (m : Nat × Nat) : (s.startNotice m).directory = s.directory := by rw [startNotice_frame]
@[simp] theorem startNotice_contexts (m : Nat × Nat) : (s.startNotice m).contexts = s.contexts := by rw [startNotice_frame]
@[simp] theorem startNotice_waiting (m : Nat × Nat) : (s.startNotice m).waiting = s.waiting := by rw [startNotice_frame]
@[simp] theorem startNotice_entryCount (m : Nat × Nat) : (s.startNotice m).entryCount = s.entryCount := by rw [startNotice_frame]
@[simp] theorem startNotice_routes (m : Nat × Nat) : (s.startNotice m).routes = s.routes := by rw [startNotice_frame]
@[simp] theorem startNotice_plan (m : Nat × Nat) : (s.startNotice m).plan = s.plan := by rw [startNotice_frame]
@[simp] theorem startNotice_trunkA (m : Nat × Nat) : (s.startNotice m).trunkA = s.trunkA := by rw [startNotice_frame]
@[simp] theorem startNotice_trunkB (m : Nat × Nat) : (s.startNotice m).trunkB = s.trunkB := by rw [startNotice_frame]
@[simp] theorem startNotice_paths (m : Nat × Nat) : (s.startNotice m).paths = s.paths := by rw [startNotice_frame]
@[simp] theorem startNotice_samples (m : Nat × Nat) : (s.startNotice m).samples = s.samples := by rw [startNotice_frame]
@[simp] theorem startNotice_segments (m : Nat × Nat) : (s.startNotice m).segments = s.segments := by rw [startNotice_frame]
@[simp] theorem startNotice_players (m : Nat × Nat) : (s.startNotice m).players = s.players := by rw [startNotice_frame]
@[simp] theorem startNotice_home (m : Nat × Nat) : (s.startNotice m).home = s.home := by rw [startNotice_frame]
@[simp] theorem startNotice_settings (m : Nat × Nat) : (s.startNotice m).settings = s.settings := by rw [startNotice_frame]
@[simp] theorem startNotice_sectionFault (m : Nat × Nat) : (s.startNotice m).sectionFault = s.sectionFault := by rw [startNotice_frame]
@[simp] theorem startNotice_trunkFaultA (m : Nat × Nat) : (s.startNotice m).trunkFaultA = s.trunkFaultA := by rw [startNotice_frame]
@[simp] theorem startNotice_trunkFaultB (m : Nat × Nat) : (s.startNotice m).trunkFaultB = s.trunkFaultB := by rw [startNotice_frame]
@[simp] theorem startNotice_loopFaults (m : Nat × Nat) : (s.startNotice m).loopFaults = s.loopFaults := by rw [startNotice_frame]
@[simp] theorem startNotice_postFaults (m : Nat × Nat) : (s.startNotice m).postFaults = s.postFaults := by rw [startNotice_frame]
@[simp] theorem startNotice_testResults (m : Nat × Nat) : (s.startNotice m).testResults = s.testResults := by rw [startNotice_frame]
@[simp] theorem startNotice_mask (m : Nat × Nat) : (s.startNotice m).mask = s.mask := by rw [startNotice_frame]
@[simp] theorem startNotice_loop (m : Nat × Nat) (j : LoopId) : (s.startNotice m).loop j = s.loop j := by simp [loop]
@[simp] theorem startNotice_ring (m : Nat × Nat) (j : LoopId) : (s.startNotice m).ring j = s.ring j := by simp [ring]
@[simp] theorem startNotice_feed (m : Nat × Nat) (j : LoopId) : (s.startNotice m).feed j = s.feed j := by simp [feed]
@[simp] theorem startNotice_record (m : Nat × Nat) (j : SlotId) : (s.startNotice m).record j = s.record j := by simp [record]
@[simp] theorem startNotice_ctx (m : Nat × Nat) (j : CtxId) : (s.startNotice m).ctx j = s.ctx j := by simp [ctx]
@[simp] theorem startNotice_trunk (m : Nat × Nat) (j : Trunk) : (s.startNotice m).trunk j = s.trunk j := by cases j <;> simp [trunk]
@[simp] theorem startNotice_path (m : Nat × Nat) (j : CtxId) : (s.startNotice m).path j = s.path j := by simp [path]
@[simp] theorem startNotice_player (m : Nat × Nat) (j : CtxId) : (s.startNotice m).player j = s.player j := by simp [player]
@[simp] theorem startNotice_segment (m : Nat × Nat) (j : SegId) : (s.startNotice m).segment j = s.segment j := by simp [segment]
@[simp] theorem startNotice_param (m : Nat × Nat) (j : Fin 25) : (s.startNotice m).param j = s.param j := by simp [param]

/-! ### reportWrite -/

theorem reportWrite_frame (slot : SlotId) (old new : PostRecord) : s.reportWrite slot old new = { s with
    handed := (s.reportWrite slot old new).handed } := by
  apply State.ext <;> first | with_reducible rfl | (unfold reportWrite; dsimp only; (repeat' split) <;> simp)
@[simp] theorem reportWrite_pending (slot : SlotId) (old new : PostRecord) : (s.reportWrite slot old new).pending = s.pending := by rw [reportWrite_frame]
@[simp] theorem reportWrite_loops (slot : SlotId) (old new : PostRecord) : (s.reportWrite slot old new).loops = s.loops := by rw [reportWrite_frame]
@[simp] theorem reportWrite_rings (slot : SlotId) (old new : PostRecord) : (s.reportWrite slot old new).rings = s.rings := by rw [reportWrite_frame]
@[simp] theorem reportWrite_feeds (slot : SlotId) (old new : PostRecord) : (s.reportWrite slot old new).feeds = s.feeds := by rw [reportWrite_frame]
@[simp] theorem reportWrite_supply (slot : SlotId) (old new : PostRecord) : (s.reportWrite slot old new).supply = s.supply := by rw [reportWrite_frame]
@[simp] theorem reportWrite_directory (slot : SlotId) (old new : PostRecord) : (s.reportWrite slot old new).directory = s.directory := by rw [reportWrite_frame]
@[simp] theorem reportWrite_contexts (slot : SlotId) (old new : PostRecord) : (s.reportWrite slot old new).contexts = s.contexts := by rw [reportWrite_frame]
@[simp] theorem reportWrite_waiting (slot : SlotId) (old new : PostRecord) : (s.reportWrite slot old new).waiting = s.waiting := by rw [reportWrite_frame]
@[simp] theorem reportWrite_entryCount (slot : SlotId) (old new : PostRecord) : (s.reportWrite slot old new).entryCount = s.entryCount := by rw [reportWrite_frame]
@[simp] theorem reportWrite_routes (slot : SlotId) (old new : PostRecord) : (s.reportWrite slot old new).routes = s.routes := by rw [reportWrite_frame]
@[simp] theorem reportWrite_plan (slot : SlotId) (old new : PostRecord) : (s.reportWrite slot old new).plan = s.plan := by rw [reportWrite_frame]
@[simp] theorem reportWrite_trunkA (slot : SlotId) (old new : PostRecord) : (s.reportWrite slot old new).trunkA = s.trunkA := by rw [reportWrite_frame]
@[simp] theorem reportWrite_trunkB (slot : SlotId) (old new : PostRecord) : (s.reportWrite slot old new).trunkB = s.trunkB := by rw [reportWrite_frame]
@[simp] theorem reportWrite_paths (slot : SlotId) (old new : PostRecord) : (s.reportWrite slot old new).paths = s.paths := by rw [reportWrite_frame]
@[simp] theorem reportWrite_samples (slot : SlotId) (old new : PostRecord) : (s.reportWrite slot old new).samples = s.samples := by rw [reportWrite_frame]
@[simp] theorem reportWrite_segments (slot : SlotId) (old new : PostRecord) : (s.reportWrite slot old new).segments = s.segments := by rw [reportWrite_frame]
@[simp] theorem reportWrite_players (slot : SlotId) (old new : PostRecord) : (s.reportWrite slot old new).players = s.players := by rw [reportWrite_frame]
@[simp] theorem reportWrite_serviceA (slot : SlotId) (old new : PostRecord) : (s.reportWrite slot old new).serviceA = s.serviceA := by rw [reportWrite_frame]
@[simp] theorem reportWrite_serviceB (slot : SlotId) (old new : PostRecord) : (s.reportWrite slot old new).serviceB = s.serviceB := by rw [reportWrite_frame]
@[simp] theorem reportWrite_home (slot : SlotId) (old new : PostRecord) : (s.reportWrite slot old new).home = s.home := by rw [reportWrite_frame]
@[simp] theorem reportWrite_settings (slot : SlotId) (old new : PostRecord) : (s.reportWrite slot old new).settings = s.settings := by rw [reportWrite_frame]
@[simp] theorem reportWrite_sectionFault (slot : SlotId) (old new : PostRecord) : (s.reportWrite slot old new).sectionFault = s.sectionFault := by rw [reportWrite_frame]
@[simp] theorem reportWrite_trunkFaultA (slot : SlotId) (old new : PostRecord) : (s.reportWrite slot old new).trunkFaultA = s.trunkFaultA := by rw [reportWrite_frame]
@[simp] theorem reportWrite_trunkFaultB (slot : SlotId) (old new : PostRecord) : (s.reportWrite slot old new).trunkFaultB = s.trunkFaultB := by rw [reportWrite_frame]
@[simp] theorem reportWrite_loopFaults (slot : SlotId) (old new : PostRecord) : (s.reportWrite slot old new).loopFaults = s.loopFaults := by rw [reportWrite_frame]
@[simp] theorem reportWrite_postFaults (slot : SlotId) (old new : PostRecord) : (s.reportWrite slot old new).postFaults = s.postFaults := by rw [reportWrite_frame]
@[simp] theorem reportWrite_testResults (slot : SlotId) (old new : PostRecord) : (s.reportWrite slot old new).testResults = s.testResults := by rw [reportWrite_frame]
@[simp] theorem reportWrite_marks (slot : SlotId) (old new : PostRecord) : (s.reportWrite slot old new).marks = s.marks := by rw [reportWrite_frame]
@[simp] theorem reportWrite_abandons (slot : SlotId) (old new : PostRecord) : (s.reportWrite slot old new).abandons = s.abandons := by rw [reportWrite_frame]
@[simp] theorem reportWrite_abandonPosts (slot : SlotId) (old new : PostRecord) : (s.reportWrite slot old new).abandonPosts = s.abandonPosts := by rw [reportWrite_frame]
@[simp] theorem reportWrite_mask (slot : SlotId) (old new : PostRecord) : (s.reportWrite slot old new).mask = s.mask := by rw [reportWrite_frame]
@[simp] theorem reportWrite_loop (slot : SlotId) (old new : PostRecord) (j : LoopId) : (s.reportWrite slot old new).loop j = s.loop j := by simp [loop]
@[simp] theorem reportWrite_ring (slot : SlotId) (old new : PostRecord) (j : LoopId) : (s.reportWrite slot old new).ring j = s.ring j := by simp [ring]
@[simp] theorem reportWrite_feed (slot : SlotId) (old new : PostRecord) (j : LoopId) : (s.reportWrite slot old new).feed j = s.feed j := by simp [feed]
@[simp] theorem reportWrite_record (slot : SlotId) (old new : PostRecord) (j : SlotId) : (s.reportWrite slot old new).record j = s.record j := by simp [record]
@[simp] theorem reportWrite_ctx (slot : SlotId) (old new : PostRecord) (j : CtxId) : (s.reportWrite slot old new).ctx j = s.ctx j := by simp [ctx]
@[simp] theorem reportWrite_trunk (slot : SlotId) (old new : PostRecord) (j : Trunk) : (s.reportWrite slot old new).trunk j = s.trunk j := by cases j <;> simp [trunk]
@[simp] theorem reportWrite_path (slot : SlotId) (old new : PostRecord) (j : CtxId) : (s.reportWrite slot old new).path j = s.path j := by simp [path]
@[simp] theorem reportWrite_player (slot : SlotId) (old new : PostRecord) (j : CtxId) : (s.reportWrite slot old new).player j = s.player j := by simp [player]
@[simp] theorem reportWrite_segment (slot : SlotId) (old new : PostRecord) (j : SegId) : (s.reportWrite slot old new).segment j = s.segment j := by simp [segment]
@[simp] theorem reportWrite_service (slot : SlotId) (old new : PostRecord) (j : Trunk) : (s.reportWrite slot old new).service j = s.service j := by cases j <;> simp [service]
@[simp] theorem reportWrite_param (slot : SlotId) (old new : PostRecord) (j : Fin 25) : (s.reportWrite slot old new).param j = s.param j := by simp [param]

/-! ### emptySlot -/

theorem emptySlot_frame (slot : SlotId) : s.emptySlot slot = { s with
    directory := (s.emptySlot slot).directory
    handed := (s.emptySlot slot).handed } := by
  apply State.ext <;> first | with_reducible rfl | (unfold emptySlot; dsimp only; (repeat' split) <;> simp)
@[simp] theorem emptySlot_pending (slot : SlotId) : (s.emptySlot slot).pending = s.pending := by rw [emptySlot_frame]
@[simp] theorem emptySlot_loops (slot : SlotId) : (s.emptySlot slot).loops = s.loops := by rw [emptySlot_frame]
@[simp] theorem emptySlot_rings (slot : SlotId) : (s.emptySlot slot).rings = s.rings := by rw [emptySlot_frame]
@[simp] theorem emptySlot_feeds (slot : SlotId) : (s.emptySlot slot).feeds = s.feeds := by rw [emptySlot_frame]
@[simp] theorem emptySlot_supply (slot : SlotId) : (s.emptySlot slot).supply = s.supply := by rw [emptySlot_frame]
@[simp] theorem emptySlot_contexts (slot : SlotId) : (s.emptySlot slot).contexts = s.contexts := by rw [emptySlot_frame]
@[simp] theorem emptySlot_waiting (slot : SlotId) : (s.emptySlot slot).waiting = s.waiting := by rw [emptySlot_frame]
@[simp] theorem emptySlot_entryCount (slot : SlotId) : (s.emptySlot slot).entryCount = s.entryCount := by rw [emptySlot_frame]
@[simp] theorem emptySlot_routes (slot : SlotId) : (s.emptySlot slot).routes = s.routes := by rw [emptySlot_frame]
@[simp] theorem emptySlot_plan (slot : SlotId) : (s.emptySlot slot).plan = s.plan := by rw [emptySlot_frame]
@[simp] theorem emptySlot_trunkA (slot : SlotId) : (s.emptySlot slot).trunkA = s.trunkA := by rw [emptySlot_frame]
@[simp] theorem emptySlot_trunkB (slot : SlotId) : (s.emptySlot slot).trunkB = s.trunkB := by rw [emptySlot_frame]
@[simp] theorem emptySlot_paths (slot : SlotId) : (s.emptySlot slot).paths = s.paths := by rw [emptySlot_frame]
@[simp] theorem emptySlot_samples (slot : SlotId) : (s.emptySlot slot).samples = s.samples := by rw [emptySlot_frame]
@[simp] theorem emptySlot_segments (slot : SlotId) : (s.emptySlot slot).segments = s.segments := by rw [emptySlot_frame]
@[simp] theorem emptySlot_players (slot : SlotId) : (s.emptySlot slot).players = s.players := by rw [emptySlot_frame]
@[simp] theorem emptySlot_serviceA (slot : SlotId) : (s.emptySlot slot).serviceA = s.serviceA := by rw [emptySlot_frame]
@[simp] theorem emptySlot_serviceB (slot : SlotId) : (s.emptySlot slot).serviceB = s.serviceB := by rw [emptySlot_frame]
@[simp] theorem emptySlot_home (slot : SlotId) : (s.emptySlot slot).home = s.home := by rw [emptySlot_frame]
@[simp] theorem emptySlot_settings (slot : SlotId) : (s.emptySlot slot).settings = s.settings := by rw [emptySlot_frame]
@[simp] theorem emptySlot_sectionFault (slot : SlotId) : (s.emptySlot slot).sectionFault = s.sectionFault := by rw [emptySlot_frame]
@[simp] theorem emptySlot_trunkFaultA (slot : SlotId) : (s.emptySlot slot).trunkFaultA = s.trunkFaultA := by rw [emptySlot_frame]
@[simp] theorem emptySlot_trunkFaultB (slot : SlotId) : (s.emptySlot slot).trunkFaultB = s.trunkFaultB := by rw [emptySlot_frame]
@[simp] theorem emptySlot_loopFaults (slot : SlotId) : (s.emptySlot slot).loopFaults = s.loopFaults := by rw [emptySlot_frame]
@[simp] theorem emptySlot_postFaults (slot : SlotId) : (s.emptySlot slot).postFaults = s.postFaults := by rw [emptySlot_frame]
@[simp] theorem emptySlot_testResults (slot : SlotId) : (s.emptySlot slot).testResults = s.testResults := by rw [emptySlot_frame]
@[simp] theorem emptySlot_marks (slot : SlotId) : (s.emptySlot slot).marks = s.marks := by rw [emptySlot_frame]
@[simp] theorem emptySlot_abandons (slot : SlotId) : (s.emptySlot slot).abandons = s.abandons := by rw [emptySlot_frame]
@[simp] theorem emptySlot_abandonPosts (slot : SlotId) : (s.emptySlot slot).abandonPosts = s.abandonPosts := by rw [emptySlot_frame]
@[simp] theorem emptySlot_mask (slot : SlotId) : (s.emptySlot slot).mask = s.mask := by rw [emptySlot_frame]
@[simp] theorem emptySlot_loop (slot : SlotId) (j : LoopId) : (s.emptySlot slot).loop j = s.loop j := by simp [loop]
@[simp] theorem emptySlot_ring (slot : SlotId) (j : LoopId) : (s.emptySlot slot).ring j = s.ring j := by simp [ring]
@[simp] theorem emptySlot_feed (slot : SlotId) (j : LoopId) : (s.emptySlot slot).feed j = s.feed j := by simp [feed]
@[simp] theorem emptySlot_ctx (slot : SlotId) (j : CtxId) : (s.emptySlot slot).ctx j = s.ctx j := by simp [ctx]
@[simp] theorem emptySlot_trunk (slot : SlotId) (j : Trunk) : (s.emptySlot slot).trunk j = s.trunk j := by cases j <;> simp [trunk]
@[simp] theorem emptySlot_path (slot : SlotId) (j : CtxId) : (s.emptySlot slot).path j = s.path j := by simp [path]
@[simp] theorem emptySlot_player (slot : SlotId) (j : CtxId) : (s.emptySlot slot).player j = s.player j := by simp [player]
@[simp] theorem emptySlot_segment (slot : SlotId) (j : SegId) : (s.emptySlot slot).segment j = s.segment j := by simp [segment]
@[simp] theorem emptySlot_service (slot : SlotId) (j : Trunk) : (s.emptySlot slot).service j = s.service j := by cases j <;> simp [service]
@[simp] theorem emptySlot_param (slot : SlotId) (j : Fin 25) : (s.emptySlot slot).param j = s.param j := by simp [param]

/-! ### writeDirectory -/

theorem writeDirectory_frame (index : Nat) (w : PostWrite) : (s.writeDirectory index w).1 = { s with
    directory := ((s.writeDirectory index w).1).directory
    handed := ((s.writeDirectory index w).1).handed } := by
  apply State.ext <;> first | with_reducible rfl | (unfold writeDirectory; dsimp only; (repeat' split) <;> simp)
@[simp] theorem writeDirectory_pending (index : Nat) (w : PostWrite) : ((s.writeDirectory index w).1).pending = s.pending := by rw [writeDirectory_frame]
@[simp] theorem writeDirectory_loops (index : Nat) (w : PostWrite) : ((s.writeDirectory index w).1).loops = s.loops := by rw [writeDirectory_frame]
@[simp] theorem writeDirectory_rings (index : Nat) (w : PostWrite) : ((s.writeDirectory index w).1).rings = s.rings := by rw [writeDirectory_frame]
@[simp] theorem writeDirectory_feeds (index : Nat) (w : PostWrite) : ((s.writeDirectory index w).1).feeds = s.feeds := by rw [writeDirectory_frame]
@[simp] theorem writeDirectory_supply (index : Nat) (w : PostWrite) : ((s.writeDirectory index w).1).supply = s.supply := by rw [writeDirectory_frame]
@[simp] theorem writeDirectory_contexts (index : Nat) (w : PostWrite) : ((s.writeDirectory index w).1).contexts = s.contexts := by rw [writeDirectory_frame]
@[simp] theorem writeDirectory_waiting (index : Nat) (w : PostWrite) : ((s.writeDirectory index w).1).waiting = s.waiting := by rw [writeDirectory_frame]
@[simp] theorem writeDirectory_entryCount (index : Nat) (w : PostWrite) : ((s.writeDirectory index w).1).entryCount = s.entryCount := by rw [writeDirectory_frame]
@[simp] theorem writeDirectory_routes (index : Nat) (w : PostWrite) : ((s.writeDirectory index w).1).routes = s.routes := by rw [writeDirectory_frame]
@[simp] theorem writeDirectory_plan (index : Nat) (w : PostWrite) : ((s.writeDirectory index w).1).plan = s.plan := by rw [writeDirectory_frame]
@[simp] theorem writeDirectory_trunkA (index : Nat) (w : PostWrite) : ((s.writeDirectory index w).1).trunkA = s.trunkA := by rw [writeDirectory_frame]
@[simp] theorem writeDirectory_trunkB (index : Nat) (w : PostWrite) : ((s.writeDirectory index w).1).trunkB = s.trunkB := by rw [writeDirectory_frame]
@[simp] theorem writeDirectory_paths (index : Nat) (w : PostWrite) : ((s.writeDirectory index w).1).paths = s.paths := by rw [writeDirectory_frame]
@[simp] theorem writeDirectory_samples (index : Nat) (w : PostWrite) : ((s.writeDirectory index w).1).samples = s.samples := by rw [writeDirectory_frame]
@[simp] theorem writeDirectory_segments (index : Nat) (w : PostWrite) : ((s.writeDirectory index w).1).segments = s.segments := by rw [writeDirectory_frame]
@[simp] theorem writeDirectory_players (index : Nat) (w : PostWrite) : ((s.writeDirectory index w).1).players = s.players := by rw [writeDirectory_frame]
@[simp] theorem writeDirectory_serviceA (index : Nat) (w : PostWrite) : ((s.writeDirectory index w).1).serviceA = s.serviceA := by rw [writeDirectory_frame]
@[simp] theorem writeDirectory_serviceB (index : Nat) (w : PostWrite) : ((s.writeDirectory index w).1).serviceB = s.serviceB := by rw [writeDirectory_frame]
@[simp] theorem writeDirectory_home (index : Nat) (w : PostWrite) : ((s.writeDirectory index w).1).home = s.home := by rw [writeDirectory_frame]
@[simp] theorem writeDirectory_settings (index : Nat) (w : PostWrite) : ((s.writeDirectory index w).1).settings = s.settings := by rw [writeDirectory_frame]
@[simp] theorem writeDirectory_sectionFault (index : Nat) (w : PostWrite) : ((s.writeDirectory index w).1).sectionFault = s.sectionFault := by rw [writeDirectory_frame]
@[simp] theorem writeDirectory_trunkFaultA (index : Nat) (w : PostWrite) : ((s.writeDirectory index w).1).trunkFaultA = s.trunkFaultA := by rw [writeDirectory_frame]
@[simp] theorem writeDirectory_trunkFaultB (index : Nat) (w : PostWrite) : ((s.writeDirectory index w).1).trunkFaultB = s.trunkFaultB := by rw [writeDirectory_frame]
@[simp] theorem writeDirectory_loopFaults (index : Nat) (w : PostWrite) : ((s.writeDirectory index w).1).loopFaults = s.loopFaults := by rw [writeDirectory_frame]
@[simp] theorem writeDirectory_postFaults (index : Nat) (w : PostWrite) : ((s.writeDirectory index w).1).postFaults = s.postFaults := by rw [writeDirectory_frame]
@[simp] theorem writeDirectory_testResults (index : Nat) (w : PostWrite) : ((s.writeDirectory index w).1).testResults = s.testResults := by rw [writeDirectory_frame]
@[simp] theorem writeDirectory_marks (index : Nat) (w : PostWrite) : ((s.writeDirectory index w).1).marks = s.marks := by rw [writeDirectory_frame]
@[simp] theorem writeDirectory_abandons (index : Nat) (w : PostWrite) : ((s.writeDirectory index w).1).abandons = s.abandons := by rw [writeDirectory_frame]
@[simp] theorem writeDirectory_abandonPosts (index : Nat) (w : PostWrite) : ((s.writeDirectory index w).1).abandonPosts = s.abandonPosts := by rw [writeDirectory_frame]
@[simp] theorem writeDirectory_mask (index : Nat) (w : PostWrite) : ((s.writeDirectory index w).1).mask = s.mask := by rw [writeDirectory_frame]
@[simp] theorem writeDirectory_loop (index : Nat) (w : PostWrite) (j : LoopId) : ((s.writeDirectory index w).1).loop j = s.loop j := by simp [loop]
@[simp] theorem writeDirectory_ring (index : Nat) (w : PostWrite) (j : LoopId) : ((s.writeDirectory index w).1).ring j = s.ring j := by simp [ring]
@[simp] theorem writeDirectory_feed (index : Nat) (w : PostWrite) (j : LoopId) : ((s.writeDirectory index w).1).feed j = s.feed j := by simp [feed]
@[simp] theorem writeDirectory_ctx (index : Nat) (w : PostWrite) (j : CtxId) : ((s.writeDirectory index w).1).ctx j = s.ctx j := by simp [ctx]
@[simp] theorem writeDirectory_trunk (index : Nat) (w : PostWrite) (j : Trunk) : ((s.writeDirectory index w).1).trunk j = s.trunk j := by cases j <;> simp [trunk]
@[simp] theorem writeDirectory_path (index : Nat) (w : PostWrite) (j : CtxId) : ((s.writeDirectory index w).1).path j = s.path j := by simp [path]
@[simp] theorem writeDirectory_player (index : Nat) (w : PostWrite) (j : CtxId) : ((s.writeDirectory index w).1).player j = s.player j := by simp [player]
@[simp] theorem writeDirectory_segment (index : Nat) (w : PostWrite) (j : SegId) : ((s.writeDirectory index w).1).segment j = s.segment j := by simp [segment]
@[simp] theorem writeDirectory_service (index : Nat) (w : PostWrite) (j : Trunk) : ((s.writeDirectory index w).1).service j = s.service j := by cases j <;> simp [service]
@[simp] theorem writeDirectory_param (index : Nat) (w : PostWrite) (j : Fin 25) : ((s.writeDirectory index w).1).param j = s.param j := by simp [param]

/-! ### storeRoute -/

theorem storeRoute_frame (i : Fin 64) (ts : List Target) : s.storeRoute i ts = { s with
    routes := (s.storeRoute i ts).routes
    contexts := (s.storeRoute i ts).contexts
    loops := (s.storeRoute i ts).loops
    trunkA := (s.storeRoute i ts).trunkA
    trunkB := (s.storeRoute i ts).trunkB
    handed := (s.storeRoute i ts).handed } := by
  apply State.ext <;> first | with_reducible rfl | (simp [storeRoute])
@[simp] theorem storeRoute_pending (i : Fin 64) (ts : List Target) : (s.storeRoute i ts).pending = s.pending := by rw [storeRoute_frame]
@[simp] theorem storeRoute_rings (i : Fin 64) (ts : List Target) : (s.storeRoute i ts).rings = s.rings := by rw [storeRoute_frame]
@[simp] theorem storeRoute_feeds (i : Fin 64) (ts : List Target) : (s.storeRoute i ts).feeds = s.feeds := by rw [storeRoute_frame]
@[simp] theorem storeRoute_supply (i : Fin 64) (ts : List Target) : (s.storeRoute i ts).supply = s.supply := by rw [storeRoute_frame]
@[simp] theorem storeRoute_directory (i : Fin 64) (ts : List Target) : (s.storeRoute i ts).directory = s.directory := by rw [storeRoute_frame]
@[simp] theorem storeRoute_waiting (i : Fin 64) (ts : List Target) : (s.storeRoute i ts).waiting = s.waiting := by rw [storeRoute_frame]
@[simp] theorem storeRoute_entryCount (i : Fin 64) (ts : List Target) : (s.storeRoute i ts).entryCount = s.entryCount := by rw [storeRoute_frame]
@[simp] theorem storeRoute_plan (i : Fin 64) (ts : List Target) : (s.storeRoute i ts).plan = s.plan := by rw [storeRoute_frame]
@[simp] theorem storeRoute_paths (i : Fin 64) (ts : List Target) : (s.storeRoute i ts).paths = s.paths := by rw [storeRoute_frame]
@[simp] theorem storeRoute_samples (i : Fin 64) (ts : List Target) : (s.storeRoute i ts).samples = s.samples := by rw [storeRoute_frame]
@[simp] theorem storeRoute_segments (i : Fin 64) (ts : List Target) : (s.storeRoute i ts).segments = s.segments := by rw [storeRoute_frame]
@[simp] theorem storeRoute_players (i : Fin 64) (ts : List Target) : (s.storeRoute i ts).players = s.players := by rw [storeRoute_frame]
@[simp] theorem storeRoute_serviceA (i : Fin 64) (ts : List Target) : (s.storeRoute i ts).serviceA = s.serviceA := by rw [storeRoute_frame]
@[simp] theorem storeRoute_serviceB (i : Fin 64) (ts : List Target) : (s.storeRoute i ts).serviceB = s.serviceB := by rw [storeRoute_frame]
@[simp] theorem storeRoute_home (i : Fin 64) (ts : List Target) : (s.storeRoute i ts).home = s.home := by rw [storeRoute_frame]
@[simp] theorem storeRoute_settings (i : Fin 64) (ts : List Target) : (s.storeRoute i ts).settings = s.settings := by rw [storeRoute_frame]
@[simp] theorem storeRoute_sectionFault (i : Fin 64) (ts : List Target) : (s.storeRoute i ts).sectionFault = s.sectionFault := by rw [storeRoute_frame]
@[simp] theorem storeRoute_trunkFaultA (i : Fin 64) (ts : List Target) : (s.storeRoute i ts).trunkFaultA = s.trunkFaultA := by rw [storeRoute_frame]
@[simp] theorem storeRoute_trunkFaultB (i : Fin 64) (ts : List Target) : (s.storeRoute i ts).trunkFaultB = s.trunkFaultB := by rw [storeRoute_frame]
@[simp] theorem storeRoute_loopFaults (i : Fin 64) (ts : List Target) : (s.storeRoute i ts).loopFaults = s.loopFaults := by rw [storeRoute_frame]
@[simp] theorem storeRoute_postFaults (i : Fin 64) (ts : List Target) : (s.storeRoute i ts).postFaults = s.postFaults := by rw [storeRoute_frame]
@[simp] theorem storeRoute_testResults (i : Fin 64) (ts : List Target) : (s.storeRoute i ts).testResults = s.testResults := by rw [storeRoute_frame]
@[simp] theorem storeRoute_marks (i : Fin 64) (ts : List Target) : (s.storeRoute i ts).marks = s.marks := by rw [storeRoute_frame]
@[simp] theorem storeRoute_abandons (i : Fin 64) (ts : List Target) : (s.storeRoute i ts).abandons = s.abandons := by rw [storeRoute_frame]
@[simp] theorem storeRoute_abandonPosts (i : Fin 64) (ts : List Target) : (s.storeRoute i ts).abandonPosts = s.abandonPosts := by rw [storeRoute_frame]
@[simp] theorem storeRoute_mask (i : Fin 64) (ts : List Target) : (s.storeRoute i ts).mask = s.mask := by rw [storeRoute_frame]
@[simp] theorem storeRoute_ring (i : Fin 64) (ts : List Target) (j : LoopId) : (s.storeRoute i ts).ring j = s.ring j := by simp [ring]
@[simp] theorem storeRoute_feed (i : Fin 64) (ts : List Target) (j : LoopId) : (s.storeRoute i ts).feed j = s.feed j := by simp [feed]
@[simp] theorem storeRoute_record (i : Fin 64) (ts : List Target) (j : SlotId) : (s.storeRoute i ts).record j = s.record j := by simp [record]
@[simp] theorem storeRoute_path (i : Fin 64) (ts : List Target) (j : CtxId) : (s.storeRoute i ts).path j = s.path j := by simp [path]
@[simp] theorem storeRoute_player (i : Fin 64) (ts : List Target) (j : CtxId) : (s.storeRoute i ts).player j = s.player j := by simp [player]
@[simp] theorem storeRoute_segment (i : Fin 64) (ts : List Target) (j : SegId) : (s.storeRoute i ts).segment j = s.segment j := by simp [segment]
@[simp] theorem storeRoute_service (i : Fin 64) (ts : List Target) (j : Trunk) : (s.storeRoute i ts).service j = s.service j := by cases j <;> simp [service]
@[simp] theorem storeRoute_param (i : Fin 64) (ts : List Target) (j : Fin 25) : (s.storeRoute i ts).param j = s.param j := by simp [param]

/-! ### holdLongAtOnce -/

theorem holdLongAtOnce_frame (c : CtxId) : s.holdLongAtOnce c = { s with
    contexts := (s.holdLongAtOnce c).contexts
    handed := (s.holdLongAtOnce c).handed } := by
  apply State.ext <;> first | with_reducible rfl | (unfold holdLongAtOnce; dsimp only; (repeat' split) <;> simp)
@[simp] theorem holdLongAtOnce_pending (c : CtxId) : (s.holdLongAtOnce c).pending = s.pending := by rw [holdLongAtOnce_frame]
@[simp] theorem holdLongAtOnce_loops (c : CtxId) : (s.holdLongAtOnce c).loops = s.loops := by rw [holdLongAtOnce_frame]
@[simp] theorem holdLongAtOnce_rings (c : CtxId) : (s.holdLongAtOnce c).rings = s.rings := by rw [holdLongAtOnce_frame]
@[simp] theorem holdLongAtOnce_feeds (c : CtxId) : (s.holdLongAtOnce c).feeds = s.feeds := by rw [holdLongAtOnce_frame]
@[simp] theorem holdLongAtOnce_supply (c : CtxId) : (s.holdLongAtOnce c).supply = s.supply := by rw [holdLongAtOnce_frame]
@[simp] theorem holdLongAtOnce_directory (c : CtxId) : (s.holdLongAtOnce c).directory = s.directory := by rw [holdLongAtOnce_frame]
@[simp] theorem holdLongAtOnce_waiting (c : CtxId) : (s.holdLongAtOnce c).waiting = s.waiting := by rw [holdLongAtOnce_frame]
@[simp] theorem holdLongAtOnce_entryCount (c : CtxId) : (s.holdLongAtOnce c).entryCount = s.entryCount := by rw [holdLongAtOnce_frame]
@[simp] theorem holdLongAtOnce_routes (c : CtxId) : (s.holdLongAtOnce c).routes = s.routes := by rw [holdLongAtOnce_frame]
@[simp] theorem holdLongAtOnce_plan (c : CtxId) : (s.holdLongAtOnce c).plan = s.plan := by rw [holdLongAtOnce_frame]
@[simp] theorem holdLongAtOnce_trunkA (c : CtxId) : (s.holdLongAtOnce c).trunkA = s.trunkA := by rw [holdLongAtOnce_frame]
@[simp] theorem holdLongAtOnce_trunkB (c : CtxId) : (s.holdLongAtOnce c).trunkB = s.trunkB := by rw [holdLongAtOnce_frame]
@[simp] theorem holdLongAtOnce_paths (c : CtxId) : (s.holdLongAtOnce c).paths = s.paths := by rw [holdLongAtOnce_frame]
@[simp] theorem holdLongAtOnce_samples (c : CtxId) : (s.holdLongAtOnce c).samples = s.samples := by rw [holdLongAtOnce_frame]
@[simp] theorem holdLongAtOnce_segments (c : CtxId) : (s.holdLongAtOnce c).segments = s.segments := by rw [holdLongAtOnce_frame]
@[simp] theorem holdLongAtOnce_players (c : CtxId) : (s.holdLongAtOnce c).players = s.players := by rw [holdLongAtOnce_frame]
@[simp] theorem holdLongAtOnce_serviceA (c : CtxId) : (s.holdLongAtOnce c).serviceA = s.serviceA := by rw [holdLongAtOnce_frame]
@[simp] theorem holdLongAtOnce_serviceB (c : CtxId) : (s.holdLongAtOnce c).serviceB = s.serviceB := by rw [holdLongAtOnce_frame]
@[simp] theorem holdLongAtOnce_home (c : CtxId) : (s.holdLongAtOnce c).home = s.home := by rw [holdLongAtOnce_frame]
@[simp] theorem holdLongAtOnce_settings (c : CtxId) : (s.holdLongAtOnce c).settings = s.settings := by rw [holdLongAtOnce_frame]
@[simp] theorem holdLongAtOnce_sectionFault (c : CtxId) : (s.holdLongAtOnce c).sectionFault = s.sectionFault := by rw [holdLongAtOnce_frame]
@[simp] theorem holdLongAtOnce_trunkFaultA (c : CtxId) : (s.holdLongAtOnce c).trunkFaultA = s.trunkFaultA := by rw [holdLongAtOnce_frame]
@[simp] theorem holdLongAtOnce_trunkFaultB (c : CtxId) : (s.holdLongAtOnce c).trunkFaultB = s.trunkFaultB := by rw [holdLongAtOnce_frame]
@[simp] theorem holdLongAtOnce_loopFaults (c : CtxId) : (s.holdLongAtOnce c).loopFaults = s.loopFaults := by rw [holdLongAtOnce_frame]
@[simp] theorem holdLongAtOnce_postFaults (c : CtxId) : (s.holdLongAtOnce c).postFaults = s.postFaults := by rw [holdLongAtOnce_frame]
@[simp] theorem holdLongAtOnce_testResults (c : CtxId) : (s.holdLongAtOnce c).testResults = s.testResults := by rw [holdLongAtOnce_frame]
@[simp] theorem holdLongAtOnce_marks (c : CtxId) : (s.holdLongAtOnce c).marks = s.marks := by rw [holdLongAtOnce_frame]
@[simp] theorem holdLongAtOnce_abandons (c : CtxId) : (s.holdLongAtOnce c).abandons = s.abandons := by rw [holdLongAtOnce_frame]
@[simp] theorem holdLongAtOnce_abandonPosts (c : CtxId) : (s.holdLongAtOnce c).abandonPosts = s.abandonPosts := by rw [holdLongAtOnce_frame]
@[simp] theorem holdLongAtOnce_mask (c : CtxId) : (s.holdLongAtOnce c).mask = s.mask := by rw [holdLongAtOnce_frame]
@[simp] theorem holdLongAtOnce_loop (c : CtxId) (j : LoopId) : (s.holdLongAtOnce c).loop j = s.loop j := by simp [loop]
@[simp] theorem holdLongAtOnce_ring (c : CtxId) (j : LoopId) : (s.holdLongAtOnce c).ring j = s.ring j := by simp [ring]
@[simp] theorem holdLongAtOnce_feed (c : CtxId) (j : LoopId) : (s.holdLongAtOnce c).feed j = s.feed j := by simp [feed]
@[simp] theorem holdLongAtOnce_record (c : CtxId) (j : SlotId) : (s.holdLongAtOnce c).record j = s.record j := by simp [record]
@[simp] theorem holdLongAtOnce_trunk (c : CtxId) (j : Trunk) : (s.holdLongAtOnce c).trunk j = s.trunk j := by cases j <;> simp [trunk]
@[simp] theorem holdLongAtOnce_path (c : CtxId) (j : CtxId) : (s.holdLongAtOnce c).path j = s.path j := by simp [path]
@[simp] theorem holdLongAtOnce_player (c : CtxId) (j : CtxId) : (s.holdLongAtOnce c).player j = s.player j := by simp [player]
@[simp] theorem holdLongAtOnce_segment (c : CtxId) (j : SegId) : (s.holdLongAtOnce c).segment j = s.segment j := by simp [segment]
@[simp] theorem holdLongAtOnce_service (c : CtxId) (j : Trunk) : (s.holdLongAtOnce c).service j = s.service j := by cases j <;> simp [service]
@[simp] theorem holdLongAtOnce_param (c : CtxId) (j : Fin 25) : (s.holdLongAtOnce c).param j = s.param j := by simp [param]

/-! ### failAtOnce -/

theorem failAtOnce_frame (l : LoopId) : s.failAtOnce l = { s with
    loops := (s.failAtOnce l).loops
    handed := (s.failAtOnce l).handed } := by
  apply State.ext <;> first | with_reducible rfl | (unfold failAtOnce; dsimp only; (repeat' split) <;> simp)
@[simp] theorem failAtOnce_pending (l : LoopId) : (s.failAtOnce l).pending = s.pending := by rw [failAtOnce_frame]
@[simp] theorem failAtOnce_rings (l : LoopId) : (s.failAtOnce l).rings = s.rings := by rw [failAtOnce_frame]
@[simp] theorem failAtOnce_feeds (l : LoopId) : (s.failAtOnce l).feeds = s.feeds := by rw [failAtOnce_frame]
@[simp] theorem failAtOnce_supply (l : LoopId) : (s.failAtOnce l).supply = s.supply := by rw [failAtOnce_frame]
@[simp] theorem failAtOnce_directory (l : LoopId) : (s.failAtOnce l).directory = s.directory := by rw [failAtOnce_frame]
@[simp] theorem failAtOnce_contexts (l : LoopId) : (s.failAtOnce l).contexts = s.contexts := by rw [failAtOnce_frame]
@[simp] theorem failAtOnce_waiting (l : LoopId) : (s.failAtOnce l).waiting = s.waiting := by rw [failAtOnce_frame]
@[simp] theorem failAtOnce_entryCount (l : LoopId) : (s.failAtOnce l).entryCount = s.entryCount := by rw [failAtOnce_frame]
@[simp] theorem failAtOnce_routes (l : LoopId) : (s.failAtOnce l).routes = s.routes := by rw [failAtOnce_frame]
@[simp] theorem failAtOnce_plan (l : LoopId) : (s.failAtOnce l).plan = s.plan := by rw [failAtOnce_frame]
@[simp] theorem failAtOnce_trunkA (l : LoopId) : (s.failAtOnce l).trunkA = s.trunkA := by rw [failAtOnce_frame]
@[simp] theorem failAtOnce_trunkB (l : LoopId) : (s.failAtOnce l).trunkB = s.trunkB := by rw [failAtOnce_frame]
@[simp] theorem failAtOnce_paths (l : LoopId) : (s.failAtOnce l).paths = s.paths := by rw [failAtOnce_frame]
@[simp] theorem failAtOnce_samples (l : LoopId) : (s.failAtOnce l).samples = s.samples := by rw [failAtOnce_frame]
@[simp] theorem failAtOnce_segments (l : LoopId) : (s.failAtOnce l).segments = s.segments := by rw [failAtOnce_frame]
@[simp] theorem failAtOnce_players (l : LoopId) : (s.failAtOnce l).players = s.players := by rw [failAtOnce_frame]
@[simp] theorem failAtOnce_serviceA (l : LoopId) : (s.failAtOnce l).serviceA = s.serviceA := by rw [failAtOnce_frame]
@[simp] theorem failAtOnce_serviceB (l : LoopId) : (s.failAtOnce l).serviceB = s.serviceB := by rw [failAtOnce_frame]
@[simp] theorem failAtOnce_home (l : LoopId) : (s.failAtOnce l).home = s.home := by rw [failAtOnce_frame]
@[simp] theorem failAtOnce_settings (l : LoopId) : (s.failAtOnce l).settings = s.settings := by rw [failAtOnce_frame]
@[simp] theorem failAtOnce_sectionFault (l : LoopId) : (s.failAtOnce l).sectionFault = s.sectionFault := by rw [failAtOnce_frame]
@[simp] theorem failAtOnce_trunkFaultA (l : LoopId) : (s.failAtOnce l).trunkFaultA = s.trunkFaultA := by rw [failAtOnce_frame]
@[simp] theorem failAtOnce_trunkFaultB (l : LoopId) : (s.failAtOnce l).trunkFaultB = s.trunkFaultB := by rw [failAtOnce_frame]
@[simp] theorem failAtOnce_loopFaults (l : LoopId) : (s.failAtOnce l).loopFaults = s.loopFaults := by rw [failAtOnce_frame]
@[simp] theorem failAtOnce_postFaults (l : LoopId) : (s.failAtOnce l).postFaults = s.postFaults := by rw [failAtOnce_frame]
@[simp] theorem failAtOnce_testResults (l : LoopId) : (s.failAtOnce l).testResults = s.testResults := by rw [failAtOnce_frame]
@[simp] theorem failAtOnce_marks (l : LoopId) : (s.failAtOnce l).marks = s.marks := by rw [failAtOnce_frame]
@[simp] theorem failAtOnce_abandons (l : LoopId) : (s.failAtOnce l).abandons = s.abandons := by rw [failAtOnce_frame]
@[simp] theorem failAtOnce_abandonPosts (l : LoopId) : (s.failAtOnce l).abandonPosts = s.abandonPosts := by rw [failAtOnce_frame]
@[simp] theorem failAtOnce_mask (l : LoopId) : (s.failAtOnce l).mask = s.mask := by rw [failAtOnce_frame]
@[simp] theorem failAtOnce_ring (l : LoopId) (j : LoopId) : (s.failAtOnce l).ring j = s.ring j := by simp [ring]
@[simp] theorem failAtOnce_feed (l : LoopId) (j : LoopId) : (s.failAtOnce l).feed j = s.feed j := by simp [feed]
@[simp] theorem failAtOnce_record (l : LoopId) (j : SlotId) : (s.failAtOnce l).record j = s.record j := by simp [record]
@[simp] theorem failAtOnce_ctx (l : LoopId) (j : CtxId) : (s.failAtOnce l).ctx j = s.ctx j := by simp [ctx]
@[simp] theorem failAtOnce_trunk (l : LoopId) (j : Trunk) : (s.failAtOnce l).trunk j = s.trunk j := by cases j <;> simp [trunk]
@[simp] theorem failAtOnce_path (l : LoopId) (j : CtxId) : (s.failAtOnce l).path j = s.path j := by simp [path]
@[simp] theorem failAtOnce_player (l : LoopId) (j : CtxId) : (s.failAtOnce l).player j = s.player j := by simp [player]
@[simp] theorem failAtOnce_segment (l : LoopId) (j : SegId) : (s.failAtOnce l).segment j = s.segment j := by simp [segment]
@[simp] theorem failAtOnce_service (l : LoopId) (j : Trunk) : (s.failAtOnce l).service j = s.service j := by cases j <;> simp [service]
@[simp] theorem failAtOnce_param (l : LoopId) (j : Fin 25) : (s.failAtOnce l).param j = s.param j := by simp [param]

/-! ### settingEffect -/

theorem settingEffect_frame (p : Fin 25) : s.settingEffect p = { s with
    contexts := (s.settingEffect p).contexts
    loops := (s.settingEffect p).loops
    handed := (s.settingEffect p).handed } := by
  apply State.ext <;> first | with_reducible rfl | (unfold settingEffect; split; exact foldl_keeps _ _ (fun _ _ => by simp) _ _; split; exact foldl_keeps _ _ (fun _ _ => by simp) _ _; rfl)
@[simp] theorem settingEffect_pending (p : Fin 25) : (s.settingEffect p).pending = s.pending := by rw [settingEffect_frame]
@[simp] theorem settingEffect_rings (p : Fin 25) : (s.settingEffect p).rings = s.rings := by rw [settingEffect_frame]
@[simp] theorem settingEffect_feeds (p : Fin 25) : (s.settingEffect p).feeds = s.feeds := by rw [settingEffect_frame]
@[simp] theorem settingEffect_supply (p : Fin 25) : (s.settingEffect p).supply = s.supply := by rw [settingEffect_frame]
@[simp] theorem settingEffect_directory (p : Fin 25) : (s.settingEffect p).directory = s.directory := by rw [settingEffect_frame]
@[simp] theorem settingEffect_waiting (p : Fin 25) : (s.settingEffect p).waiting = s.waiting := by rw [settingEffect_frame]
@[simp] theorem settingEffect_entryCount (p : Fin 25) : (s.settingEffect p).entryCount = s.entryCount := by rw [settingEffect_frame]
@[simp] theorem settingEffect_routes (p : Fin 25) : (s.settingEffect p).routes = s.routes := by rw [settingEffect_frame]
@[simp] theorem settingEffect_plan (p : Fin 25) : (s.settingEffect p).plan = s.plan := by rw [settingEffect_frame]
@[simp] theorem settingEffect_trunkA (p : Fin 25) : (s.settingEffect p).trunkA = s.trunkA := by rw [settingEffect_frame]
@[simp] theorem settingEffect_trunkB (p : Fin 25) : (s.settingEffect p).trunkB = s.trunkB := by rw [settingEffect_frame]
@[simp] theorem settingEffect_paths (p : Fin 25) : (s.settingEffect p).paths = s.paths := by rw [settingEffect_frame]
@[simp] theorem settingEffect_samples (p : Fin 25) : (s.settingEffect p).samples = s.samples := by rw [settingEffect_frame]
@[simp] theorem settingEffect_segments (p : Fin 25) : (s.settingEffect p).segments = s.segments := by rw [settingEffect_frame]
@[simp] theorem settingEffect_players (p : Fin 25) : (s.settingEffect p).players = s.players := by rw [settingEffect_frame]
@[simp] theorem settingEffect_serviceA (p : Fin 25) : (s.settingEffect p).serviceA = s.serviceA := by rw [settingEffect_frame]
@[simp] theorem settingEffect_serviceB (p : Fin 25) : (s.settingEffect p).serviceB = s.serviceB := by rw [settingEffect_frame]
@[simp] theorem settingEffect_home (p : Fin 25) : (s.settingEffect p).home = s.home := by rw [settingEffect_frame]
@[simp] theorem settingEffect_settings (p : Fin 25) : (s.settingEffect p).settings = s.settings := by rw [settingEffect_frame]
@[simp] theorem settingEffect_sectionFault (p : Fin 25) : (s.settingEffect p).sectionFault = s.sectionFault := by rw [settingEffect_frame]
@[simp] theorem settingEffect_trunkFaultA (p : Fin 25) : (s.settingEffect p).trunkFaultA = s.trunkFaultA := by rw [settingEffect_frame]
@[simp] theorem settingEffect_trunkFaultB (p : Fin 25) : (s.settingEffect p).trunkFaultB = s.trunkFaultB := by rw [settingEffect_frame]
@[simp] theorem settingEffect_loopFaults (p : Fin 25) : (s.settingEffect p).loopFaults = s.loopFaults := by rw [settingEffect_frame]
@[simp] theorem settingEffect_postFaults (p : Fin 25) : (s.settingEffect p).postFaults = s.postFaults := by rw [settingEffect_frame]
@[simp] theorem settingEffect_testResults (p : Fin 25) : (s.settingEffect p).testResults = s.testResults := by rw [settingEffect_frame]
@[simp] theorem settingEffect_marks (p : Fin 25) : (s.settingEffect p).marks = s.marks := by rw [settingEffect_frame]
@[simp] theorem settingEffect_abandons (p : Fin 25) : (s.settingEffect p).abandons = s.abandons := by rw [settingEffect_frame]
@[simp] theorem settingEffect_abandonPosts (p : Fin 25) : (s.settingEffect p).abandonPosts = s.abandonPosts := by rw [settingEffect_frame]
@[simp] theorem settingEffect_mask (p : Fin 25) : (s.settingEffect p).mask = s.mask := by rw [settingEffect_frame]
@[simp] theorem settingEffect_ring (p : Fin 25) (j : LoopId) : (s.settingEffect p).ring j = s.ring j := by simp [ring]
@[simp] theorem settingEffect_feed (p : Fin 25) (j : LoopId) : (s.settingEffect p).feed j = s.feed j := by simp [feed]
@[simp] theorem settingEffect_record (p : Fin 25) (j : SlotId) : (s.settingEffect p).record j = s.record j := by simp [record]
@[simp] theorem settingEffect_trunk (p : Fin 25) (j : Trunk) : (s.settingEffect p).trunk j = s.trunk j := by cases j <;> simp [trunk]
@[simp] theorem settingEffect_path (p : Fin 25) (j : CtxId) : (s.settingEffect p).path j = s.path j := by simp [path]
@[simp] theorem settingEffect_player (p : Fin 25) (j : CtxId) : (s.settingEffect p).player j = s.player j := by simp [player]
@[simp] theorem settingEffect_segment (p : Fin 25) (j : SegId) : (s.settingEffect p).segment j = s.segment j := by simp [segment]
@[simp] theorem settingEffect_service (p : Fin 25) (j : Trunk) : (s.settingEffect p).service j = s.service j := by cases j <;> simp [service]
@[simp] theorem settingEffect_param (p : Fin 25) (j : Fin 25) : (s.settingEffect p).param j = s.param j := by simp [param]

/-! ### storeSetting -/

theorem storeSetting_frame (p : Fin 25) (v : Nat) : s.storeSetting p v = { s with
    settings := (s.storeSetting p v).settings
    contexts := (s.storeSetting p v).contexts
    loops := (s.storeSetting p v).loops
    trunkA := (s.storeSetting p v).trunkA
    trunkB := (s.storeSetting p v).trunkB
    handed := (s.storeSetting p v).handed } := by
  apply State.ext <;> first | with_reducible rfl | (simp [storeSetting])
@[simp] theorem storeSetting_pending (p : Fin 25) (v : Nat) : (s.storeSetting p v).pending = s.pending := by rw [storeSetting_frame]
@[simp] theorem storeSetting_rings (p : Fin 25) (v : Nat) : (s.storeSetting p v).rings = s.rings := by rw [storeSetting_frame]
@[simp] theorem storeSetting_feeds (p : Fin 25) (v : Nat) : (s.storeSetting p v).feeds = s.feeds := by rw [storeSetting_frame]
@[simp] theorem storeSetting_supply (p : Fin 25) (v : Nat) : (s.storeSetting p v).supply = s.supply := by rw [storeSetting_frame]
@[simp] theorem storeSetting_directory (p : Fin 25) (v : Nat) : (s.storeSetting p v).directory = s.directory := by rw [storeSetting_frame]
@[simp] theorem storeSetting_waiting (p : Fin 25) (v : Nat) : (s.storeSetting p v).waiting = s.waiting := by rw [storeSetting_frame]
@[simp] theorem storeSetting_entryCount (p : Fin 25) (v : Nat) : (s.storeSetting p v).entryCount = s.entryCount := by rw [storeSetting_frame]
@[simp] theorem storeSetting_routes (p : Fin 25) (v : Nat) : (s.storeSetting p v).routes = s.routes := by rw [storeSetting_frame]
@[simp] theorem storeSetting_plan (p : Fin 25) (v : Nat) : (s.storeSetting p v).plan = s.plan := by rw [storeSetting_frame]
@[simp] theorem storeSetting_paths (p : Fin 25) (v : Nat) : (s.storeSetting p v).paths = s.paths := by rw [storeSetting_frame]
@[simp] theorem storeSetting_samples (p : Fin 25) (v : Nat) : (s.storeSetting p v).samples = s.samples := by rw [storeSetting_frame]
@[simp] theorem storeSetting_segments (p : Fin 25) (v : Nat) : (s.storeSetting p v).segments = s.segments := by rw [storeSetting_frame]
@[simp] theorem storeSetting_players (p : Fin 25) (v : Nat) : (s.storeSetting p v).players = s.players := by rw [storeSetting_frame]
@[simp] theorem storeSetting_serviceA (p : Fin 25) (v : Nat) : (s.storeSetting p v).serviceA = s.serviceA := by rw [storeSetting_frame]
@[simp] theorem storeSetting_serviceB (p : Fin 25) (v : Nat) : (s.storeSetting p v).serviceB = s.serviceB := by rw [storeSetting_frame]
@[simp] theorem storeSetting_home (p : Fin 25) (v : Nat) : (s.storeSetting p v).home = s.home := by rw [storeSetting_frame]
@[simp] theorem storeSetting_sectionFault (p : Fin 25) (v : Nat) : (s.storeSetting p v).sectionFault = s.sectionFault := by rw [storeSetting_frame]
@[simp] theorem storeSetting_trunkFaultA (p : Fin 25) (v : Nat) : (s.storeSetting p v).trunkFaultA = s.trunkFaultA := by rw [storeSetting_frame]
@[simp] theorem storeSetting_trunkFaultB (p : Fin 25) (v : Nat) : (s.storeSetting p v).trunkFaultB = s.trunkFaultB := by rw [storeSetting_frame]
@[simp] theorem storeSetting_loopFaults (p : Fin 25) (v : Nat) : (s.storeSetting p v).loopFaults = s.loopFaults := by rw [storeSetting_frame]
@[simp] theorem storeSetting_postFaults (p : Fin 25) (v : Nat) : (s.storeSetting p v).postFaults = s.postFaults := by rw [storeSetting_frame]
@[simp] theorem storeSetting_testResults (p : Fin 25) (v : Nat) : (s.storeSetting p v).testResults = s.testResults := by rw [storeSetting_frame]
@[simp] theorem storeSetting_marks (p : Fin 25) (v : Nat) : (s.storeSetting p v).marks = s.marks := by rw [storeSetting_frame]
@[simp] theorem storeSetting_abandons (p : Fin 25) (v : Nat) : (s.storeSetting p v).abandons = s.abandons := by rw [storeSetting_frame]
@[simp] theorem storeSetting_abandonPosts (p : Fin 25) (v : Nat) : (s.storeSetting p v).abandonPosts = s.abandonPosts := by rw [storeSetting_frame]
@[simp] theorem storeSetting_mask (p : Fin 25) (v : Nat) : (s.storeSetting p v).mask = s.mask := by rw [storeSetting_frame]
@[simp] theorem storeSetting_ring (p : Fin 25) (v : Nat) (j : LoopId) : (s.storeSetting p v).ring j = s.ring j := by simp [ring]
@[simp] theorem storeSetting_feed (p : Fin 25) (v : Nat) (j : LoopId) : (s.storeSetting p v).feed j = s.feed j := by simp [feed]
@[simp] theorem storeSetting_record (p : Fin 25) (v : Nat) (j : SlotId) : (s.storeSetting p v).record j = s.record j := by simp [record]
@[simp] theorem storeSetting_path (p : Fin 25) (v : Nat) (j : CtxId) : (s.storeSetting p v).path j = s.path j := by simp [path]
@[simp] theorem storeSetting_player (p : Fin 25) (v : Nat) (j : CtxId) : (s.storeSetting p v).player j = s.player j := by simp [player]
@[simp] theorem storeSetting_segment (p : Fin 25) (v : Nat) (j : SegId) : (s.storeSetting p v).segment j = s.segment j := by simp [segment]
@[simp] theorem storeSetting_service (p : Fin 25) (v : Nat) (j : Trunk) : (s.storeSetting p v).service j = s.service j := by cases j <;> simp [service]

/-! ### setRecordAt -/

theorem setRecordAt_frame (r : RecRef) (x : FaultRec) : s.setRecordAt r x = { s with
    sectionFault := (s.setRecordAt r x).sectionFault
    trunkFaultA := (s.setRecordAt r x).trunkFaultA
    trunkFaultB := (s.setRecordAt r x).trunkFaultB
    loopFaults := (s.setRecordAt r x).loopFaults
    postFaults := (s.setRecordAt r x).postFaults } := by
  apply State.ext <;> first | with_reducible rfl | (cases r <;> simp [setRecordAt])
@[simp] theorem setRecordAt_pending (r : RecRef) (x : FaultRec) : (s.setRecordAt r x).pending = s.pending := by rw [setRecordAt_frame]
@[simp] theorem setRecordAt_handed (r : RecRef) (x : FaultRec) : (s.setRecordAt r x).handed = s.handed := by rw [setRecordAt_frame]
@[simp] theorem setRecordAt_loops (r : RecRef) (x : FaultRec) : (s.setRecordAt r x).loops = s.loops := by rw [setRecordAt_frame]
@[simp] theorem setRecordAt_rings (r : RecRef) (x : FaultRec) : (s.setRecordAt r x).rings = s.rings := by rw [setRecordAt_frame]
@[simp] theorem setRecordAt_feeds (r : RecRef) (x : FaultRec) : (s.setRecordAt r x).feeds = s.feeds := by rw [setRecordAt_frame]
@[simp] theorem setRecordAt_supply (r : RecRef) (x : FaultRec) : (s.setRecordAt r x).supply = s.supply := by rw [setRecordAt_frame]
@[simp] theorem setRecordAt_directory (r : RecRef) (x : FaultRec) : (s.setRecordAt r x).directory = s.directory := by rw [setRecordAt_frame]
@[simp] theorem setRecordAt_contexts (r : RecRef) (x : FaultRec) : (s.setRecordAt r x).contexts = s.contexts := by rw [setRecordAt_frame]
@[simp] theorem setRecordAt_waiting (r : RecRef) (x : FaultRec) : (s.setRecordAt r x).waiting = s.waiting := by rw [setRecordAt_frame]
@[simp] theorem setRecordAt_entryCount (r : RecRef) (x : FaultRec) : (s.setRecordAt r x).entryCount = s.entryCount := by rw [setRecordAt_frame]
@[simp] theorem setRecordAt_routes (r : RecRef) (x : FaultRec) : (s.setRecordAt r x).routes = s.routes := by rw [setRecordAt_frame]
@[simp] theorem setRecordAt_plan (r : RecRef) (x : FaultRec) : (s.setRecordAt r x).plan = s.plan := by rw [setRecordAt_frame]
@[simp] theorem setRecordAt_trunkA (r : RecRef) (x : FaultRec) : (s.setRecordAt r x).trunkA = s.trunkA := by rw [setRecordAt_frame]
@[simp] theorem setRecordAt_trunkB (r : RecRef) (x : FaultRec) : (s.setRecordAt r x).trunkB = s.trunkB := by rw [setRecordAt_frame]
@[simp] theorem setRecordAt_paths (r : RecRef) (x : FaultRec) : (s.setRecordAt r x).paths = s.paths := by rw [setRecordAt_frame]
@[simp] theorem setRecordAt_samples (r : RecRef) (x : FaultRec) : (s.setRecordAt r x).samples = s.samples := by rw [setRecordAt_frame]
@[simp] theorem setRecordAt_segments (r : RecRef) (x : FaultRec) : (s.setRecordAt r x).segments = s.segments := by rw [setRecordAt_frame]
@[simp] theorem setRecordAt_players (r : RecRef) (x : FaultRec) : (s.setRecordAt r x).players = s.players := by rw [setRecordAt_frame]
@[simp] theorem setRecordAt_serviceA (r : RecRef) (x : FaultRec) : (s.setRecordAt r x).serviceA = s.serviceA := by rw [setRecordAt_frame]
@[simp] theorem setRecordAt_serviceB (r : RecRef) (x : FaultRec) : (s.setRecordAt r x).serviceB = s.serviceB := by rw [setRecordAt_frame]
@[simp] theorem setRecordAt_home (r : RecRef) (x : FaultRec) : (s.setRecordAt r x).home = s.home := by rw [setRecordAt_frame]
@[simp] theorem setRecordAt_settings (r : RecRef) (x : FaultRec) : (s.setRecordAt r x).settings = s.settings := by rw [setRecordAt_frame]
@[simp] theorem setRecordAt_testResults (r : RecRef) (x : FaultRec) : (s.setRecordAt r x).testResults = s.testResults := by rw [setRecordAt_frame]
@[simp] theorem setRecordAt_marks (r : RecRef) (x : FaultRec) : (s.setRecordAt r x).marks = s.marks := by rw [setRecordAt_frame]
@[simp] theorem setRecordAt_abandons (r : RecRef) (x : FaultRec) : (s.setRecordAt r x).abandons = s.abandons := by rw [setRecordAt_frame]
@[simp] theorem setRecordAt_abandonPosts (r : RecRef) (x : FaultRec) : (s.setRecordAt r x).abandonPosts = s.abandonPosts := by rw [setRecordAt_frame]
@[simp] theorem setRecordAt_mask (r : RecRef) (x : FaultRec) : (s.setRecordAt r x).mask = s.mask := by rw [setRecordAt_frame]
@[simp] theorem setRecordAt_loop (r : RecRef) (x : FaultRec) (j : LoopId) : (s.setRecordAt r x).loop j = s.loop j := by simp [loop]
@[simp] theorem setRecordAt_ring (r : RecRef) (x : FaultRec) (j : LoopId) : (s.setRecordAt r x).ring j = s.ring j := by simp [ring]
@[simp] theorem setRecordAt_feed (r : RecRef) (x : FaultRec) (j : LoopId) : (s.setRecordAt r x).feed j = s.feed j := by simp [feed]
@[simp] theorem setRecordAt_record (r : RecRef) (x : FaultRec) (j : SlotId) : (s.setRecordAt r x).record j = s.record j := by simp [record]
@[simp] theorem setRecordAt_ctx (r : RecRef) (x : FaultRec) (j : CtxId) : (s.setRecordAt r x).ctx j = s.ctx j := by simp [ctx]
@[simp] theorem setRecordAt_trunk (r : RecRef) (x : FaultRec) (j : Trunk) : (s.setRecordAt r x).trunk j = s.trunk j := by cases j <;> simp [trunk]
@[simp] theorem setRecordAt_path (r : RecRef) (x : FaultRec) (j : CtxId) : (s.setRecordAt r x).path j = s.path j := by simp [path]
@[simp] theorem setRecordAt_player (r : RecRef) (x : FaultRec) (j : CtxId) : (s.setRecordAt r x).player j = s.player j := by simp [player]
@[simp] theorem setRecordAt_segment (r : RecRef) (x : FaultRec) (j : SegId) : (s.setRecordAt r x).segment j = s.segment j := by simp [segment]
@[simp] theorem setRecordAt_service (r : RecRef) (x : FaultRec) (j : Trunk) : (s.setRecordAt r x).service j = s.service j := by cases j <;> simp [service]
@[simp] theorem setRecordAt_param (r : RecRef) (x : FaultRec) (j : Fin 25) : (s.setRecordAt r x).param j = s.param j := by simp [param]

/-! ### clearedSection -/

theorem clearedSection_frame (cleared : BitVec 16) : s.clearedSection cleared = { s with
    sectionFault := (s.clearedSection cleared).sectionFault
    trunkFaultA := (s.clearedSection cleared).trunkFaultA
    trunkFaultB := (s.clearedSection cleared).trunkFaultB
    loopFaults := (s.clearedSection cleared).loopFaults
    postFaults := (s.clearedSection cleared).postFaults } := by
  apply State.ext <;> first | with_reducible rfl | (unfold clearedSection; dsimp only; (repeat' split) <;> simp)
@[simp] theorem clearedSection_pending (cleared : BitVec 16) : (s.clearedSection cleared).pending = s.pending := by rw [clearedSection_frame]
@[simp] theorem clearedSection_handed (cleared : BitVec 16) : (s.clearedSection cleared).handed = s.handed := by rw [clearedSection_frame]
@[simp] theorem clearedSection_loops (cleared : BitVec 16) : (s.clearedSection cleared).loops = s.loops := by rw [clearedSection_frame]
@[simp] theorem clearedSection_rings (cleared : BitVec 16) : (s.clearedSection cleared).rings = s.rings := by rw [clearedSection_frame]
@[simp] theorem clearedSection_feeds (cleared : BitVec 16) : (s.clearedSection cleared).feeds = s.feeds := by rw [clearedSection_frame]
@[simp] theorem clearedSection_supply (cleared : BitVec 16) : (s.clearedSection cleared).supply = s.supply := by rw [clearedSection_frame]
@[simp] theorem clearedSection_directory (cleared : BitVec 16) : (s.clearedSection cleared).directory = s.directory := by rw [clearedSection_frame]
@[simp] theorem clearedSection_contexts (cleared : BitVec 16) : (s.clearedSection cleared).contexts = s.contexts := by rw [clearedSection_frame]
@[simp] theorem clearedSection_waiting (cleared : BitVec 16) : (s.clearedSection cleared).waiting = s.waiting := by rw [clearedSection_frame]
@[simp] theorem clearedSection_entryCount (cleared : BitVec 16) : (s.clearedSection cleared).entryCount = s.entryCount := by rw [clearedSection_frame]
@[simp] theorem clearedSection_routes (cleared : BitVec 16) : (s.clearedSection cleared).routes = s.routes := by rw [clearedSection_frame]
@[simp] theorem clearedSection_plan (cleared : BitVec 16) : (s.clearedSection cleared).plan = s.plan := by rw [clearedSection_frame]
@[simp] theorem clearedSection_trunkA (cleared : BitVec 16) : (s.clearedSection cleared).trunkA = s.trunkA := by rw [clearedSection_frame]
@[simp] theorem clearedSection_trunkB (cleared : BitVec 16) : (s.clearedSection cleared).trunkB = s.trunkB := by rw [clearedSection_frame]
@[simp] theorem clearedSection_paths (cleared : BitVec 16) : (s.clearedSection cleared).paths = s.paths := by rw [clearedSection_frame]
@[simp] theorem clearedSection_samples (cleared : BitVec 16) : (s.clearedSection cleared).samples = s.samples := by rw [clearedSection_frame]
@[simp] theorem clearedSection_segments (cleared : BitVec 16) : (s.clearedSection cleared).segments = s.segments := by rw [clearedSection_frame]
@[simp] theorem clearedSection_players (cleared : BitVec 16) : (s.clearedSection cleared).players = s.players := by rw [clearedSection_frame]
@[simp] theorem clearedSection_serviceA (cleared : BitVec 16) : (s.clearedSection cleared).serviceA = s.serviceA := by rw [clearedSection_frame]
@[simp] theorem clearedSection_serviceB (cleared : BitVec 16) : (s.clearedSection cleared).serviceB = s.serviceB := by rw [clearedSection_frame]
@[simp] theorem clearedSection_home (cleared : BitVec 16) : (s.clearedSection cleared).home = s.home := by rw [clearedSection_frame]
@[simp] theorem clearedSection_settings (cleared : BitVec 16) : (s.clearedSection cleared).settings = s.settings := by rw [clearedSection_frame]
@[simp] theorem clearedSection_testResults (cleared : BitVec 16) : (s.clearedSection cleared).testResults = s.testResults := by rw [clearedSection_frame]
@[simp] theorem clearedSection_marks (cleared : BitVec 16) : (s.clearedSection cleared).marks = s.marks := by rw [clearedSection_frame]
@[simp] theorem clearedSection_abandons (cleared : BitVec 16) : (s.clearedSection cleared).abandons = s.abandons := by rw [clearedSection_frame]
@[simp] theorem clearedSection_abandonPosts (cleared : BitVec 16) : (s.clearedSection cleared).abandonPosts = s.abandonPosts := by rw [clearedSection_frame]
@[simp] theorem clearedSection_mask (cleared : BitVec 16) : (s.clearedSection cleared).mask = s.mask := by rw [clearedSection_frame]
@[simp] theorem clearedSection_loop (cleared : BitVec 16) (j : LoopId) : (s.clearedSection cleared).loop j = s.loop j := by simp [loop]
@[simp] theorem clearedSection_ring (cleared : BitVec 16) (j : LoopId) : (s.clearedSection cleared).ring j = s.ring j := by simp [ring]
@[simp] theorem clearedSection_feed (cleared : BitVec 16) (j : LoopId) : (s.clearedSection cleared).feed j = s.feed j := by simp [feed]
@[simp] theorem clearedSection_record (cleared : BitVec 16) (j : SlotId) : (s.clearedSection cleared).record j = s.record j := by simp [record]
@[simp] theorem clearedSection_ctx (cleared : BitVec 16) (j : CtxId) : (s.clearedSection cleared).ctx j = s.ctx j := by simp [ctx]
@[simp] theorem clearedSection_trunk (cleared : BitVec 16) (j : Trunk) : (s.clearedSection cleared).trunk j = s.trunk j := by cases j <;> simp [trunk]
@[simp] theorem clearedSection_path (cleared : BitVec 16) (j : CtxId) : (s.clearedSection cleared).path j = s.path j := by simp [path]
@[simp] theorem clearedSection_player (cleared : BitVec 16) (j : CtxId) : (s.clearedSection cleared).player j = s.player j := by simp [player]
@[simp] theorem clearedSection_segment (cleared : BitVec 16) (j : SegId) : (s.clearedSection cleared).segment j = s.segment j := by simp [segment]
@[simp] theorem clearedSection_service (cleared : BitVec 16) (j : Trunk) : (s.clearedSection cleared).service j = s.service j := by cases j <;> simp [service]
@[simp] theorem clearedSection_param (cleared : BitVec 16) (j : Fin 25) : (s.clearedSection cleared).param j = s.param j := by simp [param]

/-! ### clearedTrunk -/

theorem clearedTrunk_frame (t : Trunk) (cleared : BitVec 16) : s.clearedTrunk t cleared = { s with
    trunkA := (s.clearedTrunk t cleared).trunkA
    trunkB := (s.clearedTrunk t cleared).trunkB } := by
  apply State.ext <;> first | with_reducible rfl | (unfold clearedTrunk; dsimp only; (repeat' split) <;> simp)
@[simp] theorem clearedTrunk_pending (t : Trunk) (cleared : BitVec 16) : (s.clearedTrunk t cleared).pending = s.pending := by rw [clearedTrunk_frame]
@[simp] theorem clearedTrunk_handed (t : Trunk) (cleared : BitVec 16) : (s.clearedTrunk t cleared).handed = s.handed := by rw [clearedTrunk_frame]
@[simp] theorem clearedTrunk_loops (t : Trunk) (cleared : BitVec 16) : (s.clearedTrunk t cleared).loops = s.loops := by rw [clearedTrunk_frame]
@[simp] theorem clearedTrunk_rings (t : Trunk) (cleared : BitVec 16) : (s.clearedTrunk t cleared).rings = s.rings := by rw [clearedTrunk_frame]
@[simp] theorem clearedTrunk_feeds (t : Trunk) (cleared : BitVec 16) : (s.clearedTrunk t cleared).feeds = s.feeds := by rw [clearedTrunk_frame]
@[simp] theorem clearedTrunk_supply (t : Trunk) (cleared : BitVec 16) : (s.clearedTrunk t cleared).supply = s.supply := by rw [clearedTrunk_frame]
@[simp] theorem clearedTrunk_directory (t : Trunk) (cleared : BitVec 16) : (s.clearedTrunk t cleared).directory = s.directory := by rw [clearedTrunk_frame]
@[simp] theorem clearedTrunk_contexts (t : Trunk) (cleared : BitVec 16) : (s.clearedTrunk t cleared).contexts = s.contexts := by rw [clearedTrunk_frame]
@[simp] theorem clearedTrunk_waiting (t : Trunk) (cleared : BitVec 16) : (s.clearedTrunk t cleared).waiting = s.waiting := by rw [clearedTrunk_frame]
@[simp] theorem clearedTrunk_entryCount (t : Trunk) (cleared : BitVec 16) : (s.clearedTrunk t cleared).entryCount = s.entryCount := by rw [clearedTrunk_frame]
@[simp] theorem clearedTrunk_routes (t : Trunk) (cleared : BitVec 16) : (s.clearedTrunk t cleared).routes = s.routes := by rw [clearedTrunk_frame]
@[simp] theorem clearedTrunk_plan (t : Trunk) (cleared : BitVec 16) : (s.clearedTrunk t cleared).plan = s.plan := by rw [clearedTrunk_frame]
@[simp] theorem clearedTrunk_paths (t : Trunk) (cleared : BitVec 16) : (s.clearedTrunk t cleared).paths = s.paths := by rw [clearedTrunk_frame]
@[simp] theorem clearedTrunk_samples (t : Trunk) (cleared : BitVec 16) : (s.clearedTrunk t cleared).samples = s.samples := by rw [clearedTrunk_frame]
@[simp] theorem clearedTrunk_segments (t : Trunk) (cleared : BitVec 16) : (s.clearedTrunk t cleared).segments = s.segments := by rw [clearedTrunk_frame]
@[simp] theorem clearedTrunk_players (t : Trunk) (cleared : BitVec 16) : (s.clearedTrunk t cleared).players = s.players := by rw [clearedTrunk_frame]
@[simp] theorem clearedTrunk_serviceA (t : Trunk) (cleared : BitVec 16) : (s.clearedTrunk t cleared).serviceA = s.serviceA := by rw [clearedTrunk_frame]
@[simp] theorem clearedTrunk_serviceB (t : Trunk) (cleared : BitVec 16) : (s.clearedTrunk t cleared).serviceB = s.serviceB := by rw [clearedTrunk_frame]
@[simp] theorem clearedTrunk_home (t : Trunk) (cleared : BitVec 16) : (s.clearedTrunk t cleared).home = s.home := by rw [clearedTrunk_frame]
@[simp] theorem clearedTrunk_settings (t : Trunk) (cleared : BitVec 16) : (s.clearedTrunk t cleared).settings = s.settings := by rw [clearedTrunk_frame]
@[simp] theorem clearedTrunk_sectionFault (t : Trunk) (cleared : BitVec 16) : (s.clearedTrunk t cleared).sectionFault = s.sectionFault := by rw [clearedTrunk_frame]
@[simp] theorem clearedTrunk_trunkFaultA (t : Trunk) (cleared : BitVec 16) : (s.clearedTrunk t cleared).trunkFaultA = s.trunkFaultA := by rw [clearedTrunk_frame]
@[simp] theorem clearedTrunk_trunkFaultB (t : Trunk) (cleared : BitVec 16) : (s.clearedTrunk t cleared).trunkFaultB = s.trunkFaultB := by rw [clearedTrunk_frame]
@[simp] theorem clearedTrunk_loopFaults (t : Trunk) (cleared : BitVec 16) : (s.clearedTrunk t cleared).loopFaults = s.loopFaults := by rw [clearedTrunk_frame]
@[simp] theorem clearedTrunk_postFaults (t : Trunk) (cleared : BitVec 16) : (s.clearedTrunk t cleared).postFaults = s.postFaults := by rw [clearedTrunk_frame]
@[simp] theorem clearedTrunk_testResults (t : Trunk) (cleared : BitVec 16) : (s.clearedTrunk t cleared).testResults = s.testResults := by rw [clearedTrunk_frame]
@[simp] theorem clearedTrunk_marks (t : Trunk) (cleared : BitVec 16) : (s.clearedTrunk t cleared).marks = s.marks := by rw [clearedTrunk_frame]
@[simp] theorem clearedTrunk_abandons (t : Trunk) (cleared : BitVec 16) : (s.clearedTrunk t cleared).abandons = s.abandons := by rw [clearedTrunk_frame]
@[simp] theorem clearedTrunk_abandonPosts (t : Trunk) (cleared : BitVec 16) : (s.clearedTrunk t cleared).abandonPosts = s.abandonPosts := by rw [clearedTrunk_frame]
@[simp] theorem clearedTrunk_mask (t : Trunk) (cleared : BitVec 16) : (s.clearedTrunk t cleared).mask = s.mask := by rw [clearedTrunk_frame]
@[simp] theorem clearedTrunk_loop (t : Trunk) (cleared : BitVec 16) (j : LoopId) : (s.clearedTrunk t cleared).loop j = s.loop j := by simp [loop]
@[simp] theorem clearedTrunk_ring (t : Trunk) (cleared : BitVec 16) (j : LoopId) : (s.clearedTrunk t cleared).ring j = s.ring j := by simp [ring]
@[simp] theorem clearedTrunk_feed (t : Trunk) (cleared : BitVec 16) (j : LoopId) : (s.clearedTrunk t cleared).feed j = s.feed j := by simp [feed]
@[simp] theorem clearedTrunk_record (t : Trunk) (cleared : BitVec 16) (j : SlotId) : (s.clearedTrunk t cleared).record j = s.record j := by simp [record]
@[simp] theorem clearedTrunk_ctx (t : Trunk) (cleared : BitVec 16) (j : CtxId) : (s.clearedTrunk t cleared).ctx j = s.ctx j := by simp [ctx]
@[simp] theorem clearedTrunk_path (t : Trunk) (cleared : BitVec 16) (j : CtxId) : (s.clearedTrunk t cleared).path j = s.path j := by simp [path]
@[simp] theorem clearedTrunk_player (t : Trunk) (cleared : BitVec 16) (j : CtxId) : (s.clearedTrunk t cleared).player j = s.player j := by simp [player]
@[simp] theorem clearedTrunk_segment (t : Trunk) (cleared : BitVec 16) (j : SegId) : (s.clearedTrunk t cleared).segment j = s.segment j := by simp [segment]
@[simp] theorem clearedTrunk_service (t : Trunk) (cleared : BitVec 16) (j : Trunk) : (s.clearedTrunk t cleared).service j = s.service j := by cases j <;> simp [service]
@[simp] theorem clearedTrunk_param (t : Trunk) (cleared : BitVec 16) (j : Fin 25) : (s.clearedTrunk t cleared).param j = s.param j := by simp [param]

/-! ### clearedLoop -/

theorem clearedLoop_frame (l : LoopId) (cleared : BitVec 16) : s.clearedLoop l cleared = { s with
    feeds := (s.clearedLoop l cleared).feeds
    handed := (s.clearedLoop l cleared).handed } := by
  apply State.ext <;> first | with_reducible rfl | (unfold clearedLoop; dsimp only; (repeat' split) <;> simp)
@[simp] theorem clearedLoop_pending (l : LoopId) (cleared : BitVec 16) : (s.clearedLoop l cleared).pending = s.pending := by rw [clearedLoop_frame]
@[simp] theorem clearedLoop_loops (l : LoopId) (cleared : BitVec 16) : (s.clearedLoop l cleared).loops = s.loops := by rw [clearedLoop_frame]
@[simp] theorem clearedLoop_rings (l : LoopId) (cleared : BitVec 16) : (s.clearedLoop l cleared).rings = s.rings := by rw [clearedLoop_frame]
@[simp] theorem clearedLoop_supply (l : LoopId) (cleared : BitVec 16) : (s.clearedLoop l cleared).supply = s.supply := by rw [clearedLoop_frame]
@[simp] theorem clearedLoop_directory (l : LoopId) (cleared : BitVec 16) : (s.clearedLoop l cleared).directory = s.directory := by rw [clearedLoop_frame]
@[simp] theorem clearedLoop_contexts (l : LoopId) (cleared : BitVec 16) : (s.clearedLoop l cleared).contexts = s.contexts := by rw [clearedLoop_frame]
@[simp] theorem clearedLoop_waiting (l : LoopId) (cleared : BitVec 16) : (s.clearedLoop l cleared).waiting = s.waiting := by rw [clearedLoop_frame]
@[simp] theorem clearedLoop_entryCount (l : LoopId) (cleared : BitVec 16) : (s.clearedLoop l cleared).entryCount = s.entryCount := by rw [clearedLoop_frame]
@[simp] theorem clearedLoop_routes (l : LoopId) (cleared : BitVec 16) : (s.clearedLoop l cleared).routes = s.routes := by rw [clearedLoop_frame]
@[simp] theorem clearedLoop_plan (l : LoopId) (cleared : BitVec 16) : (s.clearedLoop l cleared).plan = s.plan := by rw [clearedLoop_frame]
@[simp] theorem clearedLoop_trunkA (l : LoopId) (cleared : BitVec 16) : (s.clearedLoop l cleared).trunkA = s.trunkA := by rw [clearedLoop_frame]
@[simp] theorem clearedLoop_trunkB (l : LoopId) (cleared : BitVec 16) : (s.clearedLoop l cleared).trunkB = s.trunkB := by rw [clearedLoop_frame]
@[simp] theorem clearedLoop_paths (l : LoopId) (cleared : BitVec 16) : (s.clearedLoop l cleared).paths = s.paths := by rw [clearedLoop_frame]
@[simp] theorem clearedLoop_samples (l : LoopId) (cleared : BitVec 16) : (s.clearedLoop l cleared).samples = s.samples := by rw [clearedLoop_frame]
@[simp] theorem clearedLoop_segments (l : LoopId) (cleared : BitVec 16) : (s.clearedLoop l cleared).segments = s.segments := by rw [clearedLoop_frame]
@[simp] theorem clearedLoop_players (l : LoopId) (cleared : BitVec 16) : (s.clearedLoop l cleared).players = s.players := by rw [clearedLoop_frame]
@[simp] theorem clearedLoop_serviceA (l : LoopId) (cleared : BitVec 16) : (s.clearedLoop l cleared).serviceA = s.serviceA := by rw [clearedLoop_frame]
@[simp] theorem clearedLoop_serviceB (l : LoopId) (cleared : BitVec 16) : (s.clearedLoop l cleared).serviceB = s.serviceB := by rw [clearedLoop_frame]
@[simp] theorem clearedLoop_home (l : LoopId) (cleared : BitVec 16) : (s.clearedLoop l cleared).home = s.home := by rw [clearedLoop_frame]
@[simp] theorem clearedLoop_settings (l : LoopId) (cleared : BitVec 16) : (s.clearedLoop l cleared).settings = s.settings := by rw [clearedLoop_frame]
@[simp] theorem clearedLoop_sectionFault (l : LoopId) (cleared : BitVec 16) : (s.clearedLoop l cleared).sectionFault = s.sectionFault := by rw [clearedLoop_frame]
@[simp] theorem clearedLoop_trunkFaultA (l : LoopId) (cleared : BitVec 16) : (s.clearedLoop l cleared).trunkFaultA = s.trunkFaultA := by rw [clearedLoop_frame]
@[simp] theorem clearedLoop_trunkFaultB (l : LoopId) (cleared : BitVec 16) : (s.clearedLoop l cleared).trunkFaultB = s.trunkFaultB := by rw [clearedLoop_frame]
@[simp] theorem clearedLoop_loopFaults (l : LoopId) (cleared : BitVec 16) : (s.clearedLoop l cleared).loopFaults = s.loopFaults := by rw [clearedLoop_frame]
@[simp] theorem clearedLoop_postFaults (l : LoopId) (cleared : BitVec 16) : (s.clearedLoop l cleared).postFaults = s.postFaults := by rw [clearedLoop_frame]
@[simp] theorem clearedLoop_testResults (l : LoopId) (cleared : BitVec 16) : (s.clearedLoop l cleared).testResults = s.testResults := by rw [clearedLoop_frame]
@[simp] theorem clearedLoop_marks (l : LoopId) (cleared : BitVec 16) : (s.clearedLoop l cleared).marks = s.marks := by rw [clearedLoop_frame]
@[simp] theorem clearedLoop_abandons (l : LoopId) (cleared : BitVec 16) : (s.clearedLoop l cleared).abandons = s.abandons := by rw [clearedLoop_frame]
@[simp] theorem clearedLoop_abandonPosts (l : LoopId) (cleared : BitVec 16) : (s.clearedLoop l cleared).abandonPosts = s.abandonPosts := by rw [clearedLoop_frame]
@[simp] theorem clearedLoop_mask (l : LoopId) (cleared : BitVec 16) : (s.clearedLoop l cleared).mask = s.mask := by rw [clearedLoop_frame]
@[simp] theorem clearedLoop_loop (l : LoopId) (cleared : BitVec 16) (j : LoopId) : (s.clearedLoop l cleared).loop j = s.loop j := by simp [loop]
@[simp] theorem clearedLoop_ring (l : LoopId) (cleared : BitVec 16) (j : LoopId) : (s.clearedLoop l cleared).ring j = s.ring j := by simp [ring]
@[simp] theorem clearedLoop_record (l : LoopId) (cleared : BitVec 16) (j : SlotId) : (s.clearedLoop l cleared).record j = s.record j := by simp [record]
@[simp] theorem clearedLoop_ctx (l : LoopId) (cleared : BitVec 16) (j : CtxId) : (s.clearedLoop l cleared).ctx j = s.ctx j := by simp [ctx]
@[simp] theorem clearedLoop_trunk (l : LoopId) (cleared : BitVec 16) (j : Trunk) : (s.clearedLoop l cleared).trunk j = s.trunk j := by cases j <;> simp [trunk]
@[simp] theorem clearedLoop_path (l : LoopId) (cleared : BitVec 16) (j : CtxId) : (s.clearedLoop l cleared).path j = s.path j := by simp [path]
@[simp] theorem clearedLoop_player (l : LoopId) (cleared : BitVec 16) (j : CtxId) : (s.clearedLoop l cleared).player j = s.player j := by simp [player]
@[simp] theorem clearedLoop_segment (l : LoopId) (cleared : BitVec 16) (j : SegId) : (s.clearedLoop l cleared).segment j = s.segment j := by simp [segment]
@[simp] theorem clearedLoop_service (l : LoopId) (cleared : BitVec 16) (j : Trunk) : (s.clearedLoop l cleared).service j = s.service j := by cases j <;> simp [service]
@[simp] theorem clearedLoop_param (l : LoopId) (cleared : BitVec 16) (j : Fin 25) : (s.clearedLoop l cleared).param j = s.param j := by simp [param]

/-! ### clearEffects -/

theorem clearEffects_frame (cleared : BitVec 16) (r : RecRef) : s.clearEffects cleared r = { s with
    sectionFault := (s.clearEffects cleared r).sectionFault
    trunkFaultA := (s.clearEffects cleared r).trunkFaultA
    trunkFaultB := (s.clearEffects cleared r).trunkFaultB
    loopFaults := (s.clearEffects cleared r).loopFaults
    postFaults := (s.clearEffects cleared r).postFaults
    trunkA := (s.clearEffects cleared r).trunkA
    trunkB := (s.clearEffects cleared r).trunkB
    feeds := (s.clearEffects cleared r).feeds
    handed := (s.clearEffects cleared r).handed } := by
  apply State.ext <;> first | with_reducible rfl | (unfold clearEffects; dsimp only; (repeat' split) <;> simp)
@[simp] theorem clearEffects_pending (cleared : BitVec 16) (r : RecRef) : (s.clearEffects cleared r).pending = s.pending := by rw [clearEffects_frame]
@[simp] theorem clearEffects_loops (cleared : BitVec 16) (r : RecRef) : (s.clearEffects cleared r).loops = s.loops := by rw [clearEffects_frame]
@[simp] theorem clearEffects_rings (cleared : BitVec 16) (r : RecRef) : (s.clearEffects cleared r).rings = s.rings := by rw [clearEffects_frame]
@[simp] theorem clearEffects_supply (cleared : BitVec 16) (r : RecRef) : (s.clearEffects cleared r).supply = s.supply := by rw [clearEffects_frame]
@[simp] theorem clearEffects_directory (cleared : BitVec 16) (r : RecRef) : (s.clearEffects cleared r).directory = s.directory := by rw [clearEffects_frame]
@[simp] theorem clearEffects_contexts (cleared : BitVec 16) (r : RecRef) : (s.clearEffects cleared r).contexts = s.contexts := by rw [clearEffects_frame]
@[simp] theorem clearEffects_waiting (cleared : BitVec 16) (r : RecRef) : (s.clearEffects cleared r).waiting = s.waiting := by rw [clearEffects_frame]
@[simp] theorem clearEffects_entryCount (cleared : BitVec 16) (r : RecRef) : (s.clearEffects cleared r).entryCount = s.entryCount := by rw [clearEffects_frame]
@[simp] theorem clearEffects_routes (cleared : BitVec 16) (r : RecRef) : (s.clearEffects cleared r).routes = s.routes := by rw [clearEffects_frame]
@[simp] theorem clearEffects_plan (cleared : BitVec 16) (r : RecRef) : (s.clearEffects cleared r).plan = s.plan := by rw [clearEffects_frame]
@[simp] theorem clearEffects_paths (cleared : BitVec 16) (r : RecRef) : (s.clearEffects cleared r).paths = s.paths := by rw [clearEffects_frame]
@[simp] theorem clearEffects_samples (cleared : BitVec 16) (r : RecRef) : (s.clearEffects cleared r).samples = s.samples := by rw [clearEffects_frame]
@[simp] theorem clearEffects_segments (cleared : BitVec 16) (r : RecRef) : (s.clearEffects cleared r).segments = s.segments := by rw [clearEffects_frame]
@[simp] theorem clearEffects_players (cleared : BitVec 16) (r : RecRef) : (s.clearEffects cleared r).players = s.players := by rw [clearEffects_frame]
@[simp] theorem clearEffects_serviceA (cleared : BitVec 16) (r : RecRef) : (s.clearEffects cleared r).serviceA = s.serviceA := by rw [clearEffects_frame]
@[simp] theorem clearEffects_serviceB (cleared : BitVec 16) (r : RecRef) : (s.clearEffects cleared r).serviceB = s.serviceB := by rw [clearEffects_frame]
@[simp] theorem clearEffects_home (cleared : BitVec 16) (r : RecRef) : (s.clearEffects cleared r).home = s.home := by rw [clearEffects_frame]
@[simp] theorem clearEffects_settings (cleared : BitVec 16) (r : RecRef) : (s.clearEffects cleared r).settings = s.settings := by rw [clearEffects_frame]
@[simp] theorem clearEffects_testResults (cleared : BitVec 16) (r : RecRef) : (s.clearEffects cleared r).testResults = s.testResults := by rw [clearEffects_frame]
@[simp] theorem clearEffects_marks (cleared : BitVec 16) (r : RecRef) : (s.clearEffects cleared r).marks = s.marks := by rw [clearEffects_frame]
@[simp] theorem clearEffects_abandons (cleared : BitVec 16) (r : RecRef) : (s.clearEffects cleared r).abandons = s.abandons := by rw [clearEffects_frame]
@[simp] theorem clearEffects_abandonPosts (cleared : BitVec 16) (r : RecRef) : (s.clearEffects cleared r).abandonPosts = s.abandonPosts := by rw [clearEffects_frame]
@[simp] theorem clearEffects_mask (cleared : BitVec 16) (r : RecRef) : (s.clearEffects cleared r).mask = s.mask := by rw [clearEffects_frame]
@[simp] theorem clearEffects_loop (cleared : BitVec 16) (r : RecRef) (j : LoopId) : (s.clearEffects cleared r).loop j = s.loop j := by simp [loop]
@[simp] theorem clearEffects_ring (cleared : BitVec 16) (r : RecRef) (j : LoopId) : (s.clearEffects cleared r).ring j = s.ring j := by simp [ring]
@[simp] theorem clearEffects_record (cleared : BitVec 16) (r : RecRef) (j : SlotId) : (s.clearEffects cleared r).record j = s.record j := by simp [record]
@[simp] theorem clearEffects_ctx (cleared : BitVec 16) (r : RecRef) (j : CtxId) : (s.clearEffects cleared r).ctx j = s.ctx j := by simp [ctx]
@[simp] theorem clearEffects_path (cleared : BitVec 16) (r : RecRef) (j : CtxId) : (s.clearEffects cleared r).path j = s.path j := by simp [path]
@[simp] theorem clearEffects_player (cleared : BitVec 16) (r : RecRef) (j : CtxId) : (s.clearEffects cleared r).player j = s.player j := by simp [player]
@[simp] theorem clearEffects_segment (cleared : BitVec 16) (r : RecRef) (j : SegId) : (s.clearEffects cleared r).segment j = s.segment j := by simp [segment]
@[simp] theorem clearEffects_service (cleared : BitVec 16) (r : RecRef) (j : Trunk) : (s.clearEffects cleared r).service j = s.service j := by cases j <;> simp [service]
@[simp] theorem clearEffects_param (cleared : BitVec 16) (r : RecRef) (j : Fin 25) : (s.clearEffects cleared r).param j = s.param j := by simp [param]

/-! ### clearFlags -/

theorem clearFlags_frame (r : RecRef) (flags : BitVec 16) : s.clearFlags r flags = { s with
    sectionFault := (s.clearFlags r flags).sectionFault
    trunkFaultA := (s.clearFlags r flags).trunkFaultA
    trunkFaultB := (s.clearFlags r flags).trunkFaultB
    loopFaults := (s.clearFlags r flags).loopFaults
    postFaults := (s.clearFlags r flags).postFaults
    trunkA := (s.clearFlags r flags).trunkA
    trunkB := (s.clearFlags r flags).trunkB
    feeds := (s.clearFlags r flags).feeds
    handed := (s.clearFlags r flags).handed } := by
  apply State.ext <;> first | with_reducible rfl | (simp [clearFlags])
@[simp] theorem clearFlags_pending (r : RecRef) (flags : BitVec 16) : (s.clearFlags r flags).pending = s.pending := by rw [clearFlags_frame]
@[simp] theorem clearFlags_loops (r : RecRef) (flags : BitVec 16) : (s.clearFlags r flags).loops = s.loops := by rw [clearFlags_frame]
@[simp] theorem clearFlags_rings (r : RecRef) (flags : BitVec 16) : (s.clearFlags r flags).rings = s.rings := by rw [clearFlags_frame]
@[simp] theorem clearFlags_supply (r : RecRef) (flags : BitVec 16) : (s.clearFlags r flags).supply = s.supply := by rw [clearFlags_frame]
@[simp] theorem clearFlags_directory (r : RecRef) (flags : BitVec 16) : (s.clearFlags r flags).directory = s.directory := by rw [clearFlags_frame]
@[simp] theorem clearFlags_contexts (r : RecRef) (flags : BitVec 16) : (s.clearFlags r flags).contexts = s.contexts := by rw [clearFlags_frame]
@[simp] theorem clearFlags_waiting (r : RecRef) (flags : BitVec 16) : (s.clearFlags r flags).waiting = s.waiting := by rw [clearFlags_frame]
@[simp] theorem clearFlags_entryCount (r : RecRef) (flags : BitVec 16) : (s.clearFlags r flags).entryCount = s.entryCount := by rw [clearFlags_frame]
@[simp] theorem clearFlags_routes (r : RecRef) (flags : BitVec 16) : (s.clearFlags r flags).routes = s.routes := by rw [clearFlags_frame]
@[simp] theorem clearFlags_plan (r : RecRef) (flags : BitVec 16) : (s.clearFlags r flags).plan = s.plan := by rw [clearFlags_frame]
@[simp] theorem clearFlags_paths (r : RecRef) (flags : BitVec 16) : (s.clearFlags r flags).paths = s.paths := by rw [clearFlags_frame]
@[simp] theorem clearFlags_samples (r : RecRef) (flags : BitVec 16) : (s.clearFlags r flags).samples = s.samples := by rw [clearFlags_frame]
@[simp] theorem clearFlags_segments (r : RecRef) (flags : BitVec 16) : (s.clearFlags r flags).segments = s.segments := by rw [clearFlags_frame]
@[simp] theorem clearFlags_players (r : RecRef) (flags : BitVec 16) : (s.clearFlags r flags).players = s.players := by rw [clearFlags_frame]
@[simp] theorem clearFlags_serviceA (r : RecRef) (flags : BitVec 16) : (s.clearFlags r flags).serviceA = s.serviceA := by rw [clearFlags_frame]
@[simp] theorem clearFlags_serviceB (r : RecRef) (flags : BitVec 16) : (s.clearFlags r flags).serviceB = s.serviceB := by rw [clearFlags_frame]
@[simp] theorem clearFlags_home (r : RecRef) (flags : BitVec 16) : (s.clearFlags r flags).home = s.home := by rw [clearFlags_frame]
@[simp] theorem clearFlags_settings (r : RecRef) (flags : BitVec 16) : (s.clearFlags r flags).settings = s.settings := by rw [clearFlags_frame]
@[simp] theorem clearFlags_testResults (r : RecRef) (flags : BitVec 16) : (s.clearFlags r flags).testResults = s.testResults := by rw [clearFlags_frame]
@[simp] theorem clearFlags_marks (r : RecRef) (flags : BitVec 16) : (s.clearFlags r flags).marks = s.marks := by rw [clearFlags_frame]
@[simp] theorem clearFlags_abandons (r : RecRef) (flags : BitVec 16) : (s.clearFlags r flags).abandons = s.abandons := by rw [clearFlags_frame]
@[simp] theorem clearFlags_abandonPosts (r : RecRef) (flags : BitVec 16) : (s.clearFlags r flags).abandonPosts = s.abandonPosts := by rw [clearFlags_frame]
@[simp] theorem clearFlags_mask (r : RecRef) (flags : BitVec 16) : (s.clearFlags r flags).mask = s.mask := by rw [clearFlags_frame]
@[simp] theorem clearFlags_loop (r : RecRef) (flags : BitVec 16) (j : LoopId) : (s.clearFlags r flags).loop j = s.loop j := by simp [loop]
@[simp] theorem clearFlags_ring (r : RecRef) (flags : BitVec 16) (j : LoopId) : (s.clearFlags r flags).ring j = s.ring j := by simp [ring]
@[simp] theorem clearFlags_record (r : RecRef) (flags : BitVec 16) (j : SlotId) : (s.clearFlags r flags).record j = s.record j := by simp [record]
@[simp] theorem clearFlags_ctx (r : RecRef) (flags : BitVec 16) (j : CtxId) : (s.clearFlags r flags).ctx j = s.ctx j := by simp [ctx]
@[simp] theorem clearFlags_path (r : RecRef) (flags : BitVec 16) (j : CtxId) : (s.clearFlags r flags).path j = s.path j := by simp [path]
@[simp] theorem clearFlags_player (r : RecRef) (flags : BitVec 16) (j : CtxId) : (s.clearFlags r flags).player j = s.player j := by simp [player]
@[simp] theorem clearFlags_segment (r : RecRef) (flags : BitVec 16) (j : SegId) : (s.clearFlags r flags).segment j = s.segment j := by simp [segment]
@[simp] theorem clearFlags_service (r : RecRef) (flags : BitVec 16) (j : Trunk) : (s.clearFlags r flags).service j = s.service j := by cases j <;> simp [service]
@[simp] theorem clearFlags_param (r : RecRef) (flags : BitVec 16) (j : Fin 25) : (s.clearFlags r flags).param j = s.param j := by simp [param]

/-! ### foldl_releaseByRestart -/

theorem foldl_releaseByRestart_frame (xs : List CtxId) : xs.foldl (fun s c => s.releaseByRestart c) s = { s with
    contexts := (xs.foldl (fun s c => s.releaseByRestart c) s).contexts
    paths := (xs.foldl (fun s c => s.releaseByRestart c) s).paths
    waiting := (xs.foldl (fun s c => s.releaseByRestart c) s).waiting
    players := (xs.foldl (fun s c => s.releaseByRestart c) s).players
    marks := (xs.foldl (fun s c => s.releaseByRestart c) s).marks
    loops := (xs.foldl (fun s c => s.releaseByRestart c) s).loops
    trunkA := (xs.foldl (fun s c => s.releaseByRestart c) s).trunkA
    trunkB := (xs.foldl (fun s c => s.releaseByRestart c) s).trunkB
    handed := (xs.foldl (fun s c => s.releaseByRestart c) s).handed } := by
  apply State.ext <;> first | with_reducible rfl | (exact foldl_keeps _ _ (fun _ _ => by simp) _ _)
@[simp] theorem foldl_releaseByRestart_pending (xs : List CtxId) : (xs.foldl (fun s c => s.releaseByRestart c) s).pending = s.pending := by rw [foldl_releaseByRestart_frame]
@[simp] theorem foldl_releaseByRestart_rings (xs : List CtxId) : (xs.foldl (fun s c => s.releaseByRestart c) s).rings = s.rings := by rw [foldl_releaseByRestart_frame]
@[simp] theorem foldl_releaseByRestart_feeds (xs : List CtxId) : (xs.foldl (fun s c => s.releaseByRestart c) s).feeds = s.feeds := by rw [foldl_releaseByRestart_frame]
@[simp] theorem foldl_releaseByRestart_supply (xs : List CtxId) : (xs.foldl (fun s c => s.releaseByRestart c) s).supply = s.supply := by rw [foldl_releaseByRestart_frame]
@[simp] theorem foldl_releaseByRestart_directory (xs : List CtxId) : (xs.foldl (fun s c => s.releaseByRestart c) s).directory = s.directory := by rw [foldl_releaseByRestart_frame]
@[simp] theorem foldl_releaseByRestart_entryCount (xs : List CtxId) : (xs.foldl (fun s c => s.releaseByRestart c) s).entryCount = s.entryCount := by rw [foldl_releaseByRestart_frame]
@[simp] theorem foldl_releaseByRestart_routes (xs : List CtxId) : (xs.foldl (fun s c => s.releaseByRestart c) s).routes = s.routes := by rw [foldl_releaseByRestart_frame]
@[simp] theorem foldl_releaseByRestart_plan (xs : List CtxId) : (xs.foldl (fun s c => s.releaseByRestart c) s).plan = s.plan := by rw [foldl_releaseByRestart_frame]
@[simp] theorem foldl_releaseByRestart_samples (xs : List CtxId) : (xs.foldl (fun s c => s.releaseByRestart c) s).samples = s.samples := by rw [foldl_releaseByRestart_frame]
@[simp] theorem foldl_releaseByRestart_segments (xs : List CtxId) : (xs.foldl (fun s c => s.releaseByRestart c) s).segments = s.segments := by rw [foldl_releaseByRestart_frame]
@[simp] theorem foldl_releaseByRestart_serviceA (xs : List CtxId) : (xs.foldl (fun s c => s.releaseByRestart c) s).serviceA = s.serviceA := by rw [foldl_releaseByRestart_frame]
@[simp] theorem foldl_releaseByRestart_serviceB (xs : List CtxId) : (xs.foldl (fun s c => s.releaseByRestart c) s).serviceB = s.serviceB := by rw [foldl_releaseByRestart_frame]
@[simp] theorem foldl_releaseByRestart_home (xs : List CtxId) : (xs.foldl (fun s c => s.releaseByRestart c) s).home = s.home := by rw [foldl_releaseByRestart_frame]
@[simp] theorem foldl_releaseByRestart_settings (xs : List CtxId) : (xs.foldl (fun s c => s.releaseByRestart c) s).settings = s.settings := by rw [foldl_releaseByRestart_frame]
@[simp] theorem foldl_releaseByRestart_sectionFault (xs : List CtxId) : (xs.foldl (fun s c => s.releaseByRestart c) s).sectionFault = s.sectionFault := by rw [foldl_releaseByRestart_frame]
@[simp] theorem foldl_releaseByRestart_trunkFaultA (xs : List CtxId) : (xs.foldl (fun s c => s.releaseByRestart c) s).trunkFaultA = s.trunkFaultA := by rw [foldl_releaseByRestart_frame]
@[simp] theorem foldl_releaseByRestart_trunkFaultB (xs : List CtxId) : (xs.foldl (fun s c => s.releaseByRestart c) s).trunkFaultB = s.trunkFaultB := by rw [foldl_releaseByRestart_frame]
@[simp] theorem foldl_releaseByRestart_loopFaults (xs : List CtxId) : (xs.foldl (fun s c => s.releaseByRestart c) s).loopFaults = s.loopFaults := by rw [foldl_releaseByRestart_frame]
@[simp] theorem foldl_releaseByRestart_postFaults (xs : List CtxId) : (xs.foldl (fun s c => s.releaseByRestart c) s).postFaults = s.postFaults := by rw [foldl_releaseByRestart_frame]
@[simp] theorem foldl_releaseByRestart_testResults (xs : List CtxId) : (xs.foldl (fun s c => s.releaseByRestart c) s).testResults = s.testResults := by rw [foldl_releaseByRestart_frame]
@[simp] theorem foldl_releaseByRestart_abandons (xs : List CtxId) : (xs.foldl (fun s c => s.releaseByRestart c) s).abandons = s.abandons := by rw [foldl_releaseByRestart_frame]
@[simp] theorem foldl_releaseByRestart_abandonPosts (xs : List CtxId) : (xs.foldl (fun s c => s.releaseByRestart c) s).abandonPosts = s.abandonPosts := by rw [foldl_releaseByRestart_frame]
@[simp] theorem foldl_releaseByRestart_mask (xs : List CtxId) : (xs.foldl (fun s c => s.releaseByRestart c) s).mask = s.mask := by rw [foldl_releaseByRestart_frame]
@[simp] theorem foldl_releaseByRestart_ring (xs : List CtxId) (j : LoopId) : (xs.foldl (fun s c => s.releaseByRestart c) s).ring j = s.ring j := by simp [ring]
@[simp] theorem foldl_releaseByRestart_feed (xs : List CtxId) (j : LoopId) : (xs.foldl (fun s c => s.releaseByRestart c) s).feed j = s.feed j := by simp [feed]
@[simp] theorem foldl_releaseByRestart_record (xs : List CtxId) (j : SlotId) : (xs.foldl (fun s c => s.releaseByRestart c) s).record j = s.record j := by simp [record]
@[simp] theorem foldl_releaseByRestart_segment (xs : List CtxId) (j : SegId) : (xs.foldl (fun s c => s.releaseByRestart c) s).segment j = s.segment j := by simp [segment]
@[simp] theorem foldl_releaseByRestart_service (xs : List CtxId) (j : Trunk) : (xs.foldl (fun s c => s.releaseByRestart c) s).service j = s.service j := by cases j <;> simp [service]
@[simp] theorem foldl_releaseByRestart_param (xs : List CtxId) (j : Fin 25) : (xs.foldl (fun s c => s.releaseByRestart c) s).param j = s.param j := by simp [param]

/-! ### restartLoop -/

theorem restartLoop_frame (l : LoopId) : s.restartLoop l = { s with
    contexts := (s.restartLoop l).contexts
    paths := (s.restartLoop l).paths
    waiting := (s.restartLoop l).waiting
    players := (s.restartLoop l).players
    marks := (s.restartLoop l).marks
    loops := (s.restartLoop l).loops
    trunkA := (s.restartLoop l).trunkA
    trunkB := (s.restartLoop l).trunkB
    handed := (s.restartLoop l).handed } := by
  apply State.ext <;> first | with_reducible rfl | (unfold restartLoop; dsimp only; (repeat' split) <;> simp)
@[simp] theorem restartLoop_pending (l : LoopId) : (s.restartLoop l).pending = s.pending := by rw [restartLoop_frame]
@[simp] theorem restartLoop_rings (l : LoopId) : (s.restartLoop l).rings = s.rings := by rw [restartLoop_frame]
@[simp] theorem restartLoop_feeds (l : LoopId) : (s.restartLoop l).feeds = s.feeds := by rw [restartLoop_frame]
@[simp] theorem restartLoop_supply (l : LoopId) : (s.restartLoop l).supply = s.supply := by rw [restartLoop_frame]
@[simp] theorem restartLoop_directory (l : LoopId) : (s.restartLoop l).directory = s.directory := by rw [restartLoop_frame]
@[simp] theorem restartLoop_entryCount (l : LoopId) : (s.restartLoop l).entryCount = s.entryCount := by rw [restartLoop_frame]
@[simp] theorem restartLoop_routes (l : LoopId) : (s.restartLoop l).routes = s.routes := by rw [restartLoop_frame]
@[simp] theorem restartLoop_plan (l : LoopId) : (s.restartLoop l).plan = s.plan := by rw [restartLoop_frame]
@[simp] theorem restartLoop_samples (l : LoopId) : (s.restartLoop l).samples = s.samples := by rw [restartLoop_frame]
@[simp] theorem restartLoop_segments (l : LoopId) : (s.restartLoop l).segments = s.segments := by rw [restartLoop_frame]
@[simp] theorem restartLoop_serviceA (l : LoopId) : (s.restartLoop l).serviceA = s.serviceA := by rw [restartLoop_frame]
@[simp] theorem restartLoop_serviceB (l : LoopId) : (s.restartLoop l).serviceB = s.serviceB := by rw [restartLoop_frame]
@[simp] theorem restartLoop_home (l : LoopId) : (s.restartLoop l).home = s.home := by rw [restartLoop_frame]
@[simp] theorem restartLoop_settings (l : LoopId) : (s.restartLoop l).settings = s.settings := by rw [restartLoop_frame]
@[simp] theorem restartLoop_sectionFault (l : LoopId) : (s.restartLoop l).sectionFault = s.sectionFault := by rw [restartLoop_frame]
@[simp] theorem restartLoop_trunkFaultA (l : LoopId) : (s.restartLoop l).trunkFaultA = s.trunkFaultA := by rw [restartLoop_frame]
@[simp] theorem restartLoop_trunkFaultB (l : LoopId) : (s.restartLoop l).trunkFaultB = s.trunkFaultB := by rw [restartLoop_frame]
@[simp] theorem restartLoop_loopFaults (l : LoopId) : (s.restartLoop l).loopFaults = s.loopFaults := by rw [restartLoop_frame]
@[simp] theorem restartLoop_postFaults (l : LoopId) : (s.restartLoop l).postFaults = s.postFaults := by rw [restartLoop_frame]
@[simp] theorem restartLoop_testResults (l : LoopId) : (s.restartLoop l).testResults = s.testResults := by rw [restartLoop_frame]
@[simp] theorem restartLoop_abandons (l : LoopId) : (s.restartLoop l).abandons = s.abandons := by rw [restartLoop_frame]
@[simp] theorem restartLoop_abandonPosts (l : LoopId) : (s.restartLoop l).abandonPosts = s.abandonPosts := by rw [restartLoop_frame]
@[simp] theorem restartLoop_mask (l : LoopId) : (s.restartLoop l).mask = s.mask := by rw [restartLoop_frame]
@[simp] theorem restartLoop_ring (l : LoopId) (j : LoopId) : (s.restartLoop l).ring j = s.ring j := by simp [ring]
@[simp] theorem restartLoop_feed (l : LoopId) (j : LoopId) : (s.restartLoop l).feed j = s.feed j := by simp [feed]
@[simp] theorem restartLoop_record (l : LoopId) (j : SlotId) : (s.restartLoop l).record j = s.record j := by simp [record]
@[simp] theorem restartLoop_segment (l : LoopId) (j : SegId) : (s.restartLoop l).segment j = s.segment j := by simp [segment]
@[simp] theorem restartLoop_service (l : LoopId) (j : Trunk) : (s.restartLoop l).service j = s.service j := by cases j <;> simp [service]
@[simp] theorem restartLoop_param (l : LoopId) (j : Fin 25) : (s.restartLoop l).param j = s.param j := by simp [param]

/-! ### takeAll_feedReport -/

theorem takeAll_feedReport_frame (l : LoopId) : s.takeAll (feedReport l) = { s with
    loops := (s.takeAll (feedReport l)).loops
    handed := (s.takeAll (feedReport l)).handed } := by
  apply State.ext <;> first | with_reducible rfl | (unfold takeAll; refine foldl_keeps _ _ (fun s i => ?_) _ _; cases i <;> simp only [takeIf, feedReport] <;> (try rfl) <;> split_ifs <;> first | rfl | (simp only [leftBy, execFeedStateReport]; (repeat' split) <;> simp))
@[simp] theorem takeAll_feedReport_pending (l : LoopId) : (s.takeAll (feedReport l)).pending = s.pending := by rw [takeAll_feedReport_frame]
@[simp] theorem takeAll_feedReport_rings (l : LoopId) : (s.takeAll (feedReport l)).rings = s.rings := by rw [takeAll_feedReport_frame]
@[simp] theorem takeAll_feedReport_feeds (l : LoopId) : (s.takeAll (feedReport l)).feeds = s.feeds := by rw [takeAll_feedReport_frame]
@[simp] theorem takeAll_feedReport_supply (l : LoopId) : (s.takeAll (feedReport l)).supply = s.supply := by rw [takeAll_feedReport_frame]
@[simp] theorem takeAll_feedReport_directory (l : LoopId) : (s.takeAll (feedReport l)).directory = s.directory := by rw [takeAll_feedReport_frame]
@[simp] theorem takeAll_feedReport_contexts (l : LoopId) : (s.takeAll (feedReport l)).contexts = s.contexts := by rw [takeAll_feedReport_frame]
@[simp] theorem takeAll_feedReport_waiting (l : LoopId) : (s.takeAll (feedReport l)).waiting = s.waiting := by rw [takeAll_feedReport_frame]
@[simp] theorem takeAll_feedReport_entryCount (l : LoopId) : (s.takeAll (feedReport l)).entryCount = s.entryCount := by rw [takeAll_feedReport_frame]
@[simp] theorem takeAll_feedReport_routes (l : LoopId) : (s.takeAll (feedReport l)).routes = s.routes := by rw [takeAll_feedReport_frame]
@[simp] theorem takeAll_feedReport_plan (l : LoopId) : (s.takeAll (feedReport l)).plan = s.plan := by rw [takeAll_feedReport_frame]
@[simp] theorem takeAll_feedReport_trunkA (l : LoopId) : (s.takeAll (feedReport l)).trunkA = s.trunkA := by rw [takeAll_feedReport_frame]
@[simp] theorem takeAll_feedReport_trunkB (l : LoopId) : (s.takeAll (feedReport l)).trunkB = s.trunkB := by rw [takeAll_feedReport_frame]
@[simp] theorem takeAll_feedReport_paths (l : LoopId) : (s.takeAll (feedReport l)).paths = s.paths := by rw [takeAll_feedReport_frame]
@[simp] theorem takeAll_feedReport_samples (l : LoopId) : (s.takeAll (feedReport l)).samples = s.samples := by rw [takeAll_feedReport_frame]
@[simp] theorem takeAll_feedReport_segments (l : LoopId) : (s.takeAll (feedReport l)).segments = s.segments := by rw [takeAll_feedReport_frame]
@[simp] theorem takeAll_feedReport_players (l : LoopId) : (s.takeAll (feedReport l)).players = s.players := by rw [takeAll_feedReport_frame]
@[simp] theorem takeAll_feedReport_serviceA (l : LoopId) : (s.takeAll (feedReport l)).serviceA = s.serviceA := by rw [takeAll_feedReport_frame]
@[simp] theorem takeAll_feedReport_serviceB (l : LoopId) : (s.takeAll (feedReport l)).serviceB = s.serviceB := by rw [takeAll_feedReport_frame]
@[simp] theorem takeAll_feedReport_home (l : LoopId) : (s.takeAll (feedReport l)).home = s.home := by rw [takeAll_feedReport_frame]
@[simp] theorem takeAll_feedReport_settings (l : LoopId) : (s.takeAll (feedReport l)).settings = s.settings := by rw [takeAll_feedReport_frame]
@[simp] theorem takeAll_feedReport_sectionFault (l : LoopId) : (s.takeAll (feedReport l)).sectionFault = s.sectionFault := by rw [takeAll_feedReport_frame]
@[simp] theorem takeAll_feedReport_trunkFaultA (l : LoopId) : (s.takeAll (feedReport l)).trunkFaultA = s.trunkFaultA := by rw [takeAll_feedReport_frame]
@[simp] theorem takeAll_feedReport_trunkFaultB (l : LoopId) : (s.takeAll (feedReport l)).trunkFaultB = s.trunkFaultB := by rw [takeAll_feedReport_frame]
@[simp] theorem takeAll_feedReport_loopFaults (l : LoopId) : (s.takeAll (feedReport l)).loopFaults = s.loopFaults := by rw [takeAll_feedReport_frame]
@[simp] theorem takeAll_feedReport_postFaults (l : LoopId) : (s.takeAll (feedReport l)).postFaults = s.postFaults := by rw [takeAll_feedReport_frame]
@[simp] theorem takeAll_feedReport_testResults (l : LoopId) : (s.takeAll (feedReport l)).testResults = s.testResults := by rw [takeAll_feedReport_frame]
@[simp] theorem takeAll_feedReport_marks (l : LoopId) : (s.takeAll (feedReport l)).marks = s.marks := by rw [takeAll_feedReport_frame]
@[simp] theorem takeAll_feedReport_abandons (l : LoopId) : (s.takeAll (feedReport l)).abandons = s.abandons := by rw [takeAll_feedReport_frame]
@[simp] theorem takeAll_feedReport_abandonPosts (l : LoopId) : (s.takeAll (feedReport l)).abandonPosts = s.abandonPosts := by rw [takeAll_feedReport_frame]
@[simp] theorem takeAll_feedReport_mask (l : LoopId) : (s.takeAll (feedReport l)).mask = s.mask := by rw [takeAll_feedReport_frame]
@[simp] theorem takeAll_feedReport_ring (l : LoopId) (j : LoopId) : (s.takeAll (feedReport l)).ring j = s.ring j := by simp [ring]
@[simp] theorem takeAll_feedReport_feed (l : LoopId) (j : LoopId) : (s.takeAll (feedReport l)).feed j = s.feed j := by simp [feed]
@[simp] theorem takeAll_feedReport_record (l : LoopId) (j : SlotId) : (s.takeAll (feedReport l)).record j = s.record j := by simp [record]
@[simp] theorem takeAll_feedReport_ctx (l : LoopId) (j : CtxId) : (s.takeAll (feedReport l)).ctx j = s.ctx j := by simp [ctx]
@[simp] theorem takeAll_feedReport_trunk (l : LoopId) (j : Trunk) : (s.takeAll (feedReport l)).trunk j = s.trunk j := by cases j <;> simp [trunk]
@[simp] theorem takeAll_feedReport_path (l : LoopId) (j : CtxId) : (s.takeAll (feedReport l)).path j = s.path j := by simp [path]
@[simp] theorem takeAll_feedReport_player (l : LoopId) (j : CtxId) : (s.takeAll (feedReport l)).player j = s.player j := by simp [player]
@[simp] theorem takeAll_feedReport_segment (l : LoopId) (j : SegId) : (s.takeAll (feedReport l)).segment j = s.segment j := by simp [segment]
@[simp] theorem takeAll_feedReport_service (l : LoopId) (j : Trunk) : (s.takeAll (feedReport l)).service j = s.service j := by cases j <;> simp [service]
@[simp] theorem takeAll_feedReport_param (l : LoopId) (j : Fin 25) : (s.takeAll (feedReport l)).param j = s.param j := by simp [param]

/-! ### takeAll_callReport -/

theorem takeAll_callReport_frame (l : LoopId) : s.takeAll (callReport l) = { s with
    contexts := (s.takeAll (callReport l)).contexts
    paths := (s.takeAll (callReport l)).paths
    entryCount := (s.takeAll (callReport l)).entryCount
    waiting := (s.takeAll (callReport l)).waiting
    players := (s.takeAll (callReport l)).players
    marks := (s.takeAll (callReport l)).marks
    loops := (s.takeAll (callReport l)).loops
    trunkA := (s.takeAll (callReport l)).trunkA
    trunkB := (s.takeAll (callReport l)).trunkB
    handed := (s.takeAll (callReport l)).handed } := by
  apply State.ext <;> first | with_reducible rfl | (unfold takeAll; refine foldl_keeps _ _ (fun s i => ?_) _ _; cases i <;> simp only [takeIf, callReport] <;> (try rfl) <;> split_ifs <;> first | rfl | (simp only [leftBy, execRequestReport, execCallerReport, execBearerLiveReport, execBearerFreeReport, execLoopStateReport, execTestFailReport, execRebuildReport, execDirectoryRelease]; (repeat' split) <;> simp))
@[simp] theorem takeAll_callReport_pending (l : LoopId) : (s.takeAll (callReport l)).pending = s.pending := by rw [takeAll_callReport_frame]
@[simp] theorem takeAll_callReport_rings (l : LoopId) : (s.takeAll (callReport l)).rings = s.rings := by rw [takeAll_callReport_frame]
@[simp] theorem takeAll_callReport_feeds (l : LoopId) : (s.takeAll (callReport l)).feeds = s.feeds := by rw [takeAll_callReport_frame]
@[simp] theorem takeAll_callReport_supply (l : LoopId) : (s.takeAll (callReport l)).supply = s.supply := by rw [takeAll_callReport_frame]
@[simp] theorem takeAll_callReport_directory (l : LoopId) : (s.takeAll (callReport l)).directory = s.directory := by rw [takeAll_callReport_frame]
@[simp] theorem takeAll_callReport_routes (l : LoopId) : (s.takeAll (callReport l)).routes = s.routes := by rw [takeAll_callReport_frame]
@[simp] theorem takeAll_callReport_plan (l : LoopId) : (s.takeAll (callReport l)).plan = s.plan := by rw [takeAll_callReport_frame]
@[simp] theorem takeAll_callReport_samples (l : LoopId) : (s.takeAll (callReport l)).samples = s.samples := by rw [takeAll_callReport_frame]
@[simp] theorem takeAll_callReport_segments (l : LoopId) : (s.takeAll (callReport l)).segments = s.segments := by rw [takeAll_callReport_frame]
@[simp] theorem takeAll_callReport_serviceA (l : LoopId) : (s.takeAll (callReport l)).serviceA = s.serviceA := by rw [takeAll_callReport_frame]
@[simp] theorem takeAll_callReport_serviceB (l : LoopId) : (s.takeAll (callReport l)).serviceB = s.serviceB := by rw [takeAll_callReport_frame]
@[simp] theorem takeAll_callReport_home (l : LoopId) : (s.takeAll (callReport l)).home = s.home := by rw [takeAll_callReport_frame]
@[simp] theorem takeAll_callReport_settings (l : LoopId) : (s.takeAll (callReport l)).settings = s.settings := by rw [takeAll_callReport_frame]
@[simp] theorem takeAll_callReport_sectionFault (l : LoopId) : (s.takeAll (callReport l)).sectionFault = s.sectionFault := by rw [takeAll_callReport_frame]
@[simp] theorem takeAll_callReport_trunkFaultA (l : LoopId) : (s.takeAll (callReport l)).trunkFaultA = s.trunkFaultA := by rw [takeAll_callReport_frame]
@[simp] theorem takeAll_callReport_trunkFaultB (l : LoopId) : (s.takeAll (callReport l)).trunkFaultB = s.trunkFaultB := by rw [takeAll_callReport_frame]
@[simp] theorem takeAll_callReport_loopFaults (l : LoopId) : (s.takeAll (callReport l)).loopFaults = s.loopFaults := by rw [takeAll_callReport_frame]
@[simp] theorem takeAll_callReport_postFaults (l : LoopId) : (s.takeAll (callReport l)).postFaults = s.postFaults := by rw [takeAll_callReport_frame]
@[simp] theorem takeAll_callReport_testResults (l : LoopId) : (s.takeAll (callReport l)).testResults = s.testResults := by rw [takeAll_callReport_frame]
@[simp] theorem takeAll_callReport_abandons (l : LoopId) : (s.takeAll (callReport l)).abandons = s.abandons := by rw [takeAll_callReport_frame]
@[simp] theorem takeAll_callReport_abandonPosts (l : LoopId) : (s.takeAll (callReport l)).abandonPosts = s.abandonPosts := by rw [takeAll_callReport_frame]
@[simp] theorem takeAll_callReport_mask (l : LoopId) : (s.takeAll (callReport l)).mask = s.mask := by rw [takeAll_callReport_frame]
@[simp] theorem takeAll_callReport_ring (l : LoopId) (j : LoopId) : (s.takeAll (callReport l)).ring j = s.ring j := by simp [ring]
@[simp] theorem takeAll_callReport_feed (l : LoopId) (j : LoopId) : (s.takeAll (callReport l)).feed j = s.feed j := by simp [feed]
@[simp] theorem takeAll_callReport_record (l : LoopId) (j : SlotId) : (s.takeAll (callReport l)).record j = s.record j := by simp [record]
@[simp] theorem takeAll_callReport_segment (l : LoopId) (j : SegId) : (s.takeAll (callReport l)).segment j = s.segment j := by simp [segment]
@[simp] theorem takeAll_callReport_service (l : LoopId) (j : Trunk) : (s.takeAll (callReport l)).service j = s.service j := by cases j <;> simp [service]
@[simp] theorem takeAll_callReport_param (l : LoopId) (j : Fin 25) : (s.takeAll (callReport l)).param j = s.param j := by simp [param]

/-! ### settleCalls -/

theorem settleCalls_frame (l : LoopId) : s.settleCalls l = { s with
    contexts := (s.settleCalls l).contexts
    paths := (s.settleCalls l).paths
    entryCount := (s.settleCalls l).entryCount
    waiting := (s.settleCalls l).waiting
    players := (s.settleCalls l).players
    marks := (s.settleCalls l).marks
    loops := (s.settleCalls l).loops
    trunkA := (s.settleCalls l).trunkA
    trunkB := (s.settleCalls l).trunkB
    handed := (s.settleCalls l).handed } := by
  apply State.ext <;> first | with_reducible rfl | (unfold settleCalls; dsimp only; (repeat' split) <;> simp)
@[simp] theorem settleCalls_pending (l : LoopId) : (s.settleCalls l).pending = s.pending := by rw [settleCalls_frame]
@[simp] theorem settleCalls_rings (l : LoopId) : (s.settleCalls l).rings = s.rings := by rw [settleCalls_frame]
@[simp] theorem settleCalls_feeds (l : LoopId) : (s.settleCalls l).feeds = s.feeds := by rw [settleCalls_frame]
@[simp] theorem settleCalls_supply (l : LoopId) : (s.settleCalls l).supply = s.supply := by rw [settleCalls_frame]
@[simp] theorem settleCalls_directory (l : LoopId) : (s.settleCalls l).directory = s.directory := by rw [settleCalls_frame]
@[simp] theorem settleCalls_routes (l : LoopId) : (s.settleCalls l).routes = s.routes := by rw [settleCalls_frame]
@[simp] theorem settleCalls_plan (l : LoopId) : (s.settleCalls l).plan = s.plan := by rw [settleCalls_frame]
@[simp] theorem settleCalls_samples (l : LoopId) : (s.settleCalls l).samples = s.samples := by rw [settleCalls_frame]
@[simp] theorem settleCalls_segments (l : LoopId) : (s.settleCalls l).segments = s.segments := by rw [settleCalls_frame]
@[simp] theorem settleCalls_serviceA (l : LoopId) : (s.settleCalls l).serviceA = s.serviceA := by rw [settleCalls_frame]
@[simp] theorem settleCalls_serviceB (l : LoopId) : (s.settleCalls l).serviceB = s.serviceB := by rw [settleCalls_frame]
@[simp] theorem settleCalls_home (l : LoopId) : (s.settleCalls l).home = s.home := by rw [settleCalls_frame]
@[simp] theorem settleCalls_settings (l : LoopId) : (s.settleCalls l).settings = s.settings := by rw [settleCalls_frame]
@[simp] theorem settleCalls_sectionFault (l : LoopId) : (s.settleCalls l).sectionFault = s.sectionFault := by rw [settleCalls_frame]
@[simp] theorem settleCalls_trunkFaultA (l : LoopId) : (s.settleCalls l).trunkFaultA = s.trunkFaultA := by rw [settleCalls_frame]
@[simp] theorem settleCalls_trunkFaultB (l : LoopId) : (s.settleCalls l).trunkFaultB = s.trunkFaultB := by rw [settleCalls_frame]
@[simp] theorem settleCalls_loopFaults (l : LoopId) : (s.settleCalls l).loopFaults = s.loopFaults := by rw [settleCalls_frame]
@[simp] theorem settleCalls_postFaults (l : LoopId) : (s.settleCalls l).postFaults = s.postFaults := by rw [settleCalls_frame]
@[simp] theorem settleCalls_testResults (l : LoopId) : (s.settleCalls l).testResults = s.testResults := by rw [settleCalls_frame]
@[simp] theorem settleCalls_abandons (l : LoopId) : (s.settleCalls l).abandons = s.abandons := by rw [settleCalls_frame]
@[simp] theorem settleCalls_abandonPosts (l : LoopId) : (s.settleCalls l).abandonPosts = s.abandonPosts := by rw [settleCalls_frame]
@[simp] theorem settleCalls_mask (l : LoopId) : (s.settleCalls l).mask = s.mask := by rw [settleCalls_frame]
@[simp] theorem settleCalls_ring (l : LoopId) (j : LoopId) : (s.settleCalls l).ring j = s.ring j := by simp [ring]
@[simp] theorem settleCalls_feed (l : LoopId) (j : LoopId) : (s.settleCalls l).feed j = s.feed j := by simp [feed]
@[simp] theorem settleCalls_record (l : LoopId) (j : SlotId) : (s.settleCalls l).record j = s.record j := by simp [record]
@[simp] theorem settleCalls_segment (l : LoopId) (j : SegId) : (s.settleCalls l).segment j = s.segment j := by simp [segment]
@[simp] theorem settleCalls_service (l : LoopId) (j : Trunk) : (s.settleCalls l).service j = s.service j := by cases j <;> simp [service]
@[simp] theorem settleCalls_param (l : LoopId) (j : Fin 25) : (s.settleCalls l).param j = s.param j := by simp [param]

/-! ### carryFeed -/

theorem carryFeed_frame (s0 : State) (l : LoopId) : s0.carryFeed s l = { s with
    contexts := (s0.carryFeed s l).contexts
    paths := (s0.carryFeed s l).paths
    entryCount := (s0.carryFeed s l).entryCount
    waiting := (s0.carryFeed s l).waiting
    players := (s0.carryFeed s l).players
    marks := (s0.carryFeed s l).marks
    loops := (s0.carryFeed s l).loops
    trunkA := (s0.carryFeed s l).trunkA
    trunkB := (s0.carryFeed s l).trunkB
    handed := (s0.carryFeed s l).handed } := by
  apply State.ext <;> first | with_reducible rfl | (unfold carryFeed; dsimp only; (repeat' split) <;> simp)
@[simp] theorem carryFeed_pending (s0 : State) (l : LoopId) : (s0.carryFeed s l).pending = s.pending := by rw [carryFeed_frame]
@[simp] theorem carryFeed_rings (s0 : State) (l : LoopId) : (s0.carryFeed s l).rings = s.rings := by rw [carryFeed_frame]
@[simp] theorem carryFeed_feeds (s0 : State) (l : LoopId) : (s0.carryFeed s l).feeds = s.feeds := by rw [carryFeed_frame]
@[simp] theorem carryFeed_supply (s0 : State) (l : LoopId) : (s0.carryFeed s l).supply = s.supply := by rw [carryFeed_frame]
@[simp] theorem carryFeed_directory (s0 : State) (l : LoopId) : (s0.carryFeed s l).directory = s.directory := by rw [carryFeed_frame]
@[simp] theorem carryFeed_routes (s0 : State) (l : LoopId) : (s0.carryFeed s l).routes = s.routes := by rw [carryFeed_frame]
@[simp] theorem carryFeed_plan (s0 : State) (l : LoopId) : (s0.carryFeed s l).plan = s.plan := by rw [carryFeed_frame]
@[simp] theorem carryFeed_samples (s0 : State) (l : LoopId) : (s0.carryFeed s l).samples = s.samples := by rw [carryFeed_frame]
@[simp] theorem carryFeed_segments (s0 : State) (l : LoopId) : (s0.carryFeed s l).segments = s.segments := by rw [carryFeed_frame]
@[simp] theorem carryFeed_serviceA (s0 : State) (l : LoopId) : (s0.carryFeed s l).serviceA = s.serviceA := by rw [carryFeed_frame]
@[simp] theorem carryFeed_serviceB (s0 : State) (l : LoopId) : (s0.carryFeed s l).serviceB = s.serviceB := by rw [carryFeed_frame]
@[simp] theorem carryFeed_home (s0 : State) (l : LoopId) : (s0.carryFeed s l).home = s.home := by rw [carryFeed_frame]
@[simp] theorem carryFeed_settings (s0 : State) (l : LoopId) : (s0.carryFeed s l).settings = s.settings := by rw [carryFeed_frame]
@[simp] theorem carryFeed_sectionFault (s0 : State) (l : LoopId) : (s0.carryFeed s l).sectionFault = s.sectionFault := by rw [carryFeed_frame]
@[simp] theorem carryFeed_trunkFaultA (s0 : State) (l : LoopId) : (s0.carryFeed s l).trunkFaultA = s.trunkFaultA := by rw [carryFeed_frame]
@[simp] theorem carryFeed_trunkFaultB (s0 : State) (l : LoopId) : (s0.carryFeed s l).trunkFaultB = s.trunkFaultB := by rw [carryFeed_frame]
@[simp] theorem carryFeed_loopFaults (s0 : State) (l : LoopId) : (s0.carryFeed s l).loopFaults = s.loopFaults := by rw [carryFeed_frame]
@[simp] theorem carryFeed_postFaults (s0 : State) (l : LoopId) : (s0.carryFeed s l).postFaults = s.postFaults := by rw [carryFeed_frame]
@[simp] theorem carryFeed_testResults (s0 : State) (l : LoopId) : (s0.carryFeed s l).testResults = s.testResults := by rw [carryFeed_frame]
@[simp] theorem carryFeed_abandons (s0 : State) (l : LoopId) : (s0.carryFeed s l).abandons = s.abandons := by rw [carryFeed_frame]
@[simp] theorem carryFeed_abandonPosts (s0 : State) (l : LoopId) : (s0.carryFeed s l).abandonPosts = s.abandonPosts := by rw [carryFeed_frame]
@[simp] theorem carryFeed_mask (s0 : State) (l : LoopId) : (s0.carryFeed s l).mask = s.mask := by rw [carryFeed_frame]
@[simp] theorem carryFeed_ring (s0 : State) (l : LoopId) (j : LoopId) : (s0.carryFeed s l).ring j = s.ring j := by simp [ring]
@[simp] theorem carryFeed_feed (s0 : State) (l : LoopId) (j : LoopId) : (s0.carryFeed s l).feed j = s.feed j := by simp [feed]
@[simp] theorem carryFeed_record (s0 : State) (l : LoopId) (j : SlotId) : (s0.carryFeed s l).record j = s.record j := by simp [record]
@[simp] theorem carryFeed_segment (s0 : State) (l : LoopId) (j : SegId) : (s0.carryFeed s l).segment j = s.segment j := by simp [segment]
@[simp] theorem carryFeed_service (s0 : State) (l : LoopId) (j : Trunk) : (s0.carryFeed s l).service j = s.service j := by cases j <;> simp [service]
@[simp] theorem carryFeed_param (s0 : State) (l : LoopId) (j : Fin 25) : (s0.carryFeed s l).param j = s.param j := by simp [param]

/-! ### testLoop -/

theorem testLoop_frame (l : LoopId) : s.testLoop l = { s with
    loops := (s.testLoop l).loops
    handed := (s.testLoop l).handed } := by
  apply State.ext <;> first | with_reducible rfl | (simp [testLoop])
@[simp] theorem testLoop_pending (l : LoopId) : (s.testLoop l).pending = s.pending := by rw [testLoop_frame]
@[simp] theorem testLoop_rings (l : LoopId) : (s.testLoop l).rings = s.rings := by rw [testLoop_frame]
@[simp] theorem testLoop_feeds (l : LoopId) : (s.testLoop l).feeds = s.feeds := by rw [testLoop_frame]
@[simp] theorem testLoop_supply (l : LoopId) : (s.testLoop l).supply = s.supply := by rw [testLoop_frame]
@[simp] theorem testLoop_directory (l : LoopId) : (s.testLoop l).directory = s.directory := by rw [testLoop_frame]
@[simp] theorem testLoop_contexts (l : LoopId) : (s.testLoop l).contexts = s.contexts := by rw [testLoop_frame]
@[simp] theorem testLoop_waiting (l : LoopId) : (s.testLoop l).waiting = s.waiting := by rw [testLoop_frame]
@[simp] theorem testLoop_entryCount (l : LoopId) : (s.testLoop l).entryCount = s.entryCount := by rw [testLoop_frame]
@[simp] theorem testLoop_routes (l : LoopId) : (s.testLoop l).routes = s.routes := by rw [testLoop_frame]
@[simp] theorem testLoop_plan (l : LoopId) : (s.testLoop l).plan = s.plan := by rw [testLoop_frame]
@[simp] theorem testLoop_trunkA (l : LoopId) : (s.testLoop l).trunkA = s.trunkA := by rw [testLoop_frame]
@[simp] theorem testLoop_trunkB (l : LoopId) : (s.testLoop l).trunkB = s.trunkB := by rw [testLoop_frame]
@[simp] theorem testLoop_paths (l : LoopId) : (s.testLoop l).paths = s.paths := by rw [testLoop_frame]
@[simp] theorem testLoop_samples (l : LoopId) : (s.testLoop l).samples = s.samples := by rw [testLoop_frame]
@[simp] theorem testLoop_segments (l : LoopId) : (s.testLoop l).segments = s.segments := by rw [testLoop_frame]
@[simp] theorem testLoop_players (l : LoopId) : (s.testLoop l).players = s.players := by rw [testLoop_frame]
@[simp] theorem testLoop_serviceA (l : LoopId) : (s.testLoop l).serviceA = s.serviceA := by rw [testLoop_frame]
@[simp] theorem testLoop_serviceB (l : LoopId) : (s.testLoop l).serviceB = s.serviceB := by rw [testLoop_frame]
@[simp] theorem testLoop_home (l : LoopId) : (s.testLoop l).home = s.home := by rw [testLoop_frame]
@[simp] theorem testLoop_settings (l : LoopId) : (s.testLoop l).settings = s.settings := by rw [testLoop_frame]
@[simp] theorem testLoop_sectionFault (l : LoopId) : (s.testLoop l).sectionFault = s.sectionFault := by rw [testLoop_frame]
@[simp] theorem testLoop_trunkFaultA (l : LoopId) : (s.testLoop l).trunkFaultA = s.trunkFaultA := by rw [testLoop_frame]
@[simp] theorem testLoop_trunkFaultB (l : LoopId) : (s.testLoop l).trunkFaultB = s.trunkFaultB := by rw [testLoop_frame]
@[simp] theorem testLoop_loopFaults (l : LoopId) : (s.testLoop l).loopFaults = s.loopFaults := by rw [testLoop_frame]
@[simp] theorem testLoop_postFaults (l : LoopId) : (s.testLoop l).postFaults = s.postFaults := by rw [testLoop_frame]
@[simp] theorem testLoop_testResults (l : LoopId) : (s.testLoop l).testResults = s.testResults := by rw [testLoop_frame]
@[simp] theorem testLoop_marks (l : LoopId) : (s.testLoop l).marks = s.marks := by rw [testLoop_frame]
@[simp] theorem testLoop_abandons (l : LoopId) : (s.testLoop l).abandons = s.abandons := by rw [testLoop_frame]
@[simp] theorem testLoop_abandonPosts (l : LoopId) : (s.testLoop l).abandonPosts = s.abandonPosts := by rw [testLoop_frame]
@[simp] theorem testLoop_mask (l : LoopId) : (s.testLoop l).mask = s.mask := by rw [testLoop_frame]
@[simp] theorem testLoop_ring (l : LoopId) (j : LoopId) : (s.testLoop l).ring j = s.ring j := by simp [ring]
@[simp] theorem testLoop_feed (l : LoopId) (j : LoopId) : (s.testLoop l).feed j = s.feed j := by simp [feed]
@[simp] theorem testLoop_record (l : LoopId) (j : SlotId) : (s.testLoop l).record j = s.record j := by simp [record]
@[simp] theorem testLoop_ctx (l : LoopId) (j : CtxId) : (s.testLoop l).ctx j = s.ctx j := by simp [ctx]
@[simp] theorem testLoop_trunk (l : LoopId) (j : Trunk) : (s.testLoop l).trunk j = s.trunk j := by cases j <;> simp [trunk]
@[simp] theorem testLoop_path (l : LoopId) (j : CtxId) : (s.testLoop l).path j = s.path j := by simp [path]
@[simp] theorem testLoop_player (l : LoopId) (j : CtxId) : (s.testLoop l).player j = s.player j := by simp [player]
@[simp] theorem testLoop_segment (l : LoopId) (j : SegId) : (s.testLoop l).segment j = s.segment j := by simp [segment]
@[simp] theorem testLoop_service (l : LoopId) (j : Trunk) : (s.testLoop l).service j = s.service j := by cases j <;> simp [service]
@[simp] theorem testLoop_param (l : LoopId) (j : Fin 25) : (s.testLoop l).param j = s.param j := by simp [param]

/-! ### restartCalls -/

theorem restartCalls_frame : s.restartCalls = { s with
    contexts := (s.restartCalls).contexts
    waiting := (s.restartCalls).waiting
    entryCount := (s.restartCalls).entryCount
    players := (s.restartCalls).players
    marks := (s.restartCalls).marks
    loops := (s.restartCalls).loops
    handed := (s.restartCalls).handed } := by
  apply State.ext <;> first | with_reducible rfl | (unfold restartCalls; dsimp only; exact foldl_keeps _ _ (fun _ _ => by simp) _ _)
@[simp] theorem restartCalls_pending : (s.restartCalls).pending = s.pending := by rw [restartCalls_frame]
@[simp] theorem restartCalls_rings : (s.restartCalls).rings = s.rings := by rw [restartCalls_frame]
@[simp] theorem restartCalls_feeds : (s.restartCalls).feeds = s.feeds := by rw [restartCalls_frame]
@[simp] theorem restartCalls_supply : (s.restartCalls).supply = s.supply := by rw [restartCalls_frame]
@[simp] theorem restartCalls_directory : (s.restartCalls).directory = s.directory := by rw [restartCalls_frame]
@[simp] theorem restartCalls_routes : (s.restartCalls).routes = s.routes := by rw [restartCalls_frame]
@[simp] theorem restartCalls_plan : (s.restartCalls).plan = s.plan := by rw [restartCalls_frame]
@[simp] theorem restartCalls_trunkA : (s.restartCalls).trunkA = s.trunkA := by rw [restartCalls_frame]
@[simp] theorem restartCalls_trunkB : (s.restartCalls).trunkB = s.trunkB := by rw [restartCalls_frame]
@[simp] theorem restartCalls_paths : (s.restartCalls).paths = s.paths := by rw [restartCalls_frame]
@[simp] theorem restartCalls_samples : (s.restartCalls).samples = s.samples := by rw [restartCalls_frame]
@[simp] theorem restartCalls_segments : (s.restartCalls).segments = s.segments := by rw [restartCalls_frame]
@[simp] theorem restartCalls_serviceA : (s.restartCalls).serviceA = s.serviceA := by rw [restartCalls_frame]
@[simp] theorem restartCalls_serviceB : (s.restartCalls).serviceB = s.serviceB := by rw [restartCalls_frame]
@[simp] theorem restartCalls_home : (s.restartCalls).home = s.home := by rw [restartCalls_frame]
@[simp] theorem restartCalls_settings : (s.restartCalls).settings = s.settings := by rw [restartCalls_frame]
@[simp] theorem restartCalls_sectionFault : (s.restartCalls).sectionFault = s.sectionFault := by rw [restartCalls_frame]
@[simp] theorem restartCalls_trunkFaultA : (s.restartCalls).trunkFaultA = s.trunkFaultA := by rw [restartCalls_frame]
@[simp] theorem restartCalls_trunkFaultB : (s.restartCalls).trunkFaultB = s.trunkFaultB := by rw [restartCalls_frame]
@[simp] theorem restartCalls_loopFaults : (s.restartCalls).loopFaults = s.loopFaults := by rw [restartCalls_frame]
@[simp] theorem restartCalls_postFaults : (s.restartCalls).postFaults = s.postFaults := by rw [restartCalls_frame]
@[simp] theorem restartCalls_testResults : (s.restartCalls).testResults = s.testResults := by rw [restartCalls_frame]
@[simp] theorem restartCalls_abandons : (s.restartCalls).abandons = s.abandons := by rw [restartCalls_frame]
@[simp] theorem restartCalls_abandonPosts : (s.restartCalls).abandonPosts = s.abandonPosts := by rw [restartCalls_frame]
@[simp] theorem restartCalls_mask : (s.restartCalls).mask = s.mask := by rw [restartCalls_frame]
@[simp] theorem restartCalls_ring (j : LoopId) : (s.restartCalls).ring j = s.ring j := by simp [ring]
@[simp] theorem restartCalls_feed (j : LoopId) : (s.restartCalls).feed j = s.feed j := by simp [feed]
@[simp] theorem restartCalls_record (j : SlotId) : (s.restartCalls).record j = s.record j := by simp [record]
@[simp] theorem restartCalls_trunk (j : Trunk) : (s.restartCalls).trunk j = s.trunk j := by cases j <;> simp [trunk]
@[simp] theorem restartCalls_path (j : CtxId) : (s.restartCalls).path j = s.path j := by simp [path]
@[simp] theorem restartCalls_segment (j : SegId) : (s.restartCalls).segment j = s.segment j := by simp [segment]
@[simp] theorem restartCalls_service (j : Trunk) : (s.restartCalls).service j = s.service j := by cases j <;> simp [service]
@[simp] theorem restartCalls_param (j : Fin 25) : (s.restartCalls).param j = s.param j := by simp [param]

/-! ### restartBearers -/

theorem restartBearers_frame : s.restartBearers = { s with
    loops := (s.restartBearers).loops
    handed := (s.restartBearers).handed } := by
  apply State.ext <;> first | with_reducible rfl | (exact foldl_keeps _ _ (fun _ _ => (foldl_keeps _ _ (fun _ _ => by simp) _ _).trans (by simp)) _ _)
@[simp] theorem restartBearers_pending : (s.restartBearers).pending = s.pending := by rw [restartBearers_frame]
@[simp] theorem restartBearers_rings : (s.restartBearers).rings = s.rings := by rw [restartBearers_frame]
@[simp] theorem restartBearers_feeds : (s.restartBearers).feeds = s.feeds := by rw [restartBearers_frame]
@[simp] theorem restartBearers_supply : (s.restartBearers).supply = s.supply := by rw [restartBearers_frame]
@[simp] theorem restartBearers_directory : (s.restartBearers).directory = s.directory := by rw [restartBearers_frame]
@[simp] theorem restartBearers_contexts : (s.restartBearers).contexts = s.contexts := by rw [restartBearers_frame]
@[simp] theorem restartBearers_waiting : (s.restartBearers).waiting = s.waiting := by rw [restartBearers_frame]
@[simp] theorem restartBearers_entryCount : (s.restartBearers).entryCount = s.entryCount := by rw [restartBearers_frame]
@[simp] theorem restartBearers_routes : (s.restartBearers).routes = s.routes := by rw [restartBearers_frame]
@[simp] theorem restartBearers_plan : (s.restartBearers).plan = s.plan := by rw [restartBearers_frame]
@[simp] theorem restartBearers_trunkA : (s.restartBearers).trunkA = s.trunkA := by rw [restartBearers_frame]
@[simp] theorem restartBearers_trunkB : (s.restartBearers).trunkB = s.trunkB := by rw [restartBearers_frame]
@[simp] theorem restartBearers_paths : (s.restartBearers).paths = s.paths := by rw [restartBearers_frame]
@[simp] theorem restartBearers_samples : (s.restartBearers).samples = s.samples := by rw [restartBearers_frame]
@[simp] theorem restartBearers_segments : (s.restartBearers).segments = s.segments := by rw [restartBearers_frame]
@[simp] theorem restartBearers_players : (s.restartBearers).players = s.players := by rw [restartBearers_frame]
@[simp] theorem restartBearers_serviceA : (s.restartBearers).serviceA = s.serviceA := by rw [restartBearers_frame]
@[simp] theorem restartBearers_serviceB : (s.restartBearers).serviceB = s.serviceB := by rw [restartBearers_frame]
@[simp] theorem restartBearers_home : (s.restartBearers).home = s.home := by rw [restartBearers_frame]
@[simp] theorem restartBearers_settings : (s.restartBearers).settings = s.settings := by rw [restartBearers_frame]
@[simp] theorem restartBearers_sectionFault : (s.restartBearers).sectionFault = s.sectionFault := by rw [restartBearers_frame]
@[simp] theorem restartBearers_trunkFaultA : (s.restartBearers).trunkFaultA = s.trunkFaultA := by rw [restartBearers_frame]
@[simp] theorem restartBearers_trunkFaultB : (s.restartBearers).trunkFaultB = s.trunkFaultB := by rw [restartBearers_frame]
@[simp] theorem restartBearers_loopFaults : (s.restartBearers).loopFaults = s.loopFaults := by rw [restartBearers_frame]
@[simp] theorem restartBearers_postFaults : (s.restartBearers).postFaults = s.postFaults := by rw [restartBearers_frame]
@[simp] theorem restartBearers_testResults : (s.restartBearers).testResults = s.testResults := by rw [restartBearers_frame]
@[simp] theorem restartBearers_marks : (s.restartBearers).marks = s.marks := by rw [restartBearers_frame]
@[simp] theorem restartBearers_abandons : (s.restartBearers).abandons = s.abandons := by rw [restartBearers_frame]
@[simp] theorem restartBearers_abandonPosts : (s.restartBearers).abandonPosts = s.abandonPosts := by rw [restartBearers_frame]
@[simp] theorem restartBearers_mask : (s.restartBearers).mask = s.mask := by rw [restartBearers_frame]
@[simp] theorem restartBearers_ring (j : LoopId) : (s.restartBearers).ring j = s.ring j := by simp [ring]
@[simp] theorem restartBearers_feed (j : LoopId) : (s.restartBearers).feed j = s.feed j := by simp [feed]
@[simp] theorem restartBearers_record (j : SlotId) : (s.restartBearers).record j = s.record j := by simp [record]
@[simp] theorem restartBearers_ctx (j : CtxId) : (s.restartBearers).ctx j = s.ctx j := by simp [ctx]
@[simp] theorem restartBearers_trunk (j : Trunk) : (s.restartBearers).trunk j = s.trunk j := by cases j <;> simp [trunk]
@[simp] theorem restartBearers_path (j : CtxId) : (s.restartBearers).path j = s.path j := by simp [path]
@[simp] theorem restartBearers_player (j : CtxId) : (s.restartBearers).player j = s.player j := by simp [player]
@[simp] theorem restartBearers_segment (j : SegId) : (s.restartBearers).segment j = s.segment j := by simp [segment]
@[simp] theorem restartBearers_service (j : Trunk) : (s.restartBearers).service j = s.service j := by cases j <;> simp [service]
@[simp] theorem restartBearers_param (j : Fin 25) : (s.restartBearers).param j = s.param j := by simp [param]

/-! ### stopPlayers -/

theorem stopPlayers_frame : s.stopPlayers = { s with
    players := (s.stopPlayers).players } := by
  apply State.ext <;> first | with_reducible rfl | (rfl)
@[simp] theorem stopPlayers_pending : (s.stopPlayers).pending = s.pending := by rw [stopPlayers_frame]
@[simp] theorem stopPlayers_handed : (s.stopPlayers).handed = s.handed := by rw [stopPlayers_frame]
@[simp] theorem stopPlayers_loops : (s.stopPlayers).loops = s.loops := by rw [stopPlayers_frame]
@[simp] theorem stopPlayers_rings : (s.stopPlayers).rings = s.rings := by rw [stopPlayers_frame]
@[simp] theorem stopPlayers_feeds : (s.stopPlayers).feeds = s.feeds := by rw [stopPlayers_frame]
@[simp] theorem stopPlayers_supply : (s.stopPlayers).supply = s.supply := by rw [stopPlayers_frame]
@[simp] theorem stopPlayers_directory : (s.stopPlayers).directory = s.directory := by rw [stopPlayers_frame]
@[simp] theorem stopPlayers_contexts : (s.stopPlayers).contexts = s.contexts := by rw [stopPlayers_frame]
@[simp] theorem stopPlayers_waiting : (s.stopPlayers).waiting = s.waiting := by rw [stopPlayers_frame]
@[simp] theorem stopPlayers_entryCount : (s.stopPlayers).entryCount = s.entryCount := by rw [stopPlayers_frame]
@[simp] theorem stopPlayers_routes : (s.stopPlayers).routes = s.routes := by rw [stopPlayers_frame]
@[simp] theorem stopPlayers_plan : (s.stopPlayers).plan = s.plan := by rw [stopPlayers_frame]
@[simp] theorem stopPlayers_trunkA : (s.stopPlayers).trunkA = s.trunkA := by rw [stopPlayers_frame]
@[simp] theorem stopPlayers_trunkB : (s.stopPlayers).trunkB = s.trunkB := by rw [stopPlayers_frame]
@[simp] theorem stopPlayers_paths : (s.stopPlayers).paths = s.paths := by rw [stopPlayers_frame]
@[simp] theorem stopPlayers_samples : (s.stopPlayers).samples = s.samples := by rw [stopPlayers_frame]
@[simp] theorem stopPlayers_segments : (s.stopPlayers).segments = s.segments := by rw [stopPlayers_frame]
@[simp] theorem stopPlayers_serviceA : (s.stopPlayers).serviceA = s.serviceA := by rw [stopPlayers_frame]
@[simp] theorem stopPlayers_serviceB : (s.stopPlayers).serviceB = s.serviceB := by rw [stopPlayers_frame]
@[simp] theorem stopPlayers_home : (s.stopPlayers).home = s.home := by rw [stopPlayers_frame]
@[simp] theorem stopPlayers_settings : (s.stopPlayers).settings = s.settings := by rw [stopPlayers_frame]
@[simp] theorem stopPlayers_sectionFault : (s.stopPlayers).sectionFault = s.sectionFault := by rw [stopPlayers_frame]
@[simp] theorem stopPlayers_trunkFaultA : (s.stopPlayers).trunkFaultA = s.trunkFaultA := by rw [stopPlayers_frame]
@[simp] theorem stopPlayers_trunkFaultB : (s.stopPlayers).trunkFaultB = s.trunkFaultB := by rw [stopPlayers_frame]
@[simp] theorem stopPlayers_loopFaults : (s.stopPlayers).loopFaults = s.loopFaults := by rw [stopPlayers_frame]
@[simp] theorem stopPlayers_postFaults : (s.stopPlayers).postFaults = s.postFaults := by rw [stopPlayers_frame]
@[simp] theorem stopPlayers_testResults : (s.stopPlayers).testResults = s.testResults := by rw [stopPlayers_frame]
@[simp] theorem stopPlayers_marks : (s.stopPlayers).marks = s.marks := by rw [stopPlayers_frame]
@[simp] theorem stopPlayers_abandons : (s.stopPlayers).abandons = s.abandons := by rw [stopPlayers_frame]
@[simp] theorem stopPlayers_abandonPosts : (s.stopPlayers).abandonPosts = s.abandonPosts := by rw [stopPlayers_frame]
@[simp] theorem stopPlayers_mask : (s.stopPlayers).mask = s.mask := by rw [stopPlayers_frame]
@[simp] theorem stopPlayers_loop (j : LoopId) : (s.stopPlayers).loop j = s.loop j := by simp [loop]
@[simp] theorem stopPlayers_ring (j : LoopId) : (s.stopPlayers).ring j = s.ring j := by simp [ring]
@[simp] theorem stopPlayers_feed (j : LoopId) : (s.stopPlayers).feed j = s.feed j := by simp [feed]
@[simp] theorem stopPlayers_record (j : SlotId) : (s.stopPlayers).record j = s.record j := by simp [record]
@[simp] theorem stopPlayers_ctx (j : CtxId) : (s.stopPlayers).ctx j = s.ctx j := by simp [ctx]
@[simp] theorem stopPlayers_trunk (j : Trunk) : (s.stopPlayers).trunk j = s.trunk j := by cases j <;> simp [trunk]
@[simp] theorem stopPlayers_path (j : CtxId) : (s.stopPlayers).path j = s.path j := by simp [path]
@[simp] theorem stopPlayers_segment (j : SegId) : (s.stopPlayers).segment j = s.segment j := by simp [segment]
@[simp] theorem stopPlayers_service (j : Trunk) : (s.stopPlayers).service j = s.service j := by cases j <;> simp [service]
@[simp] theorem stopPlayers_param (j : Fin 25) : (s.stopPlayers).param j = s.param j := by simp [param]

/-! ### restartNotices -/

theorem restartNotices_frame : s.restartNotices = { s with
    marks := (s.restartNotices).marks
    abandons := (s.restartNotices).abandons
    abandonPosts := (s.restartNotices).abandonPosts
    handed := (s.restartNotices).handed
    sectionFault := (s.restartNotices).sectionFault
    trunkFaultA := (s.restartNotices).trunkFaultA
    trunkFaultB := (s.restartNotices).trunkFaultB
    loopFaults := (s.restartNotices).loopFaults
    postFaults := (s.restartNotices).postFaults } := by
  apply State.ext <;> first | with_reducible rfl | (simp [restartNotices])
@[simp] theorem restartNotices_pending : (s.restartNotices).pending = s.pending := by rw [restartNotices_frame]
@[simp] theorem restartNotices_loops : (s.restartNotices).loops = s.loops := by rw [restartNotices_frame]
@[simp] theorem restartNotices_rings : (s.restartNotices).rings = s.rings := by rw [restartNotices_frame]
@[simp] theorem restartNotices_feeds : (s.restartNotices).feeds = s.feeds := by rw [restartNotices_frame]
@[simp] theorem restartNotices_supply : (s.restartNotices).supply = s.supply := by rw [restartNotices_frame]
@[simp] theorem restartNotices_directory : (s.restartNotices).directory = s.directory := by rw [restartNotices_frame]
@[simp] theorem restartNotices_contexts : (s.restartNotices).contexts = s.contexts := by rw [restartNotices_frame]
@[simp] theorem restartNotices_waiting : (s.restartNotices).waiting = s.waiting := by rw [restartNotices_frame]
@[simp] theorem restartNotices_entryCount : (s.restartNotices).entryCount = s.entryCount := by rw [restartNotices_frame]
@[simp] theorem restartNotices_routes : (s.restartNotices).routes = s.routes := by rw [restartNotices_frame]
@[simp] theorem restartNotices_plan : (s.restartNotices).plan = s.plan := by rw [restartNotices_frame]
@[simp] theorem restartNotices_trunkA : (s.restartNotices).trunkA = s.trunkA := by rw [restartNotices_frame]
@[simp] theorem restartNotices_trunkB : (s.restartNotices).trunkB = s.trunkB := by rw [restartNotices_frame]
@[simp] theorem restartNotices_paths : (s.restartNotices).paths = s.paths := by rw [restartNotices_frame]
@[simp] theorem restartNotices_samples : (s.restartNotices).samples = s.samples := by rw [restartNotices_frame]
@[simp] theorem restartNotices_segments : (s.restartNotices).segments = s.segments := by rw [restartNotices_frame]
@[simp] theorem restartNotices_players : (s.restartNotices).players = s.players := by rw [restartNotices_frame]
@[simp] theorem restartNotices_serviceA : (s.restartNotices).serviceA = s.serviceA := by rw [restartNotices_frame]
@[simp] theorem restartNotices_serviceB : (s.restartNotices).serviceB = s.serviceB := by rw [restartNotices_frame]
@[simp] theorem restartNotices_home : (s.restartNotices).home = s.home := by rw [restartNotices_frame]
@[simp] theorem restartNotices_settings : (s.restartNotices).settings = s.settings := by rw [restartNotices_frame]
@[simp] theorem restartNotices_testResults : (s.restartNotices).testResults = s.testResults := by rw [restartNotices_frame]
@[simp] theorem restartNotices_mask : (s.restartNotices).mask = s.mask := by rw [restartNotices_frame]
@[simp] theorem restartNotices_loop (j : LoopId) : (s.restartNotices).loop j = s.loop j := by simp [loop]
@[simp] theorem restartNotices_ring (j : LoopId) : (s.restartNotices).ring j = s.ring j := by simp [ring]
@[simp] theorem restartNotices_feed (j : LoopId) : (s.restartNotices).feed j = s.feed j := by simp [feed]
@[simp] theorem restartNotices_record (j : SlotId) : (s.restartNotices).record j = s.record j := by simp [record]
@[simp] theorem restartNotices_ctx (j : CtxId) : (s.restartNotices).ctx j = s.ctx j := by simp [ctx]
@[simp] theorem restartNotices_trunk (j : Trunk) : (s.restartNotices).trunk j = s.trunk j := by cases j <;> simp [trunk]
@[simp] theorem restartNotices_path (j : CtxId) : (s.restartNotices).path j = s.path j := by simp [path]
@[simp] theorem restartNotices_player (j : CtxId) : (s.restartNotices).player j = s.player j := by simp [player]
@[simp] theorem restartNotices_segment (j : SegId) : (s.restartNotices).segment j = s.segment j := by simp [segment]
@[simp] theorem restartNotices_service (j : Trunk) : (s.restartNotices).service j = s.service j := by cases j <;> simp [service]
@[simp] theorem restartNotices_param (j : Fin 25) : (s.restartNotices).param j = s.param j := by simp [param]

/-! ### restartSection -/

theorem restartSection_frame : s.restartSection = { s with
    contexts := (s.restartSection).contexts
    waiting := (s.restartSection).waiting
    entryCount := (s.restartSection).entryCount
    players := (s.restartSection).players
    marks := (s.restartSection).marks
    loops := (s.restartSection).loops
    trunkA := (s.restartSection).trunkA
    trunkB := (s.restartSection).trunkB
    abandons := (s.restartSection).abandons
    abandonPosts := (s.restartSection).abandonPosts
    handed := (s.restartSection).handed
    sectionFault := (s.restartSection).sectionFault
    trunkFaultA := (s.restartSection).trunkFaultA
    trunkFaultB := (s.restartSection).trunkFaultB
    loopFaults := (s.restartSection).loopFaults
    postFaults := (s.restartSection).postFaults } := by
  apply State.ext <;> first | with_reducible rfl | (simp [restartSection])
@[simp] theorem restartSection_pending : (s.restartSection).pending = s.pending := by rw [restartSection_frame]
@[simp] theorem restartSection_rings : (s.restartSection).rings = s.rings := by rw [restartSection_frame]
@[simp] theorem restartSection_feeds : (s.restartSection).feeds = s.feeds := by rw [restartSection_frame]
@[simp] theorem restartSection_supply : (s.restartSection).supply = s.supply := by rw [restartSection_frame]
@[simp] theorem restartSection_directory : (s.restartSection).directory = s.directory := by rw [restartSection_frame]
@[simp] theorem restartSection_routes : (s.restartSection).routes = s.routes := by rw [restartSection_frame]
@[simp] theorem restartSection_plan : (s.restartSection).plan = s.plan := by rw [restartSection_frame]
@[simp] theorem restartSection_paths : (s.restartSection).paths = s.paths := by rw [restartSection_frame]
@[simp] theorem restartSection_samples : (s.restartSection).samples = s.samples := by rw [restartSection_frame]
@[simp] theorem restartSection_segments : (s.restartSection).segments = s.segments := by rw [restartSection_frame]
@[simp] theorem restartSection_serviceA : (s.restartSection).serviceA = s.serviceA := by rw [restartSection_frame]
@[simp] theorem restartSection_serviceB : (s.restartSection).serviceB = s.serviceB := by rw [restartSection_frame]
@[simp] theorem restartSection_home : (s.restartSection).home = s.home := by rw [restartSection_frame]
@[simp] theorem restartSection_settings : (s.restartSection).settings = s.settings := by rw [restartSection_frame]
@[simp] theorem restartSection_testResults : (s.restartSection).testResults = s.testResults := by rw [restartSection_frame]
@[simp] theorem restartSection_mask : (s.restartSection).mask = s.mask := by rw [restartSection_frame]
@[simp] theorem restartSection_ring (j : LoopId) : (s.restartSection).ring j = s.ring j := by simp [ring]
@[simp] theorem restartSection_feed (j : LoopId) : (s.restartSection).feed j = s.feed j := by simp [feed]
@[simp] theorem restartSection_record (j : SlotId) : (s.restartSection).record j = s.record j := by simp [record]
@[simp] theorem restartSection_path (j : CtxId) : (s.restartSection).path j = s.path j := by simp [path]
@[simp] theorem restartSection_segment (j : SegId) : (s.restartSection).segment j = s.segment j := by simp [segment]
@[simp] theorem restartSection_service (j : Trunk) : (s.restartSection).service j = s.service j := by cases j <;> simp [service]
@[simp] theorem restartSection_param (j : Fin 25) : (s.restartSection).param j = s.param j := by simp [param]

/-! ### setHome -/

theorem setHome_frame (t : Trunk) : s.setHome t = { s with
    home := (s.setHome t).home
    handed := (s.setHome t).handed } := by
  apply State.ext <;> first | with_reducible rfl | (unfold setHome; dsimp only; (repeat' split) <;> simp)
@[simp] theorem setHome_pending (t : Trunk) : (s.setHome t).pending = s.pending := by rw [setHome_frame]
@[simp] theorem setHome_loops (t : Trunk) : (s.setHome t).loops = s.loops := by rw [setHome_frame]
@[simp] theorem setHome_rings (t : Trunk) : (s.setHome t).rings = s.rings := by rw [setHome_frame]
@[simp] theorem setHome_feeds (t : Trunk) : (s.setHome t).feeds = s.feeds := by rw [setHome_frame]
@[simp] theorem setHome_supply (t : Trunk) : (s.setHome t).supply = s.supply := by rw [setHome_frame]
@[simp] theorem setHome_directory (t : Trunk) : (s.setHome t).directory = s.directory := by rw [setHome_frame]
@[simp] theorem setHome_contexts (t : Trunk) : (s.setHome t).contexts = s.contexts := by rw [setHome_frame]
@[simp] theorem setHome_waiting (t : Trunk) : (s.setHome t).waiting = s.waiting := by rw [setHome_frame]
@[simp] theorem setHome_entryCount (t : Trunk) : (s.setHome t).entryCount = s.entryCount := by rw [setHome_frame]
@[simp] theorem setHome_routes (t : Trunk) : (s.setHome t).routes = s.routes := by rw [setHome_frame]
@[simp] theorem setHome_plan (t : Trunk) : (s.setHome t).plan = s.plan := by rw [setHome_frame]
@[simp] theorem setHome_trunkA (t : Trunk) : (s.setHome t).trunkA = s.trunkA := by rw [setHome_frame]
@[simp] theorem setHome_trunkB (t : Trunk) : (s.setHome t).trunkB = s.trunkB := by rw [setHome_frame]
@[simp] theorem setHome_paths (t : Trunk) : (s.setHome t).paths = s.paths := by rw [setHome_frame]
@[simp] theorem setHome_samples (t : Trunk) : (s.setHome t).samples = s.samples := by rw [setHome_frame]
@[simp] theorem setHome_segments (t : Trunk) : (s.setHome t).segments = s.segments := by rw [setHome_frame]
@[simp] theorem setHome_players (t : Trunk) : (s.setHome t).players = s.players := by rw [setHome_frame]
@[simp] theorem setHome_serviceA (t : Trunk) : (s.setHome t).serviceA = s.serviceA := by rw [setHome_frame]
@[simp] theorem setHome_serviceB (t : Trunk) : (s.setHome t).serviceB = s.serviceB := by rw [setHome_frame]
@[simp] theorem setHome_settings (t : Trunk) : (s.setHome t).settings = s.settings := by rw [setHome_frame]
@[simp] theorem setHome_sectionFault (t : Trunk) : (s.setHome t).sectionFault = s.sectionFault := by rw [setHome_frame]
@[simp] theorem setHome_trunkFaultA (t : Trunk) : (s.setHome t).trunkFaultA = s.trunkFaultA := by rw [setHome_frame]
@[simp] theorem setHome_trunkFaultB (t : Trunk) : (s.setHome t).trunkFaultB = s.trunkFaultB := by rw [setHome_frame]
@[simp] theorem setHome_loopFaults (t : Trunk) : (s.setHome t).loopFaults = s.loopFaults := by rw [setHome_frame]
@[simp] theorem setHome_postFaults (t : Trunk) : (s.setHome t).postFaults = s.postFaults := by rw [setHome_frame]
@[simp] theorem setHome_testResults (t : Trunk) : (s.setHome t).testResults = s.testResults := by rw [setHome_frame]
@[simp] theorem setHome_marks (t : Trunk) : (s.setHome t).marks = s.marks := by rw [setHome_frame]
@[simp] theorem setHome_abandons (t : Trunk) : (s.setHome t).abandons = s.abandons := by rw [setHome_frame]
@[simp] theorem setHome_abandonPosts (t : Trunk) : (s.setHome t).abandonPosts = s.abandonPosts := by rw [setHome_frame]
@[simp] theorem setHome_mask (t : Trunk) : (s.setHome t).mask = s.mask := by rw [setHome_frame]
@[simp] theorem setHome_loop (t : Trunk) (j : LoopId) : (s.setHome t).loop j = s.loop j := by simp [loop]
@[simp] theorem setHome_ring (t : Trunk) (j : LoopId) : (s.setHome t).ring j = s.ring j := by simp [ring]
@[simp] theorem setHome_feed (t : Trunk) (j : LoopId) : (s.setHome t).feed j = s.feed j := by simp [feed]
@[simp] theorem setHome_record (t : Trunk) (j : SlotId) : (s.setHome t).record j = s.record j := by simp [record]
@[simp] theorem setHome_ctx (t : Trunk) (j : CtxId) : (s.setHome t).ctx j = s.ctx j := by simp [ctx]
@[simp] theorem setHome_trunk (t : Trunk) (j : Trunk) : (s.setHome t).trunk j = s.trunk j := by cases j <;> simp [trunk]
@[simp] theorem setHome_path (t : Trunk) (j : CtxId) : (s.setHome t).path j = s.path j := by simp [path]
@[simp] theorem setHome_player (t : Trunk) (j : CtxId) : (s.setHome t).player j = s.player j := by simp [player]
@[simp] theorem setHome_segment (t : Trunk) (j : SegId) : (s.setHome t).segment j = s.segment j := by simp [segment]
@[simp] theorem setHome_service (t : Trunk) (j : Trunk) : (s.setHome t).service j = s.service j := by cases j <;> simp [service]
@[simp] theorem setHome_param (t : Trunk) (j : Fin 25) : (s.setHome t).param j = s.param j := by simp [param]

/-! ### makeReply -/

theorem makeReply_frame (t : Trunk) (r : Reply) : s.makeReply t r = { s with
    serviceA := (s.makeReply t r).serviceA
    serviceB := (s.makeReply t r).serviceB } := by
  apply State.ext <;> first | with_reducible rfl | (simp [makeReply])
@[simp] theorem makeReply_pending (t : Trunk) (r : Reply) : (s.makeReply t r).pending = s.pending := by rw [makeReply_frame]
@[simp] theorem makeReply_handed (t : Trunk) (r : Reply) : (s.makeReply t r).handed = s.handed := by rw [makeReply_frame]
@[simp] theorem makeReply_loops (t : Trunk) (r : Reply) : (s.makeReply t r).loops = s.loops := by rw [makeReply_frame]
@[simp] theorem makeReply_rings (t : Trunk) (r : Reply) : (s.makeReply t r).rings = s.rings := by rw [makeReply_frame]
@[simp] theorem makeReply_feeds (t : Trunk) (r : Reply) : (s.makeReply t r).feeds = s.feeds := by rw [makeReply_frame]
@[simp] theorem makeReply_supply (t : Trunk) (r : Reply) : (s.makeReply t r).supply = s.supply := by rw [makeReply_frame]
@[simp] theorem makeReply_directory (t : Trunk) (r : Reply) : (s.makeReply t r).directory = s.directory := by rw [makeReply_frame]
@[simp] theorem makeReply_contexts (t : Trunk) (r : Reply) : (s.makeReply t r).contexts = s.contexts := by rw [makeReply_frame]
@[simp] theorem makeReply_waiting (t : Trunk) (r : Reply) : (s.makeReply t r).waiting = s.waiting := by rw [makeReply_frame]
@[simp] theorem makeReply_entryCount (t : Trunk) (r : Reply) : (s.makeReply t r).entryCount = s.entryCount := by rw [makeReply_frame]
@[simp] theorem makeReply_routes (t : Trunk) (r : Reply) : (s.makeReply t r).routes = s.routes := by rw [makeReply_frame]
@[simp] theorem makeReply_plan (t : Trunk) (r : Reply) : (s.makeReply t r).plan = s.plan := by rw [makeReply_frame]
@[simp] theorem makeReply_trunkA (t : Trunk) (r : Reply) : (s.makeReply t r).trunkA = s.trunkA := by rw [makeReply_frame]
@[simp] theorem makeReply_trunkB (t : Trunk) (r : Reply) : (s.makeReply t r).trunkB = s.trunkB := by rw [makeReply_frame]
@[simp] theorem makeReply_paths (t : Trunk) (r : Reply) : (s.makeReply t r).paths = s.paths := by rw [makeReply_frame]
@[simp] theorem makeReply_samples (t : Trunk) (r : Reply) : (s.makeReply t r).samples = s.samples := by rw [makeReply_frame]
@[simp] theorem makeReply_segments (t : Trunk) (r : Reply) : (s.makeReply t r).segments = s.segments := by rw [makeReply_frame]
@[simp] theorem makeReply_players (t : Trunk) (r : Reply) : (s.makeReply t r).players = s.players := by rw [makeReply_frame]
@[simp] theorem makeReply_home (t : Trunk) (r : Reply) : (s.makeReply t r).home = s.home := by rw [makeReply_frame]
@[simp] theorem makeReply_settings (t : Trunk) (r : Reply) : (s.makeReply t r).settings = s.settings := by rw [makeReply_frame]
@[simp] theorem makeReply_sectionFault (t : Trunk) (r : Reply) : (s.makeReply t r).sectionFault = s.sectionFault := by rw [makeReply_frame]
@[simp] theorem makeReply_trunkFaultA (t : Trunk) (r : Reply) : (s.makeReply t r).trunkFaultA = s.trunkFaultA := by rw [makeReply_frame]
@[simp] theorem makeReply_trunkFaultB (t : Trunk) (r : Reply) : (s.makeReply t r).trunkFaultB = s.trunkFaultB := by rw [makeReply_frame]
@[simp] theorem makeReply_loopFaults (t : Trunk) (r : Reply) : (s.makeReply t r).loopFaults = s.loopFaults := by rw [makeReply_frame]
@[simp] theorem makeReply_postFaults (t : Trunk) (r : Reply) : (s.makeReply t r).postFaults = s.postFaults := by rw [makeReply_frame]
@[simp] theorem makeReply_testResults (t : Trunk) (r : Reply) : (s.makeReply t r).testResults = s.testResults := by rw [makeReply_frame]
@[simp] theorem makeReply_marks (t : Trunk) (r : Reply) : (s.makeReply t r).marks = s.marks := by rw [makeReply_frame]
@[simp] theorem makeReply_abandons (t : Trunk) (r : Reply) : (s.makeReply t r).abandons = s.abandons := by rw [makeReply_frame]
@[simp] theorem makeReply_abandonPosts (t : Trunk) (r : Reply) : (s.makeReply t r).abandonPosts = s.abandonPosts := by rw [makeReply_frame]
@[simp] theorem makeReply_mask (t : Trunk) (r : Reply) : (s.makeReply t r).mask = s.mask := by rw [makeReply_frame]
@[simp] theorem makeReply_loop (t : Trunk) (r : Reply) (j : LoopId) : (s.makeReply t r).loop j = s.loop j := by simp [loop]
@[simp] theorem makeReply_ring (t : Trunk) (r : Reply) (j : LoopId) : (s.makeReply t r).ring j = s.ring j := by simp [ring]
@[simp] theorem makeReply_feed (t : Trunk) (r : Reply) (j : LoopId) : (s.makeReply t r).feed j = s.feed j := by simp [feed]
@[simp] theorem makeReply_record (t : Trunk) (r : Reply) (j : SlotId) : (s.makeReply t r).record j = s.record j := by simp [record]
@[simp] theorem makeReply_ctx (t : Trunk) (r : Reply) (j : CtxId) : (s.makeReply t r).ctx j = s.ctx j := by simp [ctx]
@[simp] theorem makeReply_trunk (t : Trunk) (r : Reply) (j : Trunk) : (s.makeReply t r).trunk j = s.trunk j := by cases j <;> simp [trunk]
@[simp] theorem makeReply_path (t : Trunk) (r : Reply) (j : CtxId) : (s.makeReply t r).path j = s.path j := by simp [path]
@[simp] theorem makeReply_player (t : Trunk) (r : Reply) (j : CtxId) : (s.makeReply t r).player j = s.player j := by simp [player]
@[simp] theorem makeReply_segment (t : Trunk) (r : Reply) (j : SegId) : (s.makeReply t r).segment j = s.segment j := by simp [segment]
@[simp] theorem makeReply_param (t : Trunk) (r : Reply) (j : Fin 25) : (s.makeReply t r).param j = s.param j := by simp [param]

/-! ### What a feed action takes with it -/

/-- With no event handed that a meaning knows, nothing is taken. -/
theorem takeAll_of_forall_none (meaning : Instr → Option (State → Host.Outcome State Fault Refusal))
    (h : ∀ i ∈ s.handed, meaning i = none) : s.takeAll meaning = s := by
  have fold : ∀ (events : List Instr) (u : State), (∀ i ∈ events, meaning i = none) → events.foldl (takeIf meaning) u = u := by
    intro events
    induction events with
    | nil => intro u _; rfl
    | cons i rest ih =>
      intro u hm
      rw [List.foldl_cons, show takeIf meaning u i = u from by simp [takeIf, hm i (by simp)]]
      exact ih u (fun j hj => hm j (by simp [hj]))
  exact fold _ _ h

/-- A feed action that has not changed the feed carries nothing through. -/
theorem carryFeed_of_same (s1 : State) (l : LoopId) (h : s1.feed l = s.feed l) : s.carryFeed s1 l = s1 := by
  simp [carryFeed, h]

end Sys2Proof.Machine.State
end

