-- ==== Sys2Proof/Laws/Tick.lean ====
section
/-! SUPPORT. What each operation of one frame time may change, one equation each, and what it leaves in every other field. -/

namespace Sys2Proof.Machine.State

open Sys2Proof

variable (s : State)

/-! ### handIf -/

theorem handIf_frame (c : Bool) (i : Instr) : s.handIf c i = { s with
    handed := (s.handIf c i).handed } := by
  apply State.ext <;> first | with_reducible rfl | (unfold handIf; dsimp only; (repeat' split) <;> simp)
@[simp] theorem handIf_pending (c : Bool) (i : Instr) : (s.handIf c i).pending = s.pending := by rw [handIf_frame]
@[simp] theorem handIf_loops (c : Bool) (i : Instr) : (s.handIf c i).loops = s.loops := by rw [handIf_frame]
@[simp] theorem handIf_rings (c : Bool) (i : Instr) : (s.handIf c i).rings = s.rings := by rw [handIf_frame]
@[simp] theorem handIf_feeds (c : Bool) (i : Instr) : (s.handIf c i).feeds = s.feeds := by rw [handIf_frame]
@[simp] theorem handIf_supply (c : Bool) (i : Instr) : (s.handIf c i).supply = s.supply := by rw [handIf_frame]
@[simp] theorem handIf_directory (c : Bool) (i : Instr) : (s.handIf c i).directory = s.directory := by rw [handIf_frame]
@[simp] theorem handIf_contexts (c : Bool) (i : Instr) : (s.handIf c i).contexts = s.contexts := by rw [handIf_frame]
@[simp] theorem handIf_waiting (c : Bool) (i : Instr) : (s.handIf c i).waiting = s.waiting := by rw [handIf_frame]
@[simp] theorem handIf_entryCount (c : Bool) (i : Instr) : (s.handIf c i).entryCount = s.entryCount := by rw [handIf_frame]
@[simp] theorem handIf_routes (c : Bool) (i : Instr) : (s.handIf c i).routes = s.routes := by rw [handIf_frame]
@[simp] theorem handIf_plan (c : Bool) (i : Instr) : (s.handIf c i).plan = s.plan := by rw [handIf_frame]
@[simp] theorem handIf_trunkA (c : Bool) (i : Instr) : (s.handIf c i).trunkA = s.trunkA := by rw [handIf_frame]
@[simp] theorem handIf_trunkB (c : Bool) (i : Instr) : (s.handIf c i).trunkB = s.trunkB := by rw [handIf_frame]
@[simp] theorem handIf_paths (c : Bool) (i : Instr) : (s.handIf c i).paths = s.paths := by rw [handIf_frame]
@[simp] theorem handIf_samples (c : Bool) (i : Instr) : (s.handIf c i).samples = s.samples := by rw [handIf_frame]
@[simp] theorem handIf_segments (c : Bool) (i : Instr) : (s.handIf c i).segments = s.segments := by rw [handIf_frame]
@[simp] theorem handIf_players (c : Bool) (i : Instr) : (s.handIf c i).players = s.players := by rw [handIf_frame]
@[simp] theorem handIf_serviceA (c : Bool) (i : Instr) : (s.handIf c i).serviceA = s.serviceA := by rw [handIf_frame]
@[simp] theorem handIf_serviceB (c : Bool) (i : Instr) : (s.handIf c i).serviceB = s.serviceB := by rw [handIf_frame]
@[simp] theorem handIf_home (c : Bool) (i : Instr) : (s.handIf c i).home = s.home := by rw [handIf_frame]
@[simp] theorem handIf_settings (c : Bool) (i : Instr) : (s.handIf c i).settings = s.settings := by rw [handIf_frame]
@[simp] theorem handIf_sectionFault (c : Bool) (i : Instr) : (s.handIf c i).sectionFault = s.sectionFault := by rw [handIf_frame]
@[simp] theorem handIf_trunkFaultA (c : Bool) (i : Instr) : (s.handIf c i).trunkFaultA = s.trunkFaultA := by rw [handIf_frame]
@[simp] theorem handIf_trunkFaultB (c : Bool) (i : Instr) : (s.handIf c i).trunkFaultB = s.trunkFaultB := by rw [handIf_frame]
@[simp] theorem handIf_loopFaults (c : Bool) (i : Instr) : (s.handIf c i).loopFaults = s.loopFaults := by rw [handIf_frame]
@[simp] theorem handIf_postFaults (c : Bool) (i : Instr) : (s.handIf c i).postFaults = s.postFaults := by rw [handIf_frame]
@[simp] theorem handIf_testResults (c : Bool) (i : Instr) : (s.handIf c i).testResults = s.testResults := by rw [handIf_frame]
@[simp] theorem handIf_marks (c : Bool) (i : Instr) : (s.handIf c i).marks = s.marks := by rw [handIf_frame]
@[simp] theorem handIf_abandons (c : Bool) (i : Instr) : (s.handIf c i).abandons = s.abandons := by rw [handIf_frame]
@[simp] theorem handIf_abandonPosts (c : Bool) (i : Instr) : (s.handIf c i).abandonPosts = s.abandonPosts := by rw [handIf_frame]
@[simp] theorem handIf_mask (c : Bool) (i : Instr) : (s.handIf c i).mask = s.mask := by rw [handIf_frame]
@[simp] theorem handIf_loop (c : Bool) (i : Instr) (j : LoopId) : (s.handIf c i).loop j = s.loop j := by simp [loop]
@[simp] theorem handIf_ring (c : Bool) (i : Instr) (j : LoopId) : (s.handIf c i).ring j = s.ring j := by simp [ring]
@[simp] theorem handIf_feed (c : Bool) (i : Instr) (j : LoopId) : (s.handIf c i).feed j = s.feed j := by simp [feed]
@[simp] theorem handIf_record (c : Bool) (i : Instr) (j : SlotId) : (s.handIf c i).record j = s.record j := by simp [record]
@[simp] theorem handIf_ctx (c : Bool) (i : Instr) (j : CtxId) : (s.handIf c i).ctx j = s.ctx j := by simp [ctx]
@[simp] theorem handIf_trunk (c : Bool) (i : Instr) (j : Trunk) : (s.handIf c i).trunk j = s.trunk j := by cases j <;> simp [trunk]
@[simp] theorem handIf_path (c : Bool) (i : Instr) (j : CtxId) : (s.handIf c i).path j = s.path j := by simp [path]
@[simp] theorem handIf_player (c : Bool) (i : Instr) (j : CtxId) : (s.handIf c i).player j = s.player j := by simp [player]
@[simp] theorem handIf_segment (c : Bool) (i : Instr) (j : SegId) : (s.handIf c i).segment j = s.segment j := by simp [segment]
@[simp] theorem handIf_service (c : Bool) (i : Instr) (j : Trunk) : (s.handIf c i).service j = s.service j := by cases j <;> simp [service]
@[simp] theorem handIf_param (c : Bool) (i : Instr) (j : Fin 25) : (s.handIf c i).param j = s.param j := by simp [param]

/-! ### tickLoop -/

theorem tickLoop_frame (l : LoopId) : s.tickLoop l = { s with
    loops := (s.tickLoop l).loops
    handed := (s.tickLoop l).handed } := by
  apply State.ext <;> first | with_reducible rfl | (simp [tickLoop])
@[simp] theorem tickLoop_pending (l : LoopId) : (s.tickLoop l).pending = s.pending := by rw [tickLoop_frame]
@[simp] theorem tickLoop_rings (l : LoopId) : (s.tickLoop l).rings = s.rings := by rw [tickLoop_frame]
@[simp] theorem tickLoop_feeds (l : LoopId) : (s.tickLoop l).feeds = s.feeds := by rw [tickLoop_frame]
@[simp] theorem tickLoop_supply (l : LoopId) : (s.tickLoop l).supply = s.supply := by rw [tickLoop_frame]
@[simp] theorem tickLoop_directory (l : LoopId) : (s.tickLoop l).directory = s.directory := by rw [tickLoop_frame]
@[simp] theorem tickLoop_contexts (l : LoopId) : (s.tickLoop l).contexts = s.contexts := by rw [tickLoop_frame]
@[simp] theorem tickLoop_waiting (l : LoopId) : (s.tickLoop l).waiting = s.waiting := by rw [tickLoop_frame]
@[simp] theorem tickLoop_entryCount (l : LoopId) : (s.tickLoop l).entryCount = s.entryCount := by rw [tickLoop_frame]
@[simp] theorem tickLoop_routes (l : LoopId) : (s.tickLoop l).routes = s.routes := by rw [tickLoop_frame]
@[simp] theorem tickLoop_plan (l : LoopId) : (s.tickLoop l).plan = s.plan := by rw [tickLoop_frame]
@[simp] theorem tickLoop_trunkA (l : LoopId) : (s.tickLoop l).trunkA = s.trunkA := by rw [tickLoop_frame]
@[simp] theorem tickLoop_trunkB (l : LoopId) : (s.tickLoop l).trunkB = s.trunkB := by rw [tickLoop_frame]
@[simp] theorem tickLoop_paths (l : LoopId) : (s.tickLoop l).paths = s.paths := by rw [tickLoop_frame]
@[simp] theorem tickLoop_samples (l : LoopId) : (s.tickLoop l).samples = s.samples := by rw [tickLoop_frame]
@[simp] theorem tickLoop_segments (l : LoopId) : (s.tickLoop l).segments = s.segments := by rw [tickLoop_frame]
@[simp] theorem tickLoop_players (l : LoopId) : (s.tickLoop l).players = s.players := by rw [tickLoop_frame]
@[simp] theorem tickLoop_serviceA (l : LoopId) : (s.tickLoop l).serviceA = s.serviceA := by rw [tickLoop_frame]
@[simp] theorem tickLoop_serviceB (l : LoopId) : (s.tickLoop l).serviceB = s.serviceB := by rw [tickLoop_frame]
@[simp] theorem tickLoop_home (l : LoopId) : (s.tickLoop l).home = s.home := by rw [tickLoop_frame]
@[simp] theorem tickLoop_settings (l : LoopId) : (s.tickLoop l).settings = s.settings := by rw [tickLoop_frame]
@[simp] theorem tickLoop_sectionFault (l : LoopId) : (s.tickLoop l).sectionFault = s.sectionFault := by rw [tickLoop_frame]
@[simp] theorem tickLoop_trunkFaultA (l : LoopId) : (s.tickLoop l).trunkFaultA = s.trunkFaultA := by rw [tickLoop_frame]
@[simp] theorem tickLoop_trunkFaultB (l : LoopId) : (s.tickLoop l).trunkFaultB = s.trunkFaultB := by rw [tickLoop_frame]
@[simp] theorem tickLoop_loopFaults (l : LoopId) : (s.tickLoop l).loopFaults = s.loopFaults := by rw [tickLoop_frame]
@[simp] theorem tickLoop_postFaults (l : LoopId) : (s.tickLoop l).postFaults = s.postFaults := by rw [tickLoop_frame]
@[simp] theorem tickLoop_testResults (l : LoopId) : (s.tickLoop l).testResults = s.testResults := by rw [tickLoop_frame]
@[simp] theorem tickLoop_marks (l : LoopId) : (s.tickLoop l).marks = s.marks := by rw [tickLoop_frame]
@[simp] theorem tickLoop_abandons (l : LoopId) : (s.tickLoop l).abandons = s.abandons := by rw [tickLoop_frame]
@[simp] theorem tickLoop_abandonPosts (l : LoopId) : (s.tickLoop l).abandonPosts = s.abandonPosts := by rw [tickLoop_frame]
@[simp] theorem tickLoop_mask (l : LoopId) : (s.tickLoop l).mask = s.mask := by rw [tickLoop_frame]
@[simp] theorem tickLoop_ring (l : LoopId) (j : LoopId) : (s.tickLoop l).ring j = s.ring j := by simp [ring]
@[simp] theorem tickLoop_feed (l : LoopId) (j : LoopId) : (s.tickLoop l).feed j = s.feed j := by simp [feed]
@[simp] theorem tickLoop_record (l : LoopId) (j : SlotId) : (s.tickLoop l).record j = s.record j := by simp [record]
@[simp] theorem tickLoop_ctx (l : LoopId) (j : CtxId) : (s.tickLoop l).ctx j = s.ctx j := by simp [ctx]
@[simp] theorem tickLoop_trunk (l : LoopId) (j : Trunk) : (s.tickLoop l).trunk j = s.trunk j := by cases j <;> simp [trunk]
@[simp] theorem tickLoop_path (l : LoopId) (j : CtxId) : (s.tickLoop l).path j = s.path j := by simp [path]
@[simp] theorem tickLoop_player (l : LoopId) (j : CtxId) : (s.tickLoop l).player j = s.player j := by simp [player]
@[simp] theorem tickLoop_segment (l : LoopId) (j : SegId) : (s.tickLoop l).segment j = s.segment j := by simp [segment]
@[simp] theorem tickLoop_service (l : LoopId) (j : Trunk) : (s.tickLoop l).service j = s.service j := by cases j <;> simp [service]
@[simp] theorem tickLoop_param (l : LoopId) (j : Fin 25) : (s.tickLoop l).param j = s.param j := by simp [param]

/-! ### tickFeed -/

theorem tickFeed_frame (l : LoopId) : s.tickFeed l = { s with
    feeds := (s.tickFeed l).feeds
    handed := (s.tickFeed l).handed } := by
  apply State.ext <;> first | with_reducible rfl | (simp [tickFeed])
@[simp] theorem tickFeed_pending (l : LoopId) : (s.tickFeed l).pending = s.pending := by rw [tickFeed_frame]
@[simp] theorem tickFeed_loops (l : LoopId) : (s.tickFeed l).loops = s.loops := by rw [tickFeed_frame]
@[simp] theorem tickFeed_rings (l : LoopId) : (s.tickFeed l).rings = s.rings := by rw [tickFeed_frame]
@[simp] theorem tickFeed_supply (l : LoopId) : (s.tickFeed l).supply = s.supply := by rw [tickFeed_frame]
@[simp] theorem tickFeed_directory (l : LoopId) : (s.tickFeed l).directory = s.directory := by rw [tickFeed_frame]
@[simp] theorem tickFeed_contexts (l : LoopId) : (s.tickFeed l).contexts = s.contexts := by rw [tickFeed_frame]
@[simp] theorem tickFeed_waiting (l : LoopId) : (s.tickFeed l).waiting = s.waiting := by rw [tickFeed_frame]
@[simp] theorem tickFeed_entryCount (l : LoopId) : (s.tickFeed l).entryCount = s.entryCount := by rw [tickFeed_frame]
@[simp] theorem tickFeed_routes (l : LoopId) : (s.tickFeed l).routes = s.routes := by rw [tickFeed_frame]
@[simp] theorem tickFeed_plan (l : LoopId) : (s.tickFeed l).plan = s.plan := by rw [tickFeed_frame]
@[simp] theorem tickFeed_trunkA (l : LoopId) : (s.tickFeed l).trunkA = s.trunkA := by rw [tickFeed_frame]
@[simp] theorem tickFeed_trunkB (l : LoopId) : (s.tickFeed l).trunkB = s.trunkB := by rw [tickFeed_frame]
@[simp] theorem tickFeed_paths (l : LoopId) : (s.tickFeed l).paths = s.paths := by rw [tickFeed_frame]
@[simp] theorem tickFeed_samples (l : LoopId) : (s.tickFeed l).samples = s.samples := by rw [tickFeed_frame]
@[simp] theorem tickFeed_segments (l : LoopId) : (s.tickFeed l).segments = s.segments := by rw [tickFeed_frame]
@[simp] theorem tickFeed_players (l : LoopId) : (s.tickFeed l).players = s.players := by rw [tickFeed_frame]
@[simp] theorem tickFeed_serviceA (l : LoopId) : (s.tickFeed l).serviceA = s.serviceA := by rw [tickFeed_frame]
@[simp] theorem tickFeed_serviceB (l : LoopId) : (s.tickFeed l).serviceB = s.serviceB := by rw [tickFeed_frame]
@[simp] theorem tickFeed_home (l : LoopId) : (s.tickFeed l).home = s.home := by rw [tickFeed_frame]
@[simp] theorem tickFeed_settings (l : LoopId) : (s.tickFeed l).settings = s.settings := by rw [tickFeed_frame]
@[simp] theorem tickFeed_sectionFault (l : LoopId) : (s.tickFeed l).sectionFault = s.sectionFault := by rw [tickFeed_frame]
@[simp] theorem tickFeed_trunkFaultA (l : LoopId) : (s.tickFeed l).trunkFaultA = s.trunkFaultA := by rw [tickFeed_frame]
@[simp] theorem tickFeed_trunkFaultB (l : LoopId) : (s.tickFeed l).trunkFaultB = s.trunkFaultB := by rw [tickFeed_frame]
@[simp] theorem tickFeed_loopFaults (l : LoopId) : (s.tickFeed l).loopFaults = s.loopFaults := by rw [tickFeed_frame]
@[simp] theorem tickFeed_postFaults (l : LoopId) : (s.tickFeed l).postFaults = s.postFaults := by rw [tickFeed_frame]
@[simp] theorem tickFeed_testResults (l : LoopId) : (s.tickFeed l).testResults = s.testResults := by rw [tickFeed_frame]
@[simp] theorem tickFeed_marks (l : LoopId) : (s.tickFeed l).marks = s.marks := by rw [tickFeed_frame]
@[simp] theorem tickFeed_abandons (l : LoopId) : (s.tickFeed l).abandons = s.abandons := by rw [tickFeed_frame]
@[simp] theorem tickFeed_abandonPosts (l : LoopId) : (s.tickFeed l).abandonPosts = s.abandonPosts := by rw [tickFeed_frame]
@[simp] theorem tickFeed_mask (l : LoopId) : (s.tickFeed l).mask = s.mask := by rw [tickFeed_frame]
@[simp] theorem tickFeed_loop (l : LoopId) (j : LoopId) : (s.tickFeed l).loop j = s.loop j := by simp [loop]
@[simp] theorem tickFeed_ring (l : LoopId) (j : LoopId) : (s.tickFeed l).ring j = s.ring j := by simp [ring]
@[simp] theorem tickFeed_record (l : LoopId) (j : SlotId) : (s.tickFeed l).record j = s.record j := by simp [record]
@[simp] theorem tickFeed_ctx (l : LoopId) (j : CtxId) : (s.tickFeed l).ctx j = s.ctx j := by simp [ctx]
@[simp] theorem tickFeed_trunk (l : LoopId) (j : Trunk) : (s.tickFeed l).trunk j = s.trunk j := by cases j <;> simp [trunk]
@[simp] theorem tickFeed_path (l : LoopId) (j : CtxId) : (s.tickFeed l).path j = s.path j := by simp [path]
@[simp] theorem tickFeed_player (l : LoopId) (j : CtxId) : (s.tickFeed l).player j = s.player j := by simp [player]
@[simp] theorem tickFeed_segment (l : LoopId) (j : SegId) : (s.tickFeed l).segment j = s.segment j := by simp [segment]
@[simp] theorem tickFeed_service (l : LoopId) (j : Trunk) : (s.tickFeed l).service j = s.service j := by cases j <;> simp [service]
@[simp] theorem tickFeed_param (l : LoopId) (j : Fin 25) : (s.tickFeed l).param j = s.param j := by simp [param]

/-! ### tickSupply -/

theorem tickSupply_frame : s.tickSupply = { s with
    supply := (s.tickSupply).supply
    handed := (s.tickSupply).handed } := by
  apply State.ext <;> first | with_reducible rfl | (simp [tickSupply])
@[simp] theorem tickSupply_pending : (s.tickSupply).pending = s.pending := by rw [tickSupply_frame]
@[simp] theorem tickSupply_loops : (s.tickSupply).loops = s.loops := by rw [tickSupply_frame]
@[simp] theorem tickSupply_rings : (s.tickSupply).rings = s.rings := by rw [tickSupply_frame]
@[simp] theorem tickSupply_feeds : (s.tickSupply).feeds = s.feeds := by rw [tickSupply_frame]
@[simp] theorem tickSupply_directory : (s.tickSupply).directory = s.directory := by rw [tickSupply_frame]
@[simp] theorem tickSupply_contexts : (s.tickSupply).contexts = s.contexts := by rw [tickSupply_frame]
@[simp] theorem tickSupply_waiting : (s.tickSupply).waiting = s.waiting := by rw [tickSupply_frame]
@[simp] theorem tickSupply_entryCount : (s.tickSupply).entryCount = s.entryCount := by rw [tickSupply_frame]
@[simp] theorem tickSupply_routes : (s.tickSupply).routes = s.routes := by rw [tickSupply_frame]
@[simp] theorem tickSupply_plan : (s.tickSupply).plan = s.plan := by rw [tickSupply_frame]
@[simp] theorem tickSupply_trunkA : (s.tickSupply).trunkA = s.trunkA := by rw [tickSupply_frame]
@[simp] theorem tickSupply_trunkB : (s.tickSupply).trunkB = s.trunkB := by rw [tickSupply_frame]
@[simp] theorem tickSupply_paths : (s.tickSupply).paths = s.paths := by rw [tickSupply_frame]
@[simp] theorem tickSupply_samples : (s.tickSupply).samples = s.samples := by rw [tickSupply_frame]
@[simp] theorem tickSupply_segments : (s.tickSupply).segments = s.segments := by rw [tickSupply_frame]
@[simp] theorem tickSupply_players : (s.tickSupply).players = s.players := by rw [tickSupply_frame]
@[simp] theorem tickSupply_serviceA : (s.tickSupply).serviceA = s.serviceA := by rw [tickSupply_frame]
@[simp] theorem tickSupply_serviceB : (s.tickSupply).serviceB = s.serviceB := by rw [tickSupply_frame]
@[simp] theorem tickSupply_home : (s.tickSupply).home = s.home := by rw [tickSupply_frame]
@[simp] theorem tickSupply_settings : (s.tickSupply).settings = s.settings := by rw [tickSupply_frame]
@[simp] theorem tickSupply_sectionFault : (s.tickSupply).sectionFault = s.sectionFault := by rw [tickSupply_frame]
@[simp] theorem tickSupply_trunkFaultA : (s.tickSupply).trunkFaultA = s.trunkFaultA := by rw [tickSupply_frame]
@[simp] theorem tickSupply_trunkFaultB : (s.tickSupply).trunkFaultB = s.trunkFaultB := by rw [tickSupply_frame]
@[simp] theorem tickSupply_loopFaults : (s.tickSupply).loopFaults = s.loopFaults := by rw [tickSupply_frame]
@[simp] theorem tickSupply_postFaults : (s.tickSupply).postFaults = s.postFaults := by rw [tickSupply_frame]
@[simp] theorem tickSupply_testResults : (s.tickSupply).testResults = s.testResults := by rw [tickSupply_frame]
@[simp] theorem tickSupply_marks : (s.tickSupply).marks = s.marks := by rw [tickSupply_frame]
@[simp] theorem tickSupply_abandons : (s.tickSupply).abandons = s.abandons := by rw [tickSupply_frame]
@[simp] theorem tickSupply_abandonPosts : (s.tickSupply).abandonPosts = s.abandonPosts := by rw [tickSupply_frame]
@[simp] theorem tickSupply_mask : (s.tickSupply).mask = s.mask := by rw [tickSupply_frame]
@[simp] theorem tickSupply_loop (j : LoopId) : (s.tickSupply).loop j = s.loop j := by simp [loop]
@[simp] theorem tickSupply_ring (j : LoopId) : (s.tickSupply).ring j = s.ring j := by simp [ring]
@[simp] theorem tickSupply_feed (j : LoopId) : (s.tickSupply).feed j = s.feed j := by simp [feed]
@[simp] theorem tickSupply_record (j : SlotId) : (s.tickSupply).record j = s.record j := by simp [record]
@[simp] theorem tickSupply_ctx (j : CtxId) : (s.tickSupply).ctx j = s.ctx j := by simp [ctx]
@[simp] theorem tickSupply_trunk (j : Trunk) : (s.tickSupply).trunk j = s.trunk j := by cases j <;> simp [trunk]
@[simp] theorem tickSupply_path (j : CtxId) : (s.tickSupply).path j = s.path j := by simp [path]
@[simp] theorem tickSupply_player (j : CtxId) : (s.tickSupply).player j = s.player j := by simp [player]
@[simp] theorem tickSupply_segment (j : SegId) : (s.tickSupply).segment j = s.segment j := by simp [segment]
@[simp] theorem tickSupply_service (j : Trunk) : (s.tickSupply).service j = s.service j := by cases j <;> simp [service]
@[simp] theorem tickSupply_param (j : Fin 25) : (s.tickSupply).param j = s.param j := by simp [param]

/-! ### tickTrunk -/

theorem tickTrunk_frame (t : Trunk) : s.tickTrunk t = { s with
    trunkA := (s.tickTrunk t).trunkA
    trunkB := (s.tickTrunk t).trunkB
    handed := (s.tickTrunk t).handed } := by
  apply State.ext <;> first | with_reducible rfl | (simp [tickTrunk])
@[simp] theorem tickTrunk_pending (t : Trunk) : (s.tickTrunk t).pending = s.pending := by rw [tickTrunk_frame]
@[simp] theorem tickTrunk_loops (t : Trunk) : (s.tickTrunk t).loops = s.loops := by rw [tickTrunk_frame]
@[simp] theorem tickTrunk_rings (t : Trunk) : (s.tickTrunk t).rings = s.rings := by rw [tickTrunk_frame]
@[simp] theorem tickTrunk_feeds (t : Trunk) : (s.tickTrunk t).feeds = s.feeds := by rw [tickTrunk_frame]
@[simp] theorem tickTrunk_supply (t : Trunk) : (s.tickTrunk t).supply = s.supply := by rw [tickTrunk_frame]
@[simp] theorem tickTrunk_directory (t : Trunk) : (s.tickTrunk t).directory = s.directory := by rw [tickTrunk_frame]
@[simp] theorem tickTrunk_contexts (t : Trunk) : (s.tickTrunk t).contexts = s.contexts := by rw [tickTrunk_frame]
@[simp] theorem tickTrunk_waiting (t : Trunk) : (s.tickTrunk t).waiting = s.waiting := by rw [tickTrunk_frame]
@[simp] theorem tickTrunk_entryCount (t : Trunk) : (s.tickTrunk t).entryCount = s.entryCount := by rw [tickTrunk_frame]
@[simp] theorem tickTrunk_routes (t : Trunk) : (s.tickTrunk t).routes = s.routes := by rw [tickTrunk_frame]
@[simp] theorem tickTrunk_plan (t : Trunk) : (s.tickTrunk t).plan = s.plan := by rw [tickTrunk_frame]
@[simp] theorem tickTrunk_paths (t : Trunk) : (s.tickTrunk t).paths = s.paths := by rw [tickTrunk_frame]
@[simp] theorem tickTrunk_samples (t : Trunk) : (s.tickTrunk t).samples = s.samples := by rw [tickTrunk_frame]
@[simp] theorem tickTrunk_segments (t : Trunk) : (s.tickTrunk t).segments = s.segments := by rw [tickTrunk_frame]
@[simp] theorem tickTrunk_players (t : Trunk) : (s.tickTrunk t).players = s.players := by rw [tickTrunk_frame]
@[simp] theorem tickTrunk_serviceA (t : Trunk) : (s.tickTrunk t).serviceA = s.serviceA := by rw [tickTrunk_frame]
@[simp] theorem tickTrunk_serviceB (t : Trunk) : (s.tickTrunk t).serviceB = s.serviceB := by rw [tickTrunk_frame]
@[simp] theorem tickTrunk_home (t : Trunk) : (s.tickTrunk t).home = s.home := by rw [tickTrunk_frame]
@[simp] theorem tickTrunk_settings (t : Trunk) : (s.tickTrunk t).settings = s.settings := by rw [tickTrunk_frame]
@[simp] theorem tickTrunk_sectionFault (t : Trunk) : (s.tickTrunk t).sectionFault = s.sectionFault := by rw [tickTrunk_frame]
@[simp] theorem tickTrunk_trunkFaultA (t : Trunk) : (s.tickTrunk t).trunkFaultA = s.trunkFaultA := by rw [tickTrunk_frame]
@[simp] theorem tickTrunk_trunkFaultB (t : Trunk) : (s.tickTrunk t).trunkFaultB = s.trunkFaultB := by rw [tickTrunk_frame]
@[simp] theorem tickTrunk_loopFaults (t : Trunk) : (s.tickTrunk t).loopFaults = s.loopFaults := by rw [tickTrunk_frame]
@[simp] theorem tickTrunk_postFaults (t : Trunk) : (s.tickTrunk t).postFaults = s.postFaults := by rw [tickTrunk_frame]
@[simp] theorem tickTrunk_testResults (t : Trunk) : (s.tickTrunk t).testResults = s.testResults := by rw [tickTrunk_frame]
@[simp] theorem tickTrunk_marks (t : Trunk) : (s.tickTrunk t).marks = s.marks := by rw [tickTrunk_frame]
@[simp] theorem tickTrunk_abandons (t : Trunk) : (s.tickTrunk t).abandons = s.abandons := by rw [tickTrunk_frame]
@[simp] theorem tickTrunk_abandonPosts (t : Trunk) : (s.tickTrunk t).abandonPosts = s.abandonPosts := by rw [tickTrunk_frame]
@[simp] theorem tickTrunk_mask (t : Trunk) : (s.tickTrunk t).mask = s.mask := by rw [tickTrunk_frame]
@[simp] theorem tickTrunk_loop (t : Trunk) (j : LoopId) : (s.tickTrunk t).loop j = s.loop j := by simp [loop]
@[simp] theorem tickTrunk_ring (t : Trunk) (j : LoopId) : (s.tickTrunk t).ring j = s.ring j := by simp [ring]
@[simp] theorem tickTrunk_feed (t : Trunk) (j : LoopId) : (s.tickTrunk t).feed j = s.feed j := by simp [feed]
@[simp] theorem tickTrunk_record (t : Trunk) (j : SlotId) : (s.tickTrunk t).record j = s.record j := by simp [record]
@[simp] theorem tickTrunk_ctx (t : Trunk) (j : CtxId) : (s.tickTrunk t).ctx j = s.ctx j := by simp [ctx]
@[simp] theorem tickTrunk_path (t : Trunk) (j : CtxId) : (s.tickTrunk t).path j = s.path j := by simp [path]
@[simp] theorem tickTrunk_player (t : Trunk) (j : CtxId) : (s.tickTrunk t).player j = s.player j := by simp [player]
@[simp] theorem tickTrunk_segment (t : Trunk) (j : SegId) : (s.tickTrunk t).segment j = s.segment j := by simp [segment]
@[simp] theorem tickTrunk_service (t : Trunk) (j : Trunk) : (s.tickTrunk t).service j = s.service j := by cases j <;> simp [service]
@[simp] theorem tickTrunk_param (t : Trunk) (j : Fin 25) : (s.tickTrunk t).param j = s.param j := by simp [param]

/-! ### tickCtx -/

theorem tickCtx_frame (c : CtxId) : s.tickCtx c = { s with
    contexts := (s.tickCtx c).contexts
    handed := (s.tickCtx c).handed } := by
  apply State.ext <;> first | with_reducible rfl | (simp [tickCtx])
@[simp] theorem tickCtx_pending (c : CtxId) : (s.tickCtx c).pending = s.pending := by rw [tickCtx_frame]
@[simp] theorem tickCtx_loops (c : CtxId) : (s.tickCtx c).loops = s.loops := by rw [tickCtx_frame]
@[simp] theorem tickCtx_rings (c : CtxId) : (s.tickCtx c).rings = s.rings := by rw [tickCtx_frame]
@[simp] theorem tickCtx_feeds (c : CtxId) : (s.tickCtx c).feeds = s.feeds := by rw [tickCtx_frame]
@[simp] theorem tickCtx_supply (c : CtxId) : (s.tickCtx c).supply = s.supply := by rw [tickCtx_frame]
@[simp] theorem tickCtx_directory (c : CtxId) : (s.tickCtx c).directory = s.directory := by rw [tickCtx_frame]
@[simp] theorem tickCtx_waiting (c : CtxId) : (s.tickCtx c).waiting = s.waiting := by rw [tickCtx_frame]
@[simp] theorem tickCtx_entryCount (c : CtxId) : (s.tickCtx c).entryCount = s.entryCount := by rw [tickCtx_frame]
@[simp] theorem tickCtx_routes (c : CtxId) : (s.tickCtx c).routes = s.routes := by rw [tickCtx_frame]
@[simp] theorem tickCtx_plan (c : CtxId) : (s.tickCtx c).plan = s.plan := by rw [tickCtx_frame]
@[simp] theorem tickCtx_trunkA (c : CtxId) : (s.tickCtx c).trunkA = s.trunkA := by rw [tickCtx_frame]
@[simp] theorem tickCtx_trunkB (c : CtxId) : (s.tickCtx c).trunkB = s.trunkB := by rw [tickCtx_frame]
@[simp] theorem tickCtx_paths (c : CtxId) : (s.tickCtx c).paths = s.paths := by rw [tickCtx_frame]
@[simp] theorem tickCtx_samples (c : CtxId) : (s.tickCtx c).samples = s.samples := by rw [tickCtx_frame]
@[simp] theorem tickCtx_segments (c : CtxId) : (s.tickCtx c).segments = s.segments := by rw [tickCtx_frame]
@[simp] theorem tickCtx_players (c : CtxId) : (s.tickCtx c).players = s.players := by rw [tickCtx_frame]
@[simp] theorem tickCtx_serviceA (c : CtxId) : (s.tickCtx c).serviceA = s.serviceA := by rw [tickCtx_frame]
@[simp] theorem tickCtx_serviceB (c : CtxId) : (s.tickCtx c).serviceB = s.serviceB := by rw [tickCtx_frame]
@[simp] theorem tickCtx_home (c : CtxId) : (s.tickCtx c).home = s.home := by rw [tickCtx_frame]
@[simp] theorem tickCtx_settings (c : CtxId) : (s.tickCtx c).settings = s.settings := by rw [tickCtx_frame]
@[simp] theorem tickCtx_sectionFault (c : CtxId) : (s.tickCtx c).sectionFault = s.sectionFault := by rw [tickCtx_frame]
@[simp] theorem tickCtx_trunkFaultA (c : CtxId) : (s.tickCtx c).trunkFaultA = s.trunkFaultA := by rw [tickCtx_frame]
@[simp] theorem tickCtx_trunkFaultB (c : CtxId) : (s.tickCtx c).trunkFaultB = s.trunkFaultB := by rw [tickCtx_frame]
@[simp] theorem tickCtx_loopFaults (c : CtxId) : (s.tickCtx c).loopFaults = s.loopFaults := by rw [tickCtx_frame]
@[simp] theorem tickCtx_postFaults (c : CtxId) : (s.tickCtx c).postFaults = s.postFaults := by rw [tickCtx_frame]
@[simp] theorem tickCtx_testResults (c : CtxId) : (s.tickCtx c).testResults = s.testResults := by rw [tickCtx_frame]
@[simp] theorem tickCtx_marks (c : CtxId) : (s.tickCtx c).marks = s.marks := by rw [tickCtx_frame]
@[simp] theorem tickCtx_abandons (c : CtxId) : (s.tickCtx c).abandons = s.abandons := by rw [tickCtx_frame]
@[simp] theorem tickCtx_abandonPosts (c : CtxId) : (s.tickCtx c).abandonPosts = s.abandonPosts := by rw [tickCtx_frame]
@[simp] theorem tickCtx_mask (c : CtxId) : (s.tickCtx c).mask = s.mask := by rw [tickCtx_frame]
@[simp] theorem tickCtx_loop (c : CtxId) (j : LoopId) : (s.tickCtx c).loop j = s.loop j := by simp [loop]
@[simp] theorem tickCtx_ring (c : CtxId) (j : LoopId) : (s.tickCtx c).ring j = s.ring j := by simp [ring]
@[simp] theorem tickCtx_feed (c : CtxId) (j : LoopId) : (s.tickCtx c).feed j = s.feed j := by simp [feed]
@[simp] theorem tickCtx_record (c : CtxId) (j : SlotId) : (s.tickCtx c).record j = s.record j := by simp [record]
@[simp] theorem tickCtx_trunk (c : CtxId) (j : Trunk) : (s.tickCtx c).trunk j = s.trunk j := by cases j <;> simp [trunk]
@[simp] theorem tickCtx_path (c : CtxId) (j : CtxId) : (s.tickCtx c).path j = s.path j := by simp [path]
@[simp] theorem tickCtx_player (c : CtxId) (j : CtxId) : (s.tickCtx c).player j = s.player j := by simp [player]
@[simp] theorem tickCtx_segment (c : CtxId) (j : SegId) : (s.tickCtx c).segment j = s.segment j := by simp [segment]
@[simp] theorem tickCtx_service (c : CtxId) (j : Trunk) : (s.tickCtx c).service j = s.service j := by cases j <;> simp [service]
@[simp] theorem tickCtx_param (c : CtxId) (j : Fin 25) : (s.tickCtx c).param j = s.param j := by simp [param]

/-! ### foldl_tickCtx -/

theorem foldl_tickCtx_frame (xs : List CtxId) : xs.foldl tickCtx s = { s with
    contexts := (xs.foldl tickCtx s).contexts
    handed := (xs.foldl tickCtx s).handed } := by
  apply State.ext <;> first | with_reducible rfl | (exact foldl_keeps _ _ (fun _ _ => by simp) _ _)
@[simp] theorem foldl_tickCtx_pending (xs : List CtxId) : (xs.foldl tickCtx s).pending = s.pending := by rw [foldl_tickCtx_frame]
@[simp] theorem foldl_tickCtx_loops (xs : List CtxId) : (xs.foldl tickCtx s).loops = s.loops := by rw [foldl_tickCtx_frame]
@[simp] theorem foldl_tickCtx_rings (xs : List CtxId) : (xs.foldl tickCtx s).rings = s.rings := by rw [foldl_tickCtx_frame]
@[simp] theorem foldl_tickCtx_feeds (xs : List CtxId) : (xs.foldl tickCtx s).feeds = s.feeds := by rw [foldl_tickCtx_frame]
@[simp] theorem foldl_tickCtx_supply (xs : List CtxId) : (xs.foldl tickCtx s).supply = s.supply := by rw [foldl_tickCtx_frame]
@[simp] theorem foldl_tickCtx_directory (xs : List CtxId) : (xs.foldl tickCtx s).directory = s.directory := by rw [foldl_tickCtx_frame]
@[simp] theorem foldl_tickCtx_waiting (xs : List CtxId) : (xs.foldl tickCtx s).waiting = s.waiting := by rw [foldl_tickCtx_frame]
@[simp] theorem foldl_tickCtx_entryCount (xs : List CtxId) : (xs.foldl tickCtx s).entryCount = s.entryCount := by rw [foldl_tickCtx_frame]
@[simp] theorem foldl_tickCtx_routes (xs : List CtxId) : (xs.foldl tickCtx s).routes = s.routes := by rw [foldl_tickCtx_frame]
@[simp] theorem foldl_tickCtx_plan (xs : List CtxId) : (xs.foldl tickCtx s).plan = s.plan := by rw [foldl_tickCtx_frame]
@[simp] theorem foldl_tickCtx_trunkA (xs : List CtxId) : (xs.foldl tickCtx s).trunkA = s.trunkA := by rw [foldl_tickCtx_frame]
@[simp] theorem foldl_tickCtx_trunkB (xs : List CtxId) : (xs.foldl tickCtx s).trunkB = s.trunkB := by rw [foldl_tickCtx_frame]
@[simp] theorem foldl_tickCtx_paths (xs : List CtxId) : (xs.foldl tickCtx s).paths = s.paths := by rw [foldl_tickCtx_frame]
@[simp] theorem foldl_tickCtx_samples (xs : List CtxId) : (xs.foldl tickCtx s).samples = s.samples := by rw [foldl_tickCtx_frame]
@[simp] theorem foldl_tickCtx_segments (xs : List CtxId) : (xs.foldl tickCtx s).segments = s.segments := by rw [foldl_tickCtx_frame]
@[simp] theorem foldl_tickCtx_players (xs : List CtxId) : (xs.foldl tickCtx s).players = s.players := by rw [foldl_tickCtx_frame]
@[simp] theorem foldl_tickCtx_serviceA (xs : List CtxId) : (xs.foldl tickCtx s).serviceA = s.serviceA := by rw [foldl_tickCtx_frame]
@[simp] theorem foldl_tickCtx_serviceB (xs : List CtxId) : (xs.foldl tickCtx s).serviceB = s.serviceB := by rw [foldl_tickCtx_frame]
@[simp] theorem foldl_tickCtx_home (xs : List CtxId) : (xs.foldl tickCtx s).home = s.home := by rw [foldl_tickCtx_frame]
@[simp] theorem foldl_tickCtx_settings (xs : List CtxId) : (xs.foldl tickCtx s).settings = s.settings := by rw [foldl_tickCtx_frame]
@[simp] theorem foldl_tickCtx_sectionFault (xs : List CtxId) : (xs.foldl tickCtx s).sectionFault = s.sectionFault := by rw [foldl_tickCtx_frame]
@[simp] theorem foldl_tickCtx_trunkFaultA (xs : List CtxId) : (xs.foldl tickCtx s).trunkFaultA = s.trunkFaultA := by rw [foldl_tickCtx_frame]
@[simp] theorem foldl_tickCtx_trunkFaultB (xs : List CtxId) : (xs.foldl tickCtx s).trunkFaultB = s.trunkFaultB := by rw [foldl_tickCtx_frame]
@[simp] theorem foldl_tickCtx_loopFaults (xs : List CtxId) : (xs.foldl tickCtx s).loopFaults = s.loopFaults := by rw [foldl_tickCtx_frame]
@[simp] theorem foldl_tickCtx_postFaults (xs : List CtxId) : (xs.foldl tickCtx s).postFaults = s.postFaults := by rw [foldl_tickCtx_frame]
@[simp] theorem foldl_tickCtx_testResults (xs : List CtxId) : (xs.foldl tickCtx s).testResults = s.testResults := by rw [foldl_tickCtx_frame]
@[simp] theorem foldl_tickCtx_marks (xs : List CtxId) : (xs.foldl tickCtx s).marks = s.marks := by rw [foldl_tickCtx_frame]
@[simp] theorem foldl_tickCtx_abandons (xs : List CtxId) : (xs.foldl tickCtx s).abandons = s.abandons := by rw [foldl_tickCtx_frame]
@[simp] theorem foldl_tickCtx_abandonPosts (xs : List CtxId) : (xs.foldl tickCtx s).abandonPosts = s.abandonPosts := by rw [foldl_tickCtx_frame]
@[simp] theorem foldl_tickCtx_mask (xs : List CtxId) : (xs.foldl tickCtx s).mask = s.mask := by rw [foldl_tickCtx_frame]
@[simp] theorem foldl_tickCtx_loop (xs : List CtxId) (j : LoopId) : (xs.foldl tickCtx s).loop j = s.loop j := by simp [loop]
@[simp] theorem foldl_tickCtx_ring (xs : List CtxId) (j : LoopId) : (xs.foldl tickCtx s).ring j = s.ring j := by simp [ring]
@[simp] theorem foldl_tickCtx_feed (xs : List CtxId) (j : LoopId) : (xs.foldl tickCtx s).feed j = s.feed j := by simp [feed]
@[simp] theorem foldl_tickCtx_record (xs : List CtxId) (j : SlotId) : (xs.foldl tickCtx s).record j = s.record j := by simp [record]
@[simp] theorem foldl_tickCtx_trunk (xs : List CtxId) (j : Trunk) : (xs.foldl tickCtx s).trunk j = s.trunk j := by cases j <;> simp [trunk]
@[simp] theorem foldl_tickCtx_path (xs : List CtxId) (j : CtxId) : (xs.foldl tickCtx s).path j = s.path j := by simp [path]
@[simp] theorem foldl_tickCtx_player (xs : List CtxId) (j : CtxId) : (xs.foldl tickCtx s).player j = s.player j := by simp [player]
@[simp] theorem foldl_tickCtx_segment (xs : List CtxId) (j : SegId) : (xs.foldl tickCtx s).segment j = s.segment j := by simp [segment]
@[simp] theorem foldl_tickCtx_service (xs : List CtxId) (j : Trunk) : (xs.foldl tickCtx s).service j = s.service j := by cases j <;> simp [service]
@[simp] theorem foldl_tickCtx_param (xs : List CtxId) (j : Fin 25) : (xs.foldl tickCtx s).param j = s.param j := by simp [param]

/-! ### foldl_tickLoop -/

theorem foldl_tickLoop_frame (xs : List LoopId) : xs.foldl tickLoop s = { s with
    loops := (xs.foldl tickLoop s).loops
    handed := (xs.foldl tickLoop s).handed } := by
  apply State.ext <;> first | with_reducible rfl | (exact foldl_keeps _ _ (fun _ _ => by simp) _ _)
@[simp] theorem foldl_tickLoop_pending (xs : List LoopId) : (xs.foldl tickLoop s).pending = s.pending := by rw [foldl_tickLoop_frame]
@[simp] theorem foldl_tickLoop_rings (xs : List LoopId) : (xs.foldl tickLoop s).rings = s.rings := by rw [foldl_tickLoop_frame]
@[simp] theorem foldl_tickLoop_feeds (xs : List LoopId) : (xs.foldl tickLoop s).feeds = s.feeds := by rw [foldl_tickLoop_frame]
@[simp] theorem foldl_tickLoop_supply (xs : List LoopId) : (xs.foldl tickLoop s).supply = s.supply := by rw [foldl_tickLoop_frame]
@[simp] theorem foldl_tickLoop_directory (xs : List LoopId) : (xs.foldl tickLoop s).directory = s.directory := by rw [foldl_tickLoop_frame]
@[simp] theorem foldl_tickLoop_contexts (xs : List LoopId) : (xs.foldl tickLoop s).contexts = s.contexts := by rw [foldl_tickLoop_frame]
@[simp] theorem foldl_tickLoop_waiting (xs : List LoopId) : (xs.foldl tickLoop s).waiting = s.waiting := by rw [foldl_tickLoop_frame]
@[simp] theorem foldl_tickLoop_entryCount (xs : List LoopId) : (xs.foldl tickLoop s).entryCount = s.entryCount := by rw [foldl_tickLoop_frame]
@[simp] theorem foldl_tickLoop_routes (xs : List LoopId) : (xs.foldl tickLoop s).routes = s.routes := by rw [foldl_tickLoop_frame]
@[simp] theorem foldl_tickLoop_plan (xs : List LoopId) : (xs.foldl tickLoop s).plan = s.plan := by rw [foldl_tickLoop_frame]
@[simp] theorem foldl_tickLoop_trunkA (xs : List LoopId) : (xs.foldl tickLoop s).trunkA = s.trunkA := by rw [foldl_tickLoop_frame]
@[simp] theorem foldl_tickLoop_trunkB (xs : List LoopId) : (xs.foldl tickLoop s).trunkB = s.trunkB := by rw [foldl_tickLoop_frame]
@[simp] theorem foldl_tickLoop_paths (xs : List LoopId) : (xs.foldl tickLoop s).paths = s.paths := by rw [foldl_tickLoop_frame]
@[simp] theorem foldl_tickLoop_samples (xs : List LoopId) : (xs.foldl tickLoop s).samples = s.samples := by rw [foldl_tickLoop_frame]
@[simp] theorem foldl_tickLoop_segments (xs : List LoopId) : (xs.foldl tickLoop s).segments = s.segments := by rw [foldl_tickLoop_frame]
@[simp] theorem foldl_tickLoop_players (xs : List LoopId) : (xs.foldl tickLoop s).players = s.players := by rw [foldl_tickLoop_frame]
@[simp] theorem foldl_tickLoop_serviceA (xs : List LoopId) : (xs.foldl tickLoop s).serviceA = s.serviceA := by rw [foldl_tickLoop_frame]
@[simp] theorem foldl_tickLoop_serviceB (xs : List LoopId) : (xs.foldl tickLoop s).serviceB = s.serviceB := by rw [foldl_tickLoop_frame]
@[simp] theorem foldl_tickLoop_home (xs : List LoopId) : (xs.foldl tickLoop s).home = s.home := by rw [foldl_tickLoop_frame]
@[simp] theorem foldl_tickLoop_settings (xs : List LoopId) : (xs.foldl tickLoop s).settings = s.settings := by rw [foldl_tickLoop_frame]
@[simp] theorem foldl_tickLoop_sectionFault (xs : List LoopId) : (xs.foldl tickLoop s).sectionFault = s.sectionFault := by rw [foldl_tickLoop_frame]
@[simp] theorem foldl_tickLoop_trunkFaultA (xs : List LoopId) : (xs.foldl tickLoop s).trunkFaultA = s.trunkFaultA := by rw [foldl_tickLoop_frame]
@[simp] theorem foldl_tickLoop_trunkFaultB (xs : List LoopId) : (xs.foldl tickLoop s).trunkFaultB = s.trunkFaultB := by rw [foldl_tickLoop_frame]
@[simp] theorem foldl_tickLoop_loopFaults (xs : List LoopId) : (xs.foldl tickLoop s).loopFaults = s.loopFaults := by rw [foldl_tickLoop_frame]
@[simp] theorem foldl_tickLoop_postFaults (xs : List LoopId) : (xs.foldl tickLoop s).postFaults = s.postFaults := by rw [foldl_tickLoop_frame]
@[simp] theorem foldl_tickLoop_testResults (xs : List LoopId) : (xs.foldl tickLoop s).testResults = s.testResults := by rw [foldl_tickLoop_frame]
@[simp] theorem foldl_tickLoop_marks (xs : List LoopId) : (xs.foldl tickLoop s).marks = s.marks := by rw [foldl_tickLoop_frame]
@[simp] theorem foldl_tickLoop_abandons (xs : List LoopId) : (xs.foldl tickLoop s).abandons = s.abandons := by rw [foldl_tickLoop_frame]
@[simp] theorem foldl_tickLoop_abandonPosts (xs : List LoopId) : (xs.foldl tickLoop s).abandonPosts = s.abandonPosts := by rw [foldl_tickLoop_frame]
@[simp] theorem foldl_tickLoop_mask (xs : List LoopId) : (xs.foldl tickLoop s).mask = s.mask := by rw [foldl_tickLoop_frame]
@[simp] theorem foldl_tickLoop_ring (xs : List LoopId) (j : LoopId) : (xs.foldl tickLoop s).ring j = s.ring j := by simp [ring]
@[simp] theorem foldl_tickLoop_feed (xs : List LoopId) (j : LoopId) : (xs.foldl tickLoop s).feed j = s.feed j := by simp [feed]
@[simp] theorem foldl_tickLoop_record (xs : List LoopId) (j : SlotId) : (xs.foldl tickLoop s).record j = s.record j := by simp [record]
@[simp] theorem foldl_tickLoop_ctx (xs : List LoopId) (j : CtxId) : (xs.foldl tickLoop s).ctx j = s.ctx j := by simp [ctx]
@[simp] theorem foldl_tickLoop_trunk (xs : List LoopId) (j : Trunk) : (xs.foldl tickLoop s).trunk j = s.trunk j := by cases j <;> simp [trunk]
@[simp] theorem foldl_tickLoop_path (xs : List LoopId) (j : CtxId) : (xs.foldl tickLoop s).path j = s.path j := by simp [path]
@[simp] theorem foldl_tickLoop_player (xs : List LoopId) (j : CtxId) : (xs.foldl tickLoop s).player j = s.player j := by simp [player]
@[simp] theorem foldl_tickLoop_segment (xs : List LoopId) (j : SegId) : (xs.foldl tickLoop s).segment j = s.segment j := by simp [segment]
@[simp] theorem foldl_tickLoop_service (xs : List LoopId) (j : Trunk) : (xs.foldl tickLoop s).service j = s.service j := by cases j <;> simp [service]
@[simp] theorem foldl_tickLoop_param (xs : List LoopId) (j : Fin 25) : (xs.foldl tickLoop s).param j = s.param j := by simp [param]

/-! ### foldl_tickFeed -/

theorem foldl_tickFeed_frame (xs : List LoopId) : xs.foldl tickFeed s = { s with
    feeds := (xs.foldl tickFeed s).feeds
    handed := (xs.foldl tickFeed s).handed } := by
  apply State.ext <;> first | with_reducible rfl | (exact foldl_keeps _ _ (fun _ _ => by simp) _ _)
@[simp] theorem foldl_tickFeed_pending (xs : List LoopId) : (xs.foldl tickFeed s).pending = s.pending := by rw [foldl_tickFeed_frame]
@[simp] theorem foldl_tickFeed_loops (xs : List LoopId) : (xs.foldl tickFeed s).loops = s.loops := by rw [foldl_tickFeed_frame]
@[simp] theorem foldl_tickFeed_rings (xs : List LoopId) : (xs.foldl tickFeed s).rings = s.rings := by rw [foldl_tickFeed_frame]
@[simp] theorem foldl_tickFeed_supply (xs : List LoopId) : (xs.foldl tickFeed s).supply = s.supply := by rw [foldl_tickFeed_frame]
@[simp] theorem foldl_tickFeed_directory (xs : List LoopId) : (xs.foldl tickFeed s).directory = s.directory := by rw [foldl_tickFeed_frame]
@[simp] theorem foldl_tickFeed_contexts (xs : List LoopId) : (xs.foldl tickFeed s).contexts = s.contexts := by rw [foldl_tickFeed_frame]
@[simp] theorem foldl_tickFeed_waiting (xs : List LoopId) : (xs.foldl tickFeed s).waiting = s.waiting := by rw [foldl_tickFeed_frame]
@[simp] theorem foldl_tickFeed_entryCount (xs : List LoopId) : (xs.foldl tickFeed s).entryCount = s.entryCount := by rw [foldl_tickFeed_frame]
@[simp] theorem foldl_tickFeed_routes (xs : List LoopId) : (xs.foldl tickFeed s).routes = s.routes := by rw [foldl_tickFeed_frame]
@[simp] theorem foldl_tickFeed_plan (xs : List LoopId) : (xs.foldl tickFeed s).plan = s.plan := by rw [foldl_tickFeed_frame]
@[simp] theorem foldl_tickFeed_trunkA (xs : List LoopId) : (xs.foldl tickFeed s).trunkA = s.trunkA := by rw [foldl_tickFeed_frame]
@[simp] theorem foldl_tickFeed_trunkB (xs : List LoopId) : (xs.foldl tickFeed s).trunkB = s.trunkB := by rw [foldl_tickFeed_frame]
@[simp] theorem foldl_tickFeed_paths (xs : List LoopId) : (xs.foldl tickFeed s).paths = s.paths := by rw [foldl_tickFeed_frame]
@[simp] theorem foldl_tickFeed_samples (xs : List LoopId) : (xs.foldl tickFeed s).samples = s.samples := by rw [foldl_tickFeed_frame]
@[simp] theorem foldl_tickFeed_segments (xs : List LoopId) : (xs.foldl tickFeed s).segments = s.segments := by rw [foldl_tickFeed_frame]
@[simp] theorem foldl_tickFeed_players (xs : List LoopId) : (xs.foldl tickFeed s).players = s.players := by rw [foldl_tickFeed_frame]
@[simp] theorem foldl_tickFeed_serviceA (xs : List LoopId) : (xs.foldl tickFeed s).serviceA = s.serviceA := by rw [foldl_tickFeed_frame]
@[simp] theorem foldl_tickFeed_serviceB (xs : List LoopId) : (xs.foldl tickFeed s).serviceB = s.serviceB := by rw [foldl_tickFeed_frame]
@[simp] theorem foldl_tickFeed_home (xs : List LoopId) : (xs.foldl tickFeed s).home = s.home := by rw [foldl_tickFeed_frame]
@[simp] theorem foldl_tickFeed_settings (xs : List LoopId) : (xs.foldl tickFeed s).settings = s.settings := by rw [foldl_tickFeed_frame]
@[simp] theorem foldl_tickFeed_sectionFault (xs : List LoopId) : (xs.foldl tickFeed s).sectionFault = s.sectionFault := by rw [foldl_tickFeed_frame]
@[simp] theorem foldl_tickFeed_trunkFaultA (xs : List LoopId) : (xs.foldl tickFeed s).trunkFaultA = s.trunkFaultA := by rw [foldl_tickFeed_frame]
@[simp] theorem foldl_tickFeed_trunkFaultB (xs : List LoopId) : (xs.foldl tickFeed s).trunkFaultB = s.trunkFaultB := by rw [foldl_tickFeed_frame]
@[simp] theorem foldl_tickFeed_loopFaults (xs : List LoopId) : (xs.foldl tickFeed s).loopFaults = s.loopFaults := by rw [foldl_tickFeed_frame]
@[simp] theorem foldl_tickFeed_postFaults (xs : List LoopId) : (xs.foldl tickFeed s).postFaults = s.postFaults := by rw [foldl_tickFeed_frame]
@[simp] theorem foldl_tickFeed_testResults (xs : List LoopId) : (xs.foldl tickFeed s).testResults = s.testResults := by rw [foldl_tickFeed_frame]
@[simp] theorem foldl_tickFeed_marks (xs : List LoopId) : (xs.foldl tickFeed s).marks = s.marks := by rw [foldl_tickFeed_frame]
@[simp] theorem foldl_tickFeed_abandons (xs : List LoopId) : (xs.foldl tickFeed s).abandons = s.abandons := by rw [foldl_tickFeed_frame]
@[simp] theorem foldl_tickFeed_abandonPosts (xs : List LoopId) : (xs.foldl tickFeed s).abandonPosts = s.abandonPosts := by rw [foldl_tickFeed_frame]
@[simp] theorem foldl_tickFeed_mask (xs : List LoopId) : (xs.foldl tickFeed s).mask = s.mask := by rw [foldl_tickFeed_frame]
@[simp] theorem foldl_tickFeed_loop (xs : List LoopId) (j : LoopId) : (xs.foldl tickFeed s).loop j = s.loop j := by simp [loop]
@[simp] theorem foldl_tickFeed_ring (xs : List LoopId) (j : LoopId) : (xs.foldl tickFeed s).ring j = s.ring j := by simp [ring]
@[simp] theorem foldl_tickFeed_record (xs : List LoopId) (j : SlotId) : (xs.foldl tickFeed s).record j = s.record j := by simp [record]
@[simp] theorem foldl_tickFeed_ctx (xs : List LoopId) (j : CtxId) : (xs.foldl tickFeed s).ctx j = s.ctx j := by simp [ctx]
@[simp] theorem foldl_tickFeed_trunk (xs : List LoopId) (j : Trunk) : (xs.foldl tickFeed s).trunk j = s.trunk j := by cases j <;> simp [trunk]
@[simp] theorem foldl_tickFeed_path (xs : List LoopId) (j : CtxId) : (xs.foldl tickFeed s).path j = s.path j := by simp [path]
@[simp] theorem foldl_tickFeed_player (xs : List LoopId) (j : CtxId) : (xs.foldl tickFeed s).player j = s.player j := by simp [player]
@[simp] theorem foldl_tickFeed_segment (xs : List LoopId) (j : SegId) : (xs.foldl tickFeed s).segment j = s.segment j := by simp [segment]
@[simp] theorem foldl_tickFeed_service (xs : List LoopId) (j : Trunk) : (xs.foldl tickFeed s).service j = s.service j := by cases j <;> simp [service]
@[simp] theorem foldl_tickFeed_param (xs : List LoopId) (j : Fin 25) : (xs.foldl tickFeed s).param j = s.param j := by simp [param]

/-! ### tick -/

theorem tick_frame : s.tick = { s with
    contexts := (s.tick).contexts
    loops := (s.tick).loops
    feeds := (s.tick).feeds
    supply := (s.tick).supply
    trunkA := (s.tick).trunkA
    trunkB := (s.tick).trunkB
    handed := (s.tick).handed } := by
  apply State.ext <;> first | with_reducible rfl | (simp [tick])
@[simp] theorem tick_pending : (s.tick).pending = s.pending := by rw [tick_frame]
@[simp] theorem tick_rings : (s.tick).rings = s.rings := by rw [tick_frame]
@[simp] theorem tick_directory : (s.tick).directory = s.directory := by rw [tick_frame]
@[simp] theorem tick_waiting : (s.tick).waiting = s.waiting := by rw [tick_frame]
@[simp] theorem tick_entryCount : (s.tick).entryCount = s.entryCount := by rw [tick_frame]
@[simp] theorem tick_routes : (s.tick).routes = s.routes := by rw [tick_frame]
@[simp] theorem tick_plan : (s.tick).plan = s.plan := by rw [tick_frame]
@[simp] theorem tick_paths : (s.tick).paths = s.paths := by rw [tick_frame]
@[simp] theorem tick_samples : (s.tick).samples = s.samples := by rw [tick_frame]
@[simp] theorem tick_segments : (s.tick).segments = s.segments := by rw [tick_frame]
@[simp] theorem tick_players : (s.tick).players = s.players := by rw [tick_frame]
@[simp] theorem tick_serviceA : (s.tick).serviceA = s.serviceA := by rw [tick_frame]
@[simp] theorem tick_serviceB : (s.tick).serviceB = s.serviceB := by rw [tick_frame]
@[simp] theorem tick_home : (s.tick).home = s.home := by rw [tick_frame]
@[simp] theorem tick_settings : (s.tick).settings = s.settings := by rw [tick_frame]
@[simp] theorem tick_sectionFault : (s.tick).sectionFault = s.sectionFault := by rw [tick_frame]
@[simp] theorem tick_trunkFaultA : (s.tick).trunkFaultA = s.trunkFaultA := by rw [tick_frame]
@[simp] theorem tick_trunkFaultB : (s.tick).trunkFaultB = s.trunkFaultB := by rw [tick_frame]
@[simp] theorem tick_loopFaults : (s.tick).loopFaults = s.loopFaults := by rw [tick_frame]
@[simp] theorem tick_postFaults : (s.tick).postFaults = s.postFaults := by rw [tick_frame]
@[simp] theorem tick_testResults : (s.tick).testResults = s.testResults := by rw [tick_frame]
@[simp] theorem tick_marks : (s.tick).marks = s.marks := by rw [tick_frame]
@[simp] theorem tick_abandons : (s.tick).abandons = s.abandons := by rw [tick_frame]
@[simp] theorem tick_abandonPosts : (s.tick).abandonPosts = s.abandonPosts := by rw [tick_frame]
@[simp] theorem tick_mask : (s.tick).mask = s.mask := by rw [tick_frame]
@[simp] theorem tick_ring (j : LoopId) : (s.tick).ring j = s.ring j := by simp [ring]
@[simp] theorem tick_record (j : SlotId) : (s.tick).record j = s.record j := by simp [record]
@[simp] theorem tick_path (j : CtxId) : (s.tick).path j = s.path j := by simp [path]
@[simp] theorem tick_player (j : CtxId) : (s.tick).player j = s.player j := by simp [player]
@[simp] theorem tick_segment (j : SegId) : (s.tick).segment j = s.segment j := by simp [segment]
@[simp] theorem tick_service (j : Trunk) : (s.tick).service j = s.service j := by cases j <;> simp [service]
@[simp] theorem tick_param (j : Fin 25) : (s.tick).param j = s.param j := by simp [param]

end Sys2Proof.Machine.State
end

