-- ==== Sys2Proof/Laws/TrunkInterface.lean ====
section
/-! SUPPORT. What the operations on a trunk do to its interface: one lemma for each operation of Machine/Trunks.lean that takes
a byte of slot 0, stores a frame, or gains or loses alignment, and for the operations of the call manager that reach a trunk.
What each leaves of the rest of the part is in Laws/Trunks.lean. -/

namespace Sys2Proof.Machine

open Sys2Proof

/-- An interface whose trunk state, holdover timer and failover have moved to those of `U`, and nothing else. -/
def TrunkIf.moved (T U : TrunkIf) : TrunkIf :=
  { T with state := U.state, holdover := U.holdover, failoverDue := U.failoverDue }

/-- The interface after a slot 0 byte of an odd frame, but for the trunk state (R119). -/
def TrunkIf.takeOdd (T : TrunkIf) (b : Byte) : TrunkIf :=
  if goodHousekeeping b then
    if alarmBit b then { T with alarm := true, clearRun := 0 }
    else { T with clearRun := if T.alarm = false ∧ 8 ≤ T.clearRun + 1 then 0 else T.clearRun + 1 }
  else { T with clearRun := 0 }

/-- The interface after a slot 0 byte of an even frame (R118). -/
def TrunkIf.takeEven (T : TrunkIf) (b : Byte) : TrunkIf :=
  { T with badWords := if b = alignWord then 0 else T.badWords + 1 }

/-- The interface after a frame written into its store (R127, R128). -/
def TrunkIf.stored (T : TrunkIf) (slots : List Byte) : TrunkIf :=
  { T with
    store := (if 2 ≤ T.store.length then T.store.drop 1 else T.store) ++ [slots]
    reading := true
    slips := if 2 ≤ T.store.length ∧ T.state ≠ .off then min (T.slips + 1) 255 else T.slips }

/-- An interface but for its voice channels and its signalling transmit queue, which are the call manager's (R99, R130). -/
def TrunkIf.linePart (T : TrunkIf) : TrunkIf := { T with channels := Vector.replicate 15 ⟨.free, false, 0⟩, sigQueue := [] }

/-- Two interfaces agree but for the call manager's part: one is the other with that part put in. -/
theorem linePart_congr {T U : TrunkIf} :
    T.linePart = U.linePart ↔ T = { U with channels := T.channels, sigQueue := T.sigQueue } := by
  cases T; cases U; simp [TrunkIf.linePart]

namespace State

variable (s : State)

/-! ### The trunk state (R121 to R125) -/

@[simp] theorem changeTrunkState_trunk (t : Trunk) (st : TrunkState) :
    (s.changeTrunkState t st).trunk t = { s.trunk t with state := st } := by simp [changeTrunkState]

@[simp] theorem handFailover_trunk (t : Trunk) :
    (s.handFailover t).trunk t = { s.trunk t with failoverDue := true } := by simp [handFailover]

@[simp] theorem recover_trunk (t : Trunk) :
    (s.recover t).trunk t = { s.trunk t with state := .up, holdover := .stopped } := by simp [recover]

/-- A trunk fault moves the trunk and leaves what its receive side holds (R123). -/
theorem trunkFaultEvent_trunk (t : Trunk) :
    (s.trunkFaultEvent t).trunk t = (s.trunk t).moved ((s.trunkFaultEvent t).trunk t) := by
  unfold trunkFaultEvent; split <;> simp [TrunkIf.moved]

/-- A gain of alignment reported to the trunk state leaves what the receive side holds (R122, R124). -/
theorem onAligned_trunk (t : Trunk) : (s.onAligned t).trunk t = (s.trunk t).moved ((s.onAligned t).trunk t) := by
  unfold onAligned; (repeat' split) <;> simp [TrunkIf.moved]

/-- A loss of alignment reported to the trunk state leaves what the receive side holds (R123 to R125). -/
theorem onLost_trunk (t : Trunk) : (s.onLost t).trunk t = (s.trunk t).moved ((s.onLost t).trunk t) := by
  unfold onLost; (repeat' split) <;> first | exact s.trunkFaultEvent_trunk t | simp [TrunkIf.moved]

/-- An alarm reported to the trunk state leaves what the receive side holds (R123, R124). -/
theorem onAlarm_trunk (t : Trunk) : (s.onAlarm t).trunk t = (s.trunk t).moved ((s.onAlarm t).trunk t) := by
  unfold onAlarm; (repeat' split) <;> first | exact s.trunkFaultEvent_trunk t | simp [TrunkIf.moved]

/-- The end of an alarm reported to the trunk state leaves what the receive side holds (R124, R125). -/
theorem onAlarmAbsent_trunk (t : Trunk) :
    (s.onAlarmAbsent t).trunk t = (s.trunk t).moved ((s.onAlarmAbsent t).trunk t) := by
  unfold onAlarmAbsent; (repeat' split) <;> simp [TrunkIf.moved]

/-! ### Alignment and the alarm (R117 to R119) -/

/-- A loss of alignment empties and stops the elastic store, and drops a signalling message partly received (R118, R127). -/
theorem loseAlignment_trunk (t : Trunk) :
    (s.loseAlignment t).trunk t =
      ({ s.trunk t with
        aligned := false, badWords := 0, clearRun := 0, store := [], reading := false, sigRx := .hunting } : TrunkIf).moved
        ((s.loseAlignment t).trunk t) := by
  unfold loseAlignment; dsimp only
  rw [onLost_trunk]
  simp [dropMessages, TrunkIf.moved]

/-- A loss of alignment drops a service message partly received (R118). -/
theorem loseAlignment_service (t : Trunk) :
    (s.loseAlignment t).service t = { s.service t with rx := .hunting } := by
  simp [loseAlignment, dropMessages]

/-- The end of a clear run makes the alarm absent (R119). -/
theorem clearAlarm_trunk (t : Trunk) :
    (s.clearAlarm t).trunk t =
      ({ s.trunk t with alarm := false, clearRun := 0 } : TrunkIf).moved ((s.clearAlarm t).trunk t) := by
  unfold clearAlarm; rw [onAlarmAbsent_trunk]; simp [TrunkIf.moved]

/-- A slot 0 byte of an odd frame moves the alarm and its clear run (R119). -/
theorem takeHousekeeping_trunk (t : Trunk) (b : Byte) : (s.takeHousekeeping t b).trunk t = (s.trunk t).takeOdd b := by
  unfold takeHousekeeping TrunkIf.takeOdd takeAlarm takeClear
  dsimp only
  (repeat' split) <;> simp_all

/-- A slot 0 byte of an odd frame moves the alarm and its clear run, and an alarm the trunk state (R119, R123). -/
theorem oddFrame_trunk (t : Trunk) (b : Byte) :
    (s.oddFrame t b).trunk t = ((s.trunk t).takeOdd b).moved ((s.oddFrame t b).trunk t) := by
  unfold oddFrame; dsimp only
  split
  · rw [onAlarm_trunk, takeHousekeeping_trunk]; rfl
  · rw [takeHousekeeping_trunk]; rfl

/-- A slot 0 byte of an even frame moves the bad-word count alone (R118). -/
theorem evenFrame_trunk (t : Trunk) (b : Byte) : (s.evenFrame t b).trunk t = (s.trunk t).takeEven b := by
  unfold evenFrame TrunkIf.takeEven; dsimp only
  (repeat' split) <;> simp_all

/-! ### The elastic store (R127, R128) -/

/-- A slip is counted unless the trunk is OFF (R127, R128). -/
theorem countSlip_trunk (t : Trunk) :
    (s.countSlip t).trunk t =
      { s.trunk t with slips := if (s.trunk t).state = .off then (s.trunk t).slips else min ((s.trunk t).slips + 1) 255 } := by
  unfold countSlip
  split
  · rfl
  · simp

/-- A frame written into the store is the newest of at most two, and reading begins (R127). -/
theorem writeStore_trunk (t : Trunk) (slots : List Byte) :
    (s.writeStore t slots).trunk t = (s.trunk t).stored slots := by
  unfold writeStore TrunkIf.stored; dsimp only
  split
  · rw [countSlip_trunk]; by_cases h : (s.trunk t).state = .off <;> simp_all
  · simp_all

/-- A frame of the part's timing takes the oldest unread frame; the last one is read again where there is none (R127). -/
theorem readStore_reads (t : Trunk) (h : (s.trunk t).aligned) (hr : (s.trunk t).reading) :
    (∀ f rest, (s.trunk t).store = f :: rest →
      (s.readStore t).2 = f ∧ (s.readStore t).1.trunk t = { s.trunk t with store := rest, lastFrame := f }) ∧
    ((s.trunk t).store = [] →
      (s.readStore t).2 = (s.trunk t).lastFrame ∧ (s.readStore t).1 = s.countSlip t) := by
  constructor
  · intro f rest e; simp [readStore, h, hr, e]
  · intro e; simp [readStore, h, hr, e]

/-- A whole aligned frame (R118, R119, R127): slot 0 by parity, and the rest into the store unless the frame brings the fourth
bad alignment word. -/
theorem alignedFrame_trunk (t : Trunk) (frame : List Byte) :
    (s.alignedFrame t frame).trunk t =
      let T : TrunkIf := { s.trunk t with evenNext := !(s.trunk t).evenNext }
      let U := (if (s.trunk t).evenNext then T.takeEven (frame.headD 0) else T.takeOdd (frame.headD 0)).moved
        ((s.alignedFrame t frame).trunk t)
      if 4 ≤ U.badWords then U else U.stored (frame.drop 1) := by
  unfold alignedFrame; dsimp only
  cases h : (s.trunk t).evenNext
  · simp only [Bool.false_eq_true, if_false]
    split
    · rename_i h4
      rw [oddFrame_trunk] at h4 ⊢
      rw [if_pos (by simpa [TrunkIf.moved] using h4)]
      simp [TrunkIf.moved]
    · rename_i h4
      rw [writeStore_trunk, oddFrame_trunk] at *
      rw [if_neg (by simpa [TrunkIf.moved] using h4)]
      simp [TrunkIf.moved, TrunkIf.stored]
  · simp only [if_true]
    split
    · rename_i h4
      rw [evenFrame_trunk] at h4 ⊢
      rw [if_pos (by simpa [TrunkIf.moved] using h4)]
      simp [TrunkIf.moved]
    · rename_i h4
      rw [writeStore_trunk, evenFrame_trunk] at *
      rw [if_neg (by simpa [TrunkIf.moved] using h4)]
      simp [TrunkIf.moved, TrunkIf.stored]

/-! ### ENABLE (R133, R161) -/

/-- ENABLE of a trunk in OFF starts the search afresh, with an empty store that is not read (R127, R133). -/
theorem enableTrunk_trunk (t : Trunk) (h : (s.trunk t).state = .off) :
    (s.enableTrunk t).trunk t = { s.trunk t with
      state := .hunt
      aligned := false
      evenNext := true
      badWords := 0
      rxBuf := []
      alarm := false
      clearRun := 0
      store := []
      reading := false
      sigRx := .hunting } := by
  simp [enableTrunk, h, dropMessages]

/-- ENABLE of a trunk in OFF leaves its service receiver hunting (R161). -/
theorem enableTrunk_service (t : Trunk) (h : (s.trunk t).state = .off) :
    (s.enableTrunk t).service t = { s.service t with rx := .hunting } := by
  simp [enableTrunk, h, dropMessages]

/-! ### What the call manager changes of an interface (R95 to R99, R112, R121, R130) -/

/-- A message made for a trunk goes into its transmit queue (R99). -/
@[simp] theorem pushSig_line (t u : Trunk) (m : SigMsg) :
    ((s.pushSig u m).trunk t).linePart = (s.trunk t).linePart := by
  unfold pushSig; split
  · by_cases h : u = t
    · subst h; simp [TrunkIf.linePart]
    · rw [modTrunk_trunk_of_ne _ _ _ _ h]
  · simp

/-- A channel that is set is the call manager's part (R130). -/
@[simp] theorem setChan_line (t u : Trunk) (n : ChanId) (x : Channel) :
    ((s.setChan u n x).trunk t).linePart = (s.trunk t).linePart := by
  unfold setChan
  by_cases h : u = t
  · subst h; simp [TrunkIf.linePart]
  · rw [modTrunk_trunk_of_ne _ _ _ _ h]

/-- A freed pool is the call manager's part (R132). -/
@[simp] theorem freePool_line (t u : Trunk) : ((s.freePool u).trunk t).linePart = (s.trunk t).linePart := by
  unfold freePool
  by_cases h : u = t
  · subst h; simp [TrunkIf.linePart]
  · rw [modTrunk_trunk_of_ne _ _ _ _ h]

/-- A pass over one context leaves of a trunk all but its channels and its transmit queue (R95 to R97). -/
@[simp] theorem dispatchOne_line (t : Trunk) (c : CtxId) : ((s.dispatchOne c).trunk t).linePart = (s.trunk t).linePart := by
  unfold dispatchOne makeOffer
  dsimp only
  (repeat' split) <;> simp

/-- Dispatch leaves of a trunk all but its channels and its transmit queue (R95 to R97). -/
@[simp] theorem dispatch_line (t : Trunk) : (s.dispatch.trunk t).linePart = (s.trunk t).linePart := by
  unfold dispatch
  induction s.waiting generalizing s with
  | nil => rfl
  | cons c cs ih => rw [List.foldl_cons, ih, dispatchOne_line]

/-- Failover empties the transmit queue of its trunk, and lets a trunk seen UP count as not UP (R112). -/
theorem failover_line (t : Trunk) : ((s.failover t).trunk t).linePart =
    ({ s.trunk t with
      sigSent := 0
      seen := if (s.trunk t).seen = .up then .holdover else (s.trunk t).seen } : TrunkIf).linePart := by
  unfold failover
  rw [dispatch_line, freePool_line, foldl_represent_trunk, foldl_endOffer_trunk, modTrunk_trunk]
  rfl

/-- Failover leaves of the other trunk all but its channels and its transmit queue (R112 to R114). -/
theorem failover_line_other (t u : Trunk) (h : t ≠ u) : ((s.failover t).trunk u).linePart = (s.trunk u).linePart := by
  unfold failover
  rw [dispatch_line, freePool_line, foldl_represent_trunk, foldl_endOffer_trunk, modTrunk_trunk_of_ne _ _ _ _ h]

/-- A report of a trunk state is what the call manager goes by from then on (R121). -/
theorem trunkReport_line (t : Trunk) (st : TrunkState) :
    ((s.trunkReport t st).trunk t).linePart = ({ s.trunk t with seen := st } : TrunkIf).linePart := by
  unfold trunkReport; dsimp only; split
  · rw [dispatch_line, modTrunk_trunk]
  · rw [modTrunk_trunk]

/-- A report of a trunk state leaves of the other trunk all but its channels and its transmit queue (R111). -/
theorem trunkReport_line_other (t u : Trunk) (st : TrunkState) (h : t ≠ u) :
    ((s.trunkReport t st).trunk u).linePart = (s.trunk u).linePart := by
  unfold trunkReport; dsimp only; split
  · rw [dispatch_line, modTrunk_trunk_of_ne _ _ _ _ h]
  · rw [modTrunk_trunk_of_ne _ _ _ _ h]

/-- The outstanding reports of a trunk change of its interface what the call manager goes by (R121). -/
theorem drainReports_line (t : Trunk) : ∃ st, ((s.drainReports t).trunk t).linePart =
    ({ s.trunk t with seen := st } : TrunkIf).linePart := by
  unfold drainReports
  generalize s.reportsOf t = xs
  induction xs generalizing s with
  | nil => exact ⟨(s.trunk t).seen, rfl⟩
  | cons x xs ih =>
    obtain ⟨st, h⟩ := ih ((s.take (.trunkStateReport t x)).trunkReport t x)
    refine ⟨st, h.trans ?_⟩
    have e := trunkReport_line (s.take (.trunkStateReport t x)) t x
    rw [linePart_congr] at e ⊢
    rw [e]; simp

/-- The outstanding reports of a trunk leave of the other all but its channels and its transmit queue (R111). -/
theorem drainReports_line_other (t u : Trunk) (hne : t ≠ u) :
    ((s.drainReports t).trunk u).linePart = (s.trunk u).linePart := by
  unfold drainReports
  generalize s.reportsOf t = xs
  induction xs generalizing s with
  | nil => rfl
  | cons x xs ih => rw [List.foldl_cons, ih, trunkReport_line_other _ _ _ _ hne]; simp

/-- A failover carried out puts the trunk in its new state and leaves its receive side and its elastic store (R112, R124). -/
theorem endFailover_line (t : Trunk) (st : TrunkState) : ∃ seen, ((s.endFailover t st).trunk t).linePart =
    ({ s.trunk t with
      state := st
      seen := seen
      holdover := .stopped
      failoverDue := false
      sigSent := 0 } : TrunkIf).linePart := by
  obtain ⟨x, h⟩ := s.drainReports_line t
  have e := failover_line ((s.drainReports t).take (.failover t)) t
  rw [linePart_congr] at h e
  refine ⟨if x = .up then .holdover else x, ?_⟩
  unfold endFailover leaveFailover carryFailover
  rw [changeTrunkState_trunk, modTrunk_trunk, e, take_trunk, h]
  rfl

/-- A failover carried out leaves of the other trunk all but its channels and its transmit queue (R112 to R114). -/
theorem endFailover_line_other (t u : Trunk) (h : t ≠ u) (st : TrunkState) :
    ((s.endFailover t st).trunk u).linePart = (s.trunk u).linePart := by
  simp [endFailover, leaveFailover, carryFailover, changeTrunkState, modTrunk_trunk_of_ne _ _ _ _ h,
    failover_line_other _ _ _ h, drainReports_line_other _ _ _ h]

end State

end Sys2Proof.Machine
end

