-- ==== Sys2Proof/Tests/Slice0.lean ====
section
/-! SUPPORT. Tests: what WellFormed refuses, one concrete state or set of operands for the hypotheses of every statement,
and small tests of one step each whose expected results are taken from the rules and worked examples of spec/. -/

namespace Sys2Proof.Tests

open Sys2Proof Sys2Proof.Machine

/-! ### Small states -/

/-- The next state of an outcome; the tests below only take outcomes that have one. -/
def nextOf : Host.Outcome State Fault Refusal → State
  | .next s => s
  | _ => State.reset

/-- A command record with nothing pending. -/
def quiet : CmdRec :=
  { CmdRec.fresh with confirmedLamp := some .off, confirmedBearer := .nobearer, healthDue := false }

/-- A valid record of loop 0 with plate 17. -/
def rec17 : PostRecord := { PostRecord.empty with valid := true, number := 1041, plate := 17 }

/-- Loop 0 in RUN with two entries: plate 17 tied to slot 0, plate 42 unlisted. -/
def loopRun : Loop :=
  { Loop.reset with state := .run, map := [⟨17, .listed 0 true, quiet⟩, ⟨42, .unlisted, quiet⟩] }

/-- Loop 0 in RUN, both trunks reported UP, slot 0 filled. -/
def running : State :=
  (((State.reset.setRecord 0 rec17).setLoop 0 loopRun).modTrunk .A (fun T => { T with seen := .up, state := .up })).modTrunk
    .B (fun T => { T with seen := .up, state := .up })

/-- A QUEUED call of the post at entry 1 on bearer 0. -/
def queued : Ctx :=
  { Ctx.reset with
    state := .queued, regGen := 1, plate := 17, entry := 1, bearer := some 0, liveSeen := true,
    snapshot := some (running.identityOf 0 1 ⟨17, .listed 0 true, quiet⟩) }

/-- The same call with an offer on channel 1 of trunk A. -/
def offered : Ctx :=
  { queued with
    state := .offered, plan := some 0, ref := some 1, offGen := 1, primary := some ⟨.A, 0⟩,
    target := some ⟨1, .A, 0, 20⟩, offerTimer := .running 5 }

/-- The same call CONNECTED. -/
def connected : Ctx := { offered with state := .connected, offerTimer := .stopped, desk := some 9 }

/-- The same call HELD. -/
def held : Ctx := { connected with state := .held, holdRunning := true }

/-- The same call CLEARING. -/
def clearing : Ctx := { connected with state := .clearing, primary := none, cause := some .caller }

/-- The running part with a call in context 0 and its bearer LIVE. -/
def withCall (x : Ctx) : State :=
  (((running.setBearer 0 0 ⟨.live, 1⟩).setCtx 0 x).setChan .A 0 ⟨.reserved, false, 0⟩).setWaiting
    (if x.state = .queued ∨ x.state = .offered then [0] else [])

/-- The running part with loop 0 changed. -/
def withLoop (f : Loop → Loop) : State := running.modLoop 0 f

/-- A scan in flight on loop 0 that has returned these bytes. -/
def returned (p : Purpose) (cmds : List ScanCmd) (epoch : Byte) (rx : List Byte) : State :=
  withLoop (fun L => { L with flight := some ⟨p, cmds, epoch, false⟩, rx := rx, rxDone := true })

/-- The running part with trunk A changed. -/
def withTrunk (f : TrunkIf → TrunkIf) : State := running.modTrunk .A f

/-- The running part with the service channel of trunk A changed. -/
def withService (f : Service → Service) : State := running.modService .A f

/-- A DIRECTORY write that R41 accepts. -/
def goodWrite : PostWrite :=
  { valid := 1, number := 1051, loop := 0, position := 2, plate := 42, road := 6, carriageway := 1, marker := 436,
    zone := 3, upGain := 32, downGain := 32, permits := 7, label1 := [0x41, 0x07], label2 := [] }

/-! ### WellFormed refuses -/

theorem test_wf_loopFrame_short : (Instr.loopFrame 0 (.bytes [0x47])).wf = false := by decide
theorem test_wf_loopFrame_codes : (Instr.loopFrame 0 (.ring [])).wf = false := by decide
theorem test_wf_reconciliation_long : (Instr.reconciliation 0 0 (List.replicate 13 1)).wf = false := by decide
theorem test_wf_resultInstall_absent_twice : (Instr.resultInstall 0 0 [] [3, 3]).wf = false := by decide
theorem test_wf_resultInstall_long : (Instr.resultInstall 0 0 (List.replicate 13 ⟨1, none⟩) []).wf = false := by decide
theorem test_wf_rebuild_position : (Instr.rebuildReport 0 0 [some (13, .unlisted)] []).wf = false := by decide
theorem test_wf_rebuild_freed_twice : (Instr.rebuildReport 0 0 [] [1, 1]).wf = false := by decide
theorem test_wf_rebuild_long : (Instr.rebuildReport 0 0 (List.replicate 13 none) []).wf = false := by decide
theorem test_wf_directoryRelease : (Instr.directoryRelease 0 0).wf = false := by decide
theorem test_wf_supplyLoss : (Instr.supplyLoss 420).wf = false := by decide
theorem test_wf_requestReport : (Instr.requestReport 0 13 .service).wf = false := by decide
theorem test_wf_callerReport : (Instr.callerReport 0 0 true).wf = false := by decide
theorem test_wf_testFailReport : (Instr.testFailReport 0 0).wf = false := by decide
theorem test_wf_trunkFrame : (Instr.trunkFrameReceive .A [0x1B]).wf = false := by decide
theorem test_wf_trunkControl : (Instr.trunkControlBlock .A 0 256).wf = false ∧ (Instr.trunkControlEnable .A 256).wf = false := by
  decide
theorem test_wf_noticeRaise : (Instr.noticeRaise (.abandonedLoop 0 13 0)).wf = false := by decide
theorem test_wf_clearFault : (Instr.clearFault .A 0 0 0 65536).wf = false := by decide
theorem test_wf_writeDirectory : (Instr.writeTableDirectory .A 256 goodWrite).wf = false ∧
    (Instr.writeTableDirectory .A 0 { goodWrite with number := 65536 }).wf = false ∧
    (Instr.writeTableDirectory .A 0 { goodWrite with label1 := List.replicate 181 0x41 }).wf = false := by
  decide +kernel
theorem test_wf_writeRoute : (Instr.writeTableRoute .A 0 [⟨256, 0, 0⟩]).wf = false ∧
    (Instr.writeTableRoute .A 0 (List.replicate 66 ⟨0, 0, 0⟩)).wf = false := by decide
theorem test_wf_writeSegment : (Instr.writeTableSegment .A 0 ⟨1, 65536, 1, 0⟩).wf = false := by decide
theorem test_wf_writeSamples : (Instr.writeTableSamples .A 0 [0]).wf = false := by decide
theorem test_wf_writeSettings : (Instr.writeTableSettings .A 0 65536).wf = false ∧
    (Instr.writeTableMask .A 0 65536).wf = false := by decide
theorem test_wf_reads : (Instr.readMap .A 256).wf = false ∧ (Instr.readFault .A 256 0).wf = false ∧
    (Instr.readTableRoute .A 256).wf = false ∧ (Instr.setPlan .A 256).wf = false ∧
    (Instr.loopControlTest .A 256).wf = false := by decide
theorem test_wf_request : (Instr.serviceRequestBuffered .A (.writeUnknown 5)).wf = false := by decide

/-! ### The hypotheses of the statements are met -/

/-- An expiry counts at the end of its timer, whoever sent it. -/
theorem runsOut_at_end (s : State) (i : Instr) (x : Timer) (h : x = .running 0) : RunsOut s i x := ⟨0, h, fun _ => rfl⟩

/-- An expiry that the part has handed does not count while its timer has frames left. -/
theorem not_runsOut_before_end (s : State) (i : Instr) (x : Timer) (n : Nat) (h : x = .running (n + 1)) (hi : i ∈ s.handed) :
    ¬ RunsOut s i x := by
  rintro ⟨m, e, hm⟩
  rw [h] at e
  cases e
  exact absurd (hm hi) (Nat.succ_ne_zero n)

/-- An expiry of a stopped timer does not count. -/
theorem not_runsOut_stopped (s : State) (i : Instr) : ¬ RunsOut s i .stopped := by
  rintro ⟨m, e, _⟩
  cases e

theorem wit_StepTakesTheFrontCommand :
    ({ running with pending := [.noticeStart] } : State).pending = .noticeStart :: [] ∧
    running.pending = [] ∧ running.handed = .noticeStart :: [] ∧
    ({ running with handed := [] } : State).handed = [] := by decide

theorem wit_PowerOn : 420 ≤ 420 ∧ 419 < 420 := by decide

theorem wit_EveryStepKeepsTheTables : running.tablesOk ∧ step running = .next (nextOf (step running)) := by
  refine ⟨⟨?_, ?_, ?_, ?_, ?_, ?_⟩, rfl⟩
  · unfold State.settingsOk; decide
  · unfold PostRecord.inRange; decide
  · decide +kernel
  · unfold routeInRange; decide
  · unfold SegRec.inRange; decide
  · decide

theorem wit_EveryStepKeepsTheContexts :
    (withCall offered).contextsOk ∧ step (withCall offered) = .next (nextOf (step (withCall offered))) := by
  refine ⟨?_, rfl⟩
  intro c
  by_cases h : c = 0
  · subst h
    refine ⟨by decide, by decide, by decide, by decide, rfl, ⟨1, .A, 0, 20⟩, rfl, ⟨.A, 0⟩, rfl, rfl⟩
  · have e : (withCall offered).ctx c = Ctx.reset := by revert c; decide
    rw [e]
    exact ⟨by decide, by decide, by decide, rfl, rfl, rfl, rfl⟩

theorem wit_EveryStepKeepsTheWaitingList :
    (withCall queued).waitingOk ∧ step (withCall queued) = .next (nextOf (step (withCall queued))) := by
  refine ⟨?_, rfl⟩
  unfold State.waitingOk Ctx.isWaiting
  decide

theorem wit_EveryStepKeepsTheCounts : running.tablesOk ∧ running.countsOk ∧ step running = .next (nextOf (step running)) := by
  refine ⟨wit_EveryStepKeepsTheTables.1, ⟨?_, ?_, ?_, ?_⟩, rfl⟩
  · intro t; cases t <;> (unfold TrunkIf.countsOk; decide)
  · unfold Ctx.countsOk; decide
  · unfold Loop.countsOk; decide
  · decide

theorem wit_EveryStepKeepsWhatACallWasRegisteredWith :
    step (withCall queued) = .next (nextOf (step (withCall queued))) ∧ ((withCall queued).ctx 0).state ≠ .free ∧
    ((nextOf (step (withCall queued))).ctx 0).state ≠ .free := by
  refine ⟨rfl, ?_, ?_⟩ <;> decide

theorem wit_Encoding : (3952 : Int).natAbs ≤ 3952 ∧ (-3952 : Int).natAbs ≤ 3952 ∧ (-1 : Int) < 0 ∧ (6 : Nat) < 7 ∧
    (0x7F : Byte) ≠ 0x80 := by decide

theorem wit_Gain : (7904 : Int).natAbs * 16 < 32 * 3952 + 16 ∧ (-7904 : Int).natAbs * 16 < 32 * 3952 + 16 ∧
    (-7904 : Int) < 0 ∧ (0 : Int) ≤ 7904 ∧ 32 ≤ 32 ∧ decodeSample 0x35 = decodeSample 0x35 ∧
    gainClips 3952 33 ∧ gainClips (-3952) 33 ∧ gainClips 7904 32 ∧ gainClips (-7904) 32 ∧ gainClips 3952 32 = false := by decide

/-- A sample that saturates is 3952 with the sign of the input (R137). -/
theorem test_saturation : gainStage 7904 32 = 3952 ∧ gainStage (-7904) 32 = -3952 ∧ gainStage (-3952) 33 = -3952 := by decide

theorem wit_CommandRecords :
    ((0x40 : Byte).getLsbD 7 = false ∧ (0x40 : Byte).getLsbD 6) ∧ (0x80 : Byte) ≠ 17 ∧
    ((0x80 : Byte).getLsbD 7 ∧ ScanCmd.poll = .poll) ∧
    (ScanCmd.ackReq ≠ .ident ∧ ScanCmd.ackReq ≠ .poll ∧ ScanCmd.ackReq ≠ .test ∧
      (0x90 : Byte) ≠ ScanCmd.ackReq.byte ||| 0x80) ∧
    (ScanCmd.test ≠ .ident ∧ (0x90 : Byte) ≠ 0xE0 ∧ (0x90 : Byte) ≠ 0xE1) := by decide

theorem wit_LoopFrame :
    (∀ b, (running.bearer 0 b).st ≠ .live) ∧ (1 : LoopId) ≠ 0 ∧
    ((withLoop (fun L => { L with aligned := true, missing := 3 })).loop 0).aligned ∧
    ((withLoop (fun L => { L with aligned := true, missing := 3 })).loop 0).missing < 4 ∧
    (running.loop 0).rxBuf = [] ∧ (running.loop 0).aligned = false ∧
    (0x47 : Byte) ∉ [0x00, 0xFF, 0x00, 0x00, 0x00, 0x00] := by decide

/-- Contexts 0 and 1 both name bearer 0, which is LIVE: the second was given it after a rebuild had freed it of the first. -/
def sharedBearer : State := (withCall connected).setCtx 1 { held with plate := 42, entry := 2 }

/-- A call sampled; none sampled, on a part with no LIVE bearer and on a LIVE bearer whose call is CLEARING; and of two calls
that name one LIVE bearer the lower-numbered. -/
theorem wit_SampledOn :
    SampledOn (withCall connected) 0 0 0 ∧ (∀ b c, ¬ SampledOn running 0 b c) ∧
    ((withCall clearing).bearer 0 0).st = .live ∧ (∀ c, ¬ SampledOn (withCall clearing) 0 0 c) ∧
    (∀ b, ¬ SampledOn (withCall connected) 0 b 1) ∧
    SampledOn sharedBearer 0 0 0 ∧ HoldsOpen sharedBearer 0 0 1 ∧ ¬ SampledOn sharedBearer 0 0 1 := by
  simp only [← State.sampled_eq_some]
  unfold HoldsOpen
  decide +kernel

/-- What `Sampled` asks of a CONNECTED call with a leg of its own, and of a QUEUED one. -/
theorem wit_Sampled :
    ((withCall connected).ctx 0).state = .connected ∧ ((withCall connected).path 0).count < 160 ∧
    ((withCall connected).ctx 0).clips ≤ 65535 ∧ ((withCall connected).ctx 0).primary = some ⟨.A, 0⟩ ∧
    (∀ d, d ≠ 0 → ((withCall connected).ctx d).primary = none ∧ ((withCall connected).ctx d).second = none) ∧
    ((withCall queued).ctx 0).state = .queued ∧ ((withCall held).ctx 0).state = .held := by decide

/-- Loop 0 in RUN with a live ring of the same two posts, its feed ON, and the END of a scan still to be sent. -/
def endOfScan (p : Purpose) (cmds : List ScanCmd) : State :=
  ((withLoop (fun L => { L with flight := some ⟨p, cmds, 0, false⟩, txLeft := [0x5C] })).modFeed 0
    (fun f => { f with state := .on })).setRing 0 ⟨[Post.fitted 17 false true, Post.fitted 42 true true], []⟩

/-- An aligned loop whose scan in flight needs one more byte. -/
def endOfReturn : State := withLoop (fun L =>
  { L with aligned := true, flight := some ⟨.poll, [.poll, .poll], 0, false⟩, rx := [0xA6, 0x90, 0x90, 0x80, 0x00, 0x80, 0x00] })

theorem wit_ScanChannel :
    ((endOfScan .poll [.poll, .poll]).loop 0).txLeft.length = 1 ∧ ((endOfScan .poll [.poll, .poll]).feed 0).state = .on ∧
    ((endOfScan .poll [.poll, .poll]).loop 0).flight = some ⟨.poll, [.poll, .poll], 0, false⟩ ∧ Purpose.poll ≠ .sweep ∧
    ((endOfScan .sweep []).loop 0).flight = some ⟨.sweep, [], 0, false⟩ ∧
    (running.loop 0).flight = none ∧ (running.feed 0).state = .settling ∧
    ((running.modFeed 0 (fun f => { f with state := .off })).feed 0).state = .off ∧
    ((endOfScan .poll []).ringReturns 0 [] [0x47, 0x5C, 0, 0, 0, 0]).length = 6 ∧
    (List.replicate 6 (0 : Byte)).length = 6 := by decide

/-- The clauses of the receive side: an aligned loop with and without the sync byte, its fourth frame without one, a loop that
finds a sync byte with a frame behind it and with fewer bytes, and one that finds none. -/
theorem wit_Framing :
    (endOfReturn.loop 0).aligned ∧ (endOfReturn.loop 0).missing < 4 ∧ (endOfReturn.loop 0).rxBuf = [] ∧
    ([0x47, 0x5C, 0, 0, 0, 0] : List Byte).headD 0 = 0x47 ∧ ([0x00, 0x5C, 0, 0, 0, 0] : List Byte).headD 0 ≠ 0x47 ∧
    ((withLoop (fun L => { L with aligned := true, missing := 3 })).loop 0).missing = 3 ∧
    4 ≤ ((withLoop (fun L => { L with aligned := true, missing := 4 })).loop 0).missing ∧
    (running.loop 0).aligned = false ∧ (0x47 : Byte) ∉ List.replicate 6 (0 : Byte) ∧
    ([0x47, 1, 2, 3, 4, 5] : List Byte) = [] ++ 0x47 :: [1, 2, 3, 4, 5] ∧ 5 ≤ ([1, 2, 3, 4, 5] : List Byte).length ∧
    ([9, 9, 9, 9, 9, 0x47] : List Byte) = [9, 9, 9, 9, 9] ++ 0x47 :: [] ∧ ([] : List Byte).length < 5 := by decide

/-- The clauses of the scan receiver: before the HEAD, at the byte that ends the scan, after it, and with no scan in flight. -/
theorem wit_ScanByteTaken :
    (endOfReturn.loop 0).flight = some ⟨.poll, [.poll, .poll], 0, false⟩ ∧ (endOfReturn.loop 0).rxDone = false ∧
    (endOfReturn.loop 0).rx ≠ [] ∧ ((endOfScan .poll []).loop 0).rx = [] ∧ ((returned .poll [] 0 []).loop 0).rxDone ∧
    ((withLoop (fun L => { L with guard := .running 3 })).loop 0).guard.isRunning ∧ (running.loop 0).flight = none := by decide

/-- HEAD, one taken POLL, END: one command for a map of two entries, and no pair. -/
def badReturn : State := returned .poll [.poll, .poll] 0 [0xA6, 0x90, 0x5C]

/-- A scan in flight on loop 0 whose timeout stands here, its expiry handed. -/
def scanning (x : Timer) : State :=
  { withLoop (fun L => { L with flight := some ⟨.poll, [.poll, .poll], 0, false⟩, scanTimer := x }) with
    handed := [.scanTimeout 0] }

theorem wit_ErroredScans :
    (((scanning (.running 0)).loop 0).flight.isSome ∧
      RunsOut (scanning (.running 0)) (.scanTimeout 0) ((scanning (.running 0)).loop 0).scanTimer) ∧
    ¬ RunsOut (scanning (.running 1)) (.scanTimeout 0) ((scanning (.running 1)).loop 0).scanTimer ∧
    (running.loop 0).flight = none ∧
    ((badReturn.loop 0).flight = some ⟨.poll, [.poll, .poll], 0, false⟩ ∧ (badReturn.loop 0).rxDone ∧
      (readScan 2 (badReturn.loop 0).rx).good false 2 = false) := by
  refine ⟨⟨?_, runsOut_at_end _ _ _ ?_⟩, not_runsOut_before_end _ _ _ 0 ?_ ?_, ?_, ?_⟩ <;> decide

/-- The three cases of an errored scan (R20): below the limit, at it, and in FAILED. -/
theorem wit_ErrorCounted :
    (badReturn.loop 0).state ≠ .failed ∧ (badReturn.loop 0).errors + 1 < badReturn.param 12 ∧
    (badReturn.modLoop 0 (fun L => { L with errors := 4 })).param 12 ≤
      ((badReturn.modLoop 0 (fun L => { L with errors := 4 })).loop 0).errors + 1 ∧
    ((badReturn.modLoop 0 (fun L => { L with state := .failed })).loop 0).state = .failed := by decide

/-- The good return of a poll of the two posts: the far one first, then the near one. -/
def goodReturn (p : Purpose) (epoch : Byte) : State :=
  returned p [.poll, .poll] epoch [0xA7, 0x90, 0x90, 0x82, 0x00, 0x80, 0x00, 0x5C]

/-- The good return of a STALE round: two posts take IDENT, ten commands come back untaken. -/
def staleReturn : State :=
  returned .staleRound (List.replicate 12 .ident) 0
    ([0xA6, 0xA0, 0xA0] ++ List.replicate 10 0x20 ++ [0x80, 42, 0x80, 17, 0x5C])

theorem wit_GoodScanReturn :
    ((goodReturn .poll 0).loop 0).flight = some ⟨.poll, [.poll, .poll], 0, false⟩ ∧
    ((goodReturn .poll 0).loop 0).rxDone ∧
    (readScan 2 ((goodReturn .poll 0).loop 0).rx).good false 2 ∧
    ((goodReturn .poll 0).loop 0).map.length ≤ 2 ∧
    min (readScan 2 ((goodReturn .poll 0).loop 0).rx).pairs.length 12 = ((goodReturn .poll 0).loop 0).map.length ∧
    (3 : Byte) ≠ ((goodReturn .poll 3).loop 0).epoch ∧
    (readScan 12 (staleReturn.loop 0).rx).good false 12 ∧ (staleReturn.loop 0).rxDone ∧
    (readScan 0 ((returned .sweep [] 0 [0xA5, 0x5C]).loop 0).rx).good true 0 ∧
    (readScan 2 ((returned .poll [.poll, .poll] 0 [0xA6, 0x90, 0x10, 0x80, 0x00, 0x5C]).loop 0).rx).good false 2 ∧
    min (readScan 2 [0xA6, 0x90, 0x10, 0x80, 0x00, 0x5C]).pairs.length 12 ≠ 2 := by decide

/-- The good return of a poll of a map of twelve from a ring of thirteen: it fits the map and latches OVERLONG. -/
def overlongReturn : State :=
  (returned .poll (List.replicate 12 .poll) 0
    (0xA6 :: List.replicate 12 0x90 ++ (List.replicate 13 [0x80, 0x00]).flatten ++ [0x5C])).modLoop 0 (fun L =>
      { L with map := List.replicate 12 ⟨42, .unlisted, quiet⟩ })

theorem wit_Overlong :
    (readScan 12 (overlongReturn.loop 0).rx).good false 12 ∧ (overlongReturn.loop 0).epoch = 0 ∧
    12 < (readScan 12 (overlongReturn.loop 0).rx).pairs.length ∧ (overlongReturn.loop 0).map.length = 12 ∧
    .faultLatch (.loop 0 .overlong) ∈ (nextOf (exec (.scanReturn 0) overlongReturn)).handed := by decide +kernel

/-- What the poll of the two posts hands of the caller at entry 1, whose record held this last status and this CALLER noted,
with a scan that shows its CALLER on or not: a change from the last status is reported (R18), and a drop since STALE was last
clear (R78). -/
theorem test_caller_changes :
    let hands (last : Option Byte) (noted on : Bool) : Bool :=
      (nextOf (exec (.scanReturn 0) ((returned .poll [.poll, .poll] 0
        [0xA6, 0x90, 0x90, 0x80, 0x00, if on then 0x88 else 0x80, 0x00, 0x5C]).modCmd 0 1 (fun r =>
          { r with lastStatus := last, callerNoted := noted })))).handed.contains (.callerReport 0 1 on)
    hands (some 0x88) false false ∧ hands (some 0x80) true false ∧ hands (some 0x80) false true ∧
    hands none false true ∧ hands (some 0x88) false true = false ∧ hands (some 0x80) false false = false := by decide

/-- Loop 0 with its guard and its scheduler's timers here, their expiries handed, and four frames without sync. -/
def timed (x : Timer) : State :=
  { withLoop (fun L =>
      { L with guard := x, pollTimer := x, sweepTimer := x, reconfirmTimer := x, aligned := true, missing := 4 }) with
    handed := [.timeoutGuardEnd 0, .pollTimerExpiry 0, .sweepTimerExpiry 0, .reconfirmTimerExpiry 0] }

theorem wit_Timers :
    (RunsOut (timed (.running 0)) (.timeoutGuardEnd 0) ((timed (.running 0)).loop 0).guard ∧
      RunsOut (timed (.running 0)) (.pollTimerExpiry 0) ((timed (.running 0)).loop 0).pollTimer ∧
      RunsOut (timed (.running 0)) (.sweepTimerExpiry 0) ((timed (.running 0)).loop 0).sweepTimer ∧
      RunsOut (timed (.running 0)) (.reconfirmTimerExpiry 0) ((timed (.running 0)).loop 0).reconfirmTimer) ∧
    ¬ RunsOut (timed (.running 1)) (.pollTimerExpiry 0) ((timed (.running 1)).loop 0).pollTimer ∧
    ¬ RunsOut (timed .stopped) (.timeoutGuardEnd 0) .stopped ∧
    (((timed .stopped).loop 0).aligned ∧ 4 ≤ ((timed .stopped).loop 0).missing ∧ ((timed .stopped).loop 0).roundOpen = false ∧
      ((timed .stopped).loop 0).map ≠ [] ∧ (State.reset.loop 0).map = [] ∧ (State.reset.loop 0).roundOpen = false ∧
      ((withLoop (fun L => { L with roundOpen := true })).loop 0).roundOpen) := by
  refine ⟨⟨runsOut_at_end _ _ _ ?_, runsOut_at_end _ _ _ ?_, runsOut_at_end _ _ _ ?_, runsOut_at_end _ _ _ ?_⟩,
    not_runsOut_before_end _ _ _ 0 ?_ ?_, not_runsOut_stopped _ _, ?_⟩ <;> decide

theorem wit_ResultInstall :
    ((withLoop (fun L => { L with reconPending := true })).loop 0).reconPending ∧
    (running.loop 0).reconPending = false ∧ (running.loop 0).handOver ≠ 1 ∧
    ((running.loop 0).map.map (·.plate)).count 17 = 1 ∧ (running.bearer 0 0).st = .free ∧
    ((withCall queued).bearer 0 0).st ≠ .free ∧ 1 ≤ ((withCall queued).bearer 0 0).entry ∧
    ((withCall queued).loop 0).map[((withCall queued).bearer 0 0).entry - 1]? = some ⟨17, .listed 0 true, quiet⟩ ∧
    ([⟨42, none⟩, ⟨17, some 0⟩] : List ResultEntry).map (·.plate) = [42, 17] := by decide

/-- The three latches of an installation (R50): a new shape, a new unlisted plate, a new absent slot. -/
theorem test_install_latches :
    let s := withLoop (fun L => { L with reconPending := true })
    let t := nextOf (exec (.resultInstall 0 0 [⟨17, some 0⟩, ⟨42, none⟩, ⟨99, none⟩] [5]) s)
    Instr.faultLatch (.loop 0 .chainChanged) ∈ t.handed ∧ Instr.faultLatch (.loop 0 .unlistedSeen) ∈ t.handed ∧
    Instr.faultLatch (.loop 0 .absentSeen) ∈ t.handed ∧ Instr.noticeRaise (.naming 0) ∈ t.handed ∧
    Instr.faultLatch (.loop 0 .unlistedSeen) ∉
      (nextOf (exec (.resultInstall 0 0 [⟨17, some 0⟩, ⟨42, none⟩] []) s)).handed := by decide

theorem wit_Rebuild :
    ((withCall queued).ctx 0).state ≠ .free ∧ ((withCall queued).ctx 0).loop = 0 ∧
    [some ((2 : Nat), Tie.unlisted)][((withCall queued).ctx 0).entry - 1]? = some (some (2, .unlisted)) ∧
    ([none] : List (Option (Nat × Tie)))[((withCall queued).ctx 0).entry - 1]? ≠ some (some (2, .unlisted)) ∧
    ((withCall connected).ctx 0).state ≠ .clearing ∧ ((withCall connected).ctx 0).primary = some ⟨.A, 0⟩ ∧
    (withCall connected).callTrunk 0 = some .A ∧ ((withCall connected).ctx 0).ref = some 1 ∧
    ((withCall queued).ctx 1).state = .free := by decide

theorem wit_DirectoryReports :
    (running.loop 0).map[0]? = some ⟨17, .listed 0 true, quiet⟩ ∧ (Tie.listed 0 true).slot? = some 0 ∧
    (∀ e' ∈ (running.loop 0).map, e'.tie = .unlisted → e'.plate ≠ 17) := by decide

theorem wit_LoopFollows :
    ((nextOf (exec (.feedStateReport 0 .tripped true) running)).loop 0).state ≠ (running.loop 0).state ∧
    ((nextOf (exec (.feedStateReport 0 .on true) State.reset)).loop 0).state = .start := by decide

/-- Feed 0 with its timers here, their events handed. -/
def feedTimed (settle : Timer) (trip opn : Nat) (st : FeedState) : State :=
  { running.modFeed 0 (fun f => { f with state := st, settle := settle, trip := some trip, opn := .running opn }) with
    handed := [.settleTimerExpiry 0, .feedTrip 0, .openDetected 0] }

theorem wit_Feeds :
    (((feedTimed (.running 0) 80 0 .settling).feed 0).state = .settling ∧
      RunsOut (feedTimed (.running 0) 80 0 .settling) (.settleTimerExpiry 0) ((feedTimed (.running 0) 80 0 .settling).feed 0).settle) ∧
    ¬ RunsOut (feedTimed (.running 1) 79 0 .settling) (.settleTimerExpiry 0) ((feedTimed (.running 1) 79 0 .settling).feed 0).settle ∧
    (((feedTimed .stopped 80 16000 .on).feed 0).state = .on ∧ ((feedTimed .stopped 80 16000 .on).feed 0).trip = some 80 ∧
      ((feedTimed .stopped 80 16000 .on).feed 0).opn = .running 16000 ∧
      Instr.feedTrip 0 ∈ (feedTimed .stopped 80 16000 .on).handed ∧ Instr.openDetected 0 ∈ (feedTimed .stopped 80 16000 .on).handed) ∧
    (((feedTimed .stopped 79 15999 .on).feed 0).trip = some 79 ∧ 79 < 80 ∧ ((feedTimed .stopped 79 15999 .on).feed 0).opn = .running 15999 ∧
      15999 < 16000 ∧ Instr.openDetected 0 ∈ (feedTimed .stopped 79 15999 .on).handed) ∧
    (running.feed 0).trip = none ∧ (running.feed 0).state ≠ .on := by
  refine ⟨⟨?_, runsOut_at_end _ _ _ ?_⟩, not_runsOut_before_end _ _ _ 0 ?_ ?_, ?_, ?_, ?_, ?_⟩ <;> decide

/-- The supply LOW at 45.0 V with its restore timer here, the expiry handed. -/
def lowSupply (x : Timer) : State :=
  { (nextOf (exec (.supplyLoss 419) running)).setSupply ⟨.low, x, 450⟩ with handed := [.supplyRestore] }

theorem wit_Supply :
    ((lowSupply (.running 0)).supply.state = .low ∧
      RunsOut (lowSupply (.running 0)) .supplyRestore (lowSupply (.running 0)).supply.restore) ∧
    ¬ RunsOut (lowSupply (.running 8000)) .supplyRestore (lowSupply (.running 8000)).supply.restore ∧
    (running.supply.state = .good ∧ Instr.supplyLoss 419 = .supplyLoss 419 ∧ 419 < 420 ∧ 420 ≤ 420 ∧
      ((lowSupply .stopped).feed 0).state = .supplyOff ∧ ((lowSupply .stopped).feed 0).desired ∧
      (lowSupply .stopped).trippedLatched 0 = false ∧ ((running.setLoopFault 0 ⟨1, 1⟩).trippedLatched 0) ∧
      (running.feed 0).state ≠ .supplyOff) := by
  refine ⟨⟨?_, runsOut_at_end _ _ _ ?_⟩, not_runsOut_before_end _ _ _ 7999 ?_ ?_, ?_⟩ <;> decide

/-- An installation has exchanged the two posts of loop 0, and its rebuild report is not taken yet. -/
def exchanged : State :=
  nextOf (exec (.resultInstall 0 0 [⟨42, none⟩, ⟨17, some 0⟩] []) (withLoop (fun L => { L with reconPending := true })))

theorem wit_RequestRegistersACall :
    running.entryAt 0 (running.nowAt 0 1) = some ⟨17, .listed 0 true, quiet⟩ ∧
    (∀ d, (running.ctx d).state ≠ .free → (running.ctx d).loop = 0 → (running.ctx d).entry ≠ 1) ∧
    (running.permitsOf (.listed 0 true)).allows .emergency ∧ (running.ctx 0).state = .free ∧
    (∀ d : CtxId, d < 0 → (running.ctx d).state ≠ .free) ∧ running.entryCount < 65535 ∧
    exchanged.nowAt 0 1 = 2 ∧ (exchanged.entryAt 0 (exchanged.nowAt 0 1)).map (·.plate) = some 17 := by decide

/-- Every context taken by a call of loop 1. -/
def full : State := { running with contexts := Vector.replicate 32 { queued with loop := 1 } }

theorem wit_RequestIsAcknowledged :
    running.entryAt 0 (running.nowAt 0 3) = none ∧ (withCall queued).entryAt 0 ((withCall queued).nowAt 0 1) = some ⟨17, .listed 0 true, quiet⟩ ∧
    (∃ c, ((withCall queued).ctx c).state ≠ .free ∧ ((withCall queued).ctx c).loop = 0 ∧
      ((withCall queued).ctx c).entry = 1) ∧
    ((running.setRecord 0 { rec17 with permits := ⟨true, true, false⟩ }).permitsOf (.listed 0 true)).allows .service =
      false ∧
    (∀ c, (full.ctx c).state ≠ .free) ∧ full.entryAt 0 (full.nowAt 0 2) = some ⟨42, .unlisted, quiet⟩ ∧
    (full.permitsOf .unlisted).allows .service := by decide

theorem wit_CallsAreCleared :
    running.postCtx 0 1 = none ∧ running.entryAt 0 (running.nowAt 0 1) = some ⟨17, .listed 0 true, quiet⟩ ∧
    (withCall clearing).postCtx 0 1 = some 0 ∧ ((withCall clearing).ctx 0).state = .clearing ∧
    (withCall queued).postCtx 0 1 = some 0 ∧ ((withCall queued).ctx 0).state = .queued ∧
    (withCall offered).postCtx 0 1 = some 0 ∧ ((withCall offered).ctx 0).state = .offered ∧
    ((withCall offered).ctx 0).ref = some 1 ∧ (withCall offered).callTrunk 0 = some .A ∧
    (withCall held).postCtx 0 1 = some 0 ∧ ((withCall held).ctx 0).state = .held ∧
    ((withCall held).ctx 0).ref = some 1 ∧ (withCall held).callTrunk 0 = some .A ∧
    (withCall connected).postCtx 0 1 = some 0 ∧ ((withCall connected).ctx 0).state = .connected := by decide

theorem wit_CallsAreCleared_release :
    (withCall connected).current .A ⟨0, 1⟩ 0 ∧ ((withCall connected).ctx 0).state = .connected :=
  ⟨⟨rfl, by decide, by decide⟩, by decide⟩

/-- A call cleared at once, and one whose LIVE bearer is on its way back (R82). -/
theorem wit_Cleared :
    ((withCall { connected with bearer := none }).ctx 0).bearer = none ∧
    ¬ (((withCall connected).ctx 0).bearer = none ∨ (withCall connected).keyEntry 0 = none ∨
      ((withCall connected).loop ((withCall connected).ctx 0).loop).state.carries = false) ∧
    ((withCall connected).ctx 0).primary = some ⟨.A, 0⟩ := by decide

theorem wit_BearerLive :
    (withCall queued).holder 0 0 (fun x => x.state == .queued) = some 0 ∧ ((withCall queued).bearer 0 0).st = .live ∧
    running.holder 0 0 (fun x => x.state == .queued) = none := by decide

/-- A QUEUED call without a bearer on loop 0, bearer 0 FREE. -/
def bearerless : State := (running.setCtx 0 { queued with bearer := none }).setWaiting [0]

theorem wit_BearersAreHandedOn :
    (withCall clearing).holder 0 0 (fun x => x.state == .clearing) = some 0 ∧
    bearerless.holder 0 0 (fun x => x.state == .clearing) = none ∧
    bearerless.waiting.find? (fun c =>
      (bearerless.ctx c).loop == 0 && (bearerless.ctx c).bearer.isNone && (bearerless.keyEntry c).isSome) = some 0 ∧
    (bearerless.bearer 0 0).st = .free ∧ (bearerless.loop 0).state.carries ∧
    running.waiting.find? (fun c =>
      (running.ctx c).loop == 0 && (running.ctx c).bearer.isNone && (running.keyEntry c).isSome) = none := by decide

/-- The report that frees the CLEARING holder of bearer 0 in context 0, while context 1 waits for a bearer: after it
context 1 has that bearer. -/
theorem test_bearerFree_frees_and_hands_on :
    let s := (((withCall clearing).setBearer 0 0 ⟨.free, 0⟩).setCtx 1 { queued with entry := 2, plate := 42, bearer := none }).setWaiting
      [1]
    let t := nextOf (exec (.bearerFreeReport 0 0) s)
    (t.ctx 0).state = .free ∧ (t.ctx 1).bearer = some 0 ∧ t.bearer 0 0 = ⟨.assigning, 2⟩ := by decide

/-- A call whose LIVE report waits in the queue. -/
def reportWaits : State := { withCall queued with pending := [.bearerLiveReport 0 0] }

/-- A request that waits in the queue. -/
def requestWaits : State := { running with pending := [.requestReport 0 1 .emergency] }

theorem wit_OneCallPerPost : reportWaits.postsOk ∧ step reportWaits = .next (nextOf (step reportWaits)) := by
  refine ⟨⟨by decide, by decide, ?_⟩, rfl⟩
  intro l epoch passes freed h
  have e : reportWaits.pending ++ reportWaits.handed = [.bearerLiveReport 0 0, .noticeStart] := by decide
  rw [e] at h
  simp at h

theorem wit_OneCallPerBearer :
    ((reportWaits.ctx 0).state ≠ .free ∧ ((nextOf (step reportWaits)).ctx 0).state ≠ .free ∧
      (reportWaits.ctx 0).bearer = some 0) ∧
    step requestWaits = .next (nextOf (step requestWaits)) ∧ (requestWaits.ctx 0).state = .free ∧
    ((nextOf (step requestWaits)).ctx 0).state ≠ .free ∧ ((nextOf (step requestWaits)).ctx 0).bearer = some 0 := by
  refine ⟨?_, rfl, ?_, ?_, ?_⟩ <;> decide

theorem wit_NoCallOnALostLoop :
    (∀ i rest, reportWaits.pending = i :: rest →
      (∀ l pos cls, i ≠ .requestReport l pos cls) ∧ ∀ l st, i ≠ .loopStateReport l st) ∧
    reportWaits.loopsOk := by
  have carries : ∀ c, (reportWaits.ctx c).state ≠ .free → (reportWaits.loop (reportWaits.ctx c).loop).state.carries = true := by
    decide
  refine ⟨?_, fun c hc hl => ?_, fun front back l pos cls h => ?_, by decide, by decide⟩
  · intro i rest h
    injection h with h1 _
    subst h1
    exact ⟨by simp, by simp⟩
  · rw [carries c hc] at hl
    cases hl
  · have hm : Instr.requestReport l pos cls ∈ reportWaits.handed := by rw [h]; simp
    have e : reportWaits.handed = [.noticeStart] := by decide
    rw [e] at hm
    simp at hm

theorem wit_LoopStateReport :
    ((withCall connected).ctx 0).state ≠ .free ∧ ((withCall connected).ctx 0).loop = 0 ∧
    ((withCall clearing).ctx 0).state = .clearing ∧ ((withCall connected).ctx 1).state = .free ∧
    (LoopState.unpowered = .unpowered ∧ Cause.loopPower = .loopPower) ∧ LoopState.run = .run := by decide

theorem wit_Dispatch :
    ((withCall queued).ctx 0).state = .queued ∧ (withCall queued).bearerLive 0 ∧ ((withCall queued).ctx 0).liveSeen ∧
    ((withCall queued).ctx 0).retryTimer.isRunning = false ∧
    ((withCall queued).routeEntry 0 0)[1 - 1]? = some ⟨.A, 0, 20⟩ ∧ ((withCall queued).trunk .A).seen = .up ∧
    ((withCall queued).chan .A 1).st = .free ∧ (∀ n : ChanId, n < 1 → ((withCall queued).chan .A n).st ≠ .free) ∧
    (withCall queued).chanCount .A .reserved < (withCall queued).offerWindow .A ∧
    ((withCall { queued with plan := some 0, tried := [1, 2] }).routeEntry 0 0).length = 2 ∧
    ((withCall queued).trunk .A).sigQueue.length < 64 ∧ (withCall offered).dispatchOne 0 = withCall offered := by
  refine ⟨?_, ?_, ?_, ?_, ?_, ?_, ?_, ?_, ?_, ?_, ?_, rfl⟩ <;> decide

/-- A QUEUED call whose first place is on a trunk UP without a FREE channel; one at the offer window; one with no trunk UP; and
one whose LIVE report has not been taken. -/
theorem wit_DispatchWaits :
    let blocked := (withCall queued).modTrunk .A (fun T => { T with channels := Vector.replicate 15 ⟨.blocked, false, 0⟩ })
    let window := (withCall queued).modTrunk .A (fun T => { T with channels := Vector.replicate 15 ⟨.reserved, false, 0⟩ })
    let down := ((withCall queued).modTrunk .A (fun T => { T with seen := .hunt })).modTrunk .B (fun T => { T with seen := .off })
    (blocked.routeEntry 0 0)[1 - 1]? = some ⟨.A, 0, 20⟩ ∧ (blocked.trunk .A).seen = .up ∧
    (∀ n, (blocked.chan .A n).st ≠ .free) ∧ window.offerWindow .A ≤ window.chanCount .A .reserved ∧
    (down.routeEntry 0 0).map (fun target => (down.trunk target.trunk).seen) = [.hunt, .off] ∧
    blocked.bearerLive 0 ∧ (blocked.ctx 0).liveSeen ∧
    ((withCall { queued with liveSeen := false }).ctx 0).liveSeen = false := by decide

/-- An OFFERED call whose offer timer stands here, the expiry handed. -/
def offeredAt (x : Timer) : State := { withCall { offered with offerTimer := x } with handed := [.offerTimeout 0] }

/-- A QUEUED call whose retry timer stands here, the expiry handed. -/
def retryingAt (x : Timer) : State := { withCall { queued with retryTimer := x } with handed := [.retryTimerExpiry 0] }

/-- A call HELD for so many seconds, HOLD_LONG handed. -/
def heldFor (n : Nat) : State := { withCall { held with holdCount := n } with handed := [.holdLong 0] }

theorem wit_ContextTimers :
    (((offeredAt (.running 0)).ctx 0).state = .offered ∧ RunsOut (offeredAt (.running 0)) (.offerTimeout 0) ((offeredAt (.running 0)).ctx 0).offerTimer ∧
      ((offeredAt (.running 0)).ctx 0).ref = some 1 ∧ ((offeredAt (.running 0)).ctx 0).target = some ⟨1, .A, 0, 20⟩ ∧
      ((offeredAt (.running 0)).ctx 0).primary = some ⟨.A, 0⟩) ∧
    RunsOut (retryingAt (.running 0)) (.retryTimerExpiry 0) ((retryingAt (.running 0)).ctx 0).retryTimer ∧
    ¬ RunsOut (offeredAt (.running 9)) (.offerTimeout 0) ((offeredAt (.running 9)).ctx 0).offerTimer ∧
    ¬ RunsOut (retryingAt (.running 9)) (.retryTimerExpiry 0) ((retryingAt (.running 9)).ctx 0).retryTimer ∧
    (((heldFor 120).ctx 0).state = .held ∧ ((heldFor 120).ctx 0).holdRunning ∧ ((heldFor 120).ctx 0).holdNotified = false ∧
      Instr.holdLong 0 ∈ (heldFor 120).handed ∧ (heldFor 120).param 6 ≤ ((heldFor 120).ctx 0).holdCount ∧
      ((heldFor 119).ctx 0).holdCount < (heldFor 119).param 6) := by
  refine ⟨⟨?_, runsOut_at_end _ _ _ ?_, ?_, ?_, ?_⟩, runsOut_at_end _ _ _ ?_, not_runsOut_before_end _ _ _ 8 ?_ ?_,
    not_runsOut_before_end _ _ _ 8 ?_ ?_, ?_⟩ <;> decide

theorem wit_current (x : Ctx) (hr : x.ref = some 1) (ht : x.target = some ⟨1, .A, 0, 20⟩) :
    (withCall x).current .A ⟨0, 1⟩ 0 := by
  have e : (withCall x).ctx 0 = x := by cases h : x.state <;> simp [withCall, h, State.ctx, State.setWaiting,
    State.setChan, State.modTrunk, State.setTrunk, State.trunk, State.setCtx]
  exact ⟨rfl, by rw [e, hr], by simp [State.callTrunk, e, ht]⟩

theorem wit_DeskRequests :
    IsDesk (.release .A ⟨0, 2⟩) .A ⟨0, 2⟩ 0x46 ∧ (∀ c, ¬ (withCall connected).current .A ⟨0, 2⟩ c) ∧
    (withCall connected).current .A ⟨0, 1⟩ 0 ∧ (withCall held).current .A ⟨0, 1⟩ 0 ∧
    (withCall clearing).current .A ⟨0, 1⟩ 0 ∧ (withCall offered).current .A ⟨0, 1⟩ 0 ∧
    IsDesk (.answer .A ⟨0, 1⟩ 9) .A ⟨0, 1⟩ 0x40 ∧ IsDesk (.decline .A ⟨0, 1⟩) .A ⟨0, 1⟩ 0x41 ∧
    IsDesk (.hold .A ⟨0, 1⟩) .A ⟨0, 1⟩ 0x42 ∧ IsDesk (.retrieve .A ⟨0, 1⟩) .A ⟨0, 1⟩ 0x43 ∧
    IsDesk (.join .A ⟨0, 1⟩) .A ⟨0, 1⟩ 0x44 ∧ IsDesk (.leave .A ⟨0, 1⟩) .A ⟨0, 1⟩ 0x45 := by
  refine ⟨by simp [IsDesk], ?_, wit_current _ rfl rfl, wit_current _ rfl rfl, wit_current _ rfl rfl,
    wit_current _ rfl rfl, ?_⟩
  · unfold State.current; decide
  · simp [IsDesk]

theorem wit_AnswerAndDecline :
    (withCall offered).current .A ⟨0, 1⟩ 0 ∧ ((withCall offered).ctx 0).state = .offered ∧
    ((withCall offered).ctx 0).primary = some ⟨.A, 0⟩ ∧ ((withCall offered).ctx 0).target = some ⟨1, .A, 0, 20⟩ :=
  ⟨wit_current _ rfl rfl, by decide, by decide, by decide⟩

theorem wit_HoldAndRetrieve :
    (withCall connected).current .A ⟨0, 1⟩ 0 ∧ ((withCall connected).ctx 0).state = .connected ∧
    (withCall held).current .A ⟨0, 1⟩ 0 ∧ ((withCall held).ctx 0).state = .held :=
  ⟨wit_current _ rfl rfl, by decide, wit_current _ rfl rfl, by decide⟩

theorem wit_JoinAndLeave :
    (withCall connected).current .A ⟨0, 1⟩ 0 ∧ ((withCall connected).ctx 0).second = none ∧
    ((withCall connected).ctx 0).primary = some ⟨.A, 0⟩ ∧ ((withCall connected).chan .A 1).st = .free ∧
    (∀ m : ChanId, m < 1 → ((withCall connected).chan .A m).st ≠ .free) ∧
    (withCall { connected with second := some ⟨.A, 1⟩ }).current .A ⟨0, 1⟩ 0 ∧
    ((withCall { connected with second := some ⟨.A, 1⟩ }).ctx 0).second = some ⟨.A, 1⟩ ∧
    (∀ n, (((withCall connected).modTrunk .A
      (fun T => { T with channels := Vector.replicate 15 ⟨.blocked, false, 0⟩ })).chan .A n).st ≠ .free) := by
  refine ⟨wit_current _ rfl rfl, ?_, ?_, ?_, ?_, wit_current _ rfl rfl, ?_, ?_⟩ <;> decide

theorem wit_TheOrderOfTheWaitingList :
    (withCall queued).waitingOk ∧ (withCall queued).waitingSorted ∧
    step (withCall queued) = .next (nextOf (step (withCall queued))) := by
  refine ⟨wit_EveryStepKeepsTheWaitingList.1, ?_, rfl⟩
  unfold State.waitingSorted
  decide

theorem wit_TheChannels :
    (withCall offered).contextsOk ∧ (withCall offered).channelsOk ∧
    step (withCall offered) = .next (nextOf (step (withCall offered))) := by
  refine ⟨wit_EveryStepKeepsTheContexts.1, ?_, rfl⟩
  have other : ∀ c, c ≠ 0 → ((withCall offered).ctx c).primary = none ∧ ((withCall offered).ctx c).second = none := by decide
  have first : ((withCall offered).ctx 0).primary = some ⟨.A, 0⟩ ∧ ((withCall offered).ctx 0).second = none := by decide
  refine ⟨fun c g h => ?_, fun c g h => ?_, fun c d g hcd hc hd => ?_, fun k n h => ⟨0, .inl ?_⟩⟩
  · by_cases e : c = 0
    · subst e
      rw [first.1] at h
      cases h
      decide
    · rw [(other c e).1] at h
      cases h
  · by_cases e : c = 0
    · subst e
      rw [first.2] at h
      cases h
    · rw [(other c e).2] at h
      cases h
  · by_cases e : c = 0
    · have e' : d ≠ 0 := fun x => hcd (e.trans x.symm)
      simp [Ctx.hasLeg, other d e'] at hd
    · simp [Ctx.hasLeg, other c e] at hc
  · have : ∀ n, ((withCall offered).chan .A n).st = .reserved ∨ ((withCall offered).chan .A n).st = .inUse → n = 0 := by decide
    have hb : ∀ n, ((withCall offered).chan .B n).st = .free := by decide
    cases k with
    | A => rw [this n h]; exact first.1
    | B => simp [hb n] at h

theorem wit_TheTrunksOfTheCalls :
    (∀ t st rest, (withCall offered).pending ≠ .trunkStateReport t st :: rest) ∧ (withCall offered).contextsOk ∧
    (withCall offered).servedOk ∧ step (withCall offered) = .next (nextOf (step (withCall offered))) := by
  have pending : (withCall offered).pending = [] := by decide
  have up : ∀ t : Trunk, ((withCall offered).trunk t).state = .up := by intro t; cases t <;> decide
  exact ⟨fun t st rest h => by simp [pending] at h, wit_EveryStepKeepsTheContexts.1,
    ⟨fun c g _ => .inl (up g.trunk), fun t _ => .inl (up t)⟩, rfl⟩

/-- An OFFERED call on its LIVE bearer. -/
theorem wit_TheBearersOfTheCalls :
    (∀ l epoch passes freed rest, (withCall offered).pending ≠ .rebuildReport l epoch passes freed :: rest) ∧
    (withCall offered).contextsOk ∧ (withCall offered).postsOk ∧ (withCall offered).bearersOk ∧
    step (withCall offered) = .next (nextOf (step (withCall offered))) := by
  have pending : (withCall offered).pending = [] := by decide
  have handed : (withCall offered).pending ++ (withCall offered).handed = [.noticeStart] := by decide
  refine ⟨fun l epoch passes freed rest h => by simp [pending] at h, wit_EveryStepKeepsTheContexts.1, ⟨by decide, by decide, ?_⟩, ?_, rfl⟩
  · intro l epoch passes freed h
    rw [handed] at h
    simp at h
  · intro c hf _
    have first : c = 0 := by revert c; decide
    subst first
    refine ⟨fun _ => by decide, fun b hb => .inr ?_⟩
    have b0 : b = 0 := by revert b; decide
    subst b0
    exact ⟨by decide, .inl (by decide)⟩

/-- A call whose post an installation has lost: its release is due, and its bearer is gone (R25, R84). -/
theorem wit_ReleaseDue :
    let s := (withCall connected).modLoop 0 (fun L => { L with reconPending := true })
    let t := nextOf (exec (.resultInstall 0 0 [⟨42, none⟩] []) s)
    t.keyPos 0 = 0 ∧ (t.bearer 0 0).st = .free ∧ (t.ctx 0).state = .connected := by decide

theorem wit_TheMarks : running.marksOk ∧ step running = .next (nextOf (step running)) := by
  refine ⟨?_, rfl⟩
  unfold State.marksOk
  decide

theorem wit_DiscardsQueuesAndLatches :
    (running.trunk .A).sigQueue.length < 64 ∧
    64 ≤ ((withTrunk (fun T => { T with sigQueue := List.replicate 64 (.cleared 0 0 .caller) })).trunk .A).sigQueue.length ∧
    (running.faultOf (.sect .restarted)).flags.getLsbD (Latch.sect .restarted).bit ∧
    (running.faultOf (.loop 0 .overlong)).flags.getLsbD (Latch.loop 0 .overlong).bit = false := by decide

/-- Trunk A aligned, expecting a frame of this parity, with so many bad words counted. -/
def alignedTrunk (even : Bool) (bad : Nat) : State :=
  withTrunk (fun T => { T with aligned := true, evenNext := even, badWords := bad })

/-- Trunk A aligned, with these frames in the elastic store. -/
def stored (frames : List (List Byte)) : State :=
  withTrunk (fun T => { T with aligned := true, reading := true, store := frames })

theorem wit_TrunkFrameSend :
    ((running.trunk .A).badWords < 4 ∧ (running.trunk .A).clearRun < 8) ∧
    (running.service .A).tx = .idle ∧ (running.service .A).reply = none ∧
    ((withService (fun v => { v with tx := .reply [0x5A] })).service .A).tx = .reply (0x5A :: []) ∧
    ((withService (fun v => { v with tx := .notice [0x5A, 1] })).service .A).tx = .notice (0x5A :: [1]) ∧
    (running.trunk .A).sigQueue = [] ∧ (running.trunk .A).state ≠ .off ∧
    ((withTrunk (fun T => { T with sigQueue := [.cleared 0 0 .caller] })).trunk .A).sigQueue = .cleared 0 0 .caller :: [] ∧
    (SigMsg.cleared 0 0 .caller).bytes[0]? = some 0x5A ∧ (running.trunk .A).aligned = false ∧
    ((withService (fun v => { v with tx := .notice [0x5A], reply := some ⟨0x10, .ok, 0, 0, []⟩ })).service .A).reply ≠ none ∧
    (⟨0x10, .ok, 0, 0, []⟩ : Reply).bytes = 0x5A :: [0x07, 0x20, 0x10, 0, 0, 0, 0, 0x80, 0x49] ∧
    ((withService (fun v => { v with tx := .reply [] })).service .A).tx = .reply [] ∧ running.home = .A ∧
    (((stored [List.replicate 17 1]).trunk .A).aligned ∧ ((stored [List.replicate 17 1]).trunk .A).reading ∧
      ((stored [List.replicate 17 1]).trunk .A).store = List.replicate 17 1 :: []) ∧
    ((stored []).trunk .A).store = [] ∧
    (((withTrunk (fun T => { T with aligned := true, badWords := 4 })).trunk .A).aligned ∧
      4 ≤ ((withTrunk (fun T => { T with aligned := true, badWords := 4 })).trunk .A).badWords) ∧
    8 ≤ ((withTrunk (fun T => { T with clearRun := 8 })).trunk .A).clearRun := by decide

/-- A frame read is delivered: its service byte, its signalling byte, and the codes of the IN-USE channels (R129); with none
unread the last is read again and a slip counted (R127); a loss of alignment that is due comes first, with no slip. -/
theorem test_trunkFrameSend_reads :
    let s := (stored [[0xFF, 0x5A] ++ List.replicate 15 7]).setChan .A 3 ⟨.inUse, false, 0⟩
    ((nextOf (exec (.trunkFrameSend .A) s)).trunk .A).voice[3] = 7 ∧
    ((nextOf (exec (.trunkFrameSend .A) s)).trunk .A).voice[4] = 0 ∧
    ((nextOf (exec (.trunkFrameSend .A) s)).trunk .A).sigRx = .length ∧
    ((nextOf (exec (.trunkFrameSend .A) (stored []))).trunk .A).slips = 1 ∧
    ((nextOf (exec (.trunkFrameSend .A) (alignedTrunk true 4))).trunk .A).slips = 0 ∧
    ((nextOf (exec (.trunkFrameSend .A) (alignedTrunk true 4))).trunk .A).aligned = false := by decide

theorem wit_AlignedTrunk :
    (List.replicate 17 (0 : Byte)).length = 17 ∧ ((alignedTrunk true 3).trunk .A).aligned ∧
    ((alignedTrunk true 3).trunk .A).rxBuf = [] ∧ ((alignedTrunk true 3).trunk .A).badWords < 4 ∧
    ((alignedTrunk true 3).trunk .A).clearRun < 8 ∧ ((alignedTrunk true 3).trunk .A).evenNext ∧
    ((alignedTrunk false 0).trunk .A).evenNext = false ∧ ((alignedTrunk false 0).trunk .A).alarm = false ∧
    ((alignedTrunk false 0).trunk .A).state = .up ∧ ((alignedTrunk false 0).trunk .A).failoverDue = false ∧
    ((withTrunk (fun T => { T with aligned := true, evenNext := false, clearRun := 7 })).trunk .A).clearRun = 7 ∧
    ((withTrunk (fun T => { T with aligned := true, evenNext := false, alarm := true })).trunk .A).alarm ∧
    (0x00 : Byte) ≠ 0x1B ∧ ((alignedTrunk true 3).trunk .A).badWords = 3 ∧ ((alignedTrunk true 2).trunk .A).badWords < 3 ∧
    ((withTrunk (fun T => { T with aligned := true, evenNext := false, failoverDue := true })).trunk .A).failoverDue ∧
    ((withTrunk (fun T => { T with aligned := true, evenNext := false, state := .off })).trunk .A).state ≠ .up := by decide

/-- The frame that brings the fourth bad word is not stored and begins no reading; the one before it is, and does (R127). -/
theorem test_a_stored_frame_is_read :
    let after (bad : Nat) := (nextOf (exec (.trunkFrameReceive .A (List.replicate 18 0)) (alignedTrunk true bad))).trunk .A
    (after 2).reading ∧ (after 2).store = [List.replicate 17 0] ∧ (after 3).reading = false ∧ (after 3).store = [] := by
  decide +kernel

theorem wit_Search :
    let z : List Byte := List.replicate 17 0
    let s := withTrunk (fun T => { T with state := .hunt, rxBuf := [false, true, false] ++ streamBits (0x1B :: z ++ 0x95 :: z) })
    z.length = 17 ∧ (s.trunk .A).aligned = false ∧ (s.trunk .A).clearRun = 0 ∧ (s.trunk .A).state = .hunt ∧
    (s.trunk .A).failoverDue = false ∧
    (s.trunk .A).rxBuf ++ streamBits (0x1B :: z) =
      [false, true, false] ++ streamBits (0x1B :: z ++ 0x95 :: z ++ 0x1B :: z) ++ [] ∧
    (∀ k, k < 3 → (((s.trunk .A).rxBuf ++ streamBits (0x1B :: z)).drop k).take 8 ≠ streamBits [0x1B]) ∧
    (running.trunk .A).aligned = false ∧
    (∀ k, k < 17 → ((streamBits [0, 0]).drop k).take 8 ≠ streamBits [0x1B]) := by decide +kernel

/-- The same stream with the alarm bit set in its housekeeping byte, and a trunk that waits for its failover. -/
theorem wit_Search_alarm :
    let z : List Byte := List.replicate 17 0
    let s := withTrunk (fun T => { T with state := .hunt, rxBuf := streamBits (0x1B :: z ++ 0xD5 :: z) })
    (s.trunk .A).rxBuf ++ streamBits (0x1B :: z) = [] ++ streamBits (0x1B :: z ++ 0xD5 :: z ++ 0x1B :: z) ++ [] ∧
    (s.trunk .A).alarm = false ∧ (s.trunk .A).state ≠ .off ∧ (s.trunk .A).clearRun = 0 ∧ (s.trunk .A).aligned = false ∧
    ((withTrunk (fun T => { T with failoverDue := true })).trunk .A).failoverDue := by decide +kernel

/-- A stream whose frames do not lie on byte bounds aligns too: three bits stand before the first alignment word. -/
theorem test_search_at_a_bit_position :
    let z : List Byte := List.replicate 17 0
    let s := withTrunk (fun T => { T with state := .hunt, rxBuf := [false, true, false] ++ streamBits (0x1B :: z ++ 0x95 :: z) })
    let T := (nextOf (exec (.trunkFrameReceive .A (0x1B :: z)) s)).trunk .A
    T.state = .up ∧ T.store = [z] ∧ T.reading := by decide +kernel

/-- Alignment in HOLDOVER: to UP with the timer stopped, or on in HOLDOVER where the alarm is present (R124). -/
theorem test_search_ends_a_holdover :
    let z : List Byte := List.replicate 17 0
    let held (alarm : Bool) := withTrunk (fun T =>
      { T with state := .holdover, holdover := .running 5, alarm := alarm, rxBuf := streamBits (0x1B :: z ++ 0x95 :: z) })
    let after (alarm : Bool) := (nextOf (exec (.trunkFrameReceive .A (0x1B :: z)) (held alarm))).trunk .A
    (after false).state = .up ∧ (after false).holdover = .stopped ∧ (after true).state = .holdover ∧
    (after true).holdover = .running 5 := by decide +kernel

theorem wit_AlignmentLoss :
    ((alignedTrunk true 4).trunk .A).aligned ∧ 4 ≤ ((alignedTrunk true 4).trunk .A).badWords ∧
    ((alignedTrunk true 4).trunk .A).state = .up ∧ ((alignedTrunk true 4).trunk .A).failoverDue = false ∧
    8 ≤ ((withTrunk (fun T => { T with clearRun := 8, state := .farFault, aligned := true })).trunk .A).clearRun ∧
    ((withTrunk (fun T => { T with clearRun := 8, state := .holdover, aligned := true })).trunk .A).state = .holdover ∧
    ((withTrunk (fun T => { T with clearRun := 8, failoverDue := true })).trunk .A).failoverDue ∧
    ((withTrunk (fun T => { T with aligned := true, badWords := 4, state := .farFault })).trunk .A).state = .farFault ∧
    ((withTrunk (fun T => { T with aligned := true, badWords := 4, state := .off })).trunk .A).state = .off := by
  decide

/-- A loss of alignment stops the reading of the store and begins the bad words afresh (R118, R127). -/
theorem test_alignmentLost_stops_the_store :
    let T := (nextOf (exec (.alignmentLost .A)
      (withTrunk (fun T => { T with aligned := true, badWords := 4, reading := true, store := [[]] })))).trunk .A
    T.reading = false ∧ T.store = [] ∧ T.badWords = 0 ∧ T.aligned = false := by decide

/-- Trunk A in HOLDOVER whose timer stands here, the expiry handed. -/
def holdingOver (x : Timer) : State :=
  { withTrunk (fun T => { T with state := .holdover, holdover := x }) with handed := [.holdoverExpiry .A] }

theorem wit_HoldoverExpiry :
    (((holdingOver (.running 0)).trunk .A).state = .holdover ∧
      RunsOut (holdingOver (.running 0)) (.holdoverExpiry .A) ((holdingOver (.running 0)).trunk .A).holdover ∧
      ((holdingOver (.running 0)).trunk .A).failoverDue = false) ∧
    ¬ RunsOut (holdingOver (.running 5)) (.holdoverExpiry .A) ((holdingOver (.running 5)).trunk .A).holdover := by
  refine ⟨⟨?_, runsOut_at_end _ _ _ ?_, ?_⟩, not_runsOut_before_end _ _ _ 4 ?_ ?_⟩ <;> decide

theorem wit_Failover :
    let s := (withCall connected).modTrunk .A (fun T => { T with failoverDue := true })
    let o := (withCall offered).modTrunk .A (fun T => { T with failoverDue := true })
    (s.trunk .A).failoverDue ∧ (s.ctx 0).state = .connected ∧ (s.ctx 0).primary = some ⟨.A, 0⟩ ∧
    (o.ctx 0).state = .offered ∧ o.callTrunk 0 = some .A ∧ (s.ctx 1).state = .free ∧
    (s.ctx 1).primary = none ∧ (running.trunk .A).failoverDue = false ∧ (s.chan .A 0).st ≠ .free ∧
    (s.chan .A 1).st = .free ∧ (s.chan .A 1).mark = false := by decide

theorem wit_BlockAndUnblock : (running.service .A).executing = none ∧ (running.service .B).executing = none ∧
    (2 ≤ 2 ∨ (0 : Nat) = 0) ∧ 16 ≤ 16 := by decide

theorem wit_EnableAndDisable :
    (running.service .A).executing = none ∧ (running.trunk .B).state ≠ .off ∧
    ((withTrunk (fun T => { T with state := .off })).trunk .A).state = .off ∧
    ((withTrunk (fun T => { T with state := .off })).service .A).executing = none ∧
    ((withCall held).ctx 0).state = .held ∧ ((withCall held).ctx 0).primary = some ⟨.A, 0⟩ ∧ 2 ≤ 2 ∧
    ((withCall offered).ctx 0).state = .offered ∧ (withCall offered).callTrunk 0 = some .A := by decide

/-- ENABLE starts with an empty store that is not read and both receivers hunting (R133, R161). -/
theorem test_enable_starts_afresh :
    let s := (withTrunk (fun T => { T with state := .off, reading := true, rxBuf := [true], sigRx := .length })).modService .A
      (fun v => { v with rx := .length })
    let u := nextOf (exec (.trunkControlEnable .B 0) s)
    (u.trunk .A).state = .hunt ∧ (u.trunk .A).reading = false ∧ (u.trunk .A).rxBuf = [] ∧
    (u.trunk .A).sigRx = .hunting ∧ (u.service .A).rx = .hunting := by decide

/-- A trunk in OFF with no call, no report on its way and nothing reserved. -/
def idleOff : State := withTrunk (fun T => { T with state := .off, seen := .off, sigQueue := [.cleared 0 1 .caller] })

theorem wit_DisableInOff :
    (idleOff.trunk .A).state = .off ∧ (idleOff.service .A).executing = none ∧ (idleOff.trunk .A).seen ≠ .up ∧
    idleOff.handed = [.noticeStart] ∧ (∀ c, (idleOff.ctx c).state = .free) ∧ (∀ n, (idleOff.chan .A n).st = .free) := by decide +kernel

/-- DISABLE of a trunk in OFF empties its queue and leaves it in OFF (R112, R133). -/
theorem test_disable_in_off_empties_the_queue :
    let t := nextOf (exec (.trunkControlDisable .A 0) idleOff)
    (t.trunk .A).sigQueue = [] ∧ (t.trunk .A).state = .off ∧ (t.trunk .A).seen = .off := by decide +kernel

/-- DISABLE takes an OFFERED call off its trunk, and a channel with its block mark set ends BLOCKED (R113, R132). -/
theorem test_disable_moves_the_offer :
    let t := nextOf (exec (.trunkControlDisable .B 0) ((withCall offered).setChan .A 0 ⟨.reserved, true, 0⟩))
    (t.chan .A 0).st = .blocked ∧ t.callTrunk 0 = some .B := by decide

theorem wit_Blocks :
    ((withCall connected).setPath 0 ⟨160 * 24, 160⟩).path 0 = ⟨160 * 24, 160⟩ ∧
    (((withCall connected).setPath 0 ⟨160 * 24, 160⟩).ctx 0).state = .connected ∧
    running.param 7 ≤ 160 * 24 / 160 ∧ (160 * 24 - 1) / 160 < running.param 7 ∧
    ((running.setPlayer 0 ⟨.playing, some .queue, some 0, 0, 8, .restart, 8⟩).player 0).state = .playing ∧
    ((running.setPlayer 0 ⟨.playing, some .queue, some 0, 0, 8, .restart, 8⟩).player 0).length ≤
      ((running.setPlayer 0 ⟨.playing, some .queue, some 0, 0, 8, .restart, 8⟩).player 0).offset ∧
    (running.segment 0).valid ∧ (running.segment 1).valid = false := by decide

theorem wit_RequestsTakeTheTwoPlaces :
    ((withService (fun v => { v with executing := some .readCalls })).service .A).executing = some .readCalls ∧
    ((withService (fun v => { v with executing := some .readCalls })).service .A).waiting = none ∧
    ((withService (fun v => { v with executing := some .readCalls, waiting := some .readStatus })).service .A).waiting =
      some .readStatus ∧
    (running.service .A).executing = none ∧ Instr.readCalls .A = Request.readCalls.toInstr .A := by decide

/-- A request of a table, a loop, a trunk or an action that there is not, each at the first value outside its range. -/
theorem wit_UnknownRequests :
    (running.service .A).executing = none ∧ (6 ≤ 6 ∧ ¬ 6 ≤ 5) ∧ (8 ≤ 8 ∧ ¬ 8 ≤ 7) ∧ (4 ≤ 4 ∧ ¬ 4 ≤ 3) ∧ (2 ≤ 2 ∧ ¬ 2 ≤ 1) := by
  decide

/-- The result and the body that the REPLY to a request made on trunk A of the running part carries. -/
def answered (req : Request) : List Byte :=
  match (nextOf (exec (.serviceRequestBuffered .A req) running)).serviceA.tx with
  | .reply bytes => bytes.getD 4 0 :: (bytes.drop 9).dropLast
  | _ => []

/-- An unknown table is BAD-INDEX with its table and index, an unknown action BAD-VALUE, and an unknown loop or trunk BAD-INDEX
also with an unknown action (R169, R172, R173, R199). -/
theorem test_unknown_requests :
    answered (.readTable 6 9) = [2, 6, 9] ∧ answered (.loopControl 7 4) = [3] ∧ answered (.loopControl 8 4) = [2] ∧
    answered (.trunkControl 1 4 0) = [3] ∧ answered (.trunkControl 2 4 0) = [2] ∧ answered (.writeUnknown 6) = [2] := by decide

theorem wit_NoSpareChannel : NoSpareChannel (.trunkControl 0 1 0) ∧ NoSpareChannel .readCalls := by simp [NoSpareChannel]

/-- A REPLY waiting to be sent. -/
def aReply : Reply := ⟨0x10, .ok, 0, 0, []⟩

theorem wit_Replies :
    ((withService (fun v => { v with reply := some aReply })).service .A).tx = .idle ∧
    ((withService (fun v => { v with reply := some aReply })).service .A).reply = some aReply ∧
    ((withService (fun v => { v with tx := .reply [] })).service .A).tx = .reply [] ∧
    ((withService (fun v => { v with tx := .reply [] })).service .A).waiting = none ∧
    ((withService (fun v => { v with tx := .reply [], waiting := some .readStatus })).service .A).waiting =
      some .readStatus := by decide

theorem wit_Notices :
    (running.service running.home).tx = .idle ∧ (running.service running.home).reply = none ∧
    running.marks = [] ++ (1, 0) :: [] ∧ running.mask.getLsbD (1 - 1) ∧
    (∀ m ∈ ({ running with marks := [] } : State).marks, running.mask.getLsbD (m.1 - 1) = false) ∧
    ({ running with marks := [(8, 97)] } : State).marks = [] ++ (8, 96 + (1 : LoopId).val) :: [] ∧
    ((withCall connected).ctx 0).state ≠ .free ∧ (running.ctx 0).state = .free ∧ (running.service .B).tx = .idle := by decide

/-- The posts a notice may name: slot 0 tied to one entry, slot 1 valid and tied to none, slot 2 empty; the entry of a call;
and the post recorded for a loop. -/
theorem wit_NoticeData :
    let s := (withCall connected).setRecord 1 { rec17 with number := 7, plate := 9 }
    (s.record 0).valid ∧ s.entryAt 0 1 = some ⟨17, .listed 0 true, quiet⟩ ∧ (s.record 1).valid ∧
    (∀ l, ∀ e ∈ (s.loop l).map, e.tie.slot? ≠ some 1) ∧ (s.record 2).valid = false ∧
    s.keyEntry 0 = some ⟨17, .listed 0 true, quiet⟩ ∧
    ({ s with abandonPosts := s.abandonPosts.set 3 (some (4, 42)) } : State).abandonPosts[3] = some (4, 42) := by decide

theorem wit_Reads : (running.service .A).executing = none ∧ RecRef.ofCodes 3 95 = some (.post 95) ∧ 4 ≤ 4 ∧
    8 ≤ 8 := by decide

theorem wit_ReceivedMessages :
    (running.service .A).rx = .hunting ∧ (running.trunk .A).sigRx = .hunting ∧ (Request.readMap 255).wf ∧
    (0x00 : Byte) ≠ 0x5A ∧ 200 < (201 : Byte).toNat ∧ (List.replicate 199 (0 : Byte)).length < 200 ∧
    byteSum (byte (0 + 1) :: 0x10 :: []) + 0 ≠ 0 ∧ (0x1B : Byte).toNat > 0x1A ∧ 6 ≤ (6 : Byte).toNat ∧
    ¬ (0x40 ≤ (0x47 : Byte).toNat ∧ (0x47 : Byte).toNat ≤ 0x46 ∧ [(0 : Byte)].length = if (0x47 : Byte) = 0x40 then 3 else 2) := by
  decide +kernel

/-- A body that no request of its TYPE has: READ-STATUS with one byte. -/
theorem wit_ReceivedMessages_noRequest :
    0x10 ≤ (0x10 : Byte).toNat ∧ (0x10 : Byte).toNat ≤ 0x1A ∧
    (∀ req : Request, req.wf → req.code = 0x10 → req.body ≠ [0x00]) ∧
    (∀ (table : Byte) (rest : List Byte), [(0x00 : Byte)] = table :: rest → (0x10 : Byte) = 0x11 ∨ (0x10 : Byte) = 0x12 →
      table.toNat < 6) := by
  refine ⟨by decide, by decide, fun req _ hc => ?_, fun table rest _ h => absurd h (by decide)⟩
  cases req <;> simp_all [Request.body, Request.code]

theorem wit_DirectoryWrites :
    (running.service .A).executing = none ∧ 96 ≤ 96 ∧ 95 < 96 ∧ goodWrite.valid ≠ 0 ∧
    (PostRecord.ofWrite goodWrite).isSome ∧ (running.record 0).valid ∧
    (goodWrite.valid = 1 ∧ goodWrite.number ≤ 9999 ∧ goodWrite.permits < 8 ∧ goodWrite.label1.length ≤ 20) ∧
    ({ goodWrite with valid := 0 } : PostWrite).valid = 0 ∧ 20 < (List.replicate 21 (0x41 : Byte)).length ∧
    (∃ q : SlotId, q ≠ 1 ∧ (running.record q).valid ∧ (running.record q).number = 1041) := by
  refine ⟨?_, ?_, ?_, ?_, ?_, ?_, ?_, ?_, ?_, 0, ?_⟩ <;> decide

theorem wit_Labels :
    ∃ r, PostRecord.ofWrite goodWrite = some r ∧ goodWrite.valid ≠ 0 ∧ (running.service .A).executing = none ∧
      running.duplicates 1 r = false :=
  ⟨_, rfl, by decide, by decide, by decide⟩

theorem wit_UsedScan :
    ((goodReturn .poll 0).loop 0).flight = some ⟨.poll, [.poll, .poll], 0, false⟩ ∧ ((goodReturn .poll 0).loop 0).rxDone ∧
    (readScan 2 ((goodReturn .poll 0).loop 0).rx).good false 2 ∧ Purpose.poll ≠ .sweep ∧
    0 = ((goodReturn .poll 0).loop 0).epoch ∧ ((goodReturn .poll 0).loop 0).map.length ≤ 2 ∧
    min (readScan 2 ((goodReturn .poll 0).loop 0).rx).pairs.length 12 = ((goodReturn .poll 0).loop 0).map.length := by decide

theorem wit_TableWrites :
    (running.service .A).executing = none ∧ 64 ≤ 64 ∧ 63 < 64 ∧ 3 < (List.replicate 4 (⟨0, 0, 20⟩ : TargetWrite)).length ∧
    (∃ w ∈ [(⟨2, 0, 20⟩ : TargetWrite)], 2 ≤ w.trunk ∨ 63 < w.group) ∧
    (∀ w ∈ [(⟨1, 63, 61⟩ : TargetWrite)], w.trunk < 2 ∧ w.group ≤ 63) ∧ 16 ≤ 16 ∧ 15 < 16 ∧
    AfterAction.ofCode 17 = some .stop ∧ AfterAction.ofCode 15 = some (.next 15) ∧ 16383 ≤ 16383 ∧ 17 < 18 ∧
    (List.replicate 64 (0 : Byte)).length = 64 ∧ 256 ≤ 256 ∧ 255 < 256 ∧ 25 ≤ 25 ∧ 24 < 25 := by decide

theorem wit_HoldLongAndErrorLimit :
    (running.service .A).executing = none ∧ ((withCall held).ctx 0).state = .held ∧
    ((withCall held).ctx 0).holdNotified = false ∧
    max 10 (min 10 600) ≤ ((withCall { held with holdCount := 10 }).ctx 0).holdCount ∧
    ((withLoop (fun L => { L with state := .degraded, errors := 3 })).loop 0).state = .degraded ∧
    max 1 (min 3 15) ≤ ((withLoop (fun L => { L with state := .degraded, errors := 3 })).loop 0).errors ∧
    (running.loop 0).state = .run := by decide

theorem wit_PlanAndClear :
    (running.service .A).executing = none ∧ 4 ≤ 4 ∧ 3 < 4 ∧ RecRef.ofCodes 0 1 = none ∧
    RecRef.ofCodes 0 0 = some .sect ∧ 2 ^ RecRef.sect.flagCount ≤ 128 ∧ 127 < 2 ^ RecRef.sect.flagCount ∧
    (running.recordAt .sect).count.toNat = 1 ∧ (running.recordAt .sect).count.toNat ≠ 0 ∧
    RecRef.ofCodes 2 7 = some (.loop 7) ∧ RecRef.ofCodes 1 1 = some (.trunk .B) ∧ (2 : Nat).testBit 1 := by decide

theorem wit_ClearFaultEffects :
    let low := (running.setSectionFault ⟨3, 2⟩).setSupply ⟨.low, .stopped, 400⟩
    let trip := (running.setLoopFault 0 ⟨1, 1⟩).modFeed 0 (fun f => { f with state := .tripped })
    (low.recordAt .sect).flags.getLsbD 1 ∧ low.supply.state = .low ∧ (trip.recordAt (.loop 0)).flags.getLsbD 0 ∧
    (trip.feed 0).state = .tripped ∧ (trip.feed 0).desired ∧
    ((running.setTrunkFault .B ⟨4, 1⟩).recordAt (.trunk .B)).flags.getLsbD 2 ∧ (4 : Nat).testBit 2 := by decide

/-- A clear of OPEN starts the open timer of a feed in ON afresh where the current is below 4 mA (R34, R180). -/
theorem test_clear_of_open :
    let s (current : Nat) := (running.setLoopFault 0 ⟨2, 1⟩).modFeed 0 (fun f =>
      { f with state := .on, current := current, opn := .resting })
    ((nextOf (exec (.clearFault .A 2 0 1 2) (s 3))).feed 0).opn = .running 0 ∧
    ((nextOf (exec (.clearFault .A 2 0 1 2) (s 4))).feed 0).opn = .stopped := by decide

theorem wit_LoopControl :
    (running.service .A).executing = none ∧ (running.feed 0).state ≠ .off ∧
    ((running.modFeed 0 (fun f => { f with state := .off, desired := false })).feed 0).state = .off ∧
    (running.setLoopFault 0 ⟨1, 1⟩).trippedLatched 0 ∧ running.trippedLatched 0 = false ∧
    (running.feed 0).state = .settling ∧ (running.feed 0).desired ∧ (running.loop 0).state.carries ∧
    (running.loop 1).state.carries = false ∧ ((withCall connected).ctx 0).loop = 0 ∧
    ((withCall connected).ctx 0).state ≠ .clearing ∧ ((withCall connected).ctx 0).bearer = some 0 ∧
    ((withCall connected).bearer 0 0).st = .live ∧ ((withCall clearing).ctx 0).state = .clearing ∧ 8 ≤ 8 := by decide

theorem wit_SectionRestart :
    (running.service .A).executing = none ∧ ((withCall connected).service .A).executing = none ∧
    ((withCall connected).ctx 0).state ≠ .free ∧
    (withCall connected).keyEntry 0 = some ⟨17, .listed 0 true, quiet⟩ ∧ (withCall connected).keyPos 0 = 1 ∧
    ((withCall connected).loop 0).map[1]? = some ⟨42, .unlisted, quiet⟩ := by decide

/-- Two posts fitted in ring 0, plates 17 and 42, as they are when fitted. -/
def ringed : State := running.setRing 0 ⟨[Post.fitted 17 false true, Post.fitted 42 true true], []⟩

theorem wit_PostEvents :
    (ringed.ring 0).posts[1]? = some (Post.fitted 42 true true) ∧ (Post.fitted 42 true true).live ∧
    (Post.fitted 42 true true).offHook ≠ true := by decide

/-! ### Samples: tables and worked cases of chapter 7 -/

theorem test_decode_worked : decodeSample 0x35 = 152 ∧ decodeSample 0xC7 = -352 ∧ decodeSample 0x52 = 560 ∧
    decodeSample 0x7F = 3952 := by decide
theorem test_gain_worked : gainCode 152 45 = 0x3C ∧ gainCode (-352 + 560) 64 = 0x4B ∧ gainCode (3952 + 3952) 32 = 0x7F ∧
    gainClips (3952 + 3952) 32 := by decide
theorem test_gain_rounds_half_away : gainStage 48 1 = 2 ∧ gainStage (-48) 1 = -2 ∧ gainCode (-1) 15 = 0x00 := by decide
theorem test_gain_33_clips_from_3833 : gainClips 3832 33 = false ∧ gainClips 3833 33 := by decide

/-! ### Posts, scans and loops: the worked example of 1.2 and R1 to R25 -/

/-- The three posts of the worked example: near one quiet, the second with a request, the far one with its door open. -/
def exampleRing : Ring :=
  let p : Post := { Post.fitted 1 false true with attn := false, restarted := false }
  ⟨[p, { p with req := some .service }, { p with attn := true, doorOpen := true }], []⟩

theorem test_scan_worked : (exampleRing.actOn false [.poll, .ackReq, .poll]).transit =
    [0xA7, 0x90, 0xD0, 0x90, 0x82, 0x00, 0x80, 0xD0, 0x80, 0x00, 0x5C] := by decide
theorem test_scan_worked_clears : ((exampleRing.actOn false [.poll, .ackReq, .poll]).posts.map (fun p => (p.attn, p.req))) =
    [(false, none), (false, none), (false, none)] := by decide
theorem test_poll_that_clears_restarted_sets_attention :
    ((⟨[{ Post.fitted 1 false true with attn := false }], []⟩ : Ring).actOn false [.poll]).posts.map
      (fun p => (p.restarted, p.attn)) = [(false, true)] := by decide
theorem test_sweep_shows_attention : (exampleRing.actOn true []).transit = [0xA5, 0x5C] := by decide

theorem test_callButtonPress : ((nextOf (exec (.callButtonPress 0 1 .service) ringed)).ring 0).posts[1]?.map (·.req) =
    some (some .service) := by decide
theorem test_bypass_restores_a_restarted_post :
    ((nextOf (exec (.bypassRelayChange 0 (.regainPower 0)) (nextOf (exec (.bypassRelayChange 0 (.losePower 0)) ringed)))).ring
      0).posts[0]?.map (fun p => (p.live, p.restarted, p.attn)) = some (true, true, true) := by decide

theorem test_scanPick_acknowledges_first :
    ((nextOf (exec (.scanPick 0) (running.setAck 0 2))).loop 0).txLeft = [0xA6, 0x10, 0x50, 0x5C] := by decide
theorem test_scanPick_stale_round :
    ((nextOf (exec (.scanPick 0) (withLoop (fun L => { L with stale := true })))).loop 0).txLeft =
      0xA6 :: List.replicate 12 0x20 ++ [0x5C] := by decide
theorem test_loopFrame_idle : ((nextOf (exec (.loopFrame 0 (.ring [0, 0, 0, 0])) running)).loop 0).sent =
    [0x47, 0x00, 0x00, 0x00, 0x00, 0x00] := by decide
theorem test_loopFrame_end_acts_on_the_posts :
    ((nextOf (exec (.loopFrame 0 (.bytes [])) (endOfScan .poll [.poll, .poll]))).ring 0).transit =
      [0xA7, 0x90, 0x90, 0x85, 0x40, 0x81, 0x40, 0x5C] ∧
    ((nextOf (exec (.loopFrame 0 (.bytes [])) (endOfScan .poll [.poll, .poll]))).loop 0).scanTimer = .running 160 := by decide
theorem test_loopFrame_end_hands_the_return : Instr.scanReturn 0 ∈
    (nextOf (exec (.loopFrame 0 (.bytes [0x47, 0x5C, 0, 0, 0, 0])) endOfReturn)).handed := by decide

theorem test_scanReturn_in_chain_order :
    ((nextOf (exec (.scanReturn 0) (goodReturn .poll 0))).loop 0).map.map (·.cmd.lastStatus) = [some 0x80, some 0x82] ∧
    Instr.reconciliation 0 1 [17, 42] ∈ (nextOf (exec (.scanReturn 0) staleReturn)).handed := by decide
theorem test_scanReturn_malformed_degrades : ((nextOf (exec (.scanReturn 0) badReturn)).loop 0).state = .degraded := by
  decide
theorem test_scanTimeout_guard : ((nextOf (exec (.scanTimeout 0) (withLoop (fun L =>
    { L with flight := some ⟨.poll, [], 0, false⟩, scanTimer := .running 0 })))).loop 0).guard = .running 160 := by decide
theorem test_timeoutGuardEnd : Instr.scanPick 0 ∈
    (nextOf (exec (.timeoutGuardEnd 0) (withLoop (fun L => { L with guard := .running 0 })))).handed := by decide
theorem test_reconfirm_debt_stops_at_3 : ((nextOf (exec (.reconfirmTimerExpiry 0) (withLoop (fun L =>
    { L with reconfirmTimer := .running 0, roundOpen := true, debt := 3 })))).loop 0).debt = 3 := by decide

/-! ### Naming: the worked examples of chapter 3 -/

/-- Loop 4 with the five records of the worked example. -/
def cableWork : State :=
  let r (n pos : Nat) (plate : Byte) : PostRecord :=
    { PostRecord.empty with valid := true, number := n, loop := 4, position := pos, plate := plate }
  ((((State.reset.setRecord 30 (r 1041 1 17)).setRecord 31 (r 1051 2 42)).setRecord 32 (r 1061 3 88)).setRecord 33
    (r 1071 4 130)).setRecord 34 (r 1081 5 201)

/-- The result the worked example gives. -/
def cableResult : List ResultEntry := [⟨17, some 30⟩, ⟨42, some 31⟩, ⟨130, some 33⟩, ⟨77, none⟩, ⟨201, some 34⟩]

theorem test_reconciliation_worked : Instr.resultInstall 4 7 cableResult [32] ∈
    (nextOf (exec (.reconciliation 4 7 [17, 42, 130, 77, 201]) cableWork)).handed := by decide +kernel
theorem test_reconciliation_exchanged : Instr.resultInstall 4 7
    [⟨17, some 30⟩, ⟨88, some 32⟩, ⟨42, none⟩, ⟨130, some 33⟩, ⟨201, some 34⟩] [31] ∈
    (nextOf (exec (.reconciliation 4 7 [17, 88, 42, 130, 201]) cableWork)).handed := by decide +kernel
theorem test_resultInstall_worked :
    let s := cableWork.modLoop 4 (fun L =>
      { L with
        state := .start, epoch := 12, handOver := 7, reconPending := true
        map := [⟨17, .listed 30 true, quiet⟩, ⟨42, .listed 31 true, quiet⟩, ⟨88, .listed 32 true, quiet⟩,
          ⟨130, .listed 33 true, quiet⟩, ⟨201, .listed 34 true, quiet⟩] })
    let t := nextOf (exec (.resultInstall 4 7 cableResult [32]) s)
    (t.loop 4).epoch = 13 ∧ (t.loop 4).state = .run ∧ (t.loop 4).absent = [32] ∧
    Instr.faultLatch (.loop 4 .chainChanged) ∈ t.handed ∧ Instr.faultLatch (.loop 4 .unlistedSeen) ∈ t.handed ∧
    Instr.faultLatch (.loop 4 .absentSeen) ∈ t.handed ∧ Instr.noticeRaise (.naming 4) ∈ t.handed ∧
    Instr.rebuildReport 4 13 [some (1, .listed 30 true), some (2, .listed 31 true), none, some (3, .listed 33 true),
      some (5, .listed 34 true)] [] ∈ t.handed := by decide
theorem test_invalidation_releases : Instr.directoryRelease 0 1 ∈ (nextOf (exec (.invalidationReport 0 0) running)).handed := by
  decide
theorem test_structuralWrite_unconfirms :
    ((nextOf (exec (.structuralWriteReport 0 0 (.before false)) running)).loop 0).map.map (·.tie) =
      [.listed 0 false, .unlisted] := by decide

/-! ### Feeds (R27 to R38) -/

theorem test_settle_watches_the_current : ((nextOf (exec (.settleTimerExpiry 0) State.reset)).feed 0).opn = .running 0 := by
  decide
theorem test_current_149_rests : ((nextOf (exec (.loopCurrentChange 0 149) State.reset)).feed 0).trip = none ∧
    ((nextOf (exec (.loopCurrentChange 0 150) State.reset)).feed 0).trip = some 0 := by decide
theorem test_stale_settle_expiry : (nextOf (exec (.settleTimerExpiry 0) (feedTimed (.running 4000) 0 0 .settling))).feed 0 =
    (feedTimed (.running 4000) 0 0 .settling).feed 0 := by decide
theorem test_stale_restore_expiry : (nextOf (exec .supplyRestore (lowSupply (.running 8000)))).supply.state = .low := by decide
theorem test_supply_420_is_good : (nextOf (exec (.supplyLevelChange 420) running)).supply.state = .good ∧
    (nextOf (exec (.supplyLevelChange 419) running)).supply.state = .low := by decide
theorem test_feedOff_takes_the_loop_off_before_its_reply :
    ((nextOf (exec (.loopControlFeedOff .A 0) (withCall connected))).loop 0).state = .off ∧
    ((nextOf (exec (.loopControlFeedOff .A 0) (withCall connected))).ctx 0).state = .free := by decide
theorem test_feedOff_keeps_supplyOff :
    ((nextOf (exec (.loopControlFeedOff .A 3) (nextOf (exec (.supplyLoss 0) running)))).feed 3).state = .supplyOff := by decide

/-! ### Calls, routes and desks (R62 to R114) -/

theorem test_request_takes_bearer_0 : ((nextOf (exec (.requestReport 0 1 .emergency) running)).ctx 0).bearer = some 0 ∧
    ((nextOf (exec (.requestReport 0 1 .emergency) running)).bearer 0 0) = ⟨.assigning, 1⟩ := by decide
theorem test_request_of_unlisted_post : ((nextOf (exec (.requestReport 0 2 .service) running)).ctx 0).snapshot.map
    (fun i => (i.number, i.seen, i.status)) = some (none, 2, .unlisted) := by decide
theorem test_emergency_goes_first :
    (nextOf (exec (.requestReport 0 2 .emergency) ((running.setCtx 0 { queued with cls := .service }).setWaiting [0]))).waiting =
      [1, 0] := by decide
theorem test_caller_drop_abandons : Instr.noticeRaise (.abandonedSlot 0) ∈
    (nextOf (exec (.callerReport 0 1 false) (withCall queued))).handed ∧
    ((nextOf (exec (.callerReport 0 1 false) (withCall queued))).ctx 0).state = .clearing := by decide
theorem test_bearerLive_offers : ((nextOf (exec (.bearerLiveReport 0 0) (withCall { queued with liveSeen := false }))).ctx
    0).state = .offered := by decide
theorem test_bearerFree_hands_on : ((nextOf (exec (.bearerFreeReport 0 2) bearerless)).ctx 0).bearer = some 2 := by decide
theorem test_loopState_frees : ((nextOf (exec (.loopStateReport 0 .unpowered) (withCall connected))).ctx 0).state = .free ∧
    ((nextOf (exec (.loopStateReport 0 .unpowered) (withCall connected))).ctx 0).cause = some .loopPower := by decide
theorem test_rebuild_loses_the_call :
    ((nextOf (exec (.rebuildReport 0 1 [none, some (1, .unlisted)] [0]) (withCall held))).ctx 0).cause = some .postLost := by
  decide
theorem test_offerTimeout_retries_on_the_other_trunk :
    ((nextOf (exec (.offerTimeout 0) (withCall offered))).ctx 0).primary = some ⟨.B, 0⟩ := by decide
theorem test_stale_offer_timeout : ((nextOf (exec (.offerTimeout 0) (offeredAt (.running 160000)))).ctx 0).state =
    .offered := by decide
theorem test_moved_call_is_found_before_its_rebuild_report :
    let s := (withCall connected).modLoop 0 (fun L => { L with reconPending := true })
    let t := nextOf (exec (.resultInstall 0 0 [⟨42, none⟩, ⟨17, some 0⟩] []) s)
    (t.ctx 0).entry = 1 ∧ t.keyPos 0 = 2 ∧ t.keyTie 0 = .listed 0 true := by decide
theorem test_request_follows_its_post : (exchanged.entryAt 0 2).map (·.plate) = some 17 ∧
    ((nextOf (exec (.requestReport 0 1 .emergency) exchanged)).ctx 0).plate = 17 ∧
    ((nextOf (exec (.requestReport 0 1 .emergency) exchanged)).ctx 0).entry = 1 := by decide
theorem test_lost_post_releases_no_bearer :
    let s := { (withCall connected).modLoop 0 (fun L => { L with map := [] }) with handed := [] }
    (s.keyEntry 0 = none) ∧ ((nextOf (exec (.callerReport 0 1 false) s)).bearer 0 0).st = .live := by decide
theorem test_dispatch_waits_for_its_first_place :
    let s := (withCall queued).modTrunk .A (fun T => { T with channels := Vector.replicate 15 ⟨.blocked, false, 0⟩ })
    (s.dispatch.ctx 0).state = .queued ∧ (s.chan .B 0).st = .free := by decide

theorem test_answer_connects : ((nextOf (exec (.answer .A ⟨0, 1⟩ 9) (withCall offered))).ctx 0).state = .connected ∧
    ((nextOf (exec (.answer .A ⟨0, 1⟩ 9) (withCall offered))).chan .A 0).st = .inUse := by decide
theorem test_answer_gone_on_the_other_trunk :
    ((nextOf (exec (.answer .B ⟨0, 1⟩ 9) (withCall offered))).trunk .B).sigQueue = [.confirm ⟨0, 1⟩ 0x40 .gone 0] := by decide
theorem test_join_takes_the_lowest : ((nextOf (exec (.join .A ⟨0, 1⟩) (withCall connected))).ctx 0).second =
    some ⟨.A, 1⟩ := by decide
theorem test_hold_judges_a_complete_block :
    ((nextOf (exec (.hold .A ⟨0, 1⟩) ((withCall connected).setPath 0 ⟨3840, 160⟩))).ctx 0).speechSeen := by decide
theorem test_hold_starts_the_prompt : ((nextOf (exec (.hold .A ⟨0, 1⟩) (withCall connected))).player 0).state = .playing := by
  decide
theorem test_release_clears : ((nextOf (exec (.release .A ⟨0, 1⟩) (withCall connected))).ctx 0).cause = some .desk := by decide

/-! ### Trunks (R116 to R134) -/

theorem test_cleared_message : (SigMsg.cleared 5 1 .offerTimeout).bytes = [0x5A, 0x04, 0x52, 0x05, 0x01, 0x02, 0xA2] := by decide
theorem test_trunkFrameSend_unaligned :
    ((nextOf (exec (.trunkFrameSend .A) (nextOf (exec (.trunkFrameSend .A) running)))).trunk .A).sent.take 3 =
      [0xD5, 0xFF, 0xFF] := by decide
theorem test_fourth_bad_word : Instr.alignmentLost .A ∈
    (nextOf (exec (.trunkFrameReceive .A (List.replicate 18 0)) (alignedTrunk true 3))).handed := by decide +kernel
theorem test_alignmentLost_holds_over : ((nextOf (exec (.alignmentLost .A) (alignedTrunk true 4))).trunk .A).state =
    .holdover := by decide
theorem test_farAlarmAbsent_leaves_farFault : ((nextOf (exec (.farAlarmAbsent .A)
    (withTrunk (fun T => { T with clearRun := 8, alarm := true, aligned := true, state := .farFault })))).trunk .A).state = .up := by
  decide
theorem test_failover_represents :
    ((nextOf (exec (.failover .A) ((withCall connected).modTrunk .A (fun T => { T with failoverDue := true })))).ctx
      0).prevDesk = some 9 := by decide
theorem test_failover_takes_the_earlier_report :
    let s := { (withCall connected).modTrunk .A (fun T => { T with failoverDue := true }) with
      handed := [.trunkStateReport .A .up, .failover .A] }
    ((nextOf (exec (.failover .A) s)).trunk .A).seen = .holdover ∧
    Instr.trunkStateReport .A .up ∉ (nextOf (exec (.failover .A) s)).handed := by decide

theorem test_block_worked :
    let s := ((running.setChan .A 3 ⟨.reserved, false, 0⟩))
    ((nextOf (exec (.trunkControlBlock .A 0 4) s)).chan .A 3) = ⟨.reserved, true, 0⟩ ∧
    ((nextOf (exec (.trunkControlBlock .A 0 5) s)).chan .A 4).st = .blocked := by decide
theorem test_disable_takes_the_trunk_off : ((nextOf (exec (.trunkControlDisable .A 1) running)).trunk .B).state = .off := by
  decide

/-! ### Service channel and notices (R161 to R200) -/

theorem test_readStatus_message : serviceEvent .B [0x01, 0x10, 0xEF] = .readStatus .B := by decide
theorem test_bad_check : serviceEvent .B [0x01, 0x10, 0xEE] = .serviceMessageDiscard .B .badCheck := by decide
theorem test_unknown_type : serviceEvent .A [0x01, 0x2F, 0xD0] = .serviceMessageDiscard .A .unknownType := by decide

/-- A NOTICE that comes back to the part: one of its own types (R161, R192). -/
theorem test_own_type : serviceEvent .A [0x01, 0x21, 0xDE] = .serviceMessageDiscard .A .ownType := by decide
theorem test_own_type_latches_both : ∀ x ∈ [Latch.sect .unknownType, .trunk .A .sigError],
    Instr.faultLatch x ∈ (nextOf (exec (.serviceMessageDiscard .A .ownType) running)).handed := by decide
theorem test_readTable_settings_reply : (nextOf (exec (.readTableSettings .A 4) running)).serviceA.tx =
    .reply [0x5A, 0x0B, 0x20, 0x11, 0x00, (nextOf (exec (.readTableSettings .A 4) running)).summary, 0x00, 0x00, 0x80,
      0x04, 0x04, 0x00, 0x0A, 0 - byteSum [0x0B, 0x20, 0x11, 0x00,
        (nextOf (exec (.readTableSettings .A 4) running)).summary, 0x80, 0x04, 0x04, 0x0A]] := by decide
theorem test_overrun : Instr.faultLatch (.sect .overrun) ∈ (nextOf (exec (.readCalls .A)
    (withService (fun v => { v with executing := some .readCalls, waiting := some .readCalls })))).handed := by decide
theorem test_write_duplicate_number :
    (nextOf (exec (.writeTableDirectory .A 1 { goodWrite with number := 1041 }) running)).directory = running.directory := by
  decide +kernel
theorem test_write_label : ((nextOf (exec (.writeTableDirectory .A 1 goodWrite) running)).record 1).label1 = [0x41, 0x3F] := by
  decide
theorem test_write_settings_clamps : (nextOf (exec (.writeTableSettings .A 4 0) running)).param 4 = 1 := by decide
theorem test_write_samples : Samples.read (nextOf (exec (.writeTableSamples .A 1 (List.replicate 64 0x7F)) running)).samples
    64 = 0x7F := by decide
theorem test_write_segment_clamped : (nextOf (exec (.writeTableSegment .A 2 ⟨1, 16000, 1000, 17⟩) running)).segment 2 =
    ⟨true, 16000, 384, .stop⟩ := by decide
theorem test_factory_tone : (List.range 8).map (Samples.read State.reset.samples) =
    [0x00, 0x56, 0x5F, 0x56, 0x80, 0xD6, 0xDF, 0xD6] ∧ Samples.read State.reset.samples 4000 = 0x00 := by decide
theorem test_setPlan : (nextOf (exec (.setPlan .B 3) running)).plan = 3 ∧ (nextOf (exec (.setPlan .B 4) running)).plan = 0 := by
  decide
theorem test_clearFault_changed : (nextOf (exec (.clearFault .A 0 0 0 1) running)).sectionFault = ⟨1, 1⟩ ∧
    (nextOf (exec (.clearFault .A 0 0 1 1) running)).sectionFault = ⟨0, 1⟩ := by decide
theorem test_sectionRestart_frees : ((nextOf (exec (.sectionRestart .B) (withCall connected))).ctx 0).state = .free ∧
    (nextOf (exec (.sectionRestart .B) (withCall connected))).marks = [(1, 0)] := by
  decide +kernel
theorem test_first_notice_after_reset : (nextOf (step State.reset)).marks = [] := by decide
theorem test_faultLatch_twice :
    (nextOf (exec (.faultLatch (.post 7 .lamp)) (nextOf (exec (.faultLatch (.post 7 .lamp)) running)))).postFault 7 = ⟨8, 1⟩ := by
  decide
theorem test_notice_clears_the_recorded_post :
    let s : State := { running with marks := [(8, 97)], abandonPosts := running.abandonPosts.set 1 (some (3, 17)) }
    (nextOf (exec .noticeStart s)).abandonPosts[1] = none := by decide

theorem test_abandon_counts : (nextOf (exec (.noticeRaise (.abandonedSlot 5)) running)).abandons[5] = 1 := by decide
theorem test_silent_block : ((nextOf (exec (.levelBlockComplete 0) ((withCall connected).setPath 0 ⟨3839, 160⟩))).ctx
    0).silentRun = 1 := by decide
theorem test_speech_block : ((nextOf (exec (.levelBlockComplete 0) ((withCall connected).setPath 0 ⟨3840, 160⟩))).ctx
    0).speechSeen := by decide
theorem test_segmentEnd_restarts :
    ((nextOf (exec (.segmentEnd 0) (running.setPlayer 0 ⟨.playing, some .queue, some 0, 0, 8000, .restart, 8000⟩))).player
      0).offset = 0 := by decide
theorem test_powerOn_low : (nextOf (exec (.powerOn 419) running)).supply.state = .low := by decide

end Sys2Proof.Tests
end

section
/-! The loop power feed (02) and the requests of the service handler that reach it (R92, R179, R180): what each operation of
a feed, of the supply monitor and of a clear does, and the statements of this family settled from that. -/

namespace Sys2Proof.LoopPowerFeed

open Sys2Proof Sys2Proof.Machine

/-! ### An expiry counts where its timer stands at its end (log entry 3) -/

theorem expires_iff (s : State) (i : Instr) (x : Timer) : s.expires i x = true ↔ RunsOut s i x := by
  cases x with
  | stopped => simp [State.expires, Timer.isRunning, RunsOut]
  | running n => by_cases h : i ∈ s.handed <;> simp [State.expires, Timer.isRunning, RunsOut, h]
  | expired => simp [State.expires, Timer.isRunning, RunsOut]

theorem trips_iff (s : State) (l : LoopId) :
    s.trips l = true ↔ ∃ n, (s.feed l).trip = some n ∧ (.feedTrip l ∈ s.handed → 80 ≤ n) := by
  change _ ↔ ∃ n, _ ∧ (_ → Config.tripFrames ≤ n)
  unfold State.trips
  cases (s.feed l).trip with
  | none => simp
  | some n => by_cases hm : Instr.feedTrip l ∈ s.handed <;> simp [hm]

theorem opens_iff (s : State) (l : LoopId) :
    s.opens l = true ↔ ∃ n, (s.feed l).opn = .running n ∧ (.openDetected l ∈ s.handed → 16000 ≤ n) := by
  change _ ↔ ∃ n, _ ∧ (_ → Config.openFrames ≤ n)
  unfold State.opens
  cases (s.feed l).opn with
  | stopped => simp
  | running n => by_cases hm : Instr.openDetected l ∈ s.handed <;> simp [hm]
  | resting => simp

/-! ### One feed -/

theorem energised_iff (st : FeedState) : energised st = true ↔ st = .settling ∨ st = .on := by
  cases st <;> simp [energised]

/-- The trip filter goes on from where it stands, or starts at rest (R31). -/
theorem tripAfter_eq (f : Feed) (current : Nat) :
    f.tripAfter current =
      if (f.state = .settling ∨ f.state = .on) ∧ 150 ≤ current then (if f.trip = none then some 0 else f.trip)
      else none := by
  simp only [Feed.tripAfter, energised_iff, Config.tripLevel]
  cases f.trip <;> rfl

/-- The open timer goes on from where it stands, resting included, or starts (R34). -/
theorem openAfter_eq (f : Feed) (current : Nat) :
    f.openAfter current =
      if f.state = .on ∧ current < 4 then (if f.opn = .stopped then .running 0 else f.opn) else .stopped := by
  unfold Feed.openAfter
  cases f.opn <;> rfl

/-! ### What only one feed's events change -/

theorem onlyFeed_trans {l : LoopId} {s t u : State} (h : OnlyFeed l s t) (h' : OnlyFeed l t u) : OnlyFeed l s u := by
  obtain ⟨hst, hfst⟩ := h
  obtain ⟨htu, hftu⟩ := h'
  refine ⟨?_, fun m hm => (hftu m hm).trans (hfst m hm)⟩
  rw [htu, hst]

theorem onlyFeed_take (l : LoopId) (s : State) (i : Instr) : OnlyFeed l s (s.take i) := ⟨rfl, fun _ _ => rfl⟩

theorem onlyFeed_hand (l : LoopId) (s : State) (i : Instr) : OnlyFeed l s (s.hand i) := ⟨rfl, fun _ _ => rfl⟩

theorem onlyFeed_modFeed (l : LoopId) (s : State) (f : Feed → Feed) : OnlyFeed l s (s.modFeed l f) :=
  ⟨s.modFeed_frame l f, fun m hm => s.modFeed_feed_of_ne l f m hm.symm⟩

/-- A feed changed as its event is taken. -/
theorem onlyFeed_take_modFeed (l : LoopId) (s : State) (i : Instr) (f : Feed → Feed) :
    OnlyFeed l s ((s.take i).modFeed l f) := onlyFeed_trans (onlyFeed_take l s i) (onlyFeed_modFeed l _ f)

@[simp] theorem reportFeed_handed (s : State) (l : LoopId) :
    (s.reportFeed l).handed = s.handed ++ [.feedStateReport l (s.feed l).state (s.feed l).desired] := rfl

/-! ### The events of one feed (R29, R31, R32, R34) -/

theorem exec_settleTimerExpiry (l : LoopId) (s : State) :
    exec (.settleTimerExpiry l) s = .next
      (if (s.feed l).state = .settling ∧ s.expires (.settleTimerExpiry l) (s.feed l).settle then
        ((s.take (.settleTimerExpiry l)).modFeed l Feed.enterOn).reportFeed l else s.take (.settleTimerExpiry l)) := rfl

theorem exec_loopCurrentChange (l : LoopId) (current : Nat) (s : State) :
    exec (.loopCurrentChange l current) s = .next ((s.take (.loopCurrentChange l current)).modFeed l (fun f =>
      { f with current := current, trip := f.tripAfter current, opn := f.openAfter current })) := rfl

theorem exec_feedTrip (l : LoopId) (s : State) :
    exec (.feedTrip l) s = .next
      (if energised (s.feed l).state ∧ s.trips l then
        ((((s.take (.feedTrip l)).modFeed l (fun f => f.deenergise .tripped)).latch (.loop l .tripped)).raise
          (.feedTrip l)).reportFeed l else s.take (.feedTrip l)) := rfl

theorem exec_openDetected (l : LoopId) (s : State) :
    exec (.openDetected l) s = .next
      (if (s.feed l).state = .on ∧ s.opens l then
        (((s.take (.openDetected l)).modFeed l (fun f => { f with opn := .resting })).latch (.loop l .opn)).raise
          (.feedTrip l) else s.take (.openDetected l)) := rfl

theorem settleTimerExpiry_enters_on (l : LoopId) (s : State) (hst : (s.feed l).state = .settling)
    (hrun : RunsOut s (.settleTimerExpiry l) (s.feed l).settle) :
    ∃ t : State, exec (.settleTimerExpiry l) s = .next t ∧ OnlyFeed l s t ∧
      t.handed = s.handed.erase (.settleTimerExpiry l) ++ [.feedStateReport l .on (s.feed l).desired] ∧
      t.feed l = { s.feed l with
        state := .on
        settle := .stopped
        opn := if (s.feed l).current < 4 then .running 0 else .stopped } := by
  rw [exec_settleTimerExpiry, if_pos ⟨hst, (expires_iff ..).2 hrun⟩]
  refine ⟨_, rfl, onlyFeed_trans (onlyFeed_take_modFeed ..) (onlyFeed_hand ..), ?_, ?_⟩
  · simp [Feed.enterOn]
  · rw [State.reportFeed_feed, State.modFeed_feed]; rfl

theorem loopCurrentChange_moves_the_timers (l : LoopId) (current : Nat) (s : State) :
    ∃ t : State, exec (.loopCurrentChange l current) s = .next t ∧ OnlyFeed l s t ∧
      t.handed = s.handed.erase (.loopCurrentChange l current) ∧
      t.feed l = { s.feed l with
        current := current
        trip := (s.feed l).tripAfter current
        opn := (s.feed l).openAfter current } := by
  rw [exec_loopCurrentChange]
  exact ⟨_, rfl, onlyFeed_take_modFeed .., by simp, by simp⟩

theorem feedTrip_trips (l : LoopId) (s : State) (hst : (s.feed l).state = .settling ∨ (s.feed l).state = .on)
    (htrip : s.trips l = true) :
    ∃ t : State, exec (.feedTrip l) s = .next t ∧ OnlyFeed l s t ∧
      t.feed l = { s.feed l with state := .tripped, settle := .stopped, trip := none, opn := .stopped } ∧
      t.handed = s.handed.erase (.feedTrip l) ++
        [.faultLatch (.loop l .tripped), .noticeRaise (.feedTrip l), .feedStateReport l .tripped (s.feed l).desired] := by
  rw [exec_feedTrip, if_pos ⟨(energised_iff _).2 hst, htrip⟩]
  refine ⟨_, rfl, ?_, ?_, ?_⟩
  · exact onlyFeed_trans (onlyFeed_trans (onlyFeed_trans (onlyFeed_take_modFeed ..) (onlyFeed_hand ..))
      (onlyFeed_hand ..)) (onlyFeed_hand ..)
  · simp [Feed.deenergise]
  · simp [Feed.deenergise]

theorem openDetected_rests (l : LoopId) (s : State) (hst : (s.feed l).state = .on) (hopen : s.opens l = true) :
    ∃ t : State, exec (.openDetected l) s = .next t ∧ OnlyFeed l s t ∧
      t.feed l = { s.feed l with opn := .resting } ∧
      t.handed = s.handed.erase (.openDetected l) ++ [.faultLatch (.loop l .opn), .noticeRaise (.feedTrip l)] := by
  rw [exec_openDetected, if_pos ⟨hst, hopen⟩]
  refine ⟨_, rfl, ?_, ?_, ?_⟩
  · exact onlyFeed_trans (onlyFeed_trans (onlyFeed_take_modFeed ..) (onlyFeed_hand ..)) (onlyFeed_hand ..)
  · simp
  · simp

theorem settleTimerExpiry_no_effect (l : LoopId) (s : State)
    (h : (s.feed l).state ≠ .settling ∨ ¬ RunsOut s (.settleTimerExpiry l) (s.feed l).settle) :
    exec (.settleTimerExpiry l) s = .next (s.take (.settleTimerExpiry l)) := by
  rw [exec_settleTimerExpiry, if_neg]
  rw [expires_iff]
  tauto

theorem feedTrip_no_effect (l : LoopId) (s : State)
    (h : (s.feed l).trip = none ∨ ∃ n, (s.feed l).trip = some n ∧ n < 80 ∧ .feedTrip l ∈ s.handed) :
    exec (.feedTrip l) s = .next (s.take (.feedTrip l)) := by
  rw [exec_feedTrip, if_neg]
  rw [trips_iff]
  rintro ⟨-, n, hn, hend⟩
  rcases h with hnone | ⟨k, hk, hlt, hmem⟩
  · simp [hnone] at hn
  · have : k = n := by simpa [hk] using hn
    have := hend hmem
    omega

theorem openDetected_no_effect (l : LoopId) (s : State)
    (h : (s.feed l).state ≠ .on ∨ (∀ n, (s.feed l).opn ≠ .running n) ∨
      ∃ n, (s.feed l).opn = .running n ∧ n < 16000 ∧ .openDetected l ∈ s.handed) :
    exec (.openDetected l) s = .next (s.take (.openDetected l)) := by
  rw [exec_openDetected, if_neg]
  rw [opens_iff]
  rintro ⟨hon, n, hn, hend⟩
  rcases h with hst | hrest | ⟨k, hk, hlt, hmem⟩
  · exact hst hon
  · exact hrest n hn
  · have : k = n := by simpa [hk] using hn
    have := hend hmem
    omega

/-- Settles O23: each of the four events by its own lemma above, and the events that have no effect. -/
theorem feedsSettleTripAndFindAnOpenLoop : Obligations.FeedsSettleTripAndFindAnOpenLoop := by
  refine ⟨settleTimerExpiry_enters_on, fun l current s => ?_, fun l n s hst hn hend => ?_, fun l n s hst hn hend => ?_,
    fun l s => ⟨settleTimerExpiry_no_effect l s, feedTrip_no_effect l s, openDetected_no_effect l s⟩⟩
  · simpa only [tripAfter_eq, openAfter_eq] using loopCurrentChange_moves_the_timers l current s
  · exact feedTrip_trips l s hst ((trips_iff s l).2 ⟨n, hn, hend⟩)
  · exact openDetected_rests l s hst ((opens_iff s l).2 ⟨n, hn, hend⟩)

/-! ### One pass over the feeds, from loop 0 to loop 7 (log entry 41) -/

theorem nodup_allLoops : allLoops.Nodup := by decide

theorem mem_allLoops (l : LoopId) : l ∈ allLoops := by revert l; decide

/-- Each step of a pass leaves its own feed as `after` says and hands `out`; both are read from the state before the pass,
since the step at one loop moves neither at another. -/
structure FeedPass (f : State → LoopId → State) (after : State → LoopId → Feed) (out : State → LoopId → List Instr) :
    Prop where
  feed_same : ∀ s l, (f s l).feed l = after s l
  feed_other : ∀ s l m, l ≠ m → (f s l).feed m = s.feed m
  handed : ∀ s l, (f s l).handed = s.handed ++ out s l
  after_other : ∀ s l m, l ≠ m → after (f s l) m = after s m
  out_other : ∀ s l m, l ≠ m → out (f s l) m = out s m

section
variable {f : State → LoopId → State} {after : State → LoopId → Feed} {out : State → LoopId → List Instr}

theorem FeedPass.foldl_feed (h : FeedPass f after out) {ls : List LoopId} (hls : ls.Nodup) (s : State) (m : LoopId) :
    (ls.foldl f s).feed m = if m ∈ ls then after s m else s.feed m := by
  induction ls generalizing s with
  | nil => simp
  | cons l ls ih =>
    obtain ⟨hl, hls⟩ := List.nodup_cons.1 hls
    rw [List.foldl_cons, ih hls]
    by_cases hm : l = m
    · subst hm; simp [hl, h.feed_same]
    · simp [Ne.symm hm, h.after_other _ _ _ hm, h.feed_other _ _ _ hm]

theorem FeedPass.foldl_handed (h : FeedPass f after out) {ls : List LoopId} (hls : ls.Nodup) (s : State) :
    (ls.foldl f s).handed = s.handed ++ ls.flatMap (out s) := by
  induction ls generalizing s with
  | nil => simp
  | cons l ls ih =>
    obtain ⟨hl, hls⟩ := List.nodup_cons.1 hls
    have hout : ls.flatMap (out (f s l)) = ls.flatMap (out s) :=
      List.flatMap_congr fun m hm => h.out_other s l m fun e => hl (e ▸ hm)
    rw [List.foldl_cons, ih hls, h.handed, hout, List.flatMap_cons, List.append_assoc]

theorem FeedPass.allLoops_feed (h : FeedPass f after out) (s : State) (l : LoopId) :
    (allLoops.foldl f s).feed l = after s l := by
  rw [h.foldl_feed nodup_allLoops, if_pos (mem_allLoops l)]

theorem FeedPass.allLoops_handed (h : FeedPass f after out) (s : State) :
    (allLoops.foldl f s).handed = s.handed ++ allLoops.flatMap (out s) := h.foldl_handed nodup_allLoops s

end

/-! ### The supply monitor enters LOW (R35) -/

theorem feedPass_supplyOff :
    FeedPass (fun s l => (s.modFeed l (fun f => f.deenergise .supplyOff)).reportFeed l)
      (fun s l => (s.feed l).deenergise .supplyOff)
      (fun s l => [.feedStateReport l .supplyOff (s.feed l).desired]) where
  feed_same s l := by simp
  feed_other s l m h := by simp [State.modFeed_feed_of_ne, h]
  handed s l := by simp [Feed.deenergise]
  after_other s l m h := by simp [State.modFeed_feed_of_ne, h]
  out_other s l m h := by simp [State.modFeed_feed_of_ne, h]

theorem supplyLow_feed (s : State) (l : LoopId) : s.supplyLow.feed l = (s.feed l).deenergise .supplyOff := by
  unfold State.supplyLow State.allSupplyOff
  rw [feedPass_supplyOff.allLoops_feed]
  simp

theorem supplyLow_handed (s : State) :
    s.supplyLow.handed = s.handed ++ [.faultLatch (.sect .supply), .noticeRaise .supply] ++
      allLoops.map (fun l => .feedStateReport l .supplyOff (s.feed l).desired) := by
  unfold State.supplyLow State.allSupplyOff
  rw [feedPass_supplyOff.allLoops_handed]
  simp [List.map_eq_flatMap]

theorem supplyLow_supply (s : State) :
    s.supplyLow.supply = { s.supply with state := .low, restore := .stopped } := by
  simp [State.supplyLow]

/-! ### A new supply level (R35, R36) -/

theorem supplyLevel_good_low (s : State) (level : Nat) (hg : s.supply.state = .good) (hl : level < 420) :
    s.supplyLevel level = (s.setSupply { s.supply with level := level }).supplyLow := by
  simp [State.supplyLevel, hg, hl, Config.undervoltage]

theorem supplyLevel_good_stays (s : State) (level : Nat) (hg : s.supply.state = .good) (hl : 420 ≤ level) :
    s.supplyLevel level = s.setSupply { s.supply with level := level } := by
  simp [State.supplyLevel, hg, Config.undervoltage, Nat.not_lt.2 hl]

theorem supplyLevel_low (s : State) (level : Nat) (hs : s.supply.state = .low) :
    s.supplyLevel level = s.setSupply { s.supply with
      level := level
      restore :=
        if level < 450 then .stopped
        else if s.supply.restore.isRunning then s.supply.restore else .running 8000 } := by
  simp only [State.supplyLevel, hs, Config.restoreLevel, Config.restoreFrames, Timer.start]
  split_ifs <;> rfl

theorem supplyLevel_level (s : State) (level : Nat) : (s.supplyLevel level).supply.level = level := by
  cases hs : s.supply.state with
  | good =>
    rcases Nat.lt_or_ge level 420 with hl | hl
    · rw [supplyLevel_good_low s level hs hl, supplyLow_supply]; rfl
    · rw [supplyLevel_good_stays s level hs hl]; rfl
  | low => rw [supplyLevel_low s level hs]; rfl

theorem exec_supplyLevel (i : Instr) (level : Nat) (s : State)
    (hi : i = .supplyLoss level ∨ i = .supplyLevelChange level) :
    exec i s = .next ((s.take i).supplyLevel level) := by
  rcases hi with rfl | rfl <;> rfl

/-! ### The supply monitor enters GOOD (R36) -/

/-- What a feed becomes as the supply returns: one in SUPPLY-OFF leaves it by its desired setting and its TRIPPED flag. -/
def restored (s : State) (l : LoopId) : Feed :=
  if (s.feed l).state = .supplyOff then
    if (s.feed l).desired then
      if s.trippedLatched l then (s.feed l).deenergise .tripped else (s.feed l).enterSettling s.settleFrames
    else (s.feed l).deenergise .off
  else s.feed l

/-- The report of a feed that leaves SUPPLY-OFF (R30). -/
def restoreReport (s : State) (l : LoopId) : List Instr :=
  if (s.feed l).state = .supplyOff then [.feedStateReport l (restored s l).state (s.feed l).desired] else []

theorem restored_desired (s : State) (l : LoopId) : (restored s l).desired = (s.feed l).desired := by
  unfold restored
  split_ifs <;> rfl

theorem restoreFeed_eq (s : State) (l : LoopId) :
    s.restoreFeed l =
      if (s.feed l).state = .supplyOff then (s.modFeed l (fun _ => restored s l)).reportFeed l else s := by
  unfold State.restoreFeed restored State.settleFeed
  split_ifs <;> rfl

theorem restoreFeed_feed (s : State) (l : LoopId) : (s.restoreFeed l).feed l = restored s l := by
  rw [restoreFeed_eq]
  split_ifs with h
  · simp
  · simp [restored, h]

theorem restoreFeed_feed_of_ne (s : State) (l m : LoopId) (h : l ≠ m) : (s.restoreFeed l).feed m = s.feed m := by
  rw [restoreFeed_eq]
  split_ifs
  · simp [State.modFeed_feed_of_ne, h]
  · rfl

theorem restoreFeed_handed (s : State) (l : LoopId) :
    (s.restoreFeed l).handed = s.handed ++ restoreReport s l := by
  rw [restoreFeed_eq, restoreReport]
  split_ifs
  · simp [restored_desired]
  · simp

/-- TRIPPED counts as latched by the record and by a latch still on its way to it (R32). -/
theorem trippedLatched_congr {s t : State} {l : LoopId} (hrec : t.loopFault l = s.loopFault l)
    (hmem : .faultLatch (.loop l .tripped) ∈ t.handed ↔ .faultLatch (.loop l .tripped) ∈ s.handed) :
    t.trippedLatched l = s.trippedLatched l := by
  simp [State.trippedLatched, hrec, hmem]

theorem restoreFeed_trippedLatched (s : State) (l m : LoopId) :
    (s.restoreFeed l).trippedLatched m = s.trippedLatched m := by
  refine trippedLatched_congr (by simp [State.loopFault]) ?_
  rw [restoreFeed_handed, restoreReport]
  split_ifs <;> simp

theorem restored_congr {s t : State} {l : LoopId} (hfeed : t.feed l = s.feed l)
    (htrip : t.trippedLatched l = s.trippedLatched l) (hset : t.settings = s.settings) :
    restored t l = restored s l := by
  simp [restored, hfeed, htrip, State.settleFrames, State.param, hset]

theorem restoreReport_congr {s t : State} {l : LoopId} (hfeed : t.feed l = s.feed l)
    (hres : restored t l = restored s l) : restoreReport t l = restoreReport s l := by
  simp [restoreReport, hfeed, hres]

theorem feedPass_restoreFeed : FeedPass State.restoreFeed restored restoreReport :=
  have hother : ∀ s l m, l ≠ m → restored (s.restoreFeed l) m = restored s m := fun s l m h =>
    restored_congr (restoreFeed_feed_of_ne s l m h) (restoreFeed_trippedLatched s l m) (by simp)
  { feed_same := restoreFeed_feed
    feed_other := restoreFeed_feed_of_ne
    handed := restoreFeed_handed
    after_other := hother
    out_other := fun s l m h => restoreReport_congr (restoreFeed_feed_of_ne s l m h) (hother s l m h) }

theorem supplyGood_feed (s : State) (l : LoopId) : s.supplyGood.feed l = restored s l := by
  unfold State.supplyGood
  rw [feedPass_restoreFeed.allLoops_feed]
  exact restored_congr (by simp) (trippedLatched_congr rfl (by simp)) rfl

theorem supplyGood_handed (s : State) :
    s.supplyGood.handed = s.handed ++ .noticeRaise .supply :: allLoops.flatMap (restoreReport s) := by
  unfold State.supplyGood
  rw [feedPass_restoreFeed.allLoops_handed]
  have hreport : restoreReport ((s.setSupply { s.supply with state := .good, restore := .stopped }).raise .supply) =
      restoreReport s := funext fun l =>
    restoreReport_congr rfl (restored_congr rfl (trippedLatched_congr rfl (by simp)) rfl)
  simp [hreport]

theorem supplyGood_supply (s : State) :
    s.supplyGood.supply = { s.supply with state := .good, restore := .stopped } :=
  State.foldl_keeps State.supply _ (fun _ _ => by simp) _ _

theorem mem_supplyGood_handed (s : State) (l : LoopId) (h : (s.feed l).state = .supplyOff) :
    .feedStateReport l (restored s l).state (s.feed l).desired ∈ s.supplyGood.handed := by
  have : .feedStateReport l (restored s l).state (s.feed l).desired ∈ allLoops.flatMap (restoreReport s) :=
    List.mem_flatMap.2 ⟨l, mem_allLoops l, by simp [restoreReport, h]⟩
  simp [supplyGood_handed, this]

theorem exec_supplyRestore (s : State) :
    exec .supplyRestore s = .next
      (if s.supply.state = .low ∧ s.expires .supplyRestore s.supply.restore then (s.take .supplyRestore).supplyGood
        else s.take .supplyRestore) := rfl

theorem restored_take_supplyRestore (s : State) (l : LoopId) : restored (s.take .supplyRestore) l = restored s l :=
  restored_congr rfl (trippedLatched_congr rfl (List.mem_erase_of_ne (by simp))) rfl

theorem supplyLevel_moves_the_monitor (i : Instr) (level : Nat) (s : State)
    (hi : i = .supplyLoss level ∨ i = .supplyLevelChange level) :
    ∃ t : State, exec i s = .next t ∧ t = { s with supply := t.supply, feeds := t.feeds, handed := t.handed } ∧
      t.supply.level = level ∧
      (s.supply.state = .good → level < 420 →
        t.supply.state = .low ∧ t.supply.restore = .stopped ∧
        (∀ l, t.feed l = { s.feed l with state := .supplyOff, settle := .stopped, trip := none, opn := .stopped }) ∧
        t.handed = s.handed.erase i ++ [.faultLatch (.sect .supply), .noticeRaise .supply] ++
          allLoops.map (fun l => .feedStateReport l .supplyOff (s.feed l).desired)) ∧
      (s.supply.state = .good → 420 ≤ level →
        t.supply = { s.supply with level := level } ∧ t.feeds = s.feeds ∧ t.handed = s.handed.erase i) ∧
      (s.supply.state = .low →
        t.supply.state = .low ∧ t.feeds = s.feeds ∧ t.handed = s.handed.erase i ∧
        t.supply.restore =
          if level < 450 then .stopped
          else if s.supply.restore.isRunning then s.supply.restore else .running 8000) := by
  refine ⟨_, exec_supplyLevel i level s hi, State.supplyLevel_frame (s.take i) level, supplyLevel_level _ _,
    fun hg hl => ?_, fun hg hl => ?_, fun hs => ?_⟩
  · rw [supplyLevel_good_low (s.take i) _ hg hl]
    refine ⟨by simp [supplyLow_supply], by simp [supplyLow_supply], fun l => ?_, ?_⟩
    · simp [supplyLow_feed, Feed.deenergise]
    · simp [supplyLow_handed]
  · rw [supplyLevel_good_stays (s.take i) _ hg hl]
    exact ⟨rfl, rfl, rfl⟩
  · rw [supplyLevel_low (s.take i) _ hs]
    exact ⟨hs, rfl, rfl, rfl⟩

/-- Settles O24: the supply levels by the case of the monitor, and the restore by the pass over the feeds. -/
theorem supplyMonitorMovesTheFeeds : Obligations.SupplyMonitorMovesTheFeeds := by
  refine ⟨supplyLevel_moves_the_monitor, fun s hlow hrun => ?_, fun s h => ?_⟩
  · rw [exec_supplyRestore, if_pos ⟨hlow, (expires_iff ..).2 hrun⟩]
    refine ⟨_, rfl, State.supplyGood_frame (s.take .supplyRestore), supplyGood_supply _, by simp [supplyGood_handed],
      fun l => ?_⟩
    rw [supplyGood_feed, restored_take_supplyRestore]
    refine ⟨fun h => by simp [restored, h], fun h => ⟨?_, restored_desired s l, fun hd => ?_, fun hd ht => ?_,
      fun hd ht => ?_⟩⟩
    · rw [← restored_take_supplyRestore]
      exact mem_supplyGood_handed (s.take .supplyRestore) l h
    · simp [restored, h, hd, Feed.deenergise]
    · simp [restored, h, hd, ht, Feed.deenergise]
    · simp [restored, h, hd, ht, Feed.enterSettling, Timer.start, State.settleFrames, Config.framesPerMs]
  · rw [exec_supplyRestore, if_neg]
    · rfl
    · rw [expires_iff]
      rintro ⟨hlow, hrun⟩
      rcases h with hgood | hnot
      · simp [hgood] at hlow
      · exact hnot hrun

/-! ### Power-on (R28) -/

theorem tabulate_getElem {α : Type} {n : Nat} (v : Vector α n) (f : Fin n → α → α) (i : Fin n) :
    (tabulate v f)[i] = f i v[i] := by simp [tabulate]

theorem powered_frame (s : State) (level : Nat) :
    s.powered level = { State.reset with
      pending := s.pending
      rings := (s.powered level).rings
      feeds := (s.powered level).feeds
      supply := { State.reset.supply with level := level } } := rfl

theorem powered_supply (s : State) (level : Nat) :
    (s.powered level).supply = { State.reset.supply with level := level } := rfl

theorem powered_handed (s : State) (level : Nat) : (s.powered level).handed = [.noticeStart] := rfl

theorem powered_ring (s : State) (level : Nat) (l : LoopId) :
    (s.powered level).ring l = { s.ring l with transit := [] } :=
  tabulate_getElem s.rings (fun _ r => { r with transit := [] }) l

theorem powered_feed (s : State) (level : Nat) (l : LoopId) :
    (s.powered level).feed l = Feed.powered (s.feed l).current :=
  tabulate_getElem s.feeds (fun _ f => Feed.powered f.current) l

theorem exec_powerOn (supply : Nat) (s : State) :
    exec (.powerOn supply) s = .next (if supply < 420 then (s.powered supply).supplyLow else s.powered supply) := rfl

/-- Settles O2: the state after power-on as it stands at 42.0 V and above, and moved to LOW below. -/
theorem powerOnPutsEveryBlockAtItsReset : Obligations.PowerOnPutsEveryBlockAtItsReset := by
  intro supply s
  rw [exec_powerOn]
  rcases Nat.lt_or_ge supply 420 with hlow | hgood
  · rw [if_pos hlow]
    refine ⟨_, rfl, ?_, fun l => ?_, fun l => ?_, ?_, ?_, fun h => absurd hlow (Nat.not_lt.2 h),
      fun _ => ⟨?_, ?_, fun l => ?_⟩⟩
    · rw [State.supplyLow_frame, powered_frame]
    · simp [powered_ring]
    · simp [supplyLow_feed, powered_feed, Feed.powered, Feed.deenergise, Feed.reset]
    · simp [supplyLow_supply, powered_supply]
    · simp [supplyLow_supply]
    · simp [supplyLow_supply]
    · simp [supplyLow_handed, powered_feed, Feed.powered, Feed.reset, powered_handed]
    · simp [supplyLow_feed, powered_feed, Feed.powered, Feed.deenergise]
  · rw [if_neg (Nat.not_lt.2 hgood)]
    refine ⟨_, rfl, rfl, fun l => ?_, fun l => ?_, rfl, rfl, fun _ => ⟨rfl, rfl, fun l => ?_⟩,
      fun h => absurd h (Nat.not_lt.2 hgood)⟩
    · simp [powered_ring]
    · simp [powered_feed, Feed.powered, Feed.reset]
    · rw [powered_feed]; exact ⟨rfl, rfl, rfl⟩

/-! ### A request executed and its REPLY (R162 to R166) -/

/-- The state in which a request is executed is the one with its event taken and the management home moved (R165). -/
theorem asked_eq (s : State) (i : Instr) (t : Trunk) : s.asked i t = (s.take i).setHome t := by
  unfold State.asked State.setHome State.wakeNotice State.handOnce
  by_cases hhome : s.home = t
  · subst hhome; simp [State.take]
  · by_cases hmem : Instr.noticeStart ∈ s.handed.erase i <;> simp [State.take, State.hand, hhome, hmem]

theorem startReply_of_reply (v : Service) (r : Reply) (h : v.reply = some r) :
    v.startReply = if v.tx = .idle then { v with tx := .reply r.bytes, reply := none } else v := by
  cases htx : v.tx <;> simp [Service.startReply, h, htx]

theorem makeReply_service (s : State) (t : Trunk) (r : Reply) :
    (s.makeReply t r).service t = ({ s.service t with reply := some r } : Service).startReply := by
  simp [State.makeReply, State.startReply]

theorem makeReply_service_other (s : State) (t : Trunk) (r : Reply) :
    (s.makeReply t r).service t.other = s.service t.other := by
  have hne : t ≠ t.other := by cases t <;> simp [Trunk.other]
  simp [State.makeReply, State.startReply, State.modService_service_of_ne _ _ _ _ hne]

/-- A request carried out leaves the part as it was performed, but for its executing place and its REPLY. -/
theorem replied_makeReply (d : Done) (t : Trunk) (req : Request) :
    Replied t req d.result d.body d.st
      ((d.st.modService t (fun v => { v with executing := some req })).makeReply t (State.replyOf d req)) := by
  have hother : t ≠ t.other := by cases t <;> simp [Trunk.other]
  have hservice := makeReply_service (d.st.modService t (fun v => { v with executing := some req })) t (State.replyOf d req)
  rw [State.modService_service, startReply_of_reply _ _ rfl] at hservice
  refine ⟨?_, ?_, ?_, ?_, ?_, State.replyOf d req, rfl, rfl, rfl, rfl, rfl, ?_⟩
  · rw [State.makeReply_frame, State.modService_frame]
  · rw [makeReply_service_other, State.modService_service_of_ne _ _ _ _ hother]
  all_goals rw [hservice]; split_ifs <;> simp_all

/-- A request that finds its trunk's executing place empty is performed at once, and its REPLY made (R162, R163). -/
theorem arrive_replied (i : Instr) (t : Trunk) (req : Request) (s : State) (h : (s.service t).executing = none) :
    ∃ u : State, arrive i t req s = .next u ∧
      Replied t req ((s.asked i t).perform req).result ((s.asked i t).perform req).body
        ((s.asked i t).perform req).st u := by
  refine ⟨(s.take i).execute t req, ?_, ?_⟩
  · simp [arrive, State.accept, h]
  · rw [asked_eq]
    exact replied_makeReply _ t req

/-! ### SET-PLAN (R92) -/

theorem setActivePlan_badValue (s : State) (plan : Nat) (h : 4 ≤ plan) :
    s.setActivePlan plan = ⟨s, .badValue, [byte s.plan.val]⟩ := by
  simp [State.setActivePlan, planOfNat, Nat.not_lt.2 h]

theorem setActivePlan_ok (s : State) (plan : Nat) (h : plan < 4) :
    s.setActivePlan plan = ⟨({ s with plan := ⟨plan, h⟩ } : State).dispatch, .ok, [byte plan]⟩ := by
  simp [State.setActivePlan, planOfNat, h]

/-! ### What a clear reads and writes (R176, R179) -/

@[simp] theorem setRecordAt_recordAt (s : State) (r : RecRef) (x : FaultRec) : (s.setRecordAt r x).recordAt r = x := by
  cases r <;> simp [State.setRecordAt, State.recordAt]

theorem setRecordAt_recordAt_of_ne (s : State) (r r' : RecRef) (x : FaultRec) (h : r' ≠ r) :
    (s.setRecordAt r x).recordAt r' = s.recordAt r' := by
  cases r <;> cases r' <;> simp_all [State.setRecordAt, State.recordAt]
  · exact State.setTrunkFault_trunkFault_of_ne _ _ _ _ (Ne.symm h)
  · exact State.setLoopFault_loopFault_of_ne _ _ _ _ (Ne.symm h)
  · exact State.setPostFault_postFault_of_ne _ _ _ _ (Ne.symm h)

/-- The flags that stand after a clear are those latched and not named (R179). -/
theorem clear_getLsbD (x : FaultRec) (flags k : Nat) (h : k < 16) :
    (x.clear (BitVec.ofNat 16 flags)).flags.getLsbD k = (x.flags.getLsbD k && !flags.testBit k) := by
  simp only [FaultRec.clear, BitVec.getLsbD_and, BitVec.getLsbD_not, BitVec.getLsbD_ofNat, h, decide_true, Bool.true_and]

/-- A flag is cleared where it is latched and named (R180). -/
theorem cleared_getLsbD (x : FaultRec) (flags k : Nat) (h : k < 16) :
    (x.flags &&& BitVec.ofNat 16 flags).getLsbD k = true ↔ flags.testBit k = true ∧ x.flags.getLsbD k = true := by
  rw [BitVec.getLsbD_and, BitVec.getLsbD_ofNat, Bool.and_eq_true, decide_eq_true h, Bool.true_and, and_comm]

/-! ### What a clear takes with it (R33 to R35, R128, R180) -/

theorem clearedSection_sectionFault (s : State) (cleared : BitVec 16) :
    (s.clearedSection cleared).sectionFault =
      if cleared.getLsbD 1 ∧ s.supply.state = .low then s.sectionFault.latch 1 else s.sectionFault := by
  change (if cleared.getLsbD 1 ∧ s.supply.state = .low then s.latchNow (.sect .supply) else s).sectionFault = _
  split_ifs <;> rfl

theorem clearedSection_recordAt_of_ne (s : State) (cleared : BitVec 16) (r : RecRef) (h : r ≠ .sect) :
    (s.clearedSection cleared).recordAt r = s.recordAt r := by
  unfold State.clearedSection
  split_ifs
  · exact setRecordAt_recordAt_of_ne s .sect r _ h
  · rfl

theorem clearedTrunk_recordAt (s : State) (k : Trunk) (cleared : BitVec 16) (r : RecRef) :
    (s.clearedTrunk k cleared).recordAt r = s.recordAt r := by
  rw [State.clearedTrunk_frame]; rfl

theorem clearedLoop_recordAt (s : State) (l : LoopId) (cleared : BitVec 16) (r : RecRef) :
    (s.clearedLoop l cleared).recordAt r = s.recordAt r := by
  rw [State.clearedLoop_frame]; rfl

/-- Only the clear of a section record reaches a fault record again (R180). -/
theorem clearEffects_recordAt (s : State) (cleared : BitVec 16) (r r' : RecRef) (h : r ≠ .sect ∨ r' ≠ .sect) :
    (s.clearEffects cleared r).recordAt r' = s.recordAt r' := by
  cases r with
  | sect => exact clearedSection_recordAt_of_ne s cleared r' (h.resolve_left fun hne => hne rfl)
  | trunk k => exact clearedTrunk_recordAt s k cleared r'
  | loop l => exact clearedLoop_recordAt s l cleared r'
  | post q => rfl

theorem clearedTrunk_slips (s : State) (k : Trunk) (cleared : BitVec 16) (h : cleared.getLsbD 2) :
    ((s.clearedTrunk k cleared).trunk k).slips = 0 := by
  simp [State.clearedTrunk, TrunkFlag.bit, h]

theorem clearTripped_feed (s : State) (l : LoopId) :
    (s.clearTripped l).feed l =
      if (s.feed l).state = .tripped ∧ (s.feed l).desired then (s.feed l).enterSettling s.settleFrames else s.feed l := by
  unfold State.clearTripped State.settleFeed
  split_ifs <;> simp

/-- What a feed becomes at a clear of its loop record: a clear of TRIPPED settles it, a clear of OPEN starts its open timer
afresh, and a feed just sent to SETTLING has none to start. -/
theorem clearedLoop_feed (s : State) (l : LoopId) (cleared : BitVec 16) :
    (s.clearedLoop l cleared).feed l =
      if cleared.getLsbD 0 ∧ (s.feed l).state = .tripped ∧ (s.feed l).desired then
        (s.feed l).enterSettling s.settleFrames
      else if cleared.getLsbD 1 ∧ (s.feed l).state = .on then (s.feed l).clearOpen
      else s.feed l := by
  have hsettling : ((s.feed l).enterSettling s.settleFrames).clearOpen = (s.feed l).enterSettling s.settleFrames := rfl
  have hother : (s.feed l).state ≠ .on → (s.feed l).clearOpen = s.feed l := fun h => if_neg h
  have htripped : (if cleared.getLsbD 0 then s.clearTripped l else s).feed l =
      if cleared.getLsbD 0 ∧ (s.feed l).state = .tripped ∧ (s.feed l).desired then
        (s.feed l).enterSettling s.settleFrames else s.feed l := by
    by_cases h : cleared.getLsbD 0 = true
    · rw [if_pos h, clearTripped_feed]; simp only [h, true_and]
    · rw [if_neg h]; simp only [h, Bool.false_eq_true, false_and, if_false]
  have hstep : s.clearedLoop l cleared =
      if cleared.getLsbD 1 then (if cleared.getLsbD 0 then s.clearTripped l else s).modFeed l Feed.clearOpen
      else if cleared.getLsbD 0 then s.clearTripped l else s := rfl
  rw [hstep]
  by_cases hopen : cleared.getLsbD 1 = true
  · rw [if_pos hopen, State.modFeed_feed, htripped, apply_ite Feed.clearOpen, hsettling]
    by_cases hon : (s.feed l).state = .on
    · simp only [hopen, hon, and_self, if_true]
    · simp only [hother hon, hon, and_false, if_false]
  · rw [if_neg hopen, htripped]
    simp only [hopen, Bool.false_eq_true, false_and, if_false]

theorem clearedLoop_feed_of_ne (s : State) (l m : LoopId) (cleared : BitVec 16) (h : l ≠ m) :
    (s.clearedLoop l cleared).feed m = s.feed m := by
  simp only [State.clearedLoop, State.clearTripped, State.settleFeed]
  split_ifs <;> simp [State.modFeed_feed_of_ne, h]

theorem clearedLoop_reports (s : State) (l : LoopId) (cleared : BitVec 16) (h : cleared.getLsbD 0)
    (hst : (s.feed l).state = .tripped) (hd : (s.feed l).desired) :
    .feedStateReport l .settling true ∈ (s.clearedLoop l cleared).handed := by
  simp only [State.clearedLoop, State.clearTripped, State.settleFeed, LoopFlag.bit]
  split_ifs <;> simp_all [Feed.enterSettling]

/-- A clear reaches the feed of a loop record alone (R180). -/
theorem clearEffects_feed (s : State) (cleared : BitVec 16) (r : RecRef) (l : LoopId) :
    (s.clearEffects cleared r).feed l = if r = .loop l then (s.clearedLoop l cleared).feed l else s.feed l := by
  cases r with
  | sect => simp [State.clearEffects]
  | trunk k => simp [State.clearEffects]
  | loop m =>
    by_cases h : m = l
    · subst h; simp [State.clearEffects]
    · simp [State.clearEffects, h, clearedLoop_feed_of_ne]
  | post q => simp [State.clearEffects]

/-! ### A clear carried out (R179 step 4) -/

theorem clearFlags_recordAt_of_ne (s : State) (r r' : RecRef) (flags : BitVec 16) (h : r' ≠ r) :
    (s.clearFlags r flags).recordAt r' = s.recordAt r' := by
  have hsect : r ≠ .sect ∨ r' ≠ .sect := by
    by_contra hc
    rw [not_or, not_not, not_not] at hc
    exact h (hc.2.trans hc.1.symm)
  rw [State.clearFlags, clearEffects_recordAt _ _ _ _ hsect, setRecordAt_recordAt_of_ne _ _ _ _ h]

/-- SUPPLY is latched again while the supply is LOW (R35). -/
theorem clearFlags_recordAt (s : State) (r : RecRef) (flags : BitVec 16) :
    (s.clearFlags r flags).recordAt r =
      if r = .sect ∧ ((s.recordAt r).flags &&& flags).getLsbD 1 ∧ s.supply.state = .low then
        ((s.recordAt r).clear flags).latch 1
      else (s.recordAt r).clear flags := by
  unfold State.clearFlags
  by_cases h : r = .sect
  · subst h
    exact (clearedSection_sectionFault _ _).trans (if_congr (and_iff_right rfl).symm rfl rfl)
  · rw [clearEffects_recordAt _ _ _ _ (.inl h), setRecordAt_recordAt, if_neg fun hc => h hc.1]

theorem clearFlags_feed (s : State) (r : RecRef) (flags : BitVec 16) (l : LoopId) :
    (s.clearFlags r flags).feed l =
      if r = .loop l ∧ ((s.recordAt r).flags &&& flags).getLsbD 0 ∧ (s.feed l).state = .tripped ∧ (s.feed l).desired then
        (s.feed l).enterSettling s.settleFrames
      else if r = .loop l ∧ ((s.recordAt r).flags &&& flags).getLsbD 1 ∧ (s.feed l).state = .on then
        (s.feed l).clearOpen
      else s.feed l := by
  rw [State.clearFlags, clearEffects_feed, clearedLoop_feed]
  by_cases h : r = .loop l
  · simp [h, State.settleFrames]
  · simp [h]

theorem clearFlags_slips (s : State) (k : Trunk) (flags : BitVec 16)
    (h : ((s.recordAt (.trunk k)).flags &&& flags).getLsbD 2) : ((s.clearFlags (.trunk k) flags).trunk k).slips = 0 :=
  clearedTrunk_slips _ k _ h

theorem clearFlags_reports (s : State) (l : LoopId) (flags : BitVec 16)
    (h : ((s.recordAt (.loop l)).flags &&& flags).getLsbD 0) (hst : (s.feed l).state = .tripped)
    (hd : (s.feed l).desired) : .feedStateReport l .settling true ∈ (s.clearFlags (.loop l) flags).handed :=
  clearedLoop_reports _ l _ h (by simpa using hst) (by simpa using hd)

/-- A clear carried out, in the words of the rules: the flags and the count of the record (R179), and the effects on the
slip count, the supply flag and the feeds (R33 to R35, R128, R180). -/
structure Cleared (s d : State) (r : RecRef) (flags : Nat) : Prop where
  kept : r ≠ .sect ∨ flags.testBit 1 = false ∨ (s.recordAt r).flags.getLsbD 1 = false ∨ s.supply.state = .good →
    (d.recordAt r).count = (s.recordAt r).count ∧
    ∀ k, k < 16 → (d.recordAt r).flags.getLsbD k = ((s.recordAt r).flags.getLsbD k && !flags.testBit k)
  relatched : r = .sect → flags.testBit 1 → (s.recordAt r).flags.getLsbD 1 → s.supply.state = .low →
    (d.recordAt r).count = (s.recordAt r).count + 1 ∧ (d.recordAt r).flags.getLsbD 1
  slips : ∀ k, r = .trunk k → flags.testBit 2 → (s.recordAt r).flags.getLsbD 2 → (d.trunk k).slips = 0
  feeds : ∀ l, d.feed l =
    if r = .loop l ∧ flags.testBit 0 ∧ (s.recordAt r).flags.getLsbD 0 ∧ (s.feed l).state = .tripped ∧
        (s.feed l).desired then
      { s.feed l with
        state := .settling
        settle := .running (s.param 14 * 8)
        trip := if 150 ≤ (s.feed l).current then some 0 else none
        opn := .stopped }
    else if r = .loop l ∧ flags.testBit 1 ∧ (s.recordAt r).flags.getLsbD 1 ∧ (s.feed l).state = .on then
      { s.feed l with opn := if (s.feed l).current < 4 then .running 0 else .stopped }
    else s.feed l
  report : ∀ l, r = .loop l → flags.testBit 0 → (s.recordAt r).flags.getLsbD 0 → (s.feed l).state = .tripped →
    (s.feed l).desired → .feedStateReport l .settling true ∈ d.handed
  records : ∀ q, d.record q = s.record q
  others : ∀ r', r' ≠ r → d.recordAt r' = s.recordAt r'

theorem cleared_clearFlags (s : State) (r : RecRef) (flags : Nat) :
    Cleared s (s.clearFlags r (BitVec.ofNat 16 flags)) r flags where
  kept h := by
    rw [clearFlags_recordAt, if_neg]
    · exact ⟨rfl, clear_getLsbD _ flags⟩
    · rw [cleared_getLsbD _ _ _ (by decide)]
      rintro ⟨hsect, ⟨hnamed, hlatched⟩, hlow⟩
      simp_all
  relatched hsect hnamed hlatched hlow := by
    have hgone : ((s.recordAt r).clear (BitVec.ofNat 16 flags)).has 1 = false := by
      rw [FaultRec.has, clear_getLsbD _ _ _ (by decide), hnamed, Bool.not_true, Bool.and_false]
    rw [clearFlags_recordAt, if_pos ⟨hsect, (cleared_getLsbD _ _ _ (by decide)).2 ⟨hnamed, hlatched⟩, hlow⟩]
    refine ⟨?_, FaultRec.latch_has _ 1 (by decide)⟩
    rw [FaultRec.latch_count, if_neg (by simp [hgone]), FaultRec.clear_count]
  slips k hr hnamed hlatched := by
    subst hr
    exact clearFlags_slips s k _ ((cleared_getLsbD _ _ _ (by decide)).2 ⟨hnamed, hlatched⟩)
  feeds l := by
    simp only [clearFlags_feed, cleared_getLsbD (s.recordAt r) flags 0 (by decide),
      cleared_getLsbD (s.recordAt r) flags 1 (by decide), and_assoc]
    exact ite_congr rfl (fun _ => rfl) fun _ => ite_congr rfl (fun ⟨_, _, _, hon⟩ => if_pos hon) fun _ => rfl
  report l hr hnamed hlatched hst hd := by
    subst hr
    exact clearFlags_reports s l _ ((cleared_getLsbD _ _ _ (by decide)).2 ⟨hnamed, hlatched⟩) hst hd
  records q := by simp
  others r' h := clearFlags_recordAt_of_ne s r r' _ h

/-! ### CLEAR-FAULT (R179) -/

/-- Taking the event and moving the management home leave the fault records. -/
theorem asked_recordAt (s : State) (i : Instr) (t : Trunk) (r : RecRef) : (s.asked i t).recordAt r = s.recordAt r := rfl

theorem clearFault_noRecord (s : State) (kind index count flags : Nat) (h : RecRef.ofCodes kind index = none) :
    s.clearFault kind index count flags = s.refuse .badIndex := by
  simp [State.clearFault, h]

theorem clearFault_body (s : State) (kind index count flags : Nat) (r : RecRef) (h : RecRef.ofCodes kind index = some r) :
    (s.clearFault kind index count flags).body = (s.clearFault kind index count flags).st.recordBody kind index r := by
  simp only [State.clearFault, h]
  split_ifs <;> rfl

theorem clearFault_badValue (s : State) (kind index count flags : Nat) (r : RecRef)
    (h : RecRef.ofCodes kind index = some r) (hflags : 2 ^ r.flagCount ≤ flags) :
    s.clearFault kind index count flags = ⟨s, .badValue, s.recordBody kind index r⟩ := by
  simp only [State.clearFault, h, if_pos hflags]

theorem clearFault_changed (s : State) (kind index count flags : Nat) (r : RecRef)
    (h : RecRef.ofCodes kind index = some r) (hflags : flags < 2 ^ r.flagCount)
    (hcount : (s.recordAt r).count.toNat ≠ count) :
    s.clearFault kind index count flags = ⟨s, .changed, s.recordBody kind index r⟩ := by
  simp only [State.clearFault, h, if_neg (Nat.not_le.2 hflags), if_pos hcount]

theorem clearFault_ok (s : State) (kind index count flags : Nat) (r : RecRef)
    (h : RecRef.ofCodes kind index = some r) (hflags : flags < 2 ^ r.flagCount)
    (hcount : (s.recordAt r).count.toNat = count) :
    s.clearFault kind index count flags =
      ⟨s.clearFlags r (BitVec.ofNat 16 flags), .ok,
        (s.clearFlags r (BitVec.ofNat 16 flags)).recordBody kind index r⟩ := by
  simp only [State.clearFault, h, if_neg (Nat.not_le.2 hflags), if_neg (not_not_intro hcount)]

/-- Settles O57: the REPLY of either request by its execution, and a clear carried out by `Cleared`. -/
theorem planAndClearRequests : Obligations.PlanAndClearRequests := by
  refine ⟨fun t plan s hfree => ?_, fun t kind index count flags s hfree => ?_⟩
  · have hrep := arrive_replied (.setPlan t plan) t (.setPlan plan) s hfree
    refine ⟨fun hbad => ?_, fun hok => ?_⟩
    · simp only [State.perform, setActivePlan_badValue _ _ hbad] at hrep
      exact hrep
    · simp only [State.perform, setActivePlan_ok _ _ hok] at hrep
      exact hrep
  · obtain ⟨u, hexec, hrep⟩ :=
      arrive_replied (.clearFault t kind index count flags) t (.clearFault kind index count flags) s hfree
    simp only [State.perform] at hrep
    generalize hanswer :
      (s.asked (.clearFault t kind index count flags) t).clearFault kind index count flags = answer at hrep
    refine ⟨fun hnone => ?_, fun r hr => ⟨answer.st, u, answer.result, hexec, ?_, fun hbad => ?_, fun hflags hcount => ?_,
      fun hflags hcount => ?_⟩⟩
    · rw [clearFault_noRecord _ _ _ _ _ hnone] at hanswer
      subst hanswer
      exact ⟨u, hexec, hrep⟩
    · have hbody : answer.body = answer.st.recordBody kind index r := hanswer ▸ clearFault_body _ _ _ _ _ r hr
      rwa [hbody] at hrep
    · rw [clearFault_badValue _ _ _ _ _ r hr hbad] at hanswer
      subst hanswer
      exact ⟨rfl, rfl⟩
    · rw [clearFault_changed _ _ _ _ _ r hr hflags (by rwa [asked_recordAt])] at hanswer
      subst hanswer
      exact ⟨rfl, rfl⟩
    · rw [clearFault_ok _ _ _ _ _ r hr hflags (by rwa [asked_recordAt])] at hanswer
      subst hanswer
      have hcleared := cleared_clearFlags (s.asked (.clearFault t kind index count flags) t) r flags
      exact ⟨rfl, hcleared.kept, hcleared.relatched, hcleared.slips, hcleared.feeds, hcleared.report, hcleared.records,
        hcleared.others⟩

end Sys2Proof.LoopPowerFeed
end

section
/-! The post directory and naming (03), with the service handler's side of it (09, 10): what leaves the tables, what a write
stores, and the invariant of the tables. -/

namespace Sys2Proof.PostDirectory
open Sys2Proof Sys2Proof.Machine

/-- The tables that the rules of R41, R90, R152, R153 and R170 speak of. -/
def tablesOf (s : State) : Vector Nat 25 × Vector PostRecord 96 × Vector (List Target) 64 × Vector SegRec 16 × List Host.Cell :=
  (s.settings, s.directory, s.routes, s.segments, s.samples)

theorem tablesOk_congr {s t : State} (h : tablesOf t = tablesOf s) : t.tablesOk ↔ s.tablesOk := by
  simp only [tablesOf, Prod.mk.injEq] at h
  obtain ⟨hset, hdir, hroute, hseg, hsam⟩ := h
  simp only [State.tablesOk, State.settingsOk, State.param, State.record, State.segment, hset, hdir, hroute, hseg, hsam]

/-- The trunk and the request of a row of the service channel's requests. -/
def requestOf : Instr → Option (Trunk × Request)
  | .serviceRequestBuffered t req => some (t, req)
  | .readStatus t => some (t, .readStatus)
  | .readMap t loop => some (t, .readMap loop)
  | .readCalls t => some (t, .readCalls)
  | .readFault t kind index => some (t, .readFault kind index)
  | .clearFault t kind index count flags => some (t, .clearFault kind index count flags)
  | .readTableDirectory t index => some (t, .readTable 0 index)
  | .readTableRoute t index => some (t, .readTable 1 index)
  | .readTableSegment t index => some (t, .readTable 2 index)
  | .readTableSamples t index => some (t, .readTable 3 index)
  | .readTableSettings t index => some (t, .readTable 4 index)
  | .readTableMask t index => some (t, .readTable 5 index)
  | .writeTableDirectory t index w => some (t, .writeDirectory index w)
  | .writeTableRoute t index targets => some (t, .writeRoute index targets)
  | .writeTableSegment t index w => some (t, .writeSegment index w)
  | .writeTableSamples t index codes => some (t, .writeSamples index codes)
  | .writeTableSettings t index value => some (t, .writeSettings index value)
  | .writeTableMask t index enables => some (t, .writeMask index enables)
  | .setPlan t plan => some (t, .setPlan plan)
  | .loopControlFeedOn t loop => some (t, .loopControl loop 0)
  | .loopControlFeedOff t loop => some (t, .loopControl loop 1)
  | .loopControlRestart t loop => some (t, .loopControl loop 2)
  | .loopControlTest t loop => some (t, .loopControl loop 3)
  | .trunkControlEnable t trunk => some (t, .trunkControl trunk 0 0)
  | .trunkControlDisable t trunk => some (t, .trunkControl trunk 1 0)
  | .trunkControlBlock t trunk chan => some (t, .trunkControl trunk 2 chan)
  | .trunkControlUnblock t trunk chan => some (t, .trunkControl trunk 3 chan)
  | .sectionRestart t => some (t, .sectionRestart)
  | _ => none

/-- The part of the model that gives a row its meaning. -/
inductive Chapter where
  | power | loops | feeds | posts | calls | desks | trunks | voice | notices | reply | requests

/-- The part of the model that gives each row its meaning; the rows not named are the requests of the service channel. -/
def chapterOf : Instr → Chapter
  | .powerOn _ => .power
  | .loopReceiveUnaligned _ | .scanPick _ | .scanReturn _ | .scanTimeout _ | .timeoutGuardEnd _ | .pollTimerExpiry _
  | .sweepTimerExpiry _ | .reconfirmTimerExpiry _ | .reconciliation .. | .resultInstall .. | .structuralWriteReport ..
  | .invalidationReport .. | .feedStateReport .. => .loops
  | .settleTimerExpiry _ | .loopCurrentChange .. | .feedTrip _ | .openDetected _ | .supplyLoss _ | .supplyLevelChange _
  | .supplyRestore => .feeds
  | .callButtonPress .. | .hookChange .. | .doorSwitchChange .. | .healthFlagChange .. | .postPowerRestart ..
  | .bypassRelayChange .. => .posts
  | .rebuildReport .. | .directoryRelease .. | .requestReport .. | .callerReport .. | .bearerLiveReport ..
  | .bearerFreeReport .. | .loopStateReport .. | .testFailReport .. | .retryTimerExpiry _ | .offerTimeout _
  | .holdLong _ => .calls
  | .answer .. | .decline .. | .hold .. | .retrieve .. | .join .. | .leave .. | .release ..
  | .signallingMessageDiscard _ => .desks
  | .trunkFrameSend _ | .trunkFrameReceive .. | .farAlarmAbsent _ | .alignmentLost _ | .holdoverExpiry _ | .failover _
  | .trunkStateReport .. => .trunks
  | .loopFrame .. | .levelBlockComplete _ | .segmentEnd _ => .voice
  | .noticeStart | .faultLatch _ | .noticeRaise _ | .serviceMessageDiscard .. | .replyStart _ => .notices
  | .replyComplete _ => .reply
  | _ => .requests

theorem requestOf_of_chapterOf {i : Instr} (h : chapterOf i = .requests) : ∃ t req, requestOf i = some (t, req) := by
  cases i <;> cases h <;> exact ⟨_, _, rfl⟩

theorem exec_of_requestOf {i : Instr} {t : Trunk} {req : Request} (h : requestOf i = some (t, req)) (s : State) :
    exec i s = arrive i t req s := by
  cases i <;> simp only [requestOf, Option.some.injEq, Prod.mk.injEq, reduceCtorEq] at h <;> obtain ⟨rfl, rfl⟩ := h <;> rfl

/-- One step is a command carried out, of the queue or of the hand-off list, or one frame time. -/
theorem step_cases {s s' : State} (h : step s = .next s') :
    (∃ i rest, s.pending = i :: rest ∧ exec i { s with pending := rest } = .next s') ∨
    (∃ i rest, s.handed = i :: rest ∧ exec i s = .next s') ∨ s' = s.tick := by
  unfold step at h
  split at h
  · next i rest hp => exact .inl ⟨i, rest, hp, h⟩
  · unfold idleStep at h
    split at h
    · next i rest hh => exact .inr (.inl ⟨i, rest, hh, h⟩)
    · injection h with h
      exact .inr (.inr h.symm)

/-- What a step over the received stream keeps, and the catching up before it, the whole working of the stream keeps. -/
theorem workStream_keeps {β : Type} (g : State → β) (hstep : ∀ (t : Trunk) s, g (State.streamStep t s).1 = g s)
    (hcatch : ∀ (t : Trunk) s, g (s.catchTrunk t) = g s) (t : Trunk) (fuel : Nat) (s : State) :
    g (s.workStream t fuel) = g s := by
  induction fuel generalizing s with
  | zero => rfl
  | succ fuel ih =>
    unfold State.workStream
    dsimp only
    split_ifs
    · rfl
    · rw [ih, hstep, hcatch]
    · rw [hstep, hcatch]

/-! ### What leaves the tables -/

theorem workStream_tables (t : Trunk) (fuel : Nat) (s : State) : tablesOf (s.workStream t fuel) = tablesOf s :=
  workStream_keeps tablesOf (fun _ _ => by simp [tablesOf]) (fun _ _ => by simp [tablesOf]) t fuel s

theorem exec_tables_loops {i : Instr} {s t : State} (hi : chapterOf i = .loops) (h : exec i s = .next t) :
    tablesOf t = tablesOf s := by
  cases i <;> cases hi <;> injection h with h <;> subst h
  all_goals (repeat' split) <;> simp [tablesOf]

theorem exec_tables_feeds {i : Instr} {s t : State} (hi : chapterOf i = .feeds) (h : exec i s = .next t) :
    tablesOf t = tablesOf s := by
  cases i <;> cases hi <;> injection h with h <;> subst h
  all_goals (repeat' split) <;> simp [tablesOf]

theorem exec_tables_posts {i : Instr} {s t : State} (hi : chapterOf i = .posts) (h : exec i s = .next t) :
    tablesOf t = tablesOf s := by
  cases i <;> cases hi <;> injection h with h <;> subst h
  all_goals simp [tablesOf]

theorem exec_tables_calls {i : Instr} {s t : State} (hi : chapterOf i = .calls) (h : exec i s = .next t) :
    tablesOf t = tablesOf s := by
  cases i <;> cases hi <;> injection h with h <;> subst h
  all_goals (repeat' split) <;> simp [tablesOf]

/-- A control request is acted on for one context, or answered GONE (R100). -/
theorem deskRequest_cases {P : State → Prop} {s : State} {t : Trunk} {ref : OfferRef} {request : Byte}
    {act : CtxId → State} (hact : ∀ c, P (act c)) (hgone : P (s.answerGone t ref request)) :
    P (s.deskRequest t ref request act) := by
  unfold State.deskRequest
  split
  · exact hact _
  · exact hgone

theorem exec_tables_desks {i : Instr} {s t : State} (hi : chapterOf i = .desks) (h : exec i s = .next t) :
    tablesOf t = tablesOf s := by
  cases i <;> cases hi <;> injection h with h <;> subst h
  case signallingMessageDiscard => rfl
  all_goals
    refine deskRequest_cases (P := fun u => tablesOf u = tablesOf s) (fun c => ?_) (by simp [tablesOf])
    split <;> simp [tablesOf]

theorem exec_tables_trunks {i : Instr} {s t : State} (hi : chapterOf i = .trunks) (h : exec i s = .next t) :
    tablesOf t = tablesOf s := by
  cases i <;> cases hi <;> injection h with h <;> subst h
  case trunkFrameReceive => rw [workStream_tables]; simp [tablesOf]
  all_goals (repeat' split) <;> simp [tablesOf]

theorem exec_tables_voice {i : Instr} {s t : State} (hi : chapterOf i = .voice) (h : exec i s = .next t) :
    tablesOf t = tablesOf s := by
  cases i <;> cases hi <;>
    simp only [exec, execLoopFrame, execLevelBlockComplete, execSegmentEnd, Host.Outcome.next.injEq] at h <;> subst h
  all_goals simp [tablesOf]

theorem exec_tables_notices {i : Instr} {s t : State} (hi : chapterOf i = .notices) (h : exec i s = .next t) :
    tablesOf t = tablesOf s := by
  cases i <;> cases hi <;> injection h with h <;> subst h
  all_goals (repeat' split) <;> simp [tablesOf]

/-! ### A post record as it is written (R40 to R42) -/

/-- A written record names values of R40 alone, but for its loop, carriageway and zone. -/
def FieldsInRange (w : PostWrite) : Prop :=
  w.valid = 1 ∧ w.number ≤ 9999 ∧ 1 ≤ w.position ∧ w.position ≤ 12 ∧ w.road ≤ 999 ∧ w.marker ≤ 9999 ∧
    w.upGain ≤ 127 ∧ w.downGain ≤ 127 ∧ w.permits < 8 ∧ w.label1.length ≤ 20 ∧ w.label2.length ≤ 20

/-- The record of a write whose loop, carriageway and zone have been read. -/
def recordOf (w : PostWrite) (l : LoopId) (cw : Carriageway) (z : ZoneId) : PostRecord :=
  { valid := true, number := w.number, loop := l, position := w.position, plate := w.plate, road := w.road,
    carriageway := cw, marker := w.marker, zone := z, label1 := storedLabel w.label1, label2 := storedLabel w.label2,
    upGain := w.upGain, downGain := w.downGain,
    permits := ⟨w.permits.testBit 0, w.permits.testBit 1, w.permits.testBit 2⟩ }

theorem loopOfNat_eq_some {n : Nat} {l : LoopId} : loopOfNat n = some l ↔ l.val = n := by
  unfold loopOfNat
  split
  · rw [Option.some.injEq, Fin.ext_iff, eq_comm]
  · simp only [reduceCtorEq, false_iff]; omega

theorem carriagewayOfCode_eq_some {n : Nat} {cw : Carriageway} : Carriageway.ofCode n = some cw ↔ cw.code = n := by
  unfold Carriageway.ofCode
  split <;> cases cw <;> simp_all [Carriageway.code] <;> omega

theorem ofWrite_eq_some {w : PostWrite} {r : PostRecord} :
    PostRecord.ofWrite w = some r ↔
      ∃ (l : LoopId) (cw : Carriageway) (z : ZoneId),
        l.val = w.loop ∧ cw.code = w.carriageway ∧ z.val = w.zone ∧ FieldsInRange w ∧ r = recordOf w l cw z := by
  constructor
  · intro h
    unfold PostRecord.ofWrite at h
    split at h
    · next l cw hl hcw =>
      split_ifs at h with hz hrange
      injection h with h
      exact ⟨l, cw, ⟨w.zone, hz⟩, loopOfNat_eq_some.1 hl, carriagewayOfCode_eq_some.1 hcw, rfl, hrange, h.symm⟩
    · cases h
  · rintro ⟨l, cw, z, hl, hcw, hz, hrange, rfl⟩
    have hz16 : w.zone < 16 := hz ▸ z.isLt
    have hzone : z = ⟨w.zone, hz16⟩ := Fin.ext hz
    rw [PostRecord.ofWrite, loopOfNat_eq_some.2 hl, carriagewayOfCode_eq_some.2 hcw, hzone]
    exact (dif_pos hz16).trans (if_pos hrange)

theorem labelChar_stored (c : Byte) : labelChar (if labelChar c then c else 0x3F) = true := by
  split
  · assumption
  · decide

theorem storedLabel_all_labelChar (l : List Byte) : (storedLabel l).all labelChar = true := by
  simp only [storedLabel, List.all_map, List.all_eq_true]
  exact fun c _ => labelChar_stored c

theorem inRange_of_ofWrite {w : PostWrite} {r : PostRecord} (h : PostRecord.ofWrite w = some r) : r.inRange := by
  obtain ⟨l, cw, z, -, -, -, ⟨-, hnum, hlow, hhigh, hroad, hmark, hup, hdown, -, h1, h2⟩, rfl⟩ := ofWrite_eq_some.1 h
  exact ⟨hnum, hlow, hhigh, hroad, hmark, hup, hdown, by simpa [recordOf, storedLabel] using h1,
    by simpa [recordOf, storedLabel] using h2, storedLabel_all_labelChar _, storedLabel_all_labelChar _⟩

theorem clashes_iff (a b : PostRecord) : a.clashes b = true ↔
    a.number = b.number ∨ (a.loop = b.loop ∧ (a.plate = b.plate ∨ a.position = b.position)) := by
  simp [PostRecord.clashes]

theorem clashes_comm (a b : PostRecord) : a.clashes b = b.clashes a := by
  rw [Bool.eq_iff_iff, clashes_iff, clashes_iff]
  simp only [eq_comm]

/-- A write is refused as a duplicate where another valid slot clashes with it (R41 step 4). -/
theorem duplicates_iff (s : State) (q : SlotId) (r : PostRecord) : s.duplicates q r = true ↔
    ∃ p, p ≠ q ∧ (s.record p).valid ∧ (s.record p).clashes r = true := by
  simp [State.duplicates, allSlots, and_assoc]

/-! ### The law of R41 -/

/-- No two valid slots clash, and every valid record is in range: what R40 and R41 say of the directory. -/
def directoryOk (s : State) : Prop :=
  (∀ q, (s.record q).valid → (s.record q).inRange) ∧
  ∀ p q, p ≠ q → (s.record p).valid → (s.record q).valid → (s.record p).clashes (s.record q) = false

theorem tablesOk_iff (s : State) : s.tablesOk ↔
    s.settingsOk ∧ directoryOk s ∧ (∀ i : Fin 64, routeInRange s.routes[i]) ∧ (∀ k, (s.segment k).inRange) ∧
      Samples.wf s.samples := by
  have hclash (a b : PostRecord) : a.clashes b = false ↔
      a.number ≠ b.number ∧ (a.loop = b.loop → a.plate ≠ b.plate ∧ a.position ≠ b.position) := by
    rw [← Bool.not_eq_true, clashes_iff]; tauto
  simp only [State.tablesOk, directoryOk, hclash, and_assoc]

theorem directoryOk_setRecord_invalid {s : State} (h : directoryOk s) (q : SlotId) {r : PostRecord} (hr : r.valid = false) :
    directoryOk (s.setRecord q r) := by
  have hrec (p : SlotId) (hp : ((s.setRecord q r).record p).valid) : (s.setRecord q r).record p = s.record p := by
    by_cases hpq : q = p
    · subst hpq; simp [hr] at hp
    · exact State.setRecord_record_of_ne s q r p hpq
  refine ⟨fun p hp => ?_, fun p p' hne hp hp' => ?_⟩
  · rw [hrec p hp]
    exact h.1 p (hrec p hp ▸ hp)
  · rw [hrec p hp, hrec p' hp']
    exact h.2 p p' hne (hrec p hp ▸ hp) (hrec p' hp' ▸ hp')

theorem directoryOk_setRecord {s : State} (h : directoryOk s) (q : SlotId) {r : PostRecord} (hrange : r.inRange)
    (hdup : s.duplicates q r = false) : directoryOk (s.setRecord q r) := by
  have hfree (p : SlotId) (hne : p ≠ q) (hp : (s.record p).valid) : (s.record p).clashes r = false := by
    rw [← Bool.not_eq_true]
    exact fun hc => absurd ((duplicates_iff s q r).2 ⟨p, hne, hp, hc⟩) (by simp [hdup])
  refine ⟨fun p hp => ?_, fun p p' hne hp hp' => ?_⟩
  · by_cases hpq : q = p
    · subst hpq; simpa using hrange
    · rw [State.setRecord_record_of_ne _ _ _ _ hpq] at hp ⊢
      exact h.1 p hp
  · by_cases hpq : q = p
    · subst hpq
      rw [State.setRecord_record_of_ne _ _ _ _ hne] at hp' ⊢
      rw [State.setRecord_record, clashes_comm]
      exact hfree p' (Ne.symm hne) hp'
    · rw [State.setRecord_record_of_ne _ _ _ _ hpq] at hp ⊢
      by_cases hpq' : q = p'
      · subst hpq'
        rw [State.setRecord_record]
        exact hfree p hne hp
      · rw [State.setRecord_record_of_ne _ _ _ _ hpq'] at hp' ⊢
        exact h.2 p p' hne hp hp'

theorem emptySlot_record (s : State) (q p : SlotId) :
    (s.emptySlot q).record p = (s.setRecord q PostRecord.empty).record p := by
  unfold State.emptySlot; dsimp only; split <;> simp

theorem reportWrite_record (s : State) (q : SlotId) (old new : PostRecord) (p : SlotId) :
    (s.reportWrite q old new).record p = s.record p := by simp

theorem directoryOk_congr {s t : State} (h : ∀ q, t.record q = s.record q) : directoryOk t ↔ directoryOk s := by
  simp only [directoryOk, h]

/-- A write to the directory keeps the law of R41. -/
theorem writeDirectory_directoryOk {s : State} (h : directoryOk s) (index : Nat) (w : PostWrite) :
    directoryOk (s.writeDirectory index w).1 := by
  unfold State.writeDirectory
  split
  · exact h
  · next q _ =>
    split_ifs with hempty
    · exact (directoryOk_congr (emptySlot_record s q)).2 (directoryOk_setRecord_invalid h q rfl)
    · split
      · exact h
      · next r hr =>
        by_cases hdup : s.duplicates q r = true
        · rw [if_pos hdup]; exact h
        · rw [if_neg hdup]
          exact (directoryOk_congr (reportWrite_record _ q _ r)).2
            (directoryOk_setRecord h q (inRange_of_ofWrite hr) (by simpa using hdup))

/-! ### The other tables (R90, R152, R153, R170) -/

theorem targetOf_inRange {w : TargetWrite} {t : Target} (h : targetOf w = some t) :
    t.group ≤ 63 ∧ 1 ≤ t.timeout ∧ t.timeout ≤ 60 := by
  unfold targetOf at h
  split at h
  · split_ifs at h with hg
    injection h with h
    subst h
    exact ⟨hg, by simp, by simp⟩
  · cases h

theorem targetsOf_inRange {ws : List TargetWrite} {ts : List Target} (h : targetsOf ws = some ts) :
    ts.length = ws.length ∧ ∀ t ∈ ts, t.group ≤ 63 ∧ 1 ≤ t.timeout ∧ t.timeout ≤ 60 := by
  induction ws generalizing ts with
  | nil => injection h with h; subst h; simp
  | cons w ws ih =>
    unfold targetsOf at h
    split at h
    · next t ts' ht hts =>
      injection h with h
      subst h
      obtain ⟨hlen, hall⟩ := ih hts
      exact ⟨by simp [hlen], List.forall_mem_cons.2 ⟨targetOf_inRange ht, hall⟩⟩
    · cases h

theorem routeInRange_of_targetsOf {ws : List TargetWrite} {ts : List Target} (h : targetsOf ws = some ts)
    (hlen : ws.length ≤ 3) (hne : ts ≠ []) : routeInRange ts := by
  obtain ⟨hl, hall⟩ := targetsOf_inRange h
  exact ⟨List.length_pos_iff.2 hne, hl ▸ hlen, hall⟩

theorem routeInRange_default : routeInRange defaultRoute := by
  simp [routeInRange, defaultRoute]

theorem segRec_ofWrite_inRange {w : SegmentWrite} {r : SegRec} (h : SegRec.ofWrite w = some r) : r.inRange := by
  unfold SegRec.ofWrite at h
  split at h
  · split_ifs at h with hw
    injection h with h
    subst h
    obtain ⟨-, hstart, hlen⟩ := hw
    have hsize : Config.storeSize = 16384 := rfl
    constructor <;> dsimp only <;> omega
  · cases h

theorem params_low_le_high (p : Fin 25) : Config.params[p].low ≤ Config.params[p].high := by
  revert p; decide

theorem clampParam_inRange (p : Fin 25) (v : Nat) :
    Config.params[p].low ≤ clampParam p v ∧ clampParam p v ≤ Config.params[p].high :=
  ⟨Nat.le_max_left .., Nat.max_le.2 ⟨params_low_le_high p, Nat.min_le_right ..⟩⟩

/-! ### Requests keep the tables (R163, R169) -/

/-- A state whose tables are those of a state in order is in order. -/
theorem tablesOk_of_tablesOf_eq {s t : State} (hs : s.tablesOk) (h : tablesOf t = tablesOf s) : t.tablesOk :=
  (tablesOk_congr h).2 hs

theorem writeSlot_tablesOk {s : State} (h : s.tablesOk) (index : Nat) (w : PostWrite) :
    (s.writeSlot index w).st.tablesOk := by
  obtain ⟨hset, hdir, hroute, hseg, hsam⟩ := (tablesOk_iff s).1 h
  refine (tablesOk_iff _).2 ⟨?_, writeDirectory_directoryOk hdir index w, ?_, ?_, ?_⟩
  · simpa [State.writeSlot, State.settingsOk] using hset
  · simpa [State.writeSlot] using hroute
  · simpa [State.writeSlot] using hseg
  · simpa [State.writeSlot] using hsam

theorem storeRoute_tablesOk {s : State} (h : s.tablesOk) (i : Fin 64) {ts : List Target} (hts : routeInRange ts) :
    (s.storeRoute i ts).tablesOk := by
  obtain ⟨hset, hdir, hroute, hseg, hsam⟩ := (tablesOk_iff s).1 h
  refine tablesOk_of_tablesOf_eq (s := { s with routes := s.routes.set i ts })
    ((tablesOk_iff _).2 ⟨hset, hdir, fun j => ?_, hseg, hsam⟩) (by simp [tablesOf, State.storeRoute])
  simp only [Fin.getElem_fin, Vector.getElem_set]
  split_ifs
  · exact hts
  · exact hroute j

theorem writeRoute_tablesOk {s : State} (h : s.tablesOk) (index : Nat) (ws : List TargetWrite) :
    (s.writeRoute index ws).st.tablesOk := by
  unfold State.writeRoute
  split
  · exact h
  · by_cases hlen : 3 < ws.length
    · rw [if_pos hlen]; exact h
    · rw [if_neg hlen]
      split
      · exact h
      · exact storeRoute_tablesOk h _ routeInRange_default
      · next ts hne hts => exact storeRoute_tablesOk h _ (routeInRange_of_targetsOf hts (by omega) hne)

theorem setSegment_tablesOk {s : State} (h : s.tablesOk) (k : SegId) {r : SegRec} (hr : r.inRange) :
    (s.setSegment k r).tablesOk := by
  obtain ⟨hset, hdir, hroute, hseg, hsam⟩ := (tablesOk_iff s).1 h
  refine (tablesOk_iff _).2 ⟨hset, hdir, hroute, fun j => ?_, hsam⟩
  by_cases hj : k = j
  · subst hj; simpa using hr
  · rw [State.setSegment_segment_of_ne _ _ _ _ hj]; exact hseg j

theorem writeSegment_tablesOk {s : State} (h : s.tablesOk) (index : Nat) (w : SegmentWrite) :
    (s.writeSegment index w).st.tablesOk := by
  unfold State.writeSegment
  split
  · exact h
  · by_cases hempty : w.valid = 0
    · rw [if_pos hempty]; exact setSegment_tablesOk h _ ⟨Nat.le_refl 1, by decide⟩
    · rw [if_neg hempty]
      split
      · exact h
      · next r hr => exact setSegment_tablesOk h _ (segRec_ofWrite_inRange hr)

theorem writeSamples_tablesOk {s : State} (h : s.tablesOk) (index : Nat) (codes : List Byte) :
    (s.writeSamples index codes).st.tablesOk := by
  obtain ⟨hset, hdir, hroute, hseg, hsam⟩ := (tablesOk_iff s).1 h
  unfold State.writeSamples
  split_ifs with hi
  · have hfit : 64 * index + (codes.take 64).length ≤ Config.storeSize := by
      have hsize : Config.storeSize = 16384 := rfl
      have := List.length_take_le 64 codes
      omega
    exact (tablesOk_iff _).2 ⟨hset, hdir, hroute, hseg, Samples.writeList_wf hfit hsam⟩
  · exact h

theorem storeSetting_tablesOk {s : State} (h : s.tablesOk) (p : Fin 25) (v : Nat) :
    (s.storeSetting p (clampParam p v)).tablesOk := by
  obtain ⟨hset, hdir, hroute, hseg, hsam⟩ := (tablesOk_iff s).1 h
  refine tablesOk_of_tablesOf_eq (s := { s with settings := s.settings.set p (clampParam p v) })
    ((tablesOk_iff _).2 ⟨fun q => ?_, hdir, hroute, hseg, hsam⟩) (by simp [tablesOf, State.storeSetting])
  have hq : ({ s with settings := s.settings.set p (clampParam p v) } : State).param q =
      if p = q then clampParam p v else s.param q := by
    simp [State.param, Vector.getElem_set, Fin.ext_iff]
  rw [hq]
  split_ifs with hpq
  · subst hpq; exact clampParam_inRange p v
  · exact hset q

theorem writeSettings_tablesOk {s : State} (h : s.tablesOk) (index value : Nat) :
    (s.writeSettings index value).st.tablesOk := by
  unfold State.writeSettings
  split
  · exact h
  · exact storeSetting_tablesOk h _ value

theorem writeMask_tables (s : State) (index enables : Nat) : tablesOf (s.writeMask index enables).st = tablesOf s := by
  unfold State.writeMask
  split_ifs
  · simp [tablesOf, State.carried]
  · rfl

theorem setActivePlan_tables (s : State) (plan : Nat) : tablesOf (s.setActivePlan plan).st = tablesOf s := by
  unfold State.setActivePlan
  split
  · rfl
  · simp [tablesOf]

theorem readMap_st (s : State) (loop : Nat) : (s.readMap loop).st = s := by
  unfold State.readMap; split <;> rfl

theorem readFault_st (s : State) (kind index : Nat) : (s.readFault kind index).st = s := by
  unfold State.readFault; split <;> rfl

theorem readTable_st (s : State) (table index : Nat) : (s.readTable table index).st = s := by
  have hread (o : Option (List Byte)) : (readEntry s table index o).st = s := by cases o <;> rfl
  unfold State.readTable
  split <;> exact hread _

theorem loopControl_tables (s : State) (loop action : Nat) :
    tablesOf (s.loopControl loop action).st = tablesOf s := by
  unfold State.loopControl
  (repeat' split) <;> simp [tablesOf, State.refuse, State.carried]

theorem trunkControl_tables (s : State) (trunk action chan : Nat) :
    tablesOf (s.trunkControl trunk action chan).st = tablesOf s := by
  unfold State.trunkControl State.onChannel
  (repeat' split) <;> simp [tablesOf, State.refuse, State.carried]

theorem clearFault_tables (s : State) (kind index count flags : Nat) :
    tablesOf (s.clearFault kind index count flags).st = tablesOf s := by
  unfold State.clearFault
  (repeat' split) <;> simp [tablesOf, State.refuse]

/-- A request carried out keeps the tables within their rules: the five writes by their own lemmas, and no other request
reaches a table. -/
theorem perform_tablesOk {s : State} (h : s.tablesOk) (req : Request) : (s.perform req).st.tablesOk := by
  cases req with
  | writeDirectory index w => exact writeSlot_tablesOk h index w
  | writeRoute index ws => exact writeRoute_tablesOk h index ws
  | writeSegment index w => exact writeSegment_tablesOk h index w
  | writeSamples index codes => exact writeSamples_tablesOk h index codes
  | writeSettings index value => exact writeSettings_tablesOk h index value
  | readTable table index => simpa only [State.perform, readTable_st] using h
  | loopControl loop action => exact tablesOk_of_tablesOf_eq h (loopControl_tables s loop action)
  | trunkControl trunk action chan => exact tablesOk_of_tablesOf_eq h (trunkControl_tables s trunk action chan)
  | clearFault kind index count flags => exact tablesOk_of_tablesOf_eq h (clearFault_tables s kind index count flags)
  | readStatus | readCalls | writeUnknown => exact h
  | readMap loop => simpa only [State.perform, readMap_st] using h
  | readFault kind index => simpa only [State.perform, readFault_st] using h
  | writeMask index enables => exact tablesOk_of_tablesOf_eq h (writeMask_tables s index enables)
  | setPlan plan => exact tablesOk_of_tablesOf_eq h (setActivePlan_tables s plan)
  | sectionRestart => exact tablesOk_of_tablesOf_eq h (by simp [tablesOf, State.perform, State.carried])

theorem execute_tablesOk {s : State} (h : s.tablesOk) (t : Trunk) (req : Request) : (s.execute t req).tablesOk :=
  tablesOk_of_tablesOf_eq
    (perform_tablesOk (tablesOk_of_tablesOf_eq (t := s.setHome t) h (by simp [tablesOf])) req)
    (by simp [tablesOf, State.execute])

theorem accept_tablesOk {s : State} (h : s.tablesOk) (t : Trunk) (req : Request) : (s.accept t req).tablesOk := by
  unfold State.accept
  split
  · exact execute_tablesOk h t req
  · exact tablesOk_of_tablesOf_eq h (by simp [tablesOf])
  · exact h

theorem afterReply_tablesOk {s : State} (h : s.tablesOk) (t : Trunk) : (s.afterReply t).tablesOk := by
  unfold State.afterReply
  split
  · exact execute_tablesOk (tablesOk_of_tablesOf_eq h (by simp [tablesOf])) t _
  · split_ifs
    · exact tablesOk_of_tablesOf_eq h (by simp [tablesOf])
    · exact h

theorem params_dflt_inRange (p : Fin 25) :
    Config.params[p].low ≤ Config.params[p].dflt ∧ Config.params[p].dflt ≤ Config.params[p].high := by
  revert p; decide

theorem reset_tablesOk : State.reset.tablesOk := by
  refine (tablesOk_iff _).2 ⟨fun p => ?_, ⟨fun q hq => ?_, fun q _ _ hq => ?_⟩, fun i => ?_, fun k => ?_, rfl⟩
  · simpa [State.param, State.reset] using params_dflt_inRange p
  · simp [State.record, State.reset, PostRecord.empty] at hq
  · simp [State.record, State.reset, PostRecord.empty] at hq
  · simpa [State.reset] using routeInRange_default
  · unfold SegRec.inRange; revert k; decide

theorem powered_tables (s : State) (level : Nat) : tablesOf (s.powered level) = tablesOf State.reset := rfl

theorem exec_tablesOk {i : Instr} {s t : State} (hs : s.tablesOk) (h : exec i s = .next t) : t.tablesOk := by
  cases hi : chapterOf i with
  | power =>
    cases i <;> cases hi
    injection h with h
    subst h
    refine tablesOk_of_tablesOf_eq reset_tablesOk ?_
    split_ifs
    · simpa [tablesOf] using powered_tables s _
    · exact powered_tables s _
  | reply =>
    cases i <;> cases hi
    injection h with h
    subst h
    split_ifs
    · exact afterReply_tablesOk (tablesOk_of_tablesOf_eq hs (by simp [tablesOf])) _
    · exact hs
  | requests =>
    obtain ⟨k, req, hreq⟩ := requestOf_of_chapterOf hi
    rw [exec_of_requestOf hreq] at h
    injection h with h
    subst h
    exact accept_tablesOk (s := s.take i) hs k req
  | loops => exact tablesOk_of_tablesOf_eq hs (exec_tables_loops hi h)
  | feeds => exact tablesOk_of_tablesOf_eq hs (exec_tables_feeds hi h)
  | posts => exact tablesOk_of_tablesOf_eq hs (exec_tables_posts hi h)
  | calls => exact tablesOk_of_tablesOf_eq hs (exec_tables_calls hi h)
  | desks => exact tablesOk_of_tablesOf_eq hs (exec_tables_desks hi h)
  | trunks => exact tablesOk_of_tablesOf_eq hs (exec_tables_trunks hi h)
  | voice => exact tablesOk_of_tablesOf_eq hs (exec_tables_voice hi h)
  | notices => exact tablesOk_of_tablesOf_eq hs (exec_tables_notices hi h)

/-- Settles O4: a command carried out keeps the tables within their rules, and a frame time reaches none. -/
theorem everyStepKeepsTheTables : Obligations.EveryStepKeepsTheTables := by
  intro s s' hs hstep
  rcases step_cases hstep with ⟨i, rest, -, h⟩ | ⟨i, rest, -, h⟩ | htick
  · have hrest : ({ s with pending := rest } : State).tablesOk := tablesOk_of_tablesOf_eq hs (by simp only [tablesOf])
    exact exec_tablesOk hrest h
  · exact exec_tablesOk hs h
  · exact tablesOk_of_tablesOf_eq hs (by simp [tablesOf, htick])

end Sys2Proof.PostDirectory
end

section
/-! The reads and the writes of the directory as the management sees them (R41 to R43, R58 to R60, R169), and the reads of the
other tables (R91, R151, R153, R170). -/

namespace Sys2Proof.PostDirectory

open Sys2Proof Sys2Proof.Machine Sys2Proof.LoopPowerFeed

/-! ### A request and its REPLY -/

/-- A request that finds its executing place empty, by its own row: what it answers and what it leaves. -/
theorem exec_replied (i : Instr) {t : Trunk} (req : Request) (hreq : requestOf i = some (t, req)) {s : State}
    (hfree : (s.service t).executing = none) {d : Done} (hd : (s.asked i t).perform req = d) :
    ∃ u : State, exec i s = .next u ∧ Replied t req d.result d.body d.st u := by
  rw [exec_of_requestOf hreq, ← hd]
  exact arrive_replied i t req s hfree

theorem asked_record (s : State) (i : Instr) (t : Trunk) (q : SlotId) : (s.asked i t).record q = s.record q := rfl

theorem asked_segment (s : State) (i : Instr) (t : Trunk) (k : SegId) : (s.asked i t).segment k = s.segment k := rfl

/-! ### Reads of the tables (R169, R195, R199) -/

theorem readEntry_dite (s : State) (table index : Nat) {c : Prop} [Decidable c] (entry : c → List Byte) :
    readEntry s table index (if h : c then some (entry h) else none) =
      ⟨s, if c then .ok else .badIndex, [byte table, byte index] ++ if h : c then entry h else []⟩ := by
  by_cases h : c <;> simp [h, readEntry, tableBody]

theorem carriageway_code (cw : Carriageway) : byte cw.code =
    (match cw with | .aDirection => 0 | .bDirection => 1 | .link => 2 | .central => 3 : Byte) := by
  cases cw <;> rfl

theorem afterAction_code (a : AfterAction) : byte a.code =
    (match a with | .next k => byte k.val | .restart => 0x10 | .stop => 0x11 : Byte) := by
  cases a <;> rfl

theorem postRecord_bytes (r : PostRecord) : r.bytes =
    [if r.valid then 1 else 0, byte (r.number / 256), byte r.number, byte r.loop.val, byte r.position, r.plate,
      byte (r.road / 256), byte r.road,
      match r.carriageway with | .aDirection => 0 | .bDirection => 1 | .link => 2 | .central => 3,
      byte (r.marker / 256), byte r.marker, byte r.zone.val, byte r.upGain, byte r.downGain,
      byte ((if r.permits.emergency then 1 else 0) + (if r.permits.breakdown then 2 else 0) +
        (if r.permits.service then 4 else 0))] ++
      byte r.label1.length :: r.label1 ++ byte r.label2.length :: r.label2 := by
  simp [PostRecord.bytes, flagByte, be16, labelBytes, carriageway_code]

theorem readDirectory_eq (s : State) (index : Nat) : s.readDirectory index =
    ⟨s, if index < 96 then .ok else .badIndex,
      [0, byte index] ++ if h : index < 96 then (s.record ⟨index, h⟩).bytes else []⟩ := by
  have hslot : (slotOfNat index).map (fun q => (s.record q).bytes) =
      if h : index < 96 then some (s.record ⟨index, h⟩).bytes else none := by
    unfold slotOfNat; split <;> rfl
  rw [State.readDirectory, hslot, readEntry_dite]
  rfl

theorem readRoute_eq (s : State) (index : Nat) : s.readRoute index =
    ⟨s, if index < 64 then .ok else .badIndex,
      [1, byte index] ++ if h : index < 64 then routeBytes s.routes[index] else []⟩ := by
  have hroute : (routeOfNat index).map (fun i => routeBytes s.routes[i]) =
      if h : index < 64 then some (routeBytes s.routes[index]) else none := by
    unfold routeOfNat; split <;> rfl
  rw [State.readRoute, hroute, readEntry_dite]
  rfl

theorem segRec_bytes (r : SegRec) : r.bytes =
    [if r.valid then 1 else 0, byte (r.start / 256), byte r.start, byte (r.length / 256), byte r.length,
      match r.after with | .next k => byte k.val | .restart => 0x10 | .stop => 0x11] := by
  simp [SegRec.bytes, flagByte, be16, afterAction_code]

theorem readSegment_eq (s : State) (index : Nat) : s.readSegment index =
    ⟨s, if index < 16 then .ok else .badIndex,
      [2, byte index] ++ if h : index < 16 then (s.segment ⟨index, h⟩).bytes else []⟩ := by
  have hseg : (segOfNat index).map (fun k => (s.segment k).bytes) =
      if h : index < 16 then some (s.segment ⟨index, h⟩).bytes else none := by
    unfold segOfNat; split <;> rfl
  rw [State.readSegment, hseg, readEntry_dite]
  rfl

theorem readSamples_eq (s : State) (index : Nat) : s.readSamples index =
    ⟨s, if index ≤ 255 then .ok else .badIndex,
      [3, byte index] ++ if index ≤ 255 then
        (List.range 64).map (fun k => Samples.read s.samples (64 * index + k)) else []⟩ := by
  rw [State.readSamples, Samples.readList_eq]
  exact readEntry_dite s 3 index fun _ => _

theorem readSettings_eq (s : State) (index : Nat) : s.readSettings index =
    ⟨s, if index < 25 then .ok else .badIndex,
      [4, byte index] ++ if h : index < 25 then be16 (s.param ⟨index, h⟩) else []⟩ := by
  have hparam : (paramOfNat index).map (fun p => be16 (s.param p)) =
      if h : index < 25 then some (be16 (s.param ⟨index, h⟩)) else none := by
    unfold paramOfNat; split <;> rfl
  rw [State.readSettings, hparam, readEntry_dite]
  rfl

theorem readMask_eq (s : State) (index : Nat) : s.readMask index =
    ⟨s, if index = 0 then .ok else .badIndex,
      [5, byte index] ++ if index = 0 then be16 s.mask.toNat else []⟩ :=
  readEntry_dite s 5 index fun _ => _

/-- Settles O52: each row reads its own table, whose entry stands in the layout of R195. -/
theorem tableReadsGiveTheEntryAsStored : Obligations.TableReadsGiveTheEntryAsStored := by
  intro t index s hfree
  refine ⟨?_, ?_, ?_, ?_, ?_, ?_⟩
  · have h := exec_replied (.readTableDirectory t index) (.readTable 0 index) rfl hfree (readDirectory_eq _ index)
    simp only [postRecord_bytes, asked_record] at h
    exact h
  · exact exec_replied (.readTableRoute t index) (.readTable 1 index) rfl hfree (readRoute_eq _ index)
  · have h := exec_replied (.readTableSegment t index) (.readTable 2 index) rfl hfree (readSegment_eq _ index)
    simp only [segRec_bytes, asked_segment] at h
    exact h
  · exact exec_replied (.readTableSamples t index) (.readTable 3 index) rfl hfree (readSamples_eq _ index)
  · exact exec_replied (.readTableSettings t index) (.readTable 4 index) rfl hfree (readSettings_eq _ index)
  · exact exec_replied (.readTableMask t index) (.readTable 5 index) rfl hfree (readMask_eq _ index)

/-! ### The steps of a write to the directory (R41) -/

theorem slotOfNat_val (q : SlotId) : slotOfNat q.val = some q := dif_pos q.isLt

theorem writeDirectory_noSlot (s : State) {index : Nat} (w : PostWrite) (h : 96 ≤ index) :
    s.writeDirectory index w = (s, .badIndex) := by
  have hslot : slotOfNat index = none := dif_neg (Nat.not_lt.2 h)
  rw [State.writeDirectory, hslot]

theorem writeDirectory_empties (s : State) (q : SlotId) (w : PostWrite) (h : w.valid = 0) :
    s.writeDirectory q.val w = (s.emptySlot q, .ok) := by
  rw [State.writeDirectory, slotOfNat_val]
  exact if_pos h

theorem writeDirectory_outOfRange (s : State) (q : SlotId) (w : PostWrite) (hv : w.valid ≠ 0)
    (h : PostRecord.ofWrite w = none) : s.writeDirectory q.val w = (s, .badValue) := by
  rw [State.writeDirectory, slotOfNat_val]
  dsimp only
  rw [if_neg hv, h]

theorem valid_of_ofWrite {w : PostWrite} {r : PostRecord} (h : PostRecord.ofWrite w = some r) : w.valid ≠ 0 := by
  obtain ⟨-, -, -, -, -, -, ⟨hvalid, -⟩, -⟩ := ofWrite_eq_some.1 h
  omega

theorem writeDirectory_clashing (s : State) (q : SlotId) {w : PostWrite} {r : PostRecord}
    (h : PostRecord.ofWrite w = some r) (hdup : s.duplicates q r = true) :
    s.writeDirectory q.val w = (s, .duplicate) := by
  rw [State.writeDirectory, slotOfNat_val]
  dsimp only
  rw [if_neg (valid_of_ofWrite h), h]
  exact if_pos hdup

theorem writeDirectory_stored (s : State) (q : SlotId) {w : PostWrite} {r : PostRecord}
    (h : PostRecord.ofWrite w = some r) (hdup : s.duplicates q r = false) :
    s.writeDirectory q.val w = ((s.setRecord q r).reportWrite q (s.record q) r,
      if r.label1 = w.label1 ∧ r.label2 = w.label2 then .ok else .okClamped) := by
  rw [State.writeDirectory, slotOfNat_val]
  dsimp only
  rw [if_neg (valid_of_ofWrite h), h]
  exact if_neg (by simp [hdup])

theorem writeDirectory_record_of_ne (s : State) (q p : SlotId) (w : PostWrite) (hne : p ≠ q) :
    (s.writeDirectory q.val w).1.record p = s.record p := by
  have hset (r : PostRecord) : (s.setRecord q r).record p = s.record p := State.setRecord_record_of_ne _ _ _ _ hne.symm
  by_cases hv : w.valid = 0
  · rw [writeDirectory_empties s q w hv, emptySlot_record, hset]
  · cases hr : PostRecord.ofWrite w with
    | none => rw [writeDirectory_outOfRange s q w hv hr]
    | some r =>
      cases hdup : s.duplicates q r with
      | true => rw [writeDirectory_clashing s q hr hdup]
      | false => rw [writeDirectory_stored s q hr hdup, reportWrite_record, hset]

/-! ### What a write reports (R58 to R60) -/

theorem emptySlot_reports (s : State) (q : SlotId) (h : (s.record q).valid) :
    .invalidationReport (s.record q).loop q ∈ (s.emptySlot q).handed := by
  simp [State.emptySlot, h]

/-- A write is structural where it makes a slot valid or moves its record (R58). -/
def Structural (old new : PostRecord) : Prop :=
  old.valid = false ∨ old.loop ≠ new.loop ∨ old.position ≠ new.position ∨ old.plate ≠ new.plate

theorem reportWrite_eq (s : State) (q : SlotId) (old new : PostRecord) :
    (¬ Structural old new → s.reportWrite q old new = s) ∧
    (Structural old new → (s.reportWrite q old new).handed =
      s.handed ++ .structuralWriteReport old.loop q (.before (old.loop != new.loop)) ::
        if old.loop = new.loop then [] else [.structuralWriteReport new.loop q .after]) := by
  have hcond : (old.valid ∧ old.loop = new.loop ∧ old.position = new.position ∧ old.plate = new.plate) ↔
      ¬ Structural old new := by simp [Structural]
  unfold State.reportWrite
  constructor
  · intro h; rw [if_pos (hcond.2 h)]
  · intro h
    rw [if_neg fun hc => hcond.1 hc h]
    by_cases hl : old.loop = new.loop <;> simp [hl]

theorem reportWrite_reports (s : State) (q : SlotId) {old new : PostRecord} (h : Structural old new) :
    .structuralWriteReport old.loop q (.before (old.loop != new.loop)) ∈ (s.reportWrite q old new).handed ∧
      (old.loop ≠ new.loop → .structuralWriteReport new.loop q .after ∈ (s.reportWrite q old new).handed) := by
  rw [(reportWrite_eq s q old new).2 h]
  exact ⟨by simp, fun hne => by simp [hne]⟩

/-! ### Which writes are in range (R41 step 3, R196) -/

theorem carriageway_code_lt (cw : Carriageway) : cw.code < 4 := by cases cw <;> decide

theorem exists_carriageway {n : Nat} (h : n < 4) : ∃ cw : Carriageway, cw.code = n := by
  interval_cases n
  exacts [⟨.aDirection, rfl⟩, ⟨.bDirection, rfl⟩, ⟨.link, rfl⟩, ⟨.central, rfl⟩]

/-- A field of a written record lies outside its range (R196). -/
def OutOfRange (w : PostWrite) : Prop :=
  w.valid ≠ 1 ∨ 9999 < w.number ∨ 8 ≤ w.loop ∨ w.position = 0 ∨ 12 < w.position ∨ 999 < w.road ∨ 4 ≤ w.carriageway ∨
    9999 < w.marker ∨ 16 ≤ w.zone ∨ 127 < w.upGain ∨ 127 < w.downGain ∨ 8 ≤ w.permits ∨ 20 < w.label1.length ∨
    20 < w.label2.length

theorem ofWrite_eq_none {w : PostWrite} (h : OutOfRange w) : PostRecord.ofWrite w = none := by
  rw [Option.eq_none_iff_forall_ne_some]
  intro r hr
  obtain ⟨l, cw, z, hl, hcw, hz, ⟨hv, hnum, hlow, hhigh, hroad, hmark, hup, hdown, hper, h1, h2⟩, -⟩ := ofWrite_eq_some.1 hr
  have hl8 := l.isLt
  have hcw4 := carriageway_code_lt cw
  have hz16 := z.isLt
  unfold OutOfRange at h
  omega

theorem exists_ofWrite {w : PostWrite} (h : FieldsInRange w) (hl : w.loop < 8) (hcw : w.carriageway < 4)
    (hz : w.zone < 16) : ∃ r, PostRecord.ofWrite w = some r := by
  obtain ⟨cw, hcode⟩ := exists_carriageway hcw
  exact ⟨_, ofWrite_eq_some.2 ⟨⟨w.loop, hl⟩, cw, ⟨w.zone, hz⟩, rfl, hcode, rfl, h, rfl⟩⟩

theorem storedLabel_eq (l : List Byte) : storedLabel l =
    l.map (fun c : Byte => if 0x20 ≤ c.toNat ∧ c.toNat ≤ 0x7E then c else 0x3F) := by
  simp [storedLabel, labelChar]

/-- The record of a write holds the written values, with its labels cleaned. -/
theorem fields_of_ofWrite {w : PostWrite} {r : PostRecord} (h : PostRecord.ofWrite w = some r) :
    r.valid ∧ r.number = w.number ∧ r.loop.val = w.loop ∧ r.position = w.position ∧ r.plate = w.plate ∧
      r.road = w.road ∧ r.marker = w.marker ∧ r.zone.val = w.zone ∧ r.upGain = w.upGain ∧ r.downGain = w.downGain ∧
      r.carriageway.code = w.carriageway ∧ r.permits = ⟨w.permits.testBit 0, w.permits.testBit 1, w.permits.testBit 2⟩ ∧
      r.label1 = storedLabel w.label1 ∧ r.label2 = storedLabel w.label2 := by
  obtain ⟨l, cw, z, hl, hcw, hz, -, rfl⟩ := ofWrite_eq_some.1 h
  exact ⟨rfl, rfl, hl, rfl, rfl, rfl, rfl, hz, rfl, rfl, hcw, rfl, rfl, rfl⟩

/-- A write that would share a post number, or a plate or position on its loop, is a duplicate (R41 step 4). -/
theorem duplicates_iff_shares (s : State) (q : SlotId) (r : PostRecord) : s.duplicates q r = true ↔
    ∃ p, p ≠ q ∧ (s.record p).valid ∧ ((s.record p).number = r.number ∨
      ((s.record p).loop = r.loop ∧ ((s.record p).plate = r.plate ∨ (s.record p).position = r.position))) := by
  simp only [duplicates_iff, clashes_iff]

theorem asked_duplicates (s : State) (i : Instr) (t : Trunk) (q : SlotId) (r : PostRecord) :
    (s.asked i t).duplicates q r = s.duplicates q r := rfl

/-- Settles O54: the steps of R41 in their order, each by its own lemma above. -/
theorem directoryWritesFollowR41 : Obligations.DirectoryWritesFollowR41 := by
  intro t index w s hfree
  obtain ⟨u, hexec, hrep⟩ :=
    exec_replied (.writeTableDirectory t index w) (.writeDirectory index w) rfl hfree (d := State.writeSlot _ index w) rfl
  generalize ha : s.asked (.writeTableDirectory t index w) t = a at hexec hrep ⊢
  have hrec (q : SlotId) : a.record q = s.record q := ha ▸ asked_record s _ t q
  have hdup (q : SlotId) (r : PostRecord) : a.duplicates q r = s.duplicates q r := ha ▸ asked_duplicates s _ t q r
  refine ⟨(a.writeDirectory index w).1, u, (a.writeDirectory index w).2, hexec, hrep, State.writeDirectory_frame a index w,
    fun hout => ?_, fun h => ?_⟩
  · rw [writeDirectory_noSlot a w hout]
    exact ⟨rfl, rfl⟩
  · obtain ⟨q, hq⟩ : ∃ q : SlotId, q = ⟨index, h⟩ := ⟨_, rfl⟩
    obtain rfl : q.val = index := congrArg Fin.val hq
    refine ⟨fun p hne => (writeDirectory_record_of_ne a q p w hne).trans (hrec p), fun hv => ?_, fun hv hrange => ?_,
      fun hv hnum hl hlow hhigh hroad hcw hmark hz hup hdown hper h1 h2 => ?_, fun r hr => ⟨?_, fun hshare => ?_,
      fun hshare => ?_⟩⟩
    · rw [writeDirectory_empties a q w hv]
      refine ⟨rfl, ?_, fun hvalid => ?_⟩
      · rw [emptySlot_record, State.setRecord_record]
      · rw [← hrec] at hvalid ⊢
        exact emptySlot_reports a q hvalid
    · rw [writeDirectory_outOfRange a q w hv (ofWrite_eq_none hrange)]
      exact ⟨rfl, rfl⟩
    · exact exists_ofWrite ⟨hv, hnum, hlow, hhigh, hroad, hmark, hup, hdown, hper, h1, h2⟩ hl hcw hz
    · simpa only [storedLabel_eq] using fields_of_ofWrite hr
    · rw [writeDirectory_clashing a q hr ((hdup q r).trans ((duplicates_iff_shares s q r).2 hshare))]
      exact ⟨rfl, rfl⟩
    · have hunique : a.duplicates q r = false := by
        rw [hdup, ← Bool.not_eq_true, duplicates_iff_shares]
        exact hshare
      rw [writeDirectory_stored a q hr hunique]
      refine ⟨?_, rfl, fun hstruct => ?_, fun hvalid hl hp hplate => ?_⟩
      · rw [reportWrite_record, State.setRecord_record]
      · rw [← hrec]
        exact reportWrite_reports _ q (hrec q ▸ hstruct)
      · rw [(reportWrite_eq _ q (a.record q) r).1 (by rw [hrec]; simp [Structural, hvalid, hl, hp, hplate])]
        simp

/-! ### Labels (R42) -/

theorem stored_char_eq_self (c : Byte) : (if 0x20 ≤ c.toNat ∧ c.toNat ≤ 0x7E then c else 0x3F) = c ↔
    0x20 ≤ c.toNat ∧ c.toNat ≤ 0x7E := by
  refine ⟨fun h => ?_, fun h => if_pos h⟩
  split_ifs at h with hc
  · exact hc
  · subst h; decide

/-- A label is stored as it was written where each of its characters is in the range. -/
theorem storedLabel_eq_self (l : List Byte) : storedLabel l = l ↔ ∀ c ∈ l, 0x20 ≤ c.toNat ∧ c.toNat ≤ 0x7E := by
  rw [storedLabel_eq]
  induction l with
  | nil => simp
  | cons c l ih => rw [List.map_cons, List.cons.injEq, ih, stored_char_eq_self, List.forall_mem_cons]

theorem storedLabel_getElem? (l : List Byte) (k : Nat) : (storedLabel l)[k]? =
    l[k]?.map (fun c : Byte => if 0x20 ≤ c.toNat ∧ c.toNat ≤ 0x7E then c else 0x3F) := by
  rw [storedLabel_eq, List.getElem?_map]

/-- An identity record carries the labels of the slot its entry is tied to (R56). -/
theorem identityOf_labels (s : State) (l : LoopId) (pos : Nat) {e : MapEntry} {q : SlotId} {b : Bool}
    (h : e.tie = .listed q b) :
    (s.identityOf l pos e).label1 = (s.record q).label1 ∧ (s.identityOf l pos e).label2 = (s.record q).label2 := by
  simp [State.identityOf, h]

/-- Settles O55: the stored labels by `storedLabel`, and a write that is stored by the last step of R41. -/
theorem labelsAreStoredByR42 : Obligations.LabelsAreStoredByR42 := by
  intro t q w r s hfree _ hr
  obtain ⟨-, -, -, -, -, -, -, -, -, -, -, -, h1, h2⟩ := fields_of_ofWrite hr
  refine ⟨⟨by simp [h1, storedLabel], by simp [h2, storedLabel], fun k => ?_⟩, fun _ _ => rfl, fun hdup => ?_⟩
  · rw [h1, h2]
    exact ⟨storedLabel_getElem? _ k, storedLabel_getElem? _ k⟩
  · obtain ⟨u, hexec, hrep⟩ := exec_replied (.writeTableDirectory t q.val w) (.writeDirectory q.val w) rfl hfree
      (d := State.writeSlot _ q.val w) rfl
    have hstored := writeDirectory_stored (s.asked (.writeTableDirectory t q.val w) t) q hr hdup
    have hclean : (r.label1 = w.label1 ∧ r.label2 = w.label2) ↔
        ∀ c ∈ w.label1 ++ w.label2, 0x20 ≤ c.toNat ∧ c.toNat ≤ 0x7E := by
      rw [h1, h2, storedLabel_eq_self, storedLabel_eq_self, List.forall_mem_append]
    have hrecord : ((s.asked (.writeTableDirectory t q.val w) t).writeDirectory q.val w).1.record q = r := by
      rw [hstored, reportWrite_record, State.setRecord_record]
    refine ⟨_, u, _, hexec, hrep, congrArg _ hrecord, congrArg _ hrecord, ?_, ?_, fun l pos e b he => ?_⟩
    · simp only [State.writeSlot, hstored]
      have hreplaced : (∃ c ∈ w.label1 ++ w.label2, ¬ (0x20 ≤ c.toNat ∧ c.toNat ≤ 0x7E)) ↔
          ¬ (r.label1 = w.label1 ∧ r.label2 = w.label2) := by rw [hclean]; simp only [not_forall, exists_prop]
      rw [hreplaced]
      split_ifs with hc <;> simp [hc]
    · simp only [State.writeSlot, hstored]
      rw [← hclean]
      split_ifs with hc <;> simp [hc]
    · rw [← hrecord]
      exact identityOf_labels _ l pos he

end Sys2Proof.PostDirectory
end

section
/-! What a call was registered with (R55, R57, R65, R69): no operation but a registration changes it, and power-on. -/

namespace Sys2Proof.PostDirectory

open Sys2Proof Sys2Proof.Machine

/-- What a call was registered with: its naming snapshot, class, generation, loop, plate and zone. -/
def regOf (x : Ctx) : Option Identity × CallClass × Byte × LoopId × Byte × ZoneId :=
  (x.snapshot, x.cls, x.regGen, x.loop, x.plate, x.zone)

section
variable (s : State)

theorem modCtx_ctx_eq (c d : CtxId) (f : Ctx → Ctx) : (s.modCtx c f).ctx d = if c = d then f (s.ctx d) else s.ctx d := by
  split_ifs with h
  · subst h; simp
  · rw [State.modCtx_ctx_of_ne _ _ _ _ h]

/-- A change of a context that leaves its registration leaves every registration. -/
theorem regOf_modCtx {s : State} {c d : CtxId} {f : Ctx → Ctx} {r : Option Identity × CallClass × Byte × LoopId × Byte × ZoneId}
    (hf : ∀ x, regOf (f x) = regOf x) (h : regOf (s.ctx d) = r) : regOf ((s.modCtx c f).ctx d) = r := by
  rw [modCtx_ctx_eq, ← h]
  split_ifs
  · exact hf _
  · rfl

theorem regOf_foldl {α : Type} (f : State → α → State) (hf : ∀ s a d, regOf ((f s a).ctx d) = regOf (s.ctx d))
    (xs : List α) (d : CtxId) : regOf ((xs.foldl f s).ctx d) = regOf (s.ctx d) :=
  State.foldl_keeps (fun s => regOf (s.ctx d)) f (fun s a => hf s a d) xs s

/-! ### The waiting list and its numbers (R74) -/

@[simp] theorem regOf_renumber (d : CtxId) : regOf (s.renumber.ctx d) = regOf (s.ctx d) := by
  simp only [State.renumber, State.ctx, tabulate, Fin.getElem_fin, Vector.getElem_ofFn]
  split_ifs <;> rfl

@[simp] theorem regOf_countEntry (d : CtxId) : regOf (s.countEntry.ctx d) = regOf (s.ctx d) := by
  have hctx : s.countEntry.ctx d = (if 65535 ≤ s.entryCount then s.renumber else s).ctx d := rfl
  rw [hctx]
  split_ifs
  · exact regOf_renumber s d
  · rfl

/-! ### Dispatch (R93 to R97) -/

@[simp] theorem regOf_takePlan (c d : CtxId) : regOf ((s.takePlan c).ctx d) = regOf (s.ctx d) := by
  unfold State.takePlan
  split_ifs
  · rfl
  · exact regOf_modCtx (fun _ => rfl) rfl

@[simp] theorem regOf_exhaust (c d : CtxId) : regOf ((s.exhaust c).ctx d) = regOf (s.ctx d) := by
  rw [State.exhaust, State.raise_ctx]
  exact regOf_modCtx (fun _ => rfl) rfl

@[simp] theorem regOf_makeOffer (c : CtxId) (place : Nat) (target : Target) (ch : ChanId) (d : CtxId) :
    regOf ((s.makeOffer c place target ch).ctx d) = regOf (s.ctx d) := by
  simp only [State.makeOffer, State.setLamp_ctx, State.pushSig_ctx]
  exact regOf_modCtx (fun _ => rfl) (by simp)

@[simp] theorem regOf_dispatchOne (c d : CtxId) : regOf ((s.dispatchOne c).ctx d) = regOf (s.ctx d) := by
  unfold State.dispatchOne
  dsimp only
  (repeat' split) <;> simp

@[simp] theorem regOf_dispatch (d : CtxId) : regOf (s.dispatch.ctx d) = regOf (s.ctx d) :=
  regOf_foldl s _ (fun s c d => regOf_dispatchOne s c d) _ d

/-! ### The level monitor (R145 to R148) -/

@[simp] theorem regOf_judgeBlock (c d : CtxId) : regOf ((s.judgeBlock c).ctx d) = regOf (s.ctx d) := by
  unfold State.judgeBlock
  dsimp only
  split_ifs
  · rw [State.raise_ctx]
    exact regOf_modCtx (fun _ => rfl) (regOf_modCtx (fun _ => rfl) (regOf_modCtx (fun _ => rfl) (by simp)))
  · exact regOf_modCtx (fun _ => rfl) (regOf_modCtx (fun _ => rfl) (by simp))
  · exact regOf_modCtx (fun _ => rfl) (regOf_modCtx (fun _ => rfl) (by simp))

@[simp] theorem regOf_catchBlock (c d : CtxId) : regOf ((s.catchBlock c).ctx d) = regOf (s.ctx d) := by
  unfold State.catchBlock
  split_ifs
  · exact regOf_judgeBlock _ c d
  · rfl

@[simp] theorem regOf_judgeDue (c d : CtxId) : regOf ((s.judgeDue c).ctx d) = regOf (s.ctx d) := by
  unfold State.judgeDue
  split_ifs
  · exact regOf_judgeBlock s c d
  · rfl

@[simp] theorem regOf_startMonitor (c d : CtxId) : regOf ((s.startMonitor c).ctx d) = regOf (s.ctx d) :=
  regOf_modCtx (fun _ => rfl) rfl

/-! ### Clearing and release (R81 to R88) -/

@[simp] theorem regOf_clearFields (c : CtxId) (cause : Cause) (d : CtxId) :
    regOf ((s.clearFields c cause).ctx d) = regOf (s.ctx d) := regOf_modCtx (fun _ => rfl) rfl

@[simp] theorem regOf_stopCall (c : CtxId) (cause : Cause) (d : CtxId) :
    regOf ((s.stopCall c cause).ctx d) = regOf (s.ctx d) := by
  simp [State.stopCall]

@[simp] theorem regOf_freeCtx (c d : CtxId) : regOf ((s.freeCtx c).ctx d) = regOf (s.ctx d) := by
  simp only [State.freeCtx, State.dropCtxMarks_ctx, State.stopPlayer_ctx]
  exact regOf_modCtx (fun _ => rfl) (by simp)

@[simp] theorem regOf_enterClearing (c : CtxId) (cause : Cause) (d : CtxId) :
    regOf ((s.enterClearing c cause).ctx d) = regOf (s.ctx d) := by
  unfold State.enterClearing
  dsimp only
  split_ifs <;> simp

@[simp] theorem regOf_releaseByLoop (c : CtxId) (cause : Cause) (d : CtxId) :
    regOf ((s.releaseByLoop c cause).ctx d) = regOf (s.ctx d) := by
  unfold State.releaseByLoop State.releaseToFree
  split <;> simp

@[simp] theorem regOf_releaseLost (c d : CtxId) : regOf ((s.releaseLost c).ctx d) = regOf (s.ctx d) := by
  unfold State.releaseLost
  split <;> simp

@[simp] theorem regOf_releaseByRestart (c d : CtxId) : regOf ((s.releaseByRestart c).ctx d) = regOf (s.ctx d) := by
  unfold State.releaseByRestart
  split <;> simp

@[simp] theorem regOf_releaseByDirectory (c d : CtxId) : regOf ((s.releaseByDirectory c).ctx d) = regOf (s.ctx d) := by
  unfold State.releaseByDirectory
  split <;> simp

@[simp] theorem regOf_releaseBySection (c d : CtxId) : regOf ((s.releaseBySection c).ctx d) = regOf (s.ctx d) := by
  unfold State.releaseBySection
  split <;> simp

/-! ### Bearers, offers and failover (R73, R103, R112 to R114) -/

@[simp] theorem regOf_handOn (l : LoopId) (b : BearerId) (d : CtxId) :
    regOf ((s.handOn l b).ctx d) = regOf (s.ctx d) := by
  unfold State.handOn
  split
  · split_ifs
    · exact regOf_modCtx (fun _ => rfl) (by simp)
    · rfl
  · rfl

@[simp] theorem regOf_endOffer (c d : CtxId) : regOf ((s.endOffer c).ctx d) = regOf (s.ctx d) := by
  rw [State.endOffer, State.setLamp_ctx]
  exact regOf_modCtx (fun _ => rfl) rfl

@[simp] theorem regOf_represent (c d : CtxId) : regOf ((s.represent c).ctx d) = regOf (s.ctx d) := by
  simp only [State.represent, State.startPlayer_ctx, State.setLamp_ctx, State.enterWaiting_ctx]
  exact regOf_modCtx (fun _ => rfl) (by simp)

@[simp] theorem regOf_failover (t : Trunk) (d : CtxId) : regOf ((s.failover t).ctx d) = regOf (s.ctx d) := by
  unfold State.failover
  dsimp only
  rw [regOf_dispatch, State.freePool_ctx, regOf_foldl _ _ regOf_represent, regOf_foldl _ _ regOf_endOffer, State.modTrunk_ctx]

@[simp] theorem regOf_trunkReport (t : Trunk) (st : TrunkState) (d : CtxId) :
    regOf ((s.trunkReport t st).ctx d) = regOf (s.ctx d) := by
  unfold State.trunkReport
  dsimp only
  split_ifs <;> simp

@[simp] theorem regOf_drainReports (t : Trunk) (d : CtxId) : regOf ((s.drainReports t).ctx d) = regOf (s.ctx d) :=
  regOf_foldl s _ (fun s st d => by simp) _ d

@[simp] theorem regOf_carryFailover (t : Trunk) (d : CtxId) : regOf ((s.carryFailover t).ctx d) = regOf (s.ctx d) := by
  simp [State.carryFailover]

@[simp] theorem regOf_endFailover (t : Trunk) (st : TrunkState) (d : CtxId) :
    regOf ((s.endFailover t st).ctx d) = regOf (s.ctx d) := by
  simp [State.endFailover]

/-! ### Desks (R100 to R108) -/

@[simp] theorem regOf_connect (c d : CtxId) : regOf ((s.connect c).ctx d) = regOf (s.ctx d) := by
  simp [State.connect]

@[simp] theorem regOf_answerCall (c : CtxId) (desk : Byte) (d : CtxId) :
    regOf ((s.answerCall c desk).ctx d) = regOf (s.ctx d) := by
  rw [State.answerCall, regOf_connect, State.leaveWaiting_ctx]
  exact regOf_modCtx (fun _ => rfl) (by simp)

@[simp] theorem regOf_holdCall (c d : CtxId) : regOf ((s.holdCall c).ctx d) = regOf (s.ctx d) := by
  simp only [State.holdCall, State.startPlayer_ctx, State.setLamp_ctx]
  exact regOf_modCtx (fun _ => rfl) (by simp)

@[simp] theorem regOf_retrieveCall (c d : CtxId) : regOf ((s.retrieveCall c).ctx d) = regOf (s.ctx d) := by
  rw [State.retrieveCall, regOf_connect]
  exact regOf_modCtx (fun _ => rfl) rfl

@[simp] theorem regOf_joinCall (c : CtxId) (t : Trunk) (ref : OfferRef) (d : CtxId) :
    regOf ((s.joinCall c t ref).ctx d) = regOf (s.ctx d) := by
  unfold State.joinCall
  split
  · rw [State.confirm_ctx]
    exact regOf_modCtx (fun _ => rfl) (by simp)
  · simp

@[simp] theorem regOf_leaveCall (c : CtxId) (t : Trunk) (ref : OfferRef) (d : CtxId) :
    regOf ((s.leaveCall c t ref).ctx d) = regOf (s.ctx d) := by
  unfold State.leaveCall
  split
  · rw [regOf_dispatch, State.deskOk_ctx]
    exact regOf_modCtx (fun _ => rfl) (by simp)
  · simp

/-! ### The other events of the call manager (R70 to R88, R105) -/

@[simp] theorem regOf_abandon (c : CtxId) (l : LoopId) (pos : Nat) (d : CtxId) :
    regOf ((s.abandon c l pos).ctx d) = regOf (s.ctx d) := by
  unfold State.abandon
  dsimp only
  split <;> simp

@[simp] theorem regOf_callerDropped (l : LoopId) (pos : Nat) (d : CtxId) :
    regOf ((s.callerDropped l pos).ctx d) = regOf (s.ctx d) := by
  unfold State.callerDropped
  split
  · simp
  · split <;> simp

@[simp] theorem regOf_freeHolder (l : LoopId) (b : BearerId) (d : CtxId) :
    regOf ((s.freeHolder l b).ctx d) = regOf (s.ctx d) := by
  unfold State.freeHolder
  split <;> simp

@[simp] theorem regOf_followPost (passes : List (Option (Nat × Tie))) (c d : CtxId) :
    regOf ((s.followPost passes c).ctx d) = regOf (s.ctx d) := by
  unfold State.followPost
  split
  · exact regOf_modCtx (fun _ => rfl) rfl
  · simp

@[simp] theorem regOf_releaseLoop (l : LoopId) (cause : Cause) (d : CtxId) :
    regOf ((s.releaseLoop l cause).ctx d) = regOf (s.ctx d) := by
  rw [State.releaseLoop, regOf_dispatch, regOf_foldl _ _ fun s c d => regOf_releaseByLoop s c cause d]

@[simp] theorem regOf_raiseHoldLong (c d : CtxId) : regOf ((s.raiseHoldLong c).ctx d) = regOf (s.ctx d) := by
  rw [State.raiseHoldLong, State.raise_ctx]
  exact regOf_modCtx (fun _ => rfl) rfl

/-! ### Samples (R141 to R145) -/

@[simp] theorem regOf_countClip (c : CtxId) (clips : Bool) (d : CtxId) :
    regOf ((s.countClip c clips).ctx d) = regOf (s.ctx d) := by
  unfold State.countClip
  split_ifs
  · exact regOf_modCtx (fun _ => rfl) rfl
  · rfl

@[simp] theorem regOf_throughGain (c : CtxId) (x : Int) (g : Nat) (d : CtxId) :
    regOf ((s.throughGain c x g).1.ctx d) = regOf (s.ctx d) := regOf_countClip s c _ d

@[simp] theorem regOf_downCode (l : LoopId) (b : BearerId) (d : CtxId) :
    regOf ((s.downCode l b).1.ctx d) = regOf (s.ctx d) := by
  unfold State.downCode State.downSample State.playerSample
  dsimp only
  split
  · split <;> simp
  · rfl

@[simp] theorem regOf_downCodes (l : LoopId) (bs : List BearerId) (d : CtxId) :
    regOf ((State.downCodes l bs s).1.ctx d) = regOf (s.ctx d) := by
  induction bs generalizing s with
  | nil => rfl
  | cons b bs ih =>
    unfold State.downCodes
    exact (ih _).trans (regOf_downCode s l b d)

@[simp] theorem regOf_upCode (l : LoopId) (b : BearerId) (code : Byte) (d : CtxId) :
    regOf ((s.upCode l b code).ctx d) = regOf (s.ctx d) := by
  unfold State.upCode State.upSample
  dsimp only
  split
  · split <;> simp
  · rfl

@[simp] theorem regOf_upCodes (l : LoopId) (codes : List Byte) (d : CtxId) :
    regOf ((State.upCodes l codes s).ctx d) = regOf (s.ctx d) :=
  regOf_foldl s _ (fun s b d => regOf_upCode s l b _ d) _ d

/-! ### Time (R77, R94, R97, R105) -/

@[simp] theorem regOf_tickCtx (c d : CtxId) : regOf ((s.tickCtx c).ctx d) = regOf (s.ctx d) := by
  simp only [State.tickCtx, State.handIf_ctx]
  exact regOf_modCtx (f := Ctx.tick) (fun _ => rfl) rfl

@[simp] theorem regOf_tick (d : CtxId) : regOf (s.tick.ctx d) = regOf (s.ctx d) := by
  rw [State.tick, regOf_foldl _ _ regOf_tickCtx]
  simp only [State.tickTrunk_ctx, State.foldl_tickLoop_ctx, State.foldl_tickFeed_ctx, State.tickSupply_ctx]

/-! ### Requests of the management (R91, R92, R105, R171 to R174) -/

@[simp] theorem regOf_storeRoute (i : Fin 64) (ts : List Target) (d : CtxId) :
    regOf ((s.storeRoute i ts).ctx d) = regOf (s.ctx d) := regOf_dispatch _ d

@[simp] theorem regOf_holdLongAtOnce (c d : CtxId) : regOf ((s.holdLongAtOnce c).ctx d) = regOf (s.ctx d) := by
  unfold State.holdLongAtOnce
  split_ifs <;> simp

@[simp] theorem regOf_settingEffect (p : Fin 25) (d : CtxId) :
    regOf ((s.settingEffect p).ctx d) = regOf (s.ctx d) := by
  unfold State.settingEffect
  split_ifs
  · exact regOf_foldl s _ regOf_holdLongAtOnce _ d
  · exact regOf_foldl s _ (fun s l d => by simp) _ d
  · rfl

@[simp] theorem regOf_storeSetting (p : Fin 25) (v : Nat) (d : CtxId) :
    regOf ((s.storeSetting p v).ctx d) = regOf (s.ctx d) :=
  (regOf_dispatch _ d).trans (regOf_settingEffect _ p d)

@[simp] theorem regOf_restartLoop (l : LoopId) (d : CtxId) : regOf ((s.restartLoop l).ctx d) = regOf (s.ctx d) := by
  unfold State.restartLoop
  dsimp only
  split_ifs
  · rw [regOf_dispatch, regOf_foldl _ _ regOf_releaseByRestart]
    simp
  · simp

@[simp] theorem regOf_restartCalls (d : CtxId) : regOf (s.restartCalls.ctx d) = regOf (s.ctx d) := by
  have hall := regOf_foldl s _ regOf_releaseBySection allCtxs d
  unfold State.restartCalls
  generalize List.foldl (fun s c => State.releaseBySection s c) s allCtxs = u at hall ⊢
  exact hall

@[simp] theorem regOf_restartSection (d : CtxId) : regOf (s.restartSection.ctx d) = regOf (s.ctx d) := by
  simp [State.restartSection]

@[simp] theorem regOf_disableTrunk (t : Trunk) (d : CtxId) :
    regOf ((s.disableTrunk t).ctx d) = regOf (s.ctx d) := by
  unfold State.disableTrunk
  split_ifs <;> simp

@[simp] theorem regOf_unblockChan (t : Trunk) (n : ChanId) (d : CtxId) :
    regOf ((s.unblockChan t n).ctx d) = regOf (s.ctx d) := by
  unfold State.unblockChan
  split <;> simp

end
end Sys2Proof.PostDirectory
end

section
/-! A call keeps what it was registered with (R55, R57, R62, R65, R69). -/

namespace Sys2Proof.PostDirectory

open Sys2Proof Sys2Proof.Machine

section
variable (s : State)

/-! ### What a release does to a context (R81 to R86), and what dispatch leaves (R95) -/

theorem stopCall_ctx (c : CtxId) (cause : Cause) (d : CtxId) :
    (s.stopCall c cause).ctx d = if c = d then
      { s.ctx d with
        state := .clearing, offerTimer := .stopped, holdRunning := false, retryTimer := .stopped, primary := none
        second := none, cause := some cause }
    else s.ctx d := by
  rw [State.stopCall, State.stopPlayer_ctx, State.clearFields, modCtx_ctx_eq]
  simp

theorem freeCtx_ctx (c d : CtxId) :
    (s.freeCtx c).ctx d = if c = d then
      { s.ctx d with state := .free, bearer := none, liveSeen := false, ref := none, target := none }
    else s.ctx d := by
  rw [State.freeCtx, State.dropCtxMarks_ctx, State.stopPlayer_ctx, modCtx_ctx_eq]
  simp

/-- A loop cause leaves the context FREE. -/
theorem releaseByLoop_state (c : CtxId) (cause : Cause) : ((s.releaseByLoop c cause).ctx c).state = .free := by
  unfold State.releaseByLoop State.releaseToFree
  split
  · assumption
  · simp [freeCtx_ctx]
  · simp [freeCtx_ctx]

theorem releaseByLoop_ctx_of_ne {c d : CtxId} (cause : Cause) (h : c ≠ d) : (s.releaseByLoop c cause).ctx d = s.ctx d := by
  unfold State.releaseByLoop State.releaseToFree
  split
  · rfl
  · simp [freeCtx_ctx, h]
  · simp [freeCtx_ctx, stopCall_ctx, h]

/-- Dispatch changes no context that is not QUEUED. -/
theorem dispatchOne_ctx_of_not_queued {d : CtxId} (h : (s.ctx d).state ≠ .queued) (c : CtxId) :
    (s.dispatchOne c).ctx d = s.ctx d := by
  unfold State.dispatchOne
  by_cases he : s.eligible c
  · have hq : (s.ctx c).state = .queued := by
      simp only [State.eligible, Bool.and_eq_true, beq_iff_eq] at he
      exact he.1.1.1
    have hne : c ≠ d := fun hcd => h (hcd ▸ hq)
    have hplan : (s.takePlan c).ctx d = s.ctx d := by
      unfold State.takePlan
      split_ifs
      · rfl
      · exact State.modCtx_ctx_of_ne _ _ _ _ hne
    simp only [he, if_true]
    (repeat' split) <;> simp [State.exhaust, State.makeOffer, State.modCtx_ctx_of_ne, hne, hplan]
  · simp [he]

theorem dispatch_ctx_of_not_queued {d : CtxId} (h : (s.ctx d).state ≠ .queued) : s.dispatch.ctx d = s.ctx d := by
  have hall (cs : List CtxId) (u : State) (hu : u.ctx d = s.ctx d) : (cs.foldl State.dispatchOne u).ctx d = s.ctx d := by
    induction cs generalizing u with
    | nil => exact hu
    | cons c cs ih => exact ih _ ((dispatchOne_ctx_of_not_queued u (hu ▸ h) c).trans hu)
  exact hall _ s rfl

theorem mem_ctxsOn {l : LoopId} {c : CtxId} :
    c ∈ s.ctxsOn l ↔ (s.ctx c).state ≠ .free ∧ (s.ctx c).loop = l := by
  simp [State.ctxsOn, allCtxs]

/-- A release of a loop's calls leaves the context of one FREE (R85). -/
theorem releaseLoop_state {l : LoopId} {d : CtxId} (cause : Cause) (hd : (s.ctx d).loop = l) :
    ((s.releaseLoop l cause).ctx d).state = .free := by
  have hfold (cs : List CtxId) (u : State) (h : (u.ctx d).state = .free ∨ d ∈ cs) :
      ((cs.foldl (fun s c => s.releaseByLoop c cause) u).ctx d).state = .free := by
    induction cs generalizing u with
    | nil => simpa using h
    | cons c cs ih =>
      refine ih _ ?_
      by_cases hcd : c = d
      · exact .inl (hcd ▸ releaseByLoop_state u c cause)
      · rw [releaseByLoop_ctx_of_ne u cause hcd]
        exact h.imp_right fun hmem => (List.mem_cons.mp hmem).resolve_left (Ne.symm hcd)
  have hfree : (((s.ctxsOn l).foldl (fun s c => s.releaseByLoop c cause) s).ctx d).state = .free := by
    refine hfold _ _ ?_
    by_cases hfree : (s.ctx d).state = .free
    · exact .inl hfree
    · exact .inr ((mem_ctxsOn s).mpr ⟨hfree, hd⟩)
  rw [State.releaseLoop, dispatch_ctx_of_not_queued _ (by simp [hfree]), hfree]

/-! ### Registration (R65, R67) -/

/-- Of a step of the call manager: each call has what it was registered with, or was registered on the loop `l` in a
context that was FREE. -/
def KeepsReg (l : LoopId) (s t : State) : Prop :=
  ∀ d, regOf (t.ctx d) = regOf (s.ctx d) ∨ ((s.ctx d).state = .free ∧ (t.ctx d).loop = l)

theorem loop_of_regOf {x y : Ctx} (h : regOf x = regOf y) : x.loop = y.loop := by
  simp only [regOf, Prod.mk.injEq] at h
  exact h.2.2.2.1

@[simp] theorem regOf_askBearer (c : CtxId) (l : LoopId) (pos : Nat) (d : CtxId) :
    regOf ((s.askBearer c l pos).ctx d) = regOf (s.ctx d) := by
  unfold State.askBearer
  split
  · exact regOf_modCtx (fun _ => rfl) (by simp)
  · rfl

theorem freeContext_state {c : CtxId} (h : s.freeContext = some c) : (s.ctx c).state = .free := by
  simpa using List.find?_some h

theorem register_keepsReg {c : CtxId} (hc : (s.ctx c).state = .free) (l : LoopId) (pos : Nat) (e : MapEntry)
    (cls : CallClass) : KeepsReg l s (s.register c l pos e cls) := by
  intro d
  have hreg : regOf ((s.register c l pos e cls).ctx d) = if c = d then
      regOf ((s.countEntry.ctx d).allocate cls l pos e.plate (s.countEntry.identityOf l (s.nowAt l pos) e)
        (s.countEntry.zoneOf l e.tie) s.countEntry.entryCount)
      else regOf (s.ctx d) := by
    simp only [State.register, State.enterWaiting_ctx, regOf_askBearer, State.setLampAt_ctx, State.setAck_ctx,
      modCtx_ctx_eq]
    split_ifs <;> simp
  by_cases hcd : c = d
  · subst hcd
    rw [if_pos rfl] at hreg
    exact .inr ⟨hc, loop_of_regOf hreg⟩
  · rw [if_neg hcd] at hreg
    exact .inl hreg

theorem requestReport_keepsReg (l : LoopId) (pos : Nat) (cls : CallClass) {t : State}
    (h : execRequestReport l pos cls s = .next t) : KeepsReg l s t := by
  injection h with h
  subst h
  split
  · exact fun d => .inl (by simp)
  · split
    · exact fun d => .inl (by simp)
    · unfold State.newRequest
      split_ifs
      · split
        next c hc =>
          intro d
          simpa using register_keepsReg _ (freeContext_state _ hc) l pos _ cls d
        next => exact fun d => .inl (by simp)
      · exact fun d => .inl (by unfold State.refuseClass; dsimp only; split <;> simp)

/-! ### Events -/

theorem regOf_workStream (t : Trunk) (fuel : Nat) (d : CtxId) :
    regOf ((s.workStream t fuel).ctx d) = regOf (s.ctx d) :=
  workStream_keeps (fun u => regOf (u.ctx d))
    (fun t s => by simp) (fun t s => by simp) t fuel s

end

theorem exec_regOf_loops {i : Instr} {s t : State} (hi : chapterOf i = .loops) (h : exec i s = .next t) (d : CtxId) :
    regOf (t.ctx d) = regOf (s.ctx d) := by
  cases i <;> cases hi <;> injection h with h <;> subst h
  all_goals (repeat' split) <;> simp

theorem exec_regOf_feeds {i : Instr} {s t : State} (hi : chapterOf i = .feeds) (h : exec i s = .next t) (d : CtxId) :
    regOf (t.ctx d) = regOf (s.ctx d) := by
  cases i <;> cases hi <;> injection h with h <;> subst h
  all_goals (repeat' split) <;> simp

theorem exec_regOf_posts {i : Instr} {s t : State} (hi : chapterOf i = .posts) (h : exec i s = .next t) (d : CtxId) :
    regOf (t.ctx d) = regOf (s.ctx d) := by
  cases i <;> cases hi <;> injection h with h <;> subst h
  all_goals simp

theorem rebuildReport_regOf {l : LoopId} {epoch : Byte} {passes : List (Option (Nat × Tie))} {freed : List BearerId}
    {s t : State} (h : execRebuildReport l epoch passes freed s = .next t) (d : CtxId) :
    regOf (t.ctx d) = regOf (s.ctx d) := by
  injection h with h
  subst h
  rw [regOf_dispatch, regOf_foldl _ _ fun s b d => regOf_handOn s l b d,
    regOf_foldl _ _ fun s c d => regOf_followPost s passes c d, State.take_ctx]

/-- The call manager registers at a request report alone. -/
theorem exec_regOf_calls {i : Instr} {s t : State} (hi : chapterOf i = .calls)
    (hreq : ∀ l pos cls, i ≠ .requestReport l pos cls) (h : exec i s = .next t) (d : CtxId) :
    regOf (t.ctx d) = regOf (s.ctx d) := by
  cases i <;> cases hi
  case requestReport l pos cls => exact absurd rfl (hreq l pos cls)
  case rebuildReport => exact rebuildReport_regOf h d
  case retryTimerExpiry =>
    injection h with h
    subst h
    split_ifs
    · rw [regOf_dispatch]; exact regOf_modCtx (fun _ => rfl) (by simp)
    · simp
  case holdLong =>
    injection h with h
    subst h
    split_ifs
    · rw [regOf_raiseHoldLong]; exact regOf_modCtx (fun _ => rfl) (by simp)
    · simp
  case bearerLiveReport =>
    injection h with h
    subst h
    split
    · split_ifs
      · rw [regOf_dispatch, State.startPlayer_ctx]; exact regOf_modCtx (fun _ => rfl) (by simp)
      · simp
    · simp
  all_goals
    injection h with h
    subst h
    (repeat' split) <;> simp

theorem exec_regOf_desks {i : Instr} {s t : State} (hi : chapterOf i = .desks) (h : exec i s = .next t) (d : CtxId) :
    regOf (t.ctx d) = regOf (s.ctx d) := by
  cases i <;> cases hi <;> injection h with h <;> subst h
  case signallingMessageDiscard => simp
  all_goals
    refine deskRequest_cases (P := fun u => regOf (u.ctx d) = regOf (s.ctx d)) (fun c => ?_) (by simp)
    split <;> simp

theorem exec_regOf_trunks {i : Instr} {s t : State} (hi : chapterOf i = .trunks) (h : exec i s = .next t) (d : CtxId) :
    regOf (t.ctx d) = regOf (s.ctx d) := by
  cases i <;> cases hi <;> injection h with h <;> subst h
  case trunkFrameReceive => rw [regOf_workStream]; simp
  all_goals (repeat' split) <;> simp

theorem exec_regOf_voice {i : Instr} {s t : State} (hi : chapterOf i = .voice) (h : exec i s = .next t) (d : CtxId) :
    regOf (t.ctx d) = regOf (s.ctx d) := by
  cases i <;> cases hi <;>
    simp only [exec, execLoopFrame, execLevelBlockComplete, execSegmentEnd, Host.Outcome.next.injEq] at h <;> subst h
  all_goals simp

theorem exec_regOf_notices {i : Instr} {s t : State} (hi : chapterOf i = .notices) (h : exec i s = .next t) (d : CtxId) :
    regOf (t.ctx d) = regOf (s.ctx d) := by
  cases i <;> cases hi <;> injection h with h <;> subst h
  all_goals (repeat' split) <;> simp

/-! ### A feed action carried through (R30, R85, R172) -/

/-- Of the states before and after: a context that is FREE in neither keeps what its call was registered with. -/
def HeldReg (s t : State) : Prop :=
  ∀ d, (s.ctx d).state ≠ .free → (t.ctx d).state ≠ .free → regOf (t.ctx d) = regOf (s.ctx d)

theorem HeldReg.of_eq {s t : State} (h : ∀ d, regOf (t.ctx d) = regOf (s.ctx d)) : HeldReg s t := fun d _ _ => h d

theorem KeepsReg.heldReg {l : LoopId} {s t : State} (h : KeepsReg l s t) : HeldReg s t :=
  fun d hs _ => (h d).resolve_right fun hd => hs hd.1

/-- Every call of a loop other than `l` keeps what it was registered with, and none comes to such a loop. -/
def KeepsRegOff (l : LoopId) (s t : State) : Prop :=
  ∀ d, regOf (t.ctx d) = regOf (s.ctx d) ∨ (t.ctx d).loop = l

theorem KeepsRegOff.trans {l : LoopId} {s t u : State} (h1 : KeepsRegOff l s t) (h2 : KeepsRegOff l t u) :
    KeepsRegOff l s u := fun d => by
  rcases h2 d with h | h
  · exact (h1 d).imp h.trans (fun hl => (loop_of_regOf h).trans hl)
  · exact .inr h

theorem callReport_eq_some {l : LoopId} {i : Instr} {f : State → Host.Outcome State Fault Refusal}
    (h : callReport l i = some f) :
    f = exec i ∧ chapterOf i = .calls ∧ ∀ m pos cls, i = .requestReport m pos cls → m = l := by
  cases i <;> simp only [callReport, Option.ite_none_right_eq_some, Option.some.injEq, reduceCtorEq] at h <;>
    obtain ⟨rfl, rfl⟩ := h <;> refine ⟨rfl, rfl, fun m pos cls he => ?_⟩
  case requestReport => exact (Instr.requestReport.inj he).1.symm
  all_goals cases he

theorem exec_calls_keepsRegOff {l : LoopId} {i : Instr} {s t : State} (hi : chapterOf i = .calls)
    (hl : ∀ m pos cls, i = .requestReport m pos cls → m = l) (h : exec i s = .next t) : KeepsRegOff l s t := by
  by_cases hreq : ∃ m pos cls, i = .requestReport m pos cls
  · obtain ⟨m, pos, cls, rfl⟩ := hreq
    obtain rfl := hl m pos cls rfl
    exact fun d => (requestReport_keepsReg s m pos cls h d).imp_right And.right
  · exact fun d => .inl (exec_regOf_calls hi (fun m pos cls he => hreq ⟨m, pos, cls, he⟩) h d)

theorem takeIf_callReport_keepsRegOff (l : LoopId) (s : State) (i : Instr) :
    KeepsRegOff l s (State.takeIf (callReport l) s i) := by
  unfold State.takeIf
  split
  next f hf =>
    obtain ⟨rfl, hi, hl⟩ := callReport_eq_some hf
    unfold leftBy
    split
    next t ht => exact exec_calls_keepsRegOff hi hl ht
    next => exact fun d => .inl rfl
  next => exact fun d => .inl rfl

theorem takeAll_callReport_keepsRegOff (l : LoopId) (s : State) : KeepsRegOff l s (s.takeAll (callReport l)) := by
  have hall (is : List Instr) (u : State) : KeepsRegOff l u (is.foldl (State.takeIf (callReport l)) u) := by
    induction is generalizing u with
    | nil => exact fun d => .inl rfl
    | cons i is ih => exact (takeIf_callReport_keepsRegOff l u i).trans (ih _)
  exact hall _ _

/-- The settling of a loop's calls leaves no call on it, and the calls of other loops as registered (R85). -/
theorem settleCalls_heldReg (s : State) (l : LoopId) : HeldReg s (s.settleCalls l) := by
  have hoff := takeAll_callReport_keepsRegOff l s
  intro d _ hd
  unfold State.settleCalls at hd ⊢
  dsimp only at hd ⊢
  generalize s.takeAll (callReport l) = u at hoff hd ⊢
  split_ifs at hd ⊢ with hnone
  · refine (hoff d).resolve_right fun hl => ?_
    have hmem := (mem_ctxsOn u).mpr ⟨hd, hl⟩
    rw [hnone] at hmem
    exact absurd hmem List.not_mem_nil
  · rw [regOf_releaseLoop]
    exact (hoff d).resolve_right fun hl => hd (releaseLoop_state u _ hl)

theorem carryFeed_heldReg {s s1 : State} (l : LoopId) (h : ∀ d, s1.ctx d = s.ctx d) : HeldReg s (s.carryFeed s1 l) := by
  have hsame (u : State) (hu : ∀ d, u.ctx d = s.ctx d) (t : State) (ht : HeldReg u t) : HeldReg s t := fun d hs hd => by
    rw [← hu d] at hs ⊢
    exact ht d hs hd
  have hfeed (d : CtxId) : (s1.takeAll (feedReport l)).ctx d = s.ctx d := by rw [State.takeAll_feedReport_ctx, h]
  unfold State.carryFeed
  dsimp only
  split_ifs
  · exact HeldReg.of_eq fun d => by rw [h]
  · split
    · exact hsame _ hfeed _ (settleCalls_heldReg _ l)
    · exact hsame _ hfeed _ (settleCalls_heldReg _ l)
    · exact HeldReg.of_eq fun d => by rw [hfeed]

/-! ### Requests -/

theorem loopControl_heldReg (s : State) (loop action : Nat) : HeldReg s (s.loopControl loop action).st := by
  unfold State.loopControl
  split
  · exact .of_eq fun d => rfl
  next l _ =>
    split
    · exact carryFeed_heldReg l fun d => by simp
    · exact carryFeed_heldReg l fun d => by simp
    · exact .of_eq fun d => regOf_restartLoop s l d
    · exact .of_eq fun d => by simp [State.carried]
    · exact .of_eq fun d => rfl

theorem trunkControl_regOf (s : State) (trunk action chan : Nat) (d : CtxId) :
    regOf ((s.trunkControl trunk action chan).st.ctx d) = regOf (s.ctx d) := by
  unfold State.trunkControl State.onChannel
  (repeat' split) <;> simp [State.refuse, State.carried]

theorem clearFault_regOf (s : State) (kind index count flags : Nat) (d : CtxId) :
    regOf ((s.clearFault kind index count flags).st.ctx d) = regOf (s.ctx d) := by
  unfold State.clearFault
  (repeat' split) <;> simp [State.refuse]

theorem writeRoute_regOf (s : State) (index : Nat) (ws : List TargetWrite) (d : CtxId) :
    regOf ((s.writeRoute index ws).st.ctx d) = regOf (s.ctx d) := by
  unfold State.writeRoute
  (repeat' split) <;> simp [State.refuse, State.carried]

theorem writeSegment_regOf (s : State) (index : Nat) (w : SegmentWrite) (d : CtxId) :
    regOf ((s.writeSegment index w).st.ctx d) = regOf (s.ctx d) := by
  unfold State.writeSegment
  (repeat' split) <;> simp [State.refuse, State.carried]

theorem writeSamples_regOf (s : State) (index : Nat) (codes : List Byte) (d : CtxId) :
    regOf ((s.writeSamples index codes).st.ctx d) = regOf (s.ctx d) := by
  unfold State.writeSamples
  split_ifs <;> simp [State.refuse, State.carried]

theorem writeSettings_regOf (s : State) (index value : Nat) (d : CtxId) :
    regOf ((s.writeSettings index value).st.ctx d) = regOf (s.ctx d) := by
  unfold State.writeSettings
  split <;> simp [State.refuse]

theorem writeMask_regOf (s : State) (index enables : Nat) (d : CtxId) :
    regOf ((s.writeMask index enables).st.ctx d) = regOf (s.ctx d) := by
  unfold State.writeMask
  split_ifs
  · exact congrArg regOf (by simp [State.carried]; rfl)
  · rfl

theorem setActivePlan_regOf (s : State) (plan : Nat) (d : CtxId) :
    regOf ((s.setActivePlan plan).st.ctx d) = regOf (s.ctx d) := by
  unfold State.setActivePlan
  split
  · rfl
  · exact regOf_dispatch _ d

/-- A request carried out registers no call, but for a feed action, which leaves no call on its loop. -/
theorem perform_heldReg (s : State) (req : Request) : HeldReg s (s.perform req).st := by
  cases req with
  | loopControl loop action => exact loopControl_heldReg s loop action
  | trunkControl trunk action chan => exact .of_eq (trunkControl_regOf s trunk action chan)
  | clearFault kind index count flags => exact .of_eq (clearFault_regOf s kind index count flags)
  | writeDirectory index w => exact .of_eq fun d => by simp [State.perform, State.writeSlot]
  | writeRoute index ws => exact .of_eq (writeRoute_regOf s index ws)
  | writeSegment index w => exact .of_eq (writeSegment_regOf s index w)
  | writeSamples index codes => exact .of_eq (writeSamples_regOf s index codes)
  | writeSettings index value => exact .of_eq (writeSettings_regOf s index value)
  | writeMask index enables => exact .of_eq (writeMask_regOf s index enables)
  | setPlan plan => exact .of_eq (setActivePlan_regOf s plan)
  | sectionRestart => exact .of_eq fun d => by simp only [State.perform, State.carried, regOf_restartSection]
  | readTable table index => exact .of_eq fun d => by simp only [State.perform, readTable_st]
  | readMap loop => exact .of_eq fun d => by simp only [State.perform, readMap_st]
  | readFault kind index => exact .of_eq fun d => by simp only [State.perform, readFault_st]
  | readStatus | readCalls | writeUnknown => exact .of_eq fun d => rfl

theorem execute_heldReg (s : State) (t : Trunk) (req : Request) : HeldReg s (s.execute t req) := fun d hs hd => by
  simp only [State.execute, State.makeReply_ctx, State.modService_ctx] at hd ⊢
  simpa using perform_heldReg (s.setHome t) req d (by simpa using hs) hd

theorem accept_heldReg (s : State) (t : Trunk) (req : Request) : HeldReg s (s.accept t req) := by
  unfold State.accept
  split
  · exact execute_heldReg s t req
  · exact .of_eq fun d => by simp
  · exact .of_eq fun d => by simp

theorem afterReply_heldReg (s : State) (t : Trunk) : HeldReg s (s.afterReply t) := by
  unfold State.afterReply
  split
  · exact fun d hs hd => by simpa using execute_heldReg _ t _ d (by simpa using hs) hd
  · split_ifs <;> exact .of_eq fun d => by simp

/-! ### Steps -/

theorem exec_heldReg {i : Instr} {s t : State} (h : exec i s = .next t) : HeldReg s t := by
  cases hi : chapterOf i with
  | power =>
    cases i <;> cases hi
    injection h with h
    subst h
    have hfree (level : Nat) (d : CtxId) : ((s.powered level).ctx d).state = .free := by
      have hall : ∀ d : CtxId, (State.reset.ctx d).state = .free := by decide
      exact hall d
    intro d _ hd
    split_ifs at hd <;> exact absurd (by simp [hfree]) hd
  | reply =>
    cases i <;> cases hi
    injection h with h
    subst h
    split_ifs
    · exact fun d hs hd => by simpa using afterReply_heldReg _ _ d (by simpa using hs) hd
    · exact .of_eq fun d => by simp
  | requests =>
    obtain ⟨k, req, hreq⟩ := requestOf_of_chapterOf hi
    rw [exec_of_requestOf hreq] at h
    injection h with h
    subst h
    exact fun d hs hd => by simpa using accept_heldReg _ k req d (by simpa using hs) hd
  | calls =>
    by_cases hreq : ∃ m pos cls, i = .requestReport m pos cls
    · obtain ⟨m, pos, cls, rfl⟩ := hreq
      exact (requestReport_keepsReg s m pos cls h).heldReg
    · exact .of_eq (exec_regOf_calls hi (fun m pos cls he => hreq ⟨m, pos, cls, he⟩) h)
  | loops => exact .of_eq (exec_regOf_loops hi h)
  | feeds => exact .of_eq (exec_regOf_feeds hi h)
  | posts => exact .of_eq (exec_regOf_posts hi h)
  | desks => exact .of_eq (exec_regOf_desks hi h)
  | trunks => exact .of_eq (exec_regOf_trunks hi h)
  | voice => exact .of_eq (exec_regOf_voice hi h)
  | notices => exact .of_eq (exec_regOf_notices hi h)

theorem step_heldReg {s s' : State} (h : step s = .next s') : HeldReg s s' := by
  rcases step_cases h with ⟨i, rest, -, h⟩ | ⟨i, rest, -, h⟩ | htick
  · exact exec_heldReg (s := { s with pending := rest }) h
  · exact exec_heldReg h
  · exact .of_eq fun d => by rw [htick, regOf_tick]

/-- Settles O8: a context is FREE before a call is registered in it, so no step that finds it not FREE registers one;
a feed action, which may release a call and take another in the same step, leaves no call on its loop. -/
theorem everyStepKeepsWhatACallWasRegisteredWith : Obligations.EveryStepKeepsWhatACallWasRegisteredWith := by
  intro s s' c hstep hbefore hafter
  simpa only [regOf, Prod.mk.injEq] using step_heldReg hstep c hbefore hafter

end Sys2Proof.PostDirectory
end

section
/-! Reconciliation (R46 to R48): the walk of R47 over the records a loop is expected to hold. -/

namespace Sys2Proof.PostDirectory

open Sys2Proof Sys2Proof.Machine

/-! ### The walk of R47 -/

theorem splitAtPlate_none {plateOf : SlotId → Byte} {r : Byte} {xs : List SlotId} :
    splitAtPlate plateOf r xs = none ↔ ∀ x ∈ xs, plateOf x ≠ r := by
  induction xs with
  | nil => simp [splitAtPlate]
  | cons x xs ih =>
    unfold splitAtPlate
    split_ifs with h
    · simp [h]
    · simp [h, ih]

/-- A split is at the first slot of the plate. -/
theorem splitAtPlate_some {plateOf : SlotId → Byte} {r : Byte} {xs skipped after : List SlotId} {slot : SlotId}
    (h : splitAtPlate plateOf r xs = some (skipped, slot, after)) :
    xs = skipped ++ slot :: after ∧ plateOf slot = r ∧ ∀ x ∈ skipped, plateOf x ≠ r := by
  induction xs generalizing skipped with
  | nil => cases h
  | cons x xs ih =>
    unfold splitAtPlate at h
    split_ifs at h with hx
    · obtain ⟨rfl, rfl, rfl⟩ : [] = skipped ∧ x = slot ∧ xs = after := by simpa using h
      exact ⟨rfl, hx, by simp⟩
    · obtain ⟨⟨front, q, back⟩, hp, heq⟩ := Option.map_eq_some_iff.mp h
      obtain ⟨rfl, rfl, rfl⟩ : x :: front = skipped ∧ q = slot ∧ back = after := by simpa using heq
      obtain ⟨rfl, hslot, hfront⟩ := ih hp
      exact ⟨rfl, hslot, by simpa [hx] using hfront⟩

section
variable (plateOf : SlotId → Byte)

theorem walk_plates (plates : List Byte) (rest : List SlotId) : (walk plateOf plates rest).1.map (·.plate) = plates := by
  induction plates generalizing rest with
  | nil => rfl
  | cons r plates ih => unfold walk; split <;> simp [ih]

/-- Every slot walked is tied once or absent. -/
theorem walk_perm (plates : List Byte) (rest : List SlotId) :
    ((walk plateOf plates rest).1.filterMap (·.slot) ++ (walk plateOf plates rest).2).Perm rest := by
  induction plates generalizing rest with
  | nil => exact .refl _
  | cons r plates ih =>
    unfold walk
    split
    next skipped slot after h =>
      obtain ⟨rfl, -, -⟩ := splitAtPlate_some h
      have hafter := ((ih after).append_left skipped).cons slot
      refine List.Perm.trans ?_ (hafter.trans List.perm_middle.symm)
      simp only [List.filterMap_cons, List.cons_append]
      refine List.Perm.cons _ ?_
      simpa [List.append_assoc] using (List.perm_append_comm (l₁ := (walk plateOf plates after).1.filterMap (·.slot))
        (l₂ := skipped)).append_right (walk plateOf plates after).2
    next => simpa using ih rest

theorem walk_tied_sublist (plates : List Byte) (rest : List SlotId) :
    ((walk plateOf plates rest).1.filterMap (·.slot)).Sublist rest := by
  induction plates generalizing rest with
  | nil => exact List.nil_sublist _
  | cons r plates ih =>
    unfold walk
    split
    next skipped slot after h =>
      obtain ⟨rfl, -, -⟩ := splitAtPlate_some h
      exact ((ih after).cons_cons slot).trans (List.sublist_append_right _ _)
    next => simpa using ih rest

theorem walk_absent_sublist (plates : List Byte) (rest : List SlotId) : (walk plateOf plates rest).2.Sublist rest := by
  induction plates generalizing rest with
  | nil => exact .refl _
  | cons r plates ih =>
    unfold walk
    split
    next skipped slot after h =>
      obtain ⟨rfl, -, -⟩ := splitAtPlate_some h
      exact (List.Sublist.refl skipped).append ((ih after).cons slot)
    next => exact ih rest

theorem walk_plate_of_slot {plates : List Byte} {rest : List SlotId} {e : ResultEntry} {q : SlotId}
    (he : e ∈ (walk plateOf plates rest).1) (hq : e.slot = some q) : plateOf q = e.plate := by
  induction plates generalizing rest with
  | nil => cases he
  | cons r plates ih =>
    unfold walk at he
    split at he
    next skipped slot after h =>
      rcases List.mem_cons.mp he with rfl | hmem
      · exact Option.some.inj hq ▸ (splitAtPlate_some h).2.1
      · exact ih hmem
    next =>
      rcases List.mem_cons.mp he with rfl | hmem
      · cases hq
      · exact ih hmem

end

/-- Where the walk goes on: after the slot last tied (R47). -/
def placeAfter (xs : List SlotId) : Option SlotId → Nat
  | some q => xs.idxOf q + 1
  | none => 0

/-- Past a split the walk goes on in what stands after it. -/
theorem drop_placeAfter {skipped after : List SlotId} {slot : SlotId} (hnd : (skipped ++ slot :: after).Nodup)
    {tied : List SlotId} (htied : tied.Sublist after) :
    (skipped ++ slot :: after).drop (placeAfter (skipped ++ slot :: after) (slot :: tied).getLast?) =
      after.drop (placeAfter after tied.getLast?) := by
  have hskip (q : SlotId) (hq : q ∈ slot :: after) : q ∉ skipped := fun hmem => List.disjoint_of_nodup_append hnd hmem hq
  cases hlast : tied.getLast? with
  | none =>
    rw [List.getLast?_eq_none_iff.mp hlast]
    have hidx : (skipped ++ slot :: after).idxOf slot = skipped.length := by
      rw [List.idxOf_append_of_notMem (hskip slot List.mem_cons_self), List.idxOf_cons_self, Nat.add_zero]
    simp [placeAfter, hidx, List.drop_append]
  | some q =>
    have hq : q ∈ after := htied.subset (List.mem_of_getLast? hlast)
    have hslot : slot ≠ q := fun h =>
      (List.nodup_cons.mp (List.nodup_append.mp hnd).2.1).1 (h ▸ hq)
    have hidx : (skipped ++ slot :: after).idxOf q = skipped.length + (after.idxOf q + 1) := by
      rw [List.idxOf_append_of_notMem (hskip q (List.mem_cons_of_mem _ hq)), List.idxOf_cons_ne _ hslot]
    simp [placeAfter, List.getLast?_cons, hlast, hidx, List.drop_append, Nat.add_assoc]

/-- An entry is tied to the first slot of its plate after the slot last tied (R47). -/
theorem walk_slot (plateOf : SlotId → Byte) {plates : List Byte} {rest : List SlotId} (hnd : rest.Nodup) {k : Nat}
    {e : ResultEntry} (he : (walk plateOf plates rest).1[k]? = some e) :
    e.slot = (rest.drop (placeAfter rest
      (((walk plateOf plates rest).1.take k).filterMap (·.slot)).getLast?)).find? (fun q => plateOf q == e.plate) := by
  induction plates generalizing rest k with
  | nil => simp [walk] at he
  | cons r plates ih =>
    unfold walk at he ⊢
    split at he
    next skipped slot after h =>
      obtain ⟨rfl, hslot, hskip⟩ := splitAtPlate_some h
      cases k with
      | zero =>
        obtain rfl : (⟨r, some slot⟩ : ResultEntry) = e := by simpa using he
        have hfront : skipped.find? (fun q => plateOf q == r) = none := by simpa using hskip
        simp [placeAfter, List.find?_append, hslot, hfront]
      | succ k =>
        have hafter : after.Nodup := (List.nodup_cons.mp (List.nodup_append.mp hnd).2.1).2
        have htied : (((walk plateOf plates after).1.take k).filterMap (·.slot)).Sublist after :=
          ((List.take_sublist k _).filterMap _).trans (walk_tied_sublist plateOf plates after)
        rw [ih hafter (by simpa using he), ← drop_placeAfter hnd htied]
        rfl
    next h =>
      have hnone := splitAtPlate_none.mp h
      cases k with
      | zero =>
        obtain rfl : (⟨r, none⟩ : ResultEntry) = e := by simpa using he
        exact (List.find?_eq_none.mpr (by simpa [placeAfter] using hnone)).symm
      | succ k =>
        rw [ih hnd (by simpa using he)]
        rfl

/-! ### The records expected on a loop (R47) -/

section
variable (s : State) (l : LoopId)

theorem mem_expected (q : SlotId) : q ∈ s.expected l ↔ (s.record q).valid ∧ (s.record q).loop = l := by
  simp [State.expected, List.mem_insertionSort, allSlots]

theorem expected_nodup : (s.expected l).Nodup :=
  (List.perm_insertionSort _ _).nodup_iff.mpr ((List.nodup_finRange 96).filter _)

/-- Slots sorted by the positions of their records stand in that order (R46, R61). -/
theorem pairwise_insertionSort_position (qs : List SlotId) :
    (qs.insertionSort (fun p q => (s.record p).position ≤ (s.record q).position)).Pairwise
      (fun p q => (s.record p).position ≤ (s.record q).position) := by
  have htotal : Std.Total (fun p q : SlotId => (s.record p).position ≤ (s.record q).position) := ⟨fun _ _ => Nat.le_total _ _⟩
  have htrans : IsTrans SlotId (fun p q => (s.record p).position ≤ (s.record q).position) := ⟨fun _ _ _ => Nat.le_trans⟩
  exact List.pairwise_insertionSort _ _

end

/-- Settles O18, by induction on the plates walked. -/
theorem reconciliationPlacesEveryRecordOnce : Obligations.ReconciliationPlacesEveryRecordOnce := by
  intro l n plates s
  let plateOf : SlotId → Byte := fun q => (s.record q).plate
  refine ⟨_, (walk plateOf plates (s.expected l)).1, (walk plateOf plates (s.expected l)).2, rfl, rfl,
    walk_plates plateOf plates _, walk_perm plateOf plates _, walk_tied_sublist plateOf plates _,
    walk_absent_sublist plateOf plates _, fun e he q hq => walk_plate_of_slot plateOf he hq, mem_expected s l,
    pairwise_insertionSort_position s _, fun k e he => ?_⟩
  rw [walk_slot plateOf (expected_nodup s l) he]
  rfl

end Sys2Proof.PostDirectory
end

section
/-! Requests on the service channel, their REPLYs, and the reads of the state (R61, R89, R162 to R168, R178, R199). -/

namespace Sys2Proof.PostDirectory

open Sys2Proof Sys2Proof.Machine Sys2Proof.LoopPowerFeed

/-! ### A complete request, by whichever row (R162, R163, R165) -/

/-- The row of a request brings that request. -/
theorem requestOf_toInstr (t : Trunk) {req : Request} (h : NoSpareChannel req) :
    requestOf (req.toInstr t) = some (t, req) := by
  cases req with
  | readTable table index => unfold Request.toInstr; split <;> simp_all [requestOf]
  | loopControl loop action => unfold Request.toInstr; split <;> simp_all [requestOf]
  | trunkControl trunk action chan => unfold Request.toInstr; split <;> simp_all [requestOf, NoSpareChannel]
  | _ => rfl

/-- A request carried out leaves the management home (R165). -/
theorem perform_home (s : State) (req : Request) : (s.perform req).st.home = s.home := by
  cases req with
  | loopControl loop action =>
    simp only [State.perform, State.loopControl]
    (repeat' split) <;> simp [State.refuse, State.carried]
  | trunkControl trunk action chan =>
    simp only [State.perform, State.trunkControl, State.onChannel]
    (repeat' split) <;> simp [State.refuse, State.carried]
  | clearFault kind index count flags =>
    simp only [State.perform, State.clearFault]
    (repeat' split) <;> simp [State.refuse]
  | writeDirectory index w => simp [State.perform, State.writeSlot]
  | writeRoute index ws =>
    simp only [State.perform, State.writeRoute]
    (repeat' split) <;> simp [State.refuse, State.carried]
  | writeSegment index w =>
    simp only [State.perform, State.writeSegment]
    (repeat' split) <;> simp [State.refuse, State.carried]
  | writeSamples index codes =>
    simp only [State.perform, State.writeSamples]
    split_ifs <;> simp [State.refuse, State.carried]
  | writeSettings index value =>
    simp only [State.perform, State.writeSettings]
    split <;> simp [State.refuse]
  | writeMask index enables =>
    simp only [State.perform, State.writeMask]
    split_ifs <;> simp [State.refuse, State.carried]
  | setPlan plan =>
    simp only [State.perform, State.setActivePlan]
    split <;> simp
  | sectionRestart => simp [State.perform, State.carried]
  | readTable table index => simp only [State.perform, readTable_st]
  | readMap loop => simp only [State.perform, readMap_st]
  | readFault kind index => simp only [State.perform, readFault_st]
  | readStatus | readCalls | writeUnknown => rfl

theorem readTable_unknown (s : State) {table : Nat} (index : Nat) (h : 6 ≤ table) :
    s.perform (.readTable table index) = ⟨s, .badIndex, [byte table, byte index]⟩ := by
  obtain ⟨k, rfl⟩ := Nat.exists_eq_add_of_le' h
  rfl

theorem loopControl_unknown (s : State) {loop action : Nat} (h : 8 ≤ loop ∨ 4 ≤ action) :
    s.perform (.loopControl loop action) = ⟨s, if 8 ≤ loop then .badIndex else .badValue, []⟩ := by
  by_cases hl : 8 ≤ loop
  · have hnone : loopOfNat loop = none := by simp [loopOfNat, hl]
    simp [State.perform, State.loopControl, hnone, hl, State.refuse]
  · obtain ⟨k, rfl⟩ := Nat.exists_eq_add_of_le' (h.resolve_left hl)
    have hsome : loopOfNat loop = some ⟨loop, by omega⟩ := by simp [loopOfNat, Nat.lt_of_not_le hl]
    simp only [State.perform, State.loopControl, hsome, if_neg hl]
    rfl

theorem trunkControl_unknown (s : State) {trunk action : Nat} (chan : Nat) (h : 2 ≤ trunk ∨ 4 ≤ action) :
    s.perform (.trunkControl trunk action chan) = ⟨s, if 2 ≤ trunk then .badIndex else .badValue, []⟩ := by
  by_cases ht : 2 ≤ trunk
  · obtain ⟨k, rfl⟩ := Nat.exists_eq_add_of_le' ht
    rw [if_pos ht]
    rfl
  · obtain ⟨k, rfl⟩ := Nat.exists_eq_add_of_le' (h.resolve_left ht)
    obtain ⟨t, hsome⟩ : ∃ t, Trunk.ofCode trunk = some t := by
      obtain rfl | rfl : trunk = 0 ∨ trunk = 1 := by omega
      · exact ⟨.A, rfl⟩
      · exact ⟨.B, rfl⟩
    simp only [State.perform, State.trunkControl, hsome, if_neg ht]
    rfl

/-- With the executing place occupied a request takes an empty waiting place (R162). -/
theorem accept_waits (s : State) (i : Instr) (t : Trunk) (req : Request) {running : Request}
    (hrun : (s.service t).executing = some running) (hwait : (s.service t).waiting = none) :
    ∃ u : State, arrive i t req s = .next u ∧
      u = { s with serviceA := u.serviceA, serviceB := u.serviceB, handed := s.handed.erase i } ∧
      u.service t = { s.service t with waiting := some req } ∧ u.service t.other = s.service t.other := by
  refine ⟨(s.take i).modService t (fun v => { v with waiting := some req }), ?_, ?_⟩
  · simp [arrive, State.accept, hrun, hwait]
  · cases t <;> exact ⟨rfl, rfl, rfl⟩

/-- With both places occupied a request is discarded, and OVERRUN latched (R162). -/
theorem accept_overruns (s : State) (i : Instr) (t : Trunk) (req : Request) {running q : Request}
    (hrun : (s.service t).executing = some running) (hwait : (s.service t).waiting = some q) :
    arrive i t req s = .next { s with handed := s.handed.erase i ++ [.faultLatch (.sect .overrun)] } := by
  simp only [arrive, State.accept, State.take_service, hrun, hwait]
  rfl

/-- A complete request executed, waiting or discarded (R162, R163, R165). -/
theorem request_executed (i : Instr) (t : Trunk) (req : Request) (s : State) (hi : requestOf i = some (t, req))
    (hfree : (s.service t).executing = none) :
    ∃ u : State, exec i s = .next u ∧
      Replied t req ((s.asked i t).perform req).result ((s.asked i t).perform req).body ((s.asked i t).perform req).st u ∧
      ((s.asked i t).perform req).st.home = t ∧
      (∀ table, req = .writeUnknown table → Replied t req .badIndex [] (s.asked i t) u) ∧
      (∀ table index, req = .readTable table index → 6 ≤ table →
        Replied t req .badIndex [byte table, byte index] (s.asked i t) u) ∧
      (∀ loop action, req = .loopControl loop action → 8 ≤ loop ∨ 4 ≤ action →
        Replied t req (if 8 ≤ loop then .badIndex else .badValue) [] (s.asked i t) u) ∧
      ∀ trunk action chan, req = .trunkControl trunk action chan → 2 ≤ trunk ∨ 4 ≤ action →
        Replied t req (if 2 ≤ trunk then .badIndex else .badValue) [] (s.asked i t) u := by
  obtain ⟨u, hu, hrep⟩ := exec_replied i req hi hfree rfl
  refine ⟨u, hu, hrep, perform_home _ req, ?_, ?_, ?_, ?_⟩
  · rintro table rfl
    exact hrep
  · rintro table index rfl h
    rwa [readTable_unknown _ index h] at hrep
  · rintro loop action rfl h
    rwa [loopControl_unknown _ h] at hrep
  · rintro trunk action chan rfl h
    rwa [trunkControl_unknown _ chan h] at hrep

/-! ### The parts of a REPLY (R164, R197, R198) -/

theorem bodyParts_ne_nil (fuel : Nat) (body : List Byte) : bodyParts fuel body ≠ [] := by
  cases fuel <;> unfold bodyParts
  · simp
  · split_ifs <;> simp

theorem bodyParts_flatten (fuel : Nat) (body : List Byte) : (bodyParts fuel body).flatten = body := by
  induction fuel generalizing body with
  | zero => simp [bodyParts]
  | succ fuel ih =>
    unfold bodyParts
    split_ifs <;> simp [ih]

/-- Every part but the last is full. -/
theorem bodyParts_dropLast (fuel : Nat) (body : List Byte) : ∀ p ∈ (bodyParts fuel body).dropLast, p.length = 193 := by
  induction fuel generalizing body with
  | zero => simp [bodyParts]
  | succ fuel ih =>
    unfold bodyParts
    split_ifs with hlen
    · simp
    · intro p hp
      rw [List.dropLast_cons_of_ne_nil (bodyParts_ne_nil _ _)] at hp
      rcases List.mem_cons.mp hp with rfl | hmem
      · simpa [Config.partBytes] using (Nat.lt_of_not_le hlen).le
      · exact ih _ p hmem

theorem bodyParts_last {fuel : Nat} {body : List Byte} (hfuel : body.length ≤ fuel) :
    ∀ p, (bodyParts fuel body).getLast? = some p → p.length ≤ 193 := by
  induction fuel generalizing body with
  | zero =>
    obtain rfl : body = [] := List.length_eq_zero_iff.mp (Nat.le_zero.mp hfuel)
    simp [bodyParts]
  | succ fuel ih =>
    unfold bodyParts
    split_ifs with hlen
    · simpa [Config.partBytes] using hlen
    · intro p hp
      refine ih (body := body.drop Config.partBytes) (by simp [Config.partBytes]; omega) p ?_
      rw [List.getLast?_cons, Option.some.injEq] at hp
      cases hlast : (bodyParts fuel (body.drop Config.partBytes)).getLast? with
      | none => exact absurd (List.getLast?_eq_none_iff.mp hlast) (bodyParts_ne_nil _ _)
      | some q => simpa [hlast] using hp

/-- The messages of a REPLY are its parts, each numbered, the last marked (R197). -/
theorem replyParts_eq (r : Reply) (parts : List (List Byte)) (n : Nat) :
    replyParts r n parts = (parts.zipIdx n).flatMap (fun p => frameMsg 0x20
      ([r.echo, byte r.result.code, r.summary, byte (r.sectNo / 256), byte r.sectNo,
        byte (p.2 + if p.2 + 1 = n + parts.length then 128 else 0)] ++ p.1)) := by
  induction parts generalizing n with
  | nil => rfl
  | cons part rest ih =>
    have hlast : (n + 1 = n + (part :: rest).length) ↔ rest = [] := by
      rw [← List.length_eq_zero_iff, List.length_cons]; omega
    have hlen : n + (part :: rest).length = n + 1 + rest.length := by rw [List.length_cons]; omega
    rw [replyParts, ih, List.zipIdx_cons, List.flatMap_cons]
    simp only [hlast]
    rw [hlen]
    rfl

theorem result_code (result : Result) : byte result.code =
    (match result with
      | .ok => 0 | .okClamped => 1 | .badIndex => 2 | .badValue => 3 | .duplicate => 4 | .changed => 5 : Byte) := by
  cases result <;> rfl

/-! ### REPLY_START and REPLY_COMPLETE (R162, R164, R183) -/

theorem replyStart_starts (t : Trunk) (s : State) {r : Reply} (htx : (s.service t).tx = .idle)
    (hreply : (s.service t).reply = some r) :
    ∃ u : State, exec (.replyStart t) s = .next u ∧
      u = { s with serviceA := u.serviceA, serviceB := u.serviceB, handed := s.handed.erase (.replyStart t) } ∧
      u.service t = { s.service t with tx := .reply r.bytes, reply := none } ∧
      u.service t.other = s.service t.other := by
  refine ⟨(s.take (.replyStart t)).startReply t, rfl, ?_, ?_, ?_⟩
  · cases t <;> rfl
  · rw [State.startReply, State.modService_service, State.take_service, startReply_of_reply _ r hreply, if_pos htx]
  · cases t <;> rfl

theorem startReply_of_not_due {v : Service} (h : v.tx ≠ .idle ∨ v.reply = none) : v.startReply = v := by
  unfold Service.startReply
  split
  next r htx hreply => simp [htx, hreply] at h
  next => rfl

theorem replyStart_waits (t : Trunk) (s : State) (h : (s.service t).tx ≠ .idle ∨ (s.service t).reply = none) :
    exec (.replyStart t) s = .next { s with handed := s.handed.erase (.replyStart t) } := by
  have hsame : (s.take (.replyStart t)).startReply t = s.take (.replyStart t) := by
    rw [State.startReply, State.modService, State.take_service, startReply_of_not_due h]
    cases t <;> rfl
  exact congrArg _ hsame

theorem replyComplete_not_due (t : Trunk) (s : State) (h : (s.service t).tx ≠ .reply []) :
    exec (.replyComplete t) s = .next { s with handed := s.handed.erase (.replyComplete t) } := by
  simp only [exec, execReplyComplete, State.take_service, if_neg h]
  rfl

theorem mem_handed_wakeNotice (s : State) : .noticeStart ∈ s.wakeNotice.handed := s.mem_handOnce .noticeStart

/-- With no request waiting the executing place is freed, and on the home trunk the notice unit chooses (R162, R183). -/
theorem replyComplete_idle (t : Trunk) (s : State) (htx : (s.service t).tx = .reply [])
    (hwait : (s.service t).waiting = none) :
    ∃ u : State, exec (.replyComplete t) s = .next u ∧
      u = { s with serviceA := u.serviceA, serviceB := u.serviceB, handed := u.handed } ∧
      u.service t = { s.service t with tx := .idle, executing := none } ∧ u.service t.other = s.service t.other ∧
      (s.home = t → .noticeStart ∈ u.handed) ∧ (s.home ≠ t → u.handed = s.handed.erase (.replyComplete t)) := by
  let freed : State := (s.take (.replyComplete t)).modService t (fun v => { v with tx := .idle, executing := none })
  have hexec : exec (.replyComplete t) s = .next (if s.home = t then freed.wakeNotice else freed) := by
    simp only [exec, execReplyComplete, State.take_service, htx, if_true, State.afterReply, State.modService_service,
      hwait, State.modService_home, State.take_home]
    rfl
  have hfreed : freed.service t = { s.service t with tx := .idle, executing := none } := by cases t <;> rfl
  have hother : freed.service t.other = s.service t.other := by cases t <;> rfl
  have hframe : freed = { s with serviceA := freed.serviceA, serviceB := freed.serviceB, handed := freed.handed } := by
    cases t <;> rfl
  by_cases hhome : s.home = t
  · rw [if_pos hhome] at hexec
    refine ⟨_, hexec, ?_, ?_, ?_, fun _ => mem_handed_wakeNotice _, fun h => absurd hhome h⟩
    · rw [State.wakeNotice_frame]
      cases t <;> rfl
    · rw [State.wakeNotice_service, hfreed]
    · rw [State.wakeNotice_service, hother]
  · rw [if_neg hhome] at hexec
    refine ⟨_, hexec, hframe, hfreed, hother, fun h => absurd h hhome, fun _ => ?_⟩
    cases t <;> rfl

/-- A waiting request is executed when the REPLY before it has been sent (R162). -/
theorem replyComplete_next (t : Trunk) (s : State) {req : Request} (htx : (s.service t).tx = .reply [])
    (hwait : (s.service t).waiting = some req) :
    ∃ v u : State, v = { s with serviceA := v.serviceA, serviceB := v.serviceB } ∧
      v.service t = { s.service t with tx := .idle, executing := none, waiting := none } ∧
      v.service t.other = s.service t.other ∧ exec (.replyComplete t) s = .next u ∧
      Replied t req ((v.asked (.replyComplete t) t).perform req).result ((v.asked (.replyComplete t) t).perform req).body
        ((v.asked (.replyComplete t) t).perform req).st u := by
  let v : State := s.modService t (fun v => { v with tx := .idle, executing := none, waiting := none })
  have hexec : exec (.replyComplete t) s = .next ((v.take (.replyComplete t)).execute t req) := by
    simp only [exec, execReplyComplete, State.take_service, htx, if_true, State.afterReply, State.modService_service,
      hwait]
    cases t <;> rfl
  refine ⟨v, _, ?_, ?_, ?_, hexec, ?_⟩
  · cases t <;> rfl
  · cases t <;> rfl
  · cases t <;> rfl
  · rw [asked_eq]
    exact replied_makeReply _ t req

/-! ### READ-STATUS (R168, R199) -/

theorem statusBody_eq (s : State) : s.statusBody =
    [byte (s.param 0 / 256), byte (s.param 0), byte s.home.code, byte s.supply.state.code] ++
      allLoops.map (fun l => byte ((s.loop l).state.code + (if (s.loop l).stale then 8 else 0) +
        16 * (s.feed l).state.code + (if (s.feed l).desired then 128 else 0))) ++
      [Trunk.A, .B].flatMap (fun k => byte (s.trunk k).state.code ::
        [ChanState.free, .reserved, .inUse, .blocked].map (fun st =>
          byte (allChans.filter (fun n => (s.chan k n).st == st)).length)) ++
      [CtxState.free, .queued, .offered, .connected, .held, .clearing].map (fun st =>
        byte (allCtxs.filter (fun c => (s.ctx c).state == st)).length) ++
      [byte s.waiting.length, byte s.plan.val] := by
  simp only [State.statusBody, List.flatMap_cons, List.flatMap_nil, List.append_nil, ← List.append_assoc]
  rfl

/-! ### READ-CALLS (R89, R199) -/

theorem optByte_eq (b : Option Byte) :
    optByte b = (match b with | some d => [1, d] | none => [0, 0]) := by cases b <;> rfl

theorem legByte_eq (g : Option Leg) : legByte g =
    (match g with | none => 0 | some g => byte ((if g.trunk = .A then 0 else 128) + g.chan.val + 1) : Byte) := by
  cases g with
  | none => rfl
  | some g => cases h : g.trunk <;> simp [legByte, h, Trunk.code, chanNumber, Nat.add_assoc]

theorem refBytes_eq (c : CtxId) (ref : Option Byte) :
    State.refBytes c ref = (match ref with | some g => [byte c.val, g] | none => [0xFF, 0xFF]) := by cases ref <;> rfl

/-- A number, or all ones where there is none (R194). -/
theorem be16_getD (n : Option Nat) :
    be16 (n.getD 0xFFFF) = (match n with | some n => [byte (n / 256), byte n] | none => [0xFF, 0xFF]) := by
  cases n <;> rfl

theorem bearerByte_eq (s : State) (c : CtxId) : s.bearerByte c =
    (match (s.ctx c).bearer with
      | some b => byte (b.val + 4 * (match (s.bearer (s.ctx c).loop b).st with
        | .free => 0 | .assigning => 1 | .live => 2 | .releasing => 3))
      | none => 0xFF : Byte) := by
  unfold State.bearerByte
  cases (s.ctx c).bearer with
  | none => rfl
  | some b => cases h : (s.bearer (s.ctx c).loop b).st <;> simp [BearerState.code, h]

theorem causeByte_eq (x : Ctx) : byte (if x.state = .clearing then (x.cause.map Cause.code).getD 0 else 0) =
    (match x.cause with | some why => if x.state = .clearing then byte why.code else 0 | none => 0 : Byte) := by
  cases x.cause <;> split_ifs <;> rfl

theorem length_optByte (b : Option Byte) : (optByte b).length = 2 := by cases b <;> rfl

theorem length_callBytes (s : State) (c : CtxId) : (s.callBytes c).length = 25 := by
  have href (r : Option Byte) : (State.refBytes c r).length = 2 := by cases r <;> rfl
  simp [State.callBytes, be16, href, length_optByte]

/-! ### READ-MAP and READ-FAULT (R61, R178, R199) -/

theorem loopOfNat_val (l : LoopId) : loopOfNat l.val = some l := by simp [loopOfNat]

theorem mapBody_eq (s : State) (l : LoopId) : s.mapBody l =
    [byte l.val, byte ((s.loop l).state.code + (if (s.loop l).stale then 8 else 0) +
        16 * (s.feed l).state.code + (if (s.feed l).desired then 128 else 0)),
      if (s.loop l).reconPending then 1 else 0, (s.loop l).epoch, byte (s.loop l).map.length] ++
      ((s.loop l).map.zipIdx 1).flatMap (fun p =>
        (s.identityOf l p.2 p.1).bytes ++ optByte p.1.cmd.lastStatus ++ optByte p.1.cmd.lastHealth) ++
      byte (s.loop l).absent.length ::
        (s.absentInOrder l).flatMap (fun q => byte q.val :: be16 (s.record q).number) := by
  unfold State.mapBody
  dsimp only
  rw [List.append_assoc]
  rfl

theorem ofCodes_none {kind index : Nat} (h : 4 ≤ kind ∨ (kind = 0 ∧ 1 ≤ index) ∨ (kind = 1 ∧ 2 ≤ index) ∨
    (kind = 2 ∧ 8 ≤ index) ∨ (kind = 3 ∧ 96 ≤ index)) : RecRef.ofCodes kind index = none := by
  rcases h with h | ⟨rfl, h⟩ | ⟨rfl, h⟩ | ⟨rfl, h⟩ | ⟨rfl, h⟩ <;> obtain ⟨k, rfl⟩ := Nat.exists_eq_add_of_le' h
  · rfl
  · rfl
  · rfl
  · simp [RecRef.ofCodes, loopOfNat]
  · simp [RecRef.ofCodes, slotOfNat]

theorem recordBody_eq (s : State) (kind index : Nat) (r : RecRef) : s.recordBody kind index r =
    [byte kind, byte index, byte ((s.recordAt r).flags.toNat / 256), byte (s.recordAt r).flags.toNat,
      (s.recordAt r).count,
      match r with | .trunk k => byte (s.trunk k).slips | .post q => byte (s.testResult q).code | _ => 0,
      match r with | .post q => if (s.record q).valid then 1 else 0 | _ => 0] := by
  cases r <;> rfl

/-! ### The reads by their own rows -/

/-- Settles O49: the rows of a request by `exec_of_requestOf`, its REPLY by `replied_makeReply`, and each read by its body
in the state in which its trunk is the management home. -/
theorem requestsAreExecutedAnsweredAndReadTheState : Obligations.RequestsAreExecutedAnsweredAndReadTheState := by
  refine ⟨fun i t req s hi => ?_, fun r => ?_, fun t s => ?_, fun t s hfree => ⟨?_, ?_, fun l => ?_, fun loop hloop => ?_,
    fun kind index r hr => ?_, fun kind index hnone => ?_⟩⟩
  · have hreq : requestOf i = some (t, req) := by
      rcases hi with rfl | ⟨rfl, hspare⟩
      · rfl
      · exact requestOf_toInstr t hspare
    refine ⟨fun running hrun => ⟨fun hwait => ?_, fun q hwait => ?_⟩, request_executed i t req s hreq⟩
    · rw [exec_of_requestOf hreq]
      exact accept_waits s i t req hrun hwait
    · rw [exec_of_requestOf hreq]
      exact accept_overruns s i t req hrun hwait
  · refine ⟨bodyParts r.body.length r.body, bodyParts_ne_nil _ _, bodyParts_flatten _ _, bodyParts_dropLast _ _,
      bodyParts_last le_rfl, ?_⟩
    simp only [Reply.bytes, replyParts_eq, Nat.zero_add, result_code] <;> rfl
  · exact ⟨fun r htx hreply => replyStart_starts t s htx hreply, replyStart_waits t s, replyComplete_not_due t s,
      replyComplete_idle t s, fun req htx hwait => replyComplete_next t s htx hwait⟩
  · exact exec_replied (.readStatus t) .readStatus rfl hfree (d := ⟨s.asked (.readStatus t) t, .ok, _⟩)
      (by rw [State.perform, statusBody_eq]; rfl)
  · obtain ⟨u, hu, hrep⟩ := exec_replied (.readCalls t) .readCalls rfl hfree rfl
    refine ⟨u, hu, hrep, fun c => ⟨length_callBytes s c, ?_⟩⟩
    rintro x leg rfl rfl
    simp only [State.callBytes, be16_getD, refBytes_eq, optByte_eq, legByte_eq, bearerByte_eq, causeByte_eq]
    simp only [be16, List.append_assoc, List.cons_append, List.nil_append] <;> rfl
  · obtain ⟨u, hu, hrep⟩ := exec_replied (.readMap t l.val) (.readMap l.val) rfl hfree rfl
    refine ⟨u, hu, ?_, List.perm_insertionSort _ _, pairwise_insertionSort_position s _⟩
    simp only [State.perform, State.readMap, loopOfNat_val, mapBody_eq] at hrep
    exact hrep
  · obtain ⟨u, hu, hrep⟩ := exec_replied (.readMap t loop) (.readMap loop) rfl hfree rfl
    refine ⟨u, hu, ?_⟩
    have hnone : loopOfNat loop = none := by simp [loopOfNat, hloop]
    simpa [State.perform, State.readMap, hnone, State.refuse] using hrep
  · obtain ⟨u, hu, hrep⟩ := exec_replied (.readFault t kind index) (.readFault kind index) rfl hfree rfl
    refine ⟨u, hu, ?_⟩
    simp only [State.perform, State.readFault, hr, recordBody_eq] at hrep
    exact hrep
  · obtain ⟨u, hu, hrep⟩ := exec_replied (.readFault t kind index) (.readFault kind index) rfl hfree rfl
    refine ⟨u, hu, ?_⟩
    simpa [State.perform, State.readFault, ofCodes_none hnone, State.refuse] using hrep

end Sys2Proof.PostDirectory
end

section
/-! The notice unit (R181 to R186, R194, R200): the summary byte, the data of notices, their choice and their raises. -/

namespace Sys2Proof.PostDirectory

open Sys2Proof Sys2Proof.Machine Sys2Proof.LoopPowerFeed

/-! ### The summary byte (R186) -/

/-- The seven bits of a summary byte, and bit 7, set with any of them. -/
theorem summary_layout : ∀ b0 b1 b2 b3 b4 b5 b6 : Bool,
    let low := [b0, b1, b2, b3, b4, b5, b6]
    let b := byte ((low.zipIdx.map (fun p => if p.1 then 2 ^ p.2 else 0)).sum + if low.any id then 128 else 0)
    b.getLsbD 0 = b0 ∧ b.getLsbD 1 = b1 ∧ b.getLsbD 2 = b2 ∧ b.getLsbD 3 = b3 ∧ b.getLsbD 4 = b4 ∧ b.getLsbD 5 = b5 ∧
      b.getLsbD 6 = b6 ∧ b.getLsbD 7 = low.any id := by decide

theorem sumQueue_iff (s : State) : s.sumQueue ↔
    (∃ c, ((s.ctx c).state = .queued ∨ (s.ctx c).state = .offered) ∧ s.param 5 < (s.ctx c).waited) ∨
      ∃ m ∈ s.marks, m.1 = 7 := by
  simp only [State.sumQueue, Bool.or_eq_true, List.any_eq_true, allCtxs, List.mem_finRange, true_and, Bool.and_eq_true,
    beq_iff_eq, decide_eq_true_eq]
  rfl

theorem sumPost_iff (s : State) : s.sumPost ↔ ∃ q, (s.postFault q).flags ≠ 0 := by
  simp only [State.sumPost, List.any_eq_true, Vector.mem_toList_iff, bne_iff_ne]
  constructor
  · rintro ⟨r, hr, hflags⟩
    obtain ⟨i, hi, rfl⟩ := Vector.mem_iff_getElem.mp hr
    exact ⟨⟨i, hi⟩, hflags⟩
  · rintro ⟨q, hflags⟩
    exact ⟨_, Vector.getElem_mem q.isLt, hflags⟩

theorem any_allLoops (p : LoopId → Bool) : allLoops.any p ↔ ∃ l, p l := by
  have hmem (l : LoopId) : l ∈ allLoops := List.mem_finRange l
  simp only [List.any_eq_true, hmem, true_and]

theorem sumFeed_iff (s : State) : s.sumFeed ↔
    (∃ l, (s.loopFault l).flags.getLsbD 0 ∨ (s.loopFault l).flags.getLsbD 1) ∨ s.sectionFault.flags.getLsbD 1 := by
  simp only [State.sumFeed, Bool.or_eq_true, any_allLoops]
  rfl

theorem sumLoop_iff (s : State) : s.sumLoop ↔ ∃ l, (s.loop l).state = .unpowered ∨ (s.loop l).state = .start ∨
    (s.loop l).state = .degraded ∨ (s.loop l).state = .failed := by
  simp only [State.sumLoop, State.loopAlerts, any_allLoops, Bool.or_eq_true, beq_iff_eq, or_assoc]

theorem sumTrunk_iff (s : State) : s.sumTrunk ↔
    ∃ t, (s.trunk t).state = .hunt ∨ (s.trunk t).state = .holdover ∨ (s.trunk t).state = .farFault := by
  simp only [State.sumTrunk, State.trunkAlerts, Bool.or_eq_true, beq_iff_eq, or_assoc]
  constructor
  · rintro (h | h | h | h)
    · exact ⟨.A, .inl h⟩
    · exact ⟨.A, .inr (.inl h)⟩
    · exact ⟨.A, .inr (.inr h)⟩
    · exact ⟨.B, h⟩
  · rintro ⟨t, h⟩
    cases t
    · exact h.imp_right (Or.imp_right .inl)
    · exact .inr (.inr (.inr h))

theorem sumMsgErr_iff (s : State) : s.sumMsgErr ↔ s.sectionFault.flags.getLsbD 3 ∨ s.sectionFault.flags.getLsbD 4 ∨
    s.sectionFault.flags.getLsbD 5 ∨ s.sectionFault.flags.getLsbD 6 := by
  simp [State.sumMsgErr, FaultRec.has, SectionFlag.bit, or_assoc]

theorem summaryBits_summary (s : State) : SummaryBits s s.summary := by
  obtain ⟨h0, h1, h2, h3, h4, h5, h6, h7⟩ :=
    summary_layout s.sumQueue s.sumPost s.sumFeed s.sumLoop s.sumTrunk s.sumMsgErr s.sumRestarted
  refine ⟨by rw [← sumQueue_iff, ← h0]; rfl, by rw [← sumPost_iff, ← h1]; rfl, by rw [← sumFeed_iff, ← h2]; rfl,
    by rw [← sumLoop_iff, ← h3]; rfl, by rw [← sumTrunk_iff, ← h4]; rfl, by rw [← sumMsgErr_iff, ← h5]; rfl,
    Bool.eq_iff_iff.mp h6, (Bool.eq_iff_iff.mp h7).trans ?_⟩
  have hbits (k : Nat) (b : Bool) (hk : s.summary.getLsbD k = b) : b = true ↔ s.summary.getLsbD k := by rw [hk]
  have hall : (∃ k, k < 7 ∧ s.summary.getLsbD k) ↔ s.summary.getLsbD 0 ∨ s.summary.getLsbD 1 ∨ s.summary.getLsbD 2 ∨
      s.summary.getLsbD 3 ∨ s.summary.getLsbD 4 ∨ s.summary.getLsbD 5 ∨ s.summary.getLsbD 6 := by
    simp only [Nat.exists_lt_succ_right, Nat.not_lt_zero, false_and, exists_false, false_or, or_assoc]
  rw [hall, ← hbits 0 _ h0, ← hbits 1 _ h1, ← hbits 2 _ h2, ← hbits 3 _ h3, ← hbits 4 _ h4, ← hbits 5 _ h5,
    ← hbits 6 _ h6]
  simp

/-! ### The entry tied to a slot (R184) -/

theorem tiedFrom_some {slot : SlotId} {es : List MapEntry} {first pos : Nat} {e : MapEntry}
    (h : State.tiedFrom slot es first = some (pos, e)) :
    ∃ k, pos = first + k ∧ es[k]? = some e ∧ e.tie.slot? = some slot := by
  induction es generalizing first with
  | nil => cases h
  | cons x es ih =>
    unfold State.tiedFrom at h
    split_ifs at h with hx
    · obtain ⟨rfl, rfl⟩ : first = pos ∧ x = e := by simpa using h
      exact ⟨0, rfl, rfl, hx⟩
    · obtain ⟨k, rfl, hk, he⟩ := ih h
      exact ⟨k + 1, by omega, hk, he⟩

theorem tiedFrom_none {slot : SlotId} {es : List MapEntry} {first : Nat} (h : State.tiedFrom slot es first = none) :
    ∀ e ∈ es, e.tie.slot? ≠ some slot := by
  induction es generalizing first with
  | nil => simp
  | cons x es ih =>
    unfold State.tiedFrom at h
    split_ifs at h with hx
    simpa [hx] using ih h

theorem tiedAnywhere_some {s : State} {q : SlotId} {l : LoopId} {pos : Nat} {e : MapEntry}
    (h : s.tiedAnywhere q = some (l, pos, e)) : s.entryAt l pos = some e ∧ e.tie.slot? = some q := by
  obtain ⟨m, -, hm⟩ := List.exists_of_findSome?_eq_some h
  obtain ⟨p, hp, heq⟩ := Option.map_eq_some_iff.mp hm
  obtain ⟨rfl, rfl⟩ : m = l ∧ p = (pos, e) := by simpa using heq
  obtain ⟨k, rfl, hk, he⟩ := tiedFrom_some hp
  exact ⟨by simpa [State.entryAt] using hk, he⟩

theorem tiedAnywhere_none {s : State} {q : SlotId} (h : s.tiedAnywhere q = none) (l : LoopId) (pos : Nat) (e : MapEntry) :
    ¬ (s.entryAt l pos = some e ∧ e.tie.slot? = some q) := by
  rintro ⟨hentry, hq⟩
  have hnone := List.findSome?_eq_none_iff.mp h l (List.mem_finRange l)
  unfold State.entryAt at hentry
  split_ifs at hentry
  exact tiedFrom_none (Option.map_eq_none_iff.mp hnone) e (List.mem_of_getElem? hentry) hq

theorem slotIdentity_identityOfSlot (s : State) (q : SlotId) : SlotIdentity s q (optIdentity (s.identityOfSlot q)) := by
  refine ⟨fun hvalid => by simp [State.identityOfSlot, hvalid, optIdentity], fun hvalid l pos e hentry hunique => ?_,
    fun hvalid hnone => ?_⟩
  · cases htied : s.tiedAnywhere q with
    | none => exact absurd hentry (tiedAnywhere_none htied l pos e)
    | some p =>
      obtain ⟨l', pos', e'⟩ := p
      have hentry' := tiedAnywhere_some htied
      obtain ⟨rfl, rfl⟩ := hunique l' pos' e' hentry'
      obtain rfl : e' = e := Option.some.inj (hentry'.1.symm.trans hentry.1)
      simp [State.identityOfSlot, hvalid, htied, optIdentity]
  · cases htied : s.tiedAnywhere q with
    | none => simp [State.identityOfSlot, hvalid, htied, optIdentity, State.identityNotSeen]
    | some p => exact absurd (tiedAnywhere_some htied) (hnone p.1 p.2.1 p.2.2)

/-! ### The data of a notice (R184, R200) -/

theorem flagsByte_eq (r : FaultRec) : r.flagsByte = byte r.flags.toNat := (BitVec.ofNat_toNat 8 r.flags).symm

theorem flagByte_eq (b : Bool) : flagByte b = byte (if b then 1 else 0) := by cases b <;> rfl

theorem ofNat_val {n : Nat} [NeZero n] (i : Fin n) : Fin.ofNat n i.val = i := Fin.ext (Nat.mod_eq_of_lt i.isLt)

/-- The contexts that are not FREE are the rest of the 32 (R89). -/
theorem countP_not_free (s : State) :
    allCtxs.countP (fun c => (s.ctx c).state != .free) = 32 - s.ctxCount .free := by
  have hlen := List.length_eq_countP_add_countP (l := allCtxs) (fun c => (s.ctx c).state == .free)
  have hall : allCtxs.length = 32 := List.length_finRange
  rw [State.ctxCount, ← List.countP_eq_length_filter]
  have hneg : allCtxs.countP (fun c => (s.ctx c).state != .free) =
      allCtxs.countP (fun c => decide ¬ ((s.ctx c).state == .free) = true) :=
    List.countP_congr fun c _ => by simp
  omega

theorem dataNaming_eq (s : State) (l : LoopId) : s.dataNaming l =
    [(s.loop l).epoch, byte (s.loop l).map.length, byte ((s.loop l).map.countP (fun e => e.tie == .unlisted)),
      byte (s.loop l).absent.length, byte (if (s.loop l).stale then 1 else 0),
      byte ((s.loopFault l).flags.toNat / 256), byte (s.loopFault l).flags.toNat, (s.loopFault l).count] := by
  have hcount : ((s.loop l).map.filter (fun e => e.tie.slot?.isNone)).length =
      (s.loop l).map.countP (fun e => e.tie == .unlisted) := by
    rw [← List.countP_eq_length_filter]
    refine List.countP_congr fun e _ => ?_
    cases e.tie <;> simp [Tie.slot?]
  simp only [State.dataNaming, hcount, flagByte_eq, FaultRec.flagsBytes, be16]
  rfl

theorem dataAbandonedLoop_eq (s : State) {l : LoopId} {pos : Nat} {plate : Byte}
    (h : s.abandonPosts[l] = some (pos, plate)) :
    s.dataAbandonedLoop l = [byte s.abandons[96 + l.val], byte l.val, byte pos, plate] := by
  simp [State.dataAbandonedLoop, h]

theorem identityOfCtx_of_keyEntry {s : State} {c : CtxId} {e : MapEntry} (h : s.keyEntry c = some e) :
    s.identityOfCtx c = s.identityOf (s.ctx c).loop (s.keyPos c) e := by
  simp [State.identityOfCtx, h]

theorem noticeCarries_noticeData (s : State) (m : Nat × Nat) : NoticeCarries s m (s.noticeData m) := by
  refine ⟨?_, ?_, fun l => ⟨?_, ?_, ?_, ?_⟩, ?_, ?_, ?_, fun q => ?_, fun c e he => ⟨?_, ?_⟩⟩
  · rintro rfl
    simp [State.noticeData, State.dataRestart, flagsByte_eq]
  · rintro rfl
    simp only [State.noticeData, State.dataSupply, FaultRec.flagByteOf, flagByte_eq]
    rfl
  · rintro rfl
    simp only [State.noticeData, ofNat_val]
    rfl
  · rintro rfl
    simp only [State.noticeData, ofNat_val]
    rfl
  · rintro rfl pos plate hpost
    have hindex : 96 + l.val - 96 = l.val := by omega
    have hdata : s.noticeData (8, 96 + l.val) = s.dataAbandoned (96 + l.val) := rfl
    rw [hdata, State.dataAbandoned, if_neg (by simp), hindex, ofNat_val, dataAbandonedLoop_eq s hpost]
  · rintro rfl
    simp only [State.noticeData, ofNat_val, dataNaming_eq]
  · rintro t rfl
    cases t <;> simp [State.noticeData, State.dataTrunkState, Trunk.code, flagsByte_eq]
  · rintro rfl
    simp only [State.noticeData, State.dataContextsFull, countP_not_free, FaultRec.flagByteOf, flagByte_eq]
    rfl
  · rintro z rfl
    simp only [State.noticeData, ofNat_val, State.dataRouteExhausted, State.retrying, List.countP_eq_length_filter]
  · refine ⟨optIdentity (s.identityOfSlot q), slotIdentity_identityOfSlot s q, ?_, ?_⟩
    · rintro rfl
      have hdata : s.noticeData (8, q.val) = s.dataAbandoned q.val := rfl
      rw [hdata, State.dataAbandoned, if_pos q.isLt, ofNat_val]
      rfl
    · rintro rfl
      simp only [State.noticeData, ofNat_val, State.dataPostFault, flagsByte_eq]
  · rintro rfl
    simp only [State.noticeData, ofNat_val, State.dataSilentCall, identityOfCtx_of_keyEntry he, flagByte_eq, be16,
      State.callHead, List.append_assoc]
    rfl
  · rintro rfl
    simp only [State.noticeData, ofNat_val, State.dataHoldLong, identityOfCtx_of_keyEntry he, be16, State.callHead,
      List.append_assoc]

theorem identity_bytes (i : Identity) : i.bytes =
    (match i.number with | some n => [byte (n / 256), byte n] | none => [0xFF, 0xFF]) ++
    [byte i.loop.val, byte i.seen, i.plate,
      match i.status with | .confirmed => 0 | .unconfirmed => 1 | .unlisted => 2 | .notSeen => 3] ++
    (match i.road with | some n => [byte (n / 256), byte n] | none => [0xFF, 0xFF]) ++
    (match i.carriageway with
      | some .aDirection => [0] | some .bDirection => [1] | some .link => [2] | some .central => [3]
      | none => [0xFF]) ++
    (match i.marker with | some n => [byte (n / 256), byte n] | none => [0xFF, 0xFF]) ++
    byte i.zone.val :: byte i.label1.length :: i.label1 ++ byte i.label2.length :: i.label2 := by
  have hstatus : byte i.status.code =
      (match i.status with | .confirmed => 0 | .unconfirmed => 1 | .unlisted => 2 | .notSeen => 3 : Byte) := by
    cases i.status <;> rfl
  have hway : [byte ((i.carriageway.map Carriageway.code).getD 0xFF)] =
      (match i.carriageway with
        | some .aDirection => [0] | some .bDirection => [1] | some .link => [2] | some .central => [3]
        | none => [0xFF] : List Byte) := by
    rcases i.carriageway with _ | way
    · rfl
    · cases way <;> rfl
  simp only [Identity.bytes, be16_getD, labelBytes, hstatus, hway, List.append_assoc]
  rfl

/-! ### NOTICE_START (R181, R183) -/

theorem idle_iff (v : Service) : v.idle ↔ v.tx = .idle ∧ v.reply = none := by
  simp [Service.idle]

/-- With no notice to choose, or a transmitter at work, nothing is sent (R183). -/
theorem noticeStart_quiet (s : State) (h : (s.service s.home).tx ≠ .idle ∨ (s.service s.home).reply ≠ none ∨
      (∀ m ∈ s.marks, s.mask.getLsbD (m.1 - 1) = false)) :
    exec .noticeStart s = .next { s with handed := s.handed.erase .noticeStart } := by
  have hsame : (s.take .noticeStart).choice = s.choice := rfl
  simp only [exec, execNoticeStart, State.take_service, State.take_home, hsame]
  by_cases hidle : (s.service s.home).idle
  · obtain ⟨htx, hreply⟩ := (idle_iff _).mp hidle
    have hnone : s.choice = none :=
      List.find?_eq_none.mpr fun m hm => by simpa [State.enabled] using (h.resolve_left (· htx)).resolve_left (· hreply) m hm
    simp only [hidle, if_true, hnone]
    rfl
  · simp only [hidle]
    rfl

/-- The first enabled mark is the choice (R183). -/
theorem choice_of_marks {s : State} {m : Nat × Nat} {front back : List (Nat × Nat)} (hmarks : s.marks = front ++ m :: back)
    (hfront : ∀ x ∈ front, s.mask.getLsbD (x.1 - 1) = false) (hm : s.mask.getLsbD (m.1 - 1)) : s.choice = some m := by
  have hnone : front.find? s.enabled = none :=
    List.find?_eq_none.mpr fun x hx => by simpa [State.enabled] using hfront x hx
  have hsome : s.enabled m = true := hm
  simp [State.choice, hmarks, List.find?_append, hnone, hsome]

section
variable (s : State) (m : Nat × Nat)

theorem clearAbandon_abandons (index : Nat) (k : Fin 104) :
    (s.clearAbandon index).abandons[k] = if index = k.val then 0 else s.abandons[k] := by
  unfold State.clearAbandon
  split
  · simp only [Fin.getElem_fin, Vector.getElem_set]
  · rw [if_neg (by omega)]

theorem clearAbandon_abandonPosts (index : Nat) (l : LoopId) :
    (s.clearAbandon index).abandonPosts[l] = if index = 96 + l.val then none else s.abandonPosts[l] := by
  unfold State.clearAbandon
  split
  · by_cases h2 : 96 ≤ index
    · simp only [h2, ↓reduceDIte, Fin.getElem_fin, Vector.getElem_set]
      exact if_congr (by omega) rfl rfl
    · simp only [h2, ↓reduceDIte]
      rw [if_neg (by omega)]
  · rw [if_neg (by omega)]

theorem clearMark_abandons (k : Fin 104) :
    (s.clearMark m).abandons[k] = if m = (8, k.val) then 0 else s.abandons[k] := by
  obtain ⟨rank, index⟩ := m
  unfold State.clearMark
  by_cases hrank : rank = 8
  · subst hrank
    simp only [if_true, clearAbandon_abandons, Prod.mk.injEq, true_and]
    rfl
  · simp only [hrank, if_false, Prod.mk.injEq, false_and]
    rfl

theorem clearMark_abandonPosts (l : LoopId) :
    (s.clearMark m).abandonPosts[l] = if m = (8, 96 + l.val) then none else s.abandonPosts[l] := by
  obtain ⟨rank, index⟩ := m
  unfold State.clearMark
  by_cases hrank : rank = 8
  · subst hrank
    simp only [if_true, clearAbandon_abandonPosts, Prod.mk.injEq, true_and]
    rfl
  · simp only [hrank, if_false, Prod.mk.injEq, false_and]
    rfl

theorem clearMark_eq : s.clearMark m = { s with
    marks := s.marks.filter (· != m)
    abandons := (s.clearMark m).abandons
    abandonPosts := (s.clearMark m).abandonPosts } := by
  unfold State.clearMark State.clearAbandon
  split_ifs <;> rfl

end

/-- The taking of NOTICE_START leaves every rebuild report on its way (R84). -/
theorem passesDue_take_noticeStart (s : State) (l : LoopId) : (s.take .noticeStart).passesDue l = s.passesDue l := by
  have herase (f : Instr → Option (List (Option (Nat × Tie)))) (hf : f .noticeStart = none) (is : List Instr) :
      (is.erase .noticeStart).filterMap f = is.filterMap f := by
    induction is with
    | nil => rfl
    | cons i is ih =>
      rw [List.erase_cons]
      split_ifs with h
      · rw [beq_iff_eq] at h
        rw [h, List.filterMap_cons_none hf]
      · simp only [List.filterMap_cons, ih]
  exact herase _ rfl s.handed

theorem keyEntry_take_noticeStart (s : State) (c : CtxId) : (s.take .noticeStart).keyEntry c = s.keyEntry c ∧
    (s.take .noticeStart).keyPos c = s.keyPos c := by
  have hpos : (s.take .noticeStart).keyPos c = s.keyPos c := by
    simp only [State.keyPos, State.nowAt, passesDue_take_noticeStart, State.take_ctx]
  exact ⟨by simp only [State.keyEntry, hpos]; rfl, hpos⟩

theorem identityOfCtx_take_noticeStart (s : State) (c : CtxId) :
    (s.take .noticeStart).identityOfCtx c = s.identityOfCtx c := by
  obtain ⟨hentry, hpos⟩ := keyEntry_take_noticeStart s c
  simp only [State.identityOfCtx, hentry, hpos]
  rfl

theorem noticeData_take_noticeStart (s : State) (m : Nat × Nat) : (s.take .noticeStart).noticeData m = s.noticeData m := by
  simp only [State.noticeData, State.dataSilentCall, State.dataHoldLong, identityOfCtx_take_noticeStart]
  rfl

/-- The first pending enabled object is sent as a notice with its data (R181, R183). -/
theorem noticeStart_sends {m : Nat × Nat} {front back : List (Nat × Nat)} {s : State}
    (htx : (s.service s.home).tx = .idle) (hreply : (s.service s.home).reply = none)
    (hmarks : s.marks = front ++ m :: back) (hfront : ∀ x ∈ front, s.mask.getLsbD (x.1 - 1) = false)
    (hm : s.mask.getLsbD (m.1 - 1)) :
    ∃ u : State, exec .noticeStart s = .next u ∧
      u = { s with
        serviceA := u.serviceA
        serviceB := u.serviceB
        marks := s.marks.filter (· != m)
        abandons := u.abandons
        abandonPosts := u.abandonPosts
        handed := s.handed.erase .noticeStart } ∧
      u.service s.home.other = s.service s.home.other ∧
      u.service s.home = { s.service s.home with
        tx := .notice (frameMsg 0x21 (be16 (s.param 0) ++ [byte m.1, byte m.2] ++ s.noticeData m)) } ∧
      (∀ k : Fin 104, u.abandons[k] = if m = (8, k.val) then 0 else s.abandons[k]) ∧
      ∀ l : LoopId, u.abandonPosts[l] = if m = (8, 96 + l.val) then none else s.abandonPosts[l] := by
  have hchoice : (s.take .noticeStart).choice = some m := choice_of_marks hmarks hfront hm
  have hidle := (idle_iff _).mpr ⟨htx, hreply⟩
  have hexec : exec .noticeStart s = .next ((s.take .noticeStart).startNotice m) := by
    simp only [exec, execNoticeStart, State.take_service, State.take_home, hidle, if_true, hchoice]
  have hmsg : (s.take .noticeStart).noticeMessage m =
      frameMsg 0x21 (be16 (s.param 0) ++ [byte m.1, byte m.2] ++ s.noticeData m) := by
    rw [State.noticeMessage, noticeData_take_noticeStart]
    rfl
  refine ⟨_, hexec, ?_, ?_, ?_, fun k => ?_, fun l => ?_⟩
  · unfold State.startNotice
    rw [clearMark_eq, State.modService_frame]
    rfl
  · have hother : s.home ≠ s.home.other := by cases s.home <;> simp [Trunk.other]
    rw [State.startNotice, State.take_home, State.modService_service_of_ne _ _ _ _ hother]
    simp
  · rw [State.startNotice, State.take_home, State.modService_service, hmsg]
    simp
  · simp only [State.startNotice, State.modService_abandons]
    exact clearMark_abandons (s.take .noticeStart) m k
  · simp only [State.startNotice, State.modService_abandonPosts]
    exact clearMark_abandonPosts (s.take .noticeStart) m l

/-! ### NOTICE_RAISE (R181, R185) -/

theorem countAbandon_abandons (s : State) (x : Raise) (k : Fin 104) :
    (s.countAbandon x).abandons[k] = if x.mark = (8, k.val) then min (s.abandons[k] + 1) 255 else s.abandons[k] := by
  have hset (i : Nat) (hi : i < 104) : (s.abandons.set i (min (s.abandons[i] + 1) 255))[k.val] =
      if i = k.val then min (s.abandons[k.val] + 1) 255 else s.abandons[k.val] := by
    rw [Vector.getElem_set]
    split_ifs with h
    · simp only [h]
    · rfl
  cases x with
  | abandonedSlot slot =>
    simp only [State.countAbandon, Raise.mark, Prod.mk.injEq, true_and, Fin.getElem_fin]
    exact hset slot.val (by omega)
  | abandonedLoop l pos plate =>
    simp only [State.countAbandon, Raise.mark, Prod.mk.injEq, true_and, Fin.getElem_fin]
    exact hset (96 + l.val) (by omega)
  | _ => simp [State.countAbandon, Raise.mark]

theorem countAbandon_abandonPosts (s : State) {x : Raise} {l : LoopId} (h : ∀ pos plate, x ≠ .abandonedLoop l pos plate) :
    (s.countAbandon x).abandonPosts[l] = s.abandonPosts[l] := by
  cases x with
  | abandonedLoop m pos plate =>
    have hne : m.val ≠ l.val := fun heq => h pos plate (by rw [Fin.ext heq])
    simp [State.countAbandon, Vector.getElem_set_ne, hne]
  | _ => rfl

/-- A raise that names no FREE context sets its object's mark and counts an abandonment (R181). -/
theorem noticeRaise_sets (x : Raise) (s : State) (hbusy : ∀ c, x = .silentCall c ∨ x = .holdLong c → (s.ctx c).state ≠ .free) :
    ∃ u : State, exec (.noticeRaise x) s = .next u ∧
      u = { s with
        marks := u.marks
        abandons := u.abandons
        abandonPosts := u.abandonPosts
        handed := u.handed } ∧
      (∀ m, m ∈ u.marks ↔ m ∈ s.marks ∨ m = x.mark) ∧
      (∀ k : Fin 104, u.abandons[k] = if x.mark = (8, k.val) then min (s.abandons[k] + 1) 255 else s.abandons[k]) ∧
      (∀ l pos plate, x = .abandonedLoop l pos plate → u.abandonPosts[l] = some (pos, plate)) ∧
      (∀ l, (∀ pos plate, x ≠ .abandonedLoop l pos plate) → u.abandonPosts[l] = s.abandonPosts[l]) ∧
      .noticeStart ∈ u.handed := by
  let s1 := s.take (.noticeRaise x)
  let s2 := (s1.countAbandon x).setMarks (insertMark x.mark s.marks)
  have hfree : s1.raiseOfFree x = false := by
    cases x with
    | silentCall c => simpa [State.raiseOfFree, s1] using hbusy c (.inl rfl)
    | holdLong c => simpa [State.raiseOfFree, s1] using hbusy c (.inr rfl)
    | _ => rfl
  have hexec : exec (.noticeRaise x) s = .next s2.wakeNotice := by
    simp only [exec, execNoticeRaise, State.raiseNow]
    rw [if_neg (by rw [hfree]; exact Bool.false_ne_true)]
    rfl
  have hframe : s2 = { s with
      marks := s2.marks, abandons := s2.abandons, abandonPosts := s2.abandonPosts, handed := s2.handed } := by
    cases x <;> rfl
  refine ⟨_, hexec, ?_, fun m => ?_, fun k => ?_, fun l pos plate hx => ?_, fun l hx => ?_, mem_handed_wakeNotice _⟩
  · rw [State.wakeNotice_frame]
    exact congrArg (fun u : State => ({ u with handed := s2.wakeNotice.handed } : State)) hframe
  · rw [State.wakeNotice_marks, State.setMarks_marks, mem_insertMark]
    exact or_comm
  · simp only [State.wakeNotice_abandons]
    exact countAbandon_abandons s1 x k
  · subst hx
    simp only [State.wakeNotice_abandonPosts]
    exact Vector.getElem_set_self _
  · simp only [State.wakeNotice_abandonPosts]
    exact countAbandon_abandonPosts s1 hx

/-- A raise for a FREE context sets nothing (R185). -/
theorem noticeRaise_free {x : Raise} {c : CtxId} {s : State} (hx : x = .silentCall c ∨ x = .holdLong c)
    (hfree : (s.ctx c).state = .free) :
    ∃ u : State, exec (.noticeRaise x) s = .next u ∧ u = { s with handed := u.handed } ∧
      u.handed = if .noticeStart ∈ s.handed.erase (.noticeRaise x) then s.handed.erase (.noticeRaise x)
        else s.handed.erase (.noticeRaise x) ++ [.noticeStart] := by
  let s1 := s.take (.noticeRaise x)
  have hof : s1.raiseOfFree x = true := by
    rcases hx with rfl | rfl <;> simpa [State.raiseOfFree, s1] using hfree
  have hexec : exec (.noticeRaise x) s = .next s1.wakeNotice := by
    simp only [exec, execNoticeRaise, State.raiseNow]
    rw [if_pos hof]
  refine ⟨_, hexec, ?_, ?_⟩
  · rw [State.wakeNotice_frame]
    rfl
  · unfold State.wakeNotice State.handOnce
    exact apply_ite State.handed _ _ _

/-- Settles O51: the summary byte and the data by the definitions they are read from, NOTICE_START by its choice, and
NOTICE_RAISE by the case that names a FREE context and the one that does not. -/
theorem noticesAreRaisedAndChosen : Obligations.NoticesAreRaisedAndChosen :=
  ⟨summaryBits_summary, noticeCarries_noticeData, identity_bytes, noticeStart_quiet,
    fun _ _ _ _ htx hreply hmarks hfront hm => noticeStart_sends htx hreply hmarks hfront hm,
    noticeRaise_sets, fun _ _ _ hx hfree => noticeRaise_free hx hfree⟩

end Sys2Proof.PostDirectory
end

section
/-! The calls of a loop after a rebuild (R73, R83, R84, R110): each follows its post or is released, and the bearers freed are
handed on. -/

namespace Sys2Proof.PostDirectory

open Sys2Proof Sys2Proof.Machine Sys2Proof.LoopPowerFeed

section
variable (s : State)

/-! ### Channels and transmit queues (R99, R130) -/

theorem release_release (x : Channel) : x.release.release = x.release := by
  unfold Channel.release
  split_ifs <;> simp_all

theorem freedTo_release (x : Channel) : FreedTo x x.release := by
  unfold FreedTo Channel.release
  split_ifs <;> rfl

theorem setChan_chan_eq (t k : Trunk) (n m : ChanId) (x : Channel) :
    (s.setChan t n x).chan k m = if t = k ∧ n = m then x else s.chan k m := by
  by_cases ht : t = k
  · subst ht
    by_cases hn : n = m
    · subst hn; simp
    · simp [State.setChan_chan_of_ne, hn]
  · simp [State.setChan, State.chan, State.modTrunk_trunk_of_ne, ht]

/-- A leg freed leaves its channel released, and every other channel. -/
theorem freeLeg_chan (g : Option Leg) (k : Trunk) (n : ChanId) :
    (s.freeLeg g).chan k n = if g = some ⟨k, n⟩ then (s.chan k n).release else s.chan k n := by
  cases g with
  | none => rfl
  | some g =>
    obtain ⟨t, m⟩ := g
    rw [State.freeLeg, State.freeChan, setChan_chan_eq]
    simp only [Option.some.injEq, Leg.mk.injEq]
    split_ifs with h
    · rw [h.1, h.2]
    · rfl

theorem freeLeg_trunk (g : Option Leg) (k : Trunk) :
    (s.freeLeg g).trunk k = { s.trunk k with channels := ((s.freeLeg g).trunk k).channels } := by
  cases g with
  | none => rfl
  | some g =>
    rw [State.freeLeg, State.freeChan, State.setChan]
    by_cases h : g.trunk = k
    · subst h; simp
    · simp [State.modTrunk_trunk_of_ne, h]

/-- A message goes into a queue as far as its 64 places take it (R99). -/
theorem pushSig_trunk (t k : Trunk) (m : SigMsg) : (s.pushSig t m).trunk k =
    { s.trunk k with sigQueue := (s.trunk k).sigQueue ++ (if t = k then [m] else []).take (64 - (s.trunk k).sigQueue.length) } := by
  by_cases ht : t = k
  · subst ht
    by_cases hroom : (s.trunk t).sigQueue.length < Config.sigQueueMax
    · have htake : [m].take (64 - (s.trunk t).sigQueue.length) = [m] :=
        List.take_of_length_le (by simp only [Config.sigQueueMax] at hroom; simp; omega)
      simp [State.pushSig, hroom, htake]
    · have htake : 64 - (s.trunk t).sigQueue.length = 0 := by simp only [Config.sigQueueMax] at hroom; omega
      simp [State.pushSig, hroom, htake]
  · have hother : (s.pushSig t m).trunk k = s.trunk k := by
      unfold State.pushSig
      split_ifs
      · exact State.modTrunk_trunk_of_ne _ _ _ _ ht
      · simp
    simp [hother, ht]

/-! ### One context of the loop (R84) -/

/-- The rebuild has no place for the old entry of a call's post. -/
def lost (passes : List (Option (Nat × Tie))) (x : Ctx) : Bool := ((passes[x.entry - 1]?).bind id).isNone

theorem lost_iff (passes : List (Option (Nat × Tie))) (x : Ctx) :
    lost passes x ↔ ∀ pos tie, passes[x.entry - 1]? ≠ some (some (pos, tie)) := by
  unfold lost
  rcases passes[x.entry - 1]? with _ | _ | ⟨pos, tie⟩ <;> simp

/-- A call that a loop cause tells the desks of (R83). -/
def carried (x : Ctx) : Bool := x.state == .offered || x.state == .connected || x.state == .held

/-- The CLEARED that a context's release puts on a trunk's queue (R83, R110). -/
def lostMessage (passes : List (Option (Nat × Tie))) (k : Trunk) (c : CtxId) : Option SigMsg :=
  if s.callTrunk c == some k && carried (s.ctx c) && lost passes (s.ctx c) then
    (s.ctx c).ref.map (fun g => .cleared c g .postLost)
  else none

/-- The release of a call lets go of a channel. -/
def freesLeg (passes : List (Option (Nat × Tie))) (x : Ctx) (g : Leg) : Bool :=
  lost passes x && x.state != .free && x.state != .clearing && (x.primary == some g || x.second == some g)

/-- A context after the rebuild report: at the new place of its post, or FREE (R84). -/
def afterRebuild (passes : List (Option (Nat × Tie))) (x : Ctx) : Ctx :=
  match passes[x.entry - 1]? with
  | some (some (pos, _)) => { x with entry := pos }
  | _ =>
    match x.state with
    | .free => x
    | .clearing => { x with state := .free, bearer := none, liveSeen := false, ref := none, target := none }
    | _ =>
      { x with
        state := .free, bearer := none, liveSeen := false, ref := none, target := none, offerTimer := .stopped
        holdRunning := false, retryTimer := .stopped, primary := none, second := none, cause := some .postLost }

variable (passes : List (Option (Nat × Tie)))

theorem afterRebuild_of_passes {x : Ctx} {pos : Nat} {tie : Tie} (h : passes[x.entry - 1]? = some (some (pos, tie))) :
    afterRebuild passes x = { x with entry := pos } := by
  simp [afterRebuild, h]

/-- A context whose post has gone is left as a POST-LOST release leaves it. -/
theorem followPost_of_lost {c : CtxId} (h : lost passes (s.ctx c)) : s.followPost passes c = s.releaseLost c := by
  have hnot := (lost_iff passes _).mp h
  unfold State.followPost
  split
  next pos tie heq => exact absurd heq (hnot pos tie)
  next => rfl

theorem followPost_of_passes {c : CtxId} {pos : Nat} {tie : Tie} (h : passes[(s.ctx c).entry - 1]? = some (some (pos, tie))) :
    s.followPost passes c = s.modCtx c (fun x => { x with entry := pos }) := by
  simp [State.followPost, h]

theorem not_lost_iff {x : Ctx} : lost passes x = false ↔ ∃ pos tie, passes[x.entry - 1]? = some (some (pos, tie)) := by
  rw [← Bool.not_eq_true, lost_iff]
  simp only [ne_eq, not_forall, not_not]

/-- A release for a lost post, by the state of the call (R83, R84). -/
theorem releaseLost_cases (c : CtxId) :
    ((s.ctx c).state = .free ∧ s.releaseLost c = s) ∨ ((s.ctx c).state = .clearing ∧ s.releaseLost c = s.freeCtx c) ∨
      ((s.ctx c).state ≠ .free ∧ (s.ctx c).state ≠ .clearing ∧
        s.releaseLost c = ((s.sendIfCarried c .postLost).stopCall c .postLost).freeCtx c) := by
  unfold State.releaseLost
  cases (s.ctx c).state <;> simp

theorem followPost_ctx (c d : CtxId) :
    (s.followPost passes c).ctx d = if c = d then afterRebuild passes (s.ctx d) else s.ctx d := by
  by_cases hlost : lost passes (s.ctx c)
  · have hnot := (lost_iff passes _).mp hlost
    have hafter : afterRebuild passes (s.ctx c) = match (s.ctx c).state with
        | .free => s.ctx c
        | .clearing => { s.ctx c with state := .free, bearer := none, liveSeen := false, ref := none, target := none }
        | _ =>
          { s.ctx c with
            state := .free, bearer := none, liveSeen := false, ref := none, target := none, offerTimer := .stopped
            holdRunning := false, retryTimer := .stopped, primary := none, second := none, cause := some .postLost } := by
      unfold afterRebuild
      split
      next pos tie heq => exact absurd heq (hnot pos tie)
      next => rfl
    rw [followPost_of_lost s passes hlost]
    by_cases hcd : c = d
    · subst hcd
      rw [if_pos rfl, hafter]
      unfold State.releaseLost
      cases hst : (s.ctx c).state <;> simp [freeCtx_ctx, stopCall_ctx]
    · rw [if_neg hcd]
      rcases releaseLost_cases s c with ⟨-, h⟩ | ⟨-, h⟩ | ⟨-, -, h⟩ <;> simp [h, freeCtx_ctx, stopCall_ctx, hcd]
  · obtain ⟨pos, tie, h⟩ := (not_lost_iff passes).mp (Bool.not_eq_true _ ▸ hlost)
    rw [followPost_of_passes s passes h, modCtx_ctx_eq]
    split_ifs with hcd
    · subst hcd
      rw [afterRebuild_of_passes passes h]
    · rfl

theorem followPost_waiting (c d : CtxId) : d ∈ (s.followPost passes c).waiting ↔
    d ∈ s.waiting ∧ ¬ (d = c ∧ lost passes (s.ctx d) ∧ (s.ctx d).state ≠ .free) := by
  by_cases hlost : lost passes (s.ctx c)
  · rw [followPost_of_lost s passes hlost]
    rcases releaseLost_cases s c with ⟨hst, h⟩ | ⟨hst, h⟩ | ⟨hst, -, h⟩
    · rw [h]
      refine (and_iff_left ?_).symm
      rintro ⟨rfl, -, hfree⟩
      exact hfree hst
    · rw [h]
      simp only [State.freeCtx, State.dropCtxMarks_waiting, State.stopPlayer_waiting, State.modCtx_waiting,
        State.mem_leaveWaiting]
      refine and_congr_right fun _ => not_congr ⟨?_, And.left⟩
      rintro rfl
      exact ⟨rfl, hlost, by simp [hst]⟩
    · rw [h]
      simp only [State.freeCtx, State.dropCtxMarks_waiting, State.stopPlayer_waiting, State.modCtx_waiting,
        State.mem_leaveWaiting, State.stopCall, State.clearFields, State.freeLeg_waiting, State.sendIfCarried_waiting,
        and_assoc, and_self]
      refine and_congr_right fun _ => not_congr ⟨?_, And.left⟩
      rintro rfl
      exact ⟨rfl, hlost, hst⟩
  · obtain ⟨pos, tie, h⟩ := (not_lost_iff passes).mp (Bool.not_eq_true _ ▸ hlost)
    rw [followPost_of_passes s passes h, State.modCtx_waiting]
    refine (and_iff_left ?_).symm
    rintro ⟨rfl, hlost', -⟩
    exact hlost hlost'

theorem followPost_player {c d : CtxId} (h : ¬ (c = d ∧ lost passes (s.ctx d))) :
    (s.followPost passes c).player d = s.player d := by
  by_cases hlost : lost passes (s.ctx c)
  · have hne : c ≠ d := fun hcd => h ⟨hcd, hcd ▸ hlost⟩
    have hstop (u : State) : (u.stopPlayer c).player d = u.player d := State.setPlayer_player_of_ne _ _ _ _ hne
    rw [followPost_of_lost s passes hlost]
    rcases releaseLost_cases s c with ⟨-, h⟩ | ⟨-, h⟩ | ⟨-, -, h⟩ <;>
      simp [h, State.freeCtx, State.stopCall, State.clearFields, hstop]
  · obtain ⟨pos, tie, h⟩ := (not_lost_iff passes).mp (Bool.not_eq_true _ ▸ hlost)
    rw [followPost_of_passes s passes h, State.modCtx_player]

theorem stopCall_trunk (c : CtxId) (cause : Cause) (k : Trunk) : (s.stopCall c cause).trunk k =
    { s.trunk k with channels := ((s.stopCall c cause).trunk k).channels } := by
  simp only [State.stopCall, State.stopPlayer_trunk, State.clearFields, State.modCtx_trunk]
  rw [freeLeg_trunk, freeLeg_trunk]
  simp

theorem stopCall_chan (c : CtxId) (cause : Cause) (k : Trunk) (n : ChanId) : (s.stopCall c cause).chan k n =
    if (s.ctx c).primary = some ⟨k, n⟩ ∨ (s.ctx c).second = some ⟨k, n⟩ then (s.chan k n).release else s.chan k n := by
  have hchan (u v : State) (h : u.trunk k = v.trunk k) : u.chan k n = v.chan k n := by simp only [State.chan, h]
  have hlegs : (s.stopCall c cause).chan k n =
      (((s.leaveWaiting c).freeLeg (s.ctx c).primary).freeLeg (s.ctx c).second).chan k n :=
    hchan _ _ (by simp [State.stopCall, State.clearFields])
  rw [hlegs, freeLeg_chan, freeLeg_chan, hchan (s.leaveWaiting c) s (by simp)]
  by_cases h1 : (s.ctx c).primary = some ⟨k, n⟩ <;> by_cases h2 : (s.ctx c).second = some ⟨k, n⟩ <;>
    simp [h1, h2, release_release]

/-- CLEARED goes to the trunk of a call that is carried (R83, R110). -/
theorem sendIfCarried_trunk {c : CtxId} (hlost : lost passes (s.ctx c)) (k : Trunk) :
    (s.sendIfCarried c .postLost).trunk k = { s.trunk k with
      sigQueue := (s.trunk k).sigQueue ++ (lostMessage s passes k c).toList.take (64 - (s.trunk k).sigQueue.length) } := by
  by_cases hcarried : carried (s.ctx c)
  · have hsend : s.sendIfCarried c .postLost = s.sendCleared c .postLost := by
      unfold State.sendIfCarried
      cases hst : (s.ctx c).state <;> simp [carried, hst] at hcarried ⊢
    rw [hsend, State.sendCleared, lostMessage]
    cases href : (s.ctx c).ref with
    | none => simp
    | some g =>
      cases hk : s.callTrunk c with
      | none => simp
      | some t =>
        dsimp only
        rw [pushSig_trunk]
        by_cases ht : t = k <;> simp [ht, hcarried, hlost]
  · have hquiet : s.sendIfCarried c .postLost = s := by
      unfold State.sendIfCarried
      cases hst : (s.ctx c).state <;> simp [carried, hst] at hcarried ⊢
    have hnone : lostMessage s passes k c = none := by simp [lostMessage, hcarried]
    rw [hquiet, hnone]
    simp

/-- What a context's rebuild puts on a trunk: its channels apart, CLEARED at the end of the queue. -/
theorem followPost_trunk (c : CtxId) (k : Trunk) : (s.followPost passes c).trunk k = { s.trunk k with
    channels := ((s.followPost passes c).trunk k).channels
    sigQueue := (s.trunk k).sigQueue ++ (lostMessage s passes k c).toList.take (64 - (s.trunk k).sigQueue.length) } := by
  have hquiet (h : carried (s.ctx c) = false ∨ lost passes (s.ctx c) = false) : lostMessage s passes k c = none := by
    rcases h with h | h <;> simp [lostMessage, h]
  by_cases hlost : lost passes (s.ctx c)
  · rw [followPost_of_lost s passes hlost]
    rcases releaseLost_cases s c with ⟨hst, h⟩ | ⟨hst, h⟩ | ⟨-, -, h⟩
    · simp [h, hquiet (.inl (by simp [carried, hst]))]
    · simp [h, hquiet (.inl (by simp [carried, hst]))]
    · rw [h, State.freeCtx_trunk, stopCall_trunk, sendIfCarried_trunk s passes hlost]
  · rw [Bool.not_eq_true] at hlost
    obtain ⟨pos, tie, h⟩ := (not_lost_iff passes).mp hlost
    simp [followPost_of_passes s passes h, hquiet (.inr hlost)]

theorem followPost_chan (c : CtxId) (k : Trunk) (n : ChanId) : (s.followPost passes c).chan k n =
    if freesLeg passes (s.ctx c) ⟨k, n⟩ then (s.chan k n).release else s.chan k n := by
  have hchan (u v : State) (h : (u.trunk k).channels = (v.trunk k).channels) : u.chan k n = v.chan k n := by
    simp only [State.chan, h]
  by_cases hlost : lost passes (s.ctx c)
  · rw [followPost_of_lost s passes hlost]
    rcases releaseLost_cases s c with ⟨hst, h⟩ | ⟨hst, h⟩ | ⟨hfree, hclear, h⟩
    · simp [h, freesLeg, hst]
    · rw [h, hchan (s.freeCtx c) s (by simp)]
      simp [freesLeg, hst]
    · rw [h, hchan ((((s.sendIfCarried c .postLost).stopCall c .postLost)).freeCtx c)
        ((s.sendIfCarried c .postLost).stopCall c .postLost) (by simp), stopCall_chan,
        hchan (s.sendIfCarried c .postLost) s (by rw [sendIfCarried_trunk s passes hlost])]
      simp [freesLeg, hlost, hfree, hclear]
  · rw [Bool.not_eq_true] at hlost
    obtain ⟨pos, tie, h⟩ := (not_lost_iff passes).mp hlost
    rw [followPost_of_passes s passes h, hchan (s.modCtx c _) s (by simp)]
    simp [freesLeg, hlost]

/-! ### All the contexts of the loop (R84) -/

end

/-- Queues filled one after another take what one filling takes (R99). -/
theorem take_room_append (q a b : List SigMsg) :
    (q ++ a.take (64 - q.length)) ++ b.take (64 - (q ++ a.take (64 - q.length)).length) =
      q ++ (a ++ b).take (64 - q.length) := by
  rw [List.append_assoc, List.take_append]
  congr 3
  simp only [List.length_append, List.length_take]
  omega

section
variable (passes : List (Option (Nat × Tie)))

theorem foldl_followPost_ctx {cs : List CtxId} (hnd : cs.Nodup) (s : State) (d : CtxId) :
    (cs.foldl (State.followPost passes) s).ctx d = if d ∈ cs then afterRebuild passes (s.ctx d) else s.ctx d := by
  induction cs generalizing s with
  | nil => rfl
  | cons c cs ih =>
    obtain ⟨hc, hcs⟩ := List.nodup_cons.mp hnd
    rw [List.foldl_cons, ih hcs, followPost_ctx]
    by_cases hcd : c = d
    · subst hcd; simp [hc]
    · simp [hcd, Ne.symm hcd]

/-- The rebuild of one context leaves the contexts still to come. -/
theorem followPost_ctx_of_mem {c d : CtxId} {cs : List CtxId} (hc : c ∉ cs) (hd : d ∈ cs) (s : State) :
    (s.followPost passes c).ctx d = s.ctx d := by
  rw [followPost_ctx, if_neg (fun hcd : c = d => hc (hcd ▸ hd))]

theorem foldl_followPost_waiting {cs : List CtxId} (hnd : cs.Nodup) (s : State) (d : CtxId) :
    d ∈ (cs.foldl (State.followPost passes) s).waiting ↔
      d ∈ s.waiting ∧ ¬ (d ∈ cs ∧ lost passes (s.ctx d) ∧ (s.ctx d).state ≠ .free) := by
  induction cs generalizing s with
  | nil => simp
  | cons c cs ih =>
    obtain ⟨hc, hcs⟩ := List.nodup_cons.mp hnd
    rw [List.foldl_cons, ih hcs, followPost_waiting, and_assoc]
    refine and_congr_right fun _ => ?_
    rw [List.mem_cons, or_and_right, not_or]
    refine and_congr_right fun _ => not_congr (and_congr_right fun hd => ?_)
    rw [followPost_ctx_of_mem passes hc hd]

theorem foldl_followPost_player {cs : List CtxId} (hnd : cs.Nodup) {s : State} {d : CtxId}
    (h : ¬ (d ∈ cs ∧ lost passes (s.ctx d))) : (cs.foldl (State.followPost passes) s).player d = s.player d := by
  induction cs generalizing s with
  | nil => rfl
  | cons c cs ih =>
    obtain ⟨hc, hcs⟩ := List.nodup_cons.mp hnd
    rw [List.foldl_cons, ih hcs, followPost_player]
    · rintro ⟨rfl, hlost⟩
      exact h ⟨List.mem_cons_self, hlost⟩
    · rintro ⟨hd, hlost⟩
      rw [followPost_ctx_of_mem passes hc hd] at hlost
      exact h ⟨List.mem_cons_of_mem _ hd, hlost⟩

theorem foldl_followPost_trunk {cs : List CtxId} (hnd : cs.Nodup) (s : State) (k : Trunk) :
    (cs.foldl (State.followPost passes) s).trunk k = { s.trunk k with
      channels := ((cs.foldl (State.followPost passes) s).trunk k).channels
      sigQueue := (s.trunk k).sigQueue ++ (cs.filterMap (lostMessage s passes k)).take (64 - (s.trunk k).sigQueue.length) } := by
  induction cs generalizing s with
  | nil => simp
  | cons c cs ih =>
    obtain ⟨hc, hcs⟩ := List.nodup_cons.mp hnd
    have hrest : cs.filterMap (lostMessage (s.followPost passes c) passes k) = cs.filterMap (lostMessage s passes k) :=
      List.filterMap_congr fun d hd => by
        unfold lostMessage State.callTrunk
        rw [followPost_ctx_of_mem passes hc hd]
    have hcons : (c :: cs).filterMap (lostMessage s passes k) =
        (lostMessage s passes k c).toList ++ cs.filterMap (lostMessage s passes k) := by
      cases h : lostMessage s passes k c <;> simp [h]
    have hqueue : ((s.followPost passes c).trunk k).sigQueue = (s.trunk k).sigQueue ++
        (lostMessage s passes k c).toList.take (64 - (s.trunk k).sigQueue.length) := by rw [followPost_trunk]
    rw [List.foldl_cons, ih hcs, hrest, hcons, hqueue, take_room_append, followPost_trunk]

theorem foldl_followPost_chan {cs : List CtxId} (hnd : cs.Nodup) (s : State) (k : Trunk) (n : ChanId) :
    (cs.foldl (State.followPost passes) s).chan k n =
      if ∃ c ∈ cs, freesLeg passes (s.ctx c) ⟨k, n⟩ then (s.chan k n).release else s.chan k n := by
  induction cs generalizing s with
  | nil => simp
  | cons c cs ih =>
    obtain ⟨hc, hcs⟩ := List.nodup_cons.mp hnd
    have hrest : (∃ d ∈ cs, freesLeg passes ((s.followPost passes c).ctx d) ⟨k, n⟩) ↔
        ∃ d ∈ cs, freesLeg passes (s.ctx d) ⟨k, n⟩ :=
      exists_congr fun d => and_congr_right fun hd => by rw [followPost_ctx_of_mem passes hc hd]
    rw [List.foldl_cons, ih hcs, followPost_chan]
    simp only [hrest, List.exists_mem_cons_iff]
    by_cases h1 : freesLeg passes (s.ctx c) ⟨k, n⟩ <;> by_cases h2 : ∃ d ∈ cs, freesLeg passes (s.ctx d) ⟨k, n⟩ <;>
      simp [h1, h2, release_release]

end
end Sys2Proof.PostDirectory
end

section
/-! The bearers a rebuild freed are handed on, dispatch follows, and the rebuild report as a whole (R73, R84). -/

namespace Sys2Proof.PostDirectory

open Sys2Proof Sys2Proof.Machine Sys2Proof.LoopPowerFeed

/-! ### What stands where (R69, R84) -/

section
variable (s : State)

theorem passesDue_wakeScan (l m : LoopId) : (s.wakeScan l).passesDue m = s.passesDue m := by
  unfold State.wakeScan State.handOnce
  split_ifs
  · rfl
  · exact (List.filterMap_append).trans (List.append_nil _)
  · rfl

theorem passesDue_of_handed {t : State} (h : t.handed = s.handed) (m : LoopId) : t.passesDue m = s.passesDue m := by
  unfold State.passesDue
  rw [h]

theorem modCmd_bearer (l m : LoopId) (pos : Nat) (f : CmdRec → CmdRec) (b : BearerId) :
    (s.modCmd l pos f).bearer m b = s.bearer m b := by
  unfold State.modCmd State.modEntry
  split_ifs
  · rfl
  · by_cases h : l = m
    · subst h; simp [State.bearer]
    · simp [State.bearer, State.modLoop_loop_of_ne, h]

theorem assignBearer_bearer (l : LoopId) (pos : Nat) (b d : BearerId) :
    (s.assignBearer l pos b).bearer l d = if b = d then ⟨.assigning, pos⟩ else s.bearer l d := by
  have hwake (u : State) : (u.wakeScan l).bearer l d = u.bearer l d := by simp [State.bearer]
  rw [State.assignBearer, hwake, modCmd_bearer]
  split_ifs with h
  · rw [h, State.setBearer_bearer]
  · exact State.setBearer_bearer_of_ne _ _ _ _ _ h

/-! ### A bearer handed on (R73) -/

/-- A bearer is handed to the first call of the loop that waits without one, or to none. -/
theorem handOn_cases (l : LoopId) (b : BearerId) : s.handOn l b = s ∨
    ∃ c ∈ s.waiting, (s.ctx c).loop = l ∧ (s.ctx c).bearer = none ∧ (s.bearer l b).st = .free ∧
      s.handOn l b = (s.assignBearer l (s.keyPos c) b).modCtx c (fun x => { x with bearer := some b, liveSeen := false }) := by
  unfold State.handOn
  split
  next c hc =>
    split_ifs with hassign
    · have hfound := List.find?_some hc
      simp only [Bool.and_eq_true, beq_iff_eq, Option.isNone_iff_eq_none] at hfound
      obtain ⟨⟨hloop, hnone⟩, -⟩ := hfound
      simp only [State.canAssign, Bool.and_eq_true, beq_iff_eq] at hassign
      exact .inr ⟨c, List.mem_of_find?_eq_some hc, hloop, hnone, hassign.2, rfl⟩
    · exact .inl rfl
  next => exact .inl rfl

theorem handOn_passesDue (l : LoopId) (b : BearerId) (m : LoopId) : (s.handOn l b).passesDue m = s.passesDue m := by
  rcases handOn_cases s l b with h | ⟨c, -, -, -, -, h⟩
  · rw [h]
  · rw [h, passesDue_of_handed _ (State.modCtx_handed _ _ _), State.assignBearer, passesDue_wakeScan]
    exact passesDue_of_handed _ (by simp) m

theorem handOn_keyPos (l : LoopId) (b : BearerId) (d : CtxId) : (s.handOn l b).keyPos d = s.keyPos d := by
  have hplace : ((s.handOn l b).ctx d).loop = (s.ctx d).loop ∧ ((s.handOn l b).ctx d).entry = (s.ctx d).entry := by
    rcases handOn_cases s l b with h | ⟨c, -, -, -, -, h⟩
    · rw [h]; exact ⟨rfl, rfl⟩
    · rw [h, modCtx_ctx_eq, State.assignBearer_ctx]
      split_ifs <;> exact ⟨rfl, rfl⟩
  exact State.keyPos_congr _ _ _ (by rw [handOn_passesDue, hplace.1]) hplace.2

/-- A context after the handing on of the bearers in `freed`: as it was, or on one of them. -/
def TakesFreed (l : LoopId) (freed : List BearerId) (u : State) (d : CtxId) : Prop :=
  u.ctx d = s.ctx d ∨
    (d ∈ s.waiting ∧ (s.ctx d).loop = l ∧ (s.ctx d).bearer = none ∧ ∃ b ∈ freed,
      u.ctx d = { s.ctx d with bearer := some b, liveSeen := false } ∧ (s.bearer l b).st = .free ∧
      u.bearer l b = ⟨.assigning, u.keyPos d⟩)

/-- Of the states before and after bearers have been handed on: a bearer still FREE has not been touched. -/
def HandedOn (l : LoopId) (freed : List BearerId) (u : State) : Prop :=
  u.waiting = s.waiting ∧ (∀ b, (u.bearer l b).st = .free → (s.bearer l b).st = .free) ∧ ∀ d, TakesFreed s l freed u d

theorem HandedOn.handOn {l : LoopId} {freed : List BearerId} {s u : State} (hu : HandedOn s l freed u) {b : BearerId}
    (hb : b ∈ freed) : HandedOn s l freed (u.handOn l b) := by
  obtain ⟨hwait, hfree, hctx⟩ := hu
  rcases handOn_cases u l b with h | ⟨c, hc, hloop, hnone, hst, h⟩
  · rw [h]
    exact ⟨hwait, hfree, hctx⟩
  have hbearer (x : BearerId) : (u.handOn l b).bearer l x = if b = x then ⟨.assigning, u.keyPos c⟩ else u.bearer l x := by
    rw [h, ← assignBearer_bearer u l (u.keyPos c) b x]
    simp [State.bearer]
  have hother {d : CtxId} (hd : c ≠ d) : (u.handOn l b).ctx d = u.ctx d := by
    rw [h, State.modCtx_ctx_of_ne _ _ _ _ hd, State.assignBearer_ctx]
  refine ⟨(State.handOn_waiting _ _ _).trans hwait, fun x hx => ?_, fun d => ?_⟩
  · rw [hbearer] at hx
    split_ifs at hx
    exact hfree x hx
  · by_cases hcd : c = d
    · subst hcd
      have hsame : u.ctx c = s.ctx c := (hctx c).resolve_right fun ⟨_, _, _, x, _, hx, _⟩ => by simp [hx] at hnone
      refine .inr ⟨hwait ▸ hc, hsame ▸ hloop, hsame ▸ hnone, b, hb, ?_, hfree b hst, ?_⟩
      · rw [h, State.modCtx_ctx, State.assignBearer_ctx, hsame]
      · rw [hbearer, if_pos rfl, handOn_keyPos]
    · refine (hctx d).imp (fun hsame => (hother hcd).trans hsame) ?_
      rintro ⟨hd, hl, hn, x, hx, hxctx, hxfree, hxbearer⟩
      have hbx : b ≠ x := fun hbx => by
        rw [hbx, hxbearer] at hst
        cases hst
      exact ⟨hd, hl, hn, x, hx, (hother hcd).trans hxctx, hxfree, by rw [hbearer, if_neg hbx, handOn_keyPos, hxbearer]⟩

theorem foldl_handOn (l : LoopId) (freed : List BearerId) : HandedOn s l freed (freed.foldl (fun s b => s.handOn l b) s) :=
  List.foldlRecOn freed _ ⟨rfl, fun _ h => h, fun _ => .inl rfl⟩ fun _ hu _ hb => hu.handOn hb

/-! ### The loops through the handing on and dispatch -/

/-- The plates of a loop's map and the loop's state. -/
def chainOf (m : LoopId) : List Byte × LoopState := ((s.loop m).map.map (·.plate), (s.loop m).state)

theorem chainOf_of_loops {t : State} (h : t.loops = s.loops) (m : LoopId) : chainOf t m = chainOf s m := by
  simp only [chainOf, State.loop, h]

@[simp] theorem chainOf_setBearer (l : LoopId) (b : BearerId) (x : Bearer) (m : LoopId) :
    chainOf (s.setBearer l b x) m = chainOf s m := by
  unfold State.setBearer chainOf
  by_cases h : l = m
  · subst h; simp
  · simp [State.modLoop_loop_of_ne, h]

@[simp] theorem chainOf_modCmd (l : LoopId) (pos : Nat) (f : CmdRec → CmdRec) (m : LoopId) :
    chainOf (s.modCmd l pos f) m = chainOf s m := by
  have hplates (es : List MapEntry) (i : Nat) :
      (es.modify i (fun e => { e with cmd := f e.cmd })).map (·.plate) = es.map (·.plate) := by
    refine List.ext_getElem? fun k => ?_
    rw [List.getElem?_map, List.getElem?_modify, List.getElem?_map]
    cases es[k]? <;> simp [apply_ite]
  unfold State.modCmd State.modEntry
  split_ifs
  · rfl
  · by_cases h : l = m
    · subst h; simp [chainOf, hplates]
    · simp [chainOf, State.modLoop_loop_of_ne, h]

@[simp] theorem chainOf_wakeScan (l m : LoopId) : chainOf (s.wakeScan l) m = chainOf s m :=
  chainOf_of_loops s (by simp) m

@[simp] theorem chainOf_assignBearer (l : LoopId) (pos : Nat) (b : BearerId) (m : LoopId) :
    chainOf (s.assignBearer l pos b) m = chainOf s m := by
  simp [State.assignBearer]

@[simp] theorem chainOf_setLamp (c : CtxId) (lamp : Lamp) (m : LoopId) : chainOf (s.setLamp c lamp) m = chainOf s m := by
  unfold State.setLamp State.setLampAt
  split_ifs <;> simp

theorem chainOf_handOn (l : LoopId) (b : BearerId) (m : LoopId) : chainOf (s.handOn l b) m = chainOf s m := by
  rcases handOn_cases s l b with h | ⟨c, -, -, -, -, h⟩
  · rw [h]
  · rw [h, chainOf_of_loops _ (State.modCtx_loops _ _ _), chainOf_assignBearer]

theorem chainOf_dispatchOne (c : CtxId) (m : LoopId) : chainOf (s.dispatchOne c) m = chainOf s m := by
  have hplan : chainOf (s.takePlan c) m = chainOf s m := chainOf_of_loops s (by simp) m
  unfold State.dispatchOne
  dsimp only
  split_ifs
  · split
    · exact (chainOf_of_loops _ (by simp) m).trans hplan
    · exact hplan
    · split_ifs
      · split
        · rw [State.makeOffer, chainOf_setLamp, ← hplan]
          exact chainOf_of_loops _ (by simp) m
        · exact hplan
      · exact hplan
  · rfl

theorem chainOf_dispatch (m : LoopId) : chainOf s.dispatch m = chainOf s m :=
  State.foldl_keeps (fun s => chainOf s m) State.dispatchOne (fun s c => chainOf_dispatchOne s c m) _ s

/-! ### A call through dispatch (R93 to R97) -/

theorem modCtx_ctx_keeps {P : Ctx → Prop} {c d : CtxId} {f : Ctx → Ctx} (hf : ∀ x, P x → P (f x)) (h : P (s.ctx d)) :
    P ((s.modCtx c f).ctx d) := by
  rw [modCtx_ctx_eq]
  split_ifs
  · exact hf _ h
  · exact h

/-- A call keeps its entry and stays a call while dispatch runs. -/
def CallAt (pos : Nat) (x : Ctx) : Prop := x.entry = pos ∧ x.state ≠ .free

theorem dispatchOne_callAt {pos : Nat} {d : CtxId} (h : CallAt pos (s.ctx d)) (c : CtxId) :
    CallAt pos ((s.dispatchOne c).ctx d) := by
  have hplan : CallAt pos ((s.takePlan c).ctx d) := by
    unfold State.takePlan
    split_ifs
    · exact h
    · exact modCtx_ctx_keeps s (fun _ hx => hx) h
  unfold State.dispatchOne
  dsimp only
  split_ifs
  · split
    · rw [State.exhaust, State.raise_ctx]
      exact modCtx_ctx_keeps _ (fun _ hx => hx) hplan
    · exact hplan
    · split_ifs
      · split
        · simp only [State.makeOffer, State.setLamp_ctx, State.pushSig_ctx]
          exact modCtx_ctx_keeps _ (fun x hx => ⟨hx.1, CtxState.noConfusion⟩) (by simpa using hplan)
        · exact hplan
      · exact hplan
  · exact h

theorem dispatch_callAt {pos : Nat} {d : CtxId} (h : CallAt pos (s.ctx d)) : CallAt pos (s.dispatch.ctx d) :=
  List.foldlRecOn (motive := fun u => CallAt pos (u.ctx d)) s.waiting State.dispatchOne h fun u hu c _ =>
    dispatchOne_callAt u hu c

/-- Dispatch keeps the entry of every context. -/
theorem dispatch_entry (d : CtxId) : (s.dispatch.ctx d).entry = (s.ctx d).entry := by
  by_cases hfree : (s.ctx d).state = .free
  · rw [dispatch_ctx_of_not_queued s (by simp [hfree])]
  · exact (dispatch_callAt s ⟨rfl, hfree⟩).1

/-! ### The rebuild report (R84) -/

/-- The calls of a loop followed through a rebuild. -/
def followed (l : LoopId) (passes : List (Option (Nat × Tie))) : State := (s.ctxsOn l).foldl (State.followPost passes) s

theorem nodup_ctxsOn (l : LoopId) : (s.ctxsOn l).Nodup := (List.nodup_finRange 32).filter _

theorem afterRebuild_of_lost {passes : List (Option (Nat × Tie))} {x : Ctx} (h : lost passes x) (hfree : x.state ≠ .free) :
    (afterRebuild passes x).state = .free ∧ (afterRebuild passes x).bearer = none ∧
      (x.state ≠ .clearing → (afterRebuild passes x).cause = some .postLost) := by
  have hnot := (lost_iff passes x).mp h
  unfold afterRebuild
  split
  next pos tie heq => exact absurd heq (hnot pos tie)
  next =>
    cases hst : x.state with
    | free => exact absurd hst hfree
    | _ => simp

/-- The messages to the desks of the calls released, in ascending context order. -/
theorem filterMap_lostMessage (l : LoopId) (passes : List (Option (Nat × Tie))) (k : Trunk) :
    (s.ctxsOn l).filterMap (lostMessage s passes k) =
      (allCtxs.filter (fun c => (s.ctx c).loop == l && s.callTrunk c == some k &&
        ((s.ctx c).state == .offered || (s.ctx c).state == .connected || (s.ctx c).state == .held) &&
        ((passes[(s.ctx c).entry - 1]?).bind id).isNone)).filterMap
          (fun c => (s.ctx c).ref.map (fun g => .cleared c g .postLost)) := by
  rw [State.ctxsOn, List.filterMap_filter, List.filterMap_filter]
  refine List.filterMap_congr fun c _ => ?_
  unfold lostMessage carried lost
  by_cases hloop : (s.ctx c).loop = l
  · cases hst : (s.ctx c).state <;> simp [hloop]
  · simp [hloop]

variable (l : LoopId) (passes : List (Option (Nat × Tie))) (freed : List BearerId)

theorem followed_ctx (c : CtxId) : (followed s l passes).ctx c =
    if (s.ctx c).state ≠ .free ∧ (s.ctx c).loop = l then afterRebuild passes (s.ctx c) else s.ctx c := by
  rw [followed, foldl_followPost_ctx passes (nodup_ctxsOn s l)]
  exact if_congr (mem_ctxsOn s) rfl rfl

/-- Following the posts and what a call does with them touches no loop. -/
theorem followed_loops : (followed s l passes).loops = s.loops :=
  State.foldl_keeps (fun s : State => s.loops) (State.followPost passes) (fun _ _ => by simp) _ s

theorem followed_bearer (m : LoopId) (b : BearerId) : (followed s l passes).bearer m b = s.bearer m b := by
  simp only [State.bearer, State.loop, followed_loops]

theorem mem_followed_waiting (c : CtxId) : c ∈ (followed s l passes).waiting ↔
    c ∈ s.waiting ∧ ¬ ((s.ctx c).state ≠ .free ∧ (s.ctx c).loop = l ∧ lost passes (s.ctx c)) := by
  rw [followed, foldl_followPost_waiting passes (nodup_ctxsOn s l), mem_ctxsOn]
  tauto

/-- The state of the part before the dispatch that ends a rebuild report. -/
def rebuilt : State := freed.foldl (fun s b => s.handOn l b) (followed s l passes)

theorem rebuilt_handedOn : HandedOn (followed s l passes) l freed (rebuilt s l passes freed) := foldl_handOn _ l freed

theorem rebuilt_trunk (k : Trunk) : (rebuilt s l passes freed).trunk k = (followed s l passes).trunk k :=
  State.foldl_keeps (fun s : State => s.trunk k) (fun s b => s.handOn l b) (fun _ _ => by simp) freed _

theorem rebuilt_player (c : CtxId) : (rebuilt s l passes freed).player c = (followed s l passes).player c :=
  State.foldl_keeps (fun s : State => s.player c) (fun s b => s.handOn l b) (fun _ _ => by simp) freed _

/-- A call whose post passed follows it with all it holds; one without a bearer may take one the rebuild freed (R84). -/
theorem rebuilt_of_passes {c : CtxId} (hbusy : (s.ctx c).state ≠ .free) (hloop : (s.ctx c).loop = l) {pos : Nat} {tie : Tie}
    (hpass : passes[(s.ctx c).entry - 1]? = some (some (pos, tie))) :
    ((s.ctx c).bearer ≠ none → (rebuilt s l passes freed).ctx c = { s.ctx c with entry := pos }) ∧
      ((s.ctx c).bearer = none →
        (rebuilt s l passes freed).ctx c = { s.ctx c with
          entry := pos
          bearer := ((rebuilt s l passes freed).ctx c).bearer
          liveSeen := if ((rebuilt s l passes freed).ctx c).bearer = none then (s.ctx c).liveSeen else false } ∧
        ∀ b, ((rebuilt s l passes freed).ctx c).bearer = some b →
          b ∈ freed ∧ (s.bearer l b).st = .free ∧
            (rebuilt s l passes freed).bearer l b = ⟨.assigning, (rebuilt s l passes freed).keyPos c⟩) := by
  have hctx : (followed s l passes).ctx c = { s.ctx c with entry := pos } := by
    rw [followed_ctx, if_pos ⟨hbusy, hloop⟩, afterRebuild_of_passes passes hpass]
  rcases (rebuilt_handedOn s l passes freed).2.2 c with hsame | ⟨-, -, hnone, b, hb, htakes, hfree, hbearer⟩
  · rw [hsame, hctx]
    refine ⟨fun _ => rfl, fun hnone => ⟨?_, fun b hb => ?_⟩⟩
    · simp [hnone]
    · simp [hnone] at hb
  · rw [hctx] at htakes hnone
    refine ⟨fun hsome => absurd hnone hsome, fun _ => ⟨by simp [htakes], fun x hx => ?_⟩⟩
    obtain rfl : b = x := by simpa [htakes] using hx
    exact ⟨hb, by rwa [followed_bearer] at hfree, hbearer⟩

theorem rebuilt_callAt {c : CtxId} (hbusy : (s.ctx c).state ≠ .free) (hloop : (s.ctx c).loop = l) {pos : Nat} {tie : Tie}
    (hpass : passes[(s.ctx c).entry - 1]? = some (some (pos, tie))) : CallAt pos ((rebuilt s l passes freed).ctx c) := by
  obtain ⟨hsome, hnone⟩ := rebuilt_of_passes s l passes freed hbusy hloop hpass
  by_cases hbearer : (s.ctx c).bearer = none
  · rw [(hnone hbearer).1]
    exact ⟨rfl, hbusy⟩
  · rw [hsome hbearer]
    exact ⟨rfl, hbusy⟩

/-- A context that waits no more, or of another loop, takes no bearer. -/
theorem rebuilt_ctx_of_not_waiting {c : CtxId} (h : c ∉ (followed s l passes).waiting ∨ ((followed s l passes).ctx c).loop ≠ l) :
    (rebuilt s l passes freed).ctx c = (followed s l passes).ctx c :=
  ((rebuilt_handedOn s l passes freed).2.2 c).resolve_right fun ⟨hwait, hloop, _⟩ => h.elim (· hwait) (· hloop)

/-- A call whose post has gone is FREE at once, and its channels are freed (R83, R84). -/
theorem rebuilt_of_lost {c : CtxId} (hbusy : (s.ctx c).state ≠ .free) (hloop : (s.ctx c).loop = l)
    (hlost : lost passes (s.ctx c)) :
    ((rebuilt s l passes freed).dispatch.ctx c).state = .free ∧ ((rebuilt s l passes freed).dispatch.ctx c).bearer = none ∧
      c ∉ (rebuilt s l passes freed).dispatch.waiting ∧
      ((s.ctx c).state ≠ .clearing → ((rebuilt s l passes freed).dispatch.ctx c).cause = some .postLost ∧
        ∀ g, (s.ctx c).hasLeg g → FreedTo (s.chan g.trunk g.chan) ((rebuilt s l passes freed).chan g.trunk g.chan)) := by
  have hgone : c ∉ (followed s l passes).waiting := fun h =>
    ((mem_followed_waiting s l passes c).mp h).2 ⟨hbusy, hloop, hlost⟩
  have hctx : (rebuilt s l passes freed).ctx c = afterRebuild passes (s.ctx c) := by
    rw [rebuilt_ctx_of_not_waiting s l passes freed (.inl hgone), followed_ctx, if_pos ⟨hbusy, hloop⟩]
  obtain ⟨hstate, hbearer, hcause⟩ := afterRebuild_of_lost hlost hbusy
  have hdispatch : (rebuilt s l passes freed).dispatch.ctx c = afterRebuild passes (s.ctx c) := by
    rw [dispatch_ctx_of_not_queued _ (by rw [hctx, hstate]; exact CtxState.noConfusion), hctx]
  rw [hdispatch]
  refine ⟨hstate, hbearer, ?_, fun hclear => ⟨hcause hclear, fun g hg => ?_⟩⟩
  · rw [State.dispatch_waiting, (rebuilt_handedOn s l passes freed).1]
    exact hgone
  · have hchan : (rebuilt s l passes freed).chan g.trunk g.chan = (followed s l passes).chan g.trunk g.chan := by
      simp only [State.chan, rebuilt_trunk]
    have hfrees : ∃ d ∈ s.ctxsOn l, freesLeg passes (s.ctx d) ⟨g.trunk, g.chan⟩ :=
      ⟨c, (mem_ctxsOn s).mpr ⟨hbusy, hloop⟩, by
        simpa [freesLeg, hlost, hbusy, hclear, Ctx.hasLeg] using hg⟩
    rw [hchan, followed, foldl_followPost_chan passes (nodup_ctxsOn s l), if_pos hfrees]
    exact freedTo_release _

/-- A channel that no call released had is as it was. -/
theorem rebuilt_chan_kept {k : Trunk} {n : ChanId} (h : ∀ c, (s.ctx c).hasLeg ⟨k, n⟩ → (s.ctx c).state = .free ∨
      (s.ctx c).state = .clearing ∨ (s.ctx c).loop ≠ l ∨ ∃ pos tie, passes[(s.ctx c).entry - 1]? = some (some (pos, tie))) :
    (rebuilt s l passes freed).chan k n = s.chan k n := by
  have hchan : (rebuilt s l passes freed).chan k n = (followed s l passes).chan k n := by
    simp only [State.chan, rebuilt_trunk]
  have hkept : ¬ ∃ c ∈ s.ctxsOn l, freesLeg passes (s.ctx c) ⟨k, n⟩ := by
    rintro ⟨c, hc, hfrees⟩
    obtain ⟨hbusy, hloop⟩ := (mem_ctxsOn s).mp hc
    simp only [freesLeg, Bool.and_eq_true, bne_iff_ne, Bool.or_eq_true, beq_iff_eq] at hfrees
    obtain ⟨⟨⟨hlost, -⟩, hclear⟩, hleg⟩ := hfrees
    rcases h c hleg with hst | hst | hl | ⟨pos, tie, hpass⟩
    · exact hbusy hst
    · exact hclear hst
    · exact hl hloop
    · exact (lost_iff passes _).mp hlost pos tie hpass
  rw [hchan, followed, foldl_followPost_chan passes (nodup_ctxsOn s l), if_neg hkept]

/-- Contexts of other loops, and FREE ones that do not wait, stand. -/
theorem rebuilt_ctx_of_other {c : CtxId} (h : ((s.ctx c).state = .free ∧ c ∉ s.waiting) ∨ (s.ctx c).loop ≠ l) :
    (rebuilt s l passes freed).ctx c = s.ctx c := by
  have hctx : (followed s l passes).ctx c = s.ctx c := by
    rw [followed_ctx, if_neg]
    rintro ⟨hbusy, hloop⟩
    exact h.elim (fun hf => hbusy hf.1) (· hloop)
  rw [rebuilt_ctx_of_not_waiting, hctx]
  rw [hctx, mem_followed_waiting]
  exact h.imp_left fun hf hwait => hf.2 hwait.1

theorem chainOf_rebuilt (m : LoopId) : chainOf (rebuilt s l passes freed).dispatch m = chainOf s m := by
  have hfollowed : chainOf (followed s l passes) m = chainOf s m := chainOf_of_loops s (followed_loops s l passes) m
  rw [chainOf_dispatch, ← hfollowed]
  exact State.foldl_keeps (fun s => chainOf s m) (fun s b => s.handOn l b) (fun s b => chainOf_handOn s l b m) freed _

end

/-- Settles O20: the calls of the loop by `followPost`, one after another, then the bearers by `handOn`; what one call's
release does to the contexts, channels and queues is kept by the calls after it. -/
theorem rebuildReportMovesOrReleasesEveryCall : Obligations.RebuildReportMovesOrReleasesEveryCall := by
  intro l epoch passes freed s
  let s1 := s.take (.rebuildReport l epoch passes freed)
  have hexec : exec (.rebuildReport l epoch passes freed) s = .next (rebuilt s1 l passes freed).dispatch := rfl
  refine ⟨rebuilt s1 l passes freed, _, hexec, rfl, fun c hbusy hloop => ⟨fun pos tie hpass => ?_, fun hnot => ?_⟩,
    fun k => ?_, fun k n h => rebuilt_chan_kept s1 l passes freed h, fun c h => ?_, fun m => ?_⟩
  · obtain ⟨hsome, hnone⟩ := rebuilt_of_passes s1 l passes freed hbusy hloop hpass
    obtain ⟨hentry, hstate⟩ := dispatch_callAt _ (rebuilt_callAt s1 l passes freed hbusy hloop hpass)
    have hreg := rebuildReport_regOf hexec c
    simp only [regOf, Prod.mk.injEq] at hreg
    have hstays : ¬ lost passes (s1.ctx c) := fun hlost => (lost_iff passes _).mp hlost pos tie hpass
    have hwait : c ∈ (rebuilt s1 l passes freed).waiting ↔ c ∈ s.waiting := by
      rw [(rebuilt_handedOn s1 l passes freed).1, mem_followed_waiting]
      exact and_iff_left fun h => hstays h.2.2
    have hplayer : (rebuilt s1 l passes freed).player c = s.player c := by
      rw [rebuilt_player, followed, foldl_followPost_player passes (nodup_ctxsOn s1 l) fun h => hstays h.2]
      exact State.take_player _ _ _
    exact ⟨hsome, hnone, hwait, hplayer, hentry, hreg.1, hreg.2.2.2.2.1, hstate⟩
  · exact rebuilt_of_lost s1 l passes freed hbusy hloop ((lost_iff passes _).mpr hnot)
  · have htrunk := foldl_followPost_trunk passes (nodup_ctxsOn s1 l) s1 k
    rw [filterMap_lostMessage] at htrunk
    rw [rebuilt_trunk]
    exact htrunk
  · have hsame := rebuilt_ctx_of_other s1 l passes freed h
    exact ⟨hsame, (dispatch_entry _ c).trans (congrArg Ctx.entry hsame)⟩
  · have hchain := chainOf_rebuilt s1 l passes freed m
    simp only [chainOf, Prod.mk.injEq] at hchain
    exact hchain

end Sys2Proof.PostDirectory
end

section
/-! Call contexts and the waiting list (04): the step itself, and one call per post and per bearer. -/

namespace Sys2Proof.CallContexts

open Sys2Proof Sys2Proof.Machine

/-- Settles O1: `step` by its match on the queue, and an idle step by its match on the hand-off list. -/
theorem stepTakesTheFrontCommand : Obligations.StepTakesTheFrontCommand := by
  refine ⟨fun c rest s hp => ?_, fun i rest s hp hh => ?_, fun s hp hh => ?_⟩
  · simp only [step, hp]
  · simp only [step, idleStep, hp, hh]
  · simp only [step, idleStep, hp, hh]

/-- A FREE context that still names bearer 0 and still has a current offer reference on trunk A. No invariant rules it out in
the statement refuted below; in a run `Ctx.agrees` does, as a FREE context has neither reference nor target (R82, R98). -/
def staleCtx : Ctx :=
  { Ctx.reset with entry := 1, bearer := some 0, ref := some 0, target := some ⟨1, ⟨.A, 0, 20⟩⟩ }

/-- A part with that context, its post in the map of loop 0 in RUN, and a RELEASE of the reference at the front of the queue. -/
def staleState : State :=
  { (State.reset.setCtx 0 staleCtx).setLoop 0
      { Loop.reset with state := .run, map := [⟨0, .unlisted, CmdRec.fresh⟩] } with
    pending := [.release .A ⟨0, 0⟩] }

/-- What RELEASE does to it: CONFIRM(OK), CLEARING with cause DESK, and dispatch (R108). -/
def staleReleased : State :=
  ((((({ staleState with pending := [] } : State).take (.release .A ⟨0, 0⟩)).deskOk .A ⟨0, 0⟩ releaseCode).enterClearing 0
    .desk)).dispatch

theorem step_staleState : step staleState = .next staleReleased := by
  rfl

theorem staleReleased_ctx : (staleReleased.ctx 0).state = .clearing ∧ (staleReleased.ctx 0).bearer = some 0 ∧
    (staleReleased.ctx 0).loop = 0 ∧ (staleReleased.bearer 0 0).st = .free := by
  decide

/-- Refutes O29 in its part about the bearers, which has no premise on the contexts: RELEASE of a FREE context whose reference
still stands takes it into CLEARING with the bearer it names, and no bearer has been asked for. -/
theorem not_everyStepKeepsOneCallPerPostAndPerBearer : ¬ Obligations.EveryStepKeepsOneCallPerPostAndPerBearer := by
  intro h
  obtain ⟨-, hbearers, -⟩ := h
  obtain ⟨hstate, hbearer, hloop, hfree⟩ := staleReleased_ctx
  obtain ⟨-, htaken⟩ := hbearers staleState staleReleased 0 0 step_staleState
  obtain ⟨-, -, hassigning, -⟩ := htaken (.inl rfl) (by rw [hstate]; decide) hbearer
  rw [hloop, hfree] at hassigning
  cases hassigning

end Sys2Proof.CallContexts
end

section
/-! What the invariants of the calls speak of (04, 05, 09): the contexts, the waiting list, the pending notices and the states
of the channels; and what leaves all of it as it is. -/

namespace Sys2Proof.CallContexts

open Sys2Proof Sys2Proof.Machine

/-- The states of the channels of a trunk (R130). -/
def poolOf (T : TrunkIf) : Vector ChanState 15 := T.channels.map (·.st)

theorem poolOf_getElem (s : State) (k : Trunk) (n : ChanId) : (poolOf (s.trunk k))[n] = (s.chan k n).st := by
  simp [poolOf, State.chan]

theorem poolOf_congr {T U : TrunkIf} (h : U.channels = T.channels) : poolOf U = poolOf T := by
  rw [poolOf, poolOf, h]

/-- The contexts, the waiting list, the pending notices and the states of the channels. -/
@[ext]
structure Calls where
  contexts : Vector Ctx 32
  waiting  : List CtxId
  marks    : List (Nat × Nat)
  pools    : Trunk → Vector ChanState 15

/-- The calls of a state. -/
def callsOf (s : State) : Calls := ⟨s.contexts, s.waiting, s.marks, fun k => poolOf (s.trunk k)⟩

section
variable (s : State)

/-! ### Operations that leave the pool of every trunk -/

theorem setTrunk_poolOf {x : TrunkIf} (t k : Trunk) (hx : x.channels = (s.trunk t).channels) :
    poolOf ((s.setTrunk t x).trunk k) = poolOf (s.trunk k) := by
  by_cases h : t = k
  · subst h
    simpa using poolOf_congr hx
  · rw [State.setTrunk_trunk_of_ne s t x k h]

theorem modTrunk_poolOf {f : TrunkIf → TrunkIf} (t k : Trunk) (hf : ∀ T, (f T).channels = T.channels) :
    poolOf ((s.modTrunk t f).trunk k) = poolOf (s.trunk k) :=
  setTrunk_poolOf s t k (hf _)

theorem setChan_poolOf (t k : Trunk) (n : ChanId) (x : Channel) (hx : x.st = (s.chan t n).st) :
    poolOf ((s.setChan t n x).trunk k) = poolOf (s.trunk k) := by
  by_cases h : t = k
  · subst h
    apply Vector.ext
    intro i hi
    by_cases hin : n.val = i
    · subst hin
      simpa [State.setChan, State.modTrunk_eq, poolOf, State.chan] using hx
    · simp [State.setChan, State.modTrunk_eq, poolOf, Vector.getElem_set_ne, hin]
  · rw [State.setChan, State.modTrunk_trunk_of_ne s t _ k h]

@[simp] theorem pushSig_poolOf (t k : Trunk) (m : SigMsg) : poolOf ((s.pushSig t m).trunk k) = poolOf (s.trunk k) := by
  unfold State.pushSig
  split_ifs
  · exact modTrunk_poolOf s t k fun _ => rfl
  · simp

@[simp] theorem sendCleared_poolOf (c : CtxId) (cause : Cause) (k : Trunk) :
    poolOf ((s.sendCleared c cause).trunk k) = poolOf (s.trunk k) := by
  unfold State.sendCleared
  split <;> simp

@[simp] theorem sendIfCarried_poolOf (c : CtxId) (cause : Cause) (k : Trunk) :
    poolOf ((s.sendIfCarried c cause).trunk k) = poolOf (s.trunk k) := by
  unfold State.sendIfCarried
  split <;> simp

@[simp] theorem confirm_poolOf (t k : Trunk) (ref : OfferRef) (request : Byte) (result : DeskResult) (chan : Nat) :
    poolOf ((s.confirm t ref request result chan).trunk k) = poolOf (s.trunk k) :=
  pushSig_poolOf s t k _

@[simp] theorem answerGone_poolOf (t k : Trunk) (ref : OfferRef) (request : Byte) :
    poolOf ((s.answerGone t ref request).trunk k) = poolOf (s.trunk k) := by
  simp [State.answerGone]

@[simp] theorem wrongState_poolOf (t k : Trunk) (ref : OfferRef) (request : Byte) :
    poolOf ((s.wrongState t ref request).trunk k) = poolOf (s.trunk k) :=
  confirm_poolOf s t k ref request _ _

@[simp] theorem deskOk_poolOf (t k : Trunk) (ref : OfferRef) (request : Byte) :
    poolOf ((s.deskOk t ref request).trunk k) = poolOf (s.trunk k) :=
  confirm_poolOf s t k ref request _ _

@[simp] theorem writeLeg_poolOf (code : Byte) (g : Option Leg) (k : Trunk) :
    poolOf ((s.writeLeg code g).trunk k) = poolOf (s.trunk k) := by
  unfold State.writeLeg
  split
  · exact setChan_poolOf s _ k _ _ rfl
  · rfl

@[simp] theorem writeLegs_poolOf (c : CtxId) (code : Byte) (k : Trunk) :
    poolOf ((s.writeLegs c code).trunk k) = poolOf (s.trunk k) := by
  simp [State.writeLegs]

@[simp] theorem feedSignalling_poolOf (t k : Trunk) (b : Byte) :
    poolOf ((s.feedSignalling t b).trunk k) = poolOf (s.trunk k) := by
  have hset (r : Receiver) : poolOf ((s.setTrunk t { s.trunk t with sigRx := r }).trunk k) = poolOf (s.trunk k) :=
    setTrunk_poolOf s t k rfl
  unfold State.feedSignalling
  dsimp only
  split
  · exact hset _
  · simpa using hset _
  · simpa using hset _

@[simp] theorem dropMessages_poolOf (t k : Trunk) : poolOf ((s.dropMessages t).trunk k) = poolOf (s.trunk k) := by
  simp [State.dropMessages, modTrunk_poolOf]

@[simp] theorem changeTrunkState_poolOf (t k : Trunk) (st : TrunkState) :
    poolOf ((s.changeTrunkState t st).trunk k) = poolOf (s.trunk k) := by
  simp [State.changeTrunkState, modTrunk_poolOf]

@[simp] theorem handFailover_poolOf (t k : Trunk) : poolOf ((s.handFailover t).trunk k) = poolOf (s.trunk k) := by
  simp [State.handFailover, modTrunk_poolOf]

@[simp] theorem trunkFaultEvent_poolOf (t k : Trunk) : poolOf ((s.trunkFaultEvent t).trunk k) = poolOf (s.trunk k) := by
  unfold State.trunkFaultEvent
  split_ifs <;> simp [modTrunk_poolOf]

@[simp] theorem recover_poolOf (t k : Trunk) : poolOf ((s.recover t).trunk k) = poolOf (s.trunk k) := by
  simp [State.recover, modTrunk_poolOf]

@[simp] theorem onAligned_poolOf (t k : Trunk) : poolOf ((s.onAligned t).trunk k) = poolOf (s.trunk k) := by
  unfold State.onAligned
  (repeat' split) <;> simp

@[simp] theorem onLost_poolOf (t k : Trunk) : poolOf ((s.onLost t).trunk k) = poolOf (s.trunk k) := by
  unfold State.onLost
  (repeat' split) <;> simp

@[simp] theorem onAlarm_poolOf (t k : Trunk) : poolOf ((s.onAlarm t).trunk k) = poolOf (s.trunk k) := by
  unfold State.onAlarm
  (repeat' split) <;> simp

@[simp] theorem onAlarmAbsent_poolOf (t k : Trunk) : poolOf ((s.onAlarmAbsent t).trunk k) = poolOf (s.trunk k) := by
  unfold State.onAlarmAbsent
  (repeat' split) <;> simp

@[simp] theorem loseAlignment_poolOf (t k : Trunk) : poolOf ((s.loseAlignment t).trunk k) = poolOf (s.trunk k) := by
  simp [State.loseAlignment, modTrunk_poolOf]

@[simp] theorem clearAlarm_poolOf (t k : Trunk) : poolOf ((s.clearAlarm t).trunk k) = poolOf (s.trunk k) := by
  simp [State.clearAlarm, modTrunk_poolOf]

@[simp] theorem takeHousekeeping_poolOf (t k : Trunk) (b : Byte) :
    poolOf ((s.takeHousekeeping t b).trunk k) = poolOf (s.trunk k) := by
  unfold State.takeHousekeeping State.takeAlarm State.takeClear
  dsimp only
  split_ifs <;> simp [modTrunk_poolOf]

@[simp] theorem oddFrame_poolOf (t k : Trunk) (b : Byte) : poolOf ((s.oddFrame t b).trunk k) = poolOf (s.trunk k) := by
  unfold State.oddFrame
  dsimp only
  split_ifs <;> simp

@[simp] theorem evenFrame_poolOf (t k : Trunk) (b : Byte) : poolOf ((s.evenFrame t b).trunk k) = poolOf (s.trunk k) := by
  unfold State.evenFrame
  dsimp only
  split_ifs <;> simp [modTrunk_poolOf]

@[simp] theorem countSlip_poolOf (t k : Trunk) : poolOf ((s.countSlip t).trunk k) = poolOf (s.trunk k) := by
  unfold State.countSlip
  split_ifs <;> simp [modTrunk_poolOf]

@[simp] theorem writeStore_poolOf (t k : Trunk) (slots : List Byte) :
    poolOf ((s.writeStore t slots).trunk k) = poolOf (s.trunk k) := by
  unfold State.writeStore
  dsimp only
  split_ifs <;> simp [modTrunk_poolOf]

@[simp] theorem readStore_poolOf (t k : Trunk) : poolOf ((s.readStore t).1.trunk k) = poolOf (s.trunk k) := by
  unfold State.readStore
  dsimp only
  split_ifs
  · split
    · exact modTrunk_poolOf s t k (f := fun T => { T with store := _, lastFrame := _ }) fun _ => rfl
    · simp
  · rfl

@[simp] theorem catchTrunk_poolOf (t k : Trunk) : poolOf ((s.catchTrunk t).trunk k) = poolOf (s.trunk k) := by
  unfold State.catchTrunk
  dsimp only
  split_ifs <;> simp

@[simp] theorem alignedFrame_poolOf (t k : Trunk) (frame : List Byte) :
    poolOf ((s.alignedFrame t frame).trunk k) = poolOf (s.trunk k) := by
  unfold State.alignedFrame
  dsimp only
  split_ifs <;> simp [modTrunk_poolOf]

@[simp] theorem streamStep_poolOf (t k : Trunk) : poolOf ((State.streamStep t s).1.trunk k) = poolOf (s.trunk k) := by
  unfold State.streamStep
  dsimp only
  split_ifs
  · simp [modTrunk_poolOf]
  · split <;> simp [State.gainAlignment, modTrunk_poolOf]

@[simp] theorem deliver_poolOf (t k : Trunk) (slots : List Byte) :
    poolOf ((s.deliver t slots).trunk k) = poolOf (s.trunk k) := by
  unfold State.deliver
  dsimp only
  split_ifs <;> simp [modTrunk_poolOf]

theorem advanceSig_channels (T : TrunkIf) : (State.advanceSig T).channels = T.channels := by
  unfold State.advanceSig
  (repeat' split) <;> rfl

@[simp] theorem sendFrame_poolOf (t k : Trunk) : poolOf ((s.sendFrame t).trunk k) = poolOf (s.trunk k) := by
  simp only [State.sendFrame, State.sendService_trunk]
  rw [modTrunk_poolOf _ t k (by exact fun T => advanceSig_channels T), State.startReply_trunk]

@[simp] theorem leaveFailover_poolOf (t k : Trunk) (st : TrunkState) :
    poolOf ((s.leaveFailover t st).trunk k) = poolOf (s.trunk k) := by
  simp [State.leaveFailover, modTrunk_poolOf]

@[simp] theorem enableTrunk_poolOf (t k : Trunk) : poolOf ((s.enableTrunk t).trunk k) = poolOf (s.trunk k) := by
  unfold State.enableTrunk
  dsimp only
  split_ifs <;> simp [modTrunk_poolOf]

@[simp] theorem clearFlags_poolOf (r : RecRef) (flags : BitVec 16) (k : Trunk) :
    poolOf ((s.clearFlags r flags).trunk k) = poolOf (s.trunk k) := by
  cases r
  case trunk t =>
    simp only [State.clearFlags, State.clearEffects, State.clearedTrunk]
    split_ifs <;> simp [modTrunk_poolOf]
  all_goals simp [State.clearFlags, State.clearEffects]

@[simp] theorem tickTrunk_poolOf (t k : Trunk) : poolOf ((s.tickTrunk t).trunk k) = poolOf (s.trunk k) := by
  simp [State.tickTrunk, modTrunk_poolOf]

end

end Sys2Proof.CallContexts
end

section
/-! The moves of the call manager: what it may do with the contexts, the waiting list, the pending notices and the pools at one
time, and the invariants that every such move keeps. -/

namespace Sys2Proof.CallContexts

open Sys2Proof Sys2Proof.Machine

namespace Calls

variable (v : Calls)

def ctx (c : CtxId) : Ctx := v.contexts[c]

def setCtx (c : CtxId) (x : Ctx) : Calls := { v with contexts := v.contexts.set c x }

/-- The state of a channel. -/
def chan (k : Trunk) (n : ChanId) : ChanState := (v.pools k)[n]

def setChan (k : Trunk) (n : ChanId) (st : ChanState) : Calls :=
  { v with pools := fun j => if j = k then (v.pools j).set n st else v.pools j }

/-- The channel of a leg turned IN-USE. -/
def useLeg : Option Leg → Calls
  | some g => v.setChan g.trunk g.chan .inUse
  | none => v

def enter (c : CtxId) : Calls :=
  { v with waiting := insertWaiting (fun a b => (v.ctx a).before (v.ctx b)) c v.waiting }

def leave (c : CtxId) : Calls := { v with waiting := v.waiting.filter (· != c) }

def dropMarks (c : CtxId) : Calls :=
  { v with marks := v.marks.filter (fun m => !(m == (9, c.val) || m == (10, c.val))) }

@[simp] theorem setCtx_ctx (c d : CtxId) (x : Ctx) : (v.setCtx c x).ctx d = if d = c then x else v.ctx d := by
  by_cases h : d = c
  · subst h; simp [ctx, setCtx]
  · have hval : c.val ≠ d.val := fun he => h (Fin.ext he.symm)
    simp [ctx, setCtx, h, Vector.getElem_set_ne, hval]

@[simp] theorem setChan_chan (k j : Trunk) (n m : ChanId) (st : ChanState) :
    (v.setChan k n st).chan j m = if j = k ∧ m = n then st else v.chan j m := by
  by_cases hj : j = k
  · subst hj
    by_cases hm : m = n
    · subst hm; simp [chan, setChan]
    · have hval : n.val ≠ m.val := fun he => hm (Fin.ext he.symm)
      simp [chan, setChan, hm, Vector.getElem_set_ne, hval]
  · simp [chan, setChan, hj]

@[simp] theorem setChan_ctx (k : Trunk) (n : ChanId) (st : ChanState) (d : CtxId) : (v.setChan k n st).ctx d = v.ctx d := rfl
@[simp] theorem useLeg_ctx (g : Option Leg) (d : CtxId) : (v.useLeg g).ctx d = v.ctx d := by cases g <;> rfl
@[simp] theorem enter_ctx (c d : CtxId) : (v.enter c).ctx d = v.ctx d := rfl
@[simp] theorem leave_ctx (c d : CtxId) : (v.leave c).ctx d = v.ctx d := rfl
@[simp] theorem dropMarks_ctx (c d : CtxId) : (v.dropMarks c).ctx d = v.ctx d := rfl

@[simp] theorem setCtx_waiting (c : CtxId) (x : Ctx) : (v.setCtx c x).waiting = v.waiting := rfl
@[simp] theorem setChan_waiting (k : Trunk) (n : ChanId) (st : ChanState) : (v.setChan k n st).waiting = v.waiting := rfl
@[simp] theorem useLeg_waiting (g : Option Leg) : (v.useLeg g).waiting = v.waiting := by cases g <;> rfl
@[simp] theorem leave_waiting (c : CtxId) : (v.leave c).waiting = v.waiting.filter (· != c) := rfl
@[simp] theorem dropMarks_waiting (c : CtxId) : (v.dropMarks c).waiting = v.waiting := rfl

@[simp] theorem setCtx_marks (c : CtxId) (x : Ctx) : (v.setCtx c x).marks = v.marks := rfl
@[simp] theorem setChan_marks (k : Trunk) (n : ChanId) (st : ChanState) : (v.setChan k n st).marks = v.marks := rfl
@[simp] theorem useLeg_marks (g : Option Leg) : (v.useLeg g).marks = v.marks := by cases g <;> rfl
@[simp] theorem enter_marks (c : CtxId) : (v.enter c).marks = v.marks := rfl
@[simp] theorem leave_marks (c : CtxId) : (v.leave c).marks = v.marks := rfl
@[simp] theorem dropMarks_marks (c : CtxId) :
    (v.dropMarks c).marks = v.marks.filter (fun m => !(m == (9, c.val) || m == (10, c.val))) := rfl

@[simp] theorem setCtx_chan (c : CtxId) (x : Ctx) (k : Trunk) (n : ChanId) : (v.setCtx c x).chan k n = v.chan k n := rfl
@[simp] theorem enter_chan (c : CtxId) (k : Trunk) (n : ChanId) : (v.enter c).chan k n = v.chan k n := rfl
@[simp] theorem leave_chan (c : CtxId) (k : Trunk) (n : ChanId) : (v.leave c).chan k n = v.chan k n := rfl
@[simp] theorem dropMarks_chan (c : CtxId) (k : Trunk) (n : ChanId) : (v.dropMarks c).chan k n = v.chan k n := rfl

theorem mem_enter_waiting (c d : CtxId) : d ∈ (v.enter c).waiting ↔ d = c ∨ d ∈ v.waiting := mem_insertWaiting _ _ _ _

/-! ### The invariants -/

def contextsOk : Prop := ∀ c, (v.ctx c).agrees

def waitingOk : Prop := v.waiting.Nodup ∧ ∀ c, c ∈ v.waiting ↔ (v.ctx c).isWaiting

def waitingSorted : Prop := v.waiting.Pairwise (fun c d => (v.ctx d).before (v.ctx c) = false)

def marksOk : Prop :=
  v.marks.Pairwise (fun a b => a.1 < b.1 ∨ (a.1 = b.1 ∧ a.2 < b.2)) ∧
  ∀ c, (v.ctx c).state = .free → (9, c.val) ∉ v.marks ∧ (10, c.val) ∉ v.marks

/-- The channel accounting of R132, but that a channel owed to its pool may still stand taken with no call on it. -/
def channelsOk (owed : Trunk → ChanId → Prop) : Prop :=
  (∀ c g, (v.ctx c).primary = some g → v.chan g.trunk g.chan = if (v.ctx c).state = .offered then .reserved else .inUse) ∧
  (∀ c g, (v.ctx c).second = some g → v.chan g.trunk g.chan = .inUse ∧ (v.ctx c).primary ≠ some g) ∧
  (∀ c d g, c ≠ d → (v.ctx c).hasLeg g → ¬ (v.ctx d).hasLeg g) ∧
  ∀ k n, v.chan k n = .reserved ∨ v.chan k n = .inUse → owed k n ∨ ∃ c, (v.ctx c).hasLeg ⟨k, n⟩

end Calls

/-! ### The moves -/

/-- What the invariants speak of in a context, but for its retry timer. -/
def coreOf (x : Ctx) : CtxState × CallClass × Nat × Nat × Option Byte × Option CurrentTarget × Option Leg × Option Leg ×
    Bool × Bool :=
  (x.state, x.cls, x.represented, x.entryNo, x.ref, x.target, x.primary, x.second, x.offerTimer.isRunning, x.holdRunning)

/-- A call goes on as it is: only what no invariant speaks of changes, and the retry timer starts in QUEUED alone (R94). -/
def GoesOn (x y : Ctx) : Prop :=
  coreOf y = coreOf x ∧ (y.retryTimer.isRunning → x.retryTimer.isRunning ∨ x.state = .queued)

/-- A context as a renumbering leaves it (R74). -/
def renumbered (f : Nat → Nat) (x : Ctx) : Ctx := if x.state = .free then x else { x with entryNo := f x.entryNo }

theorem renumbered_state (f : Nat → Nat) (x : Ctx) : (renumbered f x).state = x.state := by
  unfold renumbered
  split_ifs <;> rfl

theorem renumbered_primary (f : Nat → Nat) (x : Ctx) : (renumbered f x).primary = x.primary := by
  unfold renumbered
  split_ifs <;> rfl

theorem renumbered_second (f : Nat → Nat) (x : Ctx) : (renumbered f x).second = x.second := by
  unfold renumbered
  split_ifs <;> rfl

/-- What the call manager and the notice unit do to the calls. `owed` are the channels whose legs have been dropped, or are to
be, before the channels are freed: a failover and a section restart drop every leg first and free the pool at the end, and a
call cleared has its channels freed before its legs are dropped. -/
inductive Moves : (Trunk → ChanId → Prop) → Calls → Calls → Prop
  | refl (owed v) : Moves owed v v
  | trans {owed u v w} : Moves owed u v → Moves owed v w → Moves owed u w
  | goOn {owed v} (c) {x} (h : GoesOn (v.ctx c) x) : Moves owed v (v.setCtx c x)
  | renumber {owed v} {f : Nat → Nat} (hf : Monotone f) (contexts : Vector Ctx 32)
      (h : ∀ d : CtxId, contexts[d] = renumbered f (v.ctx d)) : Moves owed v { v with contexts := contexts }
  | register {owed v} (c) (cls l pos plate snapshot zone entryNo) (hst : (v.ctx c).state = .free) :
      Moves owed v ((v.setCtx c ((v.ctx c).allocate cls l pos plate snapshot zone entryNo)).enter c)
  | offer {owed v} (c) (place target ch gen ref frames) (hst : (v.ctx c).state = .queued)
      (hretry : (v.ctx c).retryTimer.isRunning = false) (hch : v.chan target.trunk ch = .free) :
      Moves owed v ((v.setChan target.trunk ch .reserved).setCtx c { v.ctx c with
        state := .offered
        primary := some ⟨target.trunk, ch⟩
        offGen := gen
        ref := some ref
        target := some ⟨place, target⟩
        offerTimer := .running frames })
  | requeue {owed v} (c tried) (hst : (v.ctx c).state = .offered)
      (howed : v.contextsOk → ∀ g, (v.ctx c).hasLeg g → owed g.trunk g.chan) :
      Moves owed v (v.setCtx c { v.ctx c with
        state := .queued, offerTimer := .stopped, tried := tried, primary := none, ref := none, target := none })
  | represent {owed v} (c represented entryNo) (hst : (v.ctx c).state = .connected ∨ (v.ctx c).state = .held)
      (howed : v.contextsOk → ∀ g, (v.ctx c).hasLeg g → owed g.trunk g.chan) :
      Moves owed v ((v.setCtx c { v.ctx c with
        state := .queued
        holdRunning := false
        prevDesk := (v.ctx c).desk
        desk := none
        primary := none
        second := none
        ref := none
        target := none
        represented := represented
        tried := []
        entryNo := entryNo }).enter c)
  | answer {owed v} (c desk) (hst : (v.ctx c).state = .offered) :
      Moves owed v (((v.useLeg (v.ctx c).primary).setCtx c { v.ctx c with
        state := .connected, offerTimer := .stopped, desk := some desk }).leave c)
  | hold {owed v} (c) (hst : (v.ctx c).state = .connected) :
      Moves owed v (v.setCtx c { v.ctx c with
        state := .held, holdNotified := false, holdRunning := true, holdCount := 0, holdSub := 0 })
  | retrieve {owed v} (c) (hst : (v.ctx c).state = .held) :
      Moves owed v (v.setCtx c { v.ctx c with state := .connected, holdRunning := false })
  | join {owed v} (c g n) (hst : (v.ctx c).state = .connected ∨ (v.ctx c).state = .held)
      (hsecond : (v.ctx c).second = none) (hprimary : (v.ctx c).primary = some g) (hch : v.chan g.trunk n = .free) :
      Moves owed v ((v.setChan g.trunk n .inUse).setCtx c { v.ctx c with second := some ⟨g.trunk, n⟩ })
  | leave {owed v} (c) (hst : (v.ctx c).state = .connected ∨ (v.ctx c).state = .held)
      (howed : ∀ g, (v.ctx c).second = some g → owed g.trunk g.chan) :
      Moves owed v (v.setCtx c { v.ctx c with second := none })
  | stop {owed v} (c cause) (howed : ∀ g, (v.ctx c).hasLeg g → owed g.trunk g.chan) :
      Moves owed v ((v.leave c).setCtx c { v.ctx c with
        state := .clearing
        offerTimer := .stopped
        holdRunning := false
        retryTimer := .stopped
        primary := none
        second := none
        cause := cause })
  | free {owed v} (c) (hst : (v.ctx c).state = .clearing) :
      Moves owed v (((v.leave c).setCtx c { v.ctx c with
        state := .free, bearer := none, liveSeen := false, ref := none, target := none }).dropMarks c)
  | empty {owed v} (h : ∀ c, ¬ (v.ctx c).isWaiting) : Moves owed v { v with waiting := [] }
  | mark {owed v} (m) (h : ∀ c : CtxId, m = (9, c.val) ∨ m = (10, c.val) → (v.ctx c).state ≠ .free) :
      Moves owed v { v with marks := insertMark m v.marks }
  | unmark {owed v} (p) : Moves owed v { v with marks := v.marks.filter p }
  | block {owed v} (k n st) (hold : v.chan k n = .free ∨ v.chan k n = .blocked) (hnew : st = .free ∨ st = .blocked) :
      Moves owed v (v.setChan k n st)
  | settle {owed extra : Trunk → ChanId → Prop} {v w p} (h : Moves (fun k n => owed k n ∨ extra k n) v w)
      (hlegs : v.contextsOk → v.channelsOk owed → ∀ c g, (w.ctx c).hasLeg g → ¬ extra g.trunk g.chan)
      (hkept : ∀ k (n : ChanId), ¬ extra k n → (p k)[n] = w.chan k n)
      (hfreed : ∀ k (n : ChanId), extra k n → (p k)[n] ≠ .reserved ∧ (p k)[n] ≠ .inUse) :
      Moves owed v { w with pools := p }

/-! ### Each context's fields -/

theorem agrees_of_goesOn {x y : Ctx} (hx : x.agrees) (h : GoesOn x y) : y.agrees := by
  obtain ⟨hcore, hretry⟩ := h
  simp only [coreOf, Prod.mk.injEq] at hcore
  obtain ⟨hst, -, -, -, href, htarget, hprimary, hsecond, hoffer, hhold⟩ := hcore
  obtain ⟨hxretry, hxoffer, hxhold, hxlegs⟩ := hx
  unfold Ctx.agrees
  rw [hst, href, htarget, hprimary, hsecond, hoffer, hhold]
  exact ⟨fun hr => (hretry hr).elim hxretry id, hxoffer, hxhold, hxlegs⟩

theorem Calls.contextsOk.setCtx {v : Calls} (h : v.contextsOk) (c : CtxId) {x : Ctx} (hx : x.agrees) :
    (v.setCtx c x).contextsOk := fun d => by
  rw [Calls.setCtx_ctx]
  split_ifs
  · exact hx
  · exact h d

/-- A call that gives up its second leg keeps its first. -/
theorem agrees_of_leave {x : Ctx} (hst : x.state = .connected ∨ x.state = .held) (h : x.agrees) :
    ({ x with second := none } : Ctx).agrees := by
  obtain ⟨hretry, hoffer, hhold, hlegs⟩ := h
  refine ⟨hretry, hoffer, hhold, ?_⟩
  rcases hst with hst | hst
  all_goals
    simp only [hst] at hlegs ⊢
    obtain ⟨href, p, htarget, hprimary, -⟩ := hlegs
    exact ⟨href, p, htarget, hprimary, .inl trivial⟩

theorem Moves.contextsOk {owed : Trunk → ChanId → Prop} {v w : Calls} (h : Moves owed v w) (hv : v.contextsOk) :
    w.contextsOk := by
  induction h with
  | refl => exact hv
  | trans _ _ ih ih' => exact ih' (ih hv)
  | goOn c hx => exact hv.setCtx c (agrees_of_goesOn (hv c) hx)
  | renumber hf contexts h =>
    intro d
    have hd := hv d
    rw [Calls.ctx, h d]
    unfold renumbered
    split_ifs
    · exact hd
    · exact hd
  | register c => exact Calls.contextsOk.setCtx hv c (by simp [Ctx.agrees, Ctx.allocate, Ctx.reset, Timer.isRunning])
  | offer c place target ch gen ref frames hst hretry hch =>
    have hc := hv c
    refine Calls.contextsOk.setCtx hv c ?_
    simp_all [Ctx.agrees, legOn, Timer.isRunning]
  | requeue c tried hst howed =>
    have hc := hv c
    refine Calls.contextsOk.setCtx hv c ?_
    simp_all [Ctx.agrees, Timer.isRunning]
  | represent c represented entryNo hst howed =>
    have hc := hv c
    refine Calls.contextsOk.setCtx hv c ?_
    rcases hst with hst | hst <;> simp_all [Ctx.agrees]
  | answer c desk hst =>
    have hc := hv c
    refine Calls.contextsOk.setCtx (v := Calls.useLeg _ _) (fun d => by simpa using hv d) c ?_
    simp_all [Ctx.agrees, Timer.isRunning]
  | hold c hst =>
    have hc := hv c
    refine Calls.contextsOk.setCtx hv c ?_
    simp_all [Ctx.agrees]
  | retrieve c hst =>
    have hc := hv c
    refine Calls.contextsOk.setCtx hv c ?_
    simp_all [Ctx.agrees]
  | join c g n hst hsecond hprimary hch =>
    have hc := hv c
    refine Calls.contextsOk.setCtx hv c ?_
    rcases hst with hst | hst <;> simp_all [Ctx.agrees, legOn]
  | leave c hst => exact Calls.contextsOk.setCtx hv c (agrees_of_leave hst (hv c))
  | stop c => exact Calls.contextsOk.setCtx hv c (by simp [Ctx.agrees, Timer.isRunning])
  | free c hst =>
    have hc := hv c
    refine Calls.contextsOk.setCtx hv c ?_
    simp_all [Ctx.agrees]
  | empty | mark | unmark | block => exact hv
  | settle _ _ _ _ ih => exact ih hv

/-! ### The waiting list -/

theorem Calls.waitingOk.setCtx {v : Calls} (h : v.waitingOk) (c : CtxId) {x : Ctx}
    (hx : x.isWaiting ↔ (v.ctx c).isWaiting) : (v.setCtx c x).waitingOk := by
  refine ⟨h.1, fun d => ?_⟩
  rw [Calls.setCtx_waiting, Calls.setCtx_ctx, h.2 d]
  split_ifs with hd
  · rw [hd, hx]
  · rfl

/-- A context enters the list as it becomes QUEUED. -/
theorem Calls.waitingOk.enter {v : Calls} (h : v.waitingOk) (c : CtxId) {x : Ctx} (hx : x.isWaiting)
    (hc : ¬ (v.ctx c).isWaiting) : ((v.setCtx c x).enter c).waitingOk := by
  refine ⟨nodup_insertWaiting _ c _ h.1 (fun hmem => hc ((h.2 c).mp hmem)), fun d => ?_⟩
  rw [Calls.mem_enter_waiting, Calls.setCtx_waiting, Calls.enter_ctx, Calls.setCtx_ctx, h.2 d]
  split_ifs with hd
  · simp [hd, hx]
  · simp [hd]

/-- A context leaves the list as it stops waiting. -/
theorem Calls.waitingOk.leave {v : Calls} (h : v.waitingOk) (c : CtxId) {x : Ctx} (hx : ¬ x.isWaiting) :
    ((v.leave c).setCtx c x).waitingOk := by
  refine ⟨h.1.filter _, fun d => ?_⟩
  rw [Calls.setCtx_waiting, Calls.leave_waiting, Calls.setCtx_ctx, Calls.leave_ctx, List.mem_filter, h.2 d]
  split_ifs with hd
  · simp [hd, hx]
  · simp [hd]

theorem isWaiting_of_goesOn {x y : Ctx} (h : GoesOn x y) : y.isWaiting ↔ x.isWaiting := by
  have hst : y.state = x.state := congrArg Prod.fst h.1
  simp only [Ctx.isWaiting, hst]

theorem Moves.waitingOk {owed : Trunk → ChanId → Prop} {v w : Calls} (h : Moves owed v w) (hv : v.waitingOk) :
    w.waitingOk := by
  induction h with
  | refl => exact hv
  | trans _ _ ih ih' => exact ih' (ih hv)
  | goOn c hx => exact hv.setCtx c (isWaiting_of_goesOn hx)
  | renumber hf contexts h =>
    refine ⟨hv.1, fun d => ?_⟩
    simp only [hv.2 d, Ctx.isWaiting, Calls.ctx, h d, renumbered_state]
  | register c _ _ _ _ _ _ _ hst =>
    exact hv.enter c (.inl rfl) (by simp [Ctx.isWaiting, hst])
  | offer c _ _ _ _ _ _ hst => exact Calls.waitingOk.setCtx hv c (by simp [Ctx.isWaiting, hst])
  | requeue c _ hst => exact hv.setCtx c (by simp [Ctx.isWaiting, hst])
  | represent c _ _ hst => exact hv.enter c (.inl rfl) (by rcases hst with hst | hst <;> simp [Ctx.isWaiting, hst])
  | @answer _ v c desk hst =>
    exact Calls.waitingOk.leave (v := v.useLeg (v.ctx c).primary) (by simpa [Calls.waitingOk] using hv) c
      (by simp [Ctx.isWaiting])
  | hold c hst => exact hv.setCtx c (by simp [Ctx.isWaiting, hst])
  | retrieve c hst => exact hv.setCtx c (by simp [Ctx.isWaiting, hst])
  | join c => exact Calls.waitingOk.setCtx hv c Iff.rfl
  | leave c => exact hv.setCtx c Iff.rfl
  | stop c => exact hv.leave c (by simp [Ctx.isWaiting])
  | free c => exact Calls.waitingOk.leave hv c (by simp [Ctx.isWaiting])
  | empty h => exact ⟨List.nodup_nil, fun c => iff_of_false List.not_mem_nil (h c)⟩
  | mark | unmark | block => exact hv
  | settle _ _ _ _ ih => exact ih hv

end Sys2Proof.CallContexts
end

section
/-! The order of the waiting list, the pending notices and the channel accounting, through every move of the call manager. -/

namespace Sys2Proof.CallContexts

open Sys2Proof Sys2Proof.Machine

/-! ### The order of the waiting list (R74) -/

theorem before_iff (x y : Ctx) : x.before y = true ↔ classRank x.cls < classRank y.cls ∨
    classRank x.cls = classRank y.cls ∧ (x.group < y.group ∨ x.group = y.group ∧ x.entryNo < y.entryNo) := by
  simp [Ctx.before]

theorem before_trans {x y z : Ctx} (h : x.before y = true) (h' : y.before z = true) : x.before z = true := by
  rw [before_iff] at *
  omega

theorem before_asymm {x y : Ctx} (h : x.before y = true) : y.before x = false := by
  rw [← Bool.not_eq_true, before_iff]
  rw [before_iff] at h
  omega

/-- An insertion keeps a list in an order that is transitive and asymmetric. -/
theorem pairwise_insertWaiting {order : CtxId → CtxId → Bool} (htrans : ∀ a b d, order a b → order b d → order a d)
    (hasymm : ∀ a b, order a b → order b a = false) (c : CtxId) {w : List CtxId}
    (hw : w.Pairwise (fun a b => order b a = false)) :
    (insertWaiting order c w).Pairwise (fun a b => order b a = false) := by
  induction w with
  | nil => simp [insertWaiting]
  | cons d rest ih =>
    obtain ⟨hd, hrest⟩ := List.pairwise_cons.mp hw
    unfold insertWaiting
    split_ifs with hc
    · refine List.pairwise_cons.mpr ⟨fun e he => ?_, hw⟩
      rcases List.mem_cons.mp he with rfl | he
      · exact hasymm _ _ hc
      · exact Bool.eq_false_iff.mpr fun hec => Bool.eq_false_iff.mp (hd e he) (htrans e c d hec hc)
    · refine List.pairwise_cons.mpr ⟨fun e he => ?_, ih hrest⟩
      rcases (mem_insertWaiting _ _ _ _).mp he with rfl | he
      · exact Bool.eq_false_iff.mpr hc
      · exact hd e he

/-- The keys of R74 and R75. -/
def keyOf (x : Ctx) : CallClass × Nat × Nat := (x.cls, x.group, x.entryNo)

theorem before_congr {x x' y y' : Ctx} (hx : keyOf x' = keyOf x) (hy : keyOf y' = keyOf y) : x'.before y' = x.before y := by
  simp only [keyOf, Prod.mk.injEq] at hx hy
  obtain ⟨hxc, hxg, hxn⟩ := hx
  obtain ⟨hyc, hyg, hyn⟩ := hy
  rw [Bool.eq_iff_iff, before_iff, before_iff, hxc, hxg, hxn, hyc, hyg, hyn]

theorem Calls.waitingSorted.congr {v w : Calls} (h : v.waitingSorted) (hw : w.waiting.Sublist v.waiting)
    (hkey : ∀ d ∈ w.waiting, keyOf (w.ctx d) = keyOf (v.ctx d)) : w.waitingSorted :=
  (h.sublist hw).imp_of_mem fun hc hd hcd => (before_congr (hkey _ hd) (hkey _ hc)).trans hcd

/-- A change of one context keeps the order where it keeps the context's keys, or the context does not wait. -/
theorem Calls.waitingSorted.setCtx {v : Calls} (h : v.waitingSorted) (c : CtxId) {x : Ctx}
    (hx : c ∈ v.waiting → keyOf x = keyOf (v.ctx c)) : (v.setCtx c x).waitingSorted :=
  h.congr (List.Sublist.refl _) fun d hd => by
    rw [Calls.setCtx_ctx]
    split_ifs with he
    · subst he
      exact hx hd
    · rfl

theorem Calls.waitingSorted.enter {v : Calls} (h : v.waitingSorted) (c : CtxId) : (v.enter c).waitingSorted :=
  pairwise_insertWaiting (order := fun a b => (v.ctx a).before (v.ctx b)) (fun _ _ _ => before_trans)
    (fun _ _ => before_asymm) c h

theorem Calls.waitingSorted.leave {v : Calls} (h : v.waitingSorted) (c : CtxId) : (v.leave c).waitingSorted :=
  h.congr List.filter_sublist fun _ _ => rfl

theorem keyOf_of_goesOn {x y : Ctx} (h : GoesOn x y) : keyOf y = keyOf x := by
  obtain ⟨hcore, -⟩ := h
  simp only [coreOf, Prod.mk.injEq] at hcore
  obtain ⟨-, hcls, hrep, hno, -⟩ := hcore
  simp only [keyOf, Ctx.group, hcls, hrep, hno]

theorem Calls.waitingOk.not_mem {v : Calls} (h : v.waitingOk) {c : CtxId} (hc : ¬ (v.ctx c).isWaiting) : c ∉ v.waiting :=
  fun hmem => hc ((h.2 c).mp hmem)

theorem Moves.waitingSorted {owed : Trunk → ChanId → Prop} {v w : Calls} (h : Moves owed v w) (hok : v.waitingOk)
    (hv : v.waitingSorted) : w.waitingSorted := by
  induction h with
  | refl => exact hv
  | trans h _ ih ih' => exact ih' (h.waitingOk hok) (ih hok hv)
  | goOn c hx => exact hv.setCtx c fun _ => keyOf_of_goesOn hx
  | @renumber _ v f hf contexts h =>
    refine List.Pairwise.imp_of_mem (fun {c d} hc hd hcd => ?_) hv
    have hkeys (e : CtxId) (he : e ∈ v.waiting) : contexts[e].cls = (v.ctx e).cls ∧
        contexts[e].group = (v.ctx e).group ∧ contexts[e].entryNo = f (v.ctx e).entryNo := by
      have hnot : (v.ctx e).state ≠ .free := fun hfree => by
        have hwait := (hok.2 e).mp he
        simp [Ctx.isWaiting, hfree] at hwait
      rw [h e, renumbered, if_neg hnot]
      exact ⟨rfl, rfl, rfl⟩
    obtain ⟨hcc, hcg, hcn⟩ := hkeys c hc
    obtain ⟨hdc, hdg, hdn⟩ := hkeys d hd
    rw [← Bool.not_eq_true, before_iff] at hcd ⊢
    have hmono := @hf (v.ctx c).entryNo (v.ctx d).entryNo
    simp only [Calls.ctx] at hcc hcg hcn hdc hdg hdn hcd hmono ⊢
    rw [hcc, hcg, hcn, hdc, hdg, hdn]
    omega
  | register c _ _ _ _ _ _ _ hst =>
    exact (hv.setCtx c fun hmem => absurd hmem (hok.not_mem (by simp [Ctx.isWaiting, hst]))).enter c
  | offer c => exact Calls.waitingSorted.setCtx hv c fun _ => rfl
  | requeue c => exact hv.setCtx c fun _ => rfl
  | represent c _ _ hst =>
    exact (hv.setCtx c fun hmem => absurd hmem
      (hok.not_mem (by rcases hst with hst | hst <;> simp [Ctx.isWaiting, hst]))).enter c
  | @answer _ v c =>
    refine Calls.waitingSorted.leave (Calls.waitingSorted.setCtx ?_ c fun _ => by simp; rfl) c
    simpa [Calls.waitingSorted] using hv
  | hold c => exact hv.setCtx c fun _ => rfl
  | retrieve c => exact hv.setCtx c fun _ => rfl
  | join c => exact Calls.waitingSorted.setCtx hv c fun _ => rfl
  | leave c => exact hv.setCtx c fun _ => rfl
  | stop c => exact (hv.leave c).setCtx c fun _ => rfl
  | free c => exact Calls.waitingSorted.setCtx (hv.leave c) c fun _ => rfl
  | empty => exact List.Pairwise.nil
  | mark | unmark | block => exact hv
  | settle _ _ _ _ ih => exact ih hok hv

/-! ### The pending notices (R181, R183, R185) -/

/-- A change of one context keeps the marks where it frees none. -/
theorem Calls.marksOk.setCtx {v : Calls} (h : v.marksOk) (c : CtxId) {x : Ctx}
    (hx : x.state = .free → (v.ctx c).state = .free) : (v.setCtx c x).marksOk := by
  refine ⟨h.1, fun d hd => h.2 d ?_⟩
  rw [Calls.setCtx_ctx] at hd
  split_ifs at hd with he
  · exact he ▸ hx hd
  · exact hd

theorem Moves.marksOk {owed : Trunk → ChanId → Prop} {v w : Calls} (h : Moves owed v w) (hv : v.marksOk) : w.marksOk := by
  induction h with
  | refl => exact hv
  | trans _ _ ih ih' => exact ih' (ih hv)
  | goOn c hx => exact hv.setCtx c fun hfree => (congrArg Prod.fst hx.1).symm.trans hfree
  | renumber hf contexts h =>
    exact ⟨hv.1, fun d hd => hv.2 d (by rwa [Calls.ctx, h d, renumbered_state] at hd)⟩
  | @register _ v c => exact Calls.marksOk.setCtx hv c fun hfree => nomatch hfree
  | @offer _ v c => exact Calls.marksOk.setCtx (v := v.setChan _ _ _) hv c fun hfree => nomatch hfree
  | requeue c => exact hv.setCtx c fun hfree => nomatch hfree
  | represent c => exact Calls.marksOk.setCtx hv c fun hfree => nomatch hfree
  | @answer _ v c =>
    refine Calls.marksOk.setCtx (v := v.useLeg _) ?_ c fun hfree => nomatch hfree
    simpa [Calls.marksOk] using hv
  | hold c => exact hv.setCtx c fun hfree => nomatch hfree
  | retrieve c => exact hv.setCtx c fun hfree => nomatch hfree
  | @join _ v c => exact Calls.marksOk.setCtx (v := v.setChan _ _ _) hv c id
  | leave c => exact hv.setCtx c id
  | @stop _ v c => exact Calls.marksOk.setCtx (v := v.leave c) hv c fun hfree => nomatch hfree
  | @free _ v c =>
    refine ⟨hv.1.filter _, fun d hd => ?_⟩
    simp only [Calls.dropMarks_ctx, Calls.setCtx_ctx, Calls.leave_ctx] at hd
    simp only [Calls.dropMarks_marks, Calls.setCtx_marks, Calls.leave_marks, List.mem_filter]
    split_ifs at hd with he
    · simp [he]
    · exact ⟨fun h9 => (hv.2 d hd).1 h9.1, fun h10 => (hv.2 d hd).2 h10.1⟩
  | empty | block => exact hv
  | mark m h =>
    refine ⟨sorted_insertMark m _ hv.1, fun d hd => ?_⟩
    simp only [mem_insertMark, not_or]
    exact ⟨⟨fun he => h d (.inl he.symm) hd, (hv.2 d hd).1⟩, fun he => h d (.inr he.symm) hd, (hv.2 d hd).2⟩
  | unmark p =>
    exact ⟨hv.1.filter _, fun d hd =>
      ⟨fun h9 => (hv.2 d hd).1 (List.mem_of_mem_filter h9), fun h10 => (hv.2 d hd).2 (List.mem_of_mem_filter h10)⟩⟩
  | settle _ _ _ _ ih => exact ih hv

end Sys2Proof.CallContexts
end

section
/-! The channel accounting of R132 through every move of the call manager. -/

namespace Sys2Proof.CallContexts

open Sys2Proof Sys2Proof.Machine

namespace Calls

variable {v w : Calls} {owed : Trunk → ChanId → Prop}

theorem channelsOk.mono {owed' : Trunk → ChanId → Prop} (h : v.channelsOk owed) (hle : ∀ k n, owed k n → owed' k n) :
    v.channelsOk owed' := by
  obtain ⟨hprimary, hsecond, hapart, htaken⟩ := h
  exact ⟨hprimary, hsecond, hapart, fun k n hst => (htaken k n hst).imp_left (hle k n)⟩

/-- A leg's channel is taken. -/
theorem channelsOk.taken (h : v.channelsOk owed) {c : CtxId} {g : Leg} (hg : (v.ctx c).hasLeg g) :
    v.chan g.trunk g.chan = .reserved ∨ v.chan g.trunk g.chan = .inUse := by
  obtain ⟨hprimary, hsecond, -, -⟩ := h
  rcases hg with hg | hg
  · rw [hprimary c g hg]
    split_ifs <;> simp
  · exact .inr (hsecond c g hg).1

/-- Legs and channels as they were, and no leg's context into OFFERED or out of it. -/
theorem channelsOk.congr (h : v.channelsOk owed) (hchan : ∀ k n, w.chan k n = v.chan k n)
    (hprimary : ∀ d, (w.ctx d).primary = (v.ctx d).primary) (hsecond : ∀ d, (w.ctx d).second = (v.ctx d).second)
    (hst : ∀ d, (v.ctx d).primary ≠ none → ((w.ctx d).state = .offered ↔ (v.ctx d).state = .offered)) :
    w.channelsOk owed := by
  obtain ⟨hfirst, hnext, hapart, htaken⟩ := h
  simp only [channelsOk, Ctx.hasLeg, hprimary, hsecond, hchan] at hfirst hnext hapart htaken ⊢
  refine ⟨fun c g hg => ?_, hnext, hapart, htaken⟩
  rw [hfirst c g hg]
  simp only [hst c (by rw [hg]; nofun)]

/-- The same where one context alone changes. -/
theorem channelsOk.setCtx (h : v.channelsOk owed) (c : CtxId) {x : Ctx} (hprimary : x.primary = (v.ctx c).primary)
    (hsecond : x.second = (v.ctx c).second)
    (hst : (v.ctx c).primary ≠ none → (x.state = .offered ↔ (v.ctx c).state = .offered)) :
    (v.setCtx c x).channelsOk owed := by
  refine h.congr (fun _ _ => rfl) (fun d => ?_) (fun d => ?_) (fun d => ?_) <;> rw [setCtx_ctx] <;> split_ifs with hd
  · rw [hd, hprimary]
  · rfl
  · rw [hd, hsecond]
  · rfl
  · exact fun hp => by rw [hd] at hp ⊢; exact hst hp
  · exact fun _ => Iff.rfl

/-- A context drops legs whose channels are owed to their pools. -/
theorem channelsOk.drop (h : v.channelsOk owed) (c : CtxId) {x : Ctx}
    (hprimary : x.primary = none ∨ x.primary = (v.ctx c).primary ∧ (x.state = .offered ↔ (v.ctx c).state = .offered))
    (hsecond : x.second = none) (howed : ∀ g, (v.ctx c).hasLeg g → x.primary = some g ∨ owed g.trunk g.chan) :
    (v.setCtx c x).channelsOk owed := by
  obtain ⟨hfirst, hnext, hapart, htaken⟩ := h
  have hsub (d : CtxId) (g : Leg) (hg : ((v.setCtx c x).ctx d).hasLeg g) : (v.ctx d).hasLeg g := by
    rw [setCtx_ctx] at hg
    split_ifs at hg with hd
    · rcases hg with hg | hg
      · rcases hprimary with hp | ⟨hp, -⟩
        · rw [hp] at hg; cases hg
        · exact hd ▸ .inl (hp ▸ hg)
      · rw [hsecond] at hg; cases hg
    · exact hg
  refine ⟨fun d g hg => ?_, fun d g hg => ?_, fun d e g hne hd he => hapart d e g hne (hsub d g hd) (hsub e g he),
    fun k n hst => ?_⟩
  · rw [setCtx_chan]
    rw [setCtx_ctx] at hg ⊢
    split_ifs at hg ⊢ with hd hoff
    · rcases hprimary with hp | ⟨hp, hiff⟩
      · rw [hp] at hg; cases hg
      · rw [hfirst c g (hp ▸ hg), if_pos (hiff.mp hoff)]
    · rcases hprimary with hp | ⟨hp, hiff⟩
      · rw [hp] at hg; cases hg
      · rw [hfirst c g (hp ▸ hg), if_neg (fun ho => hoff (hiff.mpr ho))]
    · rw [hfirst d g hg, if_pos ‹_›]
    · rw [hfirst d g hg, if_neg ‹_›]
  · rw [setCtx_ctx] at hg
    split_ifs at hg with hd
    · rw [hsecond] at hg; cases hg
    · rw [setCtx_chan, setCtx_ctx, if_neg hd]
      exact hnext d g hg
  · rcases htaken k n hst with ho | ⟨d, hd⟩
    · exact .inl ho
    · by_cases hdc : d = c
      · subst hdc
        rcases howed _ hd with hx | ho
        · exact .inr ⟨d, .inl (by rw [setCtx_ctx, if_pos rfl, hx])⟩
        · exact .inl ho
      · exact .inr ⟨d, by rwa [setCtx_ctx, if_neg hdc]⟩

/-- A context takes a free channel as its leg, in the state its rules give: it keeps the legs it has. -/
theorem channelsOk.take (h : v.channelsOk owed) (c : CtxId) {x : Ctx} {g : Leg} {st : ChanState}
    (hfree : v.chan g.trunk g.chan = .free) (hlegs : ∀ d, x.hasLeg d ↔ d = g ∨ (v.ctx c).hasLeg d)
    (hfirst : ∀ d, x.primary = some d →
      (d = g ∧ st = if x.state = .offered then .reserved else .inUse) ∨
      ((v.ctx c).primary = some d ∧ (x.state = .offered ↔ (v.ctx c).state = .offered)))
    (hnext : ∀ d, x.second = some d → d = g ∧ st = .inUse ∧ x.primary ≠ some g) :
    ((v.setChan g.trunk g.chan st).setCtx c x).channelsOk owed := by
  have hother (d : CtxId) (e : Leg) (he : (v.ctx d).hasLeg e) : ¬ (e.trunk = g.trunk ∧ e.chan = g.chan) := fun heq => by
    have htaken := h.taken he
    rw [heq.1, heq.2, hfree] at htaken
    simp at htaken
  have hne (d : CtxId) : ¬ (v.ctx d).hasLeg g := fun hd => hother d g hd ⟨rfl, rfl⟩
  obtain ⟨hprimary, hsecond, hapart, htaken⟩ := h
  simp only [channelsOk, setCtx_ctx, setCtx_chan, setChan_chan, setChan_ctx]
  refine ⟨fun d e he => ?_, fun d e he => ?_, fun d e f hde hd he => ?_, fun k n hst => ?_⟩
  · by_cases hd : d = c
    · simp only [if_pos hd] at he ⊢
      rcases hfirst e he with ⟨rfl, hst⟩ | ⟨hold, hiff⟩
      · rw [if_pos ⟨rfl, rfl⟩, hst]
      · rw [if_neg (hother c e (.inl hold)), hprimary c e hold]
        simp only [hiff]
    · simp only [if_neg hd] at he ⊢
      rw [if_neg (hother d e (.inl he)), hprimary d e he]
  · by_cases hd : d = c
    · simp only [if_pos hd] at he ⊢
      obtain ⟨rfl, hst, hp⟩ := hnext e he
      exact ⟨by rw [if_pos ⟨rfl, rfl⟩, hst], hp⟩
    · simp only [if_neg hd] at he ⊢
      rw [if_neg (hother d e (.inr he))]
      exact hsecond d e he
  · by_cases hd' : d = c <;> by_cases he' : e = c <;> simp only [hd', he', if_true, if_false] at hd he
    · exact hde (hd'.trans he'.symm)
    · rcases (hlegs f).mp hd with rfl | hc
      · exact hne e he
      · exact hapart c e f (Ne.symm he') hc he
    · rcases (hlegs f).mp he with rfl | hc
      · exact hne d hd
      · exact hapart d c f hd' hd hc
    · exact hapart d e f hde hd he
  · split_ifs at hst with hkn
    · exact .inr ⟨c, by rw [if_pos rfl, hlegs]; exact .inl (by rw [hkn.1, hkn.2])⟩
    · rcases htaken k n hst with ho | ⟨d, hd⟩
      · exact .inl ho
      · refine .inr ⟨d, ?_⟩
        split_ifs with hdc
        · exact (hlegs _).mpr (.inr (hdc ▸ hd))
        · exact hd

/-- The channel of an OFFERED context's leg turned IN-USE as the context leaves OFFERED. -/
theorem channelsOk.answer (h : v.channelsOk owed) (c : CtxId) {x : Ctx} {g : Leg}
    (hx : x.state ≠ .offered) (hold : (v.ctx c).primary = some g) (hprimary : x.primary = some g)
    (hsecond : (v.ctx c).second = none) (hxsecond : x.second = none) :
    ((v.setChan g.trunk g.chan .inUse).setCtx c x).channelsOk owed := by
  obtain ⟨hfirst, hnext, hapart, htaken⟩ := h
  have hlegs (d : Leg) : x.hasLeg d ↔ (v.ctx c).hasLeg d := by simp only [Ctx.hasLeg, hold, hprimary, hsecond, hxsecond]
  have hother (d : CtxId) (e : Leg) (hd : d ≠ c) (he : (v.ctx d).hasLeg e) : ¬ (e.trunk = g.trunk ∧ e.chan = g.chan) :=
    fun heq => hapart d c g hd ((show e = g by cases e; cases g; simp_all) ▸ he) (.inl hold)
  simp only [channelsOk, setCtx_ctx, setCtx_chan, setChan_chan, setChan_ctx]
  refine ⟨fun d e he => ?_, fun d e he => ?_, fun d e f hde hd he => ?_, fun k n hk => ?_⟩
  · by_cases hd : d = c
    · simp only [if_pos hd] at he ⊢
      obtain rfl : g = e := Option.some.inj (hprimary ▸ he)
      rw [if_pos ⟨rfl, rfl⟩, if_neg hx]
    · simp only [if_neg hd] at he ⊢
      rw [if_neg (hother d e hd (.inl he)), hfirst d e he]
  · by_cases hd : d = c
    · simp only [if_pos hd, hxsecond, reduceCtorEq] at he
    · simp only [if_neg hd] at he ⊢
      rw [if_neg (hother d e hd (.inr he))]
      exact hnext d e he
  · refine hapart d e f hde ?_ ?_
    · split_ifs at hd with hd'
      · exact hd' ▸ (hlegs f).mp hd
      · exact hd
    · split_ifs at he with he'
      · exact he' ▸ (hlegs f).mp he
      · exact he
  · have hold' : owed k n ∨ ∃ d, (v.ctx d).hasLeg ⟨k, n⟩ := by
      split_ifs at hk with hkn
      · exact .inr ⟨c, .inl (by rw [hold, hkn.1, hkn.2])⟩
      · exact htaken k n hk
    refine hold'.imp_right fun ⟨d, hd⟩ => ⟨d, ?_⟩
    split_ifs with hdc
    · exact (hlegs _).mpr (hdc ▸ hd)
    · exact hd

/-- A FREE or BLOCKED channel made the other. -/
theorem channelsOk.block (h : v.channelsOk owed) {k : Trunk} {n : ChanId} {st : ChanState}
    (hold : v.chan k n = .free ∨ v.chan k n = .blocked) (hnew : st = .free ∨ st = .blocked) :
    (v.setChan k n st).channelsOk owed := by
  have hother (d : CtxId) (e : Leg) (he : (v.ctx d).hasLeg e) : ¬ (e.trunk = k ∧ e.chan = n) := fun heq => by
    have htaken := h.taken he
    rw [heq.1, heq.2] at htaken
    rcases hold with hold | hold <;> simp [hold] at htaken
  obtain ⟨hprimary, hsecond, hapart, htaken⟩ := h
  simp only [channelsOk, setChan_chan, setChan_ctx]
  refine ⟨fun d e he => ?_, fun d e he => ?_, hapart, fun j m hst => ?_⟩
  · rw [if_neg (hother d e (.inl he))]
    exact hprimary d e he
  · rw [if_neg (hother d e (.inr he))]
    exact hsecond d e he
  · split_ifs at hst with hjm
    · rcases hnew with hnew | hnew <;> simp [hnew] at hst
    · exact htaken j m hst

/-- Channels that are no one's legs have been freed, and are owed no more. -/
theorem channelsOk.settle {extra : Trunk → ChanId → Prop} {p : Trunk → Vector ChanState 15}
    (h : v.channelsOk (fun k n => owed k n ∨ extra k n)) (hlegs : ∀ c g, (v.ctx c).hasLeg g → ¬ extra g.trunk g.chan)
    (hkept : ∀ k (n : ChanId), ¬ extra k n → (p k)[n] = v.chan k n)
    (hfreed : ∀ k (n : ChanId), extra k n → (p k)[n] ≠ .reserved ∧ (p k)[n] ≠ .inUse) :
    channelsOk { v with pools := p } owed := by
  obtain ⟨hprimary, hsecond, hapart, htaken⟩ := h
  refine ⟨fun c g hg => ?_, fun c g hg => ?_, hapart, fun k n hst => ?_⟩
  · exact (hkept _ _ (hlegs c g (.inl hg))).trans (hprimary c g hg)
  · obtain ⟨hst, hne⟩ := hsecond c g hg
    exact ⟨(hkept _ _ (hlegs c g (.inr hg))).trans hst, hne⟩
  · have hnot : ¬ extra k n := fun hx => by
      obtain ⟨hr, hu⟩ := hfreed k n hx
      exact hst.elim hr hu
    have hst' := hst
    rw [show chan { v with pools := p } k n = v.chan k n from hkept k n hnot] at hst'
    exact (htaken k n hst').imp_left fun ho => ho.resolve_right hnot

end Calls

theorem Moves.channelsOk {owed : Trunk → ChanId → Prop} {v w : Calls} (h : Moves owed v w) (hok : v.contextsOk)
    (hv : v.channelsOk owed) : w.channelsOk owed := by
  induction h with
  | refl => exact hv
  | trans h _ ih ih' => exact ih' (h.contextsOk hok) (ih hok hv)
  | goOn c hx =>
    obtain ⟨hcore, -⟩ := hx
    simp only [coreOf, Prod.mk.injEq] at hcore
    obtain ⟨hst, -, -, -, -, -, hprimary, hsecond, -⟩ := hcore
    exact hv.setCtx c hprimary hsecond fun _ => by rw [hst]
  | @renumber _ v f hf contexts h =>
    have hctx (d : CtxId) : Calls.ctx { v with contexts := contexts } d = renumbered f (v.ctx d) := h d
    refine hv.congr (fun _ _ => rfl) (fun d => ?_) (fun d => ?_) (fun d _ => ?_) <;> rw [hctx]
    · exact renumbered_primary f _
    · exact renumbered_second f _
    · rw [renumbered_state]
  | register c _ _ _ _ _ _ _ hst =>
    have hc := hok c
    simp only [Ctx.agrees, hst] at hc
    obtain ⟨-, -, -, hprimary, hsecond, -, -⟩ := hc
    exact Calls.channelsOk.setCtx hv c hprimary.symm hsecond.symm fun hp => absurd hprimary hp
  | offer c place target ch gen ref frames hst _ hch =>
    have hc := hok c
    simp only [Ctx.agrees, hst] at hc
    obtain ⟨-, -, -, hprimary, hsecond, -, -⟩ := hc
    refine Calls.channelsOk.take (g := ⟨target.trunk, ch⟩) hv c hch (fun d => ?_) (fun d hd => ?_) (fun d hd => ?_)
    · simp [Ctx.hasLeg, hprimary, hsecond, eq_comm]
    · exact .inl ⟨(Option.some.inj hd).symm, rfl⟩
    · exact absurd (hsecond.symm.trans hd) nofun
  | requeue c _ hst howed =>
    have hc := hok c
    simp only [Ctx.agrees, hst] at hc
    obtain ⟨-, -, -, -, hsecond, -⟩ := hc
    exact hv.drop c (.inl rfl) hsecond fun g hg => .inr (howed hok g hg)
  | represent c _ _ hst howed => exact hv.drop c (.inl rfl) rfl fun g hg => .inr (howed hok g hg)
  | @answer _ v c desk hst =>
    have hc := hok c
    simp only [Ctx.agrees, hst] at hc
    obtain ⟨-, -, -, -, hsecond, p, -, g, hprimary, -⟩ := hc
    have hanswer := Calls.channelsOk.answer hv c (x := { v.ctx c with
      state := .connected, offerTimer := .stopped, desk := some desk }) (by simp) hprimary hprimary hsecond hsecond
    have huse : v.useLeg (v.ctx c).primary = v.setChan g.trunk g.chan .inUse := by rw [hprimary]; rfl
    rw [huse]
    exact hanswer
  | hold c hst => exact hv.setCtx c rfl rfl fun _ => by simp [hst]
  | retrieve c hst => exact hv.setCtx c rfl rfl fun _ => by simp [hst]
  | @join _ v c g n hst hsecond hprimary hch =>
    refine Calls.channelsOk.take (g := ⟨g.trunk, n⟩) hv c hch (fun d => ?_) (fun d hd => ?_) (fun d hd => ?_)
    · simp only [Ctx.hasLeg, hsecond, Option.some.injEq, reduceCtorEq, or_false]
      rw [or_comm, eq_comm (a := d)]
    · exact .inr ⟨hd, Iff.rfl⟩
    · refine ⟨(Option.some.inj hd).symm, rfl, fun hp => ?_⟩
      have htaken := hv.taken (c := c) (.inl hp)
      simp [hch] at htaken
  | @leave _ v c hst howed =>
    refine hv.drop c (.inr ⟨rfl, Iff.rfl⟩) rfl fun g hg => ?_
    exact hg.imp id (howed g)
  | stop c cause howed => exact Calls.channelsOk.drop hv c (.inl rfl) rfl fun g hg => .inr (howed g hg)
  | free c hst =>
    have hc := hok c
    simp only [Ctx.agrees, hst] at hc
    obtain ⟨-, -, -, hprimary, hsecond⟩ := hc
    exact Calls.channelsOk.setCtx hv c rfl rfl fun hp => absurd hprimary hp
  | empty | mark | unmark => exact hv
  | block k n st hold hnew => exact hv.block hold hnew
  | settle h hlegs hkept hfreed ih =>
    exact Calls.channelsOk.settle (ih hok (hv.mono fun _ _ => .inl)) (hlegs hok hv) hkept hfreed

end Sys2Proof.CallContexts
end

section
/-! The operations of the call manager (04, 05) as moves. -/

namespace Sys2Proof.CallContexts

open Sys2Proof Sys2Proof.Machine
open Sys2Proof.PostDirectory (modCtx_ctx_eq stopCall_ctx stopCall_chan freeCtx_ctx setChan_chan_eq freeLeg_chan mem_ctxsOn
  nodup_ctxsOn)

/-- The calls move from those of one state to those of another. -/
abbrev Moving (owed : Trunk → ChanId → Prop) (s t : State) : Prop := Moves owed (callsOf s) (callsOf t)

section
variable {owed : Trunk → ChanId → Prop}

/-! ### How the operations of the state show in the calls -/

theorem callsOf_congr {s t : State} (hc : t.contexts = s.contexts) (hw : t.waiting = s.waiting) (hm : t.marks = s.marks)
    (hp : ∀ k, poolOf (t.trunk k) = poolOf (s.trunk k)) : callsOf t = callsOf s :=
  Calls.ext hc hw hm (funext hp)

theorem callsOf_ctx (s : State) (c : CtxId) : (callsOf s).ctx c = s.ctx c := rfl

theorem callsOf_chan (s : State) (k : Trunk) (n : ChanId) : (callsOf s).chan k n = (s.chan k n).st := poolOf_getElem s k n

theorem Moving.of_eq {s t : State} (h : callsOf t = callsOf s) : Moving owed s t := by
  rw [Moving, h]
  exact .refl _ _

section
variable (s : State)

@[simp] theorem setCtx_contexts (c : CtxId) (x : Ctx) : (s.setCtx c x).contexts = s.contexts.set c x := rfl

@[simp] theorem callsOf_setCtx (c : CtxId) (x : Ctx) : callsOf (s.setCtx c x) = (callsOf s).setCtx c x := by
  simp [callsOf, Calls.setCtx]

@[simp] theorem callsOf_modCtx (c : CtxId) (f : Ctx → Ctx) : callsOf (s.modCtx c f) = (callsOf s).setCtx c (f (s.ctx c)) :=
  callsOf_setCtx s c _

@[simp] theorem callsOf_enterWaiting (c : CtxId) : callsOf (s.enterWaiting c) = (callsOf s).enter c := by
  apply Calls.ext
  · simp [callsOf, Calls.enter]
  · rfl
  · simp [callsOf, Calls.enter]
  · simp [callsOf, Calls.enter]

@[simp] theorem callsOf_leaveWaiting (c : CtxId) : callsOf (s.leaveWaiting c) = (callsOf s).leave c := by
  apply Calls.ext
  · simp [callsOf, Calls.leave]
  · rfl
  · simp [callsOf, Calls.leave]
  · simp [callsOf, Calls.leave]

@[simp] theorem callsOf_dropCtxMarks (c : CtxId) : callsOf (s.dropCtxMarks c) = (callsOf s).dropMarks c := by
  apply Calls.ext
  · simp [callsOf, Calls.dropMarks]
  · simp [callsOf, Calls.dropMarks]
  · rfl
  · simp [callsOf, Calls.dropMarks]

@[simp] theorem callsOf_setChan (k : Trunk) (n : ChanId) (x : Channel) :
    callsOf (s.setChan k n x) = (callsOf s).setChan k n x.st := by
  refine Calls.ext (by simp [callsOf, Calls.setChan]) (by simp [callsOf, Calls.setChan])
    (by simp [callsOf, Calls.setChan]) (funext fun j => Vector.ext fun i hi => ?_)
  have hleft := callsOf_chan (s.setChan k n x) j ⟨i, hi⟩
  have hright := Calls.setChan_chan (callsOf s) k j n ⟨i, hi⟩ x.st
  rw [setChan_chan_eq, apply_ite Channel.st] at hleft
  rw [callsOf_chan] at hright
  simp only [Calls.chan] at hleft hright
  simp only [eq_comm (a := k), eq_comm (a := n)] at hleft
  exact hleft.trans hright.symm

@[simp] theorem callsOf_take (i : Instr) : callsOf (s.take i) = callsOf s := by simp [callsOf]
@[simp] theorem callsOf_hand (i : Instr) : callsOf (s.hand i) = callsOf s := by simp [callsOf]
@[simp] theorem callsOf_raise (x : Raise) : callsOf (s.raise x) = callsOf s := by simp [callsOf]
@[simp] theorem callsOf_latch (x : Latch) : callsOf (s.latch x) = callsOf s := by simp [callsOf]
@[simp] theorem callsOf_handIf (b : Bool) (i : Instr) : callsOf (s.handIf b i) = callsOf s := by simp [callsOf]
@[simp] theorem callsOf_setLampAt (l : LoopId) (pos : Nat) (lamp : Lamp) : callsOf (s.setLampAt l pos lamp) = callsOf s := by
  simp [callsOf]
@[simp] theorem callsOf_setLamp (c : CtxId) (lamp : Lamp) : callsOf (s.setLamp c lamp) = callsOf s := by simp [callsOf]
@[simp] theorem callsOf_setAck (l : LoopId) (pos : Nat) : callsOf (s.setAck l pos) = callsOf s := by simp [callsOf]
@[simp] theorem callsOf_withdrawAck (c : CtxId) : callsOf (s.withdrawAck c) = callsOf s := by simp [callsOf]
@[simp] theorem callsOf_releaseHeld (c : CtxId) : callsOf (s.releaseHeld c) = callsOf s := by simp [callsOf]
@[simp] theorem callsOf_assignBearer (l : LoopId) (pos : Nat) (b : BearerId) :
    callsOf (s.assignBearer l pos b) = callsOf s := by
  simp [callsOf]
@[simp] theorem callsOf_refuseClass (l : LoopId) (pos : Nat) (tie : Tie) : callsOf (s.refuseClass l pos tie) = callsOf s := by
  simp [callsOf]
@[simp] theorem callsOf_setPath (c : CtxId) (x : Path) : callsOf (s.setPath c x) = callsOf s := by simp [callsOf]
@[simp] theorem callsOf_startPlayer (c : CtxId) (p : Programme) : callsOf (s.startPlayer c p) = callsOf s := by
  simp [callsOf]
@[simp] theorem callsOf_stopPlayer (c : CtxId) : callsOf (s.stopPlayer c) = callsOf s := by simp [callsOf]
@[simp] theorem callsOf_pushSig (t : Trunk) (m : SigMsg) : callsOf (s.pushSig t m) = callsOf s := by simp [callsOf]
@[simp] theorem callsOf_sendCleared (c : CtxId) (cause : Cause) : callsOf (s.sendCleared c cause) = callsOf s := by
  simp [callsOf]
@[simp] theorem callsOf_sendIfCarried (c : CtxId) (cause : Cause) : callsOf (s.sendIfCarried c cause) = callsOf s := by
  simp [callsOf]
@[simp] theorem callsOf_deskOk (t : Trunk) (ref : OfferRef) (request : Byte) :
    callsOf (s.deskOk t ref request) = callsOf s := by
  simp [callsOf]
@[simp] theorem callsOf_confirm (t : Trunk) (ref : OfferRef) (request : Byte) (result : DeskResult) (chan : Nat) :
    callsOf (s.confirm t ref request result chan) = callsOf s := by
  simp [callsOf]
@[simp] theorem callsOf_wrongState (t : Trunk) (ref : OfferRef) (request : Byte) :
    callsOf (s.wrongState t ref request) = callsOf s := by
  simp [callsOf]
@[simp] theorem callsOf_answerGone (t : Trunk) (ref : OfferRef) (request : Byte) :
    callsOf (s.answerGone t ref request) = callsOf s := by
  simp [callsOf]

@[simp] theorem callsOf_answerLeg (g : Option Leg) : callsOf (s.answerLeg g) = (callsOf s).useLeg g := by
  cases g with
  | none => rfl
  | some g => exact callsOf_setChan s _ _ _

/-! ### Moves that the operations share -/

/-- A change of a context that leaves what the invariants speak of. -/
theorem modCtx_moving (c : CtxId) {f : Ctx → Ctx} (hcore : coreOf (f (s.ctx c)) = coreOf (s.ctx c))
    (hretry : (f (s.ctx c)).retryTimer = (s.ctx c).retryTimer) : Moving owed s (s.modCtx c f) := by
  rw [Moving, callsOf_modCtx]
  exact .goOn c ⟨hcore, fun h => .inl (by rwa [hretry] at h)⟩

/-- A fold of moves. -/
theorem foldl_moving {α : Type} {f : State → α → State} (hf : ∀ s a, Moving owed s (f s a)) (xs : List α) (s : State) :
    Moving owed s (xs.foldl f s) := by
  induction xs generalizing s with
  | nil => exact .refl _ _
  | cons a xs ih => exact (hf s a).trans (ih _)

theorem entriesBelow_monotone : Monotone s.entriesBelow := fun a b hab => by
  have hfilter (n : Nat) : s.entriesBelow n = allCtxs.countP (fun c => (s.ctx c).state != .free && (s.ctx c).entryNo < n) :=
    List.countP_eq_length_filter.symm
  rw [hfilter, hfilter]
  refine List.countP_mono_left fun c _ h => ?_
  simp only [Bool.and_eq_true, decide_eq_true_eq] at h ⊢
  exact ⟨h.1, by omega⟩

theorem renumber_ctx (d : CtxId) : s.renumber.ctx d = renumbered s.entriesBelow (s.ctx d) := by
  simp only [State.renumber, State.ctx, tabulate, Fin.getElem_fin, Vector.getElem_ofFn]
  rfl

theorem renumber_moving : Moving owed s s.renumber := by
  have hcalls : callsOf s.renumber = { callsOf s with contexts := s.renumber.contexts } := by
    simp [callsOf]
  rw [Moving, hcalls]
  exact .renumber (entriesBelow_monotone s) _ (renumber_ctx s)

theorem callsOf_entryCount (n : Nat) : callsOf { s with entryCount := n } = callsOf s :=
  callsOf_congr rfl rfl rfl fun k => by cases k <;> rfl

theorem countEntry_moving : Moving owed s s.countEntry := by
  unfold State.countEntry
  dsimp only
  split_ifs
  · exact (renumber_moving s).trans (Moving.of_eq (callsOf_entryCount _ _))
  · exact Moving.of_eq (callsOf_entryCount _ _)

/-! ### Dispatch (R93 to R97) -/

theorem takePlan_moving (c : CtxId) : Moving owed s (s.takePlan c) := by
  unfold State.takePlan
  split_ifs
  · exact .refl _ _
  · exact modCtx_moving s c rfl rfl

theorem takePlan_state (c d : CtxId) : ((s.takePlan c).ctx d).state = (s.ctx d).state := by
  unfold State.takePlan
  split_ifs
  · rfl
  · rw [modCtx_ctx_eq]
    split_ifs <;> rfl

theorem takePlan_retryTimer (c d : CtxId) : ((s.takePlan c).ctx d).retryTimer = (s.ctx d).retryTimer := by
  unfold State.takePlan
  split_ifs
  · rfl
  · rw [modCtx_ctx_eq]
    split_ifs <;> rfl

theorem exhaust_moving {c : CtxId} (hst : (s.ctx c).state = .queued) : Moving owed s (s.exhaust c) := by
  rw [Moving, State.exhaust, callsOf_raise, callsOf_modCtx]
  exact .goOn c ⟨rfl, fun _ => .inr hst⟩

theorem makeOffer_moving {c : CtxId} (place : Nat) (target : Target) {ch : ChanId} (hst : (s.ctx c).state = .queued)
    (hretry : (s.ctx c).retryTimer.isRunning = false) (hch : (s.chan target.trunk ch).st = .free) :
    Moving owed s (s.makeOffer c place target ch) := by
  rw [Moving, State.makeOffer]
  simp only [callsOf_setLamp, callsOf_pushSig, callsOf_modCtx, callsOf_setChan, State.setChan_ctx]
  exact .offer c place target ch _ _ _ hst hretry ((callsOf_chan _ _ _).trans hch)

theorem eligible_iff (c : CtxId) : s.eligible c = true ↔ (s.ctx c).state = .queued ∧ (s.ctx c).liveSeen ∧
    s.bearerLive c ∧ (s.ctx c).retryTimer.isRunning = false := by
  simp [State.eligible, and_assoc]

theorem freeChannel_st {t : Trunk} {ch : ChanId} (h : s.freeChannel t = some ch) : (s.chan t ch).st = .free := by
  simpa using List.find?_some h

theorem dispatchOne_moving (c : CtxId) : Moving owed s (s.dispatchOne c) := by
  unfold State.dispatchOne
  split_ifs with he
  · obtain ⟨hst, -, -, hretry⟩ := (eligible_iff s c).mp he
    have hplan := takePlan_moving (owed := owed) s c
    rw [← takePlan_state s c c] at hst
    rw [← takePlan_retryTimer s c c] at hretry
    dsimp only
    split
    · exact hplan.trans (exhaust_moving _ hst)
    · exact hplan
    next place target _ =>
      split_ifs
      · split
        next ch hch => exact hplan.trans (makeOffer_moving _ place target hst hretry (freeChannel_st _ hch))
        next => exact hplan
      · exact hplan
  · exact .refl _ _

theorem dispatch_moving : Moving owed s s.dispatch := foldl_moving (fun u c => dispatchOne_moving u c) _ _

/-! ### The level monitor (R145 to R148) -/

theorem judgeBlock_moving (c : CtxId) : Moving owed s (s.judgeBlock c) := by
  have hlevel (level : Nat) : Moving owed s ((s.setPath c ⟨0, 0⟩).modCtx c (fun x => { x with lastLevel := level })) := by
    simpa [Moving] using modCtx_moving (owed := owed) (s.setPath c ⟨0, 0⟩) c (f := fun x => { x with lastLevel := level })
      rfl rfl
  unfold State.judgeBlock
  dsimp only
  split_ifs
  · rw [Moving, callsOf_raise]
    exact ((hlevel _).trans (modCtx_moving _ c rfl rfl)).trans (modCtx_moving _ c rfl rfl)
  · exact (hlevel _).trans (modCtx_moving _ c rfl rfl)
  · exact (hlevel _).trans (modCtx_moving _ c rfl rfl)

theorem catchBlock_moving (c : CtxId) : Moving owed s (s.catchBlock c) := by
  unfold State.catchBlock
  split_ifs
  · simpa [Moving] using judgeBlock_moving (owed := owed) (s.take _) c
  · exact .refl _ _

theorem judgeDue_moving (c : CtxId) : Moving owed s (s.judgeDue c) := by
  unfold State.judgeDue
  split_ifs
  · exact judgeBlock_moving s c
  · exact .refl _ _

theorem startMonitor_moving (c : CtxId) : Moving owed s (s.startMonitor c) := by
  simpa [Moving, State.startMonitor] using modCtx_moving (owed := owed) (s.setPath c ⟨0, 0⟩) c
    (f := fun x => { x with lastLevel := 0, silentRun := 0, silentNotified := false }) rfl rfl

theorem judgeBlock_core (c d : CtxId) : coreOf ((s.judgeBlock c).ctx d) = coreOf (s.ctx d) := by
  unfold State.judgeBlock
  dsimp only
  split_ifs <;> simp only [State.raise_ctx, modCtx_ctx_eq, State.setPath_ctx] <;> split_ifs <;> rfl

theorem catchBlock_core (c d : CtxId) : coreOf ((s.catchBlock c).ctx d) = coreOf (s.ctx d) := by
  unfold State.catchBlock
  split_ifs
  · rw [judgeBlock_core, State.take_ctx]
  · rfl

theorem catchBlock_state (c d : CtxId) : ((s.catchBlock c).ctx d).state = (s.ctx d).state :=
  congrArg Prod.fst (catchBlock_core s c d)

end
end

end Sys2Proof.CallContexts
end

section
/-! Clearing, bearers handed on and failover (04, 05) as moves of the call manager. -/

namespace Sys2Proof.CallContexts

open Sys2Proof Sys2Proof.Machine
open Sys2Proof.PostDirectory (modCtx_ctx_eq stopCall_ctx stopCall_chan freeCtx_ctx setChan_chan_eq freeLeg_chan mem_ctxsOn
  nodup_ctxsOn)

section
variable {owed : Trunk → ChanId → Prop}

/-! ### Legs dropped and their channels freed -/

/-- A move that drops legs, with the channels of the legs freed. -/
theorem Moving.withFreed {extra : Trunk → ChanId → Prop} {s t : State} {w : Calls}
    (h : Moves (fun k n => owed k n ∨ extra k n) (callsOf s) w)
    (hlegs : (callsOf s).contextsOk → (callsOf s).channelsOk owed → ∀ d g, (w.ctx d).hasLeg g → ¬ extra g.trunk g.chan)
    (hcalls : callsOf t = { w with pools := fun k => poolOf (t.trunk k) }) (hpools : w.pools = (callsOf s).pools)
    (hfreed : ∀ k n, extra k n → t.chan k n = (s.chan k n).release)
    (hkept : ∀ k n, ¬ extra k n → t.chan k n = s.chan k n) : Moving owed s t := by
  rw [Moving, hcalls]
  refine .settle h hlegs (fun k n hn => ?_) (fun k n hn => ?_)
  · rw [poolOf_getElem, hkept k n hn, Calls.chan, hpools, ← poolOf_getElem]
    rfl
  · rw [poolOf_getElem, hfreed k n hn]
    rcases Channel.release_st (s.chan k n) with hst | hst <;> simp [hst]

theorem Calls.channelsOk.apart {v : Calls} (h : v.channelsOk owed) {c d : CtxId} {g : Leg} (hd : (v.ctx d).hasLeg g)
    (hne : d ≠ c) : ¬ (v.ctx c).hasLeg g := by
  obtain ⟨-, -, hapart, -⟩ := h
  exact hapart d c g hne hd

section
variable (s : State)

theorem callsOf_freeLegs_clearFields (c : CtxId) (g g' : Option Leg) (cause : Cause) :
    callsOf ((((s.leaveWaiting c).freeLeg g).freeLeg g').clearFields c cause) =
      { ((callsOf s).leave c).setCtx c { s.ctx c with
          state := .clearing, offerTimer := .stopped, holdRunning := false, retryTimer := .stopped, primary := none
          second := none, cause := some cause } with
        pools := fun k => poolOf (((((s.leaveWaiting c).freeLeg g).freeLeg g').clearFields c cause).trunk k) } := by
  refine Calls.ext ?_ ?_ ?_ rfl
  · simp [callsOf, Calls.setCtx, Calls.leave, State.clearFields, State.modCtx_eq]
  · simp [callsOf, Calls.setCtx, Calls.leave, State.leaveWaiting]
  · simp [callsOf, Calls.setCtx, Calls.leave]

theorem stopCall_moving (c : CtxId) (cause : Cause) : Moving owed s (s.stopCall c cause) := by
  refine Moving.withFreed (extra := fun k n => (s.ctx c).hasLeg ⟨k, n⟩) (.stop c (some cause) fun g hg => .inr hg)
    (fun _ hchannels d g hd => ?_) ?_ rfl (fun k n hn => ?_) (fun k n hn => ?_)
  · rw [Calls.setCtx_ctx] at hd
    split_ifs at hd with he
    · exact absurd hd (by simp [Ctx.hasLeg])
    · exact hchannels.apart hd he
  · have hstop : callsOf (s.stopCall c cause) = callsOf ((((s.leaveWaiting c).freeLeg (s.ctx c).primary).freeLeg
        (s.ctx c).second).clearFields c cause) := callsOf_stopPlayer _ c
    rw [hstop, callsOf_freeLegs_clearFields]
    simp only [State.stopCall, State.stopPlayer_trunk]
    rfl
  · rw [stopCall_chan]; exact if_pos hn
  · rw [stopCall_chan]; exact if_neg hn

theorem freeCtx_moving {c : CtxId} (hst : (s.ctx c).state = .clearing) : Moving owed s (s.freeCtx c) := by
  rw [Moving, State.freeCtx]
  simp only [callsOf_dropCtxMarks, callsOf_stopPlayer, callsOf_modCtx, callsOf_leaveWaiting, State.leaveWaiting_ctx]
  exact .free c hst

/-! ### Clearing and release (R81 to R88) -/

theorem stopCall_state (c : CtxId) (cause : Cause) : ((s.stopCall c cause).ctx c).state = .clearing := by
  rw [stopCall_ctx, if_pos rfl]

theorem cleared_moving (c : CtxId) (cause : Cause) :
    Moving owed s (((s.stopCall c cause).setLamp c .cleared).releaseHeld c) := by
  simpa [Moving] using stopCall_moving (owed := owed) s c cause

theorem enterClearing_moving (c : CtxId) (cause : Cause) : Moving owed s (s.enterClearing c cause) := by
  unfold State.enterClearing
  dsimp only
  have hstop := (catchBlock_moving (owed := owed) s c).trans (cleared_moving _ c cause)
  split_ifs
  · refine hstop.trans (freeCtx_moving _ ?_)
    rw [State.releaseHeld_ctx, State.setLamp_ctx, stopCall_state]
  · exact hstop

theorem releaseToFree_moving (c : CtxId) (cause : Cause) : Moving owed s (s.releaseToFree c cause) := by
  refine (cleared_moving s c cause).trans (freeCtx_moving _ ?_)
  rw [State.releaseHeld_ctx, State.setLamp_ctx, stopCall_state]

theorem releaseByLoop_moving (c : CtxId) (cause : Cause) : Moving owed s (s.releaseByLoop c cause) := by
  unfold State.releaseByLoop
  split
  · exact .refl _ _
  next hst => simpa [Moving] using freeCtx_moving (owed := owed) (s.withdrawAck c) (c := c) (by simpa using hst)
  · simpa [Moving] using releaseToFree_moving (owed := owed) ((s.sendIfCarried c cause).withdrawAck c) c cause

theorem releaseLost_moving (c : CtxId) : Moving owed s (s.releaseLost c) := by
  unfold State.releaseLost
  split
  · exact .refl _ _
  next hst => exact freeCtx_moving s hst
  · have hstop : Moving owed s ((s.sendIfCarried c .postLost).stopCall c .postLost) := by
      simpa [Moving] using stopCall_moving (owed := owed) (s.sendIfCarried c .postLost) c .postLost
    exact hstop.trans (freeCtx_moving _ (stopCall_state _ _ _))

theorem releaseByRestart_moving (c : CtxId) : Moving owed s (s.releaseByRestart c) := by
  unfold State.releaseByRestart
  split
  · exact .refl _ _
  · exact Moving.of_eq (by simp)
  · simpa [Moving] using enterClearing_moving (owed := owed) (s.withdrawAck c) c .restart

theorem releaseByDirectory_moving (c : CtxId) : Moving owed s (s.releaseByDirectory c) := by
  unfold State.releaseByDirectory
  split
  · exact .refl _ _
  · exact .refl _ _
  · simpa [Moving] using enterClearing_moving (owed := owed) (s.sendIfCarried c .directory) c .directory

/-! ### Bearers handed on (R73) -/

theorem handOn_moving (l : LoopId) (b : BearerId) : Moving owed s (s.handOn l b) := by
  unfold State.handOn
  split
  · split_ifs
    · refine (Moving.of_eq (callsOf_assignBearer s l _ b)).trans (modCtx_moving _ _ rfl rfl)
    · exact .refl _ _
  · exact .refl _ _

/-! ### Offers that end (R103, R109, R113) -/

theorem endOffer_moving {c : CtxId} (hst : (s.ctx c).state = .offered)
    (howed : (callsOf s).contextsOk → ∀ g, (s.ctx c).hasLeg g → owed g.trunk g.chan) : Moving owed s (s.endOffer c) := by
  rw [Moving, State.endOffer, callsOf_setLamp, callsOf_modCtx]
  exact .requeue c _ hst howed

theorem second_of_offered {x : Ctx} (h : x.agrees) (hst : x.state = .offered) : x.second = none := by
  simp only [Ctx.agrees, hst] at h
  obtain ⟨-, -, -, -, hsecond, -⟩ := h
  exact hsecond

/-- An offer ends and its channel is freed. -/
theorem freeLeg_endOffer_moving {c : CtxId} (hst : (s.ctx c).state = .offered) :
    Moving owed s ((s.freeLeg (s.ctx c).primary).endOffer c) := by
  have hsecond (h : (callsOf s).contextsOk) : (s.ctx c).second = none := second_of_offered (h c) hst
  refine Moving.withFreed (extra := fun k n => (s.ctx c).primary = some ⟨k, n⟩)
    (.requeue c ((((s.ctx c).target.map (·.place)).toList) ++ (s.ctx c).tried) hst fun hok g hg => .inr ?_)
    (fun hok hchannels d g hd => ?_) ?_ rfl (fun k n hn => ?_) (fun k n hn => ?_)
  · exact hg.resolve_right fun h => by rw [callsOf_ctx, hsecond hok] at h; cases h
  · rw [Calls.setCtx_ctx] at hd
    split_ifs at hd with he
    · exact absurd hd (by simp [Ctx.hasLeg, callsOf_ctx, hsecond hok])
    · exact fun h => hchannels.apart hd he (.inl h)
  · refine Calls.ext ?_ ?_ ?_ rfl
    · simp [callsOf, Calls.setCtx, Calls.ctx, State.endOffer, State.modCtx_eq, State.ctx]
    · simp [callsOf, Calls.setCtx]
    · simp [callsOf, Calls.setCtx]
  · have hchan : ((s.freeLeg (s.ctx c).primary).endOffer c).chan k n = (s.freeLeg (s.ctx c).primary).chan k n := by
      simp [State.chan]
    rw [hchan, freeLeg_chan, if_pos hn]
  · have hchan : ((s.freeLeg (s.ctx c).primary).endOffer c).chan k n = (s.freeLeg (s.ctx c).primary).chan k n := by
      simp [State.chan]
    rw [hchan, freeLeg_chan, if_neg hn]

end
end

end Sys2Proof.CallContexts
end

section
/-! Failover (R112 to R114) as a move of the call manager: every leg on the trunk is dropped, and then its pool is freed. -/

namespace Sys2Proof.CallContexts

open Sys2Proof Sys2Proof.Machine
open Sys2Proof.PostDirectory (modCtx_ctx_eq)

section
variable {owed : Trunk → ChanId → Prop}

/-- The state, the target and the primary leg of a context, which say whether a failover reaches it. -/
def placeOf (x : Ctx) : CtxState × Option CurrentTarget × Option Leg := (x.state, x.target, x.primary)

theorem placeOf_of_core {x y : Ctx} (h : coreOf x = coreOf y) : placeOf x = placeOf y := by
  simp only [coreOf, Prod.mk.injEq] at h
  obtain ⟨hst, -, -, -, -, htarget, hprimary, -⟩ := h
  simp only [placeOf, hst, htarget, hprimary]

section
variable (s : State)

theorem countEntry_placeOf (d : CtxId) : placeOf (s.countEntry.ctx d) = placeOf (s.ctx d) := by
  have hctx : s.countEntry.ctx d = (if 65535 ≤ s.entryCount then s.renumber else s).ctx d := rfl
  rw [hctx]
  split_ifs
  · rw [renumber_ctx, renumbered]
    split_ifs <;> rfl
  · rfl

theorem endOffer_ctx (c d : CtxId) : (s.endOffer c).ctx d = if c = d then { s.ctx d with
    state := .queued, offerTimer := .stopped, tried := ((s.ctx d).target.map (·.place)).toList ++ (s.ctx d).tried
    primary := none, ref := none, target := none } else s.ctx d := by
  rw [State.endOffer, State.setLamp_ctx, modCtx_ctx_eq]

/-- What a re-presented call becomes, at the entry number `n` (R114). -/
def represented (x : Ctx) (n : Nat) : Ctx :=
  { x with
    state := .queued
    holdRunning := false
    prevDesk := x.desk
    desk := none
    primary := none
    second := none
    ref := none
    target := none
    represented := min (x.represented + 1) 3
    tried := []
    entryNo := n }

theorem represent_ctx (c d : CtxId) : (s.represent c).ctx d =
    if c = d then represented ((s.catchBlock c).countEntry.ctx d) (s.catchBlock c).countEntry.entryCount
    else (s.catchBlock c).countEntry.ctx d := by
  simp only [State.represent, State.startPlayer_ctx, State.setLamp_ctx, State.enterWaiting_ctx, modCtx_ctx_eq]
  rfl

theorem represent_placeOf_of_ne {c d : CtxId} (h : d ≠ c) : placeOf ((s.represent c).ctx d) = placeOf (s.ctx d) := by
  rw [represent_ctx, if_neg (Ne.symm h), countEntry_placeOf, placeOf_of_core (catchBlock_core s c d)]

/-- Where a leg stands that a good context has. -/
theorem place_of_hasLeg {x : Ctx} (hx : x.agrees) {g : Leg} (hg : x.hasLeg g) : x.primary ≠ none ∧
    (x.state = .offered ∧ x.target.map (·.target.trunk) = some g.trunk ∨
      (x.state = .connected ∨ x.state = .held) ∧ x.primary.map (·.trunk) = some g.trunk) := by
  obtain ⟨-, -, -, hlegs⟩ := hx
  cases hst : x.state <;> simp only [hst] at hlegs
  case free | queued | clearing => simp [Ctx.hasLeg, hlegs] at hg
  case offered =>
    obtain ⟨-, hsecond, p, htarget, g', hprimary, htrunk⟩ := hlegs
    obtain rfl : g' = g := by simpa [Ctx.hasLeg, hprimary, hsecond] using hg
    exact ⟨by simp [hprimary], .inl ⟨rfl, by simp [htarget, htrunk]⟩⟩
  case connected | held =>
    obtain ⟨-, p, -, ⟨g', hprimary, htrunk⟩, hsecond⟩ := hlegs
    refine ⟨by simp [hprimary], .inr ⟨by simp, ?_⟩⟩
    have hg' : g.trunk = p.target.trunk := by
      rcases hg with hg | hg
      · rw [hprimary] at hg
        exact Option.some.inj hg ▸ htrunk
      · rcases hsecond with hnone | ⟨g2, hsome, htrunk2⟩
        · rw [hnone] at hg
          cases hg
        · rw [hsome] at hg
          exact Option.some.inj hg ▸ htrunk2
    simp [hprimary, htrunk, hg']

theorem trunk_of_offered {x : Ctx} {t : Trunk} (hx : x.agrees) (hst : x.state = .offered)
    (htarget : x.target.map (·.target.trunk) = some t) {g : Leg} (hg : x.hasLeg g) : g.trunk = t := by
  obtain ⟨-, ⟨-, hplace⟩ | ⟨hcarried, -⟩⟩ := place_of_hasLeg hx hg
  · exact Option.some.inj (hplace.symm.trans htarget)
  · simp [hst] at hcarried

theorem trunk_of_carried {x : Ctx} {t : Trunk} (hx : x.agrees) (hst : x.state = .connected ∨ x.state = .held)
    (hp : x.primary.map (·.trunk) = some t) {g : Leg} (hg : x.hasLeg g) : g.trunk = t := by
  obtain ⟨-, ⟨hoffered, -⟩ | ⟨-, hplace⟩⟩ := place_of_hasLeg hx hg
  · simp [hoffered] at hst
  · exact Option.some.inj (hplace.symm.trans hp)

theorem represent_moving {c : CtxId} {t : Trunk} (hst : (s.ctx c).state = .connected ∨ (s.ctx c).state = .held)
    (hp : (s.ctx c).primary.map (·.trunk) = some t) (howed : ∀ n, owed t n) : Moving owed s (s.represent c) := by
  have hcount := (catchBlock_moving (owed := owed) s c).trans (countEntry_moving _)
  have hplace := (countEntry_placeOf (s.catchBlock c) c).trans (placeOf_of_core (catchBlock_core s c c))
  simp only [placeOf, Prod.mk.injEq] at hplace
  obtain ⟨hst', -, hp'⟩ := hplace
  rw [← hst'] at hst
  rw [← hp'] at hp
  refine .trans hcount ?_
  simp only [State.represent, callsOf_startPlayer, callsOf_setLamp, callsOf_enterWaiting, callsOf_modCtx]
  refine .represent c _ _ hst fun hok g hg => ?_
  have htrunk := trunk_of_carried (hok c) hst hp hg
  rw [htrunk]
  exact howed _

/-! ### Every call of a trunk -/

theorem mem_offeredOn {t : Trunk} {c : CtxId} :
    c ∈ s.offeredOn t ↔ (s.ctx c).state = .offered ∧ s.callTrunk c = some t := by
  simp [State.offeredOn, allCtxs]

theorem mem_carriedOn {t : Trunk} {c : CtxId} : c ∈ s.carriedOn t ↔
    ((s.ctx c).state = .connected ∨ (s.ctx c).state = .held) ∧ (s.ctx c).primary.map (·.trunk) = some t := by
  simp [State.carriedOn, allCtxs, List.mem_insertionSort]

theorem nodup_offeredOn (t : Trunk) : (s.offeredOn t).Nodup := (List.nodup_finRange 32).filter _

theorem nodup_carriedOn (t : Trunk) : (s.carriedOn t).Nodup :=
  (List.perm_insertionSort _ _).nodup_iff.mpr ((List.nodup_finRange 32).filter _)

end

/-- What a fold does that takes the primary leg from each context in turn and leaves the place of every other. -/
theorem foldl_placeOf {f : State → CtxId → State} (hother : ∀ u c d, d ≠ c → placeOf ((f u c).ctx d) = placeOf (u.ctx d))
    (hself : ∀ u c, ((f u c).ctx c).primary = none) {cs : List CtxId} (hnd : cs.Nodup) (s : State) (d : CtxId) :
    (d ∈ cs → ((cs.foldl f s).ctx d).primary = none) ∧
    (d ∉ cs → placeOf ((cs.foldl f s).ctx d) = placeOf (s.ctx d)) := by
  induction cs generalizing s with
  | nil => exact ⟨fun h => absurd h List.not_mem_nil, fun _ => rfl⟩
  | cons c cs ih =>
    obtain ⟨hc, hnd⟩ := List.nodup_cons.mp hnd
    obtain ⟨hin, hout⟩ := ih hnd (f s c)
    rw [List.foldl_cons]
    refine ⟨fun hd => ?_, fun hd => ?_⟩
    · by_cases hdc : d ∈ cs
      · exact hin hdc
      · obtain rfl := (List.mem_cons.mp hd).resolve_right hdc
        have hplace := hout hdc
        simp only [placeOf, Prod.mk.injEq] at hplace
        exact hplace.2.2.trans (hself s d)
    · have hne : d ≠ c := fun h => hd (h ▸ List.mem_cons_self)
      exact (hout fun h => hd (List.mem_cons_of_mem _ h)).trans (hother s c d hne)

/-- A fold of moves over distinct contexts, each of which finds its own context as it was. -/
theorem foldl_moving_of_placeOf {f : State → CtxId → State} {P : CtxState × Option CurrentTarget × Option Leg → Prop}
    (hother : ∀ u c d, d ≠ c → placeOf ((f u c).ctx d) = placeOf (u.ctx d))
    (hf : ∀ u c, P (placeOf (u.ctx c)) → Moving owed u (f u c)) {cs : List CtxId} (hnd : cs.Nodup) (s : State)
    (hcs : ∀ c ∈ cs, P (placeOf (s.ctx c))) : Moving owed s (cs.foldl f s) := by
  induction cs generalizing s with
  | nil => exact .refl _ _
  | cons c cs ih =>
    obtain ⟨hc, hnd⟩ := List.nodup_cons.mp hnd
    refine (hf s c (hcs c List.mem_cons_self)).trans (ih hnd _ fun d hd => ?_)
    rw [hother s c d fun h => hc (h ▸ hd)]
    exact hcs d (List.mem_cons_of_mem _ hd)

section
variable (s : State)

theorem endOffer_placeOf_of_ne (c d : CtxId) (h : d ≠ c) : placeOf ((s.endOffer c).ctx d) = placeOf (s.ctx d) := by
  rw [endOffer_ctx, if_neg (Ne.symm h)]

theorem endOffer_primary (c : CtxId) : ((s.endOffer c).ctx c).primary = none := by rw [endOffer_ctx, if_pos rfl]

theorem represent_primary (c : CtxId) : ((s.represent c).ctx c).primary = none := by
  rw [represent_ctx, if_pos rfl, represented]

/-- The calls of a trunk taken off it, its channels not yet freed. -/
def movedOff (t : Trunk) : State :=
  (((s.offeredOn t).foldl State.endOffer s).carriedOn t).foldl State.represent ((s.offeredOn t).foldl State.endOffer s)

theorem movedOff_moving {t : Trunk} (howed : ∀ n, owed t n) : Moving owed s (movedOff s t) := by
  have hoffers : Moving owed s ((s.offeredOn t).foldl State.endOffer s) := by
    refine foldl_moving_of_placeOf (P := fun p => p.1 = .offered ∧ p.2.1.map (·.target.trunk) = some t)
      endOffer_placeOf_of_ne (fun u c hc => ?_) (nodup_offeredOn s t) s fun c hc => (mem_offeredOn s).mp hc
    refine endOffer_moving u hc.1 fun hok g hg => ?_
    rw [trunk_of_offered (hok c) hc.1 hc.2 hg]
    exact howed _
  refine hoffers.trans (foldl_moving_of_placeOf
    (P := fun p => (p.1 = .connected ∨ p.1 = .held) ∧ p.2.2.map (·.trunk) = some t)
    (fun u c d => represent_placeOf_of_ne u) (fun u c hc => represent_moving u hc.1 hc.2 howed) (nodup_carriedOn _ t) _
    fun c hc => (mem_carriedOn _).mp hc)

/-- No call of a good state is left on the trunk. -/
theorem movedOff_leaves {t : Trunk} (hok : (callsOf s).contextsOk) (d : CtxId) (g : Leg)
    (hg : ((movedOff s t).ctx d).hasLeg g) : g.trunk ≠ t := fun htrunk => by
  have hmoved : (callsOf (movedOff s t)).contextsOk :=
    (movedOff_moving (owed := fun _ _ => True) s fun _ => trivial).contextsOk hok
  obtain ⟨hprimary, hplace⟩ := place_of_hasLeg (hmoved d) hg
  rw [callsOf_ctx] at hprimary hplace
  obtain ⟨hin, hout⟩ := foldl_placeOf endOffer_placeOf_of_ne endOffer_primary (nodup_offeredOn s t) s d
  obtain ⟨hin', hout'⟩ := foldl_placeOf (fun u c d => represent_placeOf_of_ne u) represent_primary
    (nodup_carriedOn ((s.offeredOn t).foldl State.endOffer s) t) ((s.offeredOn t).foldl State.endOffer s) d
  have hnot' : d ∉ ((s.offeredOn t).foldl State.endOffer s).carriedOn t := fun hd => hprimary (hin' hd)
  have hsame' := hout' hnot'
  change placeOf ((movedOff s t).ctx d) = _ at hsame'
  simp only [placeOf, Prod.mk.injEq] at hsame'
  have hnot : d ∉ s.offeredOn t := fun hd => hprimary (hsame'.2.2.trans (hin hd))
  have hsame := hout hnot
  simp only [placeOf, Prod.mk.injEq] at hsame
  rw [htrunk] at hplace
  rcases hplace with ⟨hst, htarget⟩ | ⟨hst, hp⟩
  · refine hnot ((mem_offeredOn s).mpr ⟨hsame.1.symm.trans (hsame'.1.symm.trans hst), ?_⟩)
    rw [hsame'.2.1, hsame.2.1] at htarget
    exact htarget
  · rw [hsame'.1] at hst
    rw [hsame'.2.2] at hp
    exact hnot' ((mem_carriedOn _).mpr ⟨hst, hp⟩)

theorem freePool_chan_of_ne {t k : Trunk} (h : t ≠ k) (n : ChanId) : (s.freePool t).chan k n = s.chan k n := by
  simp only [State.freePool, State.chan, State.modTrunk_trunk_of_ne s t _ k h]

/-- Every leg on a trunk dropped, and its pool freed. -/
theorem freePool_movedOff_moving (t : Trunk) : Moving owed s ((movedOff s t).freePool t) := by
  have hcalls : callsOf ((movedOff s t).freePool t) =
      { callsOf (movedOff s t) with pools := fun k => poolOf (((movedOff s t).freePool t).trunk k) } :=
    Calls.ext (by simp [callsOf]) (by simp [callsOf]) (by simp [callsOf]) rfl
  rw [Moving, hcalls]
  refine .settle (extra := fun k _ => k = t) (movedOff_moving s fun _ => .inr rfl)
    (fun hok _ d g hg => movedOff_leaves s hok d g hg) (fun k n hk => ?_) (fun k n hk => ?_)
  · rw [poolOf_getElem, freePool_chan_of_ne _ (Ne.symm hk), callsOf_chan]
  · subst hk
    rw [poolOf_getElem, State.freePool_chan]
    rcases Channel.release_st ((movedOff s k).chan k n) with hst | hst <;> simp [hst]

theorem failover_moving (t : Trunk) : Moving owed s (s.failover t) := by
  have hquiet : callsOf (s.modTrunk t (fun T =>
      { T with sigQueue := [], sigSent := 0, seen := if T.seen = .up then .holdover else T.seen })) = callsOf s :=
    callsOf_congr (by simp) (by simp) (by simp) fun k => modTrunk_poolOf s t k fun _ => rfl
  have hmoved := (freePool_movedOff_moving (owed := owed) (s.modTrunk t (fun T =>
    { T with sigQueue := [], sigSent := 0, seen := if T.seen = .up then .holdover else T.seen })) t).trans (dispatch_moving _)
  rw [hquiet] at hmoved
  exact hmoved

theorem trunkReport_moving (t : Trunk) (st : TrunkState) : Moving owed s (s.trunkReport t st) := by
  have hquiet : callsOf (s.modTrunk t (fun T => { T with seen := st })) = callsOf s :=
    callsOf_congr (by simp) (by simp) (by simp) fun k => modTrunk_poolOf s t k fun _ => rfl
  unfold State.trunkReport
  dsimp only
  split_ifs
  · exact (Moving.of_eq hquiet).trans (dispatch_moving _)
  · exact Moving.of_eq hquiet

theorem drainReports_moving (t : Trunk) : Moving owed s (s.drainReports t) :=
  foldl_moving (fun u st => (Moving.of_eq (callsOf_take u _)).trans (trunkReport_moving _ t st)) _ s

theorem carryFailover_moving (t : Trunk) : Moving owed s (s.carryFailover t) :=
  ((drainReports_moving s t).trans (Moving.of_eq (callsOf_take _ _))).trans (failover_moving _ t)

theorem endFailover_moving (t : Trunk) (st : TrunkState) : Moving owed s (s.endFailover t st) := by
  refine (carryFailover_moving s t).trans (Moving.of_eq ?_)
  rw [State.endFailover]
  simp [callsOf]

theorem disableTrunk_moving (t : Trunk) : Moving owed s (s.disableTrunk t) := by
  unfold State.disableTrunk
  split_ifs
  · exact carryFailover_moving s t
  · exact endFailover_moving s t _

/-! ### Channels blocked and unblocked (R131) -/

theorem setChan_moving_of_st {t : Trunk} {n : ChanId} {x : Channel} (h : x.st = (s.chan t n).st) :
    Moving owed s (s.setChan t n x) :=
  Moving.of_eq (callsOf_congr (by simp) (by simp) (by simp) fun k => setChan_poolOf s t k n x h)

theorem blockChan_moving (t : Trunk) (n : ChanId) : Moving owed s (s.blockChan t n) := by
  unfold State.blockChan
  split
  next hst =>
    rw [Moving, callsOf_setChan]
    exact .block t n _ (.inl ((callsOf_chan s t n).trans hst)) (.inr rfl)
  · exact setChan_moving_of_st s rfl
  · exact setChan_moving_of_st s rfl
  · exact .refl _ _

theorem unblockChan_moving (t : Trunk) (n : ChanId) : Moving owed s (s.unblockChan t n) := by
  unfold State.unblockChan
  split
  · exact .refl _ _
  · exact setChan_moving_of_st s rfl
  · exact setChan_moving_of_st s rfl
  next hst =>
    refine .trans ?_ (dispatch_moving _)
    rw [callsOf_setChan]
    exact .block t n _ (.inr ((callsOf_chan s t n).trans hst)) (.inl rfl)

end
end
end Sys2Proof.CallContexts
end

section
/-! The requests of the desks (05) and the reports and timers of the call manager (04) as moves. -/

namespace Sys2Proof.CallContexts

open Sys2Proof Sys2Proof.Machine
open Sys2Proof.PostDirectory (modCtx_ctx_eq deskRequest_cases setChan_chan_eq chapterOf freeContext_state)

section
variable {owed : Trunk → ChanId → Prop} (s : State)

/-! ### Desks (R102 to R108) -/

theorem connect_moving (c : CtxId) : Moving owed s (s.connect c) := by
  refine .trans (Moving.of_eq ?_) (startMonitor_moving _ c)
  simp

theorem answerCall_moving {c : CtxId} (desk : Byte) (hst : (s.ctx c).state = .offered) :
    Moving owed s (s.answerCall c desk) := by
  refine .trans ?_ (connect_moving _ c)
  have hctx : (s.answerLeg (s.ctx c).primary).ctx c = s.ctx c := by simp
  simp only [callsOf_leaveWaiting, callsOf_modCtx, callsOf_answerLeg, hctx]
  exact .answer c desk hst

theorem holdCall_moving {c : CtxId} (hst : (s.ctx c).state = .connected) : Moving owed s (s.holdCall c) := by
  refine (catchBlock_moving s c).trans ?_
  simp only [State.holdCall, callsOf_startPlayer, callsOf_setLamp, callsOf_modCtx]
  exact .hold c ((catchBlock_state s c c).trans hst)

theorem retrieveCall_moving {c : CtxId} (hst : (s.ctx c).state = .held) : Moving owed s (s.retrieveCall c) := by
  refine .trans ?_ (connect_moving _ c)
  rw [callsOf_modCtx]
  exact .retrieve c hst

theorem joinLeg_eq_some {c : CtxId} {g : Leg} (h : s.joinLeg c = some g) : (s.ctx c).second = none ∧
    ∃ p, (s.ctx c).primary = some p ∧ g.trunk = p.trunk ∧ (s.chan p.trunk g.chan).st = .free := by
  unfold State.joinLeg at h
  split at h
  next p hsecond hprimary =>
    obtain ⟨n, hn, rfl⟩ := Option.map_eq_some_iff.mp h
    exact ⟨hsecond, p, hprimary, rfl, freeChannel_st s hn⟩
  next => cases h

theorem joinCall_moving {c : CtxId} (t : Trunk) (ref : OfferRef)
    (hst : (s.ctx c).state = .connected ∨ (s.ctx c).state = .held) : Moving owed s (s.joinCall c t ref) := by
  unfold State.joinCall
  split
  next g hg =>
    obtain ⟨hsecond, p, hprimary, htrunk, hfree⟩ := joinLeg_eq_some s hg
    obtain ⟨k, n⟩ := g
    obtain rfl : k = p.trunk := htrunk
    have hctx : (s.useChan ⟨p.trunk, n⟩).ctx c = s.ctx c := by simp
    simp only [Moving, callsOf_confirm, callsOf_modCtx, hctx]
    rw [State.useChan, callsOf_setChan]
    exact .join c p n hst hsecond hprimary ((callsOf_chan s _ _).trans hfree)
  next => exact Moving.of_eq (callsOf_wrongState s t ref _)

/-- The second leg dropped and its channel freed. -/
theorem dropSecond_moving {c : CtxId} {g : Leg} (hst : (s.ctx c).state = .connected ∨ (s.ctx c).state = .held)
    (hg : (s.ctx c).second = some g) :
    Moving owed s ((s.freeChan g.trunk g.chan).modCtx c (fun x => { x with second := none })) := by
  have hchan (k : Trunk) (n : ChanId) : ((s.freeChan g.trunk g.chan).modCtx c (fun x => { x with second := none })).chan k n =
      if g.trunk = k ∧ g.chan = n then (s.chan k n).release else s.chan k n := by
    have hsame : ((s.freeChan g.trunk g.chan).modCtx c (fun x => { x with second := none })).chan k n =
        (s.freeChan g.trunk g.chan).chan k n := by simp [State.chan]
    rw [hsame, State.freeChan, setChan_chan_eq]
    split_ifs with h
    · rw [h.1, h.2]
    · rfl
  have hleg (k : Trunk) (n : ChanId) : (s.ctx c).second = some ⟨k, n⟩ ↔ g.trunk = k ∧ g.chan = n := by
    rw [hg, Option.some.injEq]
    constructor
    · rintro rfl; exact ⟨rfl, rfl⟩
    · rintro ⟨rfl, rfl⟩; rfl
  refine Moving.withFreed (extra := fun k n => (s.ctx c).second = some ⟨k, n⟩) (.leave c hst fun g hg => .inr hg)
    (fun _ hchannels d g' hd => ?_) ?_ rfl (fun k n hn => ?_) (fun k n hn => ?_)
  · rw [Calls.setCtx_ctx] at hd
    split_ifs at hd with he
    · obtain ⟨-, hsecond, -⟩ := hchannels
      have hprimary : (s.ctx c).primary = some g' := hd.resolve_right (by simp)
      exact fun h => (hsecond c g' h).2 hprimary
    · exact fun h => hchannels.apart hd he (.inr h)
  · refine Calls.ext ?_ ?_ ?_ rfl
    · simp [callsOf, Calls.setCtx, Calls.ctx, State.modCtx_eq, State.ctx]
    · simp [callsOf, Calls.setCtx]
    · simp [callsOf, Calls.setCtx]
  · rw [hchan, if_pos ((hleg k n).mp hn)]
  · rw [hchan, if_neg fun h => hn ((hleg k n).mpr h)]

theorem leaveCall_moving {c : CtxId} (t : Trunk) (ref : OfferRef)
    (hst : (s.ctx c).state = .connected ∨ (s.ctx c).state = .held) : Moving owed s (s.leaveCall c t ref) := by
  unfold State.leaveCall
  split
  next g hg => exact ((dropSecond_moving s hst hg).trans (Moving.of_eq (callsOf_deskOk _ t ref _))).trans (dispatch_moving _)
  next => exact Moving.of_eq (callsOf_wrongState s t ref _)

/-- A control request, where what it does to the call it names is a move. -/
theorem deskRequest_moving {t : Trunk} {ref : OfferRef} {request : Byte} {act : CtxId → State}
    (hact : ∀ c, Moving owed s (act c)) : Moving owed s (s.deskRequest t ref request act) :=
  deskRequest_cases hact (Moving.of_eq (callsOf_answerGone s t ref request))

theorem deskOk_moving {u : State} (t : Trunk) (ref : OfferRef) (request : Byte) (h : Moving owed s u) :
    Moving owed s (u.deskOk t ref request) := by
  rwa [Moving, callsOf_deskOk]

theorem wrongState_moving (t : Trunk) (ref : OfferRef) (request : Byte) : Moving owed s (s.wrongState t ref request) :=
  Moving.of_eq (callsOf_wrongState s t ref request)

theorem take_moving {u : State} (i : Instr) (h : Moving owed (s.take i) u) : Moving owed s u := by
  rwa [Moving, callsOf_take] at h

theorem exec_moving_desks {i : Instr} {s t : State} (hi : chapterOf i = .desks) (h : exec i s = .next t) :
    Moving owed s t := by
  cases i <;> cases hi <;> injection h with h <;> subst h
  case signallingMessageDiscard => exact Moving.of_eq (by simp)
  all_goals refine take_moving s _ (deskRequest_moving _ fun c => ?_)
  case answer k ref desk =>
    split
    next hst => exact (deskOk_moving _ _ _ _ (answerCall_moving _ desk hst)).trans (dispatch_moving _)
    next => exact wrongState_moving _ _ _ _
  case decline k ref =>
    split
    next hst => exact (deskOk_moving _ _ _ _ (freeLeg_endOffer_moving _ hst)).trans (dispatch_moving _)
    next => exact wrongState_moving _ _ _ _
  case hold k ref =>
    split
    next hst => exact deskOk_moving _ _ _ _ (holdCall_moving _ hst)
    next => exact deskOk_moving _ _ _ _ (.refl _ _)
    next => exact wrongState_moving _ _ _ _
  case retrieve k ref =>
    split
    next hst => exact deskOk_moving _ _ _ _ (retrieveCall_moving _ hst)
    next => exact deskOk_moving _ _ _ _ (.refl _ _)
    next => exact wrongState_moving _ _ _ _
  case join k ref =>
    split
    next hst => exact joinCall_moving _ _ _ (.inl hst)
    next hst => exact joinCall_moving _ _ _ (.inr hst)
    next => exact wrongState_moving _ _ _ _
  case leave k ref =>
    split
    next hst => exact leaveCall_moving _ _ _ (.inl hst)
    next hst => exact leaveCall_moving _ _ _ (.inr hst)
    next => exact wrongState_moving _ _ _ _
  case release k ref =>
    split
    next => exact deskOk_moving _ _ _ _ (.refl _ _)
    next => exact ((deskOk_moving _ _ _ _ (.refl _ _)).trans (enterClearing_moving _ c .desk)).trans (dispatch_moving _)

/-! ### Registration (R65 to R71) -/

theorem setCtx_enter {v : Calls} {c : CtxId} {y : Ctx} (d : CtxId) (hfrom : ∀ z, y.before z = (v.ctx c).before z)
    (hto : ∀ z : Ctx, z.before y = z.before (v.ctx c)) : (v.setCtx c y).enter d = (v.enter d).setCtx c y := by
  have horder : (fun a b => ((v.setCtx c y).ctx a).before ((v.setCtx c y).ctx b)) =
      fun a b => (v.ctx a).before (v.ctx b) := by
    funext a b
    simp only [Calls.setCtx_ctx]
    split_ifs with ha hb hb
    · rw [ha, hb, hfrom, hto]
    · rw [ha, hfrom]
    · rw [hb, hto]
    · rfl
  rw [Calls.enter, horder]
  rfl

theorem askBearer_enter_moving (c : CtxId) (l : LoopId) (pos : Nat) :
    Moving owed (s.enterWaiting c) ((s.askBearer c l pos).enterWaiting c) := by
  unfold State.askBearer
  split
  next b _ =>
    have hctx : (s.assignBearer l pos b).ctx c = s.ctx c := by simp
    have henter := setCtx_enter (v := callsOf s) (c := c) (y := { s.ctx c with bearer := some b }) c (fun _ => rfl)
      (fun _ => rfl)
    rw [Moving, callsOf_enterWaiting, callsOf_enterWaiting, callsOf_modCtx, callsOf_assignBearer, hctx, henter]
    exact .goOn c ⟨rfl, .inl⟩
  next => exact .refl _ _

theorem register_moving {c : CtxId} (hst : (s.ctx c).state = .free) (l : LoopId) (pos : Nat) (e : MapEntry)
    (cls : CallClass) : Moving owed s (s.register c l pos e cls) := by
  refine (countEntry_moving s).trans (.trans ?_ (askBearer_enter_moving _ c l _))
  simp only [callsOf_enterWaiting, callsOf_setLampAt, callsOf_setAck, callsOf_modCtx]
  refine .register c _ _ _ _ _ _ _ ?_
  have hplace := countEntry_placeOf s c
  simp only [placeOf, Prod.mk.injEq] at hplace
  exact hplace.1.trans hst

theorem newRequest_moving (l : LoopId) (pos : Nat) (e : MapEntry) (cls : CallClass) :
    Moving owed s (s.newRequest l pos e cls) := by
  unfold State.newRequest
  split_ifs
  · split
    next c hc => exact register_moving s (freeContext_state s hc) l pos e cls
    next => exact Moving.of_eq (by simp)
  · exact Moving.of_eq (callsOf_refuseClass s l pos e.tie)

/-! ### The caller, the loops and the directory (R70 to R86) -/

theorem sendIfCarried_enterClearing_moving (c : CtxId) (cause cause' : Cause) :
    Moving owed s ((s.sendIfCarried c cause).enterClearing c cause') :=
  (Moving.of_eq (callsOf_sendIfCarried s c cause)).trans (enterClearing_moving _ c cause')

theorem abandon_moving (c : CtxId) (l : LoopId) (pos : Nat) : Moving owed s (s.abandon c l pos) := by
  unfold State.abandon
  dsimp only
  split
  · exact (sendIfCarried_enterClearing_moving s c _ _).trans (Moving.of_eq (callsOf_raise _ _))
  · exact sendIfCarried_enterClearing_moving s c _ _

theorem callerDropped_moving (l : LoopId) (pos : Nat) : Moving owed s (s.callerDropped l pos) := by
  unfold State.callerDropped
  split
  · exact Moving.of_eq (callsOf_setLampAt s l _ _)
  next c _ =>
    split
    · exact (abandon_moving s c l pos).trans (dispatch_moving _)
    · exact (abandon_moving s c l pos).trans (dispatch_moving _)
    · exact (sendIfCarried_enterClearing_moving s c _ _).trans (dispatch_moving _)
    · exact (sendIfCarried_enterClearing_moving s c _ _).trans (dispatch_moving _)
    · exact .refl _ _

theorem holder_eq_some {l : LoopId} {b : BearerId} {p : Ctx → Bool} {c : CtxId} (h : s.holder l b p = some c) :
    p (s.ctx c) = true := by
  have hfound := List.find?_some h
  simp only [Bool.and_eq_true] at hfound
  exact hfound.2

theorem freeHolder_moving (l : LoopId) (b : BearerId) : Moving owed s (s.freeHolder l b) := by
  unfold State.freeHolder
  split
  next c hc => exact freeCtx_moving s (by simpa using holder_eq_some s hc)
  next => exact .refl _ _

theorem releaseLoop_moving (l : LoopId) (cause : Cause) : Moving owed s (s.releaseLoop l cause) :=
  (foldl_moving (fun u c => releaseByLoop_moving u c cause) _ s).trans (dispatch_moving _)

theorem followPost_moving (passes : List (Option (Nat × Tie))) (c : CtxId) : Moving owed s (s.followPost passes c) := by
  unfold State.followPost
  split
  · exact modCtx_moving s c rfl rfl
  · exact releaseLost_moving s c

/-- What the retry timer that has run out does (R94). -/
theorem stopRetry_moving (c : CtxId) : Moving owed s (s.modCtx c (fun x => { x with retryTimer := .stopped })) := by
  rw [Moving, callsOf_modCtx]
  exact .goOn c ⟨rfl, fun h => by simp [Timer.isRunning] at h⟩

/-- What an offer timer that has run out does (R109). -/
theorem timeOut_moving {c : CtxId} (hst : (s.ctx c).state = .offered) :
    Moving owed s (((s.sendCleared c .offerTimeout).freeLeg (s.ctx c).primary).endOffer c) := by
  have hctx : (s.sendCleared c .offerTimeout).ctx c = s.ctx c := by simp
  have hend := freeLeg_endOffer_moving (owed := owed) (s.sendCleared c .offerTimeout) (hctx ▸ hst)
  rw [hctx] at hend
  exact (Moving.of_eq (callsOf_sendCleared s c .offerTimeout)).trans hend

theorem holdCount_moving (c : CtxId) (n : Nat) :
    Moving owed s (s.modCtx c (fun x => { x with holdCount := max x.holdCount n })) := modCtx_moving s c rfl rfl

theorem raiseHoldLong_moving (c : CtxId) : Moving owed s (s.raiseHoldLong c) :=
  (modCtx_moving s c rfl rfl).trans (Moving.of_eq (callsOf_raise _ _))

theorem exec_moving_calls {i : Instr} {s t : State} (hi : chapterOf i = .calls) (h : exec i s = .next t) :
    Moving owed s t := by
  cases i <;> cases hi <;> injection h with h <;> subst h
  case requestReport l pos cls =>
    refine take_moving s (.requestReport l pos cls) ?_
    split
    · exact .refl _ _
    · split
      · exact Moving.of_eq (callsOf_setAck _ l _)
      · exact newRequest_moving _ l pos _ cls
  case callerReport l pos active =>
    refine take_moving s (.callerReport l pos active) ?_
    split_ifs
    · exact .refl _ _
    · exact callerDropped_moving _ l pos
  case bearerLiveReport l b =>
    refine take_moving s (.bearerLiveReport l b) ?_
    split
    next c _ =>
      split_ifs
      · exact ((modCtx_moving _ c rfl rfl).trans (Moving.of_eq (callsOf_startPlayer _ c _))).trans (dispatch_moving _)
      · exact .refl _ _
    next => exact .refl _ _
  case bearerFreeReport l b =>
    exact take_moving s (.bearerFreeReport l b) (((freeHolder_moving _ l b).trans (handOn_moving _ l b)).trans (dispatch_moving _))
  case loopStateReport l st =>
    refine take_moving s (.loopStateReport l st) ?_
    split
    · exact releaseLoop_moving _ l _
    · exact .refl _ _
  case testFailReport l pos =>
    refine take_moving s (.testFailReport l pos) ?_
    split_ifs
    · exact Moving.of_eq (callsOf_setLampAt _ l _ _)
    · exact .refl _ _
  case rebuildReport l epoch passes freed =>
    exact take_moving s (.rebuildReport l epoch passes freed) (((foldl_moving (fun u c => followPost_moving u passes c) _ _).trans
      (foldl_moving (fun u b => handOn_moving u l b) _ _)).trans (dispatch_moving _))
  case directoryRelease l pos =>
    refine take_moving s (.directoryRelease l pos) ?_
    split
    next c _ =>
      split_ifs
      · exact .refl _ _
      · exact (releaseByDirectory_moving _ c).trans (dispatch_moving _)
    next => exact .refl _ _
  case retryTimerExpiry c =>
    refine take_moving s (.retryTimerExpiry c) ?_
    split_ifs
    · exact (stopRetry_moving _ c).trans (dispatch_moving _)
    · exact .refl _ _
  case offerTimeout c =>
    refine take_moving s (.offerTimeout c) ?_
    split_ifs with h
    · exact (timeOut_moving _ h.1).trans (dispatch_moving _)
    · exact .refl _ _
  case holdLong c =>
    refine take_moving s (.holdLong c) ?_
    split_ifs
    · exact (holdCount_moving _ c _).trans (raiseHoldLong_moving _ c)
    · exact .refl _ _

end
end Sys2Proof.CallContexts
end

section
/-! Samples, requests of the management, notices and time as moves of the call manager and the notice unit (07, 09, 10). -/

namespace Sys2Proof.CallContexts

open Sys2Proof Sys2Proof.Machine
open Sys2Proof.PostDirectory (modCtx_ctx_eq freeCtx_ctx chapterOf callReport_eq_some workStream_keeps)

section
variable {owed : Trunk → ChanId → Prop} (s : State)

/-! ### Samples (R140 to R145) -/

theorem countClip_moving (c : CtxId) (clips : Bool) : Moving owed s (s.countClip c clips) := by
  unfold State.countClip
  split_ifs
  · exact modCtx_moving s c rfl rfl
  · exact .refl _ _

theorem throughGain_moving (c : CtxId) (x : Int) (g : Nat) : Moving owed s (s.throughGain c x g).1 := countClip_moving s c _

theorem playerSample_moving (c : CtxId) (gain : Nat) : Moving owed s (s.playerSample c gain).1 :=
  (Moving.of_eq (by simp [callsOf])).trans (throughGain_moving ((s.catchSegment c).advancePlayer c) c _ gain)

theorem downCode_moving (l : LoopId) (b : BearerId) : Moving owed s (s.downCode l b).1 := by
  unfold State.downCode State.downSample
  dsimp only
  split
  · split
    · exact throughGain_moving s _ _ _
    · exact playerSample_moving s _ _
    · exact playerSample_moving s _ _
    · exact playerSample_moving s _ _
    · exact .refl _ _
  · exact .refl _ _

theorem downCodes_moving (l : LoopId) (bs : List BearerId) : Moving owed s (State.downCodes l bs s).1 := by
  induction bs generalizing s with
  | nil => exact .refl _ _
  | cons b bs ih => exact (downCode_moving s l b).trans (ih _)

theorem callsOf_writeLegs (c : CtxId) (code : Byte) : callsOf (s.writeLegs c code) = callsOf s := by simp [callsOf]

theorem callsOf_feedMonitor (c : CtxId) (magnitude : Nat) : callsOf (s.feedMonitor c magnitude) = callsOf s := by
  simp [callsOf]

theorem upCode_moving (l : LoopId) (b : BearerId) (code : Byte) : Moving owed s (s.upCode l b code) := by
  unfold State.upCode State.upSample
  dsimp only
  split
  next c _ =>
    split
    · rw [Moving, callsOf_feedMonitor, callsOf_writeLegs]
      exact (catchBlock_moving s c).trans (throughGain_moving _ c _ _)
    · exact Moving.of_eq (callsOf_writeLegs s c _)
    · exact .refl _ _
  next => exact .refl _ _

theorem upCodes_moving (l : LoopId) (codes : List Byte) : Moving owed s (State.upCodes l codes s) :=
  foldl_moving (fun u b => upCode_moving u l b _) _ s

theorem callsOf_modLoop (l : LoopId) (f : Loop → Loop) : callsOf (s.modLoop l f) = callsOf s := by simp [callsOf]

theorem callsOf_catchUnalign (l : LoopId) : callsOf (s.catchUnalign l) = callsOf s := by simp [callsOf]

theorem callsOf_advanceRing (l : LoopId) : callsOf (s.advanceRing l) = callsOf s := by simp [callsOf]

theorem callsOf_sendScanByte (l : LoopId) : callsOf (s.sendScanByte l) = callsOf s := by simp [callsOf]

theorem callsOf_takeReturn (l : LoopId) (f : Framed) : callsOf (s.takeReturn l f) = callsOf s := by simp [callsOf]

theorem exec_moving_voice {i : Instr} {s t : State} (hi : chapterOf i = .voice) (h : exec i s = .next t) :
    Moving owed s t := by
  cases i <;> cases hi <;>
    simp only [exec, execLoopFrame, execLevelBlockComplete, execSegmentEnd, Host.Outcome.next.injEq] at h <;> subst h
  case loopFrame l ret =>
    have hdown := downCodes_moving (owed := owed) ((s.take (.loopFrame l ret)).catchUnalign l) l allBearers
    rw [Moving, callsOf_catchUnalign, callsOf_take] at hdown
    refine .trans ?_ (upCodes_moving _ l _)
    rwa [callsOf_takeReturn, callsOf_sendScanByte, callsOf_advanceRing, callsOf_modLoop]
  case levelBlockComplete c => exact (Moving.of_eq (callsOf_take s _)).trans (judgeDue_moving _ c)
  case segmentEnd => exact Moving.of_eq (by simp [callsOf])

/-! ### Notices (R181 to R185) -/

theorem raiseNow_moving (x : Raise) : Moving owed s (s.raiseNow x) := by
  unfold State.raiseNow
  split_ifs with hfree
  · exact .refl _ _
  · have hcalls : callsOf ((s.countAbandon x).setMarks (insertMark x.mark s.marks)) =
        { callsOf s with marks := insertMark x.mark (callsOf s).marks } :=
      Calls.ext (by simp [callsOf]) (by simp [callsOf]) (by simp [callsOf]) (by simp [callsOf])
    rw [Moving, hcalls]
    refine .mark x.mark fun c hc hst => hfree ?_
    rw [callsOf_ctx] at hst
    cases x <;> simp_all [Raise.mark, State.raiseOfFree, Fin.val_inj]

theorem filterMarks_moving (p : Nat × Nat → Bool) : Moving owed s (s.setMarks (s.marks.filter p)) := by
  have hcalls : callsOf (s.setMarks (s.marks.filter p)) = { callsOf s with marks := (callsOf s).marks.filter p } :=
    Calls.ext (by simp [callsOf]) (by simp [callsOf]) (by simp [callsOf]) (by simp [callsOf])
  rw [Moving, hcalls]
  exact .unmark p

theorem callsOf_clearAbandon (index : Nat) : callsOf (s.clearAbandon index) = callsOf s := by simp [callsOf]

theorem callsOf_modService (t : Trunk) (f : Service → Service) : callsOf (s.modService t f) = callsOf s := by
  simp [callsOf]

theorem startNotice_moving (m : Nat × Nat) : Moving owed s (s.startNotice m) := by
  have hclear : Moving owed s (s.clearMark m) := by
    unfold State.clearMark
    dsimp only
    split_ifs
    · exact (filterMarks_moving s _).trans (Moving.of_eq (callsOf_clearAbandon _ _))
    · exact filterMarks_moving s _
  exact hclear.trans (Moving.of_eq (callsOf_modService _ _ _))

theorem callsOf_wakeNotice : callsOf s.wakeNotice = callsOf s := by simp [callsOf]

theorem exec_moving_notices {i : Instr} {s t : State} (hi : chapterOf i = .notices) (h : exec i s = .next t) :
    Moving owed s t := by
  cases i <;> cases hi <;> injection h with h <;> subst h
  case noticeStart =>
    refine take_moving s .noticeStart ?_
    split_ifs
    · split
      · exact startNotice_moving _ _
      · exact .refl _ _
    · exact .refl _ _
  case noticeRaise x =>
    exact take_moving s _ ((raiseNow_moving _ x).trans (Moving.of_eq (callsOf_wakeNotice _)))
  all_goals
    refine Moving.of_eq ?_
    (repeat' split) <;> simp [callsOf]

/-! ### Trunks (06) -/

theorem callsOf_workStream (t : Trunk) (fuel : Nat) : callsOf (s.workStream t fuel) = callsOf s :=
  workStream_keeps callsOf (fun _ _ => by simp [callsOf]) (fun _ _ => by simp [callsOf]) t fuel s

theorem exec_moving_trunks {i : Instr} {s t : State} (hi : chapterOf i = .trunks) (h : exec i s = .next t) :
    Moving owed s t := by
  cases i <;> cases hi <;> injection h with h <;> subst h
  case trunkFrameReceive k received =>
    refine Moving.of_eq ?_
    rw [callsOf_workStream]
    simp [callsOf, modTrunk_poolOf]
  case failover k =>
    split_ifs
    · exact endFailover_moving s k _
    · exact Moving.of_eq (callsOf_take s _)
  case trunkStateReport k st => exact take_moving s _ (trunkReport_moving _ k st)
  all_goals
    refine Moving.of_eq ?_
    (repeat' split) <;> simp [callsOf, modTrunk_poolOf]

/-! ### Loops, feeds and posts (01, 02, 03) -/

theorem exec_moving_loops {i : Instr} {s t : State} (hi : chapterOf i = .loops) (h : exec i s = .next t) :
    Moving owed s t := by
  cases i <;> cases hi <;> injection h with h <;> subst h
  all_goals
    refine Moving.of_eq ?_
    (repeat' split) <;> simp [callsOf]

theorem exec_moving_feeds {i : Instr} {s t : State} (hi : chapterOf i = .feeds) (h : exec i s = .next t) :
    Moving owed s t := by
  cases i <;> cases hi <;> injection h with h <;> subst h
  all_goals
    refine Moving.of_eq ?_
    (repeat' split) <;> simp [callsOf]

theorem exec_moving_posts {i : Instr} {s t : State} (hi : chapterOf i = .posts) (h : exec i s = .next t) :
    Moving owed s t := by
  cases i <;> cases hi <;> injection h with h <;> subst h
  all_goals exact Moving.of_eq (by simp [callsOf])

/-! ### Time (R77, R94, R97, R105) -/

theorem isRunning_tick (t : Timer) : t.tick.isRunning = t.isRunning := by
  cases t <;> rfl

theorem coreOf_tick (x : Ctx) : coreOf x.tick = coreOf x := by
  simp [coreOf, Ctx.tick, isRunning_tick]

theorem tickCtx_moving (c : CtxId) : Moving owed s (s.tickCtx c) := by
  rw [Moving, State.tickCtx]
  simp only [callsOf_handIf, callsOf_setCtx]
  exact .goOn c ⟨coreOf_tick _, fun h => .inl (by rwa [Ctx.tick, isRunning_tick] at h)⟩

theorem tick_moving : Moving owed s s.tick := by
  refine .trans (Moving.of_eq ?_) (foldl_moving (fun u c => tickCtx_moving u c) _ _)
  simp [callsOf]

end
end Sys2Proof.CallContexts
end

section
/-! The requests of the management (09) as moves, and the invariants of the calls, the waiting list, the channels and the
pending notices. -/

namespace Sys2Proof.CallContexts

open Sys2Proof Sys2Proof.Machine
open Sys2Proof.PostDirectory (modCtx_ctx_eq freeCtx_ctx chapterOf callReport_eq_some readTable_st readMap_st readFault_st
  requestOf_of_chapterOf exec_of_requestOf step_cases)

section
variable {owed : Trunk → ChanId → Prop} (s : State)

/-! ### Section restart (R88, R174) -/

theorem releaseBySection_ctx_of_ne {c d : CtxId} (h : c ≠ d) : (s.releaseBySection c).ctx d = s.ctx d := by
  unfold State.releaseBySection
  split
  · rfl
  · simp [freeCtx_ctx, h, State.clearFields, modCtx_ctx_eq]

theorem releaseBySection_state (c : CtxId) : ((s.releaseBySection c).ctx c).state = .free := by
  unfold State.releaseBySection
  split
  · assumption
  · simp [freeCtx_ctx]

theorem leave_setCtx_leave (v : Calls) (c : CtxId) (x : Ctx) : ((v.leave c).setCtx c x).leave c = (v.setCtx c x).leave c :=
  Calls.ext rfl (by simp [List.filter_filter]) rfl rfl

theorem releaseBySection_moving (howed : ∀ k n, owed k n) (c : CtxId) : Moving owed s (s.releaseBySection c) := by
  unfold State.releaseBySection
  split
  · exact .refl _ _
  · have hstop : Moves owed (callsOf s) (((callsOf s).leave c).setCtx c { s.ctx c with
        state := .clearing, offerTimer := .stopped, holdRunning := false, retryTimer := .stopped, primary := none
        second := none, cause := some .sectionRestart }) := .stop c _ fun _ _ => howed _ _
    have hfree := hstop.trans (.free c (by simp))
    have hctx : (((s.withdrawAck c).clearFields c .sectionRestart).setLamp c .cleared).ctx c = { s.ctx c with
        state := .clearing, offerTimer := .stopped, holdRunning := false, retryTimer := .stopped, primary := none
        second := none, cause := some .sectionRestart } := by
      rw [State.setLamp_ctx, State.clearFields, modCtx_ctx_eq, if_pos rfl, State.withdrawAck_ctx]
    rw [leave_setCtx_leave, Calls.setCtx_ctx, if_pos rfl] at hfree
    rw [Moving, State.freeCtx, callsOf_dropCtxMarks, callsOf_stopPlayer, callsOf_modCtx, callsOf_leaveWaiting,
      State.leaveWaiting_ctx, hctx, callsOf_setLamp, State.clearFields, callsOf_modCtx, callsOf_withdrawAck,
      State.withdrawAck_ctx]
    exact hfree

theorem foldl_releaseBySection_state (d : CtxId) :
    ((allCtxs.foldl (fun s c => s.releaseBySection c) s).ctx d).state = .free := by
  have hfold (cs : List CtxId) (u : State) (h : (u.ctx d).state = .free ∨ d ∈ cs) :
      ((cs.foldl (fun s c => s.releaseBySection c) u).ctx d).state = .free := by
    induction cs generalizing u with
    | nil => simpa using h
    | cons c cs ih =>
      refine ih _ ?_
      by_cases hcd : c = d
      · exact .inl (hcd ▸ releaseBySection_state u c)
      · rw [releaseBySection_ctx_of_ne u hcd]
        exact h.imp_right fun hmem => (List.mem_cons.mp hmem).resolve_left (Ne.symm hcd)
  exact hfold allCtxs s (.inr (List.mem_finRange d))

theorem restartCalls_ctx_state (c : CtxId) : (s.restartCalls.ctx c).state = .free := by
  have hfree := foldl_releaseBySection_state s c
  unfold State.restartCalls
  generalize allCtxs.foldl (fun s c => s.releaseBySection c) s = u at hfree ⊢
  exact hfree

theorem restartCalls_moving (howed : ∀ k n, owed k n) : Moving owed s s.restartCalls := by
  have hall : Moving owed s (allCtxs.foldl (fun s c => s.releaseBySection c) s) :=
    foldl_moving (fun u c => releaseBySection_moving u howed c) _ s
  have hfree := foldl_releaseBySection_state s
  refine hall.trans ?_
  unfold State.restartCalls
  generalize allCtxs.foldl (fun s c => s.releaseBySection c) s = u at hfree ⊢
  have hcalls : callsOf { u with waiting := [], entryCount := 0 } = { callsOf u with waiting := [] } :=
    Calls.ext rfl rfl rfl (funext fun k => by cases k <;> rfl)
  rw [hcalls]
  exact .empty fun c hc => by simp [Ctx.isWaiting, callsOf_ctx, hfree c] at hc

/-- Every call dropped, and both pools freed. -/
theorem restartPools_moving : Moving owed s ((s.restartCalls.freePool .A).freePool .B) := by
  have hcalls : callsOf ((s.restartCalls.freePool .A).freePool .B) =
      { callsOf s.restartCalls with pools := fun k => poolOf (((s.restartCalls.freePool .A).freePool .B).trunk k) } :=
    Calls.ext (by simp [callsOf]) (by simp [callsOf]) (by simp [callsOf]) rfl
  have hmoving (extra : Trunk → ChanId → Prop) (hextra : ∀ k n, extra k n) :
      Moves (fun k n => owed k n ∨ extra k n) (callsOf s) (callsOf s.restartCalls) :=
    restartCalls_moving s fun k n => .inr (hextra k n)
  rw [Moving, hcalls]
  refine .settle (extra := fun _ _ => True) (hmoving _ fun _ _ => trivial) (fun hok _ c g hg => ?_)
    (fun k n hn => absurd trivial hn) (fun k n _ => ?_)
  · have hc := (hmoving _ fun _ _ => trivial).contextsOk hok c
    rw [callsOf_ctx] at hc hg
    simp only [Ctx.agrees, restartCalls_ctx_state] at hc
    obtain ⟨-, -, -, hprimary, hsecond, -⟩ := hc
    simp [Ctx.hasLeg, hprimary, hsecond] at hg
  · have hfreed : ∃ x : Channel, ((s.restartCalls.freePool .A).freePool .B).chan k n = x.release := by
      cases k with
      | A => exact ⟨_, (freePool_chan_of_ne _ (by decide) n).trans (State.freePool_chan _ _ n)⟩
      | B => exact ⟨_, State.freePool_chan _ _ n⟩
    obtain ⟨x, hx⟩ := hfreed
    rw [poolOf_getElem, hx]
    rcases x.release_st with hst | hst <;> simp [hst]

theorem callsOf_latchNow (x : Latch) : callsOf (s.latchNow x) = callsOf s := by simp [callsOf]

theorem restartNotices_moving : Moving owed s s.restartNotices := by
  have hcalls : callsOf { s with marks := [], abandons := Vector.replicate 104 0, abandonPosts := Vector.replicate 8 none } =
      { callsOf s with marks := (callsOf s).marks.filter (fun _ => false) } :=
    Calls.ext rfl rfl (by simp [callsOf]) (funext fun k => by cases k <;> rfl)
  have hdrop : Moving owed s
      { s with marks := [], abandons := Vector.replicate 104 0, abandonPosts := Vector.replicate 8 none } := by
    rw [Moving, hcalls]
    exact .unmark _
  rw [Moving, State.restartNotices, callsOf_wakeNotice, callsOf_latchNow]
  exact hdrop.trans (raiseNow_moving _ .restart)

theorem restartSection_moving : Moving owed s s.restartSection := by
  refine ((restartPools_moving s).trans (Moving.of_eq ?_)).trans (restartNotices_moving _)
  simp [callsOf]

/-! ### Feed actions and control (R172, R173) -/

theorem takeIf_callReport_moving (l : LoopId) (i : Instr) : Moving owed s (State.takeIf (callReport l) s i) := by
  unfold State.takeIf
  split
  next f hf =>
    obtain ⟨rfl, hi, -⟩ := callReport_eq_some hf
    unfold leftBy
    split
    next t ht => exact exec_moving_calls hi ht
    next => exact .refl _ _
  next => exact .refl _ _

theorem settleCalls_moving (l : LoopId) : Moving owed s (s.settleCalls l) := by
  have hall : Moving owed s (s.takeAll (callReport l)) := foldl_moving (fun u i => takeIf_callReport_moving u l i) _ s
  unfold State.settleCalls
  dsimp only
  split_ifs
  · exact hall
  · exact hall.trans (releaseLoop_moving _ l _)

theorem carryFeed_moving {s1 : State} (l : LoopId) (h : callsOf s1 = callsOf s) : Moving owed s (s.carryFeed s1 l) := by
  have hfeed : Moving owed s (s1.takeAll (feedReport l)) := Moving.of_eq ((by simp [callsOf] : _ = callsOf s1).trans h)
  unfold State.carryFeed
  dsimp only
  split_ifs
  · exact Moving.of_eq h
  · split
    · exact hfeed.trans (settleCalls_moving _ l)
    · exact hfeed.trans (settleCalls_moving _ l)
    · exact hfeed

theorem restartLoop_moving (l : LoopId) : Moving owed s (s.restartLoop l) := by
  have hquiet : Moving owed s ((s.setStale l).wakeScan l) := Moving.of_eq (by simp [callsOf])
  unfold State.restartLoop
  dsimp only
  split_ifs
  · exact (hquiet.trans (foldl_moving releaseByRestart_moving _ _)).trans (dispatch_moving _)
  · exact hquiet

theorem loopControl_moving (loop action : Nat) : Moving owed s (s.loopControl loop action).st := by
  unfold State.loopControl
  split
  · exact .refl _ _
  next l _ =>
    split
    · exact carryFeed_moving s l (by simp [callsOf])
    · exact carryFeed_moving s l (by simp [callsOf])
    · exact restartLoop_moving s l
    · exact Moving.of_eq (by simp [callsOf, State.carried])
    · exact .refl _ _

theorem onChannel_moving (chan : Nat) {act : ChanId → State} (h : ∀ n, Moving owed s (act n)) :
    Moving owed s (s.onChannel chan act).st := by
  unfold State.onChannel
  split
  · exact .refl _ _
  · exact h _

theorem trunkControl_moving (trunk action chan : Nat) : Moving owed s (s.trunkControl trunk action chan).st := by
  unfold State.trunkControl
  split
  · exact .refl _ _
  next t _ =>
    split
    · exact Moving.of_eq (by simp [callsOf, State.carried])
    · exact disableTrunk_moving s t
    · exact onChannel_moving s chan (blockChan_moving s t)
    · exact onChannel_moving s chan (unblockChan_moving s t)
    · exact .refl _ _

/-! ### Writes (R91, R151, R153, R170, R180) -/

theorem callsOf_setRoutes (routes : Vector (List Target) 64) : callsOf { s with routes := routes } = callsOf s :=
  callsOf_congr rfl rfl rfl fun k => by cases k <;> rfl

theorem callsOf_setPlan (plan : Fin 4) : callsOf { s with plan := plan } = callsOf s :=
  callsOf_congr rfl rfl rfl fun k => by cases k <;> rfl

theorem callsOf_setSettings (settings : Vector Nat 25) : callsOf { s with settings := settings } = callsOf s :=
  callsOf_congr rfl rfl rfl fun k => by cases k <;> rfl

theorem callsOf_setMask (mask : BitVec 12) : callsOf { s with mask := mask } = callsOf s :=
  callsOf_congr rfl rfl rfl fun k => by cases k <;> rfl

theorem storeRoute_moving (i : Fin 64) (ts : List Target) : Moving owed s (s.storeRoute i ts) :=
  (Moving.of_eq (callsOf_setRoutes s _)).trans (dispatch_moving _)

theorem writeRoute_moving (index : Nat) (ws : List TargetWrite) : Moving owed s (s.writeRoute index ws).st := by
  unfold State.writeRoute
  split
  · exact .refl _ _
  next i _ =>
    split
    · exact .refl _ _
    · split
      · exact .refl _ _
      · exact storeRoute_moving s i _
      · exact storeRoute_moving s i _

theorem holdLongAtOnce_moving (c : CtxId) : Moving owed s (s.holdLongAtOnce c) := by
  unfold State.holdLongAtOnce
  split_ifs
  · exact raiseHoldLong_moving s c
  · exact .refl _ _

theorem settingEffect_moving (p : Fin 25) : Moving owed s (s.settingEffect p) := by
  unfold State.settingEffect
  split_ifs
  · exact foldl_moving holdLongAtOnce_moving _ s
  · exact foldl_moving (fun u l => Moving.of_eq (by simp [callsOf])) _ s
  · exact .refl _ _

theorem writeSettings_moving (index value : Nat) : Moving owed s (s.writeSettings index value).st := by
  unfold State.writeSettings
  split
  · exact .refl _ _
  · exact ((Moving.of_eq (callsOf_setSettings s _)).trans (settingEffect_moving _ _)).trans (dispatch_moving _)

theorem writeMask_moving (index enables : Nat) : Moving owed s (s.writeMask index enables).st := by
  unfold State.writeMask
  split_ifs
  · exact (Moving.of_eq (callsOf_setMask s _)).trans (Moving.of_eq (callsOf_wakeNotice _))
  · exact .refl _ _

theorem setActivePlan_moving (plan : Nat) : Moving owed s (s.setActivePlan plan).st := by
  unfold State.setActivePlan
  split
  · exact .refl _ _
  · exact (Moving.of_eq (callsOf_setPlan s _)).trans (dispatch_moving _)

theorem clearFault_moving (kind index count flags : Nat) : Moving owed s (s.clearFault kind index count flags).st := by
  refine Moving.of_eq ?_
  unfold State.clearFault
  (repeat' split) <;> simp [callsOf, State.refuse]

theorem writeSegment_moving (index : Nat) (w : SegmentWrite) : Moving owed s (s.writeSegment index w).st := by
  refine Moving.of_eq ?_
  unfold State.writeSegment
  (repeat' split) <;> simp [callsOf, State.refuse, State.carried]

theorem writeSamples_moving (index : Nat) (codes : List Byte) : Moving owed s (s.writeSamples index codes).st := by
  refine Moving.of_eq ?_
  unfold State.writeSamples
  split_ifs <;> simp [callsOf, State.refuse, State.carried]

/-! ### Requests (R162 to R166) -/

theorem perform_moving (req : Request) : Moving owed s (s.perform req).st := by
  cases req with
  | loopControl loop action => exact loopControl_moving s loop action
  | trunkControl trunk action chan => exact trunkControl_moving s trunk action chan
  | clearFault kind index count flags => exact clearFault_moving s kind index count flags
  | writeDirectory index w => exact Moving.of_eq (by simp [callsOf, State.perform, State.writeSlot])
  | writeRoute index ws => exact writeRoute_moving s index ws
  | writeSegment index w => exact writeSegment_moving s index w
  | writeSamples index codes => exact writeSamples_moving s index codes
  | writeSettings index value => exact writeSettings_moving s index value
  | writeMask index enables => exact writeMask_moving s index enables
  | setPlan plan => exact setActivePlan_moving s plan
  | sectionRestart => simpa only [State.perform, State.carried] using restartSection_moving s
  | readTable table index => exact Moving.of_eq (by simp only [State.perform, readTable_st])
  | readMap loop => exact Moving.of_eq (by simp only [State.perform, readMap_st])
  | readFault kind index => exact Moving.of_eq (by simp only [State.perform, readFault_st])
  | readStatus | readCalls | writeUnknown => exact .refl _ _

theorem callsOf_setHome (t : Trunk) : callsOf (s.setHome t) = callsOf s := by simp [callsOf]

theorem callsOf_makeReply (t : Trunk) (r : Reply) : callsOf (s.makeReply t r) = callsOf s := by simp [callsOf]

theorem execute_moving (t : Trunk) (req : Request) : Moving owed s (s.execute t req) := by
  rw [Moving, State.execute, callsOf_makeReply, callsOf_modService]
  exact (Moving.of_eq (callsOf_setHome s t)).trans (perform_moving _ req)

theorem accept_moving (t : Trunk) (req : Request) : Moving owed s (s.accept t req) := by
  unfold State.accept
  split
  · exact execute_moving s t req
  · exact Moving.of_eq (callsOf_modService s t _)
  · exact Moving.of_eq (callsOf_latch s _)

theorem afterReply_moving (t : Trunk) : Moving owed s (s.afterReply t) := by
  unfold State.afterReply
  split
  · exact (Moving.of_eq (callsOf_modService s t _)).trans (execute_moving _ t _)
  · split_ifs
    · exact Moving.of_eq (callsOf_wakeNotice s)
    · exact .refl _ _

theorem exec_moving_reply {i : Instr} {s t : State} (hi : chapterOf i = .reply) (h : exec i s = .next t) :
    Moving owed s t := by
  cases i <;> cases hi
  case replyComplete k =>
    injection h with h
    subst h
    refine take_moving s (.replyComplete k) ?_
    split_ifs
    · exact (Moving.of_eq (callsOf_modService _ k _)).trans (afterReply_moving _ k)
    · exact .refl _ _

/-! ### Steps -/

/-- Every command but POWER_ON moves the calls. -/
theorem exec_moving {i : Instr} {s t : State} (hi : chapterOf i ≠ .power) (h : exec i s = .next t) : Moving owed s t := by
  cases hc : chapterOf i with
  | power => exact absurd hc hi
  | reply => exact exec_moving_reply hc h
  | requests =>
    obtain ⟨k, req, hreq⟩ := requestOf_of_chapterOf hc
    rw [exec_of_requestOf hreq] at h
    injection h with h
    subst h
    exact take_moving s i (accept_moving _ k req)
  | calls => exact exec_moving_calls hc h
  | loops => exact exec_moving_loops hc h
  | feeds => exact exec_moving_feeds hc h
  | posts => exact exec_moving_posts hc h
  | desks => exact exec_moving_desks hc h
  | trunks => exact exec_moving_trunks hc h
  | voice => exact exec_moving_voice hc h
  | notices => exact exec_moving_notices hc h

theorem callsOf_supplyLow : callsOf s.supplyLow = callsOf s := by simp [callsOf]

/-- POWER_ON leaves the calls at their reset. -/
theorem exec_powerOn_calls {i : Instr} {s t : State} (hi : chapterOf i = .power) (h : exec i s = .next t) :
    callsOf t = callsOf State.reset := by
  cases i <;> cases hi
  injection h with h
  subst h
  have hpowered (level : Nat) : callsOf (s.powered level) = callsOf State.reset :=
    callsOf_congr rfl rfl rfl fun k => by cases k <;> rfl
  split_ifs
  · exact (callsOf_supplyLow _).trans (hpowered _)
  · exact hpowered _

/-- What every move keeps and the reset state has, every step keeps. -/
theorem step_keeps {P : Calls → Prop} (hmoves : ∀ v w, Moves (fun _ _ => False) v w → P v → P w)
    (hreset : P (callsOf State.reset)) {s s' : State} (h : step s = .next s') (hs : P (callsOf s)) : P (callsOf s') := by
  have hexec {i : Instr} {s t : State} (h : exec i s = .next t) (hs : P (callsOf s)) : P (callsOf t) := by
    by_cases hi : chapterOf i = .power
    · rwa [exec_powerOn_calls hi h]
    · exact hmoves _ _ (exec_moving hi h) hs
  rcases step_cases h with ⟨i, rest, -, h⟩ | ⟨i, rest, -, h⟩ | htick
  · have hpending : callsOf { s with pending := rest } = callsOf s :=
      callsOf_congr rfl rfl rfl fun k => by cases k <;> rfl
    exact hexec h (hpending ▸ hs)
  · exact hexec h hs
  · rw [htick]
    exact hmoves _ _ (tick_moving s) hs

theorem channelsOk_iff : s.channelsOk ↔ (callsOf s).channelsOk (fun _ _ => False) := by
  simp only [State.channelsOk, Calls.channelsOk, callsOf_chan, false_or]
  rfl

end

/-! ### The reset state -/

theorem reset_ctx (c : CtxId) : (callsOf State.reset).ctx c = Ctx.reset := by
  simp [callsOf_ctx, State.ctx, State.reset]

theorem reset_chan (k : Trunk) (n : ChanId) : (callsOf State.reset).chan k n = .free := by
  rw [callsOf_chan]
  cases k <;> simp [State.chan, State.trunk, State.reset, TrunkIf.reset]

theorem reset_contextsOk : (callsOf State.reset).contextsOk := fun c => by
  rw [reset_ctx]
  simp [Ctx.agrees, Ctx.reset, Timer.isRunning]

theorem reset_waitingOk : (callsOf State.reset).waitingOk := by
  have hnone : (callsOf State.reset).waiting = [] := rfl
  refine ⟨hnone ▸ List.nodup_nil, fun c => ?_⟩
  rw [hnone, reset_ctx]
  simp [Ctx.isWaiting, Ctx.reset]

theorem reset_waitingSorted : (callsOf State.reset).waitingSorted := List.Pairwise.nil

theorem reset_channelsOk : (callsOf State.reset).channelsOk (fun _ _ => False) := by
  have hleg (c : CtxId) (g : Leg) : ¬ ((callsOf State.reset).ctx c).hasLeg g := by
    simp [reset_ctx, Ctx.reset, Ctx.hasLeg]
  exact ⟨fun c g h => absurd (.inl h) (hleg c g), fun c g h => absurd (.inr h) (hleg c g),
    fun c _ g _ h => absurd h (hleg c g), fun k n h => by simp [reset_chan] at h⟩

theorem reset_marksOk : (callsOf State.reset).marksOk := by
  refine ⟨List.pairwise_singleton _ _, fun c _ => ?_⟩
  simp [callsOf, State.reset]

/-! ### The obligations -/

/-- Settles O5: no move of the call manager leaves a context whose fields disagree with its state. -/
theorem everyStepKeepsTheContexts : Obligations.EveryStepKeepsTheContexts := fun _ _ hs h =>
  step_keeps (P := Calls.contextsOk) (fun _ _ hm hv => hm.contextsOk hv) reset_contextsOk h hs

/-- Settles O6: a move that changes whether a context waits puts it into the list or takes it out. -/
theorem everyStepKeepsTheWaitingList : Obligations.EveryStepKeepsTheWaitingList := fun _ _ hs h =>
  step_keeps (P := Calls.waitingOk) (fun _ _ hm hv => hm.waitingOk hv) reset_waitingOk h hs

/-- Settles O38: each invariant is kept by every move that also keeps the one it rests on. -/
theorem everyStepKeepsTheOrderTheChannelsAndTheMarks : Obligations.EveryStepKeepsTheOrderTheChannelsAndTheMarks := by
  refine ⟨fun s s' hok hs h => ?_, fun s s' hok hs h => ?_, fun s s' hs h => ?_⟩
  · exact (step_keeps (P := fun v => v.waitingOk ∧ v.waitingSorted)
      (fun _ _ hm hv => ⟨hm.waitingOk hv.1, hm.waitingSorted hv.1 hv.2⟩) ⟨reset_waitingOk, reset_waitingSorted⟩ h ⟨hok, hs⟩).2
  · rw [channelsOk_iff] at hs ⊢
    exact (step_keeps (P := fun v => v.contextsOk ∧ v.channelsOk (fun _ _ => False))
      (fun _ _ hm hv => ⟨hm.contextsOk hv.1, hm.channelsOk hv.1 hv.2⟩) ⟨reset_contextsOk, reset_channelsOk⟩ h ⟨hok, hs⟩).2
  · exact step_keeps (P := Calls.marksOk) (fun _ _ hm hv => hm.marksOk hv) reset_marksOk h hs

end Sys2Proof.CallContexts
end

section
/-! Where the posts of the calls stand, what a command record set shows in its loop, and what the call manager hands
(R10, R69, R84). -/

namespace Sys2Proof.CallContexts

open Sys2Proof Sys2Proof.Machine

/-! ### Events handed -/

/-- Only events of one kind have been handed. -/
def Hands (P : Instr → Prop) (s t : State) : Prop := ∃ more, t.handed = s.handed ++ more ∧ ∀ i ∈ more, P i

section
variable {P Q : Instr → Prop} {s t u : State}

theorem Hands.of_eq (h : t.handed = s.handed) : Hands P s t := ⟨[], by rw [h, List.append_nil], by simp⟩

theorem Hands.trans (h : Hands P s t) (h' : Hands P t u) : Hands P s u := by
  obtain ⟨more, hmore, hP⟩ := h
  obtain ⟨more', hmore', hP'⟩ := h'
  refine ⟨more ++ more', by rw [hmore', hmore, List.append_assoc], fun i hi => ?_⟩
  exact (List.mem_append.mp hi).elim (hP i) (hP' i)

theorem Hands.mono (h : Hands P s t) (hPQ : ∀ i, P i → Q i) : Hands Q s t := by
  obtain ⟨more, hmore, hP⟩ := h
  exact ⟨more, hmore, fun i hi => hPQ i (hP i hi)⟩

theorem Hands.mem (h : Hands P s t) {i : Instr} (hi : i ∈ s.handed) : i ∈ t.handed := by
  obtain ⟨more, hmore, -⟩ := h
  rw [hmore]
  exact List.mem_append_left _ hi

theorem hands_hand {i : Instr} (hi : P i) : Hands P s (s.hand i) := ⟨[i], rfl, by simpa using hi⟩

end

/-- A pick of the scan scheduler of a loop. -/
def IsPick (l : LoopId) (i : Instr) : Prop := i = .scanPick l

section
variable (s : State)

theorem wakeScan_hands (l : LoopId) : Hands (IsPick l) s (s.wakeScan l) := by
  unfold State.wakeScan State.handOnce
  split_ifs
  · exact .of_eq rfl
  · exact hands_hand rfl
  · exact .of_eq rfl

theorem setLampAt_hands (l : LoopId) (pos : Nat) (lamp : Lamp) : Hands (IsPick l) s (s.setLampAt l pos lamp) :=
  (Hands.of_eq (by simp)).trans (wakeScan_hands _ l)

theorem setLamp_hands (c : CtxId) (lamp : Lamp) : Hands (IsPick (s.ctx c).loop) s (s.setLamp c lamp) := by
  unfold State.setLamp
  split_ifs
  · exact setLampAt_hands s _ _ _
  · exact .of_eq rfl

theorem assignBearer_hands (l : LoopId) (pos : Nat) (b : BearerId) : Hands (IsPick l) s (s.assignBearer l pos b) :=
  (Hands.of_eq (by simp)).trans (wakeScan_hands _ l)

theorem releaseBearer_hands (l : LoopId) (b : BearerId) : Hands (IsPick l) s (s.releaseBearer l b) := by
  unfold State.releaseBearer
  split_ifs
  · exact (Hands.of_eq (by simp)).trans (wakeScan_hands _ l)
  · exact .of_eq rfl

theorem releaseHeld_hands (c : CtxId) : Hands (IsPick (s.ctx c).loop) s (s.releaseHeld c) := by
  unfold State.releaseHeld
  split
  · split_ifs
    · exact releaseBearer_hands s _ _
    · exact .of_eq rfl
  · exact .of_eq rfl

theorem pushSig_hands (t : Trunk) (m : SigMsg) :
    Hands (fun i => i = .faultLatch (.trunk t .sigError)) s (s.pushSig t m) := by
  unfold State.pushSig
  split_ifs
  · exact .of_eq (by simp)
  · exact hands_hand rfl

/-! ### Picks (R10) -/

theorem idle_iff (L : Loop) : L.idle = true ↔ L.flight = none ∧ L.guard.isRunning = false ∧ L.state.scans := by
  simp [Loop.idle, and_assoc]

theorem wakeScan_pickHanded (l : LoopId) : PickHanded (s.wakeScan l) l := fun hflight hguard hscans => by
  rw [State.wakeScan_loop] at hflight hguard hscans
  exact s.mem_wakeScan l ((idle_iff _).mpr ⟨hflight, hguard, hscans⟩)

/-- A pick handed stays handed as long as the loop's scheduler is not touched. -/
theorem PickHanded.mono {P : Instr → Prop} {s t : State} {l : LoopId} (h : PickHanded s l) (hands : Hands P s t)
    (hflight : (t.loop l).flight = (s.loop l).flight) (hguard : (t.loop l).guard = (s.loop l).guard)
    (hstate : (t.loop l).state = (s.loop l).state) : PickHanded t l := fun hf hg hs => by
  rw [hflight] at hf
  rw [hguard] at hg
  rw [hstate] at hs
  exact hands.mem (h hf hg hs)

/-! ### Rebuild reports on their way (R84) -/

/-- The event is no rebuild report. -/
def NoRebuild (i : Instr) : Prop := ∀ l epoch passes freed, i ≠ .rebuildReport l epoch passes freed

/-- The passes that an event brings a loop. -/
def passesOf (l : LoopId) (i : Instr) : Option (List (Option (Nat × Tie))) :=
  match i with
  | .rebuildReport m _ passes _ => if m = l then some passes else none
  | _ => none

theorem passesDue_eq (l : LoopId) : s.passesDue l = s.handed.filterMap (passesOf l) := rfl

theorem passesOf_of_noRebuild {l : LoopId} {i : Instr} (h : NoRebuild i) : passesOf l i = none := by
  unfold passesOf
  split
  · exact absurd rfl (h _ _ _ _)
  · rfl

theorem passesDue_take {i : Instr} (hi : NoRebuild i) (l : LoopId) : (s.take i).passesDue l = s.passesDue l := by
  have herase (is : List Instr) : (is.erase i).filterMap (passesOf l) = is.filterMap (passesOf l) := by
    induction is with
    | nil => rfl
    | cons j is ih =>
      rw [List.erase_cons]
      split_ifs with h
      · rw [beq_iff_eq] at h
        rw [h, List.filterMap_cons_none (passesOf_of_noRebuild hi)]
      · simp only [List.filterMap_cons, ih]
  exact herase s.handed

theorem Hands.passesDue {P : Instr → Prop} {s t : State} (h : Hands P s t) (hP : ∀ i, P i → NoRebuild i) (l : LoopId) :
    t.passesDue l = s.passesDue l := by
  obtain ⟨more, hmore, hmem⟩ := h
  have hnone : more.filterMap (passesOf l) = [] :=
    List.filterMap_eq_nil_iff.mpr fun i hi => passesOf_of_noRebuild (hP i (hmem i hi))
  rw [passesDue_eq, hmore, List.filterMap_append, hnone, List.append_nil]
  rfl

theorem noRebuild_of_isPick {l : LoopId} {i : Instr} (h : IsPick l i) : NoRebuild i := fun _ _ _ _ he => by
  rw [IsPick.eq_def] at h
  cases h.symm.trans he

theorem take_nowAt {i : Instr} (hi : NoRebuild i) (l : LoopId) (pos : Nat) : (s.take i).nowAt l pos = s.nowAt l pos :=
  State.nowAt_congr _ _ _ _ (passesDue_take s hi l)

/-! ### Command records (R7, R8) -/

/-- A loop with the command record of one entry set. -/
def cmdSet (pos : Nat) (f : CmdRec → CmdRec) (L : Loop) : Loop :=
  if pos = 0 then L else { L with map := L.map.modify (pos - 1) (fun e => { e with cmd := f e.cmd }) }

theorem cmdSet_of_ne_zero {pos : Nat} (h : pos ≠ 0) (f : CmdRec → CmdRec) (L : Loop) : cmdSet pos f L =
    { L with map := L.map.modify (pos - 1) (fun e => { e with cmd := f e.cmd }) } := if_neg h

theorem cmdSet_eq (pos : Nat) (f : CmdRec → CmdRec) (L : Loop) : cmdSet pos f L = { L with map := (cmdSet pos f L).map } := by
  unfold cmdSet
  split_ifs <;> rfl

@[simp] theorem cmdSet_bearers (pos : Nat) (f : CmdRec → CmdRec) (L : Loop) : (cmdSet pos f L).bearers = L.bearers := by
  rw [cmdSet_eq]

@[simp] theorem cmdSet_state (pos : Nat) (f : CmdRec → CmdRec) (L : Loop) : (cmdSet pos f L).state = L.state := by
  rw [cmdSet_eq]

theorem cmdSet_getElem? (pos : Nat) (f : CmdRec → CmdRec) (L : Loop) (k : Nat) :
    (cmdSet pos f L).map[k]? = L.map[k]?.map (fun e => { e with cmd := if pos = k + 1 then f e.cmd else e.cmd }) := by
  by_cases h : pos = 0
  · have hne : pos ≠ k + 1 := by omega
    simp [cmdSet, h]
  · have hiff : pos - 1 = k ↔ pos = k + 1 := by omega
    rw [cmdSet_of_ne_zero h]
    simp only [List.getElem?_modify, hiff]
    split_ifs <;> simp

theorem cmdSet_cmdSet (pos : Nat) (f g : CmdRec → CmdRec) (L : Loop) :
    cmdSet pos g (cmdSet pos f L) = cmdSet pos (fun r => g (f r)) L := by
  by_cases h : pos = 0
  · simp [cmdSet, h]
  · rw [cmdSet_of_ne_zero h, cmdSet_of_ne_zero h, cmdSet_of_ne_zero h, List.modify_modify_eq]
    rfl

theorem cmdSet_map_map {α : Type} (g : MapEntry → α) (pos : Nat) (f : CmdRec → CmdRec) (L : Loop)
    (hg : ∀ e : MapEntry, g { e with cmd := f e.cmd } = g e) : (cmdSet pos f L).map.map g = L.map.map g := by
  apply List.ext_getElem?
  intro k
  rw [List.getElem?_map, List.getElem?_map, cmdSet_getElem?, Option.map_map]
  congr 1
  funext e
  simp only [Function.comp_apply]
  split_ifs
  · exact hg e
  · rfl

theorem modCmd_loop (l m : LoopId) (pos : Nat) (f : CmdRec → CmdRec) :
    (s.modCmd l pos f).loop m = if l = m then cmdSet pos f (s.loop m) else s.loop m := by
  unfold State.modCmd State.modEntry cmdSet
  by_cases hpos : pos = 0
  · simp [hpos]
  · by_cases hl : l = m
    · subst hl; simp [hpos]
    · simp [hpos, hl, State.modLoop_loop_of_ne]

/-- The command record's lamp set. -/
def withLamp (lamp : Lamp) (r : CmdRec) : CmdRec := { r with desiredLamp := lamp }

theorem setLampAt_loop (l m : LoopId) (pos : Nat) (lamp : Lamp) :
    (s.setLampAt l pos lamp).loop m = if l = m then cmdSet pos (withLamp lamp) (s.loop m) else s.loop m := by
  rw [State.setLampAt, State.wakeScan_loop]
  exact modCmd_loop s l m pos (withLamp lamp)

theorem setAck_loop (l m : LoopId) (pos : Nat) : (s.setAck l pos).loop m =
    if l = m then cmdSet pos (fun r => { r with ackReq := true }) (s.loop m) else s.loop m := by
  rw [State.setAck, State.wakeScan_loop, modCmd_loop]

theorem setLamp_loop (c : CtxId) (lamp : Lamp) (m : LoopId) : (s.setLamp c lamp).loop m =
    if (s.keyEntry c).isSome ∧ (s.ctx c).loop = m then cmdSet (s.keyPos c) (withLamp lamp) (s.loop m) else s.loop m := by
  unfold State.setLamp
  by_cases h : (s.keyEntry c).isSome
  · simp only [h, if_true, true_and, setLampAt_loop]
  · simp [h]

theorem withdrawAck_loop (c : CtxId) (m : LoopId) : (s.withdrawAck c).loop m =
    if (s.keyEntry c).isSome ∧ (s.ctx c).loop = m then cmdSet (s.keyPos c) (fun r => { r with ackReq := false }) (s.loop m)
    else s.loop m := by
  unfold State.withdrawAck
  by_cases h : (s.keyEntry c).isSome
  · simp only [h, if_true, true_and, modCmd_loop]
  · simp [h]

theorem setBearer_loop (l m : LoopId) (b : BearerId) (x : Bearer) : (s.setBearer l b x).loop m =
    if l = m then { s.loop m with bearers := (s.loop m).bearers.set b x } else s.loop m := by
  rw [State.setBearer]
  by_cases h : l = m
  · subst h; simp
  · simp [h, State.modLoop_loop_of_ne]

theorem assignBearer_loop (l m : LoopId) (pos : Nat) (b : BearerId) : (s.assignBearer l pos b).loop m =
    if l = m then cmdSet pos (fun r => { r with desiredBearer := some b })
      { s.loop m with bearers := (s.loop m).bearers.set b ⟨.assigning, pos⟩ } else s.loop m := by
  rw [State.assignBearer, State.wakeScan_loop, modCmd_loop, setBearer_loop]
  split_ifs <;> rfl

theorem releaseBearer_loop (l m : LoopId) (b : BearerId) : (s.releaseBearer l b).loop m =
    if l = m ∧ ((s.bearer l b).st = .assigning ∨ (s.bearer l b).st = .live) then
      cmdSet (s.bearer l b).entry (fun r => { r with desiredBearer := none })
        { s.loop m with bearers := (s.loop m).bearers.set b ⟨.releasing, (s.bearer l b).entry⟩ }
    else s.loop m := by
  unfold State.releaseBearer
  by_cases hst : (s.bearer l b).st = .assigning ∨ (s.bearer l b).st = .live
  · rw [if_pos hst, State.wakeScan_loop, modCmd_loop, setBearer_loop]
    simp only [hst, and_true]
    split_ifs <;> rfl
  · rw [if_neg hst, if_neg fun h => hst h.2]

/-! ### The entry of a post (R69) -/

/-- The loop, the entry and the plate of a context's post. -/
def postOf (x : Ctx) : LoopId × Nat × Byte := (x.loop, x.entry, x.plate)

/-- The post of a context, and the plates of the map, stand as they did. -/
def Standing (c : CtxId) (s t : State) : Prop :=
  (∀ l, t.passesDue l = s.passesDue l) ∧ postOf (t.ctx c) = postOf (s.ctx c) ∧
  ∀ l, (t.loop l).map.map (·.plate) = (s.loop l).map.map (·.plate)

theorem Standing.trans {c : CtxId} {s t u : State} (h : Standing c s t) (h' : Standing c t u) : Standing c s u := by
  obtain ⟨hdue, hpost, hplates⟩ := h
  obtain ⟨hdue', hpost', hplates'⟩ := h'
  exact ⟨fun l => (hdue' l).trans (hdue l), hpost'.trans hpost, fun l => (hplates' l).trans (hplates l)⟩

theorem keyEntry_isSome_iff (c : CtxId) : (s.keyEntry c).isSome ↔
    (s.entryAt (s.ctx c).loop (s.keyPos c)).map (·.plate) = some (s.ctx c).plate := by
  unfold State.keyEntry State.entryWith
  split
  next e he =>
    rw [he, Option.map_some, Option.some.injEq]
    split_ifs with hplate <;> simp [hplate]
  next he => simp [he]

section
variable {c : CtxId} {s t : State} (h : Standing c s t)
include h

theorem Standing.ctx_loop : (t.ctx c).loop = (s.ctx c).loop := by
  obtain ⟨-, hpost, -⟩ := h
  exact congrArg Prod.fst hpost

theorem Standing.keyPos : t.keyPos c = s.keyPos c := by
  obtain ⟨hdue, hpost, -⟩ := h
  simp only [postOf, Prod.mk.injEq] at hpost
  obtain ⟨hloop, hentry, -⟩ := hpost
  exact State.keyPos_congr _ _ _ (by rw [hdue, hloop]) hentry

theorem Standing.entryAt_plate (l : LoopId) (pos : Nat) :
    (t.entryAt l pos).map (·.plate) = (s.entryAt l pos).map (·.plate) := by
  obtain ⟨-, -, hplates⟩ := h
  unfold State.entryAt
  split_ifs
  · rfl
  · rw [← List.getElem?_map, ← List.getElem?_map, hplates]

theorem Standing.keyEntry_isSome : (t.keyEntry c).isSome = (s.keyEntry c).isSome := by
  have hpos := h.keyPos
  have hentry := h.entryAt_plate (s.ctx c).loop (s.keyPos c)
  obtain ⟨-, hpost, -⟩ := h
  simp only [postOf, Prod.mk.injEq] at hpost
  obtain ⟨hloop, -, hplate⟩ := hpost
  rw [Bool.eq_iff_iff, keyEntry_isSome_iff, keyEntry_isSome_iff, hpos, hloop, hplate, hentry]

end

/-- What hands no rebuild report and leaves the loops and the context's post leaves where the post stands. -/
theorem Standing.of_loops {P : Instr → Prop} {c : CtxId} {s t : State} (hands : Hands P s t) (hP : ∀ i, P i → NoRebuild i)
    (hctx : postOf (t.ctx c) = postOf (s.ctx c)) (hloop : ∀ l, t.loop l = s.loop l) : Standing c s t :=
  ⟨hands.passesDue hP, hctx, fun l => by rw [hloop]⟩

theorem keyEntry_eq_some {c : CtxId} {e : MapEntry} (h : s.keyEntry c = some e) :
    s.entryAt (s.ctx c).loop (s.keyPos c) = some e ∧ e.plate = (s.ctx c).plate := by
  unfold State.keyEntry State.entryWith at h
  split at h
  next e' he =>
    split_ifs at h with hplate
    obtain rfl := Option.some.inj h
    exact ⟨he, hplate⟩
  next => cases h

theorem entryAt_ne_zero {l : LoopId} {pos : Nat} {e : MapEntry} (h : s.entryAt l pos = some e) : pos ≠ 0 := fun h0 => by
  rw [State.entryAt, if_pos h0] at h
  cases h

theorem entryAt_eq {pos : Nat} (h : pos ≠ 0) (l : LoopId) : s.entryAt l pos = (s.loop l).map[pos - 1]? := if_neg h

theorem entryAt_setLampAt {l : LoopId} {pos : Nat} {e : MapEntry} (he : s.entryAt l pos = some e) (lamp : Lamp) :
    (s.setLampAt l pos lamp).entryAt l pos = some { e with cmd := withLamp lamp e.cmd } := by
  have hpos := entryAt_ne_zero s he
  rw [entryAt_eq s hpos] at he
  rw [entryAt_eq _ hpos, setLampAt_loop, if_pos rfl, cmdSet_getElem?, he, Option.map_some, if_pos (by omega)]

/-- A lamp set for the post of a context shows in its entry. -/
theorem setLamp_toShow {c : CtxId} {s u : State} (h : Standing c s u) (lamp : Lamp) :
    ToShow c lamp s (u.setLamp c lamp) := by
  intro e he
  have hsome : (u.keyEntry c).isSome := by rw [h.keyEntry_isSome, he]; rfl
  obtain ⟨e', he'⟩ := Option.isSome_iff_exists.mp hsome
  obtain ⟨hentry, -⟩ := keyEntry_eq_some u he'
  rw [State.setLamp, if_pos hsome, ← h.ctx_loop, ← h.keyPos, entryAt_setLampAt u hentry]
  rfl

end
end Sys2Proof.CallContexts
end

section
/-! A bearer that is LIVE makes its holder eligible (R72), and what dispatch does with one context (R93 to R98). -/

namespace Sys2Proof.CallContexts

open Sys2Proof Sys2Proof.Machine
open Sys2Proof.PostDirectory (modCtx_ctx_eq setChan_chan_eq pushSig_trunk)

section
variable (s : State)

/-! ### BEARER_LIVE_REPORT (R72, R155) -/

theorem startPlayer_player (c : CtxId) (prog : Programme) :
    (s.startPlayer c prog).player c = s.enterProgramme { s.player c with programme := some prog } prog := by
  rw [State.startPlayer, State.setPlayer_player]

theorem startPlayer_player_of_ne {c d : CtxId} (prog : Programme) (h : d ≠ c) :
    (s.startPlayer c prog).player d = s.player d := by
  rw [State.startPlayer, State.setPlayer_player_of_ne _ _ _ _ (Ne.symm h)]

theorem startPlayer_started (c : CtxId) (prog : Programme) : Started c prog s (s.startPlayer c prog) := by
  unfold Started
  rw [startPlayer_player, State.enterProgramme, Player.enter]
  cases hvalid : (s.segment (s.startSegment prog)).valid <;> simp

end

/-- Settles O28: the holder is found in the state with the report taken, which has the same contexts. -/
theorem bearerLiveMakesItsHolderEligible : Obligations.BearerLiveMakesItsHolderEligible := by
  intro l b s
  refine ⟨fun c hc hlive => ?_, fun hnone => ?_⟩
  · refine ⟨((s.take (.bearerLiveReport l b)).modCtx c (fun x => { x with liveSeen := true })).startPlayer c .queue, ?_, rfl,
      ?_, fun d hd => ⟨?_, ?_⟩, ?_⟩
    · have hholder : (s.take (.bearerLiveReport l b)).holder l b (fun x => x.state == .queued) = some c := hc
      have hst : ((s.take (.bearerLiveReport l b)).bearer l b).st = .live := hlive
      simp only [exec, execBearerLiveReport, hholder, hst, if_true]
    · rw [State.startPlayer_ctx, State.modCtx_ctx, State.take_ctx]
    · rw [State.startPlayer_ctx, State.modCtx_ctx_of_ne _ _ _ _ (Ne.symm hd), State.take_ctx]
    · rw [startPlayer_player_of_ne _ _ hd]
      rfl
    · exact startPlayer_started _ c .queue
  · simp only [exec, execBearerLiveReport]
    split
    next c hc =>
      have hst : (s.bearer l b).st ≠ .live := hnone.resolve_left fun hn => by
        have hholder : (s.take (.bearerLiveReport l b)).holder l b (fun x => x.state == .queued) = none := hn
        rw [hholder] at hc
        cases hc
      rw [if_neg (by exact hst)]
      rfl
    next => rfl

section
variable (s : State)

/-! ### The first of a list (R93, R130) -/

/-- The first element that meets a condition, in a list that stands in order. -/
theorem find?_of_pairwise {α : Type} {r : α → α → Prop} {p : α → Bool} {xs : List α} {a : α} (hord : xs.Pairwise r)
    (hmem : a ∈ xs) (ha : p a = true) (hfirst : ∀ b ∈ xs, r b a → p b = false) : xs.find? p = some a := by
  induction xs with
  | nil => exact absurd hmem List.not_mem_nil
  | cons x xs ih =>
    obtain ⟨hx, hord⟩ := List.pairwise_cons.mp hord
    rcases List.mem_cons.mp hmem with rfl | hmem
    · rw [List.find?_cons_of_pos ha]
    · rw [List.find?_cons_of_neg (by simp [hfirst x List.mem_cons_self (hx a hmem)])]
      exact ih hord hmem fun b hb => hfirst b (List.mem_cons_of_mem _ hb)

/-- No element before the first that meets a condition meets it. -/
theorem find?_lowest {α : Type} {r : α → α → Prop} {p : α → Bool} {xs : List α} {a b : α} (hord : xs.Pairwise r)
    (hasymm : ∀ a b, r a b → ¬ r b a) (hfound : xs.find? p = some a) (hmem : b ∈ xs) (hba : r b a) : p b = false := by
  induction xs with
  | nil => cases hfound
  | cons x xs ih =>
    obtain ⟨hx, hord⟩ := List.pairwise_cons.mp hord
    cases hp : p x with
    | true =>
      rw [List.find?_cons_of_pos hp] at hfound
      obtain rfl := Option.some.inj hfound
      rcases List.mem_cons.mp hmem with rfl | hmem
      · exact absurd hba (hasymm _ _ hba)
      · exact absurd hba (hasymm _ _ (hx b hmem))
    | false =>
      rw [List.find?_cons_of_neg (by simp [hp])] at hfound
      rcases List.mem_cons.mp hmem with rfl | hmem
      · exact hp
      · exact ih hord hfound hmem

theorem freeChannel_eq {t : Trunk} {ch : ChanId} (hfree : (s.chan t ch).st = .free)
    (hfirst : ∀ n, n < ch → (s.chan t n).st ≠ .free) : s.freeChannel t = some ch :=
  find?_of_pairwise (List.pairwise_lt_finRange 15) (List.mem_finRange ch) (by simp [hfree]) fun n _ hn => by
    simpa using hfirst n hn

theorem hasCapacity_iff (t : Trunk) : s.hasCapacity t = true ↔
    (∃ n, (s.chan t n).st = .free) ∧ s.chanCount t .reserved < s.offerWindow t := by
  simp [State.hasCapacity, State.freeChannel, List.find?_isSome, allChans]

/-! ### Resolution (R93) -/

theorem mem_untried (tried : List Nat) (places : List Target) (t : Target) (p : Nat) :
    (t, p) ∈ State.untried tried places ↔ 1 ≤ p ∧ places[p - 1]? = some t ∧ p ∉ tried := by
  simp [State.untried, List.mk_mem_zipIdx_iff_le_and_getElem?_sub, and_assoc]

/-- The untried places stand in order. -/
theorem pairwise_untried (tried : List Nat) (places : List Target) :
    (State.untried tried places).Pairwise (fun a b => a.2 < b.2) := by
  refine List.Pairwise.filter _ ?_
  have hsnd := List.pairwise_lt_range' (s := 1) (n := places.length)
  rwa [← List.zipIdx_map_snd, List.pairwise_map] at hsnd

theorem untried_eq_nil_iff (tried : List Nat) (places : List Target) :
    State.untried tried places = [] ↔ ∀ p, 1 ≤ p → p ≤ places.length → p ∈ tried := by
  rw [List.eq_nil_iff_forall_not_mem]
  refine ⟨fun h p hp hlen => ?_, fun h x hx => ?_⟩
  · by_contra hnot
    have hin : p - 1 < places.length := by omega
    exact h (places[p - 1], p) ((mem_untried tried places _ p).mpr ⟨hp, List.getElem?_eq_getElem hin, hnot⟩)
  · obtain ⟨t, p⟩ := x
    obtain ⟨hp, hplace, hnot⟩ := (mem_untried tried places t p).mp hx
    obtain ⟨hlt, -⟩ := List.getElem?_eq_some_iff.mp hplace
    exact hnot (h p hp (by omega))

section
variable {c : CtxId} {tried : List Nat} {places : List Target} (htried : (s.ctx c).tried = tried)
  (hplaces : s.routeEntry s.plan (s.ctx c).zone = places)
include htried hplaces

theorem resolve_exhausted (h : ∀ p, 1 ≤ p → p ≤ places.length → p ∈ tried) : s.resolve c = .exhausted := by
  unfold State.resolve
  rw [htried, hplaces, (untried_eq_nil_iff tried places).mpr h]

theorem resolve_noTarget (hopen : ∃ p, 1 ≤ p ∧ p ≤ places.length ∧ p ∉ tried)
    (hdown : ∀ p target, 1 ≤ p → places[p - 1]? = some target → p ∉ tried → (s.trunk target.trunk).seen ≠ .up) :
    s.resolve c = .noTarget := by
  have hnone : (State.untried tried places).find? (fun p => s.trunkUp p.1.trunk) = none := by
    rw [List.find?_eq_none]
    rintro ⟨t, p⟩ hmem
    obtain ⟨hp, hplace, hnot⟩ := (mem_untried tried places t p).mp hmem
    simpa [State.trunkUp] using hdown p t hp hplace hnot
  unfold State.resolve
  rw [htried, hplaces]
  dsimp only
  split
  next hnil =>
    obtain ⟨p, hp, hlen, hnot⟩ := hopen
    exact absurd ((untried_eq_nil_iff tried places).mp hnil p hp hlen) hnot
  next => rw [hnone]

theorem resolve_found {p : Nat} {target : Target} (hp : 1 ≤ p) (hplace : places[p - 1]? = some target) (hnot : p ∉ tried)
    (hup : (s.trunk target.trunk).seen = .up)
    (hfirst : ∀ q target', 1 ≤ q → q < p → places[q - 1]? = some target' →
      q ∈ tried ∨ (s.trunk target'.trunk).seen ≠ .up) : s.resolve c = .found p target := by
  have hmem : (target, p) ∈ State.untried tried places := (mem_untried tried places target p).mpr ⟨hp, hplace, hnot⟩
  have hfound : (State.untried tried places).find? (fun p => s.trunkUp p.1.trunk) = some (target, p) := by
    refine find?_of_pairwise (pairwise_untried tried places) hmem (by simp [State.trunkUp, hup]) ?_
    rintro ⟨t, q⟩ hq hlt
    obtain ⟨hq1, hqplace, hqnot⟩ := (mem_untried tried places t q).mp hq
    simpa [State.trunkUp] using (hfirst q t hq1 hlt hqplace).resolve_left hqnot
  unfold State.resolve
  rw [htried, hplaces]
  dsimp only
  split
  next hnil => rw [hnil] at hmem; exact absurd hmem List.not_mem_nil
  next => rw [hfound]

end

/-! ### Dispatch (R93 to R98) -/

theorem takePlan_ctx (c : CtxId) : (s.takePlan c).ctx c = { s.ctx c with
    plan := some s.plan
    tried := if (s.ctx c).plan = some s.plan then (s.ctx c).tried else [] } := by
  unfold State.takePlan
  split_ifs with hplan
  · rw [← hplan]
  · rw [State.modCtx_ctx]

theorem takePlan_ctx_of_ne {c d : CtxId} (h : d ≠ c) : (s.takePlan c).ctx d = s.ctx d := by
  unfold State.takePlan
  split_ifs
  · rfl
  · rw [State.modCtx_ctx_of_ne _ _ _ _ (Ne.symm h)]

theorem dispatchOne_of_not_eligible {c : CtxId} (h : ¬ s.eligible c) : s.dispatchOne c = s := by
  rw [State.dispatchOne, if_neg h]

section
variable {c : CtxId} (he : s.eligible c)
include he

theorem dispatchOne_exhausted (hr : (s.takePlan c).resolve c = .exhausted) : s.dispatchOne c = (s.takePlan c).exhaust c := by
  rw [State.dispatchOne, if_pos he]
  simp only [hr]

theorem dispatchOne_noTarget (hr : (s.takePlan c).resolve c = .noTarget) : s.dispatchOne c = s.takePlan c := by
  rw [State.dispatchOne, if_pos he]
  simp only [hr]

theorem dispatchOne_full {p : Nat} {target : Target} (hr : (s.takePlan c).resolve c = .found p target)
    (hfull : ¬ (s.takePlan c).hasCapacity target.trunk) : s.dispatchOne c = s.takePlan c := by
  rw [State.dispatchOne, if_pos he]
  simp only [hr, if_neg hfull]

theorem dispatchOne_offer {p : Nat} {target : Target} {ch : ChanId} (hr : (s.takePlan c).resolve c = .found p target)
    (hroom : (s.takePlan c).hasCapacity target.trunk) (hch : (s.takePlan c).freeChannel target.trunk = some ch) :
    s.dispatchOne c = (s.takePlan c).makeOffer c p target ch := by
  rw [State.dispatchOne, if_pos he]
  simp only [hr, if_pos hroom, hch]

end

/-! ### Exhaustion (R94) -/

theorem exhaust_eq (c : CtxId) : s.exhaust c = { s with
    contexts := (s.exhaust c).contexts
    handed := s.handed ++ [.noticeRaise (.routeExhausted (s.ctx c).zone)] } := rfl

theorem exhaust_ctx (c : CtxId) :
    (s.exhaust c).ctx c = { s.ctx c with tried := [], retryTimer := .running (s.param 4 * 8000) } := by
  rw [State.exhaust, State.raise_ctx, State.modCtx_ctx]
  rfl

/-! ### An offer made (R97) -/

section
variable (c : CtxId) (p : Nat) (target : Target) (ch : ChanId)

theorem makeOffer_ctx : (s.makeOffer c p target ch).ctx c = { s.ctx c with
    state := .offered
    primary := some ⟨target.trunk, ch⟩
    offGen := (s.ctx c).offGen + 1
    ref := some ((s.ctx c).offGen + 1)
    target := some ⟨p, target⟩
    offerTimer := .running (target.timeout * 8000) } := by
  simp only [State.makeOffer, State.setLamp_ctx, State.pushSig_ctx, State.modCtx_ctx, State.setChan_ctx]
  rfl

theorem makeOffer_ctx_of_ne {d : CtxId} (h : d ≠ c) : (s.makeOffer c p target ch).ctx d = s.ctx d := by
  simp only [State.makeOffer, State.setLamp_ctx, State.pushSig_ctx, State.modCtx_ctx_of_ne _ _ _ _ (Ne.symm h),
    State.setChan_ctx]

theorem makeOffer_chan (k : Trunk) (n : ChanId) : (s.makeOffer c p target ch).chan k n =
    if target.trunk = k ∧ ch = n then { s.chan target.trunk ch with st := .reserved } else s.chan k n := by
  rw [← setChan_chan_eq]
  simp only [State.makeOffer, State.chan, State.setLamp_trunk, pushSig_trunk, State.modCtx_trunk]

theorem makeOffer_sigQueue (hroom : (s.trunk target.trunk).sigQueue.length < 64) :
    ((s.makeOffer c p target ch).trunk target.trunk).sigQueue =
      (s.trunk target.trunk).sigQueue ++ [.offer (s.offerBody c target ch)] := by
  have hqueue (x : Channel) : ((s.setChan target.trunk ch x).trunk target.trunk).sigQueue =
      (s.trunk target.trunk).sigQueue := by simp [State.setChan]
  rw [State.makeOffer, State.setLamp_trunk, (State.pushSig_taken _ _ _ _).1, State.modCtx_trunk, hqueue]
  rwa [State.modCtx_trunk, hqueue]

theorem makeOffer_toShow : ToShow c .connecting s (s.makeOffer c p target ch) := by
  refine setLamp_toShow (.of_loops (.trans (.of_eq ?_) (pushSig_hands _ _ _)) ?_ ?_ fun l => ?_) .connecting
  · simp
  · rintro _ rfl _ _ _ _ ⟨⟩
  · rw [State.pushSig_ctx, State.modCtx_ctx, State.setChan_ctx]
    rfl
  · simp

end

end

/-- Settles O32: the place a pass finds is the resolution of the context with the active plan taken, and each outcome of
the resolution has its own equation of `dispatchOne`. -/
theorem dispatchOffersTheFirstOpenPlace : Obligations.DispatchOffersTheFirstOpenPlace := by
  refine ⟨fun s => rfl, fun c s => ⟨fun h => ?_, ?_⟩⟩
  · refine dispatchOne_of_not_eligible s fun he => ?_
    obtain ⟨hst, hseen, hlive, hretry⟩ := (eligible_iff s c).mp he
    simp [hst, hseen, hlive, hretry] at h
  intro hst hlive hseen hretry tried places htried hplaces
  have he : s.eligible c := (eligible_iff s c).mpr ⟨hst, hseen, hlive, hretry⟩
  have hctx : (s.takePlan c).ctx c = { s.ctx c with plan := some s.plan, tried := tried } := by
    rw [takePlan_ctx, htried]
  have htried' : ((s.takePlan c).ctx c).tried = tried := by rw [hctx]
  have hplaces' : (s.takePlan c).routeEntry (s.takePlan c).plan ((s.takePlan c).ctx c).zone = places := by
    rw [hplaces, hctx, State.takePlan_plan]
    simp [State.routeEntry]
  have hchan (k : Trunk) (n : ChanId) : (s.takePlan c).chan k n = s.chan k n := by simp [State.chan]
  have hcount (k : Trunk) : (s.takePlan c).chanCount k .reserved = s.chanCount k .reserved := by
    simp only [State.chanCount, hchan]
  have howindow (k : Trunk) : (s.takePlan c).offerWindow k = s.offerWindow k := by cases k <;> simp [State.offerWindow]
  refine ⟨fun hall => ?_, fun hwait => ?_, fun p target ch hp hplace hnot hup hfirst hfree hlow hroom => ?_⟩
  · have hone := dispatchOne_exhausted s he (resolve_exhausted _ htried' hplaces' hall)
    rw [hone]
    refine ⟨?_, ?_, fun d hd => ?_⟩
    · exact (exhaust_eq _ c).trans (by simp [hctx])
    · rw [exhaust_ctx, hctx, State.takePlan_param]
    · rw [State.exhaust, State.raise_ctx, State.modCtx_ctx_of_ne _ _ _ _ (Ne.symm hd), takePlan_ctx_of_ne _ hd]
  · have hone : s.dispatchOne c = s.takePlan c := by
      rcases hwait with ⟨hopen, hdown⟩ | ⟨p, target, hp, hplace, hnot, hup, hfirst, hfull⟩
      · exact dispatchOne_noTarget s he (resolve_noTarget _ htried' hplaces' hopen (by simpa using hdown))
      · refine dispatchOne_full s he (resolve_found _ htried' hplaces' hp hplace hnot (by simpa using hup)
          (by simpa using hfirst)) ?_
        rintro hroom
        obtain ⟨⟨n, hn⟩, hwindow⟩ := (hasCapacity_iff _ _).mp hroom
        rw [hchan] at hn
        rw [hcount, howindow] at hwindow
        exact hfull.elim (fun hnone => hnone n hn) (fun hle => absurd hwindow (by omega))
    rw [hone]
    exact ⟨State.takePlan_frame s c, hctx, fun d hd => takePlan_ctx_of_ne s hd⟩
  · have hfree' : (s.takePlan c).freeChannel target.trunk = some ch :=
      freeChannel_eq _ (by rwa [hchan]) fun n hn => by rw [hchan]; exact hlow n hn
    have hroom' : (s.takePlan c).hasCapacity target.trunk := by
      rw [hasCapacity_iff, hcount, howindow]
      exact ⟨⟨ch, by rwa [hchan]⟩, hroom⟩
    have hone := dispatchOne_offer s he (resolve_found _ htried' hplaces' hp hplace hnot (by simpa using hup)
      (by simpa using hfirst)) hroom' hfree'
    have hsame : Standing c s (s.takePlan c) := .of_loops (.of_eq (P := IsPick 0) (by simp)) (fun _ => noRebuild_of_isPick)
      (by rw [hctx]; rfl) fun l => by simp
    have hframe := State.dispatchOne_frame s c
    rw [hone] at hframe ⊢
    refine ⟨?_, fun d hd => ?_, ?_, fun k n hkn => ?_, ?_, fun e hentry => ?_, fun hqueue => ?_, hframe⟩
    · rw [makeOffer_ctx, hctx]
    · rw [makeOffer_ctx_of_ne _ _ _ _ _ hd, takePlan_ctx_of_ne _ hd]
    · rw [makeOffer_chan, if_pos ⟨rfl, rfl⟩, hchan]
    · rw [makeOffer_chan, if_neg fun h => hkn (Prod.ext h.1.symm h.2.symm), hchan]
    · rw [State.makeOffer_waiting, State.takePlan_waiting]
    · obtain ⟨e', he'⟩ := Option.isSome_iff_exists.mp (hsame.keyEntry_isSome.trans (by rw [hentry]; rfl))
      have hshown := makeOffer_toShow (s.takePlan c) c p target ch e' he'
      rwa [hsame.ctx_loop, hsame.keyPos] at hshown
    · rw [makeOffer_sigQueue _ _ _ _ _ (by rwa [State.takePlan_trunk]), State.takePlan_trunk]
      refine ⟨_, rfl, rfl, ?_⟩
      simp only [State.offerBody, hctx, true_and]
      rintro i hi
      rw [hi, Option.getD_some]

end Sys2Proof.CallContexts
end

section
/-! A request of a post (R65 to R71): registered, acknowledged, refused or held back. -/

namespace Sys2Proof.CallContexts

open Sys2Proof Sys2Proof.Machine
open Sys2Proof.PostDirectory (modCtx_ctx_eq freeContext_state assignBearer_bearer)

section
variable (s : State)

/-! ### The report taken (R65, R69) -/

theorem take_entryAt {i : Instr} (hi : NoRebuild i) (l : LoopId) (pos : Nat) :
    (s.take i).entryAt l ((s.take i).nowAt l pos) = s.entryAt l (s.nowAt l pos) := by
  rw [take_nowAt s hi]
  rfl

theorem postCtx_eq_none (l : LoopId) (pos : Nat) :
    s.postCtx l pos = none ↔ ∀ c, (s.ctx c).state ≠ .free → (s.ctx c).loop = l → (s.ctx c).entry ≠ pos := by
  simp [State.postCtx, allCtxs]

theorem postCtx_isSome {l : LoopId} {pos : Nat}
    (h : ∃ c, (s.ctx c).state ≠ .free ∧ (s.ctx c).loop = l ∧ (s.ctx c).entry = pos) : ∃ c, s.postCtx l pos = some c := by
  rw [← Option.isSome_iff_exists, Option.isSome_iff_ne_none]
  intro hnone
  obtain ⟨c, hst, hloop, hentry⟩ := h
  exact (postCtx_eq_none s l pos).mp hnone c hst hloop hentry

theorem noRebuild_requestReport (l : LoopId) (pos : Nat) (cls : CallClass) : NoRebuild (.requestReport l pos cls) := by
  intro _ _ _ _ h
  cases h

section
variable (l : LoopId) (pos : Nat) (cls : CallClass)

theorem requestReport_of_none (h : s.entryAt l (s.nowAt l pos) = none) :
    exec (.requestReport l pos cls) s = .next (s.take (.requestReport l pos cls)) := by
  have h' := (take_entryAt s (noRebuild_requestReport l pos cls) l pos).trans h
  simp only [exec, execRequestReport, h']

theorem requestReport_of_call {e : MapEntry} (he : s.entryAt l (s.nowAt l pos) = some e) {c : CtxId}
    (hc : s.postCtx l pos = some c) : exec (.requestReport l pos cls) s =
      .next ((s.take (.requestReport l pos cls)).setAck l (s.nowAt l pos)) := by
  have hi := noRebuild_requestReport l pos cls
  have he' := (take_entryAt s hi l pos).trans he
  have hc' : (s.take (.requestReport l pos cls)).postCtx l pos = some c := hc
  simp only [exec, execRequestReport, he', hc']
  rw [take_nowAt s hi]

theorem requestReport_of_new {e : MapEntry} (he : s.entryAt l (s.nowAt l pos) = some e) (hc : s.postCtx l pos = none) :
    exec (.requestReport l pos cls) s = .next ((s.take (.requestReport l pos cls)).newRequest l pos e cls) := by
  have he' := (take_entryAt s (noRebuild_requestReport l pos cls) l pos).trans he
  have hc' : (s.take (.requestReport l pos cls)).postCtx l pos = none := hc
  simp only [exec, execRequestReport, he', hc']

end

/-! ### Command records set at one entry -/

theorem setAck_onlyLoop (i : Instr) (l : LoopId) (pos : Nat) : OnlyLoop l s ((s.take i).setAck l pos) := by
  refine ⟨?_, fun m hm => ?_⟩
  · rw [State.setAck_frame]
    rfl
  · rw [setAck_loop, if_neg (Ne.symm hm)]
    rfl

/-- What a refused class does to its loop (R66). -/
theorem refuseClass_loop (l m : LoopId) (pos : Nat) (tie : Tie) : (s.refuseClass l pos tie).loop m = if l = m then
    cmdSet (s.nowAt l pos) (fun r => { r with ackReq := true, desiredLamp := .refused }) (s.loop m) else s.loop m := by
  have hloop : (s.refuseClass l pos tie).loop m =
      ((s.setAck l (s.nowAt l pos)).setLampAt l (s.nowAt l pos) .refused).loop m := by
    unfold State.refuseClass
    dsimp only
    split
    · rw [State.latch_loop]
    · rfl
  rw [hloop, setLampAt_loop, setAck_loop]
  split_ifs
  · rw [cmdSet_cmdSet]
    rfl
  · rfl

theorem refuseClass_onlyLoop (i : Instr) (l : LoopId) (pos : Nat) (tie : Tie) :
    OnlyLoop l s ((s.take i).refuseClass l pos tie) := by
  refine ⟨?_, fun m hm => ?_⟩
  · rw [State.refuseClass_frame]
    rfl
  · rw [refuseClass_loop, if_neg (Ne.symm hm)]
    rfl

theorem refuseClass_latches (l : LoopId) (pos : Nat) {tie : Tie} {slot : SlotId} (h : tie.slot? = some slot) :
    .faultLatch (.post slot .refusedClass) ∈ (s.refuseClass l pos tie).handed := by
  unfold State.refuseClass
  rw [h]
  exact List.mem_append_right _ (List.mem_singleton_self _)

theorem freeContext_eq_none (h : ∀ c, (s.ctx c).state ≠ .free) : s.freeContext = none := by
  simpa [State.freeContext, allCtxs] using h

theorem newRequest_of_refused {l : LoopId} {pos : Nat} {e : MapEntry} {cls : CallClass}
    (h : (s.permitsOf e.tie).allows cls = false) : s.newRequest l pos e cls = s.refuseClass l pos e.tie := by
  simp [State.newRequest, h]

theorem newRequest_of_full {l : LoopId} {pos : Nat} {e : MapEntry} {cls : CallClass}
    (h : (s.permitsOf e.tie).allows cls = true) (hfull : s.freeContext = none) :
    s.newRequest l pos e cls = (s.latch (.sect .contextsFull)).raise .contextsFull := by
  simp [State.newRequest, h, hfull]

theorem newRequest_of_free {l : LoopId} {pos : Nat} {e : MapEntry} {cls : CallClass} {c : CtxId}
    (h : (s.permitsOf e.tie).allows cls = true) (hc : s.freeContext = some c) :
    s.newRequest l pos e cls = s.register c l pos e cls := by
  simp [State.newRequest, h, hc]

end

/-- Settles O26: by the entry reported, the call at it, the class and the contexts, in the order of the report's own
cases. -/
theorem requestIsAcknowledgedRefusedOrHeldBack : Obligations.RequestIsAcknowledgedRefusedOrHeldBack := by
  intro l pos cls s
  have htake := take_nowAt s (noRebuild_requestReport l pos cls) l pos
  refine ⟨fun h => requestReport_of_none s l pos cls h, fun e he => ⟨fun hcall => ?_, fun hnone hclass => ?_,
    fun hnone hclass hbusy => ?_⟩⟩
  · obtain ⟨c, hc⟩ := postCtx_isSome s hcall
    refine ⟨_, requestReport_of_call s l pos cls he hc, setAck_onlyLoop s _ l _, ?_⟩
    rw [setAck_loop, if_pos rfl, cmdSet_of_ne_zero (entryAt_ne_zero s he)]
    rfl
  · have hnew := requestReport_of_new s l pos cls he ((postCtx_eq_none s l pos).mpr hnone)
    rw [newRequest_of_refused (s.take (.requestReport l pos cls)) hclass] at hnew
    refine ⟨_, hnew, refuseClass_onlyLoop s _ l pos e.tie, ?_, fun slot hslot => refuseClass_latches _ l pos hslot⟩
    rw [refuseClass_loop, if_pos rfl, htake, cmdSet_of_ne_zero (entryAt_ne_zero s he)]
    rfl
  · have hnew := requestReport_of_new s l pos cls he ((postCtx_eq_none s l pos).mpr hnone)
    rw [newRequest_of_full (s.take (.requestReport l pos cls)) hclass (freeContext_eq_none _ hbusy)] at hnew
    rw [hnew]
    simp only [State.raise, State.latch, State.hand, State.take, List.append_assoc, List.cons_append, List.nil_append]

section
variable (s : State)

/-! ### A call registered (R63, R67, R71, R74) -/

/-- The place of a context that enters the waiting list (R74). -/
theorem insertWaiting_split (order : CtxId → CtxId → Bool) (c : CtxId) (xs : List CtxId) : ∃ front back,
    xs = front ++ back ∧ insertWaiting order c xs = front ++ c :: back ∧ (∀ d ∈ front, order c d = false) ∧
      ∀ d, back.head? = some d → order c d := by
  induction xs with
  | nil => exact ⟨[], [], rfl, rfl, by simp, by simp⟩
  | cons x xs ih =>
    cases hx : order c x with
    | true => exact ⟨[], x :: xs, rfl, by simp [insertWaiting, hx], by simp, by simpa using hx⟩
    | false =>
      obtain ⟨front, back, hxs, hins, hfront, hback⟩ := ih
      refine ⟨x :: front, back, by rw [hxs, List.cons_append], by simp [insertWaiting, hx, hins], ?_, hback⟩
      simpa [hx] using hfront

theorem countEntry_ctx (d : CtxId) : { s.countEntry.ctx d with entryNo := 0 } = { s.ctx d with entryNo := 0 } := by
  have hctx : s.countEntry.ctx d = (if 65535 ≤ s.entryCount then s.renumber else s).ctx d := rfl
  rw [hctx]
  split_ifs
  · rw [renumber_ctx, renumbered]
    split_ifs <;> rfl
  · rfl

theorem countEntry_ctx_of_lt (h : s.entryCount < 65535) (d : CtxId) : s.countEntry.ctx d = s.ctx d := by
  have hctx : s.countEntry.ctx d = (if 65535 ≤ s.entryCount then s.renumber else s).ctx d := rfl
  rw [hctx, if_neg (by omega)]

theorem countEntry_entryCount_of_lt (h : s.entryCount < 65535) : s.countEntry.entryCount = s.entryCount + 1 := by
  have hcount : s.countEntry.entryCount = (if 65535 ≤ s.entryCount then s.renumber else s).entryCount + 1 := rfl
  rw [hcount, if_neg (by omega)]

theorem countEntry_identityOf (l : LoopId) (pos : Nat) (e : MapEntry) :
    s.countEntry.identityOf l pos e = s.identityOf l pos e ∧ s.countEntry.zoneOf l e.tie = s.zoneOf l e.tie := by
  have hzone : s.countEntry.zoneOf l e.tie = s.zoneOf l e.tie := by
    unfold State.zoneOf State.defaultZone
    cases e.tie <;> simp
  refine ⟨?_, hzone⟩
  unfold State.identityOf
  rw [hzone]
  cases e.tie <;> simp

theorem freeContext_eq {c : CtxId} (hc : (s.ctx c).state = .free) (hlow : ∀ d, d < c → (s.ctx d).state ≠ .free) :
    s.freeContext = some c := by
  rw [State.freeContext, State.find_allCtxs]
  exact ⟨by simp [hc], fun d hd => by simpa using hlow d hd⟩

/-! ### The bearer asked for (R71) -/

theorem canAssign_iff (l : LoopId) (b : BearerId) :
    s.canAssign l b = true ↔ (s.loop l).state.carries ∧ (s.bearer l b).st = .free := by
  simp [State.canAssign]

theorem freeBearer_eq_some {l : LoopId} {b : BearerId} (h : s.freeBearer l = some b) :
    (s.bearer l b).st = .free ∧ ∀ d, d < b → (s.bearer l d).st ≠ .free := by
  obtain ⟨hcarries, hfree⟩ := (canAssign_iff s l b).mp (List.find?_some h)
  refine ⟨hfree, fun d hd hdfree => ?_⟩
  have hlow := find?_lowest (List.pairwise_lt_finRange 4) (fun _ _ hlt hgt => lt_asymm hlt hgt) h (List.mem_finRange d) hd
  rw [(canAssign_iff s l d).mpr ⟨hcarries, hdfree⟩] at hlow
  cases hlow

theorem freeBearer_eq_none {l : LoopId} (h : s.freeBearer l = none) :
    (s.loop l).state.carries = false ∨ ∀ b, (s.bearer l b).st ≠ .free := by
  rw [State.freeBearer, List.find?_eq_none] at h
  by_cases hcarries : (s.loop l).state.carries
  · exact .inr fun b hb => h b (List.mem_finRange b) ((canAssign_iff s l b).mpr ⟨hcarries, hb⟩)
  · exact .inl (by simpa using hcarries)

theorem askBearer_of_some {l : LoopId} {b : BearerId} (h : s.freeBearer l = some b) (c : CtxId) (pos : Nat) :
    s.askBearer c l pos = (s.assignBearer l pos b).modCtx c (fun x => { x with bearer := some b }) := by
  simp only [State.askBearer, h]

theorem askBearer_of_none {l : LoopId} (h : s.freeBearer l = none) (c : CtxId) (pos : Nat) : s.askBearer c l pos = s := by
  simp only [State.askBearer, h]

theorem askBearer_ctx (c : CtxId) (l : LoopId) (pos : Nat) (d : CtxId) : (s.askBearer c l pos).ctx d =
    if c = d then { s.ctx d with bearer := (s.freeBearer l).or (s.ctx d).bearer } else s.ctx d := by
  cases h : s.freeBearer l with
  | some b =>
    rw [askBearer_of_some s h, modCtx_ctx_eq, State.assignBearer_ctx]
    rfl
  | none =>
    rw [askBearer_of_none s h]
    split_ifs <;> rfl

theorem askBearer_loop (c : CtxId) (l m : LoopId) (pos : Nat) : (s.askBearer c l pos).loop m =
    match s.freeBearer l with
    | some b => (s.assignBearer l pos b).loop m
    | none => s.loop m := by
  cases h : s.freeBearer l with
  | some b => simp only [askBearer_of_some s h, State.modCtx_loop]
  | none => simp only [askBearer_of_none s h]

/-! ### The state in which a new call asks for its bearer (R63, R65) -/

section
variable (c : CtxId) (l : LoopId) (pos : Nat) (e : MapEntry) (cls : CallClass)

/-- A call allocated, its request to be acknowledged and its lamp to show REGISTERED, before it asks for a bearer and
enters the waiting list (`register_eq`). -/
def allocated : State :=
  ((s.countEntry.modCtx c (fun x => x.allocate cls l pos e.plate (s.countEntry.identityOf l (s.nowAt l pos) e)
    (s.countEntry.zoneOf l e.tie) s.countEntry.entryCount)).setAck l (s.nowAt l pos)).setLampAt l (s.nowAt l pos) .registered

theorem register_eq : s.register c l pos e cls =
    ((allocated s c l pos e cls).askBearer c l (s.nowAt l pos)).enterWaiting c := rfl

theorem allocated_ctx : (allocated s c l pos e cls).ctx c =
    (s.ctx c).allocate cls l pos e.plate (s.identityOf l (s.nowAt l pos) e) (s.zoneOf l e.tie)
      (allocated s c l pos e cls).entryCount := by
  have hcount : (allocated s c l pos e cls).entryCount = s.countEntry.entryCount := by simp [allocated]
  obtain ⟨hidentity, hzone⟩ := countEntry_identityOf s l (s.nowAt l pos) e
  have hgen : (s.countEntry.ctx c).regGen = (s.ctx c).regGen ∧ (s.countEntry.ctx c).offGen = (s.ctx c).offGen := by
    have hctx := countEntry_ctx s c
    simp only [Ctx.mk.injEq] at hctx
    exact ⟨hctx.2.2.1, hctx.2.2.2.1⟩
  rw [hcount, allocated, State.setLampAt_ctx, State.setAck_ctx, State.modCtx_ctx, hidentity, hzone, Ctx.allocate,
    Ctx.allocate, hgen.1, hgen.2]

theorem allocated_ctx_of_ne {d : CtxId} (h : d ≠ c) : (allocated s c l pos e cls).ctx d = s.countEntry.ctx d := by
  rw [allocated, State.setLampAt_ctx, State.setAck_ctx, State.modCtx_ctx_of_ne _ _ _ _ (Ne.symm h)]

theorem allocated_loop (m : LoopId) : (allocated s c l pos e cls).loop m = if l = m then
    cmdSet (s.nowAt l pos) (fun r => { r with ackReq := true, desiredLamp := .registered }) (s.loop m) else s.loop m := by
  rw [allocated, setLampAt_loop, setAck_loop, State.modCtx_loop, State.countEntry_loop]
  split_ifs
  · rw [cmdSet_cmdSet]
    rfl
  · rfl

theorem allocated_bearer (b : BearerId) : (allocated s c l pos e cls).bearer l b = s.bearer l b := by
  simp only [State.bearer, allocated_loop, if_true, cmdSet_bearers]

theorem allocated_freeBearer : (allocated s c l pos e cls).freeBearer l = s.freeBearer l := by
  have hassign : (allocated s c l pos e cls).canAssign l = s.canAssign l := by
    funext b
    simp only [State.canAssign, allocated_bearer, allocated_loop, if_true, cmdSet_state]
  simp only [State.freeBearer, hassign]

/-! ### The call registered -/

theorem register_ctx : (s.register c l pos e cls).ctx c =
    { (s.ctx c).allocate cls l pos e.plate (s.identityOf l (s.nowAt l pos) e) (s.zoneOf l e.tie)
        (s.register c l pos e cls).entryCount with bearer := s.freeBearer l } := by
  have hcount : (s.register c l pos e cls).entryCount = (allocated s c l pos e cls).entryCount := by
    simp [register_eq]
  rw [hcount, register_eq, State.enterWaiting_ctx, askBearer_ctx, if_pos rfl, allocated_freeBearer,
    allocated_ctx s c l pos e cls]
  simp [Ctx.allocate, Ctx.reset]

theorem register_ctx_of_ne {d : CtxId} (h : d ≠ c) : (s.register c l pos e cls).ctx d = s.countEntry.ctx d := by
  rw [register_eq, State.enterWaiting_ctx, askBearer_ctx, if_neg (Ne.symm h), allocated_ctx_of_ne _ _ _ _ _ _ h]

theorem register_entryCount : (s.register c l pos e cls).entryCount = s.countEntry.entryCount := by
  simp [register_eq, allocated]

theorem register_loop_of_ne {m : LoopId} (h : m ≠ l) : (s.register c l pos e cls).loop m = s.loop m := by
  rw [register_eq, State.enterWaiting_loop, askBearer_loop, allocated_freeBearer]
  split
  · rw [assignBearer_loop, if_neg (Ne.symm h), allocated_loop, if_neg (Ne.symm h)]
  · rw [allocated_loop, if_neg (Ne.symm h)]

theorem register_bearer {b : BearerId} (hb : s.freeBearer l = some b) :
    (s.register c l pos e cls).bearer l b = ⟨.assigning, s.nowAt l pos⟩ := by
  have hbearer : (s.register c l pos e cls).bearer l b =
      ((allocated s c l pos e cls).assignBearer l (s.nowAt l pos) b).bearer l b := by
    rw [register_eq, askBearer_of_some _ ((allocated_freeBearer s c l pos e cls).trans hb)]
    simp [State.bearer]
  rw [hbearer, assignBearer_bearer, if_pos rfl]

/-- The entry of the post registered (R65, R71). -/
theorem register_entryAt (he : s.entryAt l (s.nowAt l pos) = some e) :
    (s.register c l pos e cls).entryAt l (s.nowAt l pos) = some { e with cmd := { e.cmd with
      ackReq := true
      desiredLamp := .registered
      desiredBearer := (s.freeBearer l).or e.cmd.desiredBearer } } := by
  have hpos := entryAt_ne_zero s he
  rw [entryAt_eq s hpos] at he
  have hsub : s.nowAt l pos = s.nowAt l pos - 1 + 1 := by omega
  rw [entryAt_eq _ hpos, register_eq, State.enterWaiting_loop, askBearer_loop, allocated_freeBearer]
  cases hb : s.freeBearer l with
  | some b =>
    simp only [assignBearer_loop, if_true, cmdSet_getElem?, allocated_loop, he, if_pos hsub]
    rfl
  | none =>
    simp only [allocated_loop, if_true, cmdSet_getElem?, he, if_pos hsub]
    rfl

theorem register_waiting : (s.register c l pos e cls).waiting = insertWaiting (fun a b =>
    ((s.register c l pos e cls).ctx a).before ((s.register c l pos e cls).ctx b)) c s.waiting := by
  have hwait : ((allocated s c l pos e cls).askBearer c l (s.nowAt l pos)).waiting = s.waiting := by simp [allocated]
  rw [register_eq, State.enterWaiting, hwait]
  rfl

end
end

/-- Settles O25: the registration field by field, in the state with the report taken. -/
theorem requestRegistersACall : Obligations.RequestRegistersACall := by
  intro l pos cls e c s he hnone hclass hst hlow
  have htake := take_nowAt s (noRebuild_requestReport l pos cls) l pos
  have he' : (s.take (.requestReport l pos cls)).entryAt l ((s.take (.requestReport l pos cls)).nowAt l pos) = some e :=
    (take_entryAt s (noRebuild_requestReport l pos cls) l pos).trans he
  have hnew := requestReport_of_new s l pos cls he ((postCtx_eq_none s l pos).mpr hnone)
  rw [newRequest_of_free (s.take (.requestReport l pos cls)) hclass (freeContext_eq _ hst hlow)] at hnew
  have hctx := register_ctx (s.take (.requestReport l pos cls)) c l pos e cls
  have hbearer : (((s.take (.requestReport l pos cls)).register c l pos e cls).ctx c).bearer = s.freeBearer l := by
    rw [hctx]
    rfl
  obtain ⟨front, back, hsplit, hplace, hfront, hback⟩ := insertWaiting_split (fun a b =>
    (((s.take (.requestReport l pos cls)).register c l pos e cls).ctx a).before
      (((s.take (.requestReport l pos cls)).register c l pos e cls).ctx b)) c s.waiting
  refine ⟨_, hnew, ?_, ?_, fun d hd => ?_, fun hcount => ⟨?_, fun d hd => ?_⟩, fun m hm => ?_, fun b hb => ?_, fun hb => ?_,
    ?_, ?_, front, back, hsplit, ?_, hfront, hback⟩
  · rw [State.register_frame]
    rfl
  · rw [hbearer, hctx, htake]
    rfl
  · rw [register_ctx_of_ne _ _ _ _ _ _ hd, countEntry_ctx, State.take_ctx]
  · rw [register_entryCount]
    exact countEntry_entryCount_of_lt _ hcount
  · rw [register_ctx_of_ne _ _ _ _ _ _ hd]
    exact countEntry_ctx_of_lt (s.take (.requestReport l pos cls)) hcount d
  · exact register_loop_of_ne _ _ _ _ _ _ hm
  · rw [hbearer] at hb
    obtain ⟨hfree, hfirst⟩ := freeBearer_eq_some s hb
    refine ⟨hfree, hfirst, ?_, ?_⟩
    · rw [register_bearer (s.take (.requestReport l pos cls)) c l pos e cls hb, htake]
    · have hor : (s.take (.requestReport l pos cls)).freeBearer l = some b := hb
      rw [← htake, register_entryAt _ _ _ _ _ _ he', hor]
      rfl
  · rw [hbearer] at hb
    exact freeBearer_eq_none s hb
  · rw [← htake, register_entryAt _ _ _ _ _ _ he']
    rfl
  · rw [← htake, register_entryAt _ _ _ _ _ _ he']
    rfl
  · rw [register_waiting]
    exact hplace

end Sys2Proof.CallContexts
end

section
/-! A call cleared (R81, R82): what the clearing of one context leaves, part by part. -/

namespace Sys2Proof.CallContexts

open Sys2Proof Sys2Proof.Machine
open Sys2Proof.PostDirectory (modCtx_ctx_eq stopCall_ctx stopCall_chan stopCall_trunk freeCtx_ctx freedTo_release)

section
variable (s : State)

/-! ### A complete block judged (R145) -/

/-- A context but for its level monitor. -/
def monitorless (x : Ctx) : Ctx := { x with lastLevel := 0, silentRun := 0, silentNotified := false, speechSeen := false }

theorem judgeBlock_monitorless (c d : CtxId) : monitorless ((s.judgeBlock c).ctx d) = monitorless (s.ctx d) := by
  unfold State.judgeBlock
  dsimp only
  split_ifs <;> simp only [State.raise_ctx, modCtx_ctx_eq, State.setPath_ctx] <;> split_ifs <;> rfl

theorem catchBlock_monitorless (c d : CtxId) : monitorless ((s.catchBlock c).ctx d) = monitorless (s.ctx d) := by
  unfold State.catchBlock
  split_ifs
  · rw [judgeBlock_monitorless, State.take_ctx]
  · rfl

theorem catchBlock_bearer (c d : CtxId) : ((s.catchBlock c).ctx d).bearer = (s.ctx d).bearer :=
  (congrArg Ctx.bearer (catchBlock_monitorless s c d) :)

theorem catchBlock_postOf (c d : CtxId) : postOf ((s.catchBlock c).ctx d) = postOf (s.ctx d) :=
  (congrArg postOf (catchBlock_monitorless s c d) :)

theorem catchBlock_primary (c d : CtxId) : ((s.catchBlock c).ctx d).primary = (s.ctx d).primary :=
  (congrArg Ctx.primary (catchBlock_monitorless s c d) :)

theorem catchBlock_second (c d : CtxId) : ((s.catchBlock c).ctx d).second = (s.ctx d).second :=
  (congrArg Ctx.second (catchBlock_monitorless s c d) :)

theorem judgeBlock_of_ne {c d : CtxId} (h : d ≠ c) :
    (s.judgeBlock c).ctx d = s.ctx d ∧ (s.judgeBlock c).path d = s.path d := by
  have hpath : (s.setPath c ⟨0, 0⟩).path d = s.path d := State.setPath_path_of_ne _ _ _ _ (Ne.symm h)
  unfold State.judgeBlock
  dsimp only
  split_ifs <;> simp [State.modCtx_ctx_of_ne, Ne.symm h, hpath]

theorem catchBlock_of_ne {c d : CtxId} (h : d ≠ c) :
    (s.catchBlock c).ctx d = s.ctx d ∧ (s.catchBlock c).path d = s.path d := by
  unfold State.catchBlock
  split_ifs
  · rw [(judgeBlock_of_ne _ h).1, (judgeBlock_of_ne _ h).2]
    exact ⟨rfl, rfl⟩
  · exact ⟨rfl, rfl⟩

theorem judgeBlock_hands (c : CtxId) : Hands (fun i => i = .noticeRaise (.silentCall c)) s (s.judgeBlock c) := by
  unfold State.judgeBlock
  dsimp only
  split_ifs
  · exact ⟨_, rfl, by simp⟩
  · exact .of_eq (by simp)
  · exact .of_eq (by simp)

theorem catchBlock_passesDue (c : CtxId) (l : LoopId) : (s.catchBlock c).passesDue l = s.passesDue l := by
  unfold State.catchBlock
  split_ifs
  · rw [(judgeBlock_hands _ c).passesDue, passesDue_take]
    · rintro _ _ _ _ ⟨⟩
    · rintro _ rfl _ _ _ _ ⟨⟩
  · rfl

theorem catchBlock_standing (c d : CtxId) : Standing d s (s.catchBlock c) :=
  ⟨catchBlock_passesDue s c, catchBlock_postOf s c d, fun l => by rw [State.catchBlock_loop]⟩

/-! ### A call stopped, and its context freed (R81, R82) -/

theorem stopPlayer_player (c d : CtxId) : (s.stopPlayer c).player d = if c = d then (s.player d).stop else s.player d := by
  unfold State.stopPlayer
  split_ifs with h
  · subst h; exact State.setPlayer_player _ _ _
  · exact State.setPlayer_player_of_ne _ _ _ _ h

theorem stopCall_player (c d : CtxId) (cause : Cause) :
    (s.stopCall c cause).player d = if c = d then (s.player d).stop else s.player d := by
  rw [State.stopCall, stopPlayer_player]
  simp [State.clearFields]

theorem stopCall_waiting (c : CtxId) (cause : Cause) : (s.stopCall c cause).waiting = s.waiting.filter (· != c) := by
  simp [State.stopCall, State.clearFields, State.leaveWaiting]

theorem stopCall_standing (c d : CtxId) (cause : Cause) : Standing d s (s.stopCall c cause) := by
  refine .of_loops (.of_eq (P := IsPick 0) (by simp)) (fun _ => noRebuild_of_isPick) ?_ fun l => by simp
  rw [stopCall_ctx]
  split_ifs <;> rfl

theorem freeCtx_player (c d : CtxId) : (s.freeCtx c).player d = if c = d then (s.player d).stop else s.player d := by
  rw [State.freeCtx, State.dropCtxMarks_player, stopPlayer_player]
  simp

theorem freeCtx_waiting (c : CtxId) : (s.freeCtx c).waiting = s.waiting.filter (· != c) := by
  simp [State.freeCtx, State.leaveWaiting]

theorem freeCtx_marks (c : CtxId) :
    (s.freeCtx c).marks = s.marks.filter (fun m => m != (9, c.val) && m != (10, c.val)) := by
  simp [State.freeCtx, State.dropCtxMarks, bne]

theorem freeCtx_ctx_self (c : CtxId) : (s.freeCtx c).ctx c = (s.ctx c).freed := by
  rw [freeCtx_ctx, if_pos rfl]
  rfl

/-! ### The bearer of a call given back (R81, step 5) -/

/-- The call gives back this bearer: its post is in the map, and the bearer is ASSIGNING or LIVE (R25). -/
def GivesBack (c : CtxId) (s : State) (b : BearerId) : Prop :=
  (s.keyEntry c).isSome ∧ (s.ctx c).bearer = some b ∧
    ((s.bearer (s.ctx c).loop b).st = .assigning ∨ (s.bearer (s.ctx c).loop b).st = .live)

theorem GivesBack.unique {c : CtxId} {b d : BearerId} (hb : GivesBack c s b) (hd : GivesBack c s d) : d = b := by
  obtain ⟨-, hb, -⟩ := hb
  obtain ⟨-, hd, -⟩ := hd
  exact Option.some.inj (hd.symm.trans hb)

theorem releaseHeld_of_givesBack {c : CtxId} {b : BearerId} (h : GivesBack c s b) :
    s.releaseHeld c = s.releaseBearer (s.ctx c).loop b := by
  obtain ⟨hentry, hb, -⟩ := h
  simp [State.releaseHeld, hb, hentry]

theorem releaseHeld_of_not {c : CtxId} (h : ∀ b, ¬ GivesBack c s b) : s.releaseHeld c = s := by
  unfold State.releaseHeld
  split
  next b hb =>
    split_ifs with hentry
    · unfold State.releaseBearer
      exact if_neg fun hst => h b ⟨hentry, hb, hst⟩
    · rfl
  next => rfl

theorem releaseHeld_loop_of_givesBack {c : CtxId} {b : BearerId} (h : GivesBack c s b) :
    (s.releaseHeld c).loop (s.ctx c).loop =
      cmdSet (s.bearer (s.ctx c).loop b).entry (fun r => { r with desiredBearer := none })
        { s.loop (s.ctx c).loop with
          bearers := (s.loop (s.ctx c).loop).bearers.set b ⟨.releasing, (s.bearer (s.ctx c).loop b).entry⟩ } := by
  rw [releaseHeld_of_givesBack s h, releaseBearer_loop, if_pos ⟨rfl, h.2.2⟩]

theorem releaseHeld_loop_of_ne {c : CtxId} {m : LoopId} (h : m ≠ (s.ctx c).loop) :
    (s.releaseHeld c).loop m = s.loop m := by
  by_cases hgives : ∃ b, GivesBack c s b
  · obtain ⟨b, hb⟩ := hgives
    rw [releaseHeld_of_givesBack s hb, releaseBearer_loop, if_neg fun hl => h hl.1.symm]
  · rw [releaseHeld_of_not s fun b hb => hgives ⟨b, hb⟩]

theorem releaseHeld_loop_eq (c : CtxId) (m : LoopId) : (s.releaseHeld c).loop m =
    { s.loop m with map := ((s.releaseHeld c).loop m).map, bearers := ((s.releaseHeld c).loop m).bearers } := by
  by_cases hm : m = (s.ctx c).loop
  · subst hm
    by_cases hgives : ∃ b, GivesBack c s b
    · obtain ⟨b, hb⟩ := hgives
      rw [releaseHeld_loop_of_givesBack s hb, cmdSet_eq]
    · rw [releaseHeld_of_not s fun b hb => hgives ⟨b, hb⟩]
  · rw [releaseHeld_loop_of_ne s hm]

theorem releaseHeld_getElem? (c : CtxId) (k : Nat) {p : Prop} [Decidable p]
    (hp : p ↔ ∃ b, GivesBack c s b ∧ (s.bearer (s.ctx c).loop b).entry = k + 1) :
    ((s.releaseHeld c).loop (s.ctx c).loop).map[k]? = (s.loop (s.ctx c).loop).map[k]?.map (fun e => { e with cmd :=
      { e.cmd with desiredBearer := if p then none else e.cmd.desiredBearer } }) := by
  by_cases hgives : ∃ b, GivesBack c s b
  · obtain ⟨b, hb⟩ := hgives
    have hiff : p ↔ (s.bearer (s.ctx c).loop b).entry = k + 1 := by
      refine hp.trans ⟨fun ⟨d, hd, hentry⟩ => ?_, fun hentry => ⟨b, hb, hentry⟩⟩
      rwa [hb.unique s hd] at hentry
    rw [releaseHeld_loop_of_givesBack s hb, cmdSet_getElem?]
    simp only [hiff]
    congr 1
    funext e
    split_ifs <;> rfl
  · have hnone : ¬ p := fun h => by
      obtain ⟨d, hd, -⟩ := hp.mp h
      exact hgives ⟨d, hd⟩
    rw [releaseHeld_of_not s fun b hb => hgives ⟨b, hb⟩]
    simp only [hnone, if_false, Option.map_id']

theorem releaseHeld_bearer (c : CtxId) (d : BearerId) :
    (GivesBack c s d → (s.releaseHeld c).bearer (s.ctx c).loop d = ⟨.releasing, (s.bearer (s.ctx c).loop d).entry⟩) ∧
    (¬ GivesBack c s d → (s.releaseHeld c).bearer (s.ctx c).loop d = s.bearer (s.ctx c).loop d) := by
  by_cases hgives : ∃ b, GivesBack c s b
  · obtain ⟨b, hb⟩ := hgives
    have hbearer : (s.releaseHeld c).bearer (s.ctx c).loop d = ((s.loop (s.ctx c).loop).bearers.set b
        ⟨.releasing, (s.bearer (s.ctx c).loop b).entry⟩)[d] := by
      simp only [State.bearer, releaseHeld_loop_of_givesBack s hb, cmdSet_bearers]
    refine ⟨fun hd => ?_, fun hd => ?_⟩
    · obtain rfl := hb.unique s hd
      rw [hbearer]
      simp
    · have hne : b.val ≠ d.val := fun he => hd (Fin.ext he ▸ hb)
      rw [hbearer]
      simp [Vector.getElem_set_ne, hne, State.bearer]
  · refine ⟨fun hd => absurd ⟨d, hd⟩ hgives, fun _ => ?_⟩
    rw [releaseHeld_of_not s fun b hb => hgives ⟨b, hb⟩]

theorem releaseHeld_plates (c : CtxId) (m : LoopId) :
    ((s.releaseHeld c).loop m).map.map (·.plate) = (s.loop m).map.map (·.plate) := by
  by_cases hm : m = (s.ctx c).loop
  · subst hm
    by_cases hgives : ∃ b, GivesBack c s b
    · obtain ⟨b, hb⟩ := hgives
      rw [releaseHeld_loop_of_givesBack s hb]
      exact cmdSet_map_map _ _ _ _ fun _ => rfl
    · rw [releaseHeld_of_not s fun b hb => hgives ⟨b, hb⟩]
  · rw [releaseHeld_loop_of_ne s hm]

theorem releaseHeld_standing (c d : CtxId) : Standing d s (s.releaseHeld c) :=
  ⟨(releaseHeld_hands s c).passesDue fun _ => noRebuild_of_isPick, by rw [State.releaseHeld_ctx], releaseHeld_plates s c⟩

theorem setLamp_standing (c d : CtxId) (lamp : Lamp) : Standing d s (s.setLamp c lamp) := by
  refine ⟨(setLamp_hands s c lamp).passesDue fun _ => noRebuild_of_isPick, by rw [State.setLamp_ctx], fun m => ?_⟩
  rw [setLamp_loop]
  split_ifs
  · exact cmdSet_map_map _ _ _ _ fun _ => rfl
  · rfl

theorem withdrawAck_standing (c d : CtxId) : Standing d s (s.withdrawAck c) := by
  refine ⟨(Hands.of_eq (P := IsPick 0) (by simp)).passesDue fun _ => noRebuild_of_isPick, by rw [State.withdrawAck_ctx],
    fun m => ?_⟩
  rw [withdrawAck_loop]
  split_ifs
  · exact cmdSet_map_map _ _ _ _ fun _ => rfl
  · rfl

theorem setLamp_pickHanded {c : CtxId} (h : (s.keyEntry c).isSome) (lamp : Lamp) :
    PickHanded (s.setLamp c lamp) (s.ctx c).loop := by
  rw [State.setLamp, if_pos h]
  exact wakeScan_pickHanded _ _

section
variable (c : CtxId) (cause : Cause)

/-! ### A call stopped, its post to show CLEARED (R81) -/

/-- A call that is being cleared, its bearer not yet given back (`clearing`). -/
def stopped : State := (s.stopCall c cause).setLamp c .cleared

theorem stopped_standing (d : CtxId) : Standing d s (stopped s c cause) :=
  (stopCall_standing s c d cause).trans (setLamp_standing _ c d .cleared)

theorem stopped_ctx (d : CtxId) : (stopped s c cause).ctx d = if c = d then (s.ctx d).cleared cause else s.ctx d := by
  rw [stopped, State.setLamp_ctx, stopCall_ctx]
  rfl

theorem stopped_loop (m : LoopId) : (stopped s c cause).loop m = if (s.keyEntry c).isSome ∧ (s.ctx c).loop = m then
    cmdSet (s.keyPos c) (withLamp .cleared) (s.loop m) else s.loop m := by
  have hstanding := stopCall_standing s c c cause
  rw [stopped, setLamp_loop, hstanding.keyEntry_isSome, hstanding.ctx_loop, hstanding.keyPos, State.stopCall_loop]

theorem stopped_bearer (l : LoopId) (b : BearerId) : (stopped s c cause).bearer l b = s.bearer l b := by
  simp only [State.bearer, stopped_loop]
  split_ifs
  · simp only [cmdSet_bearers]
  · rfl

theorem stopped_givesBack (b : BearerId) : GivesBack c (stopped s c cause) b ↔ GivesBack c s b := by
  have hstanding := stopped_standing s c cause c
  have hbearer : ((stopped s c cause).ctx c).bearer = (s.ctx c).bearer := by
    rw [stopped_ctx, if_pos rfl]
    rfl
  rw [GivesBack, GivesBack, hstanding.keyEntry_isSome, hstanding.ctx_loop, hbearer, stopped_bearer]

theorem stopped_hands : Hands (IsPick (s.ctx c).loop) s (stopped s c cause) := by
  have hands := setLamp_hands (s.stopCall c cause) c .cleared
  rw [(stopCall_standing s c c cause).ctx_loop] at hands
  exact (Hands.of_eq (by simp)).trans hands

/-! ### A call cleared, before its context may become FREE (R81) -/

/-- A call cleared, its bearer on its way back (`enterClearing_eq`, `releaseToFree_eq`). -/
def clearing : State := (stopped s c cause).releaseHeld c

theorem releaseToFree_eq : s.releaseToFree c cause = (clearing s c cause).freeCtx c := rfl

theorem clearing_standing (d : CtxId) : Standing d s (clearing s c cause) :=
  (stopped_standing s c cause d).trans (releaseHeld_standing _ c d)

theorem clearing_ctx (d : CtxId) : (clearing s c cause).ctx d = if c = d then (s.ctx d).cleared cause else s.ctx d := by
  rw [clearing, State.releaseHeld_ctx, stopped_ctx]

theorem clearing_player (d : CtxId) :
    (clearing s c cause).player d = if c = d then (s.player d).stop else s.player d := by
  rw [clearing, State.releaseHeld_player, stopped, State.setLamp_player, stopCall_player]

theorem clearing_path (d : CtxId) : (clearing s c cause).path d = s.path d := by simp [clearing, stopped]

theorem clearing_waiting : (clearing s c cause).waiting = s.waiting.filter (· != c) := by
  rw [clearing, State.releaseHeld_waiting, stopped, State.setLamp_waiting, stopCall_waiting]

theorem clearing_marks : (clearing s c cause).marks = s.marks := by simp [clearing, stopped]

theorem clearing_trunk (k : Trunk) : (clearing s c cause).trunk k =
    { s.trunk k with channels := ((clearing s c cause).trunk k).channels } := by
  rw [clearing, State.releaseHeld_trunk, stopped, State.setLamp_trunk, stopCall_trunk]

theorem clearing_chan (k : Trunk) (n : ChanId) : (clearing s c cause).chan k n =
    if (s.ctx c).primary = some ⟨k, n⟩ ∨ (s.ctx c).second = some ⟨k, n⟩ then (s.chan k n).release else s.chan k n := by
  have hchan : (clearing s c cause).chan k n = (s.stopCall c cause).chan k n := by
    simp only [clearing, stopped, State.chan, State.releaseHeld_trunk, State.setLamp_trunk]
  rw [hchan, stopCall_chan]

theorem clearing_hands : Hands (IsPick (s.ctx c).loop) s (clearing s c cause) := by
  have hands := releaseHeld_hands (stopped s c cause) c
  rw [(stopped_standing s c cause c).ctx_loop] at hands
  exact (stopped_hands s c cause).trans hands

theorem clearing_loop_of_ne {m : LoopId} (h : m ≠ (s.ctx c).loop) : (clearing s c cause).loop m = s.loop m := by
  rw [clearing, releaseHeld_loop_of_ne, stopped_loop, if_neg fun hl => h hl.2.symm]
  rwa [(stopped_standing s c cause c).ctx_loop]

theorem clearing_loop_eq (m : LoopId) : (clearing s c cause).loop m =
    { s.loop m with map := ((clearing s c cause).loop m).map, bearers := ((clearing s c cause).loop m).bearers } := by
  rw [clearing, releaseHeld_loop_eq, stopped_loop]
  split_ifs
  · rw [cmdSet_eq]
  · rfl

theorem clearing_bearer (b : BearerId) :
    (GivesBack c s b → (clearing s c cause).bearer (s.ctx c).loop b =
      ⟨.releasing, (s.bearer (s.ctx c).loop b).entry⟩) ∧
    (¬ GivesBack c s b → (clearing s c cause).bearer (s.ctx c).loop b = s.bearer (s.ctx c).loop b) := by
  have hbearer := releaseHeld_bearer (stopped s c cause) c b
  rwa [stopped_givesBack, (stopped_standing s c cause c).ctx_loop, stopped_bearer] at hbearer

/-- The entries of the loop of a call that has been cleared. -/
theorem clearing_getElem? (k : Nat) {p : Prop} [Decidable p]
    (hp : p ↔ ∃ b, GivesBack c s b ∧ (s.bearer (s.ctx c).loop b).entry = k + 1) :
    ((clearing s c cause).loop (s.ctx c).loop).map[k]? =
      (s.loop (s.ctx c).loop).map[k]?.map (fun e => { e with cmd := { e.cmd with
        desiredLamp := if (s.keyEntry c).isSome ∧ s.keyPos c = k + 1 then .cleared else e.cmd.desiredLamp
        desiredBearer := if p then none else e.cmd.desiredBearer } }) := by
  have hloop := (stopped_standing s c cause c).ctx_loop
  have hentries := releaseHeld_getElem? (stopped s c cause) c k (p := p) (by
    simpa only [stopped_givesBack, stopped_bearer, hloop] using hp)
  rw [hloop] at hentries
  rw [clearing, hentries, stopped_loop]
  by_cases hentry : (s.keyEntry c).isSome
  · simp only [hentry, true_and, if_true, cmdSet_getElem?, Option.map_map]
    congr 1
    funext e
    simp only [Function.comp_apply]
    split_ifs <;> rfl
  · simp [hentry]

theorem clearing_pickHanded (h : (s.keyEntry c).isSome) : PickHanded (clearing s c cause) (s.ctx c).loop := by
  have hstanding := stopCall_standing s c c cause
  have hpick := setLamp_pickHanded (s.stopCall c cause) (hstanding.keyEntry_isSome.trans h) .cleared
  rw [hstanding.ctx_loop] at hpick
  have hloop : (clearing s c cause).loop (s.ctx c).loop = _ := releaseHeld_loop_eq (stopped s c cause) c (s.ctx c).loop
  exact PickHanded.mono hpick (releaseHeld_hands _ c) (by rw [hloop]; rfl) (by rw [hloop]; rfl) (by rw [hloop]; rfl)

theorem clearing_postCleared : PostCleared c s (clearing s c cause) := by
  refine ⟨clearing_loop_eq s c cause _, ?_, fun k e he => ?_, clearing_bearer s c cause, clearing_pickHanded s c cause⟩
  · obtain ⟨-, -, hplates⟩ := clearing_standing s c cause c
    simpa using congrArg List.length (hplates (s.ctx c).loop)
  · have hk := clearing_getElem? s c cause k (p := ∃ b, ((s.keyEntry c).isSome ∧ (s.ctx c).bearer = some b ∧
      ((s.bearer (s.ctx c).loop b).st = .assigning ∨ (s.bearer (s.ctx c).loop b).st = .live)) ∧
        (s.bearer (s.ctx c).loop b).entry = k + 1) Iff.rfl
    rw [he] at hk
    exact hk

theorem clearing_clearsAtOnce : (clearing s c cause).clearsAtOnce c = true ↔ FreeAtOnce c s := by
  have hstanding := clearing_standing s c cause c
  have hbearer : ((clearing s c cause).ctx c).bearer = (s.ctx c).bearer := by
    rw [clearing_ctx, if_pos rfl]
    rfl
  have hentry : ((clearing s c cause).keyEntry c).isNone = (s.keyEntry c).isNone := by
    rw [← Option.not_isSome, ← Option.not_isSome, hstanding.keyEntry_isSome]
  have hstate : ((clearing s c cause).loop (s.ctx c).loop).state = (s.loop (s.ctx c).loop).state := by
    rw [clearing_loop_eq]
  rw [State.clearsAtOnce, hbearer, hentry, hstanding.ctx_loop, hstate, FreeAtOnce]
  simp [or_assoc]

/-! ### A call cleared (R81, R82) -/

/-- A complete block is judged before a call is cleared (log entry 4). -/
theorem enterClearing_eq : s.enterClearing c cause = if (clearing (s.catchBlock c) c cause).clearsAtOnce c then
    (clearing (s.catchBlock c) c cause).freeCtx c else clearing (s.catchBlock c) c cause := rfl

/-- What the freeing of the context leaves. -/
theorem enterClearing_keeps {β : Type} (g : State → β) (hg : ∀ u : State, g (u.freeCtx c) = g u) :
    g (s.enterClearing c cause) = g (clearing (s.catchBlock c) c cause) := by
  rw [enterClearing_eq]
  split_ifs
  · exact hg _
  · rfl

theorem enterClearing_loop (l : LoopId) :
    (s.enterClearing c cause).loop l = (clearing (s.catchBlock c) c cause).loop l :=
  enterClearing_keeps s c cause (fun u => u.loop l) fun u => u.freeCtx_loop c l

theorem enterClearing_trunk (k : Trunk) :
    (s.enterClearing c cause).trunk k = (clearing (s.catchBlock c) c cause).trunk k :=
  enterClearing_keeps s c cause (fun u => u.trunk k) fun u => u.freeCtx_trunk c k

theorem enterClearing_chan (k : Trunk) (n : ChanId) : (s.enterClearing c cause).chan k n =
    if (s.ctx c).primary = some ⟨k, n⟩ ∨ (s.ctx c).second = some ⟨k, n⟩ then (s.chan k n).release else s.chan k n := by
  have hchan : (s.enterClearing c cause).chan k n = (clearing (s.catchBlock c) c cause).chan k n := by
    simp only [State.chan, enterClearing_trunk]
  have hcatch : (s.catchBlock c).chan k n = s.chan k n := by simp [State.chan]
  rw [hchan, clearing_chan, catchBlock_primary, catchBlock_second, hcatch]

theorem enterClearing_path (d : CtxId) : (s.enterClearing c cause).path d = (s.catchBlock c).path d :=
  (enterClearing_keeps s c cause (fun u => u.path d) fun u => u.freeCtx_path c d).trans (clearing_path _ c cause d)

theorem enterClearing_handed : (s.enterClearing c cause).handed = (clearing (s.catchBlock c) c cause).handed :=
  enterClearing_keeps s c cause State.handed fun u => u.freeCtx_handed c

theorem enterClearing_waiting : (s.enterClearing c cause).waiting = s.waiting.filter (· != c) := by
  have hclear := clearing_waiting (s.catchBlock c) c cause
  rw [State.catchBlock_waiting] at hclear
  rw [enterClearing_eq]
  split_ifs
  · rw [freeCtx_waiting, hclear, List.filter_filter]
    simp
  · exact hclear

theorem enterClearing_player (d : CtxId) :
    (s.enterClearing c cause).player d = if c = d then (s.player d).stop else s.player d := by
  have hclear := clearing_player (s.catchBlock c) c cause d
  rw [State.catchBlock_player] at hclear
  rw [enterClearing_eq]
  split_ifs with hfree hd hd
  · rw [freeCtx_player, if_pos hd, hclear, if_pos hd]
    rfl
  · rw [freeCtx_player, if_neg hd, hclear, if_neg hd]
  · rw [hclear, if_pos hd]
  · rw [hclear, if_neg hd]

theorem enterClearing_ctx_of_ne {d : CtxId} (h : d ≠ c) : (s.enterClearing c cause).ctx d = s.ctx d := by
  rw [enterClearing_keeps s c cause (fun u => u.ctx d) fun u => by rw [freeCtx_ctx, if_neg (Ne.symm h)]]
  rw [clearing_ctx, if_neg (Ne.symm h), (catchBlock_of_ne s h).1]

theorem enterClearing_onlyCall : OnlyCall c s (s.enterClearing c cause) := by
  refine ⟨State.enterClearing_frame s c cause, fun d hd => ⟨enterClearing_ctx_of_ne s c cause hd, ?_, ?_⟩, fun l hl => ?_,
    fun k => ?_, fun k n hprimary hsecond => ?_⟩
  · rw [enterClearing_player, if_neg (Ne.symm hd)]
  · rw [enterClearing_path, (catchBlock_of_ne s hd).2]
  · rw [enterClearing_loop, clearing_loop_of_ne, State.catchBlock_loop]
    rwa [(catchBlock_standing s c c).ctx_loop]
  · rw [enterClearing_trunk, clearing_trunk, State.catchBlock_trunk]
  · rw [enterClearing_chan, if_neg (by simp [hprimary, hsecond])]

theorem enterClearing_postCleared : PostCleared c s (s.enterClearing c cause) := by
  have hstanding := catchBlock_standing s c c
  have hb (b : BearerId) : (s.catchBlock c).bearer (s.ctx c).loop b = s.bearer (s.ctx c).loop b := by
    simp only [State.bearer, State.catchBlock_loop]
  have hpost := clearing_postCleared (s.catchBlock c) c cause
  simp only [PostCleared, hstanding.ctx_loop, hstanding.keyEntry_isSome, hstanding.keyPos, catchBlock_bearer, hb,
    State.catchBlock_loop] at hpost
  obtain ⟨hloop, hlength, hentries, hbearers, hpicked⟩ := hpost
  simp only [← enterClearing_loop] at hloop hlength hentries
  refine ⟨hloop, hlength, hentries, fun b => ?_, fun h => ?_⟩
  · simpa only [State.bearer, enterClearing_loop] using hbearers b
  · simpa only [PickHanded, enterClearing_loop, enterClearing_handed] using hpicked h

theorem freeAtOnce_catchBlock : FreeAtOnce c (s.catchBlock c) ↔ FreeAtOnce c s := by
  have hstanding := catchBlock_standing s c c
  have hentry : (s.catchBlock c).keyEntry c = none ↔ s.keyEntry c = none := by
    rw [← Option.not_isSome_iff_eq_none, ← Option.not_isSome_iff_eq_none, hstanding.keyEntry_isSome]
  rw [FreeAtOnce, FreeAtOnce, catchBlock_bearer, hentry, hstanding.ctx_loop, State.catchBlock_loop]

/-- A call is cleared as R81 and R82 say, whatever state it is in. -/
theorem enterClearing_cleared : Cleared c cause s (s.enterClearing c cause) := by
  have hatonce := (clearing_clearsAtOnce (s.catchBlock c) c cause).trans (freeAtOnce_catchBlock s c)
  refine ⟨enterClearing_onlyCall s c cause, enterClearing_postCleared s c cause, enterClearing_waiting s c cause,
    fun hfree => ?_, fun hfree => ?_, fun g hg => ?_, ?_, enterClearing_path s c cause c, ?_⟩
  · rw [enterClearing_eq, if_pos (hatonce.mpr hfree), freeCtx_ctx_self, clearing_ctx, if_pos rfl, freeCtx_marks,
      clearing_marks, State.catchBlock_marks]
    exact ⟨rfl, rfl⟩
  · rw [enterClearing_eq, if_neg fun h => hfree (hatonce.mp h), clearing_ctx, if_pos rfl, clearing_marks,
      State.catchBlock_marks]
    exact ⟨rfl, rfl⟩
  · rw [enterClearing_chan, if_pos (show _ ∨ _ from hg)]
    exact freedTo_release _
  · rw [enterClearing_player, if_pos rfl]
    rfl
  · rw [enterClearing_handed, ← (catchBlock_standing s c c).ctx_loop]
    exact clearing_hands _ c cause

end

end
end Sys2Proof.CallContexts
end

section
/-! How calls are cleared by their callers, the directory and the desks, and how their bearers are handed on (R70 to R86,
R108). -/

namespace Sys2Proof.CallContexts

open Sys2Proof Sys2Proof.Machine
open Sys2Proof.PostDirectory (modCtx_ctx_eq freeCtx_ctx assignBearer_bearer)

section
variable (s : State)

/-! ### A lamp set (R70) -/

theorem setLampAt_lampSet {i : Instr} {l : LoopId} {pos : Nat} (hpos : pos ≠ 0) (lamp : Lamp) :
    LampSet l pos lamp i s ((s.take i).setLampAt l pos lamp) := by
  refine ⟨⟨?_, fun m hm => ?_⟩, wakeScan_pickHanded _ _, ?_, setLampAt_hands (s.take i) l pos lamp⟩
  · rw [State.setLampAt_frame]
    rfl
  · rw [setLampAt_loop, if_neg (Ne.symm hm)]
    rfl
  · rw [setLampAt_loop, if_pos rfl, cmdSet_of_ne_zero hpos]
    rfl

theorem postCtx_state {l : LoopId} {pos : Nat} {c : CtxId} (h : s.postCtx l pos = some c) : (s.ctx c).state ≠ .free := by
  have hfound := List.find?_some h
  simp only [Bool.and_eq_true, bne_iff_ne] at hfound
  obtain ⟨⟨hst, -⟩, -⟩ := hfound
  exact hst

/-! ### A drop (R70, R78 to R80) -/

section
variable (l : LoopId) (pos : Nat)

theorem noRebuild_callerReport (active : Bool) : NoRebuild (.callerReport l pos active) := by
  rintro _ _ _ _ ⟨⟩

theorem noRebuild_testFailReport : NoRebuild (.testFailReport l pos) := by
  rintro _ _ _ _ ⟨⟩

theorem callerReport_of_none (h : s.postCtx l pos = none) : exec (.callerReport l pos false) s =
    .next ((s.take (.callerReport l pos false)).setLampAt l (s.nowAt l pos) .off) := by
  have h' : (s.take (.callerReport l pos false)).postCtx l pos = none := h
  simp only [exec, execCallerReport, State.callerDropped, h', take_nowAt s (noRebuild_callerReport l pos false)]
  rfl

/-- CALL-ABANDONED is raised as the statements say. -/
theorem abandon_eq (c : CtxId) : s.abandon c l pos =
    s.abandonRaised ((s.sendIfCarried c .caller).enterClearing c .caller) l pos := by
  unfold State.abandon State.abandonRaised
  dsimp only
  cases s.entryAt l (s.nowAt l pos) with
  | none => rfl
  | some e =>
    unfold abandonedRaise
    cases htie : e.tie <;> simp only [Tie.slot?, htie]

theorem abandonRaised_take {i : Instr} (hi : NoRebuild i) (t : State) :
    (s.take i).abandonRaised t l pos = s.abandonRaised t l pos := by
  unfold State.abandonRaised
  rw [take_nowAt s hi]
  rfl

end

theorem sendIfCarried_of_queued {c : CtxId} (h : (s.ctx c).state = .queued) (cause : Cause) : s.sendIfCarried c cause = s := by
  simp [State.sendIfCarried, h]

theorem sendIfCarried_of_ref {c : CtxId} {g : Byte} {k : Trunk}
    (h : (s.ctx c).state = .offered ∨ (s.ctx c).state = .connected ∨ (s.ctx c).state = .held) (hg : (s.ctx c).ref = some g)
    (hk : s.callTrunk c = some k) (cause : Cause) : s.sendIfCarried c cause = s.pushSig k (.cleared c g cause) := by
  have hsend : s.sendCleared c cause = s.pushSig k (.cleared c g cause) := by simp only [State.sendCleared, hg, hk]
  unfold State.sendIfCarried
  rcases h with h | h | h <;> simp only [h, hsend]

/-- A release for the directory of a call that is not CLEARING (R86). -/
theorem releaseByDirectory_eq {c : CtxId} (hfree : (s.ctx c).state ≠ .free) (hclear : (s.ctx c).state ≠ .clearing) :
    s.releaseByDirectory c = (s.sendIfCarried c .directory).enterClearing c .directory := by
  unfold State.releaseByDirectory
  cases hst : (s.ctx c).state <;> simp_all

section
variable {l : LoopId} {pos : Nat} {c : CtxId} (hc : s.postCtx l pos = some c)
include hc

theorem callerDropped_of_waiting (hst : (s.ctx c).state = .queued ∨ (s.ctx c).state = .offered) :
    s.callerDropped l pos = (s.abandon c l pos).dispatch := by
  rcases hst with hst | hst <;> simp only [State.callerDropped, hc, hst]

theorem callerDropped_of_carried (hst : (s.ctx c).state = .connected ∨ (s.ctx c).state = .held) :
    s.callerDropped l pos = ((s.sendIfCarried c .caller).enterClearing c .caller).dispatch := by
  rcases hst with hst | hst <;> simp only [State.callerDropped, hc, hst]

theorem callerDropped_of_clearing (hst : (s.ctx c).state = .clearing) : s.callerDropped l pos = s := by
  simp only [State.callerDropped, hc, hst]

theorem callerReport_of_waiting (hst : (s.ctx c).state = .queued ∨ (s.ctx c).state = .offered) :
    exec (.callerReport l pos false) s = .next (s.abandonRaised
      (((s.take (.callerReport l pos false)).sendIfCarried c .caller).enterClearing c .caller) l pos).dispatch := by
  have hdrop := callerDropped_of_waiting (s.take (.callerReport l pos false)) (l := l) (pos := pos) (c := c) hc hst
  rw [abandon_eq, abandonRaised_take _ _ _ (noRebuild_callerReport l pos false)] at hdrop
  exact congrArg Host.Outcome.next hdrop

theorem callerReport_of_carried (hst : (s.ctx c).state = .connected ∨ (s.ctx c).state = .held) :
    exec (.callerReport l pos false) s =
      .next (((s.take (.callerReport l pos false)).sendIfCarried c .caller).enterClearing c .caller).dispatch :=
  congrArg Host.Outcome.next (callerDropped_of_carried (s.take (.callerReport l pos false)) (l := l) (pos := pos) hc hst)

theorem callerReport_of_clearing (hst : (s.ctx c).state = .clearing) :
    exec (.callerReport l pos false) s = .next (s.take (.callerReport l pos false)) :=
  congrArg Host.Outcome.next (callerDropped_of_clearing (s.take (.callerReport l pos false)) (l := l) (pos := pos) hc hst)

theorem directoryRelease_of_clearing (hst : (s.ctx c).state = .clearing) :
    exec (.directoryRelease l pos) s = .next (s.take (.directoryRelease l pos)) := by
  have hc' : (s.take (.directoryRelease l pos)).postCtx l pos = some c := hc
  simp [exec, execDirectoryRelease, hc', hst]

theorem directoryRelease_of_call (hst : (s.ctx c).state ≠ .clearing) : exec (.directoryRelease l pos) s =
    .next ((((s.take (.directoryRelease l pos)).sendIfCarried c .directory).enterClearing c .directory).dispatch) := by
  have hc' : (s.take (.directoryRelease l pos)).postCtx l pos = some c := hc
  have hrelease := releaseByDirectory_eq (s.take (.directoryRelease l pos)) (postCtx_state s hc) hst
  simp [exec, execDirectoryRelease, hc', hst, hrelease]

theorem testFailReport_of_call : exec (.testFailReport l pos) s = .next (s.take (.testFailReport l pos)) := by
  have hc' : (s.take (.testFailReport l pos)).postCtx l pos = some c := hc
  simp [exec, execTestFailReport, hc']

end

theorem directoryRelease_of_none {l : LoopId} {pos : Nat} (h : s.postCtx l pos = none) :
    exec (.directoryRelease l pos) s = .next (s.take (.directoryRelease l pos)) := by
  have h' : (s.take (.directoryRelease l pos)).postCtx l pos = none := h
  simp only [exec, execDirectoryRelease, h']

theorem testFailReport_of_none {l : LoopId} {pos : Nat} (h : s.postCtx l pos = none) : exec (.testFailReport l pos) s =
    .next ((s.take (.testFailReport l pos)).setLampAt l (s.nowAt l pos) .fault) := by
  have h' : (s.take (.testFailReport l pos)).postCtx l pos = none := h
  simp [exec, execTestFailReport, h', take_nowAt s (noRebuild_testFailReport l pos)]

/-! ### RELEASE (R108) -/

theorem currentCall_eq {t : Trunk} {ref : OfferRef} {c : CtxId} (h : s.current t ref c) : s.currentCall t ref = some c := by
  obtain ⟨hval, href, htrunk⟩ := h
  have hnum : ctxOfNat ref.ctx.toNat = some c := by
    rw [← hval, ctxOfNat, dif_pos c.isLt]
  simp only [State.currentCall, hnum, href, htrunk, and_self, if_true]

theorem release_of_current {t : Trunk} {ref : OfferRef} {c : CtxId} (h : s.current t ref c)
    (hst : (s.ctx c).state = .offered ∨ (s.ctx c).state = .connected ∨ (s.ctx c).state = .held) :
    exec (.release t ref) s = .next ((((s.take (.release t ref)).pushSig t (.confirm ref 0x46 .ok 0)).enterClearing c
      .desk).dispatch) := by
  have hcall : (s.take (.release t ref)).currentCall t ref = some c := currentCall_eq s h
  rcases hst with hst | hst | hst <;>
    simp only [exec, execRelease, State.deskRequest, hcall, State.take_ctx, hst] <;> rfl

/-! ### Bearers handed on (R73) -/

theorem handOn_of_some {l : LoopId} {b : BearerId} {d : CtxId} (hd : s.firstWithout l = some d)
    (hfree : (s.bearer l b).st = .free) (hcarries : (s.loop l).state.carries) : s.handOn l b =
      (s.assignBearer l (s.keyPos d) b).modCtx d (fun x => { x with bearer := some b, liveSeen := false }) := by
  have hassign := (canAssign_iff s l b).mpr ⟨hcarries, hfree⟩
  simp only [State.handOn, hd, hassign, if_true]

theorem handOn_of_not {l : LoopId} {b : BearerId}
    (h : s.firstWithout l = none ∨ (s.bearer l b).st ≠ .free ∨ (s.loop l).state.carries = false) : s.handOn l b = s := by
  unfold State.handOn
  split
  next d hd =>
    refine if_neg fun hassign => ?_
    obtain ⟨hcarries, hfree⟩ := (canAssign_iff s l b).mp hassign
    simp [hd, hfree, hcarries] at h
  next => rfl

theorem firstWithout_keyPos {l : LoopId} {d : CtxId} (h : s.firstWithout l = some d) : s.keyPos d ≠ 0 := by
  have hfound := List.find?_some h
  simp only [Bool.and_eq_true] at hfound
  obtain ⟨-, hentry⟩ := hfound
  obtain ⟨e, he⟩ := Option.isSome_iff_exists.mp hentry
  exact entryAt_ne_zero s (keyEntry_eq_some s he).1

theorem freeHolder_of_some {l : LoopId} {b : BearerId} {c : CtxId}
    (h : s.holder l b (fun x => x.state == .clearing) = some c) : s.freeHolder l b = s.freeCtx c := by
  simp only [State.freeHolder, h]

theorem freeHolder_of_none {l : LoopId} {b : BearerId} (h : s.holder l b (fun x => x.state == .clearing) = none) :
    s.freeHolder l b = s := by
  simp only [State.freeHolder, h]

end

/-- A bearer handed to the first context that waits without one (R71, R73). -/
theorem handOn_given {l : LoopId} {b : BearerId} {u : State} {d : CtxId} (hd : u.firstWithout l = some d)
    (hfree : (u.bearer l b).st = .free) (hcarries : (u.loop l).state.carries) :
    u.handOn l b = { u with
      contexts := (u.handOn l b).contexts, loops := (u.handOn l b).loops, handed := (u.handOn l b).handed } ∧
    (u.handOn l b).ctx d = { u.ctx d with bearer := some b, liveSeen := false } ∧
    (∀ c, c ≠ d → (u.handOn l b).ctx c = u.ctx c) ∧
    (∀ m, m ≠ l → (u.handOn l b).loop m = u.loop m) ∧
    (u.handOn l b).loop l = { u.loop l with
      map := (u.loop l).map.modify (u.keyPos d - 1) (fun e => { e with cmd := { e.cmd with desiredBearer := some b } })
      bearers := (u.loop l).bearers.set b ⟨.assigning, u.keyPos d⟩ } ∧
    PickHanded (u.handOn l b) l ∧
    ∃ more, (u.handOn l b).handed = u.handed ++ more ∧ ∀ i ∈ more, i = .scanPick l := by
  refine ⟨State.handOn_frame u l b, ?_⟩
  rw [handOn_of_some u hd hfree hcarries]
  refine ⟨?_, fun c hc => ?_, fun m hm => ?_, ?_, ?_, ?_⟩
  · rw [State.modCtx_ctx, State.assignBearer_ctx]
  · rw [State.modCtx_ctx_of_ne _ _ _ _ (Ne.symm hc), State.assignBearer_ctx]
  · rw [State.modCtx_loop, assignBearer_loop, if_neg (Ne.symm hm)]
  · rw [State.modCtx_loop, assignBearer_loop, if_pos rfl, cmdSet_of_ne_zero (firstWithout_keyPos u hd)]
  · exact PickHanded.mono (P := IsPick l) (wakeScan_pickHanded _ l) (.of_eq (State.modCtx_handed _ _ _)) rfl rfl rfl
  · exact (assignBearer_hands u l _ b).trans (.of_eq (State.modCtx_handed _ _ _))

/-- The CLEARING holder of a bearer freed (R82, R185). -/
theorem freeCtx_freed (i : Instr) (c : CtxId) (s : State) :
    (s.take i).freeCtx c = { s with
      contexts := ((s.take i).freeCtx c).contexts
      players := ((s.take i).freeCtx c).players
      waiting := s.waiting.filter (· != c)
      marks := s.marks.filter (fun m => m != (9, c.val) && m != (10, c.val))
      handed := s.handed.erase i } ∧
    ((s.take i).freeCtx c).ctx c = (s.ctx c).freed ∧
    ((s.take i).freeCtx c).player c = { s.player c with state := .idle, programme := none, segment := none } ∧
    ∀ d, d ≠ c → ((s.take i).freeCtx c).ctx d = s.ctx d ∧ ((s.take i).freeCtx c).player d = s.player d := by
  have hframe := State.freeCtx_frame (s.take i) c
  rw [freeCtx_waiting, freeCtx_marks] at hframe
  refine ⟨hframe, freeCtx_ctx_self _ c, ?_, fun d hd => ⟨?_, ?_⟩⟩
  · rw [freeCtx_player, if_pos rfl]
    rfl
  · rw [freeCtx_ctx, if_neg (Ne.symm hd)]
    rfl
  · rw [freeCtx_player, if_neg (Ne.symm hd)]
    rfl

/-- What the reports of a post do to the call at it, or to the post where it has none (R70, R78 to R80, R86). -/
theorem post_reports (l : LoopId) (pos : Nat) (s : State) :
    exec (.callerReport l pos true) s = .next { s with handed := s.handed.erase (.callerReport l pos true) } ∧
    (s.postCtx l pos = none →
      exec (.directoryRelease l pos) s = .next { s with handed := s.handed.erase (.directoryRelease l pos) } ∧
      ∀ e, s.entryAt l (s.nowAt l pos) = some e →
        (∃ t : State, exec (.callerReport l pos false) s = .next t ∧
          LampSet l (s.nowAt l pos) .off (.callerReport l pos false) s t) ∧
        ∃ t : State, exec (.testFailReport l pos) s = .next t ∧
          LampSet l (s.nowAt l pos) .fault (.testFailReport l pos) s t) := by
  refine ⟨rfl, fun hnone => ⟨directoryRelease_of_none s hnone, fun e he => ⟨?_, ?_⟩⟩⟩
  · exact ⟨_, callerReport_of_none s l pos hnone, setLampAt_lampSet s (entryAt_ne_zero s he) .off⟩
  · exact ⟨_, testFailReport_of_none s hnone, setLampAt_lampSet s (entryAt_ne_zero s he) .fault⟩

/-- The call at a post after a drop, and after an invalidation of its entry (R78 to R80, R86). -/
theorem call_reports {l : LoopId} {pos : Nat} {s : State} {c : CtxId} (hc : s.postCtx l pos = some c) {g : Byte} {k : Trunk}
    (hg : (s.ctx c).ref = some g) (hk : s.callTrunk c = some k)
    (hst : (s.ctx c).state = .offered ∨ (s.ctx c).state = .connected ∨ (s.ctx c).state = .held) :
    (∃ t : State, Cleared c .caller ((s.take (.callerReport l pos false)).pushSig k (.cleared c g .caller)) t ∧
      exec (.callerReport l pos false) s =
        .next (if (s.ctx c).state = .offered then s.abandonRaised t l pos else t).dispatch) ∧
    ∃ t : State, Cleared c .directory ((s.take (.directoryRelease l pos)).pushSig k (.cleared c g .directory)) t ∧
      exec (.directoryRelease l pos) s = .next t.dispatch := by
  refine ⟨⟨_, enterClearing_cleared _ c .caller, ?_⟩, ⟨_, enterClearing_cleared _ c .directory, ?_⟩⟩
  · have hsend := sendIfCarried_of_ref (s.take (.callerReport l pos false)) hst hg hk .caller
    rw [← hsend]
    split_ifs with hoffered
    · exact callerReport_of_waiting s hc (.inr hoffered)
    · exact callerReport_of_carried s hc (hst.resolve_left hoffered)
  · have hclear : (s.ctx c).state ≠ .clearing := by rcases hst with h | h | h <;> simp [h]
    rw [directoryRelease_of_call s hc hclear, sendIfCarried_of_ref (s.take (.directoryRelease l pos)) hst hg hk]

/-- Settles O27: every clearing is one `enterClearing`, whose effects `enterClearing_cleared` gives. -/
theorem callsAreClearedAndTheirBearersHandedOn : Obligations.CallsAreClearedAndTheirBearersHandedOn := by
  refine ⟨fun l pos s => ?_, fun t ref c s hcurrent hst => ?_, fun l b s => ?_⟩
  · obtain ⟨hactive, hnone⟩ := post_reports l pos s
    refine ⟨hactive, hnone, fun c hc => ⟨testFailReport_of_call s hc, fun hst => ⟨?_, ?_⟩, fun hst => ⟨?_, ?_⟩,
      fun g k hg hk hst => call_reports hc hg hk hst⟩⟩
    · exact callerReport_of_clearing s hc hst
    · exact directoryRelease_of_clearing s hc hst
    · refine ⟨_, enterClearing_cleared _ c .caller, ?_⟩
      rw [callerReport_of_waiting s hc (.inl hst), sendIfCarried_of_queued (s.take (.callerReport l pos false)) hst]
    · refine ⟨_, enterClearing_cleared _ c .directory, ?_⟩
      rw [directoryRelease_of_call s hc (by simp [hst]), sendIfCarried_of_queued (s.take (.directoryRelease l pos)) hst]
  · exact ⟨_, enterClearing_cleared _ c .desk, release_of_current s hcurrent hst⟩
  · refine ⟨(s.take (.bearerFreeReport l b)).freeHolder l b, ((s.take (.bearerFreeReport l b)).freeHolder l b).handOn l b, rfl,
      fun hnone => ?_, fun c hc => ?_, fun d hd hfree hcarries => handOn_given hd hfree hcarries,
      fun hnot => handOn_of_not _ hnot⟩
    · exact freeHolder_of_none (s.take (.bearerFreeReport l b)) hnone
    · rw [freeHolder_of_some (s.take (.bearerFreeReport l b)) hc]
      exact freeCtx_freed _ c s

end Sys2Proof.CallContexts
end

section
/-! The report of a loop that has left RUN and DEGRADED: every call of the loop is freed (R83, R85). -/

namespace Sys2Proof.CallContexts

open Sys2Proof Sys2Proof.Machine
open Sys2Proof.PostDirectory (freeCtx_ctx pushSig_trunk take_room_append carried release_release freedTo_release mem_ctxsOn
  nodup_ctxsOn)

/-! ### Acknowledgements withdrawn (R83) -/

/-- What a release of calls never undoes in a command record. -/
def KeepsWithdrawn (f : CmdRec → CmdRec) : Prop := ∀ r : CmdRec,
  (r.ackReq = false → (f r).ackReq = false) ∧ (r.desiredLamp = .cleared → (f r).desiredLamp = .cleared)

/-- Of the entries of a loop only command records have changed, and no withdrawal has been undone. -/
def Eased (L M : Loop) : Prop := ∀ k : Nat, ∃ f : CmdRec → CmdRec, KeepsWithdrawn f ∧
  M.map[k]? = L.map[k]?.map (fun e => { e with cmd := f e.cmd })

theorem Eased.rfl {L : Loop} : Eased L L := fun k => ⟨id, fun _ => ⟨id, id⟩, by simp⟩

theorem Eased.trans {L M N : Loop} (h : Eased L M) (h' : Eased M N) : Eased L N := fun k => by
  obtain ⟨f, hf, hk⟩ := h k
  obtain ⟨g, hg, hk'⟩ := h' k
  refine ⟨fun r => g (f r), fun r => ⟨fun ha => (hg _).1 ((hf r).1 ha), fun hl => (hg _).2 ((hf r).2 hl)⟩, ?_⟩
  rw [hk', hk, Option.map_map]
  rfl

theorem eased_cmdSet {f : CmdRec → CmdRec} (hf : KeepsWithdrawn f) (pos : Nat) (L : Loop) : Eased L (cmdSet pos f L) :=
  fun k => ⟨fun r => if pos = k + 1 then f r else r, fun r => by split_ifs; exacts [hf r, ⟨id, id⟩], cmdSet_getElem? pos f L k⟩

theorem Eased.plates_ties {L M : Loop} (h : Eased L M) :
    M.map.map (fun e => (e.plate, e.tie)) = L.map.map (fun e => (e.plate, e.tie)) := by
  apply List.ext_getElem?
  intro k
  obtain ⟨f, -, hk⟩ := h k
  rw [List.getElem?_map, List.getElem?_map, hk, Option.map_map]
  rfl

theorem withdrawn_mono {c : CtxId} {s t u : State} (h : Withdrawn c s t) (heased : ∀ m, Eased (t.loop m) (u.loop m)) :
    Withdrawn c s u := fun e he => by
  obtain ⟨e', he', hack, hlamp⟩ := h e he
  have hpos := entryAt_ne_zero t he'
  obtain ⟨f, hf, hk⟩ := heased (s.ctx c).loop (s.keyPos c - 1)
  rw [entryAt_eq t hpos] at he'
  rw [he'] at hk
  exact ⟨_, (entryAt_eq u hpos _).trans hk, (hf _).1 hack, fun hst => (hf _).2 (hlamp hst)⟩

theorem withdrawn_of_standing {c : CtxId} {s t u : State} (hstanding : Standing c s t) (hctx : t.ctx c = s.ctx c)
    (h : Withdrawn c t u) : Withdrawn c s u := fun e he => by
  obtain ⟨e', he'⟩ := Option.isSome_iff_exists.mp (hstanding.keyEntry_isSome.trans (by rw [he]; rfl))
  have hdone := h e' he'
  rwa [hctx, hstanding.keyPos] at hdone

section
variable (s : State) (cause : Cause)

/-! ### One call released (R83, R85) -/

/-- A context after a loop's release. -/
def afterLoop (x : Ctx) : Ctx := (if x.state = .clearing then x else x.cleared cause).freed

/-- The call is released, and was not being cleared before. -/
def Cut (x : Ctx) : Prop := x.state ≠ .free ∧ x.state ≠ .clearing

/-- The CLEARED that a context's release puts on a trunk's queue (R83, R110). -/
def loopMessage (k : Trunk) (c : CtxId) : Option SigMsg :=
  if s.callTrunk c = some k ∧ carried (s.ctx c) then (s.ctx c).ref.map (fun g => .cleared c g cause) else none

/-- What a loop's release hands. -/
def IsLoopEvent (l : LoopId) (i : Instr) : Prop := i = .scanPick l ∨ ∃ k, i = .faultLatch (.trunk k .sigError)

theorem noRebuild_of_isLoopEvent {l : LoopId} {i : Instr} (h : IsLoopEvent l i) : NoRebuild i := by
  rintro _ _ _ _ rfl
  rcases h with h | ⟨k, h⟩ <;> cases h

section
variable (c : CtxId)

theorem sendIfCarried_trunk (k : Trunk) : (s.sendIfCarried c cause).trunk k = { s.trunk k with
    sigQueue := (s.trunk k).sigQueue ++ (loopMessage s cause k c).toList.take (64 - (s.trunk k).sigQueue.length) } := by
  by_cases hcarried : carried (s.ctx c)
  · have hsend : s.sendIfCarried c cause = s.sendCleared c cause := by
      unfold State.sendIfCarried
      cases hst : (s.ctx c).state <;> simp [carried, hst] at hcarried ⊢
    rw [hsend, State.sendCleared, loopMessage]
    cases href : (s.ctx c).ref with
    | none => simp
    | some g =>
      cases hk : s.callTrunk c with
      | none => simp
      | some t =>
        dsimp only
        rw [pushSig_trunk]
        by_cases ht : t = k <;> simp [ht, hcarried]
  · have hquiet : s.sendIfCarried c cause = s := by
      unfold State.sendIfCarried
      cases hst : (s.ctx c).state <;> simp [carried, hst] at hcarried ⊢
    have hnone : loopMessage s cause k c = none := by simp [loopMessage, hcarried]
    rw [hquiet, hnone]
    simp

theorem sendIfCarried_hands (l : LoopId) : Hands (IsLoopEvent l) s (s.sendIfCarried c cause) := by
  have hsend : Hands (IsLoopEvent l) s (s.sendCleared c cause) := by
    unfold State.sendCleared
    split
    · exact (pushSig_hands s _ _).mono fun i hi => .inr ⟨_, hi⟩
    · exact .of_eq rfl
  unfold State.sendIfCarried
  split
  · exact hsend
  · exact hsend
  · exact hsend
  · exact .of_eq rfl

/-- A call that a loop's release is about to cut: CLEARED made and the acknowledgement withdrawn (R83). -/
def told : State := (s.sendIfCarried c cause).withdrawAck c

/-- A release for the loop, by the state of the call (R83, R85). -/
theorem releaseByLoop_cases : ((s.ctx c).state = .free ∧ s.releaseByLoop c cause = s) ∨
    ((s.ctx c).state = .clearing ∧ s.releaseByLoop c cause = (s.withdrawAck c).freeCtx c) ∨
    (Cut (s.ctx c) ∧ s.releaseByLoop c cause = (clearing (told s cause c) c cause).freeCtx c) := by
  unfold State.releaseByLoop Cut
  cases (s.ctx c).state
  case free => exact .inl ⟨rfl, rfl⟩
  case clearing => exact .inr (.inl ⟨rfl, rfl⟩)
  all_goals exact .inr (.inr ⟨by simp, rfl⟩)

theorem told_ctx (d : CtxId) : (told s cause c).ctx d = s.ctx d := by rw [told, State.withdrawAck_ctx, State.sendIfCarried_ctx]

theorem sendIfCarried_standing (d : CtxId) : Standing d s (s.sendIfCarried c cause) :=
  .of_loops (sendIfCarried_hands s cause c 0) (fun _ => noRebuild_of_isLoopEvent) (by rw [State.sendIfCarried_ctx])
    fun l => by simp

theorem told_standing (d : CtxId) : Standing d s (told s cause c) :=
  (sendIfCarried_standing s cause c d).trans (withdrawAck_standing _ c d)

theorem told_loop (m : LoopId) : (told s cause c).loop m = if (s.keyEntry c).isSome ∧ (s.ctx c).loop = m then
    cmdSet (s.keyPos c) (fun r => { r with ackReq := false }) (s.loop m) else s.loop m := by
  have hstanding := sendIfCarried_standing s cause c c
  rw [told, withdrawAck_loop, hstanding.keyEntry_isSome, hstanding.ctx_loop, hstanding.keyPos, State.sendIfCarried_loop]

theorem told_bearer (l : LoopId) (b : BearerId) : (told s cause c).bearer l b = s.bearer l b := by
  simp only [State.bearer, told_loop]
  split_ifs
  · simp only [cmdSet_bearers]
  · rfl

theorem told_givesBack (b : BearerId) : GivesBack c (told s cause c) b ↔ GivesBack c s b := by
  have hstanding := told_standing s cause c c
  rw [GivesBack, GivesBack, hstanding.keyEntry_isSome, told_ctx, told_bearer]

theorem releaseByLoop_ctx (d : CtxId) : (s.releaseByLoop c cause).ctx d =
    if c = d ∧ (s.ctx d).state ≠ .free then afterLoop cause (s.ctx d) else s.ctx d := by
  rcases releaseByLoop_cases s cause c with ⟨hst, h⟩ | ⟨hst, h⟩ | ⟨⟨hfree, hclear⟩, h⟩
  · rw [h, if_neg]
    rintro ⟨rfl, hd⟩
    exact hd hst
  · rw [h, freeCtx_ctx, State.withdrawAck_ctx]
    by_cases hd : c = d
    · subst hd; simp [afterLoop, hst, Ctx.freed]
    · simp [hd]
  · rw [h, freeCtx_ctx, clearing_ctx, told_ctx]
    by_cases hd : c = d
    · subst hd; simp [afterLoop, hclear, hfree, Ctx.freed]
    · simp [hd]

theorem releaseByLoop_ctx_of_ne {d : CtxId} (h : d ≠ c) : (s.releaseByLoop c cause).ctx d = s.ctx d := by
  rw [releaseByLoop_ctx, if_neg fun hd => h hd.1.symm]

theorem releaseByLoop_player (d : CtxId) : (s.releaseByLoop c cause).player d =
    if c = d ∧ (s.ctx c).state ≠ .free then (s.player d).stop else s.player d := by
  rcases releaseByLoop_cases s cause c with ⟨hst, h⟩ | ⟨hst, h⟩ | ⟨⟨hfree, -⟩, h⟩
  · simp [h, hst]
  · simp [h, hst, freeCtx_player]
  · rw [h, freeCtx_player, clearing_player]
    by_cases hd : c = d
    · simp [hd, hd ▸ hfree, Player.stop, told]
    · simp [hd, told]

theorem mem_releaseByLoop_waiting (d : CtxId) :
    d ∈ (s.releaseByLoop c cause).waiting ↔ d ∈ s.waiting ∧ ¬ (d = c ∧ (s.ctx c).state ≠ .free) := by
  rcases releaseByLoop_cases s cause c with ⟨hst, h⟩ | ⟨hst, h⟩ | ⟨⟨hfree, -⟩, h⟩
  · simp [h, hst]
  · simp [h, hst, freeCtx_waiting]
  · simp [h, hfree, freeCtx_waiting, clearing_waiting, told]

theorem mem_releaseByLoop_marks (m : Nat × Nat) : m ∈ (s.releaseByLoop c cause).marks ↔
    m ∈ s.marks ∧ ((s.ctx c).state ≠ .free → m ≠ (9, c.val) ∧ m ≠ (10, c.val)) := by
  rcases releaseByLoop_cases s cause c with ⟨hst, h⟩ | ⟨hst, h⟩ | ⟨⟨hfree, -⟩, h⟩
  · simp [h, hst]
  · simp [h, hst, freeCtx_marks]
  · simp [h, hfree, freeCtx_marks, clearing_marks, told]

theorem releaseByLoop_trunk (k : Trunk) : (s.releaseByLoop c cause).trunk k = { s.trunk k with
    channels := ((s.releaseByLoop c cause).trunk k).channels
    sigQueue := (s.trunk k).sigQueue ++ (loopMessage s cause k c).toList.take (64 - (s.trunk k).sigQueue.length) } := by
  have hquiet (h : carried (s.ctx c) = false) : loopMessage s cause k c = none := by simp [loopMessage, h]
  rcases releaseByLoop_cases s cause c with ⟨hst, h⟩ | ⟨hst, h⟩ | ⟨-, h⟩
  · simp [h, hquiet (by simp [carried, hst])]
  · simp [h, hquiet (by simp [carried, hst])]
  · rw [h, State.freeCtx_trunk, clearing_trunk, told, State.withdrawAck_trunk, sendIfCarried_trunk]

/-- The release of a call lets go of a channel. -/
def CutsLeg (x : Ctx) (g : Leg) : Prop := Cut x ∧ x.hasLeg g

theorem releaseByLoop_chan (k : Trunk) (n : ChanId) :
    (CutsLeg (s.ctx c) ⟨k, n⟩ → (s.releaseByLoop c cause).chan k n = (s.chan k n).release) ∧
    (¬ CutsLeg (s.ctx c) ⟨k, n⟩ → (s.releaseByLoop c cause).chan k n = s.chan k n) := by
  have hfreed (u : State) : (u.freeCtx c).chan k n = u.chan k n := by simp [State.chan]
  rcases releaseByLoop_cases s cause c with ⟨hst, h⟩ | ⟨hst, h⟩ | ⟨hcut, h⟩
  · exact ⟨fun hc => absurd hst hc.1.1, fun _ => by rw [h]⟩
  · exact ⟨fun hc => absurd hst hc.1.2, fun _ => by simp [h, State.chan]⟩
  · have htold : (told s cause c).chan k n = s.chan k n := by
      simp only [State.chan, told, State.withdrawAck_trunk, sendIfCarried_trunk]
    rw [h, hfreed, clearing_chan, told_ctx, htold]
    exact ⟨fun hc => if_pos hc.2, fun hc => if_neg fun hleg => hc ⟨hcut, hleg⟩⟩

theorem releaseByLoop_loop_of_ne {m : LoopId} (hm : m ≠ (s.ctx c).loop) : (s.releaseByLoop c cause).loop m = s.loop m := by
  rcases releaseByLoop_cases s cause c with ⟨-, h⟩ | ⟨-, h⟩ | ⟨-, h⟩
  · rw [h]
  · rw [h, State.freeCtx_loop, withdrawAck_loop, if_neg fun hl => hm hl.2.symm]
  · rw [h, State.freeCtx_loop, clearing_loop_of_ne _ _ _ (by rwa [told_ctx]), told_loop, if_neg fun hl => hm hl.2.symm]

theorem releaseByLoop_loop_eq (m : LoopId) : (s.releaseByLoop c cause).loop m = { s.loop m with
    map := ((s.releaseByLoop c cause).loop m).map, bearers := ((s.releaseByLoop c cause).loop m).bearers } := by
  rcases releaseByLoop_cases s cause c with ⟨-, h⟩ | ⟨-, h⟩ | ⟨-, h⟩
  · rw [h]
  · rw [h, State.freeCtx_loop, withdrawAck_loop]
    split_ifs
    · rw [cmdSet_eq]
    · rfl
  · rw [h, State.freeCtx_loop, clearing_loop_eq, told_loop]
    split_ifs
    · rw [cmdSet_eq]
    · rfl

theorem releaseByLoop_hands : Hands (IsLoopEvent (s.ctx c).loop) s (s.releaseByLoop c cause) := by
  rcases releaseByLoop_cases s cause c with ⟨-, h⟩ | ⟨-, h⟩ | ⟨-, h⟩
  · exact .of_eq (by rw [h])
  · exact .of_eq (by simp [h])
  · have hclear := clearing_hands (told s cause c) c cause
    rw [told_ctx] at hclear
    have htold : Hands (IsLoopEvent (s.ctx c).loop) s (told s cause c) :=
      (sendIfCarried_hands s cause c _).trans (.of_eq (by simp [told]))
    rw [h]
    exact (htold.trans (hclear.mono fun i => .inl)).trans (.of_eq (State.freeCtx_handed _ _))

/-! ### The entries and the bearers of the loop -/

theorem freeCtx_standing (d : CtxId) : Standing d s (s.freeCtx c) := by
  refine .of_loops (.of_eq (P := IsPick 0) (s.freeCtx_handed c)) (fun _ => noRebuild_of_isPick) ?_ fun l => s.freeCtx_loop c l
  rw [freeCtx_ctx]
  split_ifs <;> rfl

theorem releaseByLoop_standing (d : CtxId) : Standing d s (s.releaseByLoop c cause) := by
  rcases releaseByLoop_cases s cause c with ⟨-, h⟩ | ⟨-, h⟩ | ⟨-, h⟩
  · rw [h]
    exact .of_loops (.of_eq (P := IsPick 0) rfl) (fun _ => noRebuild_of_isPick) rfl fun _ => rfl
  · rw [h]
    exact (withdrawAck_standing s c d).trans (freeCtx_standing _ c d)
  · rw [h]
    exact ((told_standing s cause c d).trans (clearing_standing _ c cause d)).trans (freeCtx_standing _ c d)

theorem withdrawAck_eased (m : LoopId) : Eased (s.loop m) ((s.withdrawAck c).loop m) := by
  rw [withdrawAck_loop]
  split_ifs
  · refine eased_cmdSet ?_ _ _
    exact fun _ => ⟨fun _ => rfl, id⟩
  · exact .rfl

theorem told_eased (m : LoopId) : Eased (s.loop m) ((told s cause c).loop m) := by
  have h := withdrawAck_eased (s.sendIfCarried c cause) c m
  rwa [State.sendIfCarried_loop] at h

theorem clearing_eased (m : LoopId) : Eased (s.loop m) ((clearing s c cause).loop m) := fun k => by
  classical
  by_cases hm : m = (s.ctx c).loop
  · subst hm
    have hk := clearing_getElem? s c cause k Iff.rfl
    refine ⟨fun r => { r with
      desiredLamp := if (s.keyEntry c).isSome ∧ s.keyPos c = k + 1 then .cleared else r.desiredLamp
      desiredBearer := if ∃ b, GivesBack c s b ∧ (s.bearer (s.ctx c).loop b).entry = k + 1 then none else r.desiredBearer },
      fun r => ⟨id, fun hr => ?_⟩, hk⟩
    dsimp only
    rw [hr, ite_self]
  · rw [clearing_loop_of_ne s c cause hm]
    exact Eased.rfl k

theorem releaseByLoop_eased (m : LoopId) : Eased (s.loop m) ((s.releaseByLoop c cause).loop m) := by
  rcases releaseByLoop_cases s cause c with ⟨-, h⟩ | ⟨-, h⟩ | ⟨-, h⟩
  · rw [h]
    exact .rfl
  · rw [h, State.freeCtx_loop]
    exact withdrawAck_eased s c m
  · rw [h, State.freeCtx_loop]
    exact (told_eased s cause c m).trans (clearing_eased _ cause c m)

/-- The entry of a post whose acknowledgement has been withdrawn. -/
theorem withdrawAck_entry {e : MapEntry} (he : s.keyEntry c = some e) :
    ∃ e', (s.withdrawAck c).entryAt (s.ctx c).loop (s.keyPos c) = some e' ∧ e'.cmd.ackReq = false := by
  obtain ⟨hentry, -⟩ := keyEntry_eq_some s he
  have hpos := entryAt_ne_zero s hentry
  rw [entryAt_eq s hpos] at hentry
  rw [entryAt_eq _ hpos, withdrawAck_loop, if_pos ⟨by rw [he]; rfl, rfl⟩, cmdSet_getElem?, hentry]
  refine ⟨_, rfl, ?_⟩
  dsimp only
  rw [if_pos (by omega)]

theorem clearing_entry {e : MapEntry} {pos : Nat} (he : s.entryAt (s.ctx c).loop pos = some e) (hpos : s.keyPos c = pos)
    (hsome : (s.keyEntry c).isSome) : ∃ e', (clearing s c cause).entryAt (s.ctx c).loop pos = some e' ∧
      e'.cmd.ackReq = e.cmd.ackReq ∧ e'.cmd.desiredLamp = .cleared := by
  classical
  have hne := entryAt_ne_zero s he
  rw [entryAt_eq s hne] at he
  rw [entryAt_eq _ hne, clearing_getElem? s c cause (pos - 1) Iff.rfl, he]
  exact ⟨_, rfl, rfl, if_pos ⟨hsome, by omega⟩⟩

theorem releaseByLoop_withdrawn (hfree : (s.ctx c).state ≠ .free) : Withdrawn c s (s.releaseByLoop c cause) := fun e he => by
  rcases releaseByLoop_cases s cause c with ⟨hst, -⟩ | ⟨hst, h⟩ | ⟨-, h⟩
  · exact absurd hst hfree
  · obtain ⟨e', he', hack⟩ := withdrawAck_entry s c he
    have hfreed : (s.releaseByLoop c cause).entryAt (s.ctx c).loop (s.keyPos c) = some e' := by
      rw [h]; simpa [State.entryAt] using he'
    exact ⟨e', hfreed, hack, fun hne => absurd hst hne⟩
  · have hstanding := told_standing s cause c c
    have hsent : Standing c s (s.sendIfCarried c cause) := sendIfCarried_standing s cause c c
    obtain ⟨e₁, he₁⟩ := Option.isSome_iff_exists.mp (hsent.keyEntry_isSome.trans (by rw [he]; rfl))
    obtain ⟨e₂, he₂, hack⟩ := withdrawAck_entry _ c he₁
    rw [hsent.ctx_loop, hsent.keyPos] at he₂
    obtain ⟨e', he', hack', hlamp⟩ := clearing_entry (told s cause c) cause c (by rwa [hstanding.ctx_loop]) hstanding.keyPos
      (hstanding.keyEntry_isSome.trans (by rw [he]; rfl))
    have hfreed : (s.releaseByLoop c cause).entryAt (s.ctx c).loop (s.keyPos c) = some e' := by
      rw [h, ← hstanding.ctx_loop]; simpa [State.entryAt] using he'
    exact ⟨e', hfreed, hack'.trans hack, fun _ => hlamp⟩

/-- The release of a call lets go of a bearer. -/
def LetsGo (s : State) (b : BearerId) (c : CtxId) : Prop :=
  Cut (s.ctx c) ∧ (s.ctx c).bearer = some b ∧ (s.keyEntry c).isSome

/-- A bearer may be released (R25). -/
def Given (x : Bearer) : Prop := x.st = .assigning ∨ x.st = .live

theorem releaseByLoop_bearer (b : BearerId) :
    (Given (s.bearer (s.ctx c).loop b) ∧ LetsGo s b c → (s.releaseByLoop c cause).bearer (s.ctx c).loop b =
      ⟨.releasing, (s.bearer (s.ctx c).loop b).entry⟩) ∧
    (¬ (Given (s.bearer (s.ctx c).loop b) ∧ LetsGo s b c) →
      (s.releaseByLoop c cause).bearer (s.ctx c).loop b = s.bearer (s.ctx c).loop b) := by
  have hfreed (u : State) (m : LoopId) : (u.freeCtx c).bearer m b = u.bearer m b := by
    simp only [State.bearer, State.freeCtx_loop]
  rcases releaseByLoop_cases s cause c with ⟨hst, h⟩ | ⟨hst, h⟩ | ⟨hcut, h⟩
  · exact ⟨fun hb => absurd hst hb.2.1.1, fun _ => by rw [h]⟩
  · refine ⟨fun hb => absurd hst hb.2.1.2, fun _ => ?_⟩
    rw [h, hfreed]
    simp only [State.bearer, withdrawAck_loop]
    split_ifs
    · simp only [cmdSet_bearers]
    · rfl
  · have hclear := clearing_bearer (told s cause c) c cause b
    rw [told_givesBack, told_ctx, told_bearer] at hclear
    obtain ⟨hgive, hkeep⟩ := hclear
    rw [h, hfreed]
    refine ⟨fun ⟨hgiven, _, hb, hsome⟩ => hgive ⟨hsome, hb, hgiven⟩, fun hnot => hkeep fun ⟨hsome, hb, hgiven⟩ => ?_⟩
    exact hnot ⟨hgiven, hcut, hb, hsome⟩

end
end
end Sys2Proof.CallContexts
end

section
/-! The calls of a loop released one after another, and the report of the loop's state as a whole (R83, R85). -/

namespace Sys2Proof.CallContexts

open Sys2Proof Sys2Proof.Machine
open Sys2Proof.PostDirectory (take_room_append carried release_release freedTo_release mem_ctxsOn nodup_ctxsOn)

section
variable (cause : Cause)

/-- Calls released one after another. -/
def releaseAll (cs : List CtxId) (s : State) : State := cs.foldl (fun s c => s.releaseByLoop c cause) s

theorem releaseAll_cons (c : CtxId) (cs : List CtxId) (s : State) :
    releaseAll cause (c :: cs) s = releaseAll cause cs (s.releaseByLoop c cause) := rfl

/-- The release of one call leaves the contexts still to come. -/
theorem releaseByLoop_ctx_of_mem {c d : CtxId} {cs : List CtxId} (hc : c ∉ cs) (hd : d ∈ cs) (s : State) :
    (s.releaseByLoop c cause).ctx d = s.ctx d :=
  releaseByLoop_ctx_of_ne s cause c fun h => hc (h ▸ hd)

theorem releaseAll_eased (cs : List CtxId) (s : State) (m : LoopId) : Eased (s.loop m) ((releaseAll cause cs s).loop m) := by
  induction cs generalizing s with
  | nil => exact .rfl
  | cons c cs ih => exact (releaseByLoop_eased s cause c m).trans (ih _)

theorem releaseAll_loop_eq (cs : List CtxId) (s : State) (m : LoopId) : (releaseAll cause cs s).loop m = { s.loop m with
    map := ((releaseAll cause cs s).loop m).map, bearers := ((releaseAll cause cs s).loop m).bearers } := by
  induction cs generalizing s with
  | nil => rfl
  | cons c cs ih => exact (ih _).trans (by rw [releaseByLoop_loop_eq]; rfl)

section
variable {cs : List CtxId} {l : LoopId}

theorem releaseAll_hands {s : State} (hloop : ∀ c ∈ cs, (s.ctx c).loop = l) :
    Hands (IsLoopEvent l) s (releaseAll cause cs s) := by
  induction cs generalizing s with
  | nil => exact .of_eq rfl
  | cons c cs ih =>
    have hands := releaseByLoop_hands s cause c
    rw [hloop c List.mem_cons_self] at hands
    exact hands.trans (ih fun d hd => (releaseByLoop_standing s cause c d).ctx_loop.trans (hloop d (List.mem_cons_of_mem _ hd)))

theorem releaseAll_loop_of_ne {s : State} (hloop : ∀ c ∈ cs, (s.ctx c).loop = l) {m : LoopId} (hm : m ≠ l) :
    (releaseAll cause cs s).loop m = s.loop m := by
  induction cs generalizing s with
  | nil => rfl
  | cons c cs ih =>
    rw [releaseAll_cons, ih fun d hd =>
      (releaseByLoop_standing s cause c d).ctx_loop.trans (hloop d (List.mem_cons_of_mem _ hd))]
    exact releaseByLoop_loop_of_ne s cause c (by rwa [hloop c List.mem_cons_self])

end

section
variable {cs : List CtxId} (hnd : cs.Nodup)
include hnd

theorem releaseAll_ctx (s : State) (d : CtxId) : (releaseAll cause cs s).ctx d =
    if d ∈ cs ∧ (s.ctx d).state ≠ .free then afterLoop cause (s.ctx d) else s.ctx d := by
  induction cs generalizing s with
  | nil => rfl
  | cons c cs ih =>
    obtain ⟨hc, hcs⟩ := List.nodup_cons.mp hnd
    rw [releaseAll_cons, ih hcs, releaseByLoop_ctx]
    by_cases hcd : c = d
    · subst hcd; simp [hc]
    · simp [hcd, Ne.symm hcd]

theorem releaseAll_player (s : State) (d : CtxId) : (releaseAll cause cs s).player d =
    if d ∈ cs ∧ (s.ctx d).state ≠ .free then (s.player d).stop else s.player d := by
  induction cs generalizing s with
  | nil => rfl
  | cons c cs ih =>
    obtain ⟨hc, hcs⟩ := List.nodup_cons.mp hnd
    rw [releaseAll_cons, ih hcs, releaseByLoop_player, releaseByLoop_ctx]
    by_cases hcd : c = d
    · subst hcd; simp [hc]
    · simp [hcd, Ne.symm hcd]

theorem mem_releaseAll_waiting (s : State) (d : CtxId) :
    d ∈ (releaseAll cause cs s).waiting ↔ d ∈ s.waiting ∧ ¬ (d ∈ cs ∧ (s.ctx d).state ≠ .free) := by
  induction cs generalizing s with
  | nil => simp [releaseAll]
  | cons c cs ih =>
    obtain ⟨hc, hcs⟩ := List.nodup_cons.mp hnd
    rw [releaseAll_cons, ih hcs, mem_releaseByLoop_waiting, releaseByLoop_ctx]
    by_cases hcd : c = d
    · subst hcd; simp [hc]
    · simp [hcd, Ne.symm hcd]

theorem notMem_releaseAll_marks {s : State} {d : CtxId} (hd : d ∈ cs) (hfree : (s.ctx d).state ≠ .free) :
    (9, d.val) ∉ (releaseAll cause cs s).marks ∧ (10, d.val) ∉ (releaseAll cause cs s).marks := by
  have hkeep (ds : List CtxId) (u : State) (m : Nat × Nat) (hm : m ∉ u.marks) : m ∉ (releaseAll cause ds u).marks := by
    induction ds generalizing u with
    | nil => exact hm
    | cons c ds ih => exact ih _ fun h => hm ((mem_releaseByLoop_marks u cause c m).mp h).1
  induction cs generalizing s with
  | nil => cases hd
  | cons c cs ih =>
    obtain ⟨hc, hcs⟩ := List.nodup_cons.mp hnd
    rcases List.mem_cons.mp hd with rfl | hd
    · refine ⟨hkeep cs _ _ fun h => ?_, hkeep cs _ _ fun h => ?_⟩
      · exact (((mem_releaseByLoop_marks s cause d _).mp h).2 hfree).1 rfl
      · exact (((mem_releaseByLoop_marks s cause d _).mp h).2 hfree).2 rfl
    · exact ih hcs hd (by rwa [releaseByLoop_ctx_of_mem cause hc hd])

theorem releaseAll_withdrawn {s : State} {d : CtxId} (hd : d ∈ cs) (hfree : (s.ctx d).state ≠ .free) :
    Withdrawn d s (releaseAll cause cs s) := by
  induction cs generalizing s with
  | nil => cases hd
  | cons c cs ih =>
    obtain ⟨hc, hcs⟩ := List.nodup_cons.mp hnd
    rcases List.mem_cons.mp hd with rfl | hd
    · exact withdrawn_mono (releaseByLoop_withdrawn s cause d hfree) (releaseAll_eased cause cs _)
    · have hctx := releaseByLoop_ctx_of_mem cause hc hd s
      exact withdrawn_of_standing (releaseByLoop_standing s cause c d) hctx (ih hcs hd (by rwa [hctx]))

theorem releaseAll_trunk (s : State) (k : Trunk) : (releaseAll cause cs s).trunk k = { s.trunk k with
    channels := ((releaseAll cause cs s).trunk k).channels
    sigQueue := (s.trunk k).sigQueue ++
      (cs.filterMap (loopMessage s cause k)).take (64 - (s.trunk k).sigQueue.length) } := by
  induction cs generalizing s with
  | nil => simp [releaseAll]
  | cons c cs ih =>
    obtain ⟨hc, hcs⟩ := List.nodup_cons.mp hnd
    have hrest : cs.filterMap (loopMessage (s.releaseByLoop c cause) cause k) = cs.filterMap (loopMessage s cause k) :=
      List.filterMap_congr fun d hd => by
        unfold loopMessage State.callTrunk
        rw [releaseByLoop_ctx_of_mem cause hc hd]
    have hcons : (c :: cs).filterMap (loopMessage s cause k) =
        (loopMessage s cause k c).toList ++ cs.filterMap (loopMessage s cause k) := by
      cases h : loopMessage s cause k c <;> simp [h]
    have hqueue : ((s.releaseByLoop c cause).trunk k).sigQueue = (s.trunk k).sigQueue ++
        (loopMessage s cause k c).toList.take (64 - (s.trunk k).sigQueue.length) := by rw [releaseByLoop_trunk]
    rw [releaseAll_cons, ih hcs, hrest, hcons, hqueue, take_room_append, releaseByLoop_trunk]

theorem releaseAll_chan (s : State) (k : Trunk) (n : ChanId) :
    ((∃ c ∈ cs, CutsLeg (s.ctx c) ⟨k, n⟩) → (releaseAll cause cs s).chan k n = (s.chan k n).release) ∧
    ((¬ ∃ c ∈ cs, CutsLeg (s.ctx c) ⟨k, n⟩) → (releaseAll cause cs s).chan k n = s.chan k n) := by
  induction cs generalizing s with
  | nil => exact ⟨fun ⟨_, h, _⟩ => absurd h (List.not_mem_nil), fun _ => rfl⟩
  | cons c cs ih =>
    obtain ⟨hc, hcs⟩ := List.nodup_cons.mp hnd
    obtain ⟨hcut, hkeep⟩ := ih hcs (s.releaseByLoop c cause)
    obtain ⟨hcut', hkeep'⟩ := releaseByLoop_chan s cause c k n
    have hrest : (∃ d ∈ cs, CutsLeg ((s.releaseByLoop c cause).ctx d) ⟨k, n⟩) ↔ ∃ d ∈ cs, CutsLeg (s.ctx d) ⟨k, n⟩ :=
      exists_congr fun d => and_congr_right fun hd => by rw [releaseByLoop_ctx_of_mem cause hc hd]
    rw [hrest] at hcut hkeep
    rw [releaseAll_cons, List.exists_mem_cons_iff]
    by_cases hfirst : CutsLeg (s.ctx c) ⟨k, n⟩
    · refine ⟨fun _ => ?_, fun h => absurd (.inl hfirst) h⟩
      by_cases hlater : ∃ d ∈ cs, CutsLeg (s.ctx d) ⟨k, n⟩
      · rw [hcut hlater, hcut' hfirst, release_release]
      · rw [hkeep hlater, hcut' hfirst]
    · rw [← hkeep' hfirst]
      exact ⟨fun h => hcut (h.resolve_left hfirst), fun h => hkeep fun hlater => h (.inr hlater)⟩

theorem releaseAll_bearer {l : LoopId} {s : State} (hloop : ∀ c ∈ cs, (s.ctx c).loop = l) (b : BearerId) :
    (Given (s.bearer l b) ∧ (∃ c ∈ cs, LetsGo s b c) →
      (releaseAll cause cs s).bearer l b = ⟨.releasing, (s.bearer l b).entry⟩) ∧
    (¬ (Given (s.bearer l b) ∧ ∃ c ∈ cs, LetsGo s b c) → (releaseAll cause cs s).bearer l b = s.bearer l b) := by
  induction cs generalizing s with
  | nil => exact ⟨fun ⟨_, _, h, _⟩ => absurd h (List.not_mem_nil), fun _ => rfl⟩
  | cons c cs ih =>
    obtain ⟨hc, hcs⟩ := List.nodup_cons.mp hnd
    obtain ⟨hcut, hkeep⟩ := ih hcs (s := s.releaseByLoop c cause) fun d hd =>
      (releaseByLoop_standing s cause c d).ctx_loop.trans (hloop d (List.mem_cons_of_mem _ hd))
    have hrest : (∃ d ∈ cs, LetsGo (s.releaseByLoop c cause) b d) ↔ ∃ d ∈ cs, LetsGo s b d :=
      exists_congr fun d => and_congr_right fun hd => by
        rw [LetsGo, LetsGo, releaseByLoop_ctx_of_mem cause hc hd, (releaseByLoop_standing s cause c d).keyEntry_isSome]
    obtain ⟨hcut', hkeep'⟩ := releaseByLoop_bearer s cause c b
    rw [hloop c List.mem_cons_self] at hcut' hkeep'
    rw [hrest] at hcut hkeep
    rw [releaseAll_cons, List.exists_mem_cons_iff]
    by_cases hfirst : Given (s.bearer l b) ∧ LetsGo s b c
    · have hreleasing := hcut' hfirst
      have hgone : ¬ Given ((s.releaseByLoop c cause).bearer l b) := by simp [Given, hreleasing]
      refine ⟨fun _ => ?_, fun h => absurd ⟨hfirst.1, .inl hfirst.2⟩ h⟩
      rw [hkeep fun h => hgone h.1, hreleasing]
    · rw [hkeep' hfirst] at hcut hkeep
      refine ⟨fun ⟨hgiven, h⟩ => hcut ⟨hgiven, h.resolve_left fun hlets => hfirst ⟨hgiven, hlets⟩⟩, fun h => hkeep ?_⟩
      exact fun ⟨hgiven, hlater⟩ => h ⟨hgiven, .inr hlater⟩

end

/-! ### The report of the loop's state (R85) -/

/-- The contexts of the loop, as the report is taken, in ascending order. -/
theorem filterMap_loopMessage (s : State) (l : LoopId) (k : Trunk) : (s.ctxsOn l).filterMap (loopMessage s cause k) =
    (allCtxs.filter (fun c => (s.ctx c).loop == l && s.callTrunk c == some k &&
      ((s.ctx c).state == .offered || (s.ctx c).state == .connected || (s.ctx c).state == .held))).filterMap
        (fun c => (s.ctx c).ref.map (fun g => .cleared c g cause)) := by
  rw [State.ctxsOn, List.filterMap_filter, List.filterMap_filter]
  refine List.filterMap_congr fun c _ => ?_
  by_cases hloop : (s.ctx c).loop = l
  · by_cases hsend : s.callTrunk c = some k ∧ carried (s.ctx c)
    · obtain ⟨htrunk, hcarried⟩ := hsend
      have hfree : (s.ctx c).state ≠ .free := fun h => by simp [carried, h] at hcarried
      have hstates := hcarried
      rw [carried] at hstates
      simp [loopMessage, hloop, htrunk, hcarried, hfree, hstates]
    · have hnot : ¬ (s.callTrunk c == some k &&
          ((s.ctx c).state == .offered || (s.ctx c).state == .connected || (s.ctx c).state == .held)) := by
        simpa [carried] using hsend
      simp [loopMessage, hsend, hloop, hnot]
  · simp [hloop]

end

theorem noRebuild_loopStateReport (l : LoopId) (st : LoopState) : NoRebuild (.loopStateReport l st) := fun _ _ _ _ => by simp

section
variable (l : LoopId) (st : LoopState) (cause : Cause) (s : State)

/-- The report taken and every call of the loop released, before dispatch (`exec_loopStateReport_releases`). -/
def loopReleased : State := releaseAll cause (s.ctxsOn l) (s.take (.loopStateReport l st))

theorem exec_loopStateReport_releases (h : releaseCause st = some cause) :
    exec (.loopStateReport l st) s = .next (loopReleased l st cause s).dispatch := by
  change execLoopStateReport l st s = _
  simp only [execLoopStateReport, h]
  rfl

theorem ctxsOn_loop : ∀ c ∈ s.ctxsOn l, (s.ctx c).loop = l := fun _ hc => ((mem_ctxsOn s).mp hc).2

theorem take_report_standing (c : CtxId) : Standing c s (s.take (.loopStateReport l st)) :=
  ⟨passesDue_take s (noRebuild_loopStateReport l st), rfl, fun _ => rfl⟩

/-- A call of the loop that has been released (R82, R83, R185). -/
theorem loopReleased_freed {c : CtxId} (hfree : (s.ctx c).state ≠ .free) (hl : (s.ctx c).loop = l) :
    (loopReleased l st cause s).ctx c = afterLoop cause (s.ctx c) ∧
    (loopReleased l st cause s).player c = (s.player c).stop ∧ c ∉ (loopReleased l st cause s).waiting ∧
    (9, c.val) ∉ (loopReleased l st cause s).marks ∧ (10, c.val) ∉ (loopReleased l st cause s).marks ∧
    Withdrawn c s (loopReleased l st cause s) ∧ ((s.ctx c).state ≠ .clearing → ∀ g, (s.ctx c).hasLeg g →
      FreedTo (s.chan g.trunk g.chan) ((loopReleased l st cause s).chan g.trunk g.chan)) := by
  have hnd := nodup_ctxsOn s l
  have hmem : c ∈ s.ctxsOn l := (mem_ctxsOn s).mpr ⟨hfree, hl⟩
  obtain ⟨hcleared, hlong⟩ := notMem_releaseAll_marks (s := s.take (.loopStateReport l st)) cause hnd hmem hfree
  refine ⟨?_, ?_, fun h => ?_, hcleared, hlong, ?_, fun hclear g hg => ?_⟩
  · exact (releaseAll_ctx cause hnd _ c).trans (if_pos ⟨hmem, hfree⟩)
  · exact (releaseAll_player cause hnd _ c).trans (if_pos ⟨hmem, hfree⟩)
  · exact ((mem_releaseAll_waiting cause hnd _ c).mp h).2 ⟨hmem, hfree⟩
  · exact withdrawn_of_standing (take_report_standing l st s c) rfl
      (releaseAll_withdrawn (s := s.take _) cause hnd hmem hfree)
  · rw [loopReleased, (releaseAll_chan cause hnd (s.take _) g.trunk g.chan).1 ⟨c, hmem, ⟨hfree, hclear⟩, hg⟩]
    exact freedTo_release _

theorem loopReleased_others {c : CtxId} (h : (s.ctx c).state = .free ∨ (s.ctx c).loop ≠ l) :
    (loopReleased l st cause s).ctx c = s.ctx c ∧ (loopReleased l st cause s).player c = s.player c ∧
    (c ∈ (loopReleased l st cause s).waiting ↔ c ∈ s.waiting) := by
  have hnd := nodup_ctxsOn s l
  have hout : ¬ (c ∈ s.ctxsOn l ∧ (s.ctx c).state ≠ .free) := fun ⟨hmem, hfree⟩ =>
    h.elim hfree fun hne => hne (ctxsOn_loop l s c hmem)
  refine ⟨?_, ?_, ?_⟩
  · exact (releaseAll_ctx cause hnd _ c).trans (if_neg hout)
  · exact (releaseAll_player cause hnd _ c).trans (if_neg hout)
  · exact (mem_releaseAll_waiting cause hnd _ c).trans (and_iff_left hout)

theorem loopReleased_bearer (b : BearerId) : (loopReleased l st cause s).bearer l b =
    if ((s.bearer l b).st = .assigning ∨ (s.bearer l b).st = .live) ∧
        ∃ c, (s.ctx c).state ≠ .free ∧ (s.ctx c).state ≠ .clearing ∧ (s.ctx c).loop = l ∧
          (s.ctx c).bearer = some b ∧ (s.keyEntry c).isSome then ⟨.releasing, (s.bearer l b).entry⟩
    else s.bearer l b := by
  have hlets : (∃ c ∈ s.ctxsOn l, LetsGo (s.take (.loopStateReport l st)) b c) ↔
      ∃ c, (s.ctx c).state ≠ .free ∧ (s.ctx c).state ≠ .clearing ∧ (s.ctx c).loop = l ∧ (s.ctx c).bearer = some b ∧
        (s.keyEntry c).isSome := by
    refine exists_congr fun c => ?_
    rw [mem_ctxsOn, LetsGo, (take_report_standing l st s c).keyEntry_isSome, State.take_ctx, Cut]
    tauto
  obtain ⟨hgiven, hkept⟩ :=
    releaseAll_bearer (s := s.take (.loopStateReport l st)) cause (nodup_ctxsOn s l) (ctxsOn_loop l s) b
  rw [hlets] at hgiven hkept
  split_ifs with hb
  · exact hgiven hb
  · exact hkept hb

theorem loopReleased_chan {k : Trunk} {n : ChanId} (h : ∀ c, (s.ctx c).hasLeg ⟨k, n⟩ →
      (s.ctx c).state = .free ∨ (s.ctx c).state = .clearing ∨ (s.ctx c).loop ≠ l) :
    (loopReleased l st cause s).chan k n = s.chan k n :=
  (releaseAll_chan cause (nodup_ctxsOn s l) (s.take _) k n).2 fun ⟨c, hc, ⟨hfree, hclear⟩, hleg⟩ =>
    (h c hleg).elim hfree fun h => h.elim hclear fun hne => hne (ctxsOn_loop l s c hc)

end

/-- Settles O30: every call of the loop is released once (`releaseAll`), and what each release leaves adds up. -/
theorem loopStateReportFreesTheCallsOfTheLoop : Obligations.LoopStateReportFreesTheCallsOfTheLoop := by
  refine ⟨fun l st cause s hcause => ?_, fun l st s hst => ?_⟩
  · have hrelease : releaseCause st = some cause := by
      rcases hcause with ⟨rfl, rfl⟩ | ⟨rfl | rfl, rfl⟩ <;> rfl
    refine ⟨loopReleased l st cause s, exec_loopStateReport_releases l st cause s hrelease,
      (s.take _).foldl_releaseByLoop_frame cause _, fun c hfree hl => loopReleased_freed l st cause s hfree hl,
      fun c hc => loopReleased_others l st cause s hc, fun m hm => ?_, releaseAll_loop_eq cause _ _ l,
      (releaseAll_eased cause _ _ l).plates_ties, loopReleased_bearer l st cause s, fun k => ?_,
      fun k n => loopReleased_chan l st cause s, releaseAll_hands cause (ctxsOn_loop l s)⟩
    · exact releaseAll_loop_of_ne (s := s.take _) cause (ctxsOn_loop l s) hm
    · rw [← filterMap_loopMessage cause s l k]
      exact releaseAll_trunk cause (nodup_ctxsOn s l) _ k
  · rcases hst with rfl | rfl | rfl <;> rfl

end Sys2Proof.CallContexts
end
